-- ==== Sys2Proof/Word.lean ====
section
/-! DEFINITION. The word types of the TXM-8840 model.

A register word is 32 bits (00 R6), a published field is little-endian in bytes (00 R2), and a quantity the manual
gives as binary32 or binary64 is held as its bit pattern.  The module's own clocks (OPT in nanoseconds, TICK) are
natural numbers that a register read narrows to the register's width. -/

namespace Sys2Proof

/-- One byte. -/
abbrev Byte := BitVec 8
/-- A 16-bit field: the width of the manual's event counters. -/
abbrev W16 := BitVec 16
/-- A register word (00 R6). -/
abbrev Word := BitVec 32
/-- A binary32 quantity, as its bit pattern. -/
abbrev F32 := BitVec 32
/-- A binary64 quantity, as its bit pattern. -/
abbrev F64 := BitVec 64
/-- An instant on OPT, in nanoseconds (11 R294). -/
abbrev Opt := Nat

end Sys2Proof
end

