-- ==== Sys2Proof/Machine/Bits.lean ====
section
/-! DEFINITION. Bit fields, saturating counters, little-endian byte readers and the indexed reads and updates that every
block of the model uses. -/

namespace Sys2Proof.Machine

/-- The element at `i`, or the type's default where the index lies outside (no register is read that way: the callers
check the unit number first). -/
def rd {α : Type} {n : Nat} [Inhabited α] (v : Vector α n) (i : Nat) : α := v[i]?.getD default

/-- `v` with element `i` changed by `f`; unchanged where `i` is no index. -/
def upd {α : Type} {n : Nat} (v : Vector α n) (i : Nat) (f : α → α) : Vector α n :=
  if h : i < n then v.set i (f v[i]) else v

/-- `v` with element `i` set to `x`. -/
def put {α : Type} {n : Nat} (v : Vector α n) (i : Nat) (x : α) : Vector α n := upd v i fun _ => x

/-- A counter one higher, holding its all-ones value instead of wrapping (01 R19). -/
def satInc {w : Nat} (c : BitVec w) : BitVec w := if c = BitVec.allOnes w then c else c + 1

/-- A counter higher by `k`, holding its all-ones value. -/
def satAdd {w : Nat} (c : BitVec w) (k : Nat) : BitVec w :=
  if c.toNat + k < 2 ^ w then BitVec.ofNat w (c.toNat + k) else BitVec.allOnes w

/-- A natural number narrowed to `w` bits, holding the all-ones value when it does not fit. -/
def satNat (w : Nat) (k : Nat) : BitVec w := satAdd 0 k

/-- An integer limited to the closed range `lo … hi`. -/
def clampInt (lo hi x : Int) : Int := if x < lo then lo else if hi < x then hi else x

/-- A number limited to the closed range `lo … hi`. -/
def clampNat (lo hi x : Nat) : Nat := if x < lo then lo else if hi < x then hi else x

/-- The field of `len` bits of `x` that begins at bit `start`. -/
def field (x : Word) (start len : Nat) : Nat := x.toNat / 2 ^ start % 2 ^ len

/-- Bit `i` of `x`. -/
def bit (x : Word) (i : Nat) : Bool := x.getLsbD i

/-- The word that holds `k` in the field of `len` bits at `start`, the rest zero. -/
def place (k start len : Nat) : Word := BitVec.ofNat 32 (k % 2 ^ len * 2 ^ start)

/-- The word that holds the flag `b` at bit `start`. -/
def flag (b : Bool) (start : Nat) : Word := if b then BitVec.ofNat 32 (2 ^ start) else 0

/-- The word read from a list of fields, each put in place by `place` or `flag`. -/
def orAll : List Word → Word
  | [] => 0
  | x :: xs => x ||| orAll xs

/-- Low 32 bits of a number. -/
def lo32 (k : Nat) : Word := BitVec.ofNat 32 k
/-- Bits 32 to 63 of a number. -/
def hi32 (k : Nat) : Word := BitVec.ofNat 32 (k / 2 ^ 32)

/-- A signed integer as a word of two's complement. -/
def ofInt32 (k : Int) : Word := BitVec.ofInt 32 k

/-- The numbers below `n` whose bit of `m` is set, in rising order. -/
def setBits (m : Nat) (n : Nat) : List Nat := (List.range n).filter fun i => m.testBit i

/-- Byte `o` of a byte string; 0 beyond its end. -/
def u8 (b : List Byte) (o : Nat) : Nat := (b.getD o 0).toNat
/-- The little-endian 16-bit field at `o` (00 R2). -/
def u16 (b : List Byte) (o : Nat) : Nat := u8 b o + 256 * u8 b (o + 1)
/-- The little-endian 32-bit field at `o`. -/
def u32 (b : List Byte) (o : Nat) : Nat := u16 b o + 65536 * u16 b (o + 2)
/-- The little-endian 64-bit field at `o`. -/
def u64 (b : List Byte) (o : Nat) : Nat := u32 b o + 2 ^ 32 * u32 b (o + 4)
/-- The signed 8-bit field at `o`. -/
def i8 (b : List Byte) (o : Nat) : Int := (BitVec.ofNat 8 (u8 b o)).toInt
/-- The signed 16-bit field at `o`. -/
def i16 (b : List Byte) (o : Nat) : Int := (BitVec.ofNat 16 (u16 b o)).toInt
/-- The signed 32-bit field at `o`. -/
def i32 (b : List Byte) (o : Nat) : Int := (BitVec.ofNat 32 (u32 b o)).toInt
/-- The signed 64-bit field at `o`. -/
def i64 (b : List Byte) (o : Nat) : Int := (BitVec.ofNat 64 (u64 b o)).toInt
/-- The binary32 field at `o`. -/
def f32At (b : List Byte) (o : Nat) : F32 := BitVec.ofNat 32 (u32 b o)
/-- The binary64 field at `o`. -/
def f64At (b : List Byte) (o : Nat) : F64 := BitVec.ofNat 64 (u64 b o)
/-- Bytes `o … o + len − 1`. -/
def span (b : List Byte) (o len : Nat) : List Byte := (b.drop o).take len

/-- `k` as `n` little-endian bytes. -/
def leBytes : Nat → Nat → List Byte
  | 0, _ => []
  | n + 1, k => BitVec.ofNat 8 k :: leBytes n (k / 256)

/-- `k` as `n` big-endian bytes. -/
def beBytes (n k : Nat) : List Byte := (leBytes n k).reverse

/-- The number that a list of big-endian bytes spells. -/
def beNat (b : List Byte) : Nat := b.foldl (fun a x => a * 256 + x.toNat) 0

/-- Whether every byte is zero. -/
def allZero (b : List Byte) : Bool := b.all fun x => x == 0

/-- The value listed under key `k`. -/
def lookupN {α : Type} (l : List (Nat × α)) (k : Nat) : Option α :=
  (l.find? fun p => p.1 == k).map fun p => p.2

/-- The list with key `k` bound to `v`, kept in rising order of keys. -/
def bindN {α : Type} : List (Nat × α) → Nat → α → List (Nat × α)
  | [], k, v => [(k, v)]
  | (j, w) :: t, k, v => if k < j then (k, v) :: (j, w) :: t else if k = j then (k, v) :: t else (j, w) :: bindN t k v

/-- The list without key `k`. -/
def dropN {α : Type} (l : List (Nat × α)) (k : Nat) : List (Nat × α) := l.filter fun p => p.1 != k

/-- Every element of a vector with its index, changed by `f`. -/
def mapIdxV {α : Type} {n : Nat} (v : Vector α n) (f : Nat → α → α) : Vector α n :=
  Vector.ofFn fun i => f i.val v[i]

/-- Rounding to the nearest integer, ties away from zero, of the quotient of a number by a positive number. -/
def divRound (a b : Nat) : Nat := if b = 0 then 0 else (2 * a + b) / (2 * b)

/-- Rounding to nearest, ties away from zero, of a signed quotient. -/
def divRoundI (a : Int) (b : Nat) : Int :=
  if a < 0 then -(Int.ofNat (divRound a.natAbs b)) else Int.ofNat (divRound a.natAbs b)

end Sys2Proof.Machine
end

