-- ==== Sys2Proof/Machine/Float.lean ====
section
/-! DEFINITION. Binary floating point on bit patterns: binary32 and binary64, round to nearest, ties to even, as IEEE 754
defines them and as the manual's computations in binary32 and binary64 use them.  A finite number is held exactly
as ± m · 2^e, so that every operation is one exact result and one rounding. -/

namespace Sys2Proof.Machine

/-- A binary floating-point value unpacked: `fin neg m e` is ± m · 2^e. -/
inductive Fp where
  | nan
  | inf (neg : Bool)
  | fin (neg : Bool) (m : Nat) (e : Int)
deriving DecidableEq, Repr

/-- A binary interchange format: `p` bits of significand, exponents of the last place from `elo`, and `ebits` exponent bits. -/
structure Fmt where
  p : Nat
  ebits : Nat
deriving DecidableEq, Repr

/-- binary32. -/
def fmt32 : Fmt := ⟨24, 8⟩
/-- binary64. -/
def fmt64 : Fmt := ⟨53, 11⟩

/-- The exponent of the last place of a subnormal number. -/
def Fmt.elo (f : Fmt) : Int := 3 - (2 ^ (f.ebits - 1) : Nat) - (f.p : Int)

/-- The value that a bit pattern stands for. -/
def fpUnpack (f : Fmt) (w : Nat) : Fp :=
  let frac := w % 2 ^ (f.p - 1)
  let ex := w / 2 ^ (f.p - 1) % 2 ^ f.ebits
  let neg := w.testBit (f.p - 1 + f.ebits)
  if ex = 2 ^ f.ebits - 1 then (if frac = 0 then .inf neg else .nan)
  else if ex = 0 then .fin neg frac f.elo
  else .fin neg (frac + 2 ^ (f.p - 1)) (f.elo + (ex - 1 : Nat))

/-- `m` divided by `2 ^ d`, rounded to nearest, ties to even. -/
def shiftRne (m d : Nat) : Nat :=
  let q := m / 2 ^ d
  let r := m % 2 ^ d
  if 2 * r < 2 ^ d then q else if 2 ^ d < 2 * r then q + 1 else if q % 2 = 0 then q else q + 1

/-- The bit pattern of the sign. -/
def fpSign (f : Fmt) (neg : Bool) : Nat := if neg then 2 ^ (f.p - 1 + f.ebits) else 0

/-- The bit pattern of ± m · 2^e, rounded to nearest, ties to even; an overflow gives infinity. -/
def fpRound (f : Fmt) (neg : Bool) (m : Nat) (e : Int) : Nat :=
  if m = 0 then fpSign f neg else
  let lsb : Int := max (e + (m.log2 + 1 : Nat) - (f.p : Int)) f.elo
  let m1 := if lsb ≤ e then m * 2 ^ (e - lsb).toNat else shiftRne m (lsb - e).toNat
  let (m2, lsb2) := if m1 = 2 ^ f.p then (2 ^ (f.p - 1), lsb + 1) else (m1, lsb)
  if m2 < 2 ^ (f.p - 1) then fpSign f neg + m2
  else
    let ex := (lsb2 - f.elo + 1).toNat
    if 2 ^ f.ebits - 1 ≤ ex then fpSign f neg + (2 ^ f.ebits - 1) * 2 ^ (f.p - 1)
    else fpSign f neg + ex * 2 ^ (f.p - 1) + (m2 - 2 ^ (f.p - 1))

/-- The quiet NaN that the manual writes: 0x7FC0_0000 in binary32. -/
def fpNan (f : Fmt) : Nat := (2 ^ f.ebits - 1) * 2 ^ (f.p - 1) + 2 ^ (f.p - 2)

/-- The bit pattern of a value. -/
def fpPack (f : Fmt) : Fp → Nat
  | .nan => fpNan f
  | .inf neg => fpSign f neg + (2 ^ f.ebits - 1) * 2 ^ (f.p - 1)
  | .fin neg m e => fpRound f neg m e

/-- A sum before rounding. -/
def fpAdd : Fp → Fp → Fp
  | .nan, _ => .nan
  | _, .nan => .nan
  | .inf a, .inf b => if a = b then .inf a else .nan
  | .inf a, .fin _ _ _ => .inf a
  | .fin _ _ _, .inf b => .inf b
  | .fin a m e, .fin b n g =>
    let lo := min e g
    let x : Int := (m * 2 ^ (e - lo).toNat : Nat)
    let y : Int := (n * 2 ^ (g - lo).toNat : Nat)
    let s := (if a then -x else x) + (if b then -y else y)
    if s = 0 then .fin (a && b) 0 lo else .fin (decide (s < 0)) s.natAbs lo

/-- The value with its sign changed. -/
def fpNeg : Fp → Fp
  | .nan => .nan
  | .inf a => .inf (!a)
  | .fin a m e => .fin (!a) m e

/-- A product before rounding. -/
def fpMul : Fp → Fp → Fp
  | .nan, _ => .nan
  | _, .nan => .nan
  | .inf a, .inf b => .inf (a != b)
  | .inf a, .fin b n _ => if n = 0 then .nan else .inf (a != b)
  | .fin a m _, .inf b => if m = 0 then .nan else .inf (a != b)
  | .fin a m e, .fin b n g => .fin (a != b) (m * n) (e + g)

/-- A quotient with enough places, its last bit marking a remainder, so that one rounding gives the exact quotient's. -/
def fpDiv (f : Fmt) : Fp → Fp → Fp
  | .nan, _ => .nan
  | _, .nan => .nan
  | .inf _, .inf _ => .nan
  | .inf a, .fin b _ _ => .inf (a != b)
  | .fin a _ e, .inf b => .fin (a != b) 0 e
  | .fin a m e, .fin b n g =>
    if n = 0 then (if m = 0 then .nan else .inf (a != b))
    else
      let k := f.p + 3 + (n.log2 + 1)
      let q := m * 2 ^ k / n
      let r := m * 2 ^ k % n
      .fin (a != b) (2 * q + (if r = 0 then 0 else 1)) (e - g - (k : Int) - 1)

/-- Whether the first value lies below the second; false where either is NaN. -/
def fpLt : Fp → Fp → Bool
  | .nan, _ => false
  | _, .nan => false
  | .inf a, .inf b => a && !b
  | .inf a, .fin _ _ _ => a
  | .fin _ _ _, .inf b => !b
  | .fin a m e, .fin b n g =>
    let lo := min e g
    let x : Int := (m * 2 ^ (e - lo).toNat : Nat)
    let y : Int := (n * 2 ^ (g - lo).toNat : Nat)
    decide ((if a then -x else x) < (if b then -y else y))

/-- Whether two values are equal numbers; false where either is NaN. -/
def fpEq (x y : Fp) : Bool :=
  match x, y with
  | .nan, _ => false
  | _, .nan => false
  | x, y => !fpLt x y && !fpLt y x

/-- The largest integer not above a finite value; 0 for the rest. -/
def fpFloor : Fp → Int
  | .fin a m e =>
    let x : Int := m
    let s := if a then -x else x
    if 0 ≤ e then s * (2 ^ e.toNat : Nat) else s / (2 ^ (-e).toNat : Nat)
  | _ => 0

/-- The nearest integer to a finite value, ties to even; 0 for the rest. -/
def fpNearest : Fp → Int
  | .fin a m e =>
    let x : Int := if 0 ≤ e then (m * 2 ^ e.toNat : Nat) else (shiftRne m (-e).toNat : Nat)
    if a then -x else x
  | _ => 0

/-- The value `num / den` of a rational number, with its rounding left to one step. -/
def fpRat (f : Fmt) (num : Int) (den : Nat) : Fp :=
  fpDiv f (.fin (decide (num < 0)) num.natAbs 0) (.fin false den 0)

/-! ### binary32 -/

/-- The value of a binary32 bit pattern. -/
def fv (x : F32) : Fp := fpUnpack fmt32 x.toNat
/-- The binary32 nearest to a value. -/
def f32 (v : Fp) : F32 := BitVec.ofNat 32 (fpPack fmt32 v)
def fadd (a b : F32) : F32 := f32 (fpAdd (fv a) (fv b))
def fsub (a b : F32) : F32 := f32 (fpAdd (fv a) (fpNeg (fv b)))
def fmul (a b : F32) : F32 := f32 (fpMul (fv a) (fv b))
def fdiv (a b : F32) : F32 := f32 (fpDiv fmt32 (fv a) (fv b))
def fneg (a : F32) : F32 := f32 (fpNeg (fv a))
def flt (a b : F32) : Bool := fpLt (fv a) (fv b)
def fle (a b : F32) : Bool := fpLt (fv a) (fv b) || fpEq (fv a) (fv b)
def feq (a b : F32) : Bool := fpEq (fv a) (fv b)
/-- The magnitude of a binary32 number. -/
def fabs (a : F32) : F32 := match fv a with
  | .fin _ m e => f32 (.fin false m e)
  | .inf _ => f32 (.inf false)
  | .nan => f32 .nan
/-- The binary32 nearest to an integer. -/
def fOfInt (k : Int) : F32 := f32 (.fin (decide (k < 0)) k.natAbs 0)
/-- The binary32 nearest to `num / den`. -/
def fRat (num : Int) (den : Nat) : F32 := f32 (fpRat fmt32 num den)
/-- The quiet NaN 0x7FC0_0000. -/
def fNaN : F32 := 0x7FC00000
/-- Zero. -/
def fZero : F32 := 0
/-- Whether a bit pattern is a NaN. -/
def fIsNaN (a : F32) : Bool := decide (fv a = .nan)
/-- Whether a bit pattern is a finite number. -/
def fIsFin (a : F32) : Bool := match fv a with
  | .fin _ _ _ => true
  | _ => false
/-- The nearest integer, ties to even. -/
def fToInt (a : F32) : Int := fpNearest (fv a)
/-- The largest integer not above. -/
def fFloorInt (a : F32) : Int := fpFloor (fv a)
/-- `x` limited to `lo … hi` (a NaN stays as it is). -/
def fclamp (lo hi x : F32) : F32 := if flt x lo then lo else if flt hi x then hi else x
def fmin2 (a b : F32) : F32 := if flt b a then b else a
def fmax2 (a b : F32) : F32 := if flt a b then b else a
/-- 1.0. -/
def fOne : F32 := 0x3F800000

/-! ### binary64 -/

/-- The value of a binary64 bit pattern. -/
def dv (x : F64) : Fp := fpUnpack fmt64 x.toNat
/-- The binary64 nearest to a value. -/
def f64 (v : Fp) : F64 := BitVec.ofNat 64 (fpPack fmt64 v)
def dadd (a b : F64) : F64 := f64 (fpAdd (dv a) (dv b))
def dsub (a b : F64) : F64 := f64 (fpAdd (dv a) (fpNeg (dv b)))
def dmul (a b : F64) : F64 := f64 (fpMul (dv a) (dv b))
def ddiv (a b : F64) : F64 := f64 (fpDiv fmt64 (dv a) (dv b))
def dneg (a : F64) : F64 := f64 (fpNeg (dv a))
def dlt (a b : F64) : Bool := fpLt (dv a) (dv b)
def dle (a b : F64) : Bool := fpLt (dv a) (dv b) || fpEq (dv a) (dv b)
def dOfInt (k : Int) : F64 := f64 (.fin (decide (k < 0)) k.natAbs 0)
def dRat (num : Int) (den : Nat) : F64 := f64 (fpRat fmt64 num den)
/-- A binary32 number in binary64, which is exact. -/
def dOfF (a : F32) : F64 := f64 (fv a)
/-- A binary64 number rounded to binary32. -/
def fOfD (a : F64) : F32 := f32 (dv a)
def dabs (a : F64) : F64 := if dlt a 0 then dneg a else a

end Sys2Proof.Machine
end

