-- ==== Sys2Proof/Machine/Real.lean ====
section
/-! DEFINITION. The real functions that the manual's formulas name: square root, exponential, logarithm, sine, cosine and arctangent.  Each is
formed in fixed point with 352 places after the point and rounded once, to nearest, to the format of its use; the manual states no rounding for
them (log 10). -/

namespace Sys2Proof.Machine

/-- 1 in the fixed point of this file. -/
def rOne : Int := 2 ^ 352
/-- π in fixed point. -/
def rPi : Int := 0x3243f6a8885a308d313198a2e03707344a4093822299f31d0082efa98ec4e6c89452821e638d01377be5466cf
/-- ln 2 in fixed point. -/
def rLn2 : Int := 0xb17217f7d1cf79abc9e3b39803f2f6af40f343267298b62d8a0d175b8baafa2be7b876206debac98559552fb
/-- A product in fixed point. -/
def rMul (a b : Int) : Int := a * b / rOne
/-- A quotient in fixed point. -/
def rDiv (a b : Int) : Int := a * rOne / b
/-- The nearest integer to a quotient. -/
def rNear (a b : Int) : Int := (2 * a + b) / (2 * b)

/-- ± m · 2^e in fixed point. -/
def rOf (neg : Bool) (m : Nat) (e : Int) : Int :=
  let x : Int := if 0 ≤ e + 352 then (m * 2 ^ (e + 352).toNat : Nat) else (m / 2 ^ (-(e + 352)).toNat : Nat)
  if neg then -x else x

/-- A fixed-point number as a value whose last bit marks what the fixed point cut off. -/
def fpOfR (x : Int) : Fp := if x = 0 then .fin false 0 0 else .fin (decide (x < 0)) (2 * x.natAbs + 1) (-353)

/-- The largest whole number whose square is not above `n`, its bits from `k` down added to `r`. -/
def isqrtBits (n : Nat) : Nat → Nat → Nat
  | 0, r => r
  | k + 1, r => if (r + 2 ^ k) * (r + 2 ^ k) ≤ n then isqrtBits n k (r + 2 ^ k) else isqrtBits n k r

/-- The whole square root. -/
def isqrt (n : Nat) : Nat := isqrtBits n (n.log2 / 2 + 1) 0

/-- The square root in fixed point. -/
def rSqrt (x : Int) : Int := (isqrt (x.toNat * 2 ^ 352) : Nat)

/-- The square root of a value, with its last bit marking a remainder. -/
def fpSqrt : Fp → Fp
  | .fin a m e =>
    if m = 0 then .fin a 0 e
    else if a then .nan
    else
      let s : Nat := 128 + (e % 2).toNat
      let n := m * 2 ^ s
      let r := isqrt n
      .fin false (2 * r + (if r * r = n then 0 else 1)) ((e - (s : Int)) / 2 - 1)
  | .inf false => .inf false
  | _ => .nan

/-- The sum t + t·x/(k+1) + t·x²/((k+1)(k+2)) + …, `fuel` terms. -/
def expSum (x : Int) : Nat → Nat → Int → Int
  | 0, _, _ => 0
  | fuel + 1, k, t => t + expSum x fuel (k + 1) (rMul t x / ((k + 1 : Nat) : Int))

/-- The sum t − t·x²/((k+1)(k+2)) + …, `fuel` terms: a sine from k = 1, a cosine from k = 0. -/
def trigSum (xx : Int) : Nat → Nat → Int → Int
  | 0, _, _ => 0
  | fuel + 1, k, t => t + trigSum xx fuel (k + 2) (-(rMul t xx / (((k + 1) * (k + 2) : Nat) : Int)))

/-- The sum p/k + p·x²/(k+2) + p·x⁴/(k+4) + …, `fuel` terms. -/
def oddSum (xx : Int) : Nat → Nat → Int → Int
  | 0, _, _ => 0
  | fuel + 1, k, p => p / (k : Int) + oddSum xx fuel (k + 2) (rMul p xx)

/-- The exponential of a value. -/
def fpExp : Fp → Fp
  | .fin a m e =>
    let x := rOf a m e
    if 1000 * rOne < x then .inf false
    else if x < -(1000 * rOne) then .fin false 0 0
    else
      let k := rNear x rLn2
      .fin false (2 * (expSum (x - k * rLn2) 72 0 rOne).toNat + 1) (k - 353)
  | .inf true => .fin false 0 0
  | .inf false => .inf false
  | .nan => .nan

/-- The natural logarithm of a positive m · 2^e in fixed point. -/
def rLn (m : Nat) (e : Int) : Int :=
  let y := rOf false m (-(m.log2 : Int))
  let z := rDiv (y - rOne) (y + rOne)
  2 * oddSum (rMul z z) 116 1 z + ((m.log2 : Int) + e) * rLn2

/-- Sine and cosine in fixed point. -/
def rSinCos (x : Int) : Int × Int :=
  let k := rNear x (rPi / 2)
  let r := x - k * (rPi / 2)
  let rr := rMul r r
  let s := trigSum rr 44 1 r
  let c := trigSum rr 44 0 rOne
  match (k % 4).toNat with
  | 0 => (s, c)
  | 1 => (c, -s)
  | 2 => (-s, -c)
  | _ => (-c, s)

/-- The sine of a value; of a magnitude below 2^-170 the value itself. -/
def fpSin : Fp → Fp
  | .fin a m e => if (m.log2 : Int) + e < -170 then .fin a m e else fpOfR (rSinCos (rOf a m e)).1
  | _ => .nan

/-- The cosine of a value. -/
def fpCos : Fp → Fp
  | .fin a m e => fpOfR (rSinCos (rOf a m e)).2
  | _ => .nan

/-- The tangent of half the angle whose tangent is `x`. -/
def rHalf (x : Int) : Int := rDiv x (rOne + rSqrt (rOne + rMul x x))

/-- The arctangent in fixed point. -/
def rAtan (x : Int) : Int :=
  let far : Bool := decide (rOne < x.natAbs)
  let y := if far then rDiv rOne x else x
  let z := rHalf (rHalf (rHalf y))
  let t := 8 * oddSum (-(rMul z z)) 60 1 z
  if far then (if 0 < x then rPi / 2 - t else -(rPi / 2) - t) else t

/-- The arctangent of a value; of a magnitude below 2^-170 the value itself. -/
def fpAtan : Fp → Fp
  | .fin a m e => if (m.log2 : Int) + e < -170 then .fin a m e else fpOfR (rAtan (rOf a m e))
  | .inf a => fpOfR (if a then -(rPi / 2) else rPi / 2)
  | .nan => .nan

def sin64 (x : F64) : F64 := f64 (fpSin (dv x))
def cos64 (x : F64) : F64 := f64 (fpCos (dv x))
def atan64 (x : F64) : F64 := f64 (fpAtan (dv x))
def sqrt64 (x : F64) : F64 := f64 (fpSqrt (dv x))

/-- A filter coefficient exp(−t / tau) of two binary32 numbers (06 R166, 08 R238). -/
def expRatio (t tau : F32) : F32 := f32 (fpExp (fpNeg (fpDiv ⟨352, 8⟩ (fv t) (fv tau))))

/-- The temperature in °C of an NTC of 10 kΩ with B25/85 = 3435 K (06 R173): 1/T = 1/298.15 K + ln(R/10 kΩ)/3435 K. -/
def ntcTemp (r : F32) : F32 :=
  match fv r with
  | .fin false m e =>
    if m = 0 then f32 (.inf false)
    else
      let l := rLn m e - rLn 10000 0
      let d := rOne * 100 / 29815 + l / 3435
      if d ≤ 0 then f32 (.inf false) else f32 (fpOfR (rDiv rOne d - rOne * 27315 / 100))
  | _ => fNaN

/-- The resistance in Ω of a PT1000 at `t` °C after IEC 60751, in fixed point:
1000 (1 + A t + B t² + C (t − 100) t³), C below 0 °C only. -/
def ptOhm (t : Int) : Int :=
  let tt := rMul t t
  let c := if t < 0 then -(rMul (t - 100 * rOne) (rMul tt t) * 4183 / 10 ^ 12) else 0
  1000 * rOne + t * 39083 / 10 ^ 4 + -(tt * 5775 / 10 ^ 7) + c

/-- The temperature at which a PT1000 has a resistance, halving the span from −60 to 260 °C. -/
def ptSearch (r : Int) : Nat → Int → Int → Int
  | 0, lo, _ => lo
  | k + 1, lo, w => if ptOhm (lo + w / 2) ≤ r then ptSearch r k (lo + w / 2) (w / 2) else ptSearch r k lo (w / 2)

/-- The temperature in °C of a PT1000 (06 R173, IEC 60751), within −60 to 260 °C. -/
def ptTemp (r : F32) : F32 :=
  match fv r with
  | .fin a m e => f32 (fpOfR (ptSearch (rOf a m e) 90 (-60 * rOne) (320 * rOne)))
  | .inf a => if a then fOfInt (-60) else fOfInt 260
  | .nan => fNaN

end Sys2Proof.Machine
end

