-- ==== Sys2Proof/Machine/StSys.lean ====
section
/-! DEFINITION. The state of the clock, the supply, the regions, the start budget, the wake output, power-up and identity,
the release groups, the commit groups and the state machines (01 to 04). -/

namespace Sys2Proof.Machine

/-- The supply states of 02 R49. -/
inductive Supply where
  | off | powerup | normal | crank | overvolt | shutdown
deriving DecidableEq, Repr, Inhabited

/-- STATE of a region (01 R27). -/
inductive RegionState where
  | off | boot | run | frozen | fault | supervisor
deriving DecidableEq, Repr, Inhabited

/-- One region's status (01 R27). -/
structure Region where
  st : RegionState
  clkOk : Bool
  railOk : Bool
  eccCe : Bool
  eccUe : Bool
  hsFull : W16
deriving DecidableEq, Repr, Inhabited

/-- A mailbox channel's counts (01 R14): the 8-bit sequence number of its entry, the instant or tick that the entry was written for, whether
it is unread, and how many unread entries have been replaced. -/
structure Mail where
  seq : Byte
  stamp : Nat
  unread : Bool
  skip : Nat
deriving DecidableEq, Repr, Inhabited

def Mail.reset : Mail := { seq := 0, stamp := 0, unread := false, skip := 0 }

/-- A write of an entry for `stamp`; a further part of the entry of the same tick changes nothing (04 R117). -/
def Mail.write (m : Mail) (stamp : Nat) : Mail :=
  if m.unread && m.stamp == stamp then m
  else { seq := m.seq + 1, stamp := stamp, unread := true, skip := if m.unread then m.skip + 1 else m.skip }

/-- The reader takes the entry. -/
def Mail.take (m : Mail) : Mail := { m with unread := false }

/-- STATE of a unit status word (01 R18). -/
inductive UnitState where
  | off | starting | run | hold | safe | fault | reset | frozen
deriving DecidableEq, Repr, Inhabited

/-- The shutdown reason kept in flash (02 R54): nothing recorded yet, the open marker, or a reason code. -/
inductive ShdnMark where
  | none | openMark | reason (code : BitVec 4)
deriving DecidableEq, Repr, Inhabited

/-- Supply monitor measurements, in mV (02 R47). -/
structure SupplyIn where
  vb1 : Nat
  vb2 : Nat
  vb3 : Nat
  vb4 : Nat
  vlog : Nat
  ign : Nat
  wake : Nat
deriving DecidableEq, Repr, Inhabited

/-- The supply block (02 R47 to R55).  `die` holds each power die's latest sample of its contact, none until its region has reported one;
`holdUp` is the OPT at which the hold-up store took over, `storeFull` the one from which it has been charging (R48, R552).  The tick
counters hold how long a condition of R49 has held. -/
structure PwrSt where
  supply : Supply
  mon : SupplyIn
  die : Vector (Option Nat) 4
  ign : Bool
  wake : Bool
  cranked : Bool
  ovv : Bool
  lastShdn : BitVec 4
  crankTicks : Nat
  uvTicks : Nat
  okTicks : Nat
  ovOkTicks : Nat
  ignOffSince : Option Opt
  crankCnt : W16
  crankMax : W16
  holdUp : Option Opt
  storeFull : Option Opt
  shdnReason : BitVec 4
deriving DecidableEq, Repr, Inhabited

/-- A start request (02 R61): `src` is the unit index in the order of R61 (PSW 0–39, VLV 40–87, FAN 88–95, WAKE_OUT 96). -/
structure StartReq where
  src : Nat
  cls : Nat
  charge : Nat
  slots : Nat
  maxDefer : Nat
  opt : Opt
  waited : Nat
deriving DecidableEq, Repr, Inhabited

/-- A booking in force (02 R58, R60). -/
structure Booking where
  charge : Nat
  left : Nat
deriving DecidableEq, Repr, Inhabited

/-- The start budget (02 R60 to R66), loads in 0.1 A. -/
structure BudSt where
  bookings : List Booking
  prevLoad : Nat
  load : Nat
  reqs : List StartReq
  isOpen : Bool
  openNext : Bool
  passTick : Option Nat
  refused : W16
  maxWait : W16
deriving DecidableEq, Repr, Inhabited

/-- WAKE_OUT (02 R59). -/
structure WakeSt where
  reg : Bool
  cmd : Bool
  out : Bool
  wait : Bool
  refused : Bool
  trip : Bool
deriving DecidableEq, Repr, Inhabited

/-- A service core's status (01 R17, R18). -/
structure CoreSt where
  en : Bool
  fault : Bool
  err : Bool
  lastErr : Byte
deriving DecidableEq, Repr, Inhabited

/-- Power-up and identity (03 R94), the service cores and the release groups (03 R79).  `held` are the conditions as the last tick found
them, `due` the groups whose release falls at the present tick and `lapse` the FOLLOW groups whose return falls at it; `checked` says that
the dies have been challenged, `safeDue` that the safe states without a start event wait for the first tick in NORMAL (R68); `bad` lists
the SIGREFs that an uncorrectable memory error has made invalid (01 R21). -/
structure BootSt where
  serial : BitVec 64
  dieOk : BitVec 7
  devCert : Bool
  owner : Bool
  failDie : BitVec 4
  strap : BitVec 3
  cfgSlot : Bool
  trial : Bool
  fallback : Bool
  noImage : Bool
  svcHold : Bool
  svcEn : Bool
  cfgErr : Byte
  errTable : W16
  errRule : W16
  cfgVer : Word
  failed2 : Option Opt
  released : BitVec 16
  rxCond : BitVec 16
  svcRel : BitVec 16
  held : BitVec 16
  due : BitVec 16
  lapse : BitVec 16
  checked : Bool
  safeDue : Bool
  core : Vector CoreSt 8
  bad : List Nat
deriving DecidableEq, Repr, Inhabited

/-- One request of a Ronrex host: the session, ring, ticket and SEQ of its header (05 R136), whether the payload has
the length of its layout (R149), the OPT of its arrival, and the backbone member that it reached (19 R477): true for ETH_B. -/
structure HostReq where
  sess : Nat
  pathB : Bool
  ring : Nat
  ticket : Word
  seq : Word
  lenOk : Bool
  opt : Opt
deriving DecidableEq, Repr, Inhabited

/-- A pending snapshot of a commit group (03 R82). -/
structure Snap where
  group : Nat
  words : List (Nat × Word)
  accepted : Opt
  checkedAt : Option Opt
  req : Option HostReq
deriving DecidableEq, Repr, Inhabited

/-- Live and shadow words that differ from what the image or reset gives, by register address, and the pending
snapshots (03 R81 to R85). -/
structure GrpSt where
  live : List (Nat × Word)
  shadow : List (Nat × Word)
  snaps : List Snap
deriving DecidableEq, Repr, Inhabited

/-- An event of a state machine (04 R113); `raised` is the tick in which a RAISE formed it, whose steps do not see it (R117). -/
structure SmEvent where
  opt : Opt
  code : Nat
  arg : Nat
  raised : Option Opt
deriving DecidableEq, Repr, Inhabited

/-- One state machine (04 R108 to R119).  `prev` is the truth of the signals watched at the previous step; `prevState` is the
state before the step at `changedAt`, which machines stepped at the same instant still see (R117). -/
structure SmSt where
  state : Byte
  run : Bool
  late : Bool
  lost : Bool
  skip : Bool
  transCnt : W16
  lostCnt : Byte
  lateCnt : Byte
  vars : List F32
  timers : List (Nat × Opt)
  queue : List SmEvent
  prev : List (Nat × Bool)
  prevState : Byte
  changedAt : Opt
deriving DecidableEq, Repr, Inhabited

/-- What the device certificate binds (03 R88; 01 R30, R34): the serial, the part number and revision, the subject key of D0, and the
public keys of D1 and D3 to D6 in die order. -/
structure DevCert where
  serial : BitVec 64
  part : W16
  rev : Byte
  d0Key : List Byte
  dieKeys : List (List Byte)
deriving DecidableEq, Repr, Inhabited

/-- What the non-volatile parts hold besides logs: fuses, the dies' own public keys, certificates, the two configuration slots and the
shutdown reason (01 R29, R30; 02 R54; 03 R71, R88; 05 R158).  `d2Key` is D2's key and `vendorRoot` the vendor root's fingerprint, both
fused in D0; `taken` is the last (BOOT, SEQ) of an envelope of stream 6 taken from each SERIAL (05 R159; log 107). -/
structure FlashSt where
  serial : BitVec 64
  macBase : BitVec 48
  dieKey : Vector (List Byte) 7
  d2Key : List Byte
  vendorRoot : List Byte
  devCert : DevCert
  ownerCert : Option (List Byte)
  slotA : List Byte
  slotB : List Byte
  shdn : ShdnMark
  bootCount : Word
  taken : List (Nat × (Nat × Nat))
deriving DecidableEq, Repr, Inhabited

/-- A table of the image in force (03 R73). -/
structure Table where
  id : Nat
  kind : Nat
  ver : Nat
  body : List Byte
deriving DecidableEq, Repr, Inhabited

/-- The image in force (03 R72, R73): its versions and its tables. -/
structure Image where
  imageVer : Word
  settingsVer : Word
  tables : List Table
deriving DecidableEq, Repr, Inhabited

end Sys2Proof.Machine
end

