-- ==== Sys2Proof/Machine/StSns.lean ====
section
/-! DEFINITION. The state of the sensor inputs (06) and of crop flow and grain loss measurement (07). -/

namespace Sys2Proof.Machine

/-- A value with its validity flag (04 R101). -/
abbrev Sig := F32 × Bool

/-- One analog input (06 R166 to R168, R183).  `limit` counts the consecutive judged images inside both limits since a limit
fault, none while no limit fault is held; `shuntOff` is the instant of a shunt's disconnection, `offImg` whether the latest image shows one. -/
structure AinCh where
  raw : W16
  valid : Bool
  low : Bool
  high : Bool
  supBad : Bool
  shuntOff : Option Opt
  offImg : Bool
  faultSeen : Bool
  faultCnt : Byte
  x : F32
  eng : F32
  y : Option F32
  limit : Option Nat
  sum : F64
  n : Nat
  allValid : Bool
deriving DecidableEq, Repr, Inhabited

/-- One frequency input (06 R169, R170, R183): counted edges newest first.  `count` is the quadrature count, `errs` the quadrature errors
since the latest image, `timedOut` a ZERO; `pos`, `qerrCnt` and `zero` are what the latest image shows of them. -/
structure FinCh where
  valid : Bool
  zero : Bool
  overV : Bool
  qerrSeen : Bool
  avgUsed : Byte
  qerrCnt : W16
  pos : Word
  count : Word
  errs : Nat
  timedOut : Bool
  posClr : Bool
  edges : List Opt
  last : Opt
  level : Bool
  freq : F32
  eng : F32
deriving DecidableEq, Repr, Inhabited

/-- One digital input (06 R171): the sampled level with its hysteresis, the debounced state, and how many samples the
level has differed from it. -/
structure DinCh where
  level : Bool
  state : Bool
  run : Nat
deriving DecidableEq, Repr, Inhabited

/-- One temperature input (06 R173, R174). -/
structure TsCh where
  temp : F32
  valid : Bool
  isOpen : Bool
  short : Bool
  faultSeen : Bool
  openRun : Nat
  shortRun : Nat
  okRun : Nat
deriving DecidableEq, Repr, Inhabited

/-- STATE of a sensor supply (06 R183). -/
inductive SupState where
  | off | on | limit | tripped
deriving DecidableEq, Repr, Inhabited

/-- One sensor supply (06 R176): `live` is its state and `trips` its trips since the latest image, `limitAt` the start of the window since
which its current has been in the limit; `st`, `mv`, `ma`, `v` and the trip count are those of the latest image. -/
structure SupCh where
  st : SupState
  live : SupState
  limitAt : Option Opt
  trips : Nat
  v : F32
  mv : Nat
  ma : Nat
  tripSeen : Bool
  tripCnt : BitVec 7
  tripAt : Opt
  okSince : Option Opt
deriving DecidableEq, Repr, Inhabited

/-- The IMU (06 R175): acceleration x, y, z and rate x, y, z. -/
structure ImuSt where
  v : Vector F32 6
  valid : Bool
  last : Opt
deriving DecidableEq, Repr, Inhabited

/-- The values of one input image as CTL latches it (06 R163, R164): `flow` in mV/V, `imuOpt` the OPT of the IMU's sample. -/
structure ImageSt where
  ainEng : Vector Sig 24
  ainX : Vector Sig 24
  fin : Vector Sig 24
  pos : Vector Sig 24
  din : Vector Sig 16
  ts : Vector Sig 16
  sup : Vector Sig 4
  flow : Vector Sig 2
  imu : Vector Sig 6
  imuOpt : Opt
deriving DecidableEq, Repr, Inhabited

/-- The SNS block.  `mail` is the mailbox entry not yet latched; `mailSeq` and `mailSkip` its sequence and skip counts
(01 R14), `frameBox` those of the measurement frame's mailbox to CTL.  `imuImg` is the IMU as the latest image shows it, `imuFifo` the samples on
their way to NAV (06 R165), `convFail` whether a temperature input could not be converted (06 R174), `cut` the latest cut-off. -/
structure SnsSt where
  ain : Vector AinCh 24
  fin : Vector FinCh 24
  din : Vector DinCh 16
  ts : Vector TsCh 16
  sup : Vector SupCh 4
  imu : ImuSt
  imuImg : ImuSt
  imuFifo : List (Opt × Vector F32 6)
  convFail : Bool
  cut : Option Opt
  frameBox : Mail
  mail : Option ImageSt
  mailSeq : Byte
  mailSkip : Nat
  latch : ImageSt
  start : Opt
  frameSeq : Word
  haveFrame : Bool
  ticks : Nat
  dinChanged : BitVec 16
  supFault : BitVec 4
  crank : Bool
  frame : List Byte
  frameOpt : Opt
  next : Option (List Byte)
deriving DecidableEq, Repr, Inhabited

/-- One flow bridge (07 R172, R189, R212) with its notch states: (x1, x2, y1, y2) for each of four notches. -/
structure BridgeSt where
  valid : Bool
  isOpen : Bool
  short : Bool
  overV : Bool
  faultSeen : Bool
  faultCnt : W16
  s : F32
  fbarSum : F64
  fbarN : Nat
  fbar : Sig
  notch : Vector (F32 × F32 × F32 × F32) 4
deriving DecidableEq, Repr, Inhabited

/-- STATE of the calibration (07 R194). -/
inductive CalState where
  | idle | running | stopped | taring
deriving DecidableEq, Repr, Inhabited

/-- A loss channel as the latest frame shows it (07 R211, R212). -/
structure LossOut where
  cnt : Vector W16 4
  ok : Bool
  saturated : Bool
  thrAtMax : Bool
  noise : Nat
  thr : Nat
deriving DecidableEq, Repr, Inhabited

/-- One loss channel (07 R195 to R199, R212).  `base` is the baseline B and `floor` the noise floor N, in codes; `deadEnd` is the end of the
latest hit's dead time.  `cnt` counts the running window in class order, `last` the closed one; `inState` is the instant at which a faulted
input had recovered; the histograms list (bin, count). -/
structure LossCh where
  enF : Bool
  fault : Bool
  inState : Option Opt
  err : Bool
  lastErr : Byte
  saturated : Bool
  satNow : Bool
  thrAtMax : Bool
  overlong : W16
  satCnt : W16
  base : F64
  floor : F64
  deadEnd : Opt
  cnt : Vector W16 4
  last : Vector W16 4
  counting : Bool
  invalid : Bool
  whole : Bool
  specCnt : Vector Nat 4
  peakHist : List (Nat × Nat)
  enHist : List (Nat × Nat)
  specPeak : List (Nat × Nat)
  specEn : List (Nat × Nat)
  specInvalid : Bool
  specSat : Bool
deriving DecidableEq, Repr, Inhabited

/-- What one frame adds to a loss group (07 R205). -/
structure LossFrame where
  grain : Nat
  double : Nat
  all : Nat
  ticks : Nat
  area : F32
  wet : F32
deriving DecidableEq, Repr, Inhabited

/-- A loss group: its frames, newest first, and its outputs. -/
structure LossGroup where
  frames : List LossFrame
  out : Vector Sig 4
deriving DecidableEq, Repr, Inhabited

/-- The commands of FLW_CAL_CMD (07 R194). -/
inductive CalCmd where
  | start | stop | enter | abort | tare
deriving DecidableEq, Repr, Inhabited

/-- What the latest frame shows of the FLW block (07 R211, R212). -/
structure FlwOut where
  any : Bool
  flags : Word
  wet : Sig
  dry : Sig
  moist : Sig
  moistSrc : Sig
  fbar : Vector Sig 2
  mm : F32
  calState : CalState
  result : Byte
  gaps : W16
  factor : F32
  loss : Vector LossOut 16
  group : Vector (Vector Sig 4) 4
deriving DecidableEq, Repr, Inhabited

/-- The FLW block.  `out` is what the latest frame shows.  The spectrum (07 R207) covers `specFrames` frames from `specFirst` of the second
`specKey`, complete with `specLast`; `specWait` holds the bodies of a period that ended without its last frame. -/
structure FlwSt where
  out : FlwOut
  flags : Word
  wet : Sig
  dry : Sig
  moist : Sig
  moistSrc : Sig
  calState : CalState
  result : Byte
  gaps : W16
  frames : Nat
  mm : F32
  mmValid : Bool
  mass : Word
  calCmds : List CalCmd
  calCrop : Nat
  tareAt : Opt
  tareS : Vector (List F32) 2
  tareF : Vector (List F32) 2
  tareA : List F32
  tareBad : Bool
  bridge : Vector BridgeSt 2
  coef : Vector (Option (List F32)) 4
  qSum : F64
  usable : Nat
  samples : Nat
  degraded : Bool
  bypass : Bool
  compOff : Bool
  moistHist : List Sig
  moistLast : Option (F32 × Opt)
  lsEn : BitVec 16
  ls : Vector LossCh 16
  group : Vector LossGroup 4
  specFrames : Nat
  specFirst : Word
  specKey : Bool × Nat
  specLast : Bool
  specWait : List (List Byte)
  calChange : Option (F32 × F32 × Nat)
deriving DecidableEq, Repr, Inhabited

/-- The settings kept in flash (07 R193, 13 R349, R354; 21 R532): the tare, the calibration factor of each crop, the lag
estimate of each crop, the calibration generation, and the schema version. -/
structure Settings where
  ver : Word
  z0 : F32
  z1 : F32
  aT : F32
  cal : List (Nat × F32)
  lagEst : List (Nat × Nat)
  calGen : W16
deriving DecidableEq, Repr, Inhabited

end Sys2Proof.Machine
end

