-- ==== Sys2Proof/Machine/StCan.lean ====
section
/-! DEFINITION. The state of the CAN controllers and their services (18). -/

namespace Sys2Proof.Machine

/-- A CAN frame as it appears on a bus (18 R445, R453). -/
structure CanFrame where
  id : Nat
  ide : Bool
  fdf : Bool
  brs : Bool
  esi : Bool
  rtr : Bool
  data : List Byte
deriving DecidableEq, Repr, Inhabited

/-- Where a frame for transmission comes from (18 R453, R456): the host with its TAG, a FORMAT with its table ID, a
CAN_SEND action, a service, or the time master's reference (R465). -/
inductive TxSource where
  | host (tag : Nat) | format (table : Nat) | action (table : Nat) | service | reference
deriving DecidableEq, Repr, Inhabited

/-- A frame waiting for transmission; `order` is the order of entry, `opt` its OPT. -/
structure TxFrame where
  frame : CanFrame
  src : TxSource
  oneShot : Bool
  order : Nat
  opt : Opt
  sa : Option Nat
deriving DecidableEq, Repr, Inhabited

/-- A ring entry (18 R453), its fields before they are laid out in 96 bytes, whether the dispatcher reads it (19 R488), and the OPT of its
write (R454). -/
structure CanEntry where
  seq : Word
  kind : Nat
  flags : Nat
  len : Nat
  reason : Nat
  id : Nat
  tag : Nat
  tec : Nat
  recv : Nat
  opt : Opt
  dvt : Nat
  data : List Byte
  active : Bool
  wrote : Opt
deriving DecidableEq, Repr, Inhabited

/-- The bus state of a controller (18 R473). -/
inductive CanBus where
  | errorActive | errorPassive | busOff | integrating
deriving DecidableEq, Repr, Inhabited

/-- Bit-rate detection (18 R450): the candidate listened to, since when, and the consecutive valid frames. -/
structure Detect where
  cand : Nat
  since : Opt
  valid : Nat
  failed : Bool
deriving DecidableEq, Repr, Inhabited

/-- A frame interrupted by an error after its arbitration field (18 R464). -/
structure Broken where
  id : Nat
  ide : Bool
  fdf : Bool
  bits : List Bool
  opt : Opt
deriving DecidableEq, Repr, Inhabited

/-- A completed transport message (18 R467). -/
structure CanMsg where
  seq : Word
  pgn : Nat
  sa : Nat
  da : Nat
  kind : Nat
  opt : Opt
  first : Word
  data : List Byte
deriving DecidableEq, Repr, Inhabited

/-- A transport connection (18 R466): `kind` 0 BAM, 1 RTS/CTS, 2 ETP; `next` is the next packet (numbered from 1), `base` the
offset of the window under way, `left` the packets left in it, and `cts` whether the first packet after a CTS is awaited. -/
structure TpConn where
  pgn : Nat
  sa : Nat
  da : Nat
  kind : Nat
  total : Nat
  next : Nat
  base : Nat
  left : Nat
  maxWin : Nat
  cts : Bool
  first : Word
  data : List Byte
  last : Opt
deriving DecidableEq, Repr, Inhabited

/-- The claim state of a controller (18 R468). -/
inductive Claim where
  | none | claiming | claimed | lost
deriving DecidableEq, Repr, Inhabited

/-- One controller (18 R447 to R473): `sending` is the buffer in transmission, `abortNow` whether an abort waits for its end, `refSof` the
DVT of the SOF of the last reference sent, from its TX_OK entry (R465). -/
structure CanCh where
  enF : Bool
  fault : Bool
  err : Bool
  lastErr : Byte
  offWait : Bool
  bus : CanBus
  recovering : Bool
  wasLocked : Bool
  detect : Option Detect
  tdcFail : Bool
  dupSeen : Bool
  dispLate : Bool
  tec : Nat
  recv : Nat
  busoffCnt : W16
  txFailCnt : W16
  txqFullCnt : W16
  tpAbortCnt : W16
  errFrameCnt : W16
  dupCnt : W16
  staleCnt : W16
  lateCnt : W16
  seq : Word
  ring : List CanEntry
  dispatched : Word
  txq : List TxFrame
  txb : Vector (Option TxFrame) 3
  sending : Option Nat
  abortNow : Bool
  offs : List Opt
  offSince : Opt
  broken : Option Broken
  cycle : Nat
  refSof : Option Nat
  refSent : Bool
  claim : Claim
  addr : Nat
  claimSince : Opt
  claimState : Option Nat
  msgSeq : Word
  msgs : List CanMsg
  rxConn : List TpConn
  txConn : Option TpConn
  addrLost : Bool
deriving DecidableEq, Repr, Inhabited

/-- A CAN_RX FORMAT's time since its last frame (04 R127), in ticks; none once its destinations are invalid or before the
first frame. -/
abbrev RxTimer := Nat × Option Nat

/-- The CAN block: `rx` holds the destinations of group 0x10 by element, `setv` what CAN_SET gave a
field (04 R112), by 512 × table + field. -/
structure CanSt where
  en : BitVec 8
  ch : Vector CanCh 8
  order : Nat
  rx : List (Nat × F32)
  rxTimers : List RxTimer
  setv : List (Nat × F32)
  winSel : Word
  winPos : Word
  winOfs : Word
  winValid : Bool
  winBuf : List Byte
  txsId : Word
  txsCtrl : Word
  txsData : Vector Word 16
  txmCtrl : Word
  txmPgn : Word
  txmState : Nat
  txmFail : Nat
  txmData : List (Nat × Word)
deriving DecidableEq, Repr, Inhabited

end Sys2Proof.Machine
end

