-- ==== Sys2Proof/Machine/StHst.lean ====
section
/-! DEFINITION. The state of the Ronrex host block (05) and of the event recorder (20). -/

namespace Sys2Proof.Machine

/-- A remembered completion (05 R139). -/
structure Completion where
  ticket : Word
  ring : Nat
  op : Nat
  status : Nat
  payload : List Byte
  opt : Opt
deriving DecidableEq, Repr, Inhabited

/-- A nonce outstanding for a session (03 R91). -/
structure NonceSt where
  bytes : List Byte
  issued : Opt
deriving DecidableEq, Repr, Inhabited

/-- Actions a token has granted, each usable once until `until_` (03 R93). -/
structure GrantSt where
  actions : BitVec 3
  until_ : Opt
deriving DecidableEq, Repr, Inhabited

/-- One session (05 R133 to R142). -/
structure Sess where
  isOpen : Bool
  hello : Bool
  level : Nat
  port : Nat
  agreed : BitVec 16
  maxMsg : Nat
  txSeq : Word
  rxHigh : Word
  rxSeen : List Word
  control : Bool
  last : Opt
  done : List Completion
  nonce : Option NonceSt
  grant : List GrantSt
deriving DecidableEq, Repr, Inhabited

/-- One hardware ring (05 R144). -/
structure Ring where
  isOpen : Bool
  ordered : Bool
  sess : Nat
  limit : Nat
  closing : Option HostReq
deriving DecidableEq, Repr, Inhabited

/-- An operation admitted and not yet released; `result` is its completion, held where an ORDERED ring waits for an
earlier one (05 R147); `shared` says which kind of slot it took (05 R145), `dead` marks an operation whose session has ended (05 R135). -/
structure OpFlight where
  req : HostReq
  op : Nat
  result : Option (Nat × List Byte)
  shared : Bool
  dead : Bool
deriving DecidableEq, Repr, Inhabited

/-- A subscription (05 R156). -/
structure Sub where
  id : Nat
  sess : Nat
  stream : Nat
  env : Bool
  decim : Nat
  inst : Nat
  items : Nat
  rate : Nat
deriving DecidableEq, Repr, Inhabited

/-- The HST block: `shakes` are the handshakes under way, `surplus` the sessions beyond the eighth that wait for their HELLO
(05 R132, R133).  `tLast` is the OPT of the latest qualifying message, `tBefore` that of the latest one before that instant, `tTick` the one
that the present tick counts, `heard` the first one since the host fell silent (R161); `signed` lists the OPTs of the envelopes signed in
the last second (R160). -/
structure HstSt where
  sess : Vector Sess 8
  shakes : List (Nat × Opt)
  surplus : List Nat
  ring : Vector Ring 256
  ops : List OpFlight
  highWater : Nat
  busyCnt : W16
  dropPub : W16
  badMsg : W16
  present : Bool
  ever : Bool
  heard : Option Opt
  expired : Bool
  expiryCnt : Byte
  tLast : Opt
  tBefore : Opt
  tTick : Opt
  subs : List Sub
  nextSub : Nat
  envSeq : Vector Nat 8
  signed : List Opt
  draws : Nat
deriving DecidableEq, Repr, Inhabited

/-- An extreme slot's accumulator (20 R495). -/
structure ExtAcc where
  value : Word
  opt : Opt
  dvt : Nat
  taken : Bool
deriving DecidableEq, Repr, Inhabited

/-- One accumulator set of the recorder (20 R493 to R495, R504): the 32 histograms of 32 bins, the 64 extremes, and the
header flags gathered while the set was open. -/
structure RecSet where
  start : Opt
  startDvt : Nat
  flags : W16
  hist : Vector (List W16) 32
  ext : Vector ExtAcc 64
deriving DecidableEq, Repr, Inhabited

/-- A slot of the recorder partition (20 R507). -/
structure RecSlot where
  seq : Word
  usable : Bool
  data : List Byte
deriving DecidableEq, Repr, Inhabited

/-- The event recorder (20 R516).  `closed` is a record closed and not yet stored, without its SEQ; `bound` is the number of
the latest interval boundary, `atBound` whether the open set began at one, `passed` whether one was passed since. -/
structure RecSt where
  openSet : RecSet
  atBound : Bool
  passed : Bool
  bound : Nat
  closed : Option (List Byte)
  clearing : Option HostReq
  isClearing : Bool
  writeErrSeen : Bool
  freezers : List (Nat × Opt)
  waitFreeze : List HostReq
  slots : List RecSlot
  nextSeq : Word
  unrecorded : Word
  writeErrCnt : W16
  supprCnt : W16
  clearedNext : Bool
  first : Bool
  ptr : Word
  ptrValid : Bool
  win : List Byte
  second : Nat
  inSecond : List (Nat × Nat)
deriving DecidableEq, Repr, Inhabited

end Sys2Proof.Machine
end

