-- ==== Sys2Proof/Machine/StLop.lean ====
section
/-! DEFINITION. The state of the loop engine (08) and of the profile generators and machine functions (09). -/

namespace Sys2Proof.Machine

/-- MODE of a loop slot (08 R237). -/
inductive LoopMode where
  | auto | manual | track
deriving DecidableEq, Repr, Inhabited

/-- What a law keeps between its samples (08 R226 to R230, R238): integrator, derivative, previous e_d, transfer bias,
LEADLAG states (x, w of each section), SS8 states. -/
structure LawSt where
  integ : F32
  d : F32
  edPrev : F32
  bias : F32
  x1 : F32
  w1 : F32
  x2 : F32
  w2 : F32
  x : Vector F32 8
deriving DecidableEq, Repr, Inhabited

/-- A computation in progress or posted: the tick it sampled at, the tick its output is applied at, its results and the
law's state after it (08 R217, R218, R221).  `lawId` is the law that computed it (0xFFFF for a manual output), `select` a computation
still to be made from its candidates, `stalled` one that the stall injection withholds; `lo`, `hi` and `rate` are OUT_MIN, OUT_MAX and
RATE as they were at the sample (03 R86). -/
structure LoopJob where
  tick : Nat
  outTick : Nat
  posted : Bool
  lawId : Nat
  select : Bool
  stalled : Bool
  lo : F32
  hi : F32
  rate : F32
  u : F32
  v : F32
  e : F32
  z1 : F32
  limited : Bool
  rateLim : Bool
  chosen : Nat
  law : LawSt
deriving DecidableEq, Repr, Inhabited

/-- A loop command waiting for its instant (08 R240): the CMD code, VALUE, and the request to complete. -/
structure LoopCmd where
  cmd : Nat
  value : F32
  req : HostReq
deriving DecidableEq, Repr, Inhabited

/-- One loop slot (08 R244); `entering` marks a slot that an enable or a RESTART has put in AUTO and that has not sampled since (08 R238). -/
structure Slot where
  enF : Bool
  fault : Bool
  err : Bool
  lastErr : Byte
  mode : LoopMode
  remManual : Bool
  man : F32
  cmdManual : Bool
  limited : Bool
  rateLim : Bool
  inputInvalid : Bool
  ovrLast : Bool
  ovrCnt : W16
  invCnt : W16
  consec : Byte
  cycles : W16
  outReg : F32
  spReg : F32
  pvReg : F32
  u : F32
  applied : Bool
  v : F32
  e : F32
  z1 : F32
  chosen : Nat
  law : LawSt
  lawInForce : Nat
  bumpF : F32
  transfer : Bool
  invRun : Nat
  job : Option LoopJob
  faultAt : Option Nat
  released : Bool
  cmds : List LoopCmd
  entering : Bool
  sp : Option F32
  lastOut : Nat
deriving DecidableEq, Repr, Inhabited

/-- One loop processor (08 R244); `used` counts the cycles of the present tick. -/
structure Proc where
  run : Bool
  used : Nat
  err : Bool
  lastErr : Byte
  load : Nat
  peak : Nat
deriving DecidableEq, Repr, Inhabited

/-- The stall injection of LOP_TEST_STALL (08 R244). -/
structure StallSt where
  slot : Nat
  count : Nat
  delayUs : Nat
deriving DecidableEq, Repr, Inhabited

/-- The LOP block. -/
structure LopSt where
  tickHi : Word
  en : BitVec 128
  stall : StallSt
  proc : Vector Proc 8
  slot : Vector Slot 128
deriving DecidableEq, Repr, Inhabited

/-- MODE of a profile generator (09 R247). -/
inductive PgMode where
  | move | track | hold
deriving DecidableEq, Repr, Inhabited

/-- SOURCE of a generator's target (09 R246, R268). -/
inductive PgSource where
  | const | mf | outer
deriving DecidableEq, Repr, Inhabited

/-- The plan being followed (09 R248): the segments left, each a jerk and a number of steps, and the end state, without a position where the plan may
end anywhere (R250, R251).  `exact` tells that the segments end at that state, `inside` that the plan brings the state inside the limits (R251). -/
structure Plan where
  segs : List (F64 × Nat)
  endP : Option F64
  endV : F64
  exact : Bool
  inside : Bool
deriving DecidableEq, Repr, Inhabited

/-- One profile generator (09 R245 to R252, R268). -/
structure Pg where
  p : F64
  v : F64
  a : F64
  mode : PgMode
  src : PgSource
  arrived : Bool
  limited : Bool
  overshoot : Bool
  excess : Bool
  clamped : Bool
  followPv : Bool
  target : F64
  prevTarget : Option F64
  plan : Option Plan
  limits : Word × Word × Word
  posReg : F32
  velReg : F32
  accReg : F32
  tgtReg : F32
deriving DecidableEq, Repr, Inhabited

/-- STATE of a machine function's overlay (09 R256, R268). -/
inductive MfState where
  | normal | override | interlock | loopDown | notConfigured
deriving DecidableEq, Repr, Inhabited

/-- A machine-function command waiting for its tick (09 R259, R263). -/
structure MfCmd where
  cmd : Nat
  arg : Nat
  value : F32
  req : HostReq
deriving DecidableEq, Repr, Inhabited

/-- One machine function (09 R254 to R263, R268).  `ovr` is the value that an override applies, `latest` what the mode's source sent
during an overlay, `before` the mode before the host's absence, `changed` whether another source has changed it since. -/
structure Mf where
  mode : Nat
  st : MfState
  idle : Bool
  clamped : Bool
  ilkSeen : Bool
  ovrSeen : Bool
  ilkTerm : Nat
  ilkCnt : Byte
  clampCnt : Byte
  tgt : F32
  fb : F32
  manual : F32
  ovr : F32
  latest : Option F32
  ilkTicks : Nat
  before : Option Nat
  changed : Bool
  cmds : List MfCmd
deriving DecidableEq, Repr, Inhabited

/-- One write of the automation mailbox entry (04 R117): a mode code or a target. -/
structure MfWrite where
  mf : Nat
  mode : Option Nat
  target : Option F32
deriving DecidableEq, Repr, Inhabited

/-- The PRF block; `mail` holds the writes to the functions that wait for a tick, `canMail` those that arrived over CAN; the two edges are those of the host silence. -/
structure PrfSt where
  pg : Vector Pg 128
  mf : Vector Mf 48
  mail : List MfWrite
  canMail : List (Nat × F32)
  box : Mail
  absentEdge : Bool
  returnEdge : Bool
deriving DecidableEq, Repr, Inhabited

end Sys2Proof.Machine
end

