-- ==== Sys2Proof/Machine/StNav.lean ====
section
/-! DEFINITION. The state of the GNSS baseband (10), of time and pose (11) and of steering (12). -/

namespace Sys2Proof.Machine

/-- The states of a tracking channel (10 R273). -/
inductive ChState where
  | idle | search | pullin | track | coast
deriving DecidableEq, Repr, Inhabited

/-- What a channel measures at an epoch (10 R274). -/
structure Meas where
  range : F64
  phase : F64
  doppler : F32
  lockMs : Nat
  half : Bool
  slip : Bool
  valid : Bool
deriving DecidableEq, Repr, Inhabited

/-- A cell of a search that detects (10 R276): its power, its code bin and its Doppler bin. -/
structure SearchCell where
  power : F32
  code : Nat
  bin : Int
deriving DecidableEq, Repr, Inhabited

/-- What a channel in PULLIN was loaded with (10 R273): the detected cell, or its reference's pseudorange and Doppler. -/
inductive ChLoad where
  | none
  | cell (code : Nat) (bin : Int)
  | ref (range : F64) (doppler : F32)
deriving DecidableEq, Repr, Inhabited

/-- One tracking channel (10 R273 to R275, R293).  `since` is the OPT of entry into its state, the runs count epochs; `elev` is
the predicted elevation in 0.1 °, `stayTill` the end of a stay beyond a Whippet burst (R287), `resid` the phase residual of the last epoch in
cycles and `integ` the coherent integration in ms (R275). -/
structure NavCh where
  enF : Bool
  fault : Bool
  err : Bool
  lastErr : Byte
  st : ChState
  sig : Nat
  sv : Nat
  ant : Bool
  cn0 : Nat
  sync : Bool
  plock : Bool
  half : Bool
  slipSeen : Bool
  slipNext : Bool
  lockT : Nat
  lolCnt : W16
  slipCnt : W16
  since : Opt
  lockRun : Nat
  lowRun : Nat
  noPhase : Nat
  rounds : Nat
  waitRef : Bool
  elev : Option Int
  stayTill : Opt
  resid : Option F64
  integ : Nat
  load : ChLoad
  meas : Meas
deriving DecidableEq, Repr, Inhabited

/-- The class of a search (10 R276). -/
inductive SearchClass where
  | hot | warm | cold
deriving DecidableEq, Repr, Inhabited

/-- A search waiting or running (10 R277), with its highest detected cell so far. -/
structure Search where
  cls : SearchClass
  ch : Nat
  sig : Nat
  sv : Nat
  elev : Option Int
  left : Nat
  best : Option SearchCell
deriving DecidableEq, Repr, Inhabited

/-- One correction source (10 R279, R281, R293): `bytes` is what follows the last complete frame of a CAN stream, `waiting` the
frames accepted and not yet taken, `tag` the time tag of the latest complete base epoch in ns of DVT, `runStart` that of
the first of the run without a gap; `msm` lists the MSM kind held of each constellation. -/
structure RtcmSrc where
  good : W16
  crcErr : Byte
  unsup : Byte
  bytes : List Byte
  waiting : List (List Byte)
  tag : Option Nat
  runStart : Option Nat
  station : Nat
  ref : Option (Int × Int × Int)
  msm : List (Nat × Nat)
deriving DecidableEq, Repr, Inhabited

/-- An antenna port (02 R37, 10 R293). -/
structure AntSt where
  bias : Nat
  short : Bool
  isOpen : Bool
  shortSeen : Bool
  ma : Nat
  shortCnt : W16
  shortAt : Opt
deriving DecidableEq, Repr, Inhabited

/-- An RF path (10 R270, R293). -/
structure RfSt where
  agc : Nat
  jn : Nat
  blank : Nat
  lock : Bool
  overload : Bool
deriving DecidableEq, Repr, Inhabited

/-- The Whippet state (10 R286). -/
inductive WhipState where
  | normal | whippet | hold
deriving DecidableEq, Repr, Inhabited

/-- The NAV block.  `passAt` is the OPT at which the running pass began, `allocDue` tells that an assignment was released or the solution group applied
since the allocator last ran (R272), `epochAt` is the OPT of the last measurement epoch, `eph` lists the satellites with an ephemeris and the OPT of its
reception, `gf` the geometry-free combinations of the last solution epoch (R275), `notWanted` the satellites set aside and since when (R273). -/
structure NavSt where
  en : BitVec 384
  ch : Vector NavCh 384
  solMode : Nat
  hdgState : Nat
  hdg : F32
  pitch : F32
  baseLen : F32
  whip : WhipState
  holdSince : Opt
  lowSince : Option Opt
  burst : Option Opt
  posAnt : Bool
  svUsed : Nat
  chShort : Bool
  src : Nat
  far : Bool
  resetSeen : Bool
  stationUsed : Nat
  age : W16
  ageMs : Option Nat
  rtcm : Vector RtcmSrc 2
  queue : List Search
  pass : Option (List Search)
  passAt : Opt
  passCnt : W16
  allocDue : Bool
  epochAt : Option Opt
  rf : Vector RfSt 6
  ant : Vector AntSt 2
  notWanted : List (Nat × Opt)
  almanac : Bool
  eph : List (Nat × Opt)
  gf : List (Nat × Nat × F64)
  lastPos : Option (F64 × F64 × F64)
  refUsed : Option (Int × Int × Int)
  ambiguity : Bool
  hdgAmbiguity : Bool
  solOpt : Opt
deriving DecidableEq, Repr, Inhabited

/-- The timebase states (11 R301). -/
inductive TimState where
  | free | locked | holdover | recovering
deriving DecidableEq, Repr, Inhabited

/-- A time source (11 R298, R322). -/
structure SrcSt where
  qual : Bool
  lossCnt : Byte
  run : Nat
  last : Opt
  lastDvt : Nat
  labelled : Bool
deriving DecidableEq, Repr, Inhabited

/-- A TIME_SET request waiting for its tick (11 R312). -/
structure TimeCmd where
  target : Nat
  leap : Nat
  value : Nat
  req : HostReq
deriving DecidableEq, Repr, Inhabited

/-- The PTP port (11 R313, R314, R322): `lastAnn` is the OPT of the last Announce taken, `rounds` counts the message intervals. -/
structure PtpSt where
  port : Nat
  utcOffset : Option Nat
  offset : Int
  lastAnn : Opt
  rounds : Nat
deriving DecidableEq, Repr, Inhabited

/-- The fused pose in force (11 R316 to R318). -/
structure PoseSt where
  mode : Nat
  hdgSrc : Nat
  seq : Word
  rcd : List Byte
  lastSol : Option Opt
  lastHdg : Option Opt
  opt : Opt
deriving DecidableEq, Repr, Inhabited

/-- The TIM block.  `setSec` is the second at which DVT was set and `secAt` the OPT of the last second of 11 R299.  DVT at OPT o is dvtBase + (o − optBase) + slew · (o − optBase) / 10⁹. -/
structure TimSt where
  st : TimState
  dvtSet : Bool
  dvtBase : Nat
  optBase : Opt
  slew : Int
  freq : Int
  src : Nat
  srcs : Vector SrcSt 3
  err : Int
  holdSince : Opt
  lossCnt : Byte
  cvtHost : Bool
  hOff : Int
  epoch : W16
  setSec : Nat
  secAt : Option Opt
  leapGnss : Option Nat
  leapHost : Option Nat
  leapNext : Option (Nat × Nat)
  aiding : Option (Nat × Opt)
  align : Option Bool
  delayWant : Int
  delay : Int
  pulseState : Nat
  pulseHigh : Bool
  pulseFirst : Bool
  pulseWalk : Bool
  pulseCnt : W16
  pulseSec : Word
  pulseWidth : Nat
  latch : Word × Word × Word × Word × Word
  ptp : PtpSt
  pose : PoseSt
  poseSns : Mail
  poseSvc : Mail
  cmds : List TimeCmd
deriving DecidableEq, Repr, Inhabited

/-- The steering states (12 R331). -/
inductive StrState where
  | off | ready | engaged | coast
deriving DecidableEq, Repr, Inhabited

/-- A target or mode waiting for its tick (12 R329). -/
structure StrPend where
  tick : Nat
  mode : Option Nat
  target : Option F32
deriving DecidableEq, Repr, Inhabited

/-- The STR block.  `epochAt` is the OPT of the last guidance epoch, `lineNew` marks a line applied at an epoch that has not been evaluated.  `cmd` is the latest ENGAGE (true) or DISENGAGE (false) since the previous epoch. -/
structure StrSt where
  st : StrState
  dir : Bool
  curvLim : Bool
  refused : Bool
  coastSeen : Bool
  reason : BitVec 4
  seg : Nat
  met : BitVec 10
  engageCnt : W16
  lateCnt : Byte
  coastCnt : Byte
  errY : F32
  errPsi : F32
  kappa : F32
  target : F32
  remain : F32
  coastSince : Opt
  takeRun : Nat
  lateRun : Nat
  cmd : Option Bool
  srcPrev : Bool
  speedBad : Option Opt
  pend : List StrPend
  hostOff : Bool
  modeSet : Bool
  lineNew : Bool
  epochAt : Option Opt
deriving DecidableEq, Repr, Inhabited

end Sys2Proof.Machine
end

