-- ==== Sys2Proof/Machine/StNet.lean ====
section
/-! DEFINITION. The state of the Ethernet ports and pairs (19), of the update service (21) and of the freeze controller (22). -/

namespace Sys2Proof.Machine

/-- HEALTH of a pair member (19 R478, R492). -/
inductive Health where
  | down | checking | ready | unpaired
deriving DecidableEq, Repr, Inhabited

/-- One Ethernet port (19 R474, R492). -/
structure EthPort where
  enF : Bool
  fault : Bool
  err : Bool
  lastErr : Byte
  link : Bool
  fcs : W16
  lost : W16
deriving DecidableEq, Repr, Inhabited

/-- One member of a pair (19 R478, R479, R485).  The four conditions of R478 are held as they stand; `mirror` says that its path context
holds the mirrored items of R484, `sent` when its last probe went out, and `fcsAt` the OPT of its recent frames with FCS errors. -/
structure Member where
  health : Health
  cLink : Bool
  cErr : Bool
  cSil : Bool
  cDis : Bool
  since : Opt
  answered : Bool
  mirror : Bool
  probe : Option Opt
  sent : Option Opt
  lostRun : Nat
  fcsAt : List Opt
deriving DecidableEq, Repr, Inhabited

/-- One pair (19 R480 to R483, R492): `active` is 0 for A, 1 for B, 2 for none; `takeAt` is the OPT of the latest takeover and
`prevAct` what was active before it (R488); `swapAt` that of the latest planned swap; `gapSince` is the start of a gap without an active member, and `gapUntil` the end of the gap of a
takeover (R482). -/
structure Pair where
  active : Nat
  prevAct : Nat
  takeAt : Opt
  degraded : Bool
  eqxDefer : Bool
  eqxFail : Bool
  gapSince : Option Opt
  gapUntil : Opt
  lastGap : W16
  maxGap : W16
  swapCnt : Byte
  faultCnt : Byte
  deferCnt : Byte
  failCnt : Byte
  swapAt : Option Opt
  a : Member
  b : Member
deriving DecidableEq, Repr, Inhabited

/-- The ETH block. -/
structure EthSt where
  en : BitVec 7
  port : Vector EthPort 7
  pair : Vector Pair 3
  stbyDisc : W16
deriving DecidableEq, Repr, Inhabited

/-- The boot record (21 R518): the copy in force. -/
structure BootRec where
  gen : Word
  fwActive : Bool
  cfgActive : Bool
  setActive : Bool
  fwTrial : Bool
  cfgTrial : Bool
  migrateFail : Bool
  reject : Bool
  trialCnt : Nat
  confirmed : BitVec 4
  lastResult : Nat
  manifestId : Nat
  lastId : Nat
deriving DecidableEq, Repr, Inhabited

/-- STATE of UPD_STAT (21 R537). -/
inductive UpdState where
  | idle | receiving | verifying | ready | committed | trial | confirmed | fallback | abandoned | failed
deriving DecidableEq, Repr, Inhabited

/-- A part entry of a manifest (21 R521). -/
structure Part where
  kind : Nat
  member : Nat
  version : Nat
  length : Nat
  digest : List Byte
  btDigest : List Byte
deriving DecidableEq, Repr, Inhabited

/-- What has arrived of a part: its block table once accepted and the pieces of it before, the accepted blocks, and the
chunks of blocks not yet accepted. -/
structure PartRx where
  tablePieces : List (Nat × List Byte)
  table : Option (List Byte)
  blocks : List (Nat × List Byte)
  chunks : List (Nat × List Byte)
deriving DecidableEq, Repr, Inhabited

/-- A firmware slot: its parts by KIND, its version and its schema version. -/
structure FwSlot where
  parts : List (Nat × List Byte)
  version : Word
  schema : Word
deriving DecidableEq, Repr, Inhabited

/-- The journal and what is staged (21 R525); it survives power cycles. -/
structure Journal where
  state : UpdState
  manifest : List Byte
  parts : List PartRx
  committed : Option Nat
deriving DecidableEq, Repr, Inhabited

/-- What the head holds of a member for the window (21 R527, R535). -/
structure MemberSt where
  ready : Bool
  vote : Nat
  state : Option Nat
  result : Nat
deriving DecidableEq, Repr, Inhabited

/-- A member of which nothing is held. -/
def MemberSt.fresh : MemberSt := { ready := false, vote := 0xFF, state := none, result := 0 }

/-- The UPD block's volatile state.  `members` is what the head holds for the window; `prepared` the window of the PREPARE
received, `passed` the latest window deferred, `decided` the latest window the head has decided; `setUsed` is the settings slot in
use; `note` a notice of the boot that goes out once the services run, with its value. -/
structure UpdSt where
  err : Byte
  cfgErr : Byte
  deferCnt : Byte
  lateCnt : Byte
  blockErr : W16
  members : List MemberSt
  prepared : Option Nat
  passed : Option Nat
  decided : Option Nat
  sampled : Option Nat
  hostConfirm : Bool
  normalSince : Option Opt
  trialBoot : Bool
  setUsed : Bool
  settingsOk : Bool
  regionFault : Bool
  sessUp : Bool
  sessDown : Bool
  note : Option (Nat × Nat)
deriving DecidableEq, Repr, Inhabited

/-- STATE of DBG_FRZ_STAT (22 R547). -/
inductive FrzPhase where
  | run | freezing | frozen | thawing
deriving DecidableEq, Repr, Inhabited

/-- The freeze controller and the test access port (22).  `pendingFull` is the OPT at which a full freeze that the Ronrex
operation started begins (R545); `since` is when the dies took their freeze states (R541), and `snap` numbers the freeze for what the TAP
reads (R543); `faulty` are the regions that a freeze stopped while they ran in FAULT. -/
structure DbgSt where
  phase : FrzPhase
  holdExpired : Bool
  full : Bool
  mask : BitVec 6
  frzCnt : W16
  ignored : W16
  began : Option Opt
  pendingFull : Option Opt
  since : Option Opt
  snap : Nat
  faulty : BitVec 6
  ir : Byte
  selTarget : Nat
  selChain : Nat
  maddr : Word
deriving DecidableEq, Repr, Inhabited

end Sys2Proof.Machine
end

