-- ==== Sys2Proof/Machine/StVis.lean ====
section
/-! DEFINITION. The state of the camera intake, the pipelines, the raw taps and the grain-sample service (14). -/

namespace Sys2Proof.Machine

/-- A held exposure set (14 R381, R382): its tag, the frame number at whose start it was applied, and its nine words. -/
structure ExpSet where
  tag : Nat
  frame : Nat
  words : List Word
deriving DecidableEq, Repr, Inhabited

/-- What arrives in one camera frame (14 R367 to R369): whether a header that ECC could not correct or a payload CRC failed, the first
embedded line, how many packets of other types or channels came, and the samples by exposure, line and pixel. -/
structure CamFrame where
  crcBad : Bool
  embedded : List Byte
  otherPackets : Nat
  samples : List (List (List Nat))
deriving DecidableEq, Repr, Inhabited

/-- A frame in progress at the intake or on its way through a pipeline. -/
structure FrameJob where
  cam : Nat
  cnt : Word
  fs : Opt
  dvt : Nat
  newest : Nat
  settings : Option ExpSet
  inferred : Bool
  unknown : Bool
  tag : Nat
  memory : Bool
  tapped : Bool
  data : CamFrame
deriving DecidableEq, Repr, Inhabited

/-- An output frame in a buffer (14 R378): its bytes, its counter and tag, and whether the grain-sample service or the
window reads it. -/
structure OutBuf where
  cnt : Word
  tag : Nat
  unknown : Bool
  sat : Nat
  pixels : Nat
  bytes : List Byte
  grain : Bool
  window : Bool
  endOpt : Opt
deriving DecidableEq, Repr, Inhabited

/-- One camera port (14 R366 to R370, R380 to R384, R390).  `sets` are the sets held, newest first; `initAt` is the instant at
which the INIT section has been sent, `burst` the cut-off of a burst that has not been seen to finish. -/
structure Cam where
  enF : Bool
  fault : Bool
  err : Bool
  lastErr : Byte
  starting : Bool
  initDone : Bool
  link : Bool
  aeLimit : Bool
  tag : Byte
  frameCnt : Word
  dropBuf : W16
  dropErr : W16
  tagErr : W16
  lateCnt : W16
  sets : List ExpSet
  cur : Option FrameJob
  rawUsed : Nat
  outBufs : List OutBuf
  stats : Option (List Byte)
  mean : Option F32
  lastLock : Opt
  initAt : Opt
  burst : Option Opt
deriving DecidableEq, Repr, Inhabited

/-- STATE of a raw tap (14 R390). -/
inductive TapState where
  | idle | armed | writing | done
deriving DecidableEq, Repr, Inhabited

/-- One pipeline with its tap (14 R373, R376, R377). -/
structure Pipe where
  run : Bool
  err : Bool
  lastErr : Byte
  mem : Option FrameJob
  inl : Option FrameJob
  ready : List FrameJob
  lastServed : Nat
  tap : TapState
  tapPoint : Nat
  tapCam : Nat
  refused : Bool
  tapData : List Byte
deriving DecidableEq, Repr, Inhabited

/-- One evaluated frame of the grain-sample service (14 R385, R386). -/
structure GrainEval where
  broken : F32
  nongrain : F32
  cover : F32
  valid : Bool
deriving DecidableEq, Repr, Inhabited

/-- The VIS block. -/
structure VisSt where
  en : BitVec 6
  cam : Vector Cam 6
  pipe : Vector Pipe 2
  winSel : Word
  winPos : Word
  winBuf : List Byte
  winRead : Opt
  winHeld : Option Nat
  gsRun : Bool
  gsValid : Bool
  gsFrame : Word
  gsTag : Nat
  gsSkip : W16
  gsHist : List GrainEval
  gsLast : Opt
deriving DecidableEq, Repr, Inhabited

end Sys2Proof.Machine
end

