-- ==== Sys2Proof/Machine/StYld.lean ====
section
/-! DEFINITION. The state of the yield mapper (13), and of its stores on UFS. -/

namespace Sys2Proof.Machine

/-- A step entry of the position buffer (13 R338 to R340).  `x`, `y` are the header centre in the field's plane, east and
north in m; `sect` holds the section bits; `ok` says that its pose has POS_VALID and HDG_VALID, `full` that a cell of its sweep could not
be held. -/
structure YldEntry where
  opt : Opt
  dvt : Nat
  dvtSet : Bool
  epoch : W16
  speed : F32
  hdg : F32
  lat : F64
  lon : F64
  height : F64
  x : F64
  y : F64
  working : Bool
  sect : Nat
  d : F64
  w : F64
  ok : Bool
  posInvalid : Bool
  full : Bool
  solMode : Nat
  mode : Nat
  svUsed : Nat
deriving DecidableEq, Repr, Inhabited

/-- A record boundary not yet opened (13 R342): the entry's OPT, whether it is a LOWER or a RAISE, whether the header works
after it, the LOWER of the pass it belongs to or ends, the field in force, and the field whose raster a CLEAR_RASTER empties at its opening. -/
structure YldBound where
  opt : Opt
  lower : Bool
  raised : Bool
  working : Bool
  pass : Option Opt
  field : Word
  clear : Option Word
deriving DecidableEq, Repr, Inhabited

/-- A measurement frame as the mapper uses it (13 R345, R349); `change` carries the old factor, the new factor and the crop
where the frame is the first governed by a new CAL (13 R354); `spent` once its masses have gone to a tail (13 R347). -/
structure YldFrame where
  opt : Opt
  wet : Sig
  dry : Sig
  moist : Sig
  ticks : Nat
  moistHeld : Bool
  degraded : Bool
  calGen : W16
  change : Option (F32 × F32 × Nat)
  crop : Nat
  spent : Bool
deriving DecidableEq, Repr, Inhabited

/-- A yield record open or held (13 R342 to R348).  `pass` is the OPT of the pass's LOWER, `f1` the end of the flow interval
once `h1` is known, masses in g: `wetG` the pooled share once pooled, `tailW` the tail's share; `changes` are the new calibrations its flow interval includes. -/
structure YldRec where
  h0 : Opt
  h1 : Option Opt
  lag : Nat
  lagEst : Bool
  working : Bool
  pass : Option Opt
  afterRaise : Bool
  endsPass : Bool
  last : Option YldEntry
  area : F64
  dist : F64
  wet : F64
  dry : F64
  moistSum : F64
  moistN : Nat
  flags : W16
  f1 : Option Opt
  pooled : Bool
  tailed : Bool
  wetG : Option Int
  dryG : Option Int
  tailW : Int
  tailD : Int
  field : Word
  calGen : W16
  crop : Nat
  changes : List (F32 × F32 × Nat)
deriving DecidableEq, Repr, Inhabited

/-- The tail of a pass whose end has not been shared (13 R347): the pass, its RAISE, and the span of OPT_END. -/
structure YldTail where
  pass : Opt
  raiseAt : Opt
  start : Opt
  stop : Opt
  wet : F64
  dry : F64
deriving DecidableEq, Repr, Inhabited

/-- An open lag sample (13 R349); `bad` once the header has left the state it took. -/
structure LagSample where
  lower : Bool
  opt : Opt
  bad : Bool
deriving DecidableEq, Repr, Inhabited

/-- A time mark waiting for the record after its cause (13 R354); `civil` where the cause is a change of civil epoch. -/
structure TimeMark where
  opt : Opt
  dvt : Nat
  dvtSet : Bool
  epoch : W16
  cvt : Nat
  leap : Nat
  mode : Nat
  civil : Bool
deriving DecidableEq, Repr, Inhabited

/-- A tile of the coverage raster (13 R341): its column and row of tiles, its cells as bits, and whether it has been
marked since the last save. -/
structure Tile where
  col : Int
  row : Int
  cells : Nat
  dirty : Bool
deriving DecidableEq, Repr, Inhabited

/-- A field's raster: the plane's origin (latitude, longitude in degrees) once known, and its tiles. -/
structure Raster where
  origin : Option (F64 × F64)
  tiles : List Tile
deriving DecidableEq, Repr, Inhabited

/-- A TimeLog file (13 R360). -/
structure TlgFile where
  num : Nat
  bin : List Byte
  xml : List Byte
  recs : Nat
  epoch : W16
deriving DecidableEq, Repr, Inhabited

/-- What the yield partition keeps over power cycles (13 R341, R352, R357, R360): stored records, TimeLog files, and field
rasters, least recently selected first. -/
structure YldStore where
  log : List (Nat × List Byte)
  lastSeq : Nat
  files : List TlgFile
  lastFile : Nat
  rasters : List (Nat × Raster)
deriving DecidableEq, Repr, Inhabited

/-- The YLD block.  `taken` is the OPT of the last entry taken; `lastF` is F of the record before the open one; `history`
holds the frames of the last lag window, oldest first, `frames` those not yet counted; `lastMark` is the latest TIME_MARK
written; `clearWanted` is the field whose raster a CLEAR_RASTER names, until the next entry; `rasterAt` is the last save of the raster;
`inbox` is the frame whose window has ended and which has not yet been published (06 R179). -/
structure YldSt where
  buf : List YldEntry
  prev : Option YldEntry
  working : Bool
  sect : Nat
  lowerAt : Option Opt
  bounds : List YldBound
  distSum : F64
  lag : Nat
  lagFromEst : Bool
  est : Nat
  taken : Opt
  openRec : Option YldRec
  held : List YldRec
  lastF : Opt
  flow0 : Opt
  tails : List YldTail
  frames : List YldFrame
  inbox : Option YldFrame
  history : List YldFrame
  lastFrame : Opt
  samples : List LagSample
  accept : W16
  reject : W16
  raster : Raster
  rasterFull : Bool
  field : Word
  fieldInForce : Word
  clearWanted : Option Word
  rasterAt : Opt
  totalWet : F32
  totalArea : F32
  marks : List TimeMark
  lastMark : Option TimeMark
  started : Bool
  firstRec : Bool
  latest : Option (List Byte)
  passLast : Nat
  lastOpt : Opt
  lastDvt : Nat
  lastEpoch : W16
  lastUnset : Bool
  lostCnt : W16
  tlgSkip : Bool
  fileOpen : Bool
  fileField : Word
  winSel : Word
  winPos : Word
deriving DecidableEq, Repr, Inhabited

end Sys2Proof.Machine
end

