-- ==== Sys2Proof/Machine/Inputs.lean ====
section
/-! DEFINITION. The operands of the commands: what the outside world, or a measurement the manual does not compute, brings to
a step. -/

namespace Sys2Proof.Machine

/-- What power-up meets (03 R67): the supply, the time since the last OFF entry in ns, the straps, whether the vendor
signatures of the active and of the trial firmware verify, the answers of D0 to D6 to the challenge (01 R30), the
device certificate and the owner certificate (03 R67, R88), and whether a settings migration succeeds (21 R532). -/
structure PowerIn where
  m : SupplyIn
  sinceOff : Nat
  strap : BitVec 3
  svcEn : Bool
  fwOk : Bool
  trialFwOk : Bool
  answers : BitVec 7
  devCertOk : Bool
  ownerOk : Bool
  migrateOk : Bool
deriving DecidableEq, Repr, Inhabited

/-- A unit that owns state (01 R20, R23). -/
inductive UnitRef where
  | core (n : Fin 8) | proc (n : Fin 8) | slot (n : Fin 128) | loss (n : Fin 16) | nav (n : Fin 384) | cam (n : Fin 6) | pipe (n : Fin 2)
  | can (n : Fin 8) | eth (n : Fin 7) | vlv (n : Fin 48) | psw (n : Fin 40) | fan (n : Fin 8)
deriving DecidableEq, Repr, Inhabited

/-- The owner of a memory word (01 R21): a unit, or the region itself with the SIGREFs of the outputs that depend on it. -/
inductive MemOwner where
  | unit (u : UnitRef) | region (n : Fin 10) (affected : List Nat)
deriving DecidableEq, Repr, Inhabited

/-- What a power die measures for one status frame (01 R28): its VBAT contact in mV, its sensor in °C, the currents of its
10 switch channels and of its 12 valve channels in register units, its two banks' currents in mA, its boost rail in mV,
the junctions of its switch channels in 0.1 °C, for each valve channel whether its duty stays at 100 % short of its target
(15 R404), and for its two tachometers the time in ns between the last two rising edges, none without an edge for 500 ms (17 R436). -/
structure DieStatus where
  vbat : Nat
  temp : Int
  psw : List Nat
  vlv : List Nat
  bank : List Nat
  railMv : Nat
  tj : List Int
  under : List Bool
  tach : List (Option Nat)
deriving DecidableEq, Repr, Inhabited

/-- A cipher suite that a DTLS 1.3 handshake offers (05 R132). -/
inductive CipherSuite where
  | aes256GcmSha384 | other (code : Nat)
deriving DecidableEq, Repr, Inhabited

/-- A key exchange group that it offers. -/
inductive KeyGroup where
  | secp384r1 | other (code : Nat)
deriving DecidableEq, Repr, Inhabited

/-- A signature scheme that it offers. -/
inductive SigScheme where
  | ecdsaSecp384r1Sha384 | other (code : Nat)
deriving DecidableEq, Repr, Inhabited

/-- A DTLS 1.3 handshake (05 R131, R132): its instant, its number, the interface and the UDP port that it came to, whether it is complete,
what it offers, whether it presents a certificate, whether that one chains as R90 asks, and the level of the certificate's extension. -/
structure HandshakeIn where
  opt : Opt
  id : Nat
  port : Nat
  udpPort : Nat
  complete : Bool
  suites : List CipherSuite
  groups : List KeyGroup
  schemes : List SigScheme
  hasCert : Bool
  chains : Bool
  level : Nat
deriving DecidableEq, Repr, Inhabited

/-- A message that may not be accepted (05 R131, R137): a DTLS record that fails authentication, or the bytes of an authenticated datagram's
one record on session `sess`, that reached ETH_B where `pathB`. -/
inductive BadMsgIn where
  | dtls (o : Opt)
  | message (o : Opt) (sess : Fin 8) (pathB : Bool) (bytes : List Byte)
deriving DecidableEq, Repr, Inhabited

/-- What D1 has converted for an input image (06 R163, R164): the cut-off; per AIN input the RAW codes of its 4 conversions, in
the unit of its mode (R166); per sensor supply its voltage at the same instants, in 0.1 mV, and its current in mA; per DIN input
its levels in mV at the 5 sample instants; the latest TS resistances in Ω (an input that cannot be converted is none); and per loss
channel the codes of its samples since the last one that it took, to the cut-off or to the first sample of a hit (07 R195). -/
structure ConvIn where
  opt : Opt
  ain : List (List Nat)
  sup : List (List Nat)
  supMa : List Nat
  din : List (List Nat)
  ts : List (Option F32)
  codes : List (List Int)
deriving DecidableEq, Repr, Inhabited

/-- A hit on a loss channel (07 R195 to R202): the OPT of its first sample, the codes of the channel's samples since the last one that it
took, and the codes of the hit's samples and of those that follow it. -/
structure HitIn where
  opt : Opt
  lead : List Int
  codes : List Int
deriving DecidableEq, Repr, Inhabited

/-- A flow bridge sample (07 R184, 06 R172): the ratio in mV/V and the excitation current in µA. -/
structure BridgeIn where
  s : F32
  excUa : Nat
deriving DecidableEq, Repr, Inhabited

/-- A satellite that could be tracked (10 R272): a Bloodhound or handover signal and a satellite, its predicted elevation in
0.1 ° where a prediction exists, and whether a prediction made within the last 2 s does (R276). -/
structure SkyItem where
  sig : Nat
  sv : Nat
  elev : Option Int
  hot : Bool
deriving DecidableEq, Repr, Inhabited

/-- What one channel measures at an epoch (10 R273, R274): C/N0 in 0.1 dB-Hz, the measurement, whether the lock detectors
pass, phase lock, synchronisation, the phase residual in cycles (R275), and whether the channel has decoded an almanac or an ephemeris (R276). -/
structure MeasIn where
  ch : Nat
  cn0 : Nat
  m : Meas
  locked : Bool
  phaseLock : Bool
  sync : Bool
  resid : F64
  alm : Bool
  eph : Bool
deriving DecidableEq, Repr, Inhabited

/-- A channel whose measurement the solution engine can use at an epoch (10 R272, R278): its satellite's elevation in 0.1 °, whether the base has the
satellite too, whether its integer ambiguity is validated, and whether it has a valid SBAS correction. -/
structure SatIn where
  ch : Nat
  elev : Int
  common : Bool
  keep : Bool
  sbas : Bool
deriving DecidableEq, Repr, Inhabited

/-- What the solution engine finds at an epoch (10 R278 to R285), whose estimator the manual does not give: the position, the channels that it
can use of either antenna, the geometry-free combination in m of pairs of channels (R275), and the antenna-pair vector with its length in mm, a float
vector, validated ambiguities and the satellites common to both antennas that have them. -/
structure SolIn where
  lat : F64
  lon : F64
  height : F64
  sats : List SatIn
  gf : List (Nat × Nat × F64)
  hdgFloat : Bool
  hdgValid : Bool
  hdgCommon : Nat
  hdg : F32
  pitch : F32
  baseLen : F32
  lenMm : Nat
deriving DecidableEq, Repr, Inhabited

/-- What the GNSS receiver tells the timebase at a second (11 R298, R299, R310): the receiver clock solution's time minus DVT in
ns, the whole GPS second that falls at the command's instant where one does (meant while DVT is unset), and the UTC parameters and the announced
leap second of a navigation message: the DVT second at which it applies and the count from then on. -/
structure SecondIn where
  gnss : Int
  gnssSec : Option Nat
  leap : Option Nat
  leapNext : Option (Nat × Nat)
deriving DecidableEq, Repr, Inhabited

/-- A gPTP Sync (11 R298, R313): the offset from the master that the port finds, and the master's time at the command's
instant, in ns of PTP time. -/
structure PtpSyncIn where
  offset : Int
  time : Nat
deriving DecidableEq, Repr, Inhabited

/-- A gPTP Announce (11 R310, R314): whether best-master selection (IEEE 1588) finds it better than the module's own data, and its
currentUtcOffset where it is marked valid. -/
structure AnnounceIn where
  better : Bool
  utcOffset : Option Nat
deriving DecidableEq, Repr, Inhabited

/-- What the fusion filter, whose computation the manual does not give, finds at a pose epoch, in the units of the record (11 R315
to R318): the position of the VRP, the velocity, the vehicle's heading carried on the IMU and course over ground in 0.01 °, pitch
and roll, yaw rate, and the accuracies. -/
structure PoseIn where
  lat : Int
  lon : Int
  height : Int
  vn : Int
  ve : Int
  vd : Int
  speed : Int
  carried : Nat
  course : Nat
  pitch : Int
  roll : Int
  yaw : Int
  hAcc : Nat
  hdgAcc : Nat
deriving DecidableEq, Repr, Inhabited

/-- A CAN error (18 R453, R461, R462): its kind 1 bit, 2 stuff, 3 form, 4 ACK, 5 CRC; whether an exception of ISO 11898-1 spares the
error counter, and the further runs of dominant bits that it counts; whether the controller was sending its own frame, whether another
node signalled the error, the loop delay measured in f_CAN periods (R448), and the frame interrupted after its arbitration field:
identifier, IDE, FDF and the bits received (R464). -/
structure CanErrIn where
  kind : Nat
  spared : Bool
  dom : Nat
  sending : Bool
  other : Bool
  loop : Nat
  broken : Option (Nat × Bool × Bool × List Bool)
deriving DecidableEq, Repr, Inhabited

/-- An UPDATE_RELAY message as it arrives (21 R523, R524; 05 R158, R159): the payload of the publish message, whether that is a fleet
envelope, and the device certificate found for the envelope's serial with whether it chains to the vendor root. -/
structure RelayIn where
  opt : Opt
  env : Bool
  raw : List Byte
  cert : Option DevCert
  chains : Bool
deriving DecidableEq, Repr, Inhabited

end Sys2Proof.Machine
end

