-- ==== Sys2Proof/Syntax.lean ====
section
/-! DEFINITION. The commands of the block: one constructor per row of the table of operations and events. -/

namespace Sys2Proof
open Machine

/-- The commands, in the table's order. -/
inductive Instr where
  /-- IGN_ON (R49). IGN rises above 5.0 V or WAKE_IN becomes active in OFF with VS at least 6.5 V and 50 ms since OFF entry,
    entering POWERUP and starting the power-up sequence. -/
  | ignOn (p : PowerIn)
  /-- POWERUP_RETRY (R69). One second after a failure in step 2 the power-up sequence is retried from step 1. -/
  | powerupRetry (p : PowerIn)
  /-- POWERUP_COMPLETE (R68). The power-up sequence completes, the supply state becomes NORMAL, safe-state ON requests are
    raised and admissions open at the next slot. -/
  | powerupComplete (o : Opt)
  /-- POWERUP_UNDERVOLT (R49). VS below 6.0 V for 10 ms during POWERUP returns the module to OFF without writing anything. -/
  | powerupUndervolt (o : Opt) (m : SupplyIn)
  /-- CRANK_ENTRY (R49). VS falls below 6.0 V in NORMAL or OVERVOLT: admissions close, the crank timer starts and open-load
    and under-current detection are suppressed. -/
  | crankEntry (o : Opt)
  /-- CRANK_EXIT (R49). VS at or above 6.5 V continuously for 10 ms in CRANK returns to NORMAL, clears the crank timer and
    reopens admissions at the next slot boundary. -/
  | crankExit (o : Opt)
  /-- CRANK_TIMEOUT (R49). The crank timer reaches 200 ms and the module enters SHUTDOWN with reason CRANK_TIMEOUT. -/
  | crankTimeout (o : Opt)
  /-- CRANK_UNDERVOLT (R49). VS below 3.5 V for 2 consecutive ticks in CRANK enters SHUTDOWN with reason UNDERVOLT. -/
  | crankUndervolt (o : Opt)
  /-- OVERVOLT_ENTRY (R49). VS above 36.0 V in NORMAL enters OVERVOLT and sets OVV. -/
  | overvoltEntry (o : Opt)
  /-- OVERVOLT_EXIT (R49). VS at or below 35.0 V continuously for 10 ms returns OVERVOLT to NORMAL. -/
  | overvoltExit (o : Opt)
  /-- IGN_OFF_DELAY_EXPIRY (R49). IGN stays below 3.0 V for the IGN-off delay with WAKE_IN inactive and no hold, entering
    SHUTDOWN with reason IGN_OFF or, with HOLD_S set, requesting a Whippet hold. -/
  | ignOffDelayExpiry (o : Opt)
  /-- SHUTDOWN_COMPLETE (R52). The shutdown sequence completes and the logic powers down, entering OFF. -/
  | shutdownComplete (o : Opt)
  /-- HOLD_UP_TAKEOVER (R48). The higher of VLOG and VBAT falls below 3.0 V and the hold-up store takes over the logic
    supply. -/
  | holdUpTakeover (o : Opt) (m : SupplyIn)
  /-- SVC_EN_CHANGE (R70). SVC_EN is read as strapped or open after its 10 ms debounce, arming or disarming the strap-based
    rights. -/
  | svcEnChange (o : Opt) (strapped : Bool)
  /-- MEMORY_UNCORRECTABLE (R21). An uncorrectable memory error faults the owning unit with LAST_ERR 0xF1, or faults the
    region and triggers shutdown or invalid marking. -/
  | memoryUncorrectable (o : Opt) (w : MemOwner)
  /-- MEMORY_CORRECTABLE (R21). A correctable memory error is corrected and recorded in the region's ECC_CE bit. -/
  | memoryCorrectable (o : Opt) (region : Fin 10)
  /-- WINDOW_VIOLATION (R20). A unit's write outside its SRAM window is blocked and puts the writing unit in FAULT with
    LAST_ERR 0xF0. -/
  | windowViolation (o : Opt) (u : UnitRef)
  /-- CLUSTER_RESET (R25). A SYS_CLUSTER_RST write resets a cluster whose units are all disabled, reloads its configuration
    and withdraws its pending snapshots. -/
  | clusterReset (r : HostReq) (v : Word)
  /-- DIE_SUPERVISOR_RESET (R26). A power die's supervisor resets it; its channels take safe states and D0 reloads the die
    configuration. -/
  | dieSupervisorReset (o : Opt) (die : Fin 4)
  /-- POWER_LINK_COMMAND_FRAME (R28). A valid command frame reaches a power die at the tick marker, which applies the
    channel targets and arms or rearms the link watchdog. -/
  | powerLinkCommandFrame (die : Fin 4)
  /-- POWER_LINK_STATUS_FRAME (R28). A power die's status frame carries measured currents, VBAT and unit status to the
    power-status collector. -/
  | powerLinkStatusFrame (die : Fin 4) (f : DieStatus)
  /-- LINK_WATCHDOG_EXPIRY (R28). No valid command frame arrives for the watchdog time and every channel of the die takes
    its safe state on the die's own logic. -/
  | linkWatchdogExpiry (o : Opt) (die : Fin 4)
  /-- DIE_OVERTEMP (R29). A die reaches its absolute junction limit: a power die puts every channel in its safe state, a D0
    to D2 die triggers the orderly shutdown. -/
  | dieOvertemp (o : Opt) (die : Fin 7) (temp : Int)
  /-- DIE_TEMP_RECOVERED (R571). A power die held at its limit cools to 130 °C and its channels leave safe states at the
    next valid command frame. -/
  | dieTempRecovered (o : Opt) (die : Fin 4) (temp : Int)
  /-- DIE_HOT (R424). A die sensor reaching 135 °C sets DIE_HOT and latches channels whose junction is at or above TJ_SHED. -/
  | dieHot (o : Opt) (die : Fin 4) (temp : Int) (tj : List Int)
  /-- ADMISSION_PASS (R61). At each open slot boundary waiting start requests are admitted in order of class, OPT and unit
    until one fails the peak or rise check. -/
  | admissionPass
  /-- RELEASE_GROUP (R79). A release group's condition first holds and the group is released at the next tick, its outputs
    leaving their safe states. -/
  | releaseGroup (g : Fin 16)
  /-- RELEASE_FOLLOW_LAPSE (R80). A FOLLOW group's condition stops holding and its outputs return to their safe states at
    the next tick. -/
  | releaseFollowLapse (g : Fin 16)
  /-- RELEASE_CMD (R94). A SYS_RELEASE_CMD write satisfies RONREX conditions, or in service hold releases groups from a
    SERVICE session. -/
  | releaseCmd (r : HostReq) (v : Word)
  /-- WAKE_CMD (R59). A SYS_WAKE write changes WAKE_CMD, asserting WAKE_OUT as a start request or turning it off at the next
    tick. -/
  | wakeCmd (r : HostReq) (v : Word)
  /-- WAKE_OUT_TRIP (R59). WAKE_OUT stays in its current limit for 10 ms and is switched off with TRIP set. -/
  | wakeOutTrip (o : Opt)
  /-- TICK_START (R214). At each tick CTL applies commit groups, commands and enables, latches the input image, advances
    profile generators and starts computations. -/
  | tickStart (m : SupplyIn)
  /-- TICK_ALIGNMENT (R304). The slewed tick reaches the DVT grid, TICK_SEC is renumbered and ALIGNED is set. -/
  | tickAlignment
  /-- LOOP_COMPUTATION_DONE (R218). A loop processor finishes its computations and posts results with their output instants
    to the loop output collector. -/
  | loopComputationDone (o : Opt) (slot : Fin 128) (clocks : Nat)
  /-- LOOP_OVERRUN (R221). A computation unfinished at its deadline is abandoned, the previous output held and CONSEC
    incremented, faulting the slot at N_OVR. -/
  | loopOverrun (slot : Fin 128)
  /-- LOOP_PROCESSOR_DOWN (R223). A loop processor leaves RUN and every slot it hosts enters FAULT with LAST_ERR 0x03. -/
  | loopProcessorDown (o : Opt) (proc : Fin 8)
  /-- LOOP_AUTO (R240). LOOP_COMMAND AUTO puts a slot in AUTO by a transfer at its next sample instant. -/
  | loopAuto (r : HostReq) (slot : W16) (value : F32)
  /-- LOOP_MANUAL (R240). LOOP_COMMAND MANUAL puts a slot in MANUAL starting from VALUE or u_p. -/
  | loopManual (r : HostReq) (slot : W16) (value : F32)
  /-- LOOP_SET_MANUAL (R240). LOOP_COMMAND SET_MANUAL sets the manual value of a slot in MANUAL. -/
  | loopSetManual (r : HostReq) (slot : W16) (value : F32)
  /-- LOOP_RESTART (R240). LOOP_COMMAND RESTART takes a faulted slot back to AUTO by a transfer. -/
  | loopRestart (r : HostReq) (slot : W16) (value : F32)
  /-- LOOP_ENABLE (R240). LOOP_COMMAND ENABLE enables a slot at the next tick. -/
  | loopEnable (r : HostReq) (slot : W16) (value : F32)
  /-- LOOP_DISABLE (R240). LOOP_COMMAND DISABLE disables a slot at the next tick. -/
  | loopDisable (r : HostReq) (slot : W16) (value : F32)
  /-- LOOP_CNT_CLEAR (R244). A LOP_CNT_CLR write clears both counters of the named slots. -/
  | loopCntClear (r : HostReq) (k : Fin 4) (v : Word)
  /-- TEST_STALL (R244). A LOP_TEST_STALL write arms or disarms the withholding of a slot's next results. -/
  | testStall (r : HostReq) (v : Word)
  /-- TICK_LATCH (R244). A read of LOP_TICK_LO latches the high half of TICK for the next read of LOP_TICK_HI. -/
  | tickLatch (r : HostReq)
  /-- MF_SET_MODE (R263). MF_COMMAND SET_MODE changes a machine function's mode. -/
  | mfSetMode (r : HostReq) (mf : Byte) (mode : Byte) (value : F32)
  /-- MF_TARGET (R263). MF_COMMAND TARGET delivers a host target to a machine function. -/
  | mfTarget (r : HostReq) (mf : Byte) (arg : Byte) (value : F32)
  /-- MF_MANUAL_VALUE (R263). MF_COMMAND MANUAL_VALUE sets a machine function's manual value. -/
  | mfManualValue (r : HostReq) (mf : Byte) (arg : Byte) (value : F32)
  /-- MF_INTERLOCK_CLEAR (R256). The interlock has held for ILK_CLEAR_MS and the function returns to OVERRIDE or rearms to
    NORMAL. -/
  | mfInterlockClear (mf : Fin 48)
  /-- MF_CNT_CLEAR (R268). A PRF_MF_CNT_CLR write clears ILK_CNT and CLAMP_CNT of the named functions. -/
  | mfCntClear (r : HostReq) (k : Fin 2) (v : Word)
  /-- SM_STEP (R116). A state machine snapshots its signals, takes events, fires transitions and delivers its writes in one
    step. -/
  | smStep (o : Opt) (m : Fin 64) (late : Bool)
  /-- SM_TIMER_EXPIRY (R113). A state-machine timer expires and queues a TIMER event with its expiry OPT. -/
  | smTimerExpiry (o : Opt) (m : Fin 64) (timer : Byte)
  /-- SM_EVENT (R119). A SYS_SM_EVENT write queues a COMMAND event for a machine. -/
  | smEvent (r : HostReq) (v : Word)
  /-- MACHINE_EVENT (R149). The Ronrex MACHINE_EVENT operation queues a COMMAND event for a machine. -/
  | machineEvent (r : HostReq) (machine : Byte) (event : W16)
  /-- CAN_TX_BUILD (R127). At its period a CAN_TX FORMAT frame is packed from one set of values and handed to the transmit
    queue. -/
  | canTxBuild (table : W16)
  /-- COMMIT (R82). A COMMIT takes a snapshot of a group's shadow, or is refused with COMMIT_PENDING. -/
  | commit (r : HostReq) (group : W16)
  /-- COMMIT_CHECK_DONE (R82). The agreement rules of a snapshot have been checked and it is withdrawn with COMMIT_REFUSED
    or waits for its boundary. -/
  | commitCheckDone (o : Opt) (group : W16)
  /-- COMMIT_APPLY (R82). At the group's first boundary after the check the snapshot is applied and the COMMIT completes
    with OK. -/
  | commitApply (group : W16)
  /-- COMMIT_TIMEOUT (R85). No boundary arrives within the commit deadline, the snapshot is withdrawn and the COMMIT
    completes with COMMIT_TIMEOUT. -/
  | commitTimeout (o : Opt) (group : W16)
  /-- DISCARD (R153). DISCARD copies a group's live values into its shadow. -/
  | discard (r : HostReq) (group : W16)
  /-- SHADOW_READ (R153). SHADOW_READ returns the pending flag and the shadow and live values of a group. -/
  | shadowRead (r : HostReq) (group : W16)
  /-- SESSION_HANDSHAKE (R132). A DTLS 1.3 handshake with mutual certificate authentication opens a session at the
    certificate's level. -/
  | sessionHandshake (h : HandshakeIn)
  /-- HANDSHAKE_TIMEOUT (R132). A handshake not completed within 5 s is abandoned. -/
  | handshakeTimeout (o : Opt) (id : Nat)
  /-- DTLS_CLOSE (R135). A DTLS close ends the session, its subscriptions and rings. -/
  | dtlsClose (o : Opt) (sess : Fin 8)
  /-- IDLE_CLOSE (R134). No authenticated message arrives for IDLE_CLOSE and the session is closed. -/
  | idleClose (o : Opt) (sess : Fin 8)
  /-- BAD_MESSAGE (R137). A message with bad MAGIC, LENGTH, authentication or SEQ is discarded and counted in BAD_MSG_CNT. -/
  | badMessage (m : BadMsgIn)
  /-- HELLO (R140). HELLO agrees features and message size and opens the session for work. -/
  | hello (r : HostReq) (features : BitVec 256) (maxMsg : W16)
  /-- BYE (R149). BYE is answered and the session closes. -/
  | bye (r : HostReq)
  /-- PING (R149). PING returns the current OPT and DVT. -/
  | ping (r : HostReq)
  /-- RING_OPEN (R144). RING_OPEN assigns a hardware ring to the session with its mode and limit. -/
  | ringOpen (r : HostReq) (ring : W16) (mode : Byte) (limit : W16)
  /-- RING_CLOSE (R144). RING_CLOSE closes a ring once all its operations have completed. -/
  | ringClose (r : HostReq) (ring : W16)
  /-- REG_READ (R150). REG_READ returns COUNT registers of one block read in one clock. -/
  | regRead (r : HostReq) (addr : Word) (count : W16)
  /-- REG_WRITE (R150). REG_WRITE checks and writes COUNT registers all together or none, for registers without a row of
    their own. -/
  | regWrite (r : HostReq) (addr : Word) (values : List Word)
  /-- REG_MODIFY (R151). REG_MODIFY merges a masked value into a register or its shadow in one step and returns the old
    value. -/
  | regModify (r : HostReq) (addr mask value : Word)
  /-- REG_BATCH_READ (R152). REG_BATCH_READ returns N scattered registers, each block read in one clock. -/
  | regBatchRead (r : HostReq) (addrs : List Word)
  /-- REG_BATCH_WRITE (R152). REG_BATCH_WRITE checks and writes N address-value pairs across blocks all or none. -/
  | regBatchWrite (r : HostReq) (pairs : List (Word × Word))
  /-- TABLE_DIR_READ (R154). TABLE_DIR_READ returns directory entries of the image in force. -/
  | tableDirRead (r : HostReq) (first count : W16)
  /-- TABLE_READ (R154). TABLE_READ returns a span of a table body. -/
  | tableRead (r : HostReq) (table : W16) (offset : Word) (len : Word)
  /-- SUBSCRIBE (R156). SUBSCRIBE opens a publish stream subscription, refusing envelope rates above 400 per second. -/
  | subscribe (r : HostReq) (stream : Byte) (env : Byte) (decim : W16) (inst : W16)
  /-- UNSUBSCRIBE (R149). UNSUBSCRIBE ends a subscription. -/
  | unsubscribe (r : HostReq) (sub : W16)
  /-- TOKEN_CHALLENGE (R91). TOKEN_CHALLENGE issues a 16-byte nonce to a SERVICE session. -/
  | tokenChallenge (r : HostReq)
  /-- TOKEN_PRESENT (R92). TOKEN_PRESENT checks a token against the nonce and owner key and grants its actions, including
    owner transfer. -/
  | tokenPresent (r : HostReq) (token : List Byte) (chainOk : Bool)
  /-- NONCE_EXPIRY (R91). An outstanding nonce expires 300 s after issue. -/
  | nonceExpiry (o : Opt) (sess : Fin 8)
  /-- TOKEN_GRANT_EXPIRY (R93). The 300 s grant of a token's actions, including the FREEZE arming, ends. -/
  | tokenGrantExpiry (o : Opt) (sess : Fin 8)
  /-- RTCM_IN (R283). RTCM_IN delivers RTCM frames to the Ronrex correction source and reports frames accepted and rejected. -/
  | rtcmIn (r : HostReq) (data : List Byte)
  /-- RTCM_FRAME (R279). A deframed RTCM 10403 frame with a correct CRC is taken into the correction source. -/
  | rtcmFrame (o : Opt) (src : Fin 2)
  /-- TIME_SET_CVT_SET (R312). TIME_SET CVT_SET sets CVT in HOST mode and increments the civil epoch. -/
  | timeSetCvtSet (r : HostReq) (value : BitVec 64)
  /-- TIME_SET_CVT_FOLLOW (R312). TIME_SET CVT_FOLLOW returns CVT to DERIVED mode. -/
  | timeSetCvtFollow (r : HostReq)
  /-- TIME_SET_AIDING (R312). TIME_SET AIDING gives an estimated DVT for input-pulse labels and warm searches. -/
  | timeSetAiding (r : HostReq) (value : BitVec 64)
  /-- TIME_SET_LEAP (R312). TIME_SET LEAP gives a leap count when no GNSS or PTP value is present. -/
  | timeSetLeap (r : HostReq) (leap : Byte)
  /-- HOST_SILENCE_EXPIRY (R161). No qualifying message for HOST_SILENCE: the host becomes ABSENT and every block applies
    its HOST_ABSENCE section. -/
  | hostSilenceExpiry (o : Opt)
  /-- HOST_RETURN (R161). A qualifying message while ABSENT returns the state to PRESENT and each block follows its return
    rule. -/
  | hostReturn (o : Opt)
  /-- INPUT_IMAGE_PUBLISH (R163). SNS writes the input image of the next tick into the CTL mailbox from conversions before
    the cut-off. -/
  | inputImagePublish (c : ConvIn)
  /-- MEAS_FRAME_PUBLISH (R179). SNS publishes measurement frame n with inputs, flow, loss counts and pose before the 10 ms
    boundary. -/
  | measFramePublish (o : Opt)
  /-- SHUNT_DISCONNECT (R168). A 4 to 20 mA input above 25 mA for 1 ms disconnects its shunt for 1 s and sets SHUNT_OFF. -/
  | shuntDisconnect (o : Opt) (ch : Fin 24)
  /-- SHUNT_RECONNECT (R168). After 1 s the shunt is reconnected and the input is judged again. -/
  | shuntReconnect (o : Opt) (ch : Fin 24)
  /-- FIN_ZERO_TIMEOUT (R169). No counted edge within ZERO_MS sets a FIN input to 0.0 Hz valid with ZERO set. -/
  | finZeroTimeout (o : Opt) (ch : Fin 24)
  /-- FIN_POS_CLEAR (R183). A SNS_FIN_POS_CLR write zeroes quadrature counts at the next cut-off. -/
  | finPosClear (r : HostReq) (v : Word)
  /-- SUP5_TRIP (R176). A sensor supply 2 ms in its current limit trips off, setting TRIP_SEEN and incrementing TRIP_CNT. -/
  | sup5Trip (o : Opt) (ch : Fin 4)
  /-- SUP5_RETRY (R176). One second after a trip the sensor supply retries. -/
  | sup5Retry (o : Opt) (ch : Fin 4)
  /-- IMU_TIMEOUT (R175). No IMU sample arrives for 5 ms and the IMU is marked invalid. -/
  | imuTimeout (o : Opt)
  /-- CAL_START (R194). FLW_CAL_CMD START begins a calibration run at the next window boundary. -/
  | calStart (r : HostReq) (v : Word)
  /-- CAL_STOP (R194). FLW_CAL_CMD STOP stops a running calibration. -/
  | calStop (r : HostReq) (v : Word)
  /-- CAL_ENTER (R194). FLW_CAL_CMD ENTER checks the run and updates CAL from the weighed mass or gives a failure result. -/
  | calEnter (r : HostReq) (v : Word)
  /-- CAL_ABORT (R194). FLW_CAL_CMD ABORT abandons a calibration run. -/
  | calAbort (r : HostReq) (v : Word)
  /-- TARE (R194). FLW_CAL_CMD TARE starts a tare of the flow bridges. -/
  | tare (r : HostReq) (v : Word)
  /-- TARE_COMPLETE (R194). TARE_S elapses and the tare is accepted or rejected as noisy. -/
  | tareComplete (o : Opt)
  /-- LOSS_HIT (R198). A loss-channel hit ends its dead time, is classified and counted in its window. -/
  | lossHit (ch : Fin 16) (h : HitIn)
  /-- LOSS_INPUT_FAULT (R199). A charge amplifier input outside its window for 100 ms puts the loss channel in FAULT. -/
  | lossInputFault (o : Opt) (ch : Fin 16)
  /-- LOSS_INPUT_RECOVER (R199). The input level stays inside its window for 1 s and the loss channel returns to RUN. -/
  | lossInputRecover (o : Opt) (ch : Fin 16)
  /-- LOSS_CNT_CLEAR (R212). A FLW_LS_CNT_CLR write clears both counters of the named loss channels. -/
  | lossCntClear (r : HostReq) (v : Word)
  /-- LOSS_SPECTRUM_PUBLISH (R207). Each DVT second a loss spectrum body per channel is published. -/
  | lossSpectrumPublish (o : Opt)
  /-- NAV_ALLOCATOR (R272). The allocator gives free enabled channels to wanted triples without one. -/
  | navAllocator (o : Opt) (sky : List SkyItem)
  /-- MEASUREMENT_EPOCH (R274). At each 1 ms epoch every tracking channel writes one measurement into the collector. -/
  | measurementEpoch (o : Opt) (ms : List MeasIn) (rf : List RfSt) (antMa : List Nat)
  /-- ACQ_PASS_END (R277). An acquisition pass ends, reporting detections and completing searches. -/
  | acqPassEnd (o : Opt) (found : List (Nat × SearchCell))
  /-- PULLIN_LOCK (R273). Lock detectors pass for 20 consecutive epochs and the channel enters TRACK. -/
  | pullinLock (o : Opt) (ch : Fin 384)
  /-- PULLIN_TIMEOUT (R273). 200 ms in PULLIN releases the channel with LAST_ERR 0x02. -/
  | pullinTimeout (o : Opt) (ch : Fin 384)
  /-- LOSS_OF_LOCK (R273). C/N0 below 24 dB-Hz for 200 ms or phase lock lost for 50 ms puts a tracking channel in COAST. -/
  | lossOfLock (o : Opt) (ch : Fin 384)
  /-- COAST_SEARCH (R273). Every 100 ms in COAST a Bloodhound channel queues a hot search. -/
  | coastSearch (o : Opt) (ch : Fin 384)
  /-- COAST_TIMEOUT (R273). 2 s in COAST releases the channel. -/
  | coastTimeout (o : Opt) (ch : Fin 384)
  /-- SOLUTION_EPOCH (R278). The RTK and fusion engine forms a solution and heading of the best supported mode. -/
  | solutionEpoch (o : Opt) (sol : SolIn)
  /-- WHIPPET_REQUEST (R286). NAV_CTRL REQ WHIPPET enters Whippet and drops ambiguities. -/
  | whippetRequest (r : HostReq) (v : Word)
  /-- WHIPPET_NORMAL (R286). NAV_CTRL REQ NORMAL leaves Whippet with hot searches. -/
  | whippetNormal (r : HostReq) (v : Word)
  /-- COLD_RESTART (R293). NAV_CTRL COLD_RESTART clears almanac, ephemerides and position and releases every channel. -/
  | coldRestart (r : HostReq) (v : Word)
  /-- WHIPPET_BURST (R287). At each DVT second in Whippet path 0 runs for BURST_MS with hot searches and one SPP solution. -/
  | whippetBurst (o : Opt)
  /-- WHIPPET_HOLD_END (R286). HOLD_S elapses or VS stays below VMIN for 1 s and the shutdown hold is withdrawn. -/
  | whippetHoldEnd (o : Opt)
  /-- ANTENNA_SHORT (R37). Antenna bias above 100 mA switches the port's bias off and reports a short. -/
  | antennaShort (o : Opt) (ant : Fin 2) (ma : Nat)
  /-- ANTENNA_RETRY (R37). Once per second a shorted antenna bias is retried. -/
  | antennaRetry (o : Opt) (ant : Fin 2) (ma : Nat)
  /-- NAV_CH_CNT_CLEAR (R293). A NAV_CH_CNT_CLR write clears both counters of the named channels. -/
  | navChCntClear (r : HostReq) (k : Fin 12) (v : Word)
  /-- TIMEBASE_SECOND (R301). At each second the active source is chosen, ERR measured, the slew set and the timebase state
    updated. -/
  | timebaseSecond (o : Opt) (t : SecondIn)
  /-- SOURCE_LOST (R298). A time source's loss timeout expires and the source stops qualifying. -/
  | sourceLost (o : Opt) (src : Fin 3)
  /-- HOLDOVER_LIMIT_EXPIRY (R301). HOLD_LIMIT elapses in HOLDOVER and the state becomes FREE. -/
  | holdoverLimitExpiry (o : Opt)
  /-- LEAP_SECOND (R310). An announced leap second is applied at the end of the UTC day, stepping CVT in DERIVED mode. -/
  | leapSecond (o : Opt)
  /-- TIMEPULSE_EDGE (R305). TIMEPULSE_OUT marks a DVT second and its pulse status registers are updated. -/
  | timepulseEdge (o : Opt)
  /-- TIMEPULSE_IN_EDGE (R308). An edge on TIMEPULSE_IN is timestamped and labelled. -/
  | timepulseInEdge (o : Opt) (rising : Bool)
  /-- PTP_SYNC (R313). A gPTP Sync message is received and the offset from master measured. -/
  | ptpSync (o : Opt) (p : PtpSyncIn)
  /-- CABLE_DELAY_WRITE (R306). A TIM_PULSE_CFG write starts a walk of CABLE_DELAY at 1 µs per pulse. -/
  | cableDelayWrite (r : HostReq) (v : Word)
  /-- TIM_OPT_LATCH (R322). A read of TIM_OPT_LO latches OPT, DVT and CVT at one instant. -/
  | timOptLatch (r : HostReq)
  /-- POSE_EPOCH (R317). Every 10 ms the fused pose record is formed and delivered to SNS, CTL and SVC. -/
  | poseEpoch (o : Opt) (p : PoseIn)
  /-- GUIDANCE_EPOCH (R331). At each pose epoch steering errors, readiness and the steering state are evaluated and a target
    computed. -/
  | guidanceEpoch (o : Opt) (late : Bool)
  /-- STEERING_TARGET_APPLY (R329). 120 ticks after its epoch the steering target or mode write is applied to the function. -/
  | steeringTargetApply
  /-- STEER_LATE_DISENGAGE (R329). Five consecutive late epochs disengage steering with reason POSE. -/
  | steerLateDisengage (o : Opt)
  /-- STEER_COAST_TIMEOUT (R331). COAST_MS elapses in COAST and steering disengages with QUALITY. -/
  | steerCoastTimeout (o : Opt)
  /-- STEER_TAKEOVER (R330). TAKEOVER_SRC beyond its threshold for TAKEOVER_MS makes takeover active and disengages with
    OPERATOR. -/
  | steerTakeover (o : Opt)
  /-- ENGAGE (R331). STR_CMD ENGAGE requests engagement at the next guidance epoch. -/
  | engage (r : HostReq) (v : Word)
  /-- DISENGAGE (R331). STR_CMD DISENGAGE disengages steering with reason COMMAND. -/
  | disengage (r : HostReq) (v : Word)
  /-- YIELD_ENTRY (R338). Every 50 ms a position entry is added to the lag buffer and the coverage raster swept. -/
  | yieldEntry (o : Opt)
  /-- RECORD_OPENING (R342). The present OPT reaches a boundary plus the lag and a yield record opens, applying the yield
    group. -/
  | recordOpening (o : Opt)
  /-- YIELD_RECORD_WRITE (R348). A complete, unheld yield record is written, logged, published and turned into a TimeLog
    record. -/
  | yieldRecordWrite (o : Opt)
  /-- TAIL_END (R347). T_e is reached and the tail masses are shared among the empty-window records. -/
  | tailEnd (o : Opt)
  /-- LAG_SAMPLE (R349). A lag sample window closes and the sample updates or is rejected from the lag estimate. -/
  | lagSample (o : Opt)
  /-- RASTER_SAVE (R341). Every 10 s tiles marked since the last save are written to UFS. -/
  | rasterSave (o : Opt)
  /-- FIELD_SELECT (R341). A YLD_FIELD write selects a field, loading or starting its raster at the next entry. -/
  | fieldSelect (r : HostReq) (v : Word)
  /-- CLEAR_RASTER (R342). YLD_CMD CLEAR_RASTER empties the raster of the field in force at the opening its boundary
    produces. -/
  | clearRaster (r : HostReq) (v : Word)
  /-- RESET_TOTALS (R365). YLD_CMD RESET_TOTALS resets the wet mass and area totals. -/
  | resetTotals (r : HostReq) (v : Word)
  /-- LOG_TRIM (R365). A YLD_LOG_TRIM write deletes stored yield records below a SEQ. -/
  | logTrim (r : HostReq) (v : Word)
  /-- TLG_TRIM (R365). A YLD_TLG_TRIM write deletes TimeLog files below a number. -/
  | tlgTrim (r : HostReq) (v : Word)
  /-- CAM_ENABLE (R370). A VIS_CAM_EN write enables or disables ports, sending the INIT entries and exposure set at enable. -/
  | camEnable (r : HostReq) (v : Word)
  /-- FRAME_START (R368). A frame start packet is stamped, FRAME_CNT increments and the settings cut-off sends any new
    exposure set. -/
  | frameStart (o : Opt) (cam : Fin 6)
  /-- I2C_BURST_LATE (R381). The settings burst has not finished by frame start plus CUT_US and LATE_CNT increments. -/
  | i2cBurstLate (o : Opt) (cam : Fin 6)
  /-- FRAME_END (R369). A frame ends and is accepted or dropped whole with its reason. -/
  | frameEnd (o : Opt) (cam : Fin 6) (f : CamFrame)
  /-- CAMERA_LINK_LOSS (R366). A camera link fails to lock or loses lock and the port goes to FAULT. -/
  | cameraLinkLoss (o : Opt) (cam : Fin 6)
  /-- CAMERA_LINK_RETRY (R366). Once per second an enabled faulted port retries link lock. -/
  | cameraLinkRetry (o : Opt) (cam : Fin 6) (locked : Bool)
  /-- PIPELINE_TAKE_FRAME (R377). A free pipeline takes the ready memory-path frame with the earliest frame start. -/
  | pipelineTakeFrame (o : Opt) (pipe : Fin 2)
  /-- PIPELINE_FRAME_DONE (R374). A frame's pass through the pipeline completes with its statistics and output posted. -/
  | pipelineFrameDone (o : Opt) (pipe : Fin 2) (memory : Bool)
  /-- TAP_ARM (R373). A VIS_TAP_CFG write with ARM 1 arms a raw tap or is refused for DRAM load. -/
  | tapArm (r : HostReq) (pipe : Fin 2) (v : Word)
  /-- TAP_DISARM (R373). A VIS_TAP_CFG write with ARM 0 disarms a raw tap. -/
  | tapDisarm (r : HostReq) (pipe : Fin 2) (v : Word)
  /-- VIS_WINDOW_LATCH (R375). A VIS_WIN_SEL write latches statistics, tap buffer or output frame into the read window. -/
  | visWindowLatch (r : HostReq) (v : Word)
  /-- VIS_WINDOW_RELEASE (R375). 10 s without a window read releases the latched buffer. -/
  | visWindowRelease (o : Opt)
  /-- CAM_CNT_CLEAR (R390). A VIS_CAM_CNT_CLR write clears the counters of the named cameras. -/
  | camCntClear (r : HostReq) (v : Word)
  /-- GRAIN_SAMPLE_EVAL (R385). The grain-sample service evaluates a whole output frame into its indices, skipping frames
    while busy. -/
  | grainSampleEval (o : Opt) (g : GrainEval)
  /-- MICROCODE_ADVANCE (R402). Every 20 µs the bank engine advances each active channel by up to 8 instructions. -/
  | microcodeAdvance (o : Opt) (bank : Fin 8) (ma : List Nat)
  /-- BOOST_CUT (R398). A boost phase reaching the end of its booking is ended, setting BOOST_CUT. -/
  | boostCut (o : Opt) (ch : Fin 48)
  /-- VALVE_REFUSE_RETRY (R399). REFUSE_RETRY_MS after a refusal a channel with nonzero CMD restarts its program. -/
  | valveRefuseRetry (o : Opt) (ch : Fin 48)
  /-- VALVE_SHORT (R409). Valve current above 12 A switches the channel off within 5 µs into FAULT. -/
  | valveShort (o : Opt) (ch : Fin 48)
  /-- VALVE_OPEN_LOAD (R409). Current below 5 % of target at high duty for OPEN_MS sets OPEN. -/
  | valveOpenLoad (o : Opt) (ch : Fin 48)
  /-- VALVE_CLAMP_OVERLOAD (R409). A clamp event above 200 mJ or 1.0 W over 1 s faults the valve channel. -/
  | valveClampOverload (o : Opt) (ch : Fin 48)
  /-- VALVE_OVERTEMP (R409). A valve junction above 170 °C faults the channel. -/
  | valveOvertemp (o : Opt) (ch : Fin 48)
  /-- BANK_SWITCH_OVERCURRENT (R409). Bank switch current above 20 A for 10 µs faults the switch and all its channels. -/
  | bankSwitchOvercurrent (o : Opt) (bank : Fin 8)
  /-- REG_SHORTFALL (R404). UNDERSUPPLY held for 100 ms outside CRANK increments REG_CNT. -/
  | regShortfall (o : Opt) (ch : Fin 48)
  /-- VALVE_RUNAWAY (R402). 64 consecutive advances ending on the instruction limit fault the channel. -/
  | valveRunaway (o : Opt) (ch : Fin 48)
  /-- SAFE_HOLD_EXPIRY (R408). SAFE_HOLD_S after link loss or shutdown a CURRENT safe state changes to OFF. -/
  | safeHoldExpiry (o : Opt) (ch : Fin 48)
  /-- VALVE_RESTART (R394). VLV_CMD RESTART gives a channel a new command at its BOOST entry or leaves HOLD. -/
  | valveRestart (r : HostReq) (v : Word)
  /-- VALVE_CLEAR (R409). VLV_CMD CLEAR clears a channel fault and re-enters RUN. -/
  | valveClear (r : HostReq) (v : Word)
  /-- VALVE_CLEAR_BANK (R409). VLV_CMD CLEAR_BANK clears a bank switch fault and its six channels. -/
  | valveClearBank (r : HostReq) (v : Word)
  /-- LEGACY_DUTY_WRITE (R407). A VLV_LEGACY_DUTY write sets a legacy channel's duty at the next tick. -/
  | legacyDutyWrite (r : HostReq) (ch : Fin 48) (v : Word)
  /-- VALVE_CNT_CLEAR (R414). A VLV_CNT_CLR write clears every counter of the named channels. -/
  | valveCntClear (r : HostReq) (k : Fin 2) (v : Word)
  /-- INRUSH_END (R421). INRUSH_MS elapses and the switch channel passes to ON. -/
  | inrushEnd (o : Opt) (ch : Fin 40)
  /-- PSW_SHORT_TRIP (R418). Current reaches SHORT_A or limits with low output and the channel trips off within 10 µs. -/
  | pswShortTrip (o : Opt) (ch : Fin 40)
  /-- PSW_OVERLOAD_TRIP (R418). Current above CONT_A for OVL_MS of on-time trips the channel. -/
  | pswOverloadTrip (o : Opt) (ch : Fin 40)
  /-- PSW_RETRY_EXPIRY (R421). The retry timer expires and a tripped channel with nonzero command raises a start request. -/
  | pswRetryExpiry (o : Opt) (ch : Fin 40)
  /-- PSW_RETRY_RESET (R421). RETRY_RESET_S in ON without a trip resets RETRIES to 0. -/
  | pswRetryReset (o : Opt) (ch : Fin 40)
  /-- PSW_OPEN_LOAD (R419). Current below OPEN_A for OPEN_MS of on-time sets OPEN. -/
  | pswOpenLoad (o : Opt) (ch : Fin 40)
  /-- PSW_OPEN_CLEAR (R419). 100 ms of on-time at or above OPEN_A clears OPEN. -/
  | pswOpenClear (o : Opt) (ch : Fin 40)
  /-- PSW_CLAMP_OVERLOAD (R420). A clamp event above the class energy or power puts the switch channel in FAULT. -/
  | pswClampOverload (o : Opt) (ch : Fin 40)
  /-- THERMAL_LATCH (R423). A junction reaching 170 °C sets the thermal latch and switches the channel off within 10 µs. -/
  | thermalLatch (o : Opt) (ch : Fin 40) (tj : Int)
  /-- LATCH_RELEASE (R423). The latch is released when the junction is at or below TJ_REL and the latch has been cleared. -/
  | latchRelease (o : Opt) (ch : Fin 40) (tj : Int)
  /-- PSW_REFUSE_RETRY (R421). REFUSE_RETRY_MS in REFUSED with nonzero command raises a new start request. -/
  | pswRefuseRetry (o : Opt) (ch : Fin 40)
  /-- PSW_CLEAR (R421). PSW_CMD CLEAR clears a FAULT to IDLE or LATCHED. -/
  | pswClear (r : HostReq) (v : Word)
  /-- PSW_CLEAR_LATCH (R423). PSW_CMD CLEAR_LATCH clears the thermal latch or remembers it in CLR_PEND. -/
  | pswClearLatch (r : HostReq) (v : Word)
  /-- PSW_RESTART (R421). PSW_CMD RESTART raises a new start request from REFUSED. -/
  | pswRestart (r : HostReq) (v : Word)
  /-- PSW_CNT_CLEAR (R431). A PSW_CNT_CLR write clears every counter of the named channels. -/
  | pswCntClear (r : HostReq) (k : Fin 2) (v : Word)
  /-- SAFE_STATE_TURN_ON (R426). A die turns on one safe-state ON channel per 2 ms in ascending order without the budget. -/
  | safeStateTurnOn (o : Opt) (die : Fin 4)
  /-- COOLING_DEMAND (R432). At each 10 ms boundary the cooling demand and applied duty of each channel are evaluated. -/
  | coolingDemand (o : Opt)
  /-- SPIN_TIMEOUT (R436). The 3 s spin timer elapses, reaching RUNNING, PAUSE or FAILED_BLOCKED by speed and attempt. -/
  | spinTimeout (o : Opt) (ch : Fin 8)
  /-- SPIN_REACHED (R436). In SPINUP the speed reaches SPIN_RPM and the channel enters RUNNING. -/
  | spinReached (o : Opt) (ch : Fin 8)
  /-- PAUSE_END (R436). The 5 s pause ends and a new spin-up is requested or the channel stops. -/
  | pauseEnd (o : Opt) (ch : Fin 8)
  /-- TACH_LOSS (R436). Speed below LOSS_RPM for 2 s in RUNNING enters FAILED_TACH at full duty. -/
  | tachLoss (o : Opt) (ch : Fin 8)
  /-- TACH_RECOVERY (R436). Speed at or above SPIN_RPM for 10 s returns FAILED_TACH to RUNNING. -/
  | tachRecovery (o : Opt) (ch : Fin 8)
  /-- COOLING_REFUSE_RETRY (R436). REFUSE_RETRY elapses in REFUSED and a new request is raised. -/
  | coolingRefuseRetry (o : Opt) (ch : Fin 8)
  /-- COOLING_CLEAR (R436). COL_CMD CLEAR returns a failed cooling channel to STOPPED. -/
  | coolingClear (r : HostReq) (v : Word)
  /-- COOLING_CNT_CLEAR (R444). A COL_CNT_CLR write clears both counters of the named channels. -/
  | coolingCntClear (r : HostReq) (v : Word)
  /-- SHDN_COMPARATOR_TRIP (R439). TS14 or TS15 above the strap threshold for 100 ms drives SHDN_N low. -/
  | shdnComparatorTrip (o : Opt) (ts15 : Bool)
  /-- SHDN_ASSERTED (R440). At the first tick with SHDN set the module sends recorder notice SHDN_ASSERTED. -/
  | shdnAsserted (o : Opt)
  /-- CAN_FRAME (R451). A frame completes validly on a bus and is written as an RX or TX_OK ring entry. -/
  | canFrame (o : Opt) (ch : Fin 8) (sof : Opt) (f : CanFrame) (own competed : Bool) (loop : Nat) (bits : List Bool)
  /-- CAN_ERROR (R462). A detected CAN error writes an ERROR entry and moves the error counters and bus state. -/
  | canError (o : Opt) (ch : Fin 8) (e : CanErrIn)
  /-- BUSOFF_DELAY_EXPIRY (R462). BUSOFF_DELAY_MS after bus-off the recovery sequence starts. -/
  | busoffDelayExpiry (o : Opt) (ch : Fin 8)
  /-- CAN_RECOVERY_COMPLETE (R462). Recovery ends after 128 × 11 recessive bits and the controller rejoins the bus. -/
  | canRecoveryComplete (o : Opt) (ch : Fin 8)
  /-- DETECT_CANDIDATE_TIMEOUT (R450). DET_LISTEN_MS elapses or an error occurs on a bit-rate candidate and detection moves
    on. -/
  | detectCandidateTimeout (o : Opt) (ch : Fin 8) (byError : Bool)
  /-- CAN_DISPATCH (R454). The dispatcher reads a ring entry and hands it to matching FORMAT, RTCM and transport consumers. -/
  | canDispatch (o : Opt) (ch : Fin 8)
  /-- CAN_RX_TIMEOUT (R127). A CAN_RX FORMAT's timeout elapses without a frame and its destinations turn invalid. -/
  | canRxTimeout (o : Opt) (table : W16)
  /-- CAN_TIME_REFERENCE (R465). At its period a time master loads a reference message into TXB0. -/
  | canTimeReference (ch : Fin 8)
  /-- CAN_TXS_SEND (R459). A staging write with SEND enqueues a host frame. -/
  | canTxsSend (r : HostReq) (id ctrl : Word) (data : List Word) (cmd : Word)
  /-- CAN_TXM_SEND (R469). CAN_TXM_CMD SEND starts a transport-protocol host message. -/
  | canTxmSend (r : HostReq) (v : Word)
  /-- TP_TIMEOUT (R466). A transport connection times out and is aborted. -/
  | tpTimeout (o : Opt) (ch : Fin 8) (conn : Option Nat)
  /-- ADDRESS_CLAIM_TIMEOUT (R468). 250 ms after sending Address Claimed without a higher-priority contender the state
    becomes CLAIMED. -/
  | addressClaimTimeout (o : Opt) (ch : Fin 8)
  /-- CAN_RECOVER (R462). CAN_CMD RECOVER starts bus-off recovery or leaves FAULT. -/
  | canRecover (r : HostReq) (v : Word)
  /-- CAN_ABORT_ALL (R461). CAN_CMD ABORT_ALL aborts every waiting frame with reason ABORTED. -/
  | canAbortAll (r : HostReq) (v : Word)
  /-- CAN_ABORT_TAG (R473). CAN_CMD ABORT_TAG aborts waiting host frames with a given TAG. -/
  | canAbortTag (r : HostReq) (v : Word)
  /-- CAN_DETECT (R450). CAN_CMD DETECT starts bit-rate detection. -/
  | canDetect (r : HostReq) (v : Word)
  /-- CAN_ENABLE_WRITE (R473). A CAN_EN write enables controllers at bus idle, or disables them flushing their frames. -/
  | canEnableWrite (r : HostReq) (v : Word)
  /-- CAN_WINDOW_LATCH (R473). A CAN_WIN_POS write latches a ring entry or message span into the read window. -/
  | canWindowLatch (r : HostReq) (v : Word)
  /-- CAN_CNT_CLEAR (R473). A CAN_CNT_CLR write clears every counter of the named controllers. -/
  | canCntClear (r : HostReq) (v : Word)
  /-- PATH_LINK_DOWN (R478). A path's link fails for DOWN_MS and the member becomes DOWN. -/
  | pathLinkDown (o : Opt) (port : Fin 7) (first : Opt)
  /-- PATH_ERRORS (R478). More than ERR_MAX errors in 100 ms make a pair member DOWN. -/
  | pathErrors (o : Opt) (pair : Fin 3) (memberB : Bool) (fcs : List Opt)
  /-- PATH_SILENCE (R478). A CAN member receives no frame for PROBE_MS while the other does and becomes DOWN. -/
  | pathSilence (o : Opt) (pair : Fin 2) (memberB : Bool)
  /-- PROBE_SEND (R479). Every PROBE_MS each backbone member sends an echo request to PEER. -/
  | probeSend (o : Opt) (memberB : Bool)
  /-- PROBE_TIMEOUT (R479). A probe goes unanswered within PROBE_MS and is counted toward PROBE_LOSS. -/
  | probeTimeout (o : Opt) (memberB : Bool)
  /-- PATH_READY (R478). A member in CHECKING for RETURN_S with probes answered and mirror resynchronised becomes READY. -/
  | pathReady (o : Opt) (pair : Fin 3) (memberB : Bool)
  /-- MIRROR_COPY_COMPLETE (R485). A full copy of the active context into a member completes. -/
  | mirrorCopyComplete (o : Opt) (pair : Fin 3) (memberB : Bool)
  /-- EQUINOX (R483). At an Equinox instant the pair swaps to a READY standby or defers. -/
  | equinox (o : Opt) (pair : Fin 3)
  /-- PAIR_SWAP (R480). ETH_PAIR_CMD SWAP makes a planned swap or is refused with NOT_READY. -/
  | pairSwap (r : HostReq) (v : Word)
  /-- PORT_ENABLE_WRITE (R492). An ETH_EN write enables or disables ports at once, acting on pair health and sessions. -/
  | portEnableWrite (r : HostReq) (v : Word)
  /-- ETH_CNT_CLEAR (R492). An ETH_CNT_CLR write clears port counters or pair counters. -/
  | ethCntClear (r : HostReq) (v : Word)
  /-- RECORD_BOUNDARY (R504). At an interval boundary the accumulator sets swap and the closed record's write starts, or the
    boundary is passed. -/
  | recordBoundary (o : Opt)
  /-- RECORD_WRITE_COMPLETE (R507). A record write and read-back complete, emptying the closed set or rewriting after a
    failed check. -/
  | recordWriteComplete (o : Opt) (good : Bool)
  /-- REC_INFO (R513). REC_INFO returns the recorder's stored range, state and next boundary. -/
  | recInfo (r : HostReq)
  /-- REC_READ (R513). REC_READ returns bytes of a stored record. -/
  | recRead (r : HostReq) (seq : Word) (offset : W16) (len : W16)
  /-- REC_FREEZE (R506). REC_FREEZE freezes recording for the session after any write in progress. -/
  | recFreeze (r : HostReq)
  /-- REC_THAW (R506). REC_THAW ends the session's freeze, closing a MERGED record if a boundary passed. -/
  | recThaw (r : HostReq)
  /-- FREEZE_MAX_EXPIRY (R506). FREEZE_MAX_S after it was taken a session's recorder freeze ends. -/
  | freezeMaxExpiry (o : Opt) (sess : Fin 8)
  /-- REC_CLEAR (R512). REC_CLEAR starts erasing every record slot. -/
  | recClear (r : HostReq)
  /-- REC_CLEAR_COMPLETE (R512). The clear completes, UNRECORDED is reset and REC_CLEARED is raised. -/
  | recClearComplete (o : Opt)
  /-- REC_POINTER (R511). A REC_PTR write latches the stored record with that SEQ into REC_WIN. -/
  | recPointer (r : HostReq) (v : Word)
  /-- REC_CNT_CLEAR (R516). A REC_CNT_CLR write clears REC_CNT. -/
  | recCntClear (r : HostReq) (v : Word)
  /-- UPD_BEGIN (R522). UPD_BEGIN checks and stages a signed manifest at the chain head. -/
  | updBegin (r : HostReq) (manifest : List Byte)
  /-- UPD_DATA (R525). UPD_DATA delivers a block table or data chunk to the head. -/
  | updData (r : HostReq) (part kind : Byte) (offset : Word) (data : List Byte)
  /-- UPD_STATUS (R535). UPD_STATUS returns the staging state and each member's vote, reasons and result. -/
  | updStatus (r : HostReq)
  /-- UPD_ABORT (R535). UPD_ABORT makes the decision ABANDON unless COMMIT has been sent. -/
  | updAbort (r : HostReq)
  /-- UPD_CONFIRM (R533). UPD_CONFIRM supplies the host confirmation of a trial boot. -/
  | updConfirm (r : HostReq)
  /-- UPD_REJECT (R533). UPD_REJECT sets REJECT in the boot record and resets so the boot code falls back. -/
  | updReject (r : HostReq) (p : PowerIn)
  /-- RELAY_MANIFEST (R524). A MANIFEST relay message is received, checked and staged at a member. -/
  | relayManifest (m : RelayIn)
  /-- RELAY_BTABLE (R525). A BTABLE relay piece is received and the block table accepted against its digest. -/
  | relayBtable (m : RelayIn)
  /-- RELAY_DATA (R525). A DATA chunk is received; a complete block is verified, written, journalled and forwarded. -/
  | relayData (m : RelayIn)
  /-- RELAY_RESEND (R525). A RESEND asks the upstream neighbour to send a block again. -/
  | relayResend (m : RelayIn)
  /-- RELAY_READY (R526). A READY report travels upstream to the head. -/
  | relayReady (m : RelayIn)
  /-- RELAY_PREPARE (R527). A member receives PREPARE for a window, forwards it and votes. -/
  | relayPrepare (m : RelayIn)
  /-- RELAY_VOTE (R527). A GO or NOGO vote is forwarded upstream and held at the head. -/
  | relayVote (m : RelayIn)
  /-- RELAY_STATE (R527). A permitted-state report is forwarded upstream and held at the head. -/
  | relayState (m : RelayIn)
  /-- RELAY_DECISION (R527). A member receives COMMIT, DEFER or ABANDON, forwards it and journals it. -/
  | relayDecision (m : RelayIn)
  /-- RELAY_RESULT (R524). A trial RESULT report is forwarded upstream. -/
  | relayResult (m : RelayIn)
  /-- CHAIN_SESSION_RETRY (R523). Every 5 s while a manifest is staged a chain session to a neighbour is retried. -/
  | chainSessionRetry (o : Opt) (upOk downOk : Bool)
  /-- VERIFY_COMPLETE (R526). Every block is accepted and the staged parts are verified, setting READY or FAILED. -/
  | verifyComplete (o : Opt) (vendorOk : Bool)
  /-- PREPARE_INSTANT (R527). At T − 120 s the head sends PREPARE or defers the window. -/
  | prepareInstant (o : Opt)
  /-- VOTE_DEADLINE (R527). At T − 60 s the head defers unless every member voted GO. -/
  | voteDeadline (o : Opt)
  /-- STATE_SAMPLE (R531). At T − 2 s each member samples the permitted state and sends STATE. -/
  | stateSample (o : Opt)
  /-- DECISION_INSTANT (R527). At T − 0.5 s the head sends COMMIT or DEFER, or ABANDON after DEADLINE. -/
  | decisionInstant (o : Opt)
  /-- ACTIVATION (R528). At the window a committed member runs the shutdown steps, writes the trial boot record and resets. -/
  | activation (o : Opt) (p : PowerIn)
  /-- LATE_ACTIVATION (R529). A committed member activates at the first tick the permitted state holds after T. -/
  | lateActivation (o : Opt) (p : PowerIn)
  /-- TRIAL_CONFIRM (R533). CONFIRM_S after NORMAL on a healthy trial boot the boot record is rewritten as confirmed. -/
  | trialConfirm (o : Opt)
  /-- FREEZE_N (R538). FREEZE_N held low for 2 µs while armed starts a full freeze, or is ignored and counted. -/
  | freezeN (o : Opt)
  /-- FREEZE (R545). The Ronrex FREEZE operation starts a partial or full freeze of the regions in MASK. -/
  | freeze (r : HostReq) (mask : Byte)
  /-- FREEZE_HOLD_EXPIRY (R541). 2.000 s after taking freeze states every die channel still in HOLD goes OFF. -/
  | freezeHoldExpiry (o : Opt) (die : Fin 4)
  /-- THAW (R545). The Ronrex THAW operation thaws a partial freeze. -/
  | thaw (r : HostReq)
  /-- TAP_THAW (R543). The TAP THAW instruction starts a thaw at Run-Test/Idle. -/
  | tapThaw (o : Opt)
  /-- TAP_RESET (R543). The TAP RESET instruction writes reason RESET and starts a module reset from step 1. -/
  | tapReset (o : Opt) (p : PowerIn)
  /-- TAP_IDCODE (R543). The IDCODE instruction shifts out 0x1884_09A7. -/
  | tapIdcode
  /-- TAP_SEL (R543). The SEL instruction selects a readout target and chain. -/
  | tapSel (v : Word)
  /-- TAP_CHAIN (R543). The CHAIN instruction shifts out the selected chain's captured state. -/
  | tapChain
  /-- TAP_MADDR (R543). The MADDR instruction sets the memory read address. -/
  | tapMaddr (v : Word)
  /-- TAP_MDATA (R543). An MDATA capture reads 8 bytes at MADDR and advances it. -/
  | tapMdata
  /-- TAP_BYPASS (R543). The BYPASS instruction selects the 1-bit bypass register. -/
  | tapBypass
  /-- TAP_TRST (R543). TRST_N resets the TAP controller and loads IDCODE. -/
  | tapTrst
  /-- FREEZE_SUPPLY_FAIL (R544). A shutdown condition during a freeze thaws the module and the orderly shutdown follows. -/
  | freezeSupplyFail (o : Opt) (m : SupplyIn)
  /-- UPD_CNT_CLEAR (R537). An UPD_CNT_CLR write clears UPD_CNT. -/
  | updCntClear (r : HostReq) (v : Word)
  /-- SUPPLY_CONNECT (R49). The supply is connected and the standby rail first comes up, which counts as an OFF entry and
    starts the supply monitor. -/
  | supplyConnect (m : SupplyIn)
  /-- IGN_WAKE_CHANGE (R286). IGN or WAKE_IN crosses its threshold while the module runs, starting or cancelling the IGN-off
    delay and ending WHIPPET_HOLD when IGN rises above 5.0 V. -/
  | ignWakeChange (o : Opt) (m : SupplyIn)
  /-- HOLD_UP_EXHAUSTED (R48). The hold-up store runs out of energy and the logic powers down, leaving HOLD_UP as the reason
    for the next power cycle. -/
  | holdUpExhausted
  /-- CLUSTER_RESET_COMPLETE (R25). A reset cluster finishes reloading its configuration and its units pass from RESET to
    OFF. -/
  | clusterResetComplete (o : Opt) (region : Fin 10) (cluster : Byte)
  /-- DIE_CONFIG_RELOADED (R26). D0 finishes reloading a reset power die's configuration and the die's region returns to
    RUN, so its released outputs may follow. -/
  | dieConfigReloaded (o : Opt) (die : Fin 4)
  /-- FLOW_SAMPLE (R184). A flow bridge sample arrives every 125 µs and passes through tare, inertial compensation, notches
    and combining, updating the notch state. -/
  | flowSample (o : Opt) (a b : BridgeIn)
  /-- IMU_SAMPLE (R175). An IMU data-ready delivers a sample, which is stamped on OPT, forwarded to NAV and the flow
    estimator, and restarts the 5 ms validity timeout. -/
  | imuSample (o : Opt) (v : List F32) (ok : Bool)
  /-- FIN_EDGE (R170). An edge on a FIN input is timestamped, moves a quadrature count or counts a quadrature error when A
    and B change together. -/
  | finEdge (o : Opt) (ch : Fin 24) (rising : Bool) (partnerEdge : Bool)
  /-- PTP_ANNOUNCE (R314). A gPTP Announce is received and best-master selection sets the port state, SLAVE or MASTER, under
    ROLE. -/
  | ptpAnnounce (o : Opt) (a : AnnounceIn)
  /-- PTP_MESSAGE_INTERVAL (R313). At the 802.1AS default intervals the port sends its Announce, Sync and peer-delay
    messages. -/
  | ptpMessageInterval (o : Opt)
  /-- FRAME_TIMEOUT (R369). A camera frame has not ended within 2 × FRAME_US of its start and is dropped whole with reason
    0x04. -/
  | frameTimeout (o : Opt) (cam : Fin 6)
  /-- DIE_HOT_CLEAR (R424). A die sensor falls to 130 °C and DIE_HOT clears, ending latch sets by TJ_SHED. -/
  | dieHotClear (o : Opt) (die : Fin 4) (temp : Int)
  /-- SHDN_COMPARATOR_RESET (R439). A tripped shutdown comparator's input falls below the threshold minus 5 °C and the
    comparator resets while SHDN_N stays low. -/
  | shdnComparatorReset (o : Opt) (ts15 : Bool)
  /-- CAN_INTEGRATION_COMPLETE (R447). A controller that is integrating sees 11 consecutive recessive bits at its nominal
    rate and starts taking part in the bus. -/
  | canIntegrationComplete (o : Opt) (ch : Fin 8)
  /-- PATH_CONDITION_CLEAR (R478). Every unhealthy condition of a DOWN pair member stops holding, for example on a link
    return, and the member enters CHECKING or takes over a pair in NONE. -/
  | pathConditionClear (o : Opt) (pair : Fin 3) (memberB : Bool)
  /-- PROBE_REPLY (R479). An echo reply to a path probe arrives within PROBE_MS, ending the run of unanswered probes and
    counting as an answered probe for readiness. -/
  | probeReply (o : Opt) (memberB : Bool)
  /-- ECHO_REQUEST (R475). An ICMP or ICMPv6 echo request arrives on an interface and the module answers it. -/
  | echoRequest (o : Opt) (iface : Fin 6) (pathB v6 : Bool) (vlan : Option Nat) (toward : List Byte) (payload : List Byte)
  /-- ADDRESS_RESOLUTION (R475). An ARP request or IPv6 neighbour solicitation for an interface address arrives and the
    module answers it. -/
  | addressResolution (o : Opt) (iface : Fin 6) (pathB v6 : Bool) (vlan : Option Nat) (target : List Byte)
deriving DecidableEq, Repr, Inhabited

end Sys2Proof
end

