-- ==== Sys2Proof/Decode.lean ====
section
/-! DEFINITION. The command that a word spells.  The table of operations and events gives no row any bits: its commands
arrive as messages, pins and instants, not as words. -/

namespace Sys2Proof

/-- The command that a word of `nbits` bits spells by the table's bits: none, since the table gives no row bits. -/
def decodeTableWord (_nbits _w : Nat) : Option Instr := none

end Sys2Proof
end

