-- ==== Sys2Proof/Config.lean ====
section
/-! DEFINITION. What the spec leaves open or takes from a published standard: constants without a body, so that no proof
can lean on a value of them.  Each is named in the assumption log. -/

namespace Sys2Proof.Config

/-- SHA-384 over a byte string: 48 bytes (03 R72, R75; published standard, its arithmetic is not in the spec). -/
opaque sha384 : List Byte → List Byte

/-- Whether an ECDSA P-384 signature (96 bytes) over a message verifies with the key that a certificate fingerprint
names (03 R75, R76, R92; 05 R158; 21 R522). -/
opaque sigOk : (cert msg sig : List Byte) → Bool

/-- The signature D0's identity key makes over a message (05 R158, 21 R522). -/
opaque sign : (serial : BitVec 64) → (msg : List Byte) → List Byte

/-- The 16 bytes drawn from D0's random source at the k-th draw (03 R91). -/
opaque nonce : Nat → List Byte

/-- The k-th draw of a value that the spec leaves undefined or does not state. -/
opaque freeWord : Nat → Word

/-- Whether a FIFO channel is full at the k-th draw (01 R14), whose depth is not stated. -/
opaque fifoFull : Nat → Bool

/-- Whether a session's send queue is full at the k-th draw (05 R148), whose depth is not stated. -/
opaque queueFull : Nat → Bool

/-- Whether a settings write fails at the k-th draw (07 R193): the flash's outcome is not computed. -/
opaque settingsFail : Nat → Bool

/-- A word of the settings after a migration between two schema versions (21 R532), whose content is not stated: the old
and the new version, the field's number, the old word. -/
opaque migrated : (old new : Word) → (field : Nat) → Word → Word

/-- Defect-pixel correction (14 R371 stage 5), whose method is not stated: threshold, width, 20-bit samples in pixel order. -/
opaque defectCorrect : Nat → Nat → List Nat → List Nat
/-- Lens shading (14 R371 stage 6): a 20-bit sample under the value of its channel's CURVE, whose use is not stated. -/
opaque shade : Nat → F32 → Nat
/-- Stages 7 to 13 (14 R371), whose demosaic and scaler are not stated: the port's record, its pipe parameters, the WB gains of
the frame's set, and the samples after stage 6; the output frame's bytes. -/
opaque render : List Byte → List Byte → List Nat → List Nat → List Byte
/-- The samples at tap T4 or T5 (14 R373), likewise. -/
opaque tapRender : Nat → List Byte → List Byte → List Nat → List Nat → List Byte

/-- The number of scan chains of a target of the test access port, and the length of each (22 R543), which the spec does not give. -/
opaque chainCount : (target : Nat) → BitVec 16
opaque chainLen : (target chain : Nat) → Word
/-- What a chain captured in the k-th freeze (22 R543), and the word of a target's memory at a byte address then: ERR above 64 data bits.
The spec does not lay out either. -/
opaque chainBits : (k target chain : Nat) → Nat
opaque memWord : (k target address : Nat) → BitVec 65

end Sys2Proof.Config
end

