-- ==== Sys2Proof/Machine/Image.lean ====
section
/-! DEFINITION. The image container (03 R72 to R76, codes 0x01 to 0x0B) and the reading of POLICY tables (04 R128). -/

namespace Sys2Proof.Machine

/-- One bit of CRC-32C, reflected (03 R74). -/
def crcBit (c : Word) : Word := if c.getLsbD 0 then (c >>> 1) ^^^ 0x82F63B78 else c >>> 1

/-- One byte of CRC-32C. -/
def crcByte (c : Word) (b : Byte) : Word :=
  let x := c ^^^ b.zeroExtend 32
  crcBit (crcBit (crcBit (crcBit (crcBit (crcBit (crcBit (crcBit x)))))))

/-- CRC-32C of a byte string (03 R74). -/
def crc32c (b : List Byte) : Word := b.foldl crcByte 0xFFFFFFFF ^^^ 0xFFFFFFFF

/-- Why a slot is refused (03 R76): the code, the table concerned and the rule concerned. -/
structure SlotErr where
  code : Nat
  table : Nat
  rule : Nat
deriving DecidableEq, Repr, Inhabited

/-- The table kinds of 03 R73. -/
def kCurve : Nat := 1
def kState : Nat := 2
def kFormat : Nat := 3
def kLaw : Nat := 4
def kMicro : Nat := 5
def kClassmap : Nat := 6
def kPinmap : Nat := 7
def kPolicy : Nat := 8

/-- Whether a block accepts a table kind and instance (24 R567). -/
def kindAccepted (id kind : Nat) : Bool :=
  let blk := id / 256
  let inst := id % 256
  let between (lo hi : Nat) : Bool := decide (lo ≤ inst) && decide (inst ≤ hi)
  if kind = kPolicy then (if blk = 0 then between 2 6 else decide (blk ≤ 0x12) && inst == 1)
  else match blk with
  | 0x00 => kind == kPinmap && inst == 1
  | 0x02 => kind == kCurve && between 0x10 0x7F
  | 0x03 => (kind == kClassmap && between 0x10 0x2F) || (kind == kCurve && between 0x40 0x7F)
  | 0x04 => (kind == kLaw && between 0x10 0x8F) || (kind == kCurve && between 0x90 0xFE)
  | 0x05 => kind == kState && between 0x10 0x7F
  | 0x08 => kind == kCurve && between 0x10 0x2F
  | 0x09 => kind == kFormat && between 0x10 0x1F
  | 0x0A => kind == kCurve && between 0x10 0x7F
  | 0x0B => kind == kMicro && between 0x10 0x17
  | 0x0D => kind == kCurve && between 0x02 0x7F
  | 0x0E => (kind == kFormat && between 0x10 0xFE) || (kind == kState && between 0x02 0x0F)
  | 0x10 => kind == kFormat && inst == 0x10
  | _ => false

/-- A directory entry (03 R73). -/
structure DirEntry where
  id : Nat
  kind : Nat
  ver : Nat
  off : Nat
  len : Nat
  crc : Word
  rsvOk : Bool
deriving DecidableEq, Repr, Inhabited

/-- Directory entry `k` of a slot's bytes. -/
def dirEntry (b : List Byte) (k : Nat) : DirEntry :=
  let o := 128 + 24 * k
  { id := u16 b o, kind := u8 b (o + 2), ver := u16 b (o + 4), off := u32 b (o + 8), len := u32 b (o + 12),
    crc := lo32 (u32 b (o + 16)),
    rsvOk := u8 b (o + 3) == 0 && u16 b (o + 6) == 0 && u32 b (o + 20) == 0 }

/-- Whether TABLE_IDs rise strictly (03 R74). -/
def idsRise : List DirEntry → Bool
  | a :: b :: t => decide (a.id < b.id) && idsRise (b :: t)
  | _ => true

/-- Insertion of an entry by its body's offset. -/
def insertByOff (e : DirEntry) : List DirEntry → List DirEntry
  | [] => [e]
  | a :: t => if e.off < a.off then e :: a :: t else a :: insertByOff e t

/-- The gaps between bodies, in order of offset: no overlap, zero bytes between bodies, the last body ending at or
before LENGTH (03 R74); the bytes before the first body and after the last are held to zero as well (log 100). -/
def gapsOk (b : List Byte) (len : Nat) : Nat → List DirEntry → Bool
  | pos, [] => decide (pos ≤ len) && allZero (span b pos (len - pos))
  | pos, e :: t => decide (pos ≤ e.off) && allZero (span b pos (e.off - pos)) && gapsOk b len (e.off + e.len) t

/-- The first multiple of 16 at or after `n`. -/
def up16 (n : Nat) : Nat := (n + 15) / 16 * 16

/-- The slot size: 32 MiB (03 R75). -/
def slotSize : Nat := 33554432

/-- The check of a slot's container in the order of 03 R76, codes 0x01 to 0x0B.  A SIG_ALG or a reserved halfword of the signature block that
is not as R75 gives it refuses with the signature's code 0x06, for which R76 names none (log 99). -/
def parseSlot (owner : Option (List Byte)) (b : List Byte) : Except SlotErr Image :=
  let err (c : Nat) : Except SlotErr Image := .error ⟨c, 0, 0⟩
  let len := u32 b 16
  let n := u16 b 20
  let sg := up16 len
  let dir := (List.range n).map (dirEntry b)
  let byOff := dir.foldr insertByOff []
  if span b 0 4 ≠ [0x54, 0x58, 0x49, 0x4D] then err 0x01
  else if u16 b 4 ≠ 1 ∨ u16 b 6 ≠ 128 ∨ u16 b 22 ≠ 0 ∨ span b 29 3 ≠ [0, 0, 0] ∨ ¬ allZero (span b 40 40) then err 0x02
  else if u32 b 24 ≠ 0x8840 ∨ 0xC1 < u8 b 28 then err 0x03
  else if len < 160 ∨ 33554272 < len ∨ n = 0 ∨ 1024 < n ∨ len < 128 + 24 * n ∨ slotSize < sg + 148 then err 0x04
  else match owner with
  | none => err 0x05
  | some cert =>
    if span b (sg + 4) 48 ≠ cert then err 0x05
    else if u16 b sg ≠ 1 ∨ u16 b (sg + 2) ≠ 0 ∨ ¬ Config.sigOk cert (span b 0 128) (span b (sg + 52) 96) then err 0x06
    else if Config.sha384 (span b 128 (len - 128)) ≠ span b 80 48 then err 0x07
    else if ¬ (idsRise dir && dir.all (fun e => e.rsvOk && e.off % 8 == 0 && decide (4 ≤ e.len) && decide (e.off + e.len ≤ len))
        && gapsOk b len (128 + 24 * n) byOff) then err 0x08
    else match dir.find? (fun e => crc32c (span b e.off e.len) != e.crc) with
    | some e => .error ⟨0x09, e.id, 0⟩
    | none => match dir.find? (fun e => !kindAccepted e.id e.kind) with
      | some e => .error ⟨0x0A, e.id, 0⟩
      | none => match dir.find? (fun e => e.ver != 1) with
        | some e => .error ⟨0x0B, e.id, 0⟩
        | none => .ok { imageVer := lo32 (u32 b 8), settingsVer := lo32 (u32 b 12),
                        tables := dir.map fun e => { id := e.id, kind := e.kind, ver := e.ver, body := span b e.off e.len } }

/-- The image of a module without one: no table. -/
def Image.empty : Image := { imageVer := 0, settingsVer := 0, tables := [] }

/-- The body of table `id`, where the image has it. -/
def Image.body (im : Image) (id : Nat) : Option (List Byte) := (im.tables.find? fun t => t.id == id).map Table.body

/-- The table `id` if it is of kind `kind`. -/
def Image.tableOf (im : Image) (kind id : Nat) : Option (List Byte) :=
  (im.tables.find? fun t => t.id == id && t.kind == kind).map Table.body

/-- Whether the image has table `id` of kind `kind`. -/
def Image.has (im : Image) (kind id : Nat) : Bool := (im.tableOf kind id).isSome

/-- The sections of a POLICY body: (SECT_ID, body) in order (04 R128).  `fuel` is the number of sections. -/
def sections : Nat → List Byte → List (Nat × List Byte)
  | 0, _ => []
  | n + 1, b =>
    let len := u16 b 2
    (u16 b 0, span b 4 len) :: sections n (b.drop (4 + len))

/-- A POLICY's sections. -/
def policySections (body : List Byte) : List (Nat × List Byte) := sections (u16 body 0) (body.drop 4)

/-- Section `sid` of POLICY `tid` (04 R128), where present. -/
def Image.sect (im : Image) (tid sid : Nat) : Option (List Byte) :=
  match im.body tid with
  | none => none
  | some b => lookupN (policySections b) sid

/-- Record `n` of `len` bytes of a section, where the section is present. -/
def Image.record (im : Image) (tid sid len n : Nat) : Option (List Byte) :=
  (im.sect tid sid).map fun b => span b (len * n) len

/-- A field of a section read by `f`, or its default where the section is absent (04 R129). -/
def Image.fieldOr {α : Type} (im : Image) (tid sid : Nat) (f : List Byte → α) (dflt : α) : α :=
  match im.sect tid sid with
  | none => dflt
  | some b => f b

/-- The HOST_ABSENCE byte of unit `n` (04 R129), with its default. -/
def Image.hostAbsence (im : Image) (tid n dflt : Nat) : Nat := im.fieldOr tid 0x00F0 (fun b => u8 b n) dflt

/-- The system timers of 04 R130, in nanoseconds. -/
def Image.ignOffDelay (im : Image) : Nat := im.fieldOr 0x0002 0x0002 (fun b => u32 b 0) 2000 * 1000000
def Image.commitDeadline (im : Image) : Nat := im.fieldOr 0x0002 0x0002 (fun b => u32 b 4) 2000 * 1000000
def Image.hostSilence (im : Image) : Nat := im.fieldOr 0x0002 0x0002 (fun b => u32 b 8) 500 * 1000000

/-- The link watchdog of die `d` (0 to 3 for D3 to D6), in ticks (01 R28, 04 R130). -/
def Image.watchdog (im : Image) (d : Nat) : Nat := im.fieldOr (3 + d) 0x0001 (fun b => u16 b 0) 20

/-- The option code of a contact in the PINMAP, and its PARAM (02 R40, R41). -/
def Image.pin (im : Image) (conn contact : Nat) : Option (Nat × Nat) :=
  match im.body 0x0001 with
  | none => none
  | some b =>
    ((List.range (u16 b 0)).find? fun k => u8 b (4 + 8 * k) == conn && u8 b (5 + 8 * k) == contact).map
      fun k => (u8 b (6 + 8 * k), u32 b (8 + 8 * k))

/-- The option code of a contact, or the default of its type (02 R42). -/
def Image.pinOr (im : Image) (conn contact dflt : Nat) : Nat :=
  match im.pin conn contact with
  | none => dflt
  | some (o, _) => o

/-- The STATE tables of the image in ascending table ID: position n is machine n (04). -/
def Image.machines (im : Image) : List Table := im.tables.filter fun t => t.kind == kState

/-- The image's FORMAT tables whose TARGET is `target` (04 R120). -/
def Image.formats (im : Image) (target : Nat) : List Table :=
  im.tables.filter fun t => t.kind == kFormat && u8 t.body 0 == target

end Sys2Proof.Machine
end

