-- ==== Sys2Proof/Machine/StPwr.lean ====
section
/-! DEFINITION. The state of the power dies: power links (01 R28), valve channels and banks (15), switch channels and packages
(16), cooling channels and the shutdown comparators (17). -/

namespace Sys2Proof.Machine

/-- The freeze state of a die channel (22 R540, R541): none, kept in HOLD, or off. -/
inductive FrzState where
  | none | hold | off
deriving DecidableEq, Repr, Inhabited

/-- One power die's link and die-level protection (01 R28, R29, R571; 16 R424). `lastFrame` is the OPT of the last
valid command frame; `tempHold` keeps the safe states after the limit until the next one (R571). -/
structure DieSt where
  armed : Bool
  lastFrame : Opt
  linkSafe : Bool
  overTemp : Bool
  tempHold : Bool
  loading : Bool
  dieT : Int
  dieHot : Bool
  vHist : List Nat
  safeTurnOn : Opt
deriving DecidableEq, Repr, Inhabited

/-- PHASE of a switch channel (16 R421, R431). -/
inductive PswPhase where
  | idle | wait | inrush | on | tripped | latched | refused | fault
deriving DecidableEq, Repr, Inhabited

/-- One switch channel.  `want` is the command D0 sends, `cmd` the command in force at the die; `retryEnd` is the running
retry timer's end, `retryLeft` the time left on a paused one; `supply` is the cooling channel whose spin-up turned it on, and `tj` is
in 0.1 °C. -/
structure PswCh where
  enF : Bool
  err : Bool
  lastErr : Byte
  phase : PswPhase
  safe : Bool
  lampSat : Bool
  openLoad : Bool
  startRefused : Bool
  latch : Bool
  clrPend : Bool
  tripSeen : Bool
  retries : BitVec 4
  iMeas : W16
  want : Nat
  cmd : Nat
  dutyApp : Nat
  tj : Int
  retryEnd : Option Opt
  retryLeft : Option Nat
  tripCnt : W16
  openCnt : W16
  refuseCnt : W16
  latchCnt : W16
  inrushEnd : Opt
  onSince : Opt
  refusedSince : Opt
  supply : Option Nat
  frz : FrzState
deriving DecidableEq, Repr, Inhabited

/-- A power package's current (01 R32, 16 R431): the tick means of the last second, newest first, in 0.01 A. -/
structure PkgSt where
  iAvg : W16
  overV : Bool
  hist : List Nat
deriving DecidableEq, Repr, Inhabited

/-- The PSW block. -/
structure PswSt where
  en : BitVec 40
  duty : Vector Nat 40
  ch : Vector PswCh 40
  pkg : Vector PkgSt 4
deriving DecidableEq, Repr, Inhabited

/-- What a valve channel does apart from its safe and freeze states (15 R399, R409). -/
inductive VlvRun where
  | run | hold | fault
deriving DecidableEq, Repr, Inhabited

/-- The source of a valve target (15 R401). -/
inductive TgtSrc where
  | imm (v : Nat) | cmd | cmdPlus (v : Int)
deriving DecidableEq, Repr, Inhabited

/-- What an instruction of the microcode waits for (15 R401), in 20 µs periods. -/
inductive VlvWait where
  | none
  | time (left : Nat)
  | current (ge : Bool) (arg : Nat) (left : Option Nat)
  | ramp (start : Nat) (src : TgtSrc) (total done : Nat)
deriving DecidableEq, Repr, Inhabited

/-- Dither in force (15 R401, R406). -/
inductive Dither where
  | none | group | own (freq amp : Nat)
deriving DecidableEq, Repr, Inhabited

/-- Decay mode (15 R405). -/
inductive Decay where
  | freewheel | clamp | recover
deriving DecidableEq, Repr, Inhabited

/-- One valve channel.  `want` is the command D0 sends, `cmd` the command in force; `stall` is the OPT of a boost
request; `bankWait` marks an activation that waits for another channel's boost phase to end. -/
structure VlvCh where
  enF : Bool
  err : Bool
  lastErr : Byte
  st : VlvRun
  safe : Bool
  safeSince : Option Opt
  undersupply : Bool
  underTicks : Nat
  openLoad : Bool
  startRefused : Bool
  boostCut : Bool
  shortCnt : W16
  openCnt : W16
  refuseCnt : W16
  cutCnt : W16
  regCnt : W16
  iMeas : W16
  tgt : Nat
  src : TgtSrc
  want : Nat
  cmd : Nat
  legApp : Nat
  pc : Nat
  ended : Bool
  active : Bool
  offSeq : Bool
  stack : List Nat
  loops : Vector (Option Nat) 3
  tflag : Bool
  wait : VlvWait
  dither : Dither
  decay : Decay
  boost : Bool
  boostLeft : Nat
  stall : Option Opt
  bankWait : Bool
  runaway : Nat
  holdTol : Bool
  prog : Nat
  refusedSince : Opt
deriving DecidableEq, Repr, Inhabited

/-- A valve channel's inputs and freeze state, beside its program. -/
structure VlvIn where
  in0 : Bool
  in1 : Bool
  frz : FrzState
deriving DecidableEq, Repr, Inhabited

/-- BHS of a bank (15 R391). -/
inductive BhsMode where
  | off | battery | boost | fault
deriving DecidableEq, Repr, Inhabited

/-- One bank: its switch, its measured current, the channel (within the bank) that has been granted the bank, and the OPT of its
engine's last advance. -/
structure Bank where
  bhs : BhsMode
  ma : W16
  granted : Option Nat
  advAt : Option Opt
deriving DecidableEq, Repr, Inhabited

/-- The boost rail of a die (15 R392). -/
structure Rail where
  mv : W16
  low : Bool
deriving DecidableEq, Repr, Inhabited

/-- The VLV block. -/
structure VlvSt where
  en : BitVec 48
  legDuty : Vector Nat 48
  ch : Vector VlvCh 48
  inp : Vector VlvIn 48
  bank : Vector Bank 8
  rail : Vector Rail 4
deriving DecidableEq, Repr, Inhabited

/-- PHASE of a cooling channel (17 R436, R444). -/
inductive ColPhase where
  | stopped | wait | spinup | running | pause | refused | failedBlocked | failedTach
deriving DecidableEq, Repr, Inhabited

/-- One cooling channel.  `spin`, `loss` and `recov` are the timers that stand still in CRANK, in ticks; `since` is the
OPT at which PAUSE or REFUSED was entered. -/
structure ColCh where
  enF : Bool
  err : Bool
  lastErr : Byte
  phase : ColPhase
  safe : Bool
  sheepdog : Bool
  allFull : Bool
  startRefused : Bool
  failSeen : Bool
  minRaised : Bool
  attempt : Nat
  rpm : W16
  dem : Nat
  demand : Nat
  dutyApp : Nat
  spinFailCnt : W16
  tachLossCnt : W16
  spin : Nat
  loss : Nat
  recov : Nat
  since : Opt
  frz : FrzState
deriving DecidableEq, Repr, Inhabited

/-- The shutdown comparators and SHDN_N (17 R439, R440, R444). -/
structure ShdnSt where
  cmp14 : Bool
  cmp15 : Bool
  fault14 : Bool
  fault15 : Bool
  shdn : Bool
  noticed : Bool
  code : BitVec 3
  thresh : Byte
deriving DecidableEq, Repr, Inhabited

/-- The COL block. -/
structure ColSt where
  en : BitVec 8
  duty : Vector Nat 8
  ch : Vector ColCh 8
  shdn : ShdnSt
deriving DecidableEq, Repr, Inhabited

end Sys2Proof.Machine
end

