-- ==== Sys2Proof/Machine/Resets.lean ====
section
/-! DEFINITION. What each block holds right after a reset: every register field at the value its field map gives (00 R3), and the
internal state its chapter gives for power-up.  A field the spec gives no value for is zero, none or empty (log 2). -/

namespace Sys2Proof.Machine

def Region.reset : Region :=
  { st := .off, clkOk := false, railOk := false, eccCe := false, eccUe := false, hsFull := 0 }
def SupplyIn.zero : SupplyIn := { vb1 := 0, vb2 := 0, vb3 := 0, vb4 := 0, vlog := 0, ign := 0, wake := 0 }
def PwrSt.reset : PwrSt :=
  { supply := .off, mon := SupplyIn.zero, die := Vector.replicate 4 none, ign := false, wake := false, cranked := false,
    ovv := false, lastShdn := 0, crankTicks := 0, uvTicks := 0, okTicks := 0, ovOkTicks := 0,
    ignOffSince := none, crankCnt := 0, crankMax := 0, holdUp := none, storeFull := none, shdnReason := 0 }
def BudSt.reset : BudSt :=
  { bookings := [], prevLoad := 0, load := 0, reqs := [], isOpen := false, openNext := false, passTick := none,
    refused := 0, maxWait := 0 }
def WakeSt.reset : WakeSt := { reg := false, cmd := false, out := false, wait := false, refused := false, trip := false }
def CoreSt.reset : CoreSt := { en := false, fault := false, err := false, lastErr := 0 }
def BootSt.reset : BootSt :=
  { serial := 0, dieOk := 0, devCert := false, owner := false, failDie := 0xF, strap := 0, cfgSlot := false, trial := false,
    fallback := false, noImage := false, svcHold := false, svcEn := false, cfgErr := 0, errTable := 0, errRule := 0,
    cfgVer := 0, failed2 := none, released := 0, rxCond := 0, svcRel := 0, held := 0, due := 0, lapse := 0,
    checked := false, safeDue := false, core := Vector.replicate 8 CoreSt.reset, bad := [] }
def GrpSt.reset : GrpSt := { live := [], shadow := [], snaps := [] }
def SmSt.reset : SmSt :=
  { state := 0, run := false, late := false, lost := false, skip := false, transCnt := 0, lostCnt := 0, lateCnt := 0,
    vars := [], timers := [], queue := [], prev := [], prevState := 0, changedAt := 0 }
/-- The device certificate of a module as delivered: its part number and revision (00 R1), no serial and no keys (log 2). -/
def DevCert.factory : DevCert := { serial := 0, part := 0x8840, rev := 0xC1, d0Key := [], dieKeys := [[], [], [], [], []] }
/-- The non-volatile parts of a module as delivered: no serial, no owner certificate, both slots empty (log 2). -/
def FlashSt.factory : FlashSt :=
  { serial := 0, macBase := 0, dieKey := Vector.replicate 7 [], d2Key := [], vendorRoot := [], devCert := DevCert.factory, ownerCert := none, slotA := [], slotB := [], shdn := .none, bootCount := 0, taken := [] }
/-- Settings that hold nothing: the values of 07 R193. -/
def Settings.empty : Settings := { ver := 0, z0 := 0, z1 := 0, aT := fRat 981 100, cal := [], lagEst := [], calGen := 0 }

def Sess.reset : Sess :=
  { isOpen := false, hello := false, level := 0, port := 0, agreed := 0, maxMsg := 1200, txSeq := 0, rxHigh := 0, rxSeen := [],
    control := false, last := 0, done := [], nonce := none, grant := [] }
def Ring.reset : Ring := { isOpen := false, ordered := false, sess := 0, limit := 0, closing := none }
def HstSt.reset : HstSt :=
  { sess := Vector.replicate 8 Sess.reset, shakes := [], surplus := [], ring := Vector.replicate 256 Ring.reset, ops := [], highWater := 0,
    busyCnt := 0, dropPub := 0, badMsg := 0, present := false, ever := false, heard := none, expired := false,
    expiryCnt := 0, tLast := 0, tBefore := 0, tTick := 0, subs := [], nextSub := 1, envSeq := Vector.replicate 8 0, signed := [], draws := 0 }

def ExtAcc.empty : ExtAcc := { value := 0, opt := 0, dvt := 0, taken := false }
def RecSet.empty : RecSet :=
  { start := 0, startDvt := 0, flags := 0, hist := Vector.replicate 32 (List.replicate 32 0), ext := Vector.replicate 64 ExtAcc.empty }
def RecSt.reset : RecSt :=
  { openSet := RecSet.empty, atBound := false, passed := false, bound := 0, closed := none, clearing := none, isClearing := false,
    writeErrSeen := false, freezers := [], waitFreeze := [], slots := [], nextSeq := 1, unrecorded := 0, writeErrCnt := 0,
    supprCnt := 0, clearedNext := false, first := true, ptr := 0, ptrValid := false, win := [], second := 0, inSecond := [] }

def DieSt.reset : DieSt :=
  { armed := false, lastFrame := 0, linkSafe := false, overTemp := false, tempHold := false, loading := false, dieT := 0, dieHot := false,
    vHist := [], safeTurnOn := 0 }
def PswCh.reset : PswCh :=
  { enF := false, err := false, lastErr := 0, phase := .idle, safe := false, lampSat := false, openLoad := false,
    startRefused := false, latch := false, clrPend := false, tripSeen := false, retries := 0, iMeas := 0, want := 0, cmd := 0,
    dutyApp := 0, tj := 0, retryEnd := none, retryLeft := none, tripCnt := 0, openCnt := 0, refuseCnt := 0, latchCnt := 0,
    inrushEnd := 0, onSince := 0, refusedSince := 0, supply := none, frz := .none }
def PkgSt.reset : PkgSt := { iAvg := 0, overV := false, hist := [] }
def PswSt.reset : PswSt :=
  { en := 0, duty := Vector.replicate 40 0, ch := Vector.replicate 40 PswCh.reset, pkg := Vector.replicate 4 PkgSt.reset }
def VlvCh.reset : VlvCh :=
  { enF := false, err := false, lastErr := 0, st := .run, safe := false, safeSince := none, undersupply := false,
    underTicks := 0, openLoad := false, startRefused := false, boostCut := false, shortCnt := 0, openCnt := 0, refuseCnt := 0,
    cutCnt := 0, regCnt := 0, iMeas := 0, tgt := 0, src := .imm 0, want := 0, cmd := 0, legApp := 0, pc := 0, ended := false,
    active := false, offSeq := false, stack := [], loops := Vector.replicate 3 none, tflag := false, wait := .none,
    dither := .none, decay := .freewheel, boost := false, boostLeft := 0, stall := none, bankWait := false, runaway := 0,
    holdTol := false, prog := 0, refusedSince := 0 }
def VlvIn.reset : VlvIn := { in0 := false, in1 := false, frz := .none }
def Bank.reset : Bank := { bhs := .off, ma := 0, granted := none, advAt := none }
def Rail.reset : Rail := { mv := 0, low := false }
def VlvSt.reset : VlvSt :=
  { en := 0, legDuty := Vector.replicate 48 0, ch := Vector.replicate 48 VlvCh.reset, inp := Vector.replicate 48 VlvIn.reset,
    bank := Vector.replicate 8 Bank.reset, rail := Vector.replicate 4 Rail.reset }
def ColCh.reset : ColCh :=
  { enF := false, err := false, lastErr := 0, phase := .stopped, safe := false, sheepdog := false, allFull := false,
    startRefused := false, failSeen := false, minRaised := false, attempt := 0, rpm := 0, dem := 0, demand := 0, dutyApp := 0,
    spinFailCnt := 0, tachLossCnt := 0, spin := 0, loss := 0, recov := 0, since := 0, frz := .none }
def ShdnSt.reset : ShdnSt :=
  { cmp14 := false, cmp15 := false, fault14 := false, fault15 := false, shdn := false, noticed := false, code := 0, thresh := 0 }
def ColSt.reset : ColSt :=
  { en := 0, duty := Vector.replicate 8 0, ch := Vector.replicate 8 ColCh.reset, shdn := ShdnSt.reset }

/-- An invalid signal. -/
def sigNone : Sig := (fNaN, false)
def AinCh.reset : AinCh :=
  { raw := 0, valid := false, low := false, high := false, supBad := false, shuntOff := none, offImg := false, faultSeen := false, faultCnt := 0,
    x := fNaN, eng := fNaN, y := none, limit := none, sum := 0, n := 0, allValid := true }
def FinCh.reset : FinCh :=
  { valid := false, zero := false, overV := false, qerrSeen := false, avgUsed := 0, qerrCnt := 0, pos := 0, count := 0, errs := 0, timedOut := false, posClr := false,
    edges := [], last := 0, level := false, freq := fNaN, eng := fNaN }
def DinCh.reset : DinCh := { level := false, state := false, run := 0 }
def TsCh.reset : TsCh :=
  { temp := 0, valid := false, isOpen := false, short := false, faultSeen := false, openRun := 0, shortRun := 0, okRun := 0 }
def SupCh.reset : SupCh := 
  { st := .off, live := .off, limitAt := none, trips := 0, v := 0, mv := 0, ma := 0, tripSeen := false, tripCnt := 0, tripAt := 0, okSince := none }
def ImuSt.reset : ImuSt := { v := Vector.replicate 6 fNaN, valid := false, last := 0 }
def ImageSt.none : ImageSt :=
  { ainEng := Vector.replicate 24 sigNone, ainX := Vector.replicate 24 sigNone, fin := Vector.replicate 24 sigNone,
    pos := Vector.replicate 24 sigNone, din := Vector.replicate 16 sigNone, ts := Vector.replicate 16 sigNone,
    sup := Vector.replicate 4 sigNone, flow := Vector.replicate 2 sigNone, imu := Vector.replicate 6 sigNone, imuOpt := 0 }
def SnsSt.reset : SnsSt :=
  { ain := Vector.replicate 24 AinCh.reset, fin := Vector.replicate 24 FinCh.reset, din := Vector.replicate 16 DinCh.reset,
    ts := Vector.replicate 16 TsCh.reset, sup := Vector.replicate 4 SupCh.reset, imu := ImuSt.reset, imuImg := ImuSt.reset,
    imuFifo := [], convFail := false, cut := none, frameBox := Mail.reset, mail := .none, mailSeq := 0,
    mailSkip := 0, latch := ImageSt.none, start := 0, frameSeq := 0, haveFrame := false, ticks := 0, dinChanged := 0,
    supFault := 0, crank := false, frame := [], frameOpt := 0, next := none }
def BridgeSt.reset : BridgeSt :=
  { valid := false, isOpen := false, short := false, overV := false, faultSeen := false, faultCnt := 0, s := 0, fbarSum := 0,
    fbarN := 0, fbar := sigNone, notch := Vector.replicate 4 (0, 0, 0, 0) }
def LossCh.reset : LossCh :=
  { enF := false, fault := false, inState := none, err := false, lastErr := 0, saturated := false, satNow := false,
    thrAtMax := false, overlong := 0, satCnt := 0, base := 0, floor := 0, deadEnd := 0, cnt := Vector.replicate 4 0, last := Vector.replicate 4 0,
    counting := false, invalid := false, whole := false, specCnt := Vector.replicate 4 0, peakHist := [], enHist := [], specPeak := [], specEn := [],
    specInvalid := false, specSat := false }
def LossOut.reset : LossOut := { cnt := Vector.replicate 4 0, ok := false, saturated := false, thrAtMax := false, noise := 0, thr := 0 }
def FlwOut.reset : FlwOut :=
  { any := false, flags := 0, wet := sigNone, dry := sigNone, moist := sigNone, moistSrc := sigNone, fbar := Vector.replicate 2 sigNone, mm := fNaN,
    calState := .idle, result := 0, gaps := 0, factor := fNaN, loss := Vector.replicate 16 LossOut.reset,
    group := Vector.replicate 4 (Vector.replicate 4 sigNone) }
def LossGroup.reset : LossGroup := { frames := [], out := Vector.replicate 4 sigNone }
def FlwSt.reset : FlwSt :=
  { out := FlwOut.reset, flags := 0, wet := sigNone, dry := sigNone, moist := sigNone, moistSrc := sigNone, calState := .idle, result := 0, gaps := 0,
    frames := 0, mm := 0, mmValid := false, mass := 0, calCmds := [], calCrop := 0, tareAt := 0,
    tareS := Vector.replicate 2 [], tareF := Vector.replicate 2 [], tareA := [], tareBad := false,
    bridge := Vector.replicate 2 BridgeSt.reset, coef := Vector.replicate 4 none, qSum := 0, usable := 0, samples := 0,
    degraded := false, bypass := false, compOff := false, moistHist := [], moistLast := none, lsEn := 0,
    ls := Vector.replicate 16 LossCh.reset, group := Vector.replicate 4 LossGroup.reset, specFrames := 0, specFirst := 0, specKey := (false, 0),
    specLast := false, specWait := [], calChange := none }

def LawSt.zero : LawSt :=
  { integ := 0, d := 0, edPrev := 0, bias := 0, x1 := 0, w1 := 0, x2 := 0, w2 := 0, x := Vector.replicate 8 0 }
def Slot.reset : Slot :=
  { enF := false, fault := false, err := false, lastErr := 0, mode := .auto, remManual := false, man := 0, cmdManual := false,
    limited := false, rateLim := false, inputInvalid := false, ovrLast := false, ovrCnt := 0, invCnt := 0, consec := 0, cycles := 0,
    outReg := fNaN, spReg := fNaN, pvReg := fNaN, u := 0, applied := false, v := 0, e := 0, z1 := 0, chosen := 0,
    law := LawSt.zero, lawInForce := 0xFFFF, bumpF := fOne, transfer := true, invRun := 0, job := none, faultAt := none,
    released := false, cmds := [], entering := false, sp := none, lastOut := 0 }
def Proc.reset : Proc := { run := false, used := 0, err := false, lastErr := 0, load := 0, peak := 0 }
def LopSt.reset : LopSt :=
  { tickHi := 0, en := 0, stall := { slot := 0, count := 0, delayUs := 0 }, proc := Vector.replicate 8 Proc.reset,
    slot := Vector.replicate 128 Slot.reset }
def Pg.reset : Pg :=
  { p := 0, v := 0, a := 0, mode := .move, src := .const, arrived := false, limited := false, overshoot := false, excess := false,
    clamped := false, followPv := false, target := 0, prevTarget := none, plan := none, limits := (0, 0, 0),
    posReg := fNaN, velReg := fNaN, accReg := fNaN, tgtReg := fNaN }
def Mf.reset : Mf :=
  { mode := 0, st := .notConfigured, idle := true, clamped := false, ilkSeen := false, ovrSeen := false, ilkTerm := 0, ilkCnt := 0,
    clampCnt := 0, tgt := fNaN, fb := fNaN, manual := 0, ovr := 0, latest := none, ilkTicks := 0, before := none, changed := false,
    cmds := [] }
def PrfSt.reset : PrfSt :=
  { pg := Vector.replicate 128 Pg.reset, mf := Vector.replicate 48 Mf.reset, mail := [], canMail := [], box := Mail.reset, absentEdge := false, returnEdge := false }

def Meas.zero : Meas := { range := 0, phase := 0, doppler := 0, lockMs := 0, half := false, slip := false, valid := false }
def NavCh.reset : NavCh :=
  { enF := false, fault := false, err := false, lastErr := 0, st := .idle, sig := 0, sv := 0, ant := false, cn0 := 0, sync := false, plock := false,
    half := false, slipSeen := false, slipNext := false, lockT := 0, lolCnt := 0, slipCnt := 0, since := 0, lockRun := 0,
    lowRun := 0, noPhase := 0, rounds := 0, waitRef := false, elev := none, stayTill := 0, resid := none, integ := 1, load := .none,
    meas := Meas.zero }
def RtcmSrc.reset : RtcmSrc :=
  { good := 0, crcErr := 0, unsup := 0, bytes := [], waiting := [], tag := none, runStart := none, station := 0, ref := none, msm := [] }
def AntSt.reset : AntSt := { bias := 0, short := false, isOpen := false, shortSeen := false, ma := 0, shortCnt := 0, shortAt := 0 }
def RfSt.reset : RfSt := { agc := 0, jn := 0, blank := 0, lock := false, overload := false }
def NavSt.reset : NavSt :=
  { en := BitVec.allOnes 384, ch := Vector.replicate 384 NavCh.reset, solMode := 0, hdgState := 0, hdg := fNaN, pitch := fNaN,
    baseLen := fNaN, whip := .normal, holdSince := 0, lowSince := none, burst := none, posAnt := false, svUsed := 0,
    chShort := false, src := 0, far := false, resetSeen := false, stationUsed := 0, age := 0xFFFF, ageMs := none,
    rtcm := Vector.replicate 2 RtcmSrc.reset, queue := [], pass := none, passAt := 0, passCnt := 0, allocDue := false, epochAt := none, rf := Vector.replicate 6 RfSt.reset,
    ant := Vector.replicate 2 AntSt.reset, notWanted := [], almanac := false, eph := [], gf := [], lastPos := none, refUsed := none,
    ambiguity := false, hdgAmbiguity := true, solOpt := 0 }
def SrcSt.reset : SrcSt := { qual := false, lossCnt := 0, run := 0, last := 0, lastDvt := 0, labelled := false }
def PtpSt.reset : PtpSt := { port := 1, utcOffset := none, offset := 0, lastAnn := 0, rounds := 0 }
def PoseSt.reset : PoseSt := { mode := 0, hdgSrc := 0, seq := 0, rcd := [], lastSol := none, lastHdg := none, opt := 0 }
def TimSt.reset : TimSt :=
  { st := .free, dvtSet := false, dvtBase := 0, optBase := 0, slew := 0, freq := 0, src := 0,
    srcs := Vector.replicate 3 SrcSt.reset, err := 0, holdSince := 0, lossCnt := 0, cvtHost := false, hOff := 0, epoch := 0,
    setSec := 0, secAt := none, leapGnss := none, leapHost := none, leapNext := none, aiding := none, align := none, delayWant := 0, delay := 0,
    pulseState := 0, pulseHigh := false, pulseFirst := false, pulseWalk := false, pulseCnt := 0, pulseSec := 0, pulseWidth := 0,
    latch := (0, 0, 0, 0, 0), ptp := PtpSt.reset, pose := PoseSt.reset, poseSns := Mail.reset, poseSvc := Mail.reset, cmds := [] }
def StrSt.reset : StrSt :=
  { st := .off, dir := false, curvLim := false, refused := false, coastSeen := false, reason := 0, seg := 0, met := 0,
    engageCnt := 0, lateCnt := 0, coastCnt := 0, errY := fNaN, errPsi := fNaN, kappa := fNaN, target := fNaN, remain := fNaN,
    coastSince := 0, takeRun := 0, lateRun := 0, cmd := none, srcPrev := false, speedBad := none, pend := [], hostOff := false,
    modeSet := false, lineNew := false, epochAt := none }

end Sys2Proof.Machine
end

