-- ==== Sys2Proof/Machine/Resets2.lean ====
section
/-! DEFINITION. What the mapper, the cameras, the CAN controllers, the Ethernet ports, the update service and the freeze
controller hold right after a reset (00 R3; log 2 for a field the spec gives no value for), and the stores of a factory
module. -/

namespace Sys2Proof.Machine

def Raster.empty : Raster := { origin := none, tiles := [] }
def YldStore.factory : YldStore :=
  { log := [], lastSeq := 0, files := [], lastFile := 0, rasters := [] }
def YldSt.reset : YldSt :=
  { buf := [], prev := none, working := false, sect := 0, lowerAt := none, bounds := [], distSum := 0, lag := 0,
    lagFromEst := false, est := 0, taken := 0, openRec := none, held := [], lastF := 0, flow0 := 0, tails := [], frames := [], inbox := none, history := [],
    lastFrame := 0, samples := [], accept := 0, reject := 0, raster := Raster.empty, rasterFull := false, field := 0,
    fieldInForce := 0, clearWanted := none, rasterAt := 0, totalWet := 0, totalArea := 0, marks := [], lastMark := none, started := false,
    firstRec := true, latest := none, passLast := 0, lastOpt := 0, lastDvt := 0, lastEpoch := 0, lastUnset := true, lostCnt := 0,
    tlgSkip := false, fileOpen := false, fileField := 0, winSel := 0, winPos := 0 }

def Cam.reset : Cam :=
  { enF := false, fault := false, err := false, lastErr := 0, starting := false, initDone := false, link := false,
    aeLimit := false, tag := 0, frameCnt := 0, dropBuf := 0, dropErr := 0, tagErr := 0, lateCnt := 0, sets := [],
    cur := none, rawUsed := 0, outBufs := [], stats := none, mean := none, lastLock := 0, initAt := 0, burst := none }
def Pipe.reset : Pipe :=
  { run := false, err := false, lastErr := 0, mem := none, inl := none, ready := [], lastServed := 5, tap := .idle,
    tapPoint := 0, tapCam := 0, refused := false, tapData := [] }
def VisSt.reset : VisSt :=
  { en := 0, cam := Vector.replicate 6 Cam.reset, pipe := Vector.replicate 2 Pipe.reset, winSel := 0, winPos := 0, winBuf := [],
    winRead := 0, winHeld := none, gsRun := false, gsValid := false, gsFrame := 0, gsTag := 0, gsSkip := 0, gsHist := [],
    gsLast := 0 }

def CanCh.reset : CanCh :=
  { enF := false, fault := false, err := false, lastErr := 0, offWait := false, bus := .errorActive, recovering := false, wasLocked := false,
    detect := none, tdcFail := false, dupSeen := false, dispLate := false, tec := 0, recv := 0, busoffCnt := 0, txFailCnt := 0,
    txqFullCnt := 0, tpAbortCnt := 0, errFrameCnt := 0, dupCnt := 0, staleCnt := 0, lateCnt := 0, seq := 0, ring := [],
    dispatched := 0, txq := [], txb := Vector.replicate 3 none, sending := none, abortNow := false, offs := [], offSince := 0, broken := none,
    cycle := 0, refSof := none, refSent := false, claim := .none, addr := 0xFE, claimSince := 0, claimState := none, msgSeq := 0,
    msgs := [], rxConn := [], txConn := none, addrLost := false }
def CanSt.reset : CanSt :=
  { en := 0, ch := Vector.replicate 8 CanCh.reset, order := 0, rx := [], rxTimers := [], setv := [], winSel := 0, winPos := 0, winOfs := 0,
    winValid := false, winBuf := [], txsId := 0, txsCtrl := 0, txsData := Vector.replicate 16 0,
    txmCtrl := 0x3800FF00, txmPgn := 0, txmState := 0, txmFail := 0, txmData := [] }

def EthPort.reset : EthPort := { enF := false, fault := false, err := false, lastErr := 0, link := false, fcs := 0, lost := 0 }
def Member.reset : Member :=
  { health := .unpaired, cLink := false, cErr := false, cSil := false, cDis := false, since := 0, answered := false,
    mirror := false, probe := none, sent := none, lostRun := 0, fcsAt := [] }
def Pair.reset : Pair :=
  { active := 2, prevAct := 2, takeAt := 0, degraded := false, eqxDefer := false, eqxFail := false, gapSince := none, gapUntil := 0, lastGap := 0, maxGap := 0, swapCnt := 0,
    faultCnt := 0, deferCnt := 0, failCnt := 0, swapAt := none, a := Member.reset, b := Member.reset }
def EthSt.reset : EthSt :=
  { en := 0, port := Vector.replicate 7 EthPort.reset, pair := Vector.replicate 3 Pair.reset, stbyDisc := 0 }

def BootRec.factory : BootRec :=
  { gen := 0, fwActive := false, cfgActive := false, setActive := false, fwTrial := false, cfgTrial := false, migrateFail := false,
    reject := false, trialCnt := 0, confirmed := 0, lastResult := 0, manifestId := 0, lastId := 0 }
def FwSlot.factory : FwSlot := { parts := [], version := 0, schema := 0 }
def Journal.empty : Journal := { state := .idle, manifest := [], parts := [], committed := none }
def UpdSt.reset : UpdSt :=
  { err := 0, cfgErr := 0, deferCnt := 0, lateCnt := 0, blockErr := 0, members := [], prepared := none, passed := none,
    decided := none, sampled := none, hostConfirm := false, normalSince := none, trialBoot := false, setUsed := false,
    settingsOk := false, regionFault := false, sessUp := false, sessDown := false, note := none }

/-- The TAP's instruction register loads IDCODE at TAP reset (22 R543). -/
def DbgSt.reset : DbgSt :=
  { phase := .run, holdExpired := false, full := false, mask := 0, frzCnt := 0, ignored := 0,
    began := none, pendingFull := none, since := none, snap := 0, faulty := 0, ir := 0x01, selTarget := 0, selChain := 0, maddr := 0 }

end Sys2Proof.Machine
end

