-- ==== Sys2Proof/Machine/StClk.lean ====
section
/-! DEFINITION. Time and the tick, with what an instant needs to remember (00 R6; 08 R213; 11 R294, R304). -/

namespace Sys2Proof.Machine

/-- The blocks that hold sticky bits, as they stood when the present instant began: an event of this instant wins over a write that would
clear its bit (00 R6). -/
structure Past where
  regions : Vector Region 10
  pwr : PwrSt
  wake : WakeSt
  sm : Vector SmSt 64
  hst : HstSt
  sns : SnsSt
  flw : FlwSt
  lop : LopSt
  prf : PrfSt
  nav : NavSt
  str : StrSt
  yld : YldSt
  vis : VisSt
  vlv : VlvSt
  psw : PswSt
  col : ColSt
  can : CanSt
  eth : EthSt
  rcd : RecSt
deriving DecidableEq, Repr, Inhabited

/-- Time and the tick (08 R213, 11 R294, R304).  `tickRem` is the part of a nanosecond that the slewed tick has not yet
paid out, `past` what the write of a sticky bit is held against. -/
structure ClkSt where
  opt : Opt
  tickOpt : Opt
  running : Bool
  tick : Nat
  tickSec : Nat
  aligned : Bool
  tickRem : Int
  past : Past
deriving DecidableEq, Repr, Inhabited

/-- Every block as it stands after a reset. -/
def Past.reset : Past :=
  { regions := Vector.replicate 10 Region.reset, pwr := PwrSt.reset, wake := WakeSt.reset, sm := Vector.replicate 64 SmSt.reset,
    hst := HstSt.reset, sns := SnsSt.reset, flw := FlwSt.reset, lop := LopSt.reset, prf := PrfSt.reset, nav := NavSt.reset,
    str := StrSt.reset, yld := YldSt.reset, vis := VisSt.reset, vlv := VlvSt.reset, psw := PswSt.reset, col := ColSt.reset,
    can := CanSt.reset, eth := EthSt.reset, rcd := RecSt.reset }

def ClkSt.reset : ClkSt :=
  { opt := 0, tickOpt := 0, running := false, tick := 0, tickSec := 0, aligned := false, tickRem := 0, past := Past.reset }

end Sys2Proof.Machine
end

