-- ==== Sys2Proof/Machine/State.lean ====
section
/-! DEFINITION. The state of the module: every block, the stores that survive a power cycle, the messages of the latest step
and the queue of waiting commands; the machine's reset; and the reasons a step can stop. -/

namespace Sys2Proof.Machine

/-- What a step sends to the outside world. -/
inductive Msg where
  /-- A Ronrex completion (05 R136, R139). -/
  | completion (sess ring : Nat) (ticket seq : Word) (op status : Nat) (replay : Bool) (payload : List Byte)
  /-- A publish message (05 R157) with its payload: the plain one, or a fleet envelope with its signature (05 R158). -/
  | publish (sess sub stream : Nat) (env : Bool) (seq : Word) (payload : List Byte)
  /-- A session ends (05 R135). -/
  | closed (sess : Nat)
  /-- A register burst to a camera's sensor (14 R370, R381): register, data bytes, delay in ms. -/
  | i2c (cam : Nat) (writes : List (Nat × List Byte × Nat))
  /-- An Ethernet message other than Ronrex (11 R313, 19 R475, R479, R481): its port, a kind, its IEEE 802.1Q tag, none where it goes
  untagged, and its data. -/
  | net (port : Nat) (kind : Nat) (tag : Option Nat) (data : List Byte)
  /-- Data shifted out of the test access port (22 R543): length in bits, value. -/
  | tdo (bits value : Nat)
  /-- The freeze marker on a power link (22 R539). -/
  | freezeMarker (die : Nat)
  /-- A power die reports its over-temperature (01 R29). -/
  | dieOvertemp (die : Nat)
  /-- The device certificate presented in a DTLS handshake (00 R1; 03 R88; 05 R132). -/
  | certificate (cert : DevCert)
  /-- The module resets (21 R528, R533; 22 R543). -/
  | moduleReset
deriving DecidableEq, Repr, Inhabited

/-- The machine.  `fmt` holds the last raw value packed for each field of a FORMAT (04 R123), by 512 × table + field; `free` counts the draws of undefined values, and `out` holds what the latest command sent. -/
structure State where
  clk : ClkSt
  pwr : PwrSt
  regions : Vector Region 10
  clRst : List (Nat × Nat)
  bud : BudSt
  wake : WakeSt
  boot : BootSt
  flash : FlashSt
  bootRec : BootRec
  journal : Journal
  fw : Vector FwSlot 2
  setSlots : Vector (Settings × Nat) 2
  store : YldStore
  img : Image
  grp : GrpSt
  sm : Vector SmSt 64
  hst : HstSt
  rcd : RecSt
  die : Vector DieSt 4
  psw : PswSt
  vlv : VlvSt
  col : ColSt
  sns : SnsSt
  flw : FlwSt
  lop : LopSt
  prf : PrfSt
  nav : NavSt
  tim : TimSt
  str : StrSt
  yld : YldSt
  vis : VisSt
  can : CanSt
  eth : EthSt
  updt : UpdSt
  dbg : DbgSt
  fmt : List (Nat × Nat)
  free : Nat
  out : List Msg
  pending : List Instr
deriving DecidableEq, Repr, Inhabited

/-- The reasons a step could stop with a fault: none, since every command of the table has an effect on this block. -/
inductive Fault where
deriving DecidableEq, Repr

/-- The reasons a step could be refused. -/
inductive Refusal where
  /-- A command without a meaning yet, by its mnemonic: raised by the dispatch alone; safe. -/
  | notModelled (mnemonic : String)
deriving DecidableEq, Repr

/-- The machine right after reset: the supply state OFF with a factory module's stores, every register at its reset value,
and no command waiting (00 R3, 02 R49). -/
def State.reset : State :=
  { clk := ClkSt.reset, pwr := PwrSt.reset, regions := Vector.replicate 10 Region.reset, clRst := [], bud := BudSt.reset,
    wake := WakeSt.reset, boot := BootSt.reset, flash := FlashSt.factory, bootRec := BootRec.factory, journal := Journal.empty,
    fw := Vector.replicate 2 FwSlot.factory, setSlots := Vector.replicate 2 (Settings.empty, 0), store := YldStore.factory,
    img := Image.empty, grp := GrpSt.reset, sm := Vector.replicate 64 SmSt.reset, hst := HstSt.reset, rcd := RecSt.reset,
    die := Vector.replicate 4 DieSt.reset, psw := PswSt.reset, vlv := VlvSt.reset, col := ColSt.reset, sns := SnsSt.reset,
    flw := FlwSt.reset, lop := LopSt.reset, prf := PrfSt.reset, nav := NavSt.reset, tim := TimSt.reset, str := StrSt.reset,
    yld := YldSt.reset, vis := VisSt.reset, can := CanSt.reset, eth := EthSt.reset, updt := UpdSt.reset, dbg := DbgSt.reset,
    fmt := [], free := 0, out := [], pending := [] }

end Sys2Proof.Machine
end

