-- ==== Sys2Proof/Machine/Ops.lean ====
section
/-! DEFINITION. Operations that every block shares: the clocks, draws of undefined values, the supply voltage, the messages a
step sends, publish streams, notices, and the admission and completion of Ronrex operations. -/

namespace Sys2Proof.Machine

/-- The outcome that every meaning of this model has. -/
abbrev Out := Host.Outcome State Fault Refusal

/-! Time (11 R294 to R296). -/

/-- The blocks with sticky bits as they stand now. -/
def State.asPast (s : State) : Past :=
  { regions := s.regions, pwr := s.pwr, wake := s.wake, sm := s.sm, hst := s.hst, sns := s.sns, flw := s.flw, lop := s.lop, prf := s.prf,
    nav := s.nav, str := s.str, yld := s.yld, vis := s.vis, vlv := s.vlv, psw := s.psw, col := s.col, can := s.can, eth := s.eth, rcd := s.rcd }

/-- The state once OPT has reached `o`: OPT never goes back (11 R294); a new instant remembers how the blocks stood before it (00 R6). -/
def State.reach (s : State) (o : Opt) : State :=
  { s with clk := { s.clk with opt := max s.clk.opt o, past := if s.clk.opt < o then s.asPast else s.clk.past } }

/-- DVT at OPT `o`, 0 while unset (11 R295): the base, the elapsed OPT and the slew in force. -/
def State.dvtAt (s : State) (o : Opt) : Nat :=
  if s.tim.dvtSet then
    ((s.tim.dvtBase : Int) + ((o : Int) - s.tim.optBase) + s.tim.slew * ((o : Int) - s.tim.optBase) / 1000000000).toNat
  else 0

/-- DVT now. -/
def State.dvt (s : State) : Nat := s.dvtAt s.clk.opt

/-- DVT where it is set, OPT otherwise: the time that interval boundaries follow (19 R483, 20 R503). -/
def State.gridAt (s : State) (o : Opt) : Nat := if s.tim.dvtSet then s.dvtAt o else o

/-- Whether a DVT grid of `p` ns has an instant at OPT `o`; the grid counts OPT while DVT is unset. -/
def State.onGrid (s : State) (o p : Nat) : Bool := o != 0 && s.gridAt o / p != s.gridAt (o - 1) / p

/-- The leap count in force: from GNSS, from PTP where GNSS gives none, the host's, or LEAP_DEFAULT (11 R310, R319). -/
def State.leap (s : State) : Nat :=
  match s.tim.leapGnss with
  | some l => l
  | none => match s.tim.ptp.utcOffset with
    | some u => u - 19
    | none => s.tim.leapHost.getD (s.img.fieldOr 0x0701 0x0001 (fun b => u8 b 12) 18)

/-- CVT at OPT `o`, none while it is invalid (11 R296). -/
def State.cvtAt (s : State) (o : Opt) : Option Nat :=
  if s.tim.cvtHost then some (((if s.tim.dvtSet then s.dvtAt o else o : Nat) : Int) + s.tim.hOff).toNat
  else if s.tim.dvtSet then some (s.dvtAt o + 315964800000000000 - s.leap * 1000000000)
  else none

/-! Free values. -/

/-- The next draw of an undefined value, and the state after it. -/
def State.draw (s : State) : Word × State := (Config.freeWord s.free, { s with free := s.free + 1 })

/-- SVC reads the pose's mailbox (01 R14). -/
def State.takePose (s : State) : State := { s with tim := { s.tim with poseSvc := s.tim.poseSvc.take } }

/-- A word of region `r` into a FIFO channel (01 R14): it is never dropped; where the channel is full, which the manual does not bound (a free
value), the region's full-event counter increments (log 113). -/
def State.fifoWrite (s : State) (r : Nat) : State :=
  let t := { s with free := s.free + 1 }
  if Config.fifoFull s.free then { t with regions := upd t.regions r fun (x : Region) => { x with hsFull := satInc x.hsFull } } else t

/-! The supply (02 R47). -/

/-- Region indices (01 R9). -/
def rSVC : Nat := 0
def rCTL : Nat := 1
def rSNS : Nat := 2
def rVIS : Nat := 3
def rNAV : Nat := 4
def rNET : Nat := 5

/-- The state of region `n`. -/
def State.region (s : State) (n : Nat) : RegionState := (rd s.regions n).st

/-- Whether region `n` runs: SVC, VIS, NAV and NET keep running in FAULT (01 R21). -/
def State.runs (s : State) (n : Nat) : Bool :=
  s.region n == .run || (s.region n == .fault && (n == rSVC || n == rVIS || n == rNAV || n == rNET))

/-- Whether cluster `c` of region `r` is being reset (01 R25). -/
def State.inReset (s : State) (r c : Nat) : Bool := s.clRst.contains (r, c)

/-- The monitor's measurement of VBAT contact `d`. -/
def SupplyIn.vb (m : SupplyIn) (d : Nat) : Nat :=
  match d with
  | 0 => m.vb1
  | 1 => m.vb2
  | 2 => m.vb3
  | _ => m.vb4

/-- VBAT of die `d` as VS uses it: the die's own sample while its region runs and has reported one, the
monitor's otherwise (02 R47). -/
def State.vbat (s : State) (d : Nat) : Nat :=
  match rd s.pwr.die d with
  | some v => if s.runs (6 + d) then v else s.pwr.mon.vb d
  | none => s.pwr.mon.vb d

/-- VS in mV: the lowest of the four VBAT contacts (02 R47). -/
def State.vs (s : State) : Nat := min (min (s.vbat 0) (s.vbat 1)) (min (s.vbat 2) (s.vbat 3))

/-- Whether the supply state is one in which the module runs its outputs (02 R49). -/
def State.powered (s : State) : Bool := s.pwr.supply == .normal || s.pwr.supply == .crank || s.pwr.supply == .overvolt

/-! What a step sends. -/

/-- The state after sending message `m`. -/
def State.send (s : State) (m : Msg) : State := { s with out := s.out ++ [m] }

/-- Whether a message is a publish message of session `i`. -/
def Msg.pubOf (i : Nat) : Msg → Bool
  | .publish j _ _ _ _ _ => j == i
  | _ => false

/-- A publish message one SEQ later. -/
def Msg.oneLater : Msg → Msg
  | .publish j k t e q p => .publish j k t e (q + 1) p
  | m => m

/-- A completion put into what this step sends: before the publish messages of its session, which then bear the SEQs after it (05 R138,
R148). -/
def queueFirst (i : Nat) (m : Msg) (l : List Msg) : List Msg :=
  let before := l.takeWhile fun x => !x.pubOf i
  let after := l.dropWhile fun x => !x.pubOf i
  before ++ [m] ++ after.map fun x => if x.pubOf i then x.oneLater else x

/-- The 24 bytes of a header that the module sends (05 R136). -/
def headerBytes (flags ring op ticket seq len status : Nat) : List Byte :=
  leBytes 2 0x5258 ++ leBytes 1 1 ++ leBytes 1 flags ++ leBytes 2 ring ++ leBytes 2 op ++ leBytes 4 ticket ++ leBytes 4 seq ++ leBytes 4 len
    ++ leBytes 2 status ++ leBytes 2 0

/-- The bytes of a Ronrex message (05 R136, R157). -/
def Msg.wire : Msg → List Byte
  | .completion _ ring ticket seq op status replay payload =>
    headerBytes (if replay then 9 else 1) ring op ticket.toNat seq.toNat payload.length status ++ payload
  | .publish _ sub stream env seq payload => headerBytes (if env then 6 else 2) 0xFFFE (0x100 + stream) sub seq.toNat payload.length 0 ++ payload
  | _ => []

/-- A UDP datagram of Ronrex: the DTLS records in it, each the bytes of its messages, and the don't-fragment flag (05 R131). -/
structure Datagram where
  dontFragment : Bool
  records : List (List Byte)
deriving DecidableEq, Repr

/-- The datagram that carries a message (05 R131): one record with one message, never fragmented. -/
def Msg.datagram (m : Msg) : Option Datagram :=
  match m with
  | .completion .. => some { dontFragment := true, records := [m.wire] }
  | .publish .. => some { dontFragment := true, records := [m.wire] }
  | _ => none

/-- The state at the start of a command: nothing sent yet, and OPT at the command's instant. -/
def State.begin (s : State) (o : Opt) : State := { s with out := [] }.reach o

/-- The state at the start of a command that comes at the present instant. -/
def State.start (s : State) : State := { s with out := [] }

/-! Publish streams (05 R156 to R160). -/

/-- The timebase code of envelopes and frames (05 R158): 0 LOCKED, 1 HOLDOVER, 2 FREE, 3 RECOVERING. -/
def State.timCode (s : State) : Nat :=
  match s.tim.st with
  | .locked => 0
  | .holdover => 1
  | .free => 2
  | .recovering => 3

/-- A fleet envelope before its signature (05 R158): bytes 0 to 39 + PLEN. -/
def State.envelope (s : State) (stream seq dvt : Nat) (body : List Byte) : List Byte :=
  [0x54, 0x58, 0x46, 0x45] ++ leBytes 2 1 ++ leBytes 1 stream
    ++ leBytes 1 (s.timCode + (if s.tim.dvtSet then 0 else 4)) ++ leBytes 8 s.boot.serial.toNat
    ++ leBytes 4 s.flash.bootCount.toNat ++ leBytes 4 seq ++ leBytes 8 dvt ++ leBytes 4 body.length ++ leBytes 4 0 ++ body

/-- The session `i`. -/
def State.sess (s : State) (i : Nat) : Sess := rd s.hst.sess i

/-- The state with session `i` changed. -/
def State.updSess (s : State) (i : Nat) (f : Sess → Sess) : State :=
  { s with hst := { s.hst with sess := upd s.hst.sess i f } }

/-- One item of a stream (05 R157, R158): its OPT and DVT, its body, and the whole signed envelope where another module made it
(21 R524). -/
structure Item where
  opt : Nat
  dvt : Nat
  body : List Byte
  made : Option (List Byte)

/-- A publish message with its payload leaves on session and subscription of `k`, with the session's next SEQ (05 R138). -/
def State.sendPub (s : State) (k : Sub) (payload : List Byte) : State :=
  let s1 := s.updSess k.sess fun x => { x with txSeq := x.txSeq + 1 }
  s1.send (.publish k.sess k.id k.stream k.env (s1.sess k.sess).txSeq payload)

/-- A publish message dropped whole and counted (05 R148). -/
def State.dropItem (s : State) : State := { s with hst := { s.hst with dropPub := satInc s.hst.dropPub } }

/-- The envelopes signed in the second up to now (05 R160). -/
def State.signedNow (s : State) : List Opt := s.hst.signed.filter fun o => decide (s.clk.opt < o + 1000000000)

/-- A new fleet envelope (05 R158) with the next SEQ of its stream, signed; the second's 400th signature is the last of it (R160), and an item
beyond that is dropped like one that the send queue has no room for (log 104). -/
def State.sendEnvelope (s : State) (k : Sub) (body : List Byte) : State :=
  if 400 ≤ s.signedNow.length then s.dropItem
  else
    let q := rd s.hst.envSeq k.stream + 1
    let m := s.envelope k.stream q s.dvt body
    { s with hst := { s.hst with envSeq := put s.hst.envSeq k.stream q, signed := s.clk.opt :: s.signedNow } }.sendPub k
      (m ++ Config.sign s.boot.serial m)

/-- Sending one publish message of subscription `k` (05 R148, R157, R158): dropped whole and counted where the send queue is
full, which the manual does not bound (a free value).  A plain message carries no serial, for which R157 has no field (log 41). -/
def State.sendItem (s : State) (k : Sub) (i : Item) : State :=
  let s1 := { s with free := s.free + 1 }
  if Config.queueFull s.free then s1.dropItem
  else if k.env then
    match i.made with
    | some raw => s1.sendPub k raw
    | none => s1.sendEnvelope k i.body
  else s1.sendPub k (leBytes 4 (k.items + 1) ++ leBytes 4 0 ++ leBytes 8 i.opt ++ leBytes 8 i.dvt ++ i.body)

/-- One item of a stream for one subscription: counted, and sent as every DECIM-th item (05 R156, R157). -/
def State.pubOne (s : State) (id : Nat) (i : Item) : State :=
  match s.hst.subs.find? (fun k => k.id == id) with
  | none => s
  | some k =>
    let s1 := { s with hst := { s.hst with subs := s.hst.subs.map fun j => if j.id == id then { j with items := j.items + 1 } else j } }
    if (k.items + 1) % k.decim = 0 then s1.sendItem k i else s1

/-- An item of stream `stream` for every subscription whose INSTANCE satisfies `sel` (05 R156, R157). -/
def State.publishItem (s : State) (stream : Nat) (sel : Nat → Bool) (i : Item) : State :=
  ((s.hst.subs.filter fun k => k.stream == stream && sel k.inst).map Sub.id).foldl (fun t id => t.pubOne id i) s

/-- An item that the module itself makes. -/
def State.publish (s : State) (stream : Nat) (sel : Nat → Bool) (opt dvt : Nat) (body : List Byte) : State :=
  s.publishItem stream sel ⟨opt, dvt, body, none⟩

/-! The recorder's accumulators and notices (20 R493 to R502). -/

/-- The RECORDER FORMAT of the image, where it has one (20 R496). -/
def State.recFormat (s : State) : Option (List Byte) := s.img.tableOf kFormat 0x1010

/-- INTERVAL_S of the recorder (20 R496, R514). -/
def State.recInterval (s : State) : Nat := match s.recFormat with
  | some b => u32 b 8
  | none => 3600

/-- One count in bin `b` of histogram slot `h`, saturating and then setting SAT (20 R493, R494). -/
def RecSet.count (a : RecSet) (h b : Nat) : RecSet :=
  let v := (rd a.hist h).getD b 0
  let a1 := { a with hist := upd a.hist h fun l => l.set b (satInc v) }
  if satInc v = 0xFFFF then { a1 with flags := a1.flags ||| 0x0040 } else a1

/-- The counting of notice `code` by the EVENT fields of the RECORDER FORMAT (20 R497, R498, R502). -/
def countNotice (fmt : Option (List Byte)) (code : Nat) (a : RecSet) : RecSet :=
  match fmt with
  | none => a
  | some b =>
    (List.range (u16 b 2)).foldl (fun acc i =>
      let o := 24 + 24 * i
      let ext := 24 + 24 * u16 b 2 + 4 * i
      let src := u32 b o
      let base := src % 65536
      if u8 b (ext + 1) = 2 ∧ src / 65536 = 0x1010 ∧ base ≤ code ∧ code < base + 32
      then acc.count ((u16 b (o + 4) - 512) / 512) (code - base) else acc) a

/-- The state with the recorder changed. -/
def State.updRec (s : State) (f : RecSt → RecSt) : State := { s with rcd := f s.rcd }

/-! Records (20 R493, R494, R503). -/

/-- Slots of kind `k` that the FORMAT uses. -/
def recSlots (fmt : Option (List Byte)) (hist : Bool) : Nat :=
  match fmt with
  | none => 0
  | some b => ((List.range (u16 b 2)).filter fun i => (u8 b (24 + 24 * u16 b 2 + 4 * i) == 0) == hist).length

/-- SOURCE of extreme slot `e`: the index of its field in the FORMAT (20 R495). -/
def extSource (fmt : Option (List Byte)) (e : Nat) : Nat :=
  match fmt with
  | none => 0
  | some b => ((List.range (u16 b 2)).find? fun i =>
      u8 b (24 + 24 * u16 b 2 + 4 * i) != 0 && u16 b (28 + 24 * i) == 16896 + 192 * e).getD 0

/-- Whether the FORMAT has a field in extreme slot `e`. -/
def extUsed (fmt : Option (List Byte)) (e : Nat) : Bool :=
  match fmt with
  | none => false
  | some b => (List.range (u16 b 2)).any fun i =>
      u8 b (24 + 24 * u16 b 2 + 4 * i) != 0 && u16 b (28 + 24 * i) == 16896 + 192 * e

/-- FLAGS bits of the record being closed, beside those gathered (20 R494). -/
def flagBits (l : List (Bool × Nat)) : Nat := l.foldl (fun a p => if p.1 then a + 2 ^ p.2 else a) 0

/-- The record of the open set, closed now, without its SEQ and CRC (20 R493, R494). -/
def State.recordBody (s : State) (shutdown atBoundary : Bool) : List Byte :=
  let r := s.rcd
  let a := r.openSet
  let o := s.clk.opt
  let fmt := s.recFormat
  let cvt := s.cvtAt o
  let dvtSet := a.flags.getLsbD 8
  let fl := flagBits [(a.startDvt == 0, 0), (r.passed, 1), (shutdown, 2), (r.first, 3), (cvt.isNone, 4),
    (!(r.atBound && atBoundary && !r.passed && !dvtSet), 7)]
  leBytes 4 0 ++ leBytes 2 (fl + (a.flags.toNat &&& 0x0160)) ++ leBytes 2 s.tim.epoch.toNat ++ leBytes 8 a.start ++ leBytes 8 o
    ++ leBytes 8 a.startDvt ++ leBytes 8 (s.dvtAt o) ++ leBytes 8 (cvt.getD 0) ++ leBytes 8 s.boot.serial.toNat
    ++ leBytes 4 s.flash.bootCount.toNat ++ leBytes 2 (if fmt.isSome then 0x1010 else 0xFFFF)
    ++ leBytes 1 (recSlots fmt true) ++ leBytes 1 (recSlots fmt false)
    ++ (a.hist.toList.map fun h => (h.map fun v => leBytes 2 v.toNat).flatten).flatten
    ++ ((a.ext.toList.zipIdx).map fun p => if extUsed fmt p.2 then
          leBytes 4 p.1.value.toNat ++ leBytes 8 p.1.opt ++ leBytes 8 p.1.dvt ++ leBytes 2 (extSource fmt p.2)
            ++ leBytes 1 (if p.1.taken then 1 else 0) ++ leBytes 1 0
        else List.replicate 24 0).flatten
    ++ List.replicate 444 0

/-- The open set that begins now (20 R503, R504). -/
def State.newSet (s : State) : RecSet := { RecSet.empty with start := s.clk.opt, startDvt := s.dvt }

/-- A record that cannot be stored is discarded and counted (20 R508). -/
def RecSt.discard (r : RecSt) : RecSt :=
  { r with closed := none, unrecorded := satInc r.unrecorded }

/-- Closing the open set now and opening a new one (20 R504): the record waits to be written, or is discarded where no slot is
left. -/
def State.closeSet (s : State) (shutdown atBoundary : Bool) : State :=
  let body := s.recordBody shutdown atBoundary
  s.updRec fun r =>
    let r1 := { r with closed := some body, openSet := s.newSet, atBound := atBoundary, passed := false, first := false }
    if 16384 ≤ r.slots.length then r1.discard else r1

/-- Whether the present instant is an interval boundary that the recorder has not met yet (20 R503): after DVT is first set, the first one lies
at least 1 s later. -/
def State.recDue (s : State) : Bool :=
  let step := s.recInterval * 1000000000
  let g := s.gridAt s.clk.opt
  s.runs rSVC && s.onGrid s.clk.opt step && decide (s.rcd.bound < g / step) && (!s.tim.dvtSet || decide ((s.tim.setSec + 1) * 1000000000 ≤ g))

/-- The boundary of the present instant, where there is one still to meet (20 R503 to R505): the sets swap where the other is empty and
nothing holds it; otherwise the boundary is passed.  What comes at the boundary's own OPT belongs to the new set, so every sample and
notice meets the boundary first. -/
def State.recTurn (s : State) : State :=
  if s.recDue = false then s
  else
    let s1 := s.updRec fun r => { r with bound := s.gridAt s.clk.opt / (s.recInterval * 1000000000) }
    if s.rcd.closed.isSome ∨ s.rcd.freezers ≠ [] ∨ s.rcd.isClearing then s1.updRec fun r => { r with passed := true }
    else s1.closeSet false true

/-- A notice (20 R500 to R502): counted by the EVENT fields, and published unless its code's limit for the DVT second is
reached, which counts in SUPPR_CNT instead. -/
def State.notice (s : State) (code block unit : Nat) (value : F32) : State :=
  let s := s.recTurn
  let o := s.clk.opt
  let sec := s.gridAt o / 1000000000
  let r := s.rcd
  let used := if r.second = sec then r.inSecond else []
  let n := (lookupN used code).getD 0
  let limit := s.img.fieldOr 0x1001 0x0001 (fun b => u16 b 2) 10
  let r1 := { r with openSet := countNotice s.recFormat code r.openSet, second := sec }
  if n < limit then
    let body := leBytes 2 code ++ leBytes 1 block ++ leBytes 1 0 ++ leBytes 2 unit ++ leBytes 2 0 ++ leBytes 4 value.toNat ++ leBytes 4 0
    { s with rcd := { r1 with inSecond := bindN used code (n + 1) } }.publish 5
      (fun i => i == 0xFFFF || (i == 0 && decide (code < 0x8000)) || (i == 1 && decide (0x8000 ≤ code))) o (s.dvtAt o) body
  else { s with rcd := { r1 with inSecond := used, supprCnt := satInc r1.supprCnt } }

/-- CVT_MODE of a time mark (13 R354): 0 DERIVED, 1 HOST, 0xFF invalid. -/
def State.cvtMode (s : State) : Nat := if (s.cvtAt s.clk.opt).isNone then 0xFF else if s.tim.cvtHost then 1 else 0

/-- The time mark of a cause that comes now (13 R354), waiting for the record after it; `civil`: a change of civil epoch. -/
def State.timeMark (s : State) (civil : Bool) : State :=
  let m : TimeMark := { opt := s.clk.opt, dvt := s.dvt, dvtSet := s.tim.dvtSet, epoch := s.tim.epoch,
                        cvt := (s.cvtAt s.clk.opt).getD 0, leap := s.leap, mode := s.cvtMode, civil := civil }
  { s with yld := { s.yld with marks := s.yld.marks ++ [m] } }

/-- A change of the civil epoch (11 R297; 20 R494, R500): the counter wraps, the open set carries EPOCH_CHANGED, and notice
EPOCH goes out. -/
def State.newEpoch (s : State) : State :=
  let s := s.recTurn
  let e := s.tim.epoch + 1
  { s with tim := { s.tim with epoch := e },
           rcd := { s.rcd with openSet := { s.rcd.openSet with flags := s.rcd.openSet.flags ||| 0x0020 } } }.timeMark true |>.notice
    0x000B 0x07 0 (fOfInt e.toNat)

/-- A unit enters FAULT: notice UNIT_FAULT (20 R500). -/
def State.unitFault (s : State) (block unit lastErr : Nat) : State := s.notice 0x0007 block unit (fOfInt lastErr)

/-! Ronrex operations (05 R138 to R149). -/

/-- Status codes of 05 R155. -/
def stOK : Nat := 0x00
def stBUSY : Nat := 0x01
def stRINGLIMIT : Nat := 0x02
def stBADHEADER : Nat := 0x03
def stBADOPCODE : Nat := 0x04
def stBADLENGTH : Nat := 0x05
def stBADRING : Nat := 0x06
def stFEATURE : Nat := 0x07
def stACCESS : Nat := 0x08
def stBADADDR : Nat := 0x09
def stRESERVED : Nat := 0x0A
def stRANGE : Nat := 0x0B
def stREFUSED : Nat := 0x0C
def stPENDING : Nat := 0x0D
def stTIMEOUT : Nat := 0x0E
def stUNITRESET : Nat := 0x0F
def stNOTABLE : Nat := 0x10
def stNONONCE : Nat := 0x11
def stTOKEN : Nat := 0x12
def stVERSION : Nat := 0x13
def stFEATREQ : Nat := 0x14
def stSESSLIMIT : Nat := 0x15
def stSTATE : Nat := 0x16
def stRATE : Nat := 0x17

/-- The ring number of the control channel. -/
def controlRing : Nat := 0xFFFF

/-- The state after sending a completion of session `i`, before the publish messages that wait with it, with the session's next SEQ (05 R136,
R138, R148).  SEQ starts at 1 with the reply to HELLO; a reply that comes before that one bears SEQ 0 (log 105). -/
def State.reply (s : State) (r : HostReq) (op status : Nat) (replay : Bool) (payload : List Byte) : State :=
  let x := s.sess r.sess
  if x.hello = false ∧ op ≠ 0x0001 then s.send (.completion r.sess r.ring r.ticket 0 op status replay payload)
  else
    let s1 := s.updSess r.sess fun x => { x with txSeq := x.txSeq + 1 }
    let q := x.txSeq + 1 - BitVec.ofNat 32 (s.out.filter (Msg.pubOf r.sess)).length
    { s1 with out := queueFirst r.sess (.completion r.sess r.ring r.ticket q op status replay payload) s1.out }

/-- The completions remembered: those of the last 1,024 tickets completed within the last 2 s (05 R139). -/
def remember (l : List Completion) (c : Completion) : List Completion :=
  (c :: l.filter fun d => decide (c.opt < d.opt + 2000000000)).take 1024

/-- The state after sending a completion that counts as completed and is remembered (05 R139). -/
def State.finish (s : State) (r : HostReq) (op status : Nat) (payload : List Byte) : State :=
  (s.updSess r.sess fun x =>
    { x with done := remember x.done ⟨r.ticket, r.ring, op, status, payload, s.clk.opt⟩ }).reply r op status false payload

/-- Operations in flight of a session whose completions it still awaits. -/
def State.sessFlight (s : State) (i : Nat) : Nat := (s.hst.ops.filter fun f => !f.dead && f.req.sess == i).length

/-- Operations in flight on a ring. -/
def State.ringFlight (s : State) (n : Nat) : Nat := (s.hst.ops.filter fun f => !f.dead && f.req.ring == n).length

/-- GUARANTEE of the HST POLICY (05 R134). -/
def State.guarantee (s : State) : Nat := s.img.fieldOr 0x0101 0x0001 (fun b => u16 b 4) 32

/-- Sessions open. -/
def State.openSessions (s : State) : Nat := ((List.range 8).filter fun i => (s.sess i).isOpen).length

/-- Shared completion slots in use (05 R145): those taken as such at admission, and those of ended sessions, whose guarantee has ended. -/
def State.sharedUsed (s : State) : Nat := (s.hst.ops.filter fun f => f.shared || f.dead).length

/-- Whether a completion slot is free for session `i` (05 R145). -/
def State.slotFree (s : State) (i : Nat) : Bool :=
  decide (s.sessFlight i < s.guarantee) || decide (s.sharedUsed < 512 - s.guarantee * s.openSessions)

/-- Releasing what ring `n` can release (05 R147): every completion of a FREE ring, the leading completions of an ORDERED
ring.  The list is walked in order of admission. -/
def releaseWalk (ordered : Bool) (n : Nat) : Bool → List OpFlight → State → List OpFlight × State
  | _, [], s => ([], s)
  | blocked, f :: t, s =>
    if f.req.ring = n ∧ f.dead = false then
      match f.result with
      | some (st, pl) =>
        if blocked then let (l, s') := releaseWalk ordered n blocked t s; (f :: l, s')
        else releaseWalk ordered n blocked t (s.finish f.req f.op st pl)
      | none => let (l, s') := releaseWalk ordered n ordered t s; (f :: l, s')
    else let (l, s') := releaseWalk ordered n blocked t s; (f :: l, s')

/-- A ring that is closing and has no operation left closes, and its RING_CLOSE completes (05 R144). -/
def State.closeIfDone (s : State) (n : Nat) : State :=
  match (rd s.hst.ring n).closing with
  | none => s
  | some r =>
    if s.ringFlight n = 0 then
      ({ s with hst := { s.hst with ring := put s.hst.ring n Ring.reset } }.updSess r.sess
        fun x => { x with control := false }).finish r 0x0005 stOK []
    else s

/-- Releasing ring `n`. -/
def State.releaseRing (s : State) (n : Nat) : State :=
  let (l, s1) := releaseWalk (rd s.hst.ring n).ordered n false s.hst.ops s
  { s1 with hst := { s1.hst with ops := l } }.closeIfDone n

/-- The completion of an admitted operation (05 R145, R147): collected, held where its ring is ORDERED and an earlier one is
still in flight, discarded where its session has ended. -/
def State.complete (s : State) (r : HostReq) (status : Nat) (payload : List Byte) : State :=
  match s.hst.ops.find? (fun f => f.req == r) with
  | none => s
  | some f =>
    if f.dead then { s with hst := { s.hst with ops := s.hst.ops.filter fun g => g.req != r } }
    else
      { s with hst := { s.hst with ops := s.hst.ops.map fun (g : OpFlight) => if g.req == r then { g with result := some (status, payload) } else g } }.releaseRing
        r.ring

/-- What an operation's own checks and effect answer: refused at once, completed at once, or in flight (05 R145). -/
inductive OpRes where
  | refuse (status : Nat) (payload : List Byte)
  | done (s : State) (payload : List Byte)
  | wait (s : State)

/-- Whether SEQ is acceptable (05 R138): nonzero, above the highest accepted or within the 64 values below it, and new. -/
def seqOk (x : Sess) (q : Word) : Bool :=
  q != 0 && (decide (x.rxHigh.toNat < q.toNat)
    || (decide (x.rxHigh.toNat ≤ q.toNat + 64) && !(x.rxSeen.contains q)))

/-- The session once a SEQ is accepted. -/
def acceptSeq (x : Sess) (q : Word) : Sess :=
  let h := if x.rxHigh.toNat < q.toNat then q else x.rxHigh
  { x with rxHigh := h, rxSeen := q :: x.rxSeen.filter fun a => decide (h.toNat ≤ a.toNat + 64) }

/-- A message discarded without reply (05 R137, R138). -/
def State.badMsg (s : State) : State := { s with hst := { s.hst with badMsg := satInc s.hst.badMsg } }

/-- An authenticated message of session `i` arrives at `o`, whatever becomes of it (05 R134). -/
def State.seen (s : State) (i : Nat) (o : Opt) : State := s.updSess i fun x => { x with last := o }

/-- The host silence hears a qualifying message at `o` (05 R161). -/
def HstSt.hear (h : HstSt) (o : Opt) : HstSt :=
  { h with heard := if h.present then h.heard else h.heard.orElse fun _ => some o, ever := true,
           tBefore := if h.tLast < o then h.tLast else h.tBefore, tLast := o }

/-- The host silence at the start of a tick (05 R161): a message that arrives at the start itself does not count for it. -/
def HstSt.tick (h : HstSt) (start : Opt) : HstSt := { h with tTick := if h.tLast < start then h.tLast else h.tBefore }

/-- A message accepted under R137 and R138: the SEQ is taken, the session is live, and a qualifying message is recorded
(05 R134, R161). -/
def State.accept (s : State) (r : HostReq) : State :=
  let s1 := s.updSess r.sess fun x => { acceptSeq x r.seq with last := r.opt }
  if 1 ≤ (s.sess r.sess).level then
    { s1 with hst := s1.hst.hear r.opt }
  else s1

/-- BUSY and RING_LIMIT replies are counted (05 R162). -/
def State.busy (s : State) (r : HostReq) (op status : Nat) : State :=
  { s with hst := { s.hst with busyCnt := satInc s.hst.busyCnt } }.reply r op status false []

/-- Whether a host can be heard at all: NET runs (03 R71, 22 R539). -/
def State.netUp (s : State) : Bool := s.runs rNET && s.pwr.supply != .off && s.pwr.supply != .shutdown

/-- Whether the backbone pair is enabled (19 R489). -/
def State.pairOn (s : State) (p : Nat) : Bool := s.img.fieldOr 0x0F01 0x0003 (fun b => u8 b (32 * p) == 1) false

/-- Whether a message for the backbone interface reached a member that is not the active path, or came in a gap, in which no member
accepts frames (19 R477, R482). -/
def State.standbyPath (s : State) (r : HostReq) : Bool :=
  (s.sess r.sess).port == 0 && s.pairOn 0
    && ((rd s.eth.pair 0).active != (if r.pathB then 1 else 0) || decide (r.opt < (rd s.eth.pair 0).gapUntil))

/-- A frame for the backbone address at a member that is not the active path is discarded; a standby counts it (19 R477). -/
def State.standbyDiscard (s : State) (r : HostReq) : State :=
  if (rd s.eth.pair 0).active = 2 ∨ (rd s.eth.pair 0).active = (if r.pathB then 1 else 0) then s
  else { s with eth := { s.eth with stbyDisc := satInc s.eth.stbyDisc } }

/-- A message of a session beyond the eighth (05 R133, R135): its HELLO is answered with SESSION_LIMIT and the session closes; anything
before it is answered with STATE. -/
def State.surplusMsg (s : State) (r : HostReq) (op : Nat) : State :=
  if op = 0x0001 then
    { s with hst := { s.hst with surplus := s.hst.surplus.filter fun k => k + 8 != r.sess } }.send
      (.completion r.sess r.ring r.ticket 1 op stSESSLIMIT false []) |>.send (.closed r.sess)
  else s.send (.completion r.sess r.ring r.ticket 1 op stSTATE false [])

/-- Whether an operation of session `i` with this ticket is still in flight (05 R139), a RING_CLOSE that waits for its ring included. -/
def State.ticketFlies (s : State) (i : Nat) (ticket : Word) : Bool :=
  s.hst.ops.any (fun f => !f.dead && f.req.sess == i && f.req.ticket == ticket)
    || s.hst.ring.toList.any fun (g : Ring) => match g.closing with
      | some q => q.sess == i && q.ticket == ticket
      | none => false

/-- The receipt of a request (05 R137 to R139): discarded, answered STATE before HELLO, answered again where its ticket is
remembered, refused where its ticket is in flight, or passed on to `k` with the message accepted. -/
def receive (r : HostReq) (op : Nat) (k : State → State) (s : State) : State :=
  let s := s.begin r.opt
  if s.netUp = false then s
  else
    let x := s.sess r.sess
    if s.standbyPath r then s.standbyDiscard r
    else if s.hst.surplus.any (fun k => k + 8 == r.sess) then s.surplusMsg r op
    else if x.isOpen = false ∨ 8 ≤ r.sess then s.badMsg
    else if seqOk x r.seq = false then (s.seen r.sess r.opt).badMsg
    else
      let s := s.accept r
      if x.hello = false ∧ op ≠ 0x0001 then s.reply r op stSTATE false []
      else match x.done.find? (fun d => d.ticket == r.ticket && d.ring == r.ring && decide (r.opt < d.opt + 2000000000)) with
        | some d => s.reply r d.op d.status true d.payload
        | none =>
          if s.ticketFlies r.sess r.ticket then s.reply r op stBADHEADER false []
          else k s

/-- A request on a hardware ring (05 R143 to R149): ring, limit and slot first, then level, feature and length, then the
operation's own checks. -/
def hostOp (r : HostReq) (op level : Nat) (feature : Nat) (run : State → OpRes) (s : State) : State :=
  receive r op (fun s =>
    let g := rd s.hst.ring r.ring
    if 256 ≤ r.ring ∨ g.isOpen = false ∨ g.sess ≠ r.sess ∨ g.closing.isSome then s.reply r op stBADRING false []
    else if g.limit ≤ s.ringFlight r.ring then s.busy r op stRINGLIMIT
    else if s.slotFree r.sess = false then s.busy r op stBUSY
    else if (s.sess r.sess).level < level then s.reply r op stACCESS false []
    else if (s.sess r.sess).agreed.getLsbD feature = false then s.reply r op stFEATURE false []
    else if r.lenOk = false then s.reply r op stBADLENGTH false []
    else
      let f : OpFlight := ⟨r, op, none, decide (s.guarantee ≤ s.sessFlight r.sess), false⟩
      let accept (t : State) : State :=
        { t with hst := { t.hst with ops := t.hst.ops ++ [f], highWater := max t.hst.highWater (t.hst.ops.length + 1) } }
      match run (accept s) with
      | .refuse st pl => s.reply r op st false pl
      | .done t pl => t.complete r stOK pl
      | .wait t => t) s

/-- A request on the control channel (05 R143): no slot, one in flight per session. -/
def controlOp (r : HostReq) (op : Nat) (run : State → OpRes) (s : State) : State :=
  receive r op (fun s =>
    if r.ring ≠ controlRing then s.reply r op stBADRING false []
    else if (s.sess r.sess).control then s.busy r op stBUSY
    else if r.lenOk = false then s.reply r op stBADLENGTH false []
    else match run s with
      | .refuse st pl => s.reply r op st false pl
      | .done t pl => t.finish r op stOK pl
      | .wait t => t) s

/-- Ending session `i` (05 R135): its subscriptions end, its rings close, its operations run on without a reply and free their slots once
collected, its nonce and grants go (03 R91, R93), and its recorder freeze ends with the caller's help. -/
def State.dropSess (s : State) (i : Nat) : State :=
  { s with hst := { s.hst with
      sess := put s.hst.sess i Sess.reset,
      ring := s.hst.ring.map fun (g : Ring) => if g.isOpen ∧ g.sess = i then Ring.reset else g,
      ops := (s.hst.ops.filter fun (f : OpFlight) => f.req.sess != i || f.result.isNone).map fun (f : OpFlight) =>
        if f.req.sess = i then { f with dead := true } else f,
      subs := s.hst.subs.filter fun k => k.sess != i } }.send (.closed i)

end Sys2Proof.Machine
end

