-- ==== Sys2Proof/Machine/Operands.lean ====
section
/-! DEFINITION. Operand forms: CURVE tables (04 R102 to R107) and the packing and unpacking of FORMAT tables (04 R120 to
R125). -/

namespace Sys2Proof.Machine

/-! Exact rationals, for I32 curves (04 R106). -/

/-- A rational number: numerator and positive denominator, not reduced. -/
structure Q where
  num : Int
  den : Nat
deriving DecidableEq, Repr, Inhabited

def Q.ofInt (k : Int) : Q := ⟨k, 1⟩
def Q.add (a b : Q) : Q := ⟨a.num * b.den + b.num * a.den, a.den * b.den⟩
def Q.sub (a b : Q) : Q := ⟨a.num * b.den - b.num * a.den, a.den * b.den⟩
def Q.mul (a b : Q) : Q := ⟨a.num * b.num, a.den * b.den⟩
/-- The quotient; by zero it is 0, which no breakpoint pair gives (04 R104). -/
def Q.div (a b : Q) : Q :=
  if b.num = 0 then ⟨0, 1⟩
  else if b.num < 0 then ⟨-(a.num * b.den), a.den * b.num.natAbs⟩ else ⟨a.num * b.den, a.den * b.num.natAbs⟩

/-- A finite binary32 number exactly; 0 for the others. -/
def Q.ofF (x : F32) : Q :=
  match fv x with
  | .fin neg m e =>
    let k : Int := if neg then -(m : Int) else m
    if e < 0 then ⟨k, 2 ^ e.natAbs⟩ else ⟨k * (2 : Int) ^ e.natAbs, 1⟩
  | _ => ⟨0, 1⟩

/-- A binary32 number as an I32 curve's input (04 R106): an infinity stands beyond every finite number, so far that the exact line through any
two breakpoints leaves the 32-bit range unless it is flat. -/
def Q.ofX (x : F32) : Q :=
  match fv x with
  | .inf neg => Q.ofInt (if neg then -(2 : Int) ^ 2000 else (2 : Int) ^ 2000)
  | _ => Q.ofF x

/-- The nearest integer, ties away from zero. -/
def Q.round (a : Q) : Int := divRoundI a.num a.den

/-- The nearest integer of a binary32 number, ties away from zero; 0 for a NaN, a large number for an infinity. -/
def fRoundAway (x : F32) : Int :=
  match fv x with
  | .fin _ _ _ => (Q.ofF x).round
  | .inf neg => if neg then -(2 : Int) ^ 200 else (2 : Int) ^ 200
  | .nan => 0

/-! CURVE (04 R102 to R106). -/

/-- Where an input lies on an axis (04 R105). -/
inductive AxisPos where
  | below | seg (i : Nat) | last | above
deriving DecidableEq, Repr

/-- The position of `x` among `n` strictly ascending breakpoints, searched from index `i` with `fuel` left. -/
def axisFrom (pt : Nat → F32) (n : Nat) (x : F32) : Nat → Nat → AxisPos
  | 0, i => .seg i
  | fuel + 1, i =>
    if i + 1 = n then (if feq x (pt i) then .last else .above)
    else if flt x (pt (i + 1)) then .seg i else axisFrom pt n x fuel (i + 1)

/-- The position of `x` on an axis. -/
def axisPos (pt : Nat → F32) (n : Nat) (x : F32) : AxisPos :=
  if flt x (pt 0) then .below else axisFrom pt n x n 0

/-- The value on an axis (04 R105): `z` gives the values at the breakpoints, `lerp` the line through segment i. -/
def axisValue {α : Type} (linear extend : Bool) (n : Nat) (z lerp : Nat → α) : AxisPos → α
  | .below => if extend && linear then lerp 0 else z 0
  | .seg i => if linear then lerp i else z i
  | .last => z (n - 1)
  | .above => if extend && linear then lerp (n - 2) else z (n - 1)

/-- The line through segment i in binary32, in the order written (04 R105, R106). -/
def lerpF (pt : Nat → F32) (z : Nat → F32) (x : F32) (i : Nat) : F32 :=
  fadd (z i) (fdiv (fmul (fsub x (pt i)) (fsub (z (i + 1)) (z i))) (fsub (pt (i + 1)) (pt i)))

/-- The line through segment i, exactly. -/
def lerpQ (pt : Nat → F32) (z : Nat → Q) (x : F32) (i : Nat) : Q :=
  (z i).add ((((Q.ofX x).sub (Q.ofF (pt i))).mul ((z (i + 1)).sub (z i))).div ((Q.ofF (pt (i + 1))).sub (Q.ofF (pt i))))

/-- raw × 2^EXP as binary32 (04 R102). -/
def scaleRaw (raw : Int) (exp : Int) : F32 := f32 (.fin (decide (raw < 0)) raw.natAbs exp)

/-- The fields of a CURVE body. -/
def curveNX (b : List Byte) : Nat := u8 b 4
def curveNY (b : List Byte) : Nat := u8 b 5
def curve2D (b : List Byte) : Bool := u8 b 0 == 2
def curveX (b : List Byte) (i : Nat) : F32 := f32At b (24 + 4 * i)
def curveY (b : List Byte) (j : Nat) : F32 := f32At b (24 + 4 * curveNX b + 4 * j)
def curveZOff (b : List Byte) (i j : Nat) : Nat :=
  24 + 4 * curveNX b + (if curve2D b then 4 * curveNY b else 0) + 4 * (j * curveNX b + i)

/-- The raw output of an I32 CURVE (04 R105, R106). -/
def curveRaw (b : List Byte) (x y : F32) : Int :=
  let linear := u8 b 1 == 0
  let extend := u8 b 2 == 1
  let nx := curveNX b
  let px := axisPos (curveX b) nx x
  let row (j : Nat) : Q :=
    let z (i : Nat) : Q := Q.ofInt (i32 b (curveZOff b i j))
    axisValue linear extend nx z (lerpQ (curveX b) z x) px
  let q := if curve2D b then
      let ny := curveNY b
      axisValue linear extend ny row (lerpQ (curveY b) row y) (axisPos (curveY b) ny y)
    else row 0
  clampInt (-2147483648) 2147483647 q.round

/-- The output of an F32 CURVE, in the order of R105. -/
def curveF (b : List Byte) (x y : F32) : F32 :=
  let linear := u8 b 1 == 0
  let extend := u8 b 2 == 1
  let nx := curveNX b
  let px := axisPos (curveX b) nx x
  let row (j : Nat) : F32 :=
    let z (i : Nat) : F32 := f32At b (curveZOff b i j)
    axisValue linear extend nx z (lerpF (curveX b) z x) px
  if curve2D b then
    let ny := curveNY b
    axisValue linear extend ny row (lerpF (curveY b) row y) (axisPos (curveY b) ny y)
  else row 0

/-- FALLBACK of a CURVE as a value. -/
def curveFallback (b : List Byte) : F32 := if u8 b 3 = 0 then f32At b 16 else scaleRaw (i32 b 16) (i8 b 6)

/-- Whether a position lies off its axis. -/
def AxisPos.off (p : AxisPos) : Bool := p == .below || p == .above

/-- A CURVE evaluated on its inputs (04 R105, R106). -/
def curveEval (b : List Byte) (x y : Sig) : Sig :=
  let bad (v : Sig) : Bool := !v.2 || fIsNaN v.1
  if bad x || (curve2D b && bad y) then (curveFallback b, !(u8 b 7).testBit 0)
  else if u8 b 2 = 2 ∧ ((axisPos (curveX b) (curveNX b) x.1).off
      || (curve2D b && (axisPos (curveY b) (curveNY b) y.1).off)) then (curveFallback b, false)
  else if u8 b 3 = 0 then (curveF b x.1 y.1, true)
  else (scaleRaw (curveRaw b x.1 y.1) (i8 b 6), true)

/-! FORMAT (04 R120 to R125). -/

/-- The bit positions of a BE field of `n` bits from its most significant bit at `b` (04 R122). -/
def beBits : Nat → Nat → List Nat
  | 0, _ => []
  | n + 1, b => b :: beBits n (if b % 8 = 0 then b + 15 else b - 1)

/-- The bit positions of a field, least significant first (04 R122). -/
def fieldBits (b : List Byte) (o : Nat) : List Nat :=
  let start := u16 b (o + 4)
  let len := u8 b (o + 6)
  if (u8 b (o + 7)).testBit 2 then (beBits len start).reverse else (List.range len).map fun k => start + k

/-- TYPE and INVALID of a field (04 R121). -/
def fieldType (b : List Byte) (o : Nat) : Nat := u8 b (o + 7) % 4
def fieldInvalid (b : List Byte) (o : Nat) : Nat := u8 b (o + 7) / 8 % 4

/-- RAW_MIN and RAW_MAX as TYPE reads them. -/
def rawBound (b : List Byte) (o at_ : Nat) : Int := if fieldType b o = 1 then i32 b (o + at_) else u32 b (o + at_)

/-- An integer as the LEN bits of a field. -/
def rawBits (len : Nat) (k : Int) : Nat := (k % (2 ^ len : Nat)).toNat

/-- The raw value that packing gives a field (04 R123), as LEN bits: `hold` is the last raw value packed. -/
def packRaw (b : List Byte) (o : Nat) (v : Sig) (hold : Option Nat) : Nat :=
  let len := u8 b (o + 6)
  let q := fdiv (fsub v.1 (f32At b (o + 12))) (f32At b (o + 8))
  if v.2 && !fIsNaN v.1 then
    if fieldType b o = 2 then q.toNat
    else rawBits len (clampInt (rawBound b o 16) (rawBound b o 20) (fRoundAway q))
  else if fieldInvalid b o = 3 then hold.getD (2 ^ len - 1)
  else if fieldType b o = 2 then 0x7FC00000
  else match fieldInvalid b o with
    | 0 => 2 ^ len - 1
    | 1 => 2 ^ len - 2
    | _ => 0

/-- Putting the bits of `raw` at the positions listed, into a number of packed bits. -/
def putBits : List Nat → Nat → Nat → Nat
  | [], _, acc => acc
  | p :: t, raw, acc =>
    let c := if acc.testBit p then acc - 2 ^ p else acc
    putBits t (raw / 2) (if raw % 2 = 1 then c + 2 ^ p else c)

/-- Reading the bits at the positions listed. -/
def getBits : List Nat → Nat → Nat
  | [], _ => 0
  | p :: t, acc => (if acc.testBit p then 1 else 0) + 2 * getBits t acc

/-- The number a list of little-endian bytes spells. -/
def leNat : List Byte → Nat
  | [] => 0
  | x :: t => x.toNat + 256 * leNat t

/-- The packed output of a FORMAT (04 R122, R123) from the raw values of its fields in order: bits of no field are 1 for a
CAN target, 0 for the others. -/
def packFormat (b : List Byte) (raws : List Nat) : List Byte :=
  let len := u16 b 4
  let base := if 3 ≤ u8 b 0 then 2 ^ (8 * len) - 1 else 0
  leBytes len ((raws.zipIdx).foldl (fun acc p => putBits (fieldBits b (24 + 24 * p.2)) p.1 acc) base)

/-- The signed or unsigned number that LEN bits spell. -/
def rawInt (b : List Byte) (o raw : Nat) : Int :=
  if fieldType b o = 1 ∧ raw.testBit (u8 b (o + 6) - 1) then (raw : Int) - (2 ^ u8 b (o + 6) : Nat) else raw

/-- The value that unpacking gives a field of received data (04 R124).  The raw value of a FLOAT32 field is its 32 bits, and its bounds are read
as unsigned (log 102). -/
def unpackField (b : List Byte) (o : Nat) (data : List Byte) : Sig :=
  let raw := getBits (fieldBits b o) (leNat data)
  let scale (v : F32) : F32 := fadd (fmul v (f32At b (o + 8))) (f32At b (o + 12))
  if fieldType b o = 2 then
    let v := BitVec.ofNat 32 raw
    if fIsNaN v ∨ (raw : Int) < rawBound b o 16 ∨ rawBound b o 20 < raw then (fNaN, false) else (scale v, true)
  else
    let k := rawInt b o raw
    if k < rawBound b o 16 ∨ rawBound b o 20 < k then (fNaN, false) else (scale (fOfInt k), true)

end Sys2Proof.Machine
end

