-- ==== Sys2Proof/Machine/Signals.lean ====
section
/-! DEFINITION. Signals (04 R100, R101): the groups each block offers, and the reading of a SIGREF. -/

namespace Sys2Proof.Machine

/-- A Boolean signal (04 R101). -/
def sBool (b : Bool) : Sig := (if b then fOne else fZero, true)
/-- An integer signal. -/
def sInt (k : Int) : Sig := (fOfInt k, true)
/-- A signal that is valid when `v` holds. -/
def sIf (v : Bool) (x : F32) : Sig := if v && !fIsNaN x then (x, true) else (fNaN, false)
/-- The quotient of two integers as a signal. -/
def sRat (a : Int) (b : Nat) : Sig := (fRat a b, true)

/-- Whether a signal counts as true: valid and nonzero (04 R113). -/
def sTrue (x : Sig) : Bool := x.2 && !fIsNaN x.1 && !feq x.1 fZero

/-- SNS groups, from the latched input image (06 R163, R178). -/
def snsSig (s : State) (g e : Nat) : Sig :=
  let im := s.sns.latch
  match g with
  | 1 => if e < 24 then rd im.ainEng e else sigNone
  | 2 => if e < 24 then rd im.ainX e else sigNone
  | 3 => if e < 24 then rd im.fin e else sigNone
  | 4 => if e < 24 then rd im.pos e else sigNone
  | 5 => if e < 16 then rd im.din e else sigNone
  | 6 => if e < 16 then rd im.ts e else sigNone
  | 7 => if e < 4 then rd im.sup e else sigNone
  | 8 => if e < 6 then rd im.imu e else sigNone
  | _ => sigNone

/-- FLW groups, from the latest frame (07 R211). -/
def flwSig (s : State) (g e : Nat) : Sig :=
  let f := s.flw.out
  match g, e with
  | 1, 0 => f.wet
  | 1, 1 => f.dry
  | 1, 2 => f.moist
  | 1, 3 => f.moistSrc
  | 1, 4 => rd f.fbar 0
  | 1, 5 => rd f.fbar 1
  | 1, 6 => sIf true f.mm
  | 2, e => if e < 64 then
      let c := rd f.loss (e / 4)
      sIf c.ok (fOfInt (rd c.cnt (e % 4)).toNat) else sigNone
  | 3, e => if e < 16 then rd (rd f.group (e / 4)) (e % 4) else sigNone
  | 4, e => if e < 16 then sIf f.any (fOfInt (rd f.loss e).noise) else sigNone
  | _, _ => sigNone

/-- LOP groups (08 R243): invalid while the slot is OFF or in FAULT, but for the applied output of a faulted slot. -/
def lopSig (s : State) (g e : Nat) : Sig :=
  if 128 ≤ e then sigNone else
  let c := rd s.lop.slot e
  let on := c.enF && !c.fault
  match g with
  | 1 => sIf (c.enF && c.applied) c.u
  | 2 => sIf on c.v
  | 3 => sIf on c.spReg
  | 4 => sIf on c.e
  | 5 =>
    let l := (s.img.tableOf kLaw c.lawInForce).getD []
    sIf (on && u8 l 0 == 3 && u8 l 34 == 2) c.z1
  | 6 => if on then sInt c.chosen else sigNone
  | _ => sigNone

/-- PRF groups (09 R267). -/
def prfSig (s : State) (g e : Nat) : Sig :=
  if g < 8 then
    if 48 ≤ e then sigNone else
    let m := rd s.prf.mf e
    let ok := m.st != .notConfigured
    match g with
    | 1 => sIf ok m.tgt
    | 2 => sIf ok m.fb
    | 3 => if ok then sInt m.mode else sigNone
    | 4 => if ok then sBool ((rd s.prf.pg (u8 ((s.img.record 0x0501 0x0002 112 e).getD []) 0)).arrived) else sigNone
    | 5 => if ok then sBool m.idle else sigNone
    | 6 => if ok then sBool (m.st == .interlock) else sigNone
    | 7 => if ok then sBool (m.st == .override) else sigNone
    | _ => sigNone
  else
    if 128 ≤ e then sigNone else
    let p := rd s.prf.pg e
    match g with
    | 0x10 => sIf true p.posReg
    | 0x11 => sIf true p.velReg
    | 0x12 => sIf true p.accReg
    | _ => sigNone

/-- NAV groups (10 R292). -/
def navSig (s : State) (g e : Nat) : Sig :=
  let n := s.nav
  match g, e with
  | 1, 0 => sInt n.solMode
  | 1, 1 => sInt n.svUsed
  | 1, 2 => match n.ageMs with
    | some a => sRat a 1000
    | none => sigNone
  | 1, 3 => sBool n.posAnt
  | 2, 0 => sIf (n.hdgState != 0) n.hdg
  | 2, 1 => sIf (n.hdgState != 0) n.pitch
  | 2, 2 => sInt n.hdgState
  | 2, 3 => sIf (n.hdgState != 0) n.baseLen
  | 3, e => if e < 2 then
      let a := rd n.ant e
      sBool (a.bias != 0 && !a.short && !a.isOpen) else sigNone
  | _, _ => sigNone

/-- The pose record's flags (11 R318). -/
def State.poseFlag (s : State) (k : Nat) : Bool := (u8 s.tim.pose.rcd 7).testBit k

/-- TIM groups (11 R321), the pose from the pose record in force. -/
def timSig (s : State) (g e : Nat) : Sig :=
  let p := s.tim.pose.rcd
  let v (ok : Bool) (x : Sig) : Sig := if ok then x else sigNone
  match g, e with
  | 1, 0 => v (s.poseFlag 1) (sRat (i16 p 50) 1000)
  | 1, 1 => v (s.poseFlag 3) (sRat (u16 p 52) 100)
  | 1, 2 => v (s.poseFlag 2) (sRat (i16 p 54) 100)
  | 1, 3 => v (s.poseFlag 2) (sRat (i16 p 56) 100)
  | 1, 4 => v (s.poseFlag 2) (sRat (i16 p 58) 100)
  | 1, 5 => v (s.poseFlag 1) (sRat (i16 p 44) 1000)
  | 1, 6 => v (s.poseFlag 1) (sRat (i16 p 46) 1000)
  | 1, 7 => v (s.poseFlag 1) (sRat (i16 p 48) 1000)
  | 1, 8 => v (s.poseFlag 0) (sRat (u16 p 60) 1000)
  | 1, 9 => sInt s.tim.pose.mode
  | 2, 0 => sInt s.timCode
  | 2, 1 => sInt s.tim.err
  | 2, 2 => sInt s.tim.epoch.toNat
  | _, _ => sigNone

/-- STR group (12 R336). -/
def strSig (s : State) (g e : Nat) : Sig :=
  let t := s.str
  match g, e with
  | 1, 0 => sIf true t.errY
  | 1, 1 => sIf true t.errPsi
  | 1, 2 => sIf true t.kappa
  | 1, 3 => sInt (match t.st with
      | .off => 0
      | .ready => 1
      | .engaged => 2
      | .coast => 3)
  | 1, 4 => sIf true t.remain
  | _, _ => sigNone

/-- YLD groups (13 R364), group 0x01 from the latest data record. -/
def yldSig (s : State) (g e : Nat) : Sig :=
  let y := s.yld
  match g with
  | 1 => match y.latest with
    | none => sigNone
    | some b =>
      let wet := u32 b 32
      let dry := u32 b 36
      let area := u32 b 40
      let dur := u16 b 44
      let dryOk := !((u16 b 22).testBit 3)
      match e with
      | 0 => if area = 0 then sigNone else sRat (100000 * wet : Nat) area
      | 1 => if area = 0 ∨ dryOk = false then sigNone else sRat (100000 * dry : Nat) area
      | 2 => if dur = 0 then sigNone else sRat wet (10 * dur)
      | 3 => if dur = 0 ∨ dryOk = false then sigNone else sRat dry (10 * dur)
      | 4 => if u16 b 50 = 0xFFFF then sigNone else sRat (u16 b 50) 100
      | 5 => sRat (u16 b 48) 1000
      | 6 => sRat area 10000
      | 7 => if dur = 0 then sigNone else sRat (u16 b 46) dur
      | 8 => sRat (u16 b 54) 100
      | 9 => sInt (u8 b 57)
      | _ => sigNone
  | 2 => match e with
    | 0 => sBool y.working
    | 1 => sRat y.est 100
    | 2 => sInt (setBits y.sect 16).length
    | _ => sigNone
  | _ => sigNone

/-- The mean of the valid values `f` over the evaluated frames of the average (14 R386). -/
def grainMean (l : List GrainEval) (f : GrainEval → F32) : F32 :=
  let ok := l.filter GrainEval.valid
  fdiv (ok.foldl (fun a x => fadd a (f x)) fZero) (fOfInt ok.length)

/-- VIS groups (14 R389). -/
def visSig (s : State) (g e : Nat) : Sig :=
  let v := s.vis
  let n := s.img.fieldOr 0x0A01 0x0005 (fun b => u16 b 2) 30
  let l := v.gsHist.take n
  let cnt := (l.filter GrainEval.valid).length
  match g, e with
  | 1, 0 => sIf v.gsValid ((l.headD default).broken)
  | 1, 1 => sIf v.gsValid ((l.headD default).nongrain)
  | 1, 2 => sIf v.gsValid ((l.headD default).cover)
  | 1, 3 => sIf (decide (n ≤ 2 * cnt ∧ 0 < cnt)) (grainMean l GrainEval.broken)
  | 1, 4 => sIf (decide (n ≤ 2 * cnt ∧ 0 < cnt)) (grainMean l GrainEval.nongrain)
  | 1, 5 => sInt cnt
  | 2, e => if e < 6 then match (rd v.cam e).mean with
      | some m => (m, true)
      | none => sigNone
    else sigNone
  | _, _ => sigNone

/-- CAN groups (18 R472). -/
def canSig (s : State) (g e : Nat) : Sig :=
  match g with
  | 1 => if 32 ≤ e then sigNone else
    let c := rd s.can.ch (e / 4)
    sInt (match e % 4 with
      | 0 => match c.bus with
        | .errorPassive => 1
        | .busOff => 2
        | _ => 0
      | 1 => c.tec
      | 2 => c.recv
      | _ => match c.claim with
        | .none => 0
        | .claiming => 1
        | .claimed => 2
        | .lost => 3)
  | 2 => if 8 ≤ e then sigNone else
    let c := rd s.can.ch e
    if c.claim = .claimed then sInt c.addr else sigNone
  | 3 => if 32 ≤ e then sigNone else
    match s.img.record 0x0E01 0x0004 16 (e / 4) with
    | none => sigNone
    | some b => sInt (u16 b (4 + 2 * (e % 4)))
  | 0x10 => match lookupN s.can.rx e with
    | some v => (v, true)
    | none => sigNone
  | _ => sigNone

/-- ETH groups (19 R491). -/
def ethSig (s : State) (g e : Nat) : Sig :=
  match g with
  | 1 => if 6 ≤ e then sigNone else
    let p := rd s.eth.pair (e / 2)
    if e % 2 = 0 then sInt p.active else sBool (p.gapSince.isSome || decide (s.clk.opt < p.gapUntil))
  | 2 => if 7 ≤ e then sigNone else sBool (rd s.eth.port e).link
  | _ => sigNone

/-- Records stored that a reader can select. -/
def RecSt.stored (r : RecSt) : List RecSlot := r.slots.filter RecSlot.usable

/-- STATE of REC_STAT (20 R516): CLEARING, then FROZEN, then FULL, then RECORDING. -/
def RecSt.state (r : RecSt) : Nat :=
  if r.isClearing then 3 else if r.freezers ≠ [] then 1 else if 16384 ≤ r.slots.length then 2 else 0

/-- REC group 0x01 (20 R515). -/
def recSig (s : State) (g e : Nat) : Sig :=
  match g, e with
  | 1, 0 => sInt s.rcd.stored.length
  | 1, 1 => sInt s.rcd.unrecorded.toNat
  | 1, 2 => sInt s.rcd.state
  | _, _ => sigNone

/-- The CHANNELS record of a valve, switch or cooling channel; none where the section is absent. -/
def State.vlvRec (s : State) (n : Nat) : List Byte := (s.img.record 0x0B01 0x0001 36 n).getD []
def State.pswRec (s : State) (n : Nat) : List Byte := (s.img.record 0x0C01 0x0001 32 n).getD []
def State.colRec (s : State) (n : Nat) : List Byte := (s.img.record 0x0D01 0x0001 40 n).getD []

/-- MODE of a valve channel: 0 UNUSED, 1 PROFILE, 2 LEGACY (15 R411). -/
def State.vlvMode (s : State) (n : Nat) : Nat := u8 (s.vlvRec n) 0
/-- USE of a switch channel (16 R428). -/
def State.pswUsed (s : State) (n : Nat) : Bool := u8 (s.pswRec n) 0 == 1
/-- USE of a cooling channel (17 R441). -/
def State.colUsed (s : State) (n : Nat) : Bool := u8 (s.colRec n) 0 == 1

/-- Whether a valve channel is in a boost phase; one whose booking has ended (`boostLeft` is 0) only waits to be cut (15 R398). -/
def VlvCh.inBoost (c : VlvCh) : Bool := c.boost && c.boostLeft != 0

/-- VLV groups (15 R413). -/
def vlvSig (s : State) (g e : Nat) : Sig :=
  if 48 ≤ e ∨ s.vlvMode e = 0 then sigNone else
  let c := rd s.vlv.ch e
  if c.st = .fault then sigNone else
  match g with
  | 1 => sInt c.iMeas.toNat
  | 2 => sInt c.tgt
  | 3 => sBool c.inBoost
  | _ => sigNone

/-- PSW groups (16 R430). -/
def pswSig (s : State) (g e : Nat) : Sig :=
  if 40 ≤ e ∨ s.pswUsed e = false then sigNone else
  let c := rd s.psw.ch e
  if c.enF = false ∨ c.frz ≠ .none then sigNone else
  match g with
  | 1 => sRat c.iMeas.toNat 100
  | 2 => sRat c.dutyApp 10
  | 3 => sRat c.tj 10
  | 4 => sBool (c.phase == .inrush || c.phase == .on)
  | 5 => sBool c.openLoad
  | _ => sigNone

/-- COL groups (17 R443). -/
def colSig (s : State) (g e : Nat) : Sig :=
  if 8 ≤ e ∨ s.colUsed e = false then sigNone else
  let c := rd s.col.ch e
  if c.enF = false ∧ c.safe = false then sigNone else
  match g with
  | 1 => sInt c.rpm.toNat
  | 2 => sRat c.dutyApp 10
  | 3 => sBool (c.phase == .failedBlocked || c.phase == .failedTach)
  | _ => sigNone

/-- The region that produces a block's signals and serves its registers, for the blocks a partial freeze stops (22 R542). -/
def blockRegion (blk : Nat) : Option Nat :=
  match blk with
  | 0x02 => some rSNS
  | 0x03 => some rSNS
  | 0x04 => some rCTL
  | 0x05 => some rCTL
  | 0x06 => some rNAV
  | 0x0A => some rVIS
  | _ => none

/-- Whether block `blk` is served by a region that a freeze in force has stopped (22 R542). -/
def State.blockFrozen (s : State) (blk : Nat) : Bool :=
  match blockRegion blk with
  | some r => s.region r == .frozen
  | none => false

/-- The signal a SIGREF names; `vars` are the variables of the STATE table that reads it (04 R100, R101).  A frozen region's
signals are invalid (22 R542), and so is one that an uncorrectable memory error affected (01 R21).  The GROUP of a 0xFD or 0xFE reference, which R100
gives as 0x00, is not compared: such a reference is read as if it were 0 (log 103). -/
def State.sigV (s : State) (vars : List F32) (ref : Nat) : Sig :=
  let blk := ref / 2 ^ 24
  let g := ref / 2 ^ 16 % 256
  let e := ref % 2 ^ 16
  if s.blockFrozen blk || s.boot.bad.contains ref then sigNone else
  match blk with
  | 0x02 => snsSig s g e
  | 0x03 => flwSig s g e
  | 0x04 => lopSig s g e
  | 0x05 => prfSig s g e
  | 0x06 => navSig s g e
  | 0x07 => timSig s g e
  | 0x08 => strSig s g e
  | 0x09 => yldSig s g e
  | 0x0A => visSig s g e
  | 0x0B => vlvSig s g e
  | 0x0C => pswSig s g e
  | 0x0D => colSig s g e
  | 0x0E => canSig s g e
  | 0x0F => ethSig s g e
  | 0x10 => recSig s g e
  | 0xFD => if e < s.img.machines.length then sInt (rd s.sm e).state.toNat else sigNone
  | 0xFE => match vars[e]? with
    | some v => sIf true v
    | none => sigNone
  | _ => sigNone

/-- The signal a SIGREF names outside a STATE table. -/
def State.sig (s : State) (ref : Nat) : Sig := s.sigV [] ref

/-- A SIGREF of "none". -/
def noRef : Nat := 0xFFFFFFFF

end Sys2Proof.Machine
end

