-- ==== Sys2Proof/Machine/Groups.lean ====
section
/-! DEFINITION. Commit-group words (03 R81 to R84, 24 R568): what each takes from the image, and their live and shadow
copies. -/

namespace Sys2Proof.Machine

/-- The word at `o` of a section record where the image has it, else `dflt`. -/
def recWord (r : Option (List Byte)) (dflt : Word) (f : List Byte → Word) : Word :=
  match r with
  | some b => f b
  | none => dflt

/-- Initial words of the yield group from MAPPER (13 R351, R362, R365). -/
def yldBase (im : Image) (off : Nat) : Word :=
  let m := im.sect 0x0901 0x0001
  match off with
  | 0x100 => recWord m 0x03E80000 fun b => place (u8 b 32) 0 1 ||| place (u16 b 36) 16 16
  | 0x104 => recWord m 0x07D00190 fun b => place (u16 b 38) 0 16 ||| place (u16 b 40) 16 16
  | 0x108 => recWord m 0x00320100 fun b => place (u8 b 33) 0 1 ||| place (u8 b 35) 8 6 ||| place (u16 b 42) 16 16
  | 0x10C => recWord m 0x0000433C fun b => place (u8 b 34) 0 6 ||| place (u8 b 44) 8 4 ||| place (u8 b 45) 12 4
  | _ => 0

/-- Initial words of CAMn's exposure group from EXP_INIT (14 R387, R390): word `j`. -/
def visBase (im : Image) (n j : Nat) : Word :=
  let r := im.record 0x0A01 0x0003 32 n
  match j with
  | 0 => recWord r 0 fun b => place (u8 b 0) 0 2
  | 1 => recWord r 0 fun b => place (u32 b 4) 0 20
  | 2 => recWord r 0 fun b => place (u32 b 8) 0 20
  | 3 => recWord r 0 fun b => place (u32 b 12) 0 20
  | 4 => recWord r 0x100 fun b => place (u16 b 16) 0 16
  | 5 => recWord r 0x100 fun b => place (u16 b 18) 0 16
  | 6 => recWord r 0x100 fun b => place (u16 b 20) 0 16
  | 7 => recWord r 0x10001000 fun b => place (u16 b 22) 0 16 ||| place (u16 b 24) 16 16
  | 8 => recWord r 0x10001000 fun b => place (u16 b 26) 0 16 ||| place (u16 b 28) 16 16
  | _ => 0

/-- Initial words of CANn's controller group from CONTROLLERS (18 R470, R473): word `j`. -/
def canBase (im : Image) (n j : Nat) : Word :=
  let r := im.record 0x0E01 0x0001 32 n
  match j with
  | 0 => recWord r 0x01F3EFC0 fun b => lo32 (u32 b 16)
  | 1 => recWord r 0x00026780 fun b => lo32 (u32 b 20)
  | 2 => recWord r 0x1E fun b => lo32 (u32 b 24)
  | 3 => recWord r 0 fun b => lo32 (u32 b 28)
  | _ => 0

/-- Initial words of the flow groups (07 R192, R209, R212). -/
def flwBase (im : Image) (off : Nat) : Word :=
  if off = 0x10 then place (im.fieldOr 0x0301 0x0001 (fun b => u16 b 50) 0xFFFF) 16 16
  else if off < 0x240 then
    recWord (im.record 0x0301 0x0003 16 ((off - 0x200) / 4)) 0x0FA00028 fun b => place (u16 b 8) 0 14 ||| place (u16 b 10) 16 14
  else recWord (im.record 0x0301 0x0003 16 ((off - 0x240) / 4)) 0x20 fun b => place (u8 b 7) 0 8

/-- 1.0 × 10³⁰ in binary32. -/
def f1e30 : F32 := 0x7149F2CA

/-- The record of loop slot `n`, where it is configured (08 R241). -/
def Image.slotRec (im : Image) (n : Nat) : Option (List Byte) :=
  match im.record 0x0401 0x0001 48 n with
  | some b => if u16 b 0 = 0 then none else some b
  | none => none

/-- POS_MIN and POS_MAX of generator `n` (09 R265). -/
def Image.posRange (im : Image) (n : Nat) : F32 × F32 :=
  match im.record 0x0501 0x0001 28 n with
  | some b => (f32At b 0, f32At b 4)
  | none => (fneg f1e30, f1e30)

/-- The range of a FORMAT field in engineering units (08 R233): RAW_MIN and RAW_MAX through SCALE and OFFSET. -/
def fieldRange (b : List Byte) (i : Nat) : F32 × F32 :=
  let o := 24 + 24 * i
  let eng (k : Int) : F32 := fadd (fmul (fOfInt k) (f32At b (o + 8))) (f32At b (o + 12))
  let x := eng (rawBound b o 16)
  let y := eng (rawBound b o 20)
  if fieldType b o = 2 then (f32 (.inf true), f32 (.inf false)) else if fle x y then (x, y) else (y, x)

/-- The range of the target that a slot record binds (08 R233), `lo` and `hi` being the law's own limits. -/
def Image.bindRange (im : Image) (b : List Byte) (lo hi : F32) : F32 × F32 :=
  match u8 b 32 with
  | 1 => (fZero, fOfInt (u16 ((im.record 0x0B01 0x0001 36 (u16 b 34)).getD []) 4))
  | 2 => (fZero, fOfInt 100)
  | 3 => (fZero, fOfInt 100)
  | 4 => match im.tableOf kFormat (u16 b 36) with
    | some t => fieldRange t (u16 b 34)
    | none => (lo, hi)
  | 5 => im.posRange (u16 b 34)
  | _ => (lo, hi)

/-- Initial words of loop group `n` (08 R239, R244): LAW_SEL, OUT_MIN, OUT_MAX, RATE, K0 to K3. -/
def lopBase (im : Image) (n j : Nat) : Word :=
  match im.slotRec n with
  | none => if j = 0 then 0xFFFF else if 4 ≤ j then fOne else 0
  | some b =>
    let law := (im.tableOf kLaw (u16 b 12)).getD []
    let r := im.bindRange b (f32At law 4) (f32At law 8)
    match j with
    | 0 => place (u16 b 12) 0 16
    | 1 => fmax2 (f32At law 4) r.1
    | 2 => fmin2 (f32At law 8) r.2
    | 3 => 0
    | _ => fOne

/-- Initial words of generator group `n` (09 R265): VMAX, AMAX, JMAX. -/
def prfBase (im : Image) (n j : Nat) : Word :=
  match im.record 0x0501 0x0001 28 n with
  | some b => f32At b (12 + 4 * j)
  | none => if (im.slotRec n).isSome then f1e30 else 0

/-- Initial words of the navigation group from RECEIVER (10 R290, R293). -/
def navBase (im : Image) (off : Nat) : Word :=
  let r := im.sect 0x0601 0x0001
  if off = 0x40 then recWord r 0x00030A3F fun b => place (u8 b 0) 0 8 ||| place (u8 b 1) 8 5 ||| place (u8 b 2) 16 2
  else recWord r 0x003C000A fun b => place (u16 b 12) 0 16 ||| place (u16 b 14) 16 16

/-- The line group begins every power cycle at its reset values (12 R326). -/
def strBase (_off : Nat) : Word := 0

/-- Initial words of valve group `n` from CHANNELS (15 R411): VLV_CH_CFG, VLV_DITHER. -/
def vlvBase (im : Image) (n j : Nat) : Word :=
  let r := im.record 0x0B01 0x0001 36 n
  if j = 0 then recWord r 0 fun b => place (u8 b 1) 0 5 ||| place (u8 b 2) 8 1
  else recWord r 0 fun b => place (u16 b 14) 0 16 ||| place (u16 b 12) 16 16

/-- Initial words of switch group `n` from CHANNELS (16 R428): PSW_PWM, PSW_LAMP, PSW_RETRY. -/
def pswBase (im : Image) (n j : Nat) : Word :=
  let r := im.record 0x0C01 0x0001 32 n
  match j with
  | 0 => recWord r 0xC8 fun b => place (u16 b 14) 0 11
  | 1 => recWord r 0x5DC00000 fun b => flag ((u8 b 1).testBit 2) 0 ||| place (u16 b 16) 16 16
  | _ => recWord r 0x01F40003 fun b => place (u8 b 18) 0 4 ||| place (u16 b 20) 16 16

/-- The word of SYS_BUDGET_CFG at reset (02 R65, R66). -/
def budBase : Word := 0x00025990

/-- The initial live and shadow word of a commit group's register (03 R81). -/
def shBase (im : Image) (addr : Nat) : Word :=
  let off := addr % 65536
  match addr / 65536 with
  | 0x00 => budBase
  | 0x03 => flwBase im off
  | 0x04 => lopBase im ((off - 0x1000) / 32) ((off - 0x1000) % 32 / 4)
  | 0x05 => prfBase im ((off - 0x1000) / 16) ((off - 0x1000) % 16 / 4)
  | 0x06 => navBase im off
  | 0x08 => strBase off
  | 0x09 => yldBase im off
  | 0x0A => visBase im ((off - 0x1000) / 64) ((off - 0x1000) % 64 / 4)
  | 0x0B => vlvBase im ((off - 0x1000) / 8) ((off - 0x1000) % 8 / 4)
  | 0x0C => pswBase im ((off - 0x1000) / 16) ((off - 0x1000) % 16 / 4)
  | 0x0E => canBase im ((off - 0x1000) / 16) ((off - 0x1000) % 16 / 4)
  | _ => 0

/-- The live word of a commit-group register (03 R81, R82). -/
def State.live (s : State) (addr : Nat) : Word := (lookupN s.grp.live addr).getD (shBase s.img addr)

/-- The shadow word of a commit-group register (03 R81). -/
def State.shadow (s : State) (addr : Nat) : Word := (lookupN s.grp.shadow addr).getD (shBase s.img addr)

/-- The registers of a commit group, in the order of 24 R568; none for an ID that is not listed. -/
def groupWords (g : Nat) : Option (List Nat) :=
  let blk := g / 256
  let n := g % 256
  let arr (base step k : Nat) : List Nat := (List.range k).map fun j => blk * 65536 + base + step * j
  match blk with
  | 0x00 => if n = 1 then some [0x240] else none
  | 0x03 => if n = 0 then some [0x30010] else if n = 1 then some (arr 0x200 4 16 ++ arr 0x240 4 16) else none
  | 0x04 => if n < 128 then some (arr (0x1000 + 32 * n) 4 8) else none
  | 0x05 => if n < 128 then some (arr (0x1000 + 16 * n) 4 3) else none
  | 0x06 => if n = 0 then some [0x60040, 0x60044] else none
  | 0x08 => if n = 0 then some (arr 0x100 4 7 ++ arr 0x200 4 64 ++ arr 0x300 4 64 ++ arr 0x400 4 64) else none
  | 0x09 => if n = 0 then some (arr 0x100 4 4) else none
  | 0x0A => if n < 6 then some (arr (0x1000 + 64 * n) 4 9) else none
  | 0x0B => if n < 48 then some (arr (0x1000 + 8 * n) 4 2) else none
  | 0x0C => if n < 40 then some (arr (0x1000 + 16 * n) 4 3) else none
  | 0x0E => if n < 8 then some (arr (0x1000 + 16 * n) 4 4) else none
  | _ => none

/-- Whether group `g` has a snapshot that a boundary now would apply: its check completed strictly before (03 R82). -/
def State.snapReady (s : State) (g : Nat) : Option Snap :=
  s.grp.snaps.find? fun p => p.group == g && (match p.checkedAt with
    | some t => decide (t < s.clk.opt)
    | none => false)

/-- The reply of a COMMIT (05 R153): RULE, two reserved bytes, and the boundary's OPT. -/
def commitReply (rule : Nat) (opt : Opt) : List Byte := leBytes 2 rule ++ leBytes 2 0 ++ leBytes 8 opt

/-- The snapshot `p` applied now: its words become live, all together, and its COMMIT completes with the boundary's OPT
(03 R82). -/
def State.applySnap (s : State) (p : Snap) : State :=
  let t := { s with grp := { s.grp with live := p.words.foldl (fun l w => bindN l w.1 w.2) s.grp.live,
                                        snaps := s.grp.snaps.filter fun q => q.group != p.group } }
  match p.req with
  | some r => t.complete r stOK (commitReply 0 t.clk.opt)
  | none => t

/-- The boundary of group `g`: its checked snapshot, where it has one, is applied. -/
def State.applyGroup (s : State) (g : Nat) : State :=
  match s.snapReady g with
  | some p => s.applySnap p
  | none => s

/-! Settings (07 R193, 13 R350). -/

/-- The settings in use. -/
def State.settings (s : State) : Settings := (rd s.setSlots (if s.updt.setUsed then 1 else 0)).1

/-- A settings write (07 R193): the slot in use takes the new settings. -/
def State.updSettings (s : State) (f : Settings → Settings) : State :=
  { s with setSlots := upd s.setSlots (if s.updt.setUsed then 1 else 0) fun p => (f p.1, p.2) }

end Sys2Proof.Machine
end

