-- ==== Sys2Proof/Machine/Power.lean ====
section
/-! DEFINITION. What the power dies share: the channel-to-die map (01 R9), release groups (03 R77 to R80), the conditions that hold
a channel in its safe state, charge records, and start requests with their refusal (02 R56 to R64). -/

namespace Sys2Proof.Machine

/-! Dies (01 R9): the power dies D3 to D6 are numbered 0 to 3 here. -/

/-- The die of a switch channel. -/
def pswDie (n : Nat) : Nat := if n < 8 then n / 2 else if n < 24 then (n - 8) / 4 else (n - 24) / 4
/-- The class of a switch channel (16 R415): 0 H, 1 M, 2 L. -/
def pswClass (n : Nat) : Nat := if n < 8 then 0 else if n < 24 then 1 else 2
/-- The die of a valve channel. -/
def vlvDie (n : Nat) : Nat := n / 12
/-- The die of a cooling channel. -/
def fanDie (n : Nat) : Nat := n / 2

/-- The state with switch channel `n` changed. -/
def State.updPsw (s : State) (n : Nat) (f : PswCh → PswCh) : State := { s with psw := { s.psw with ch := upd s.psw.ch n f } }
/-- The state with valve channel `n` changed. -/
def State.updVlv (s : State) (n : Nat) (f : VlvCh → VlvCh) : State := { s with vlv := { s.vlv with ch := upd s.vlv.ch n f } }
/-- The state with cooling channel `n` changed. -/
def State.updCol (s : State) (n : Nat) (f : ColCh → ColCh) : State := { s with col := { s.col with ch := upd s.col.ch n f } }
/-- The state with bank `b` changed. -/
def State.updBank (s : State) (b : Nat) (f : Bank → Bank) : State := { s with vlv := { s.vlv with bank := upd s.vlv.bank b f } }
/-- The state with die `d` changed. -/
def State.updDie (s : State) (d : Nat) (f : DieSt → DieSt) : State := { s with die := upd s.die d f }

/-! Release groups (03 R77, R78). -/

/-- The release section of the system POLICY. -/
def Image.relSect (im : Image) : List Byte := (im.sect 0x0002 0x0001).getD []
/-- COUNT of the release section. -/
def Image.relCount (im : Image) : Nat := u16 im.relSect 0
/-- The 24 bytes of group `g`. -/
def Image.relGroup (im : Image) (g : Nat) : List Byte := span im.relSect (4 + 24 * g) 24
/-- COND and MODE of a group. -/
def Image.relCond (im : Image) (g : Nat) : Nat := u8 (im.relGroup g) 0
def Image.relFollow (im : Image) (g : Nat) : Bool := u8 (im.relGroup g) 1 == 1

/-- The outputs that a release group may name. -/
inductive OutKind where
  | vlv | bhs | fan | psw | wake | sup5
deriving DecidableEq, Repr

/-- Whether a group's masks name output `n` of a kind (03 R77). -/
def relNames (b : List Byte) (k : OutKind) (n : Nat) : Bool :=
  match k with
  | .vlv => (u8 b (8 + n / 8)).testBit (n % 8)
  | .bhs => (u8 b 14).testBit n
  | .fan => (u8 b 15).testBit n
  | .psw => (u8 b (16 + n / 8)).testBit (n % 8)
  | .wake => (u8 b 21).testBit 0
  | .sup5 => (u8 b 21).testBit (1 + n)

/-- Whether an output's group is released; an output of no group never is (03 R78). -/
def State.released (s : State) (k : OutKind) (n : Nat) : Bool :=
  (setBits s.boot.released.toNat 16).any fun g => decide (g < s.img.relCount) && relNames (s.img.relGroup g) k n

/-! Safe states (01 R26, R28, R29; 02 R52; 03 R80). -/

/-- Whether a die holds every channel in its safe state on its own logic: after a link-watchdog expiry, at its absolute limit,
after a supervisor reset, or commanded so in the orderly shutdown. -/
def State.dieOwn (s : State) (d : Nat) : Bool :=
  let x := rd s.die d
  x.linkSafe || x.overTemp || x.loading || s.region (6 + d) == .supervisor || s.pwr.supply == .shutdown

/-- Whether a die waits for a valid command frame: its first since its power-up or reset (01 R28), or the next one after its absolute limit
(01 R571). -/
def State.dieWaits (s : State) (d : Nat) : Bool := !(rd s.die d).armed || (rd s.die d).tempHold

/-- Whether a die's channels may leave their safe states at all. -/
def State.dieRuns (s : State) (d : Nat) : Bool := !(s.dieOwn d) && !(s.dieWaits d) && s.region (6 + d) == .run

/-- The loop slots bound to target `idx` of BIND_KIND `kind` (08 R233). -/
def State.boundSlots (s : State) (kind idx : Nat) : List Nat :=
  match s.img.sect 0x0401 0x0001 with
  | none => []
  | some b => (List.range 128).filter fun n =>
      let o := 48 * n
      u16 b o != 0 && u8 b (o + 32) == kind && u16 b (o + 34) == idx

/-- Whether a bound slot has given its target to the safe state (08 R222: fault action RELEASE). -/
def State.slotReleased (s : State) (kind idx : Nat) : Bool :=
  (s.boundSlots kind idx).any fun n => (rd s.lop.slot n).released

/-- Whether a switch, valve or cooling channel may follow its command. -/
def State.pswRuns (s : State) (n : Nat) : Bool := s.dieRuns (pswDie n) && s.released .psw n && !(s.slotReleased 2 n)
def State.vlvRuns (s : State) (n : Nat) : Bool :=
  s.dieRuns (vlvDie n) && s.released .vlv n && s.released .bhs (n / 6) && !(s.slotReleased 1 n)
def State.colRuns (s : State) (n : Nat) : Bool := s.dieRuns (fanDie n) && s.released .fan n && !(s.slotReleased 3 n)

/-! Charge records (02 R56, R59; 15 R397; 17 R441). -/

/-- A start charge record: CHARGE in 0.1 A, SLOTS, CLASS, MAX_DEFER. -/
structure Charge where
  charge : Nat
  slots : Nat
  cls : Nat
  maxDefer : Nat
deriving DecidableEq, Repr

/-- A record read from a START_CHARGE section, or a default. -/
def Image.chargeRec (im : Image) (tid n : Nat) (dflt : Charge) : Charge :=
  match im.record tid 0x00F1 8 n with
  | none => dflt
  | some b => ⟨u16 b 0, u16 b 2, u8 b 4, u16 b 6⟩

/-- The charge record of a source, by its index in the order of R61: PSW 0 to 39, VLV 40 to 87, FAN 88 to 95, WAKE_OUT 96. -/
def Image.charge (im : Image) (src : Nat) : Charge :=
  if src < 40 then im.chargeRec 0x0C01 src
    (match pswClass src with
      | 0 => ⟨1200, 20, 2, 250⟩
      | 1 => ⟨600, 10, 2, 250⟩
      | _ => ⟨150, 10, 2, 250⟩)
  else if src < 88 then im.chargeRec 0x0B01 (src - 40) ⟨80, 3, 1, 10⟩
  else if src < 96 then im.chargeRec 0x0D01 (src - 88) ⟨100, 100, 1, 50⟩
  else im.chargeRec 0x0002 0 ⟨200, 50, 3, 50⟩

/-! Start requests (02 R61, R62). -/

/-- Withdrawing the request of a source: nothing is counted. -/
def State.withdraw (s : State) (src : Nat) : State :=
  { s with bud := { s.bud with reqs := s.bud.reqs.filter fun r => r.src != src } }

/-- A valve channel's program, boost and target ended: at a refusal, a fault, a safe state or a disable (15 R399, R408, R409).
The booking of a boost stands (02 R58). -/
def VlvCh.abort (c : VlvCh) : VlvCh :=
  { c with tgt := 0, src := .imm 0, active := false, offSeq := false, ended := true, wait := .none, dither := .none,
           boost := false, boostLeft := 0, stall := none, bankWait := false, runaway := 0, legApp := 0 }

/-- The bank of a channel given up, where the channel holds it. -/
def State.giveBank (s : State) (n : Nat) : State :=
  s.updBank (n / 6) fun b => if b.granted = some (n % 6) then { b with granted := none } else b

/-- Ending a valve channel's program, with its request withdrawn and its bank given up. -/
def State.vlvAbort (s : State) (n : Nat) : State := ((s.withdraw (40 + n)).giveBank n).updVlv n VlvCh.abort

/-- The block of a start source. -/
def srcBlock (src : Nat) : Nat := if src < 40 then 0x0C else if src < 88 then 0x0B else if src < 96 then 0x0D else 0x00

/-- What a refusal does to its source (02 R59, R62; 15 R399; 16 R421; 17 R436). -/
def State.refuseSrc (s : State) (src : Nat) : State :=
  let o := s.clk.opt
  if src < 40 then s.updPsw src fun c =>
    { c with phase := .refused, startRefused := true, refuseCnt := satInc c.refuseCnt, err := true, refusedSince := o }
  else if src < 88 then (s.vlvAbort (src - 40)).updVlv (src - 40) fun c =>
    { c with st := .hold, startRefused := true, refuseCnt := satInc c.refuseCnt, err := true, refusedSince := o }
  else if src < 96 then s.updCol (src - 88) fun c => { c with phase := .refused, startRefused := true, since := o }
  else { s with wake := { s.wake with wait := false, refused := true } }

/-- The refusal of a source's request (02 R62). -/
def State.refuseReq (s : State) (src : Nat) : State :=
  let t := (s.withdraw src).refuseSrc src
  { t with bud := { t.bud with refused := satInc t.bud.refused } }.notice 0x0006 (srcBlock src) src fZero

/-- A start request raised at OPT `o` (02 R61); in SHUTDOWN it is refused at once (02 R52). -/
def State.raise (s : State) (src : Nat) (o : Opt) : State :=
  if s.pwr.supply = .shutdown then s.refuseReq src
  else
    let c := s.img.charge src
    let t := s.withdraw src
    { t with bud := { t.bud with reqs := t.bud.reqs ++ [⟨src, c.cls, c.charge, c.slots, c.maxDefer, o, 0⟩] } }

end Sys2Proof.Machine
end

