-- ==== Sys2Proof/Machine/Psw.lean ====
section
/-! DEFINITION. Switch channels (16 R415 to R431): duty and lamp compensation, the phase table, trips and retries, the thermal latch,
safe states and freeze states. -/

namespace Sys2Proof.Machine

/-- The limits of a channel's POLICY record (16 R428). -/
def State.pswSafeDuty (s : State) (n : Nat) : Nat :=
  let b := s.pswRec n
  if (u8 b 1).testBit 0 then u16 b 24 else 0
/-- INRUSH_MS in ns. -/
def State.pswInrush (s : State) (n : Nat) : Nat := u16 (s.pswRec n) 6 * 1000000
/-- LAMP, VNOM, RETRY_N and RETRY_MS in force (16 R427). -/
def State.pswLamp (s : State) (n : Nat) : Word := s.live (0xC1004 + 16 * n)
def State.pswRetryN (s : State) (n : Nat) : Nat := field (s.live (0xC1008 + 16 * n)) 0 4
def State.pswRetryMs (s : State) (n : Nat) : Nat := field (s.live (0xC1008 + 16 * n)) 16 16

/-- The duty that a channel should run: its safe state's, 1,000 while a spin-up feeds a fan through it (02 R57, log), else its
command (16 R416, R426). -/
def State.pswEff (s : State) (n : Nat) : Nat :=
  let c := rd s.psw.ch n
  if c.safe then s.pswSafeDuty n else if c.supply.isSome then 1000 else c.cmd

/-- The samples that V_D averages (16 R417), the monitor's measurement while the die has none. -/
def State.vdSamples (s : State) (d : Nat) : List Nat :=
  let h := (rd s.die d).vHist
  if h.isEmpty then [s.pwr.mon.vb d] else h

/-- DUTY × (VNOM / V_D)² limited to 1,000, and whether the limit acts (16 R417). -/
def lampDuty (duty vnom : Nat) (v : List Nat) : Nat × Bool :=
  let n := v.length
  let sum := v.foldl (· + ·) 0
  let x := duty * vnom * vnom * n * n
  if duty = 0 then (0, false)
  else if 1000 * sum * sum < x then (1000, true)
  else (divRound x (sum * sum), false)

/-- The applied duty and LAMP_SAT recomputed (16 R417, R426). -/
def State.pswDuty (s : State) (n : Nat) : State :=
  let c := rd s.psw.ch n
  let w := s.pswLamp n
  let lamp := if c.safe then (u8 (s.pswRec n) 1).testBit 2 else bit w 0
  if c.frz ≠ .none then s
  else if lamp then
    let r := lampDuty (s.pswEff n) (field w 16 16) (s.vdSamples (pswDie n))
    s.updPsw n fun c => { c with dutyApp := r.1, lampSat := r.2 }
  else s.updPsw n fun c => { c with dutyApp := s.pswEff n, lampSat := false }

/-- Switching a channel on, its inrush window beginning at `o` (16 R418, R421). -/
def State.pswOn (s : State) (n : Nat) (o : Opt) : State :=
  (s.updPsw n fun c => { c with phase := .inrush, inrushEnd := o + s.pswInrush n }).pswDuty n

/-- A start request of a channel (16 R421). -/
def State.pswRequest (s : State) (n : Nat) (o : Opt) : State := (s.updPsw n fun c => { c with phase := .wait }).raise n o

/-- The phase table's answer to the duty that the channel should run (16 R421), at OPT `o`. -/
def State.pswApply (s : State) (n : Nat) (o : Opt) : State :=
  let c := rd s.psw.ch n
  let eff := s.pswEff n
  if c.enF = false ∨ c.frz ≠ .none then s
  else if eff = 0 then
    match c.phase with
    | .wait => (s.withdraw n).updPsw n fun c => { c with phase := .idle }
    | .inrush | .on | .tripped | .refused => s.updPsw n fun c => { c with phase := .idle, retryEnd := none, retryLeft := none }
    | _ => s
  else if c.phase = .idle ∧ c.latch = false ∧ ¬ (c.safe = true ∧ s.dieOwn (pswDie n) = true) then s.pswRequest n o
  else s

/-- Taking the safe state (16 R426). -/
def State.pswEnterSafe (s : State) (n : Nat) : State :=
  (s.withdraw n).updPsw n fun c =>
    { c with safe := true, retryEnd := none, retryLeft := none,
             phase := match c.phase with
               | .wait => .idle
               | .refused => .idle
               | .tripped => .idle
               | .inrush => if s.pswSafeDuty n = 0 then .idle else .inrush
               | .on => if s.pswSafeDuty n = 0 then .idle else .on
               | p => p }

/-- Leaving the safe state (01 R28): a channel that tripped in it begins again. -/
def PswCh.leaveSafe (c : PswCh) : PswCh := { c with safe := false, phase := if c.phase = .tripped then .idle else c.phase }

/-- A channel leaves its freeze state at OPT `o`: a paused retry timer runs on (22 R540, R544). -/
def PswCh.thaw (c : PswCh) (o : Opt) : PswCh :=
  match c.phase, c.retryLeft with
  | .tripped, some l => { c with frz := .none, retryEnd := some (o + l), retryLeft := none }
  | _, _ => { c with frz := .none }

/-- A channel takes its freeze state (22 R540): its retry timer stands still, and OFF switches it off. -/
def PswCh.freeze (c : PswCh) (hold : Bool) (o : Opt) : PswCh :=
  let c1 := match c.phase, c.retryEnd with
    | .tripped, some e => { c with retryEnd := none, retryLeft := some (e - o) }
    | _, _ => c
  if hold then { c1 with frz := .hold }
  else { c1 with frz := .off, dutyApp := 0, phase := if c.phase = .inrush ∨ c.phase = .on then .idle else c.phase }

/-- A die's command frame for one channel (01 R28; 16 R416; 22 R544): freeze states are left, the command is taken, and the safe state is
taken or left. -/
def State.pswCommand (s : State) (n : Nat) (o : Opt) : State :=
  if s.pswUsed n = false then s
  else
    let s1 := s.updPsw n fun c => { (if c.frz = .none then c else c.thaw o) with cmd := c.want }
    let s2 := if s1.pswRuns n then (if (rd s1.psw.ch n).safe then s1.updPsw n PswCh.leaveSafe else s1)
              else if (rd s1.psw.ch n).safe then s1 else s1.pswEnterSafe n
    (s2.pswApply n o).pswDuty n

/-- A channel enters FAULT (16 R420, R421): notice UNIT_FAULT. -/
def State.pswFault (s : State) (n : Nat) : State :=
  let was := (rd s.psw.ch n).phase
  let t := (s.withdraw n).updPsw n fun c => { c with phase := .fault, retryEnd := none, retryLeft := none }
  if was = .fault then t else t.unitFault 0x0C n (rd s.psw.ch n).lastErr.toNat

/-- A trip (16 R418, R421): counted; in a safe state the channel is not retried (R426); in a freeze its retry timer stands still. -/
def State.pswTrip (s : State) (n : Nat) (code : Byte) (o : Opt) : State :=
  let c := rd s.psw.ch n
  let s1 := s.updPsw n fun c => { c with tripCnt := satInc c.tripCnt, tripSeen := true, err := true, lastErr := code }
  if c.safe then s1.updPsw n fun c => { c with phase := .tripped, retryEnd := none }
  else
    let s2 := s1.updPsw n fun c => { c with retries := satInc c.retries }
    if s.pswRetryN n < c.retries.toNat + 1 then s2.pswFault n
    else
      let t := s.pswRetryMs n * 1000000
      s2.updPsw n fun c =>
        if c.frz = .none then { c with phase := .tripped, retryEnd := some (o + t) }
        else { c with phase := .tripped, retryLeft := some t }

/-- Whether a channel is on. -/
def PswCh.isOn (c : PswCh) : Bool := c.phase == .inrush || c.phase == .on

/-- The thermal latch sets (16 R421, R423), with LAST_ERR `code`. -/
def State.pswLatch (s : State) (n : Nat) (code : Byte) (o : Opt) : State :=
  let c := rd s.psw.ch n
  if c.latch ∨ s.pswUsed n = false then s
  else
    let s1 := s.updPsw n fun c =>
      { c with latch := true, clrPend := false, err := true, lastErr := code, latchCnt := satInc c.latchCnt }
    if c.enF = false ∨ c.phase = .fault ∨ c.phase = .latched then s1
    else (s1.withdraw n).updPsw n fun c =>
      { c with phase := .latched, retryEnd := none,
               retryLeft := if c.phase = .tripped then (match c.retryEnd with
                 | some e => some (e - o)
                 | none => c.retryLeft) else none }

/-- The thermal latch is released (16 R421, R423). -/
def State.pswRelease (s : State) (n : Nat) (o : Opt) : State :=
  let c := rd s.psw.ch n
  let s1 := s.updPsw n fun c => { c with latch := false, clrPend := false }
  if c.phase ≠ .latched then s1
  else if s.pswEff n = 0 then s1.updPsw n fun c => { c with phase := .idle, retryLeft := none }
  else match c.retryLeft with
    | some (l + 1) => s1.updPsw n fun c =>
        if c.frz = .none then { c with phase := .tripped, retryEnd := some (o + l + 1), retryLeft := none } else { c with phase := .tripped }
    | _ => (s1.updPsw n fun c => { c with phase := .idle, retryLeft := none }).pswApply n o

/-- A change of a channel's enable (16 R421): disabling clears the phase, the timer and RETRIES, and keeps the latch. -/
def State.pswSetEnable (s : State) (n : Nat) (on : Bool) : State :=
  if (rd s.psw.ch n).enF = on then s
  else if on then s.updPsw n fun c => { c with enF := true, phase := if c.latch then .latched else .idle }
  else (s.withdraw n).updPsw n fun c =>
    { c with enF := false, phase := .idle, retryEnd := none, retryLeft := none, retries := 0, dutyApp := 0, lampSat := false }

/-- `PSW_CMD` CLEAR (16 R421). -/
def State.pswClear (s : State) (n : Nat) : State :=
  s.updPsw n fun c => if c.phase = .fault then { c with phase := if c.latch then .latched else .idle, retries := 0 } else c

/-- `PSW_CMD` CLEAR_LATCH (16 R423): at once at or below TJ_REL, remembered above it. -/
def State.pswClearLatch (s : State) (n : Nat) : State :=
  let c := rd s.psw.ch n
  if c.latch = false then s
  else if c.tj ≤ 10 * (u8 (s.pswRec n) 19 : Int) then s.pswRelease n s.clk.opt
  else s.updPsw n fun c => { c with clrPend := true }

/-- `PSW_CMD` RESTART (16 R421). -/
def State.pswRestart (s : State) (n : Nat) : State :=
  if (rd s.psw.ch n).phase = .refused ∧ s.pswEff n ≠ 0 then s.pswRequest n s.clk.opt else s

/-- The counters of the channels in a mask cleared (01 R19). -/
def State.pswCntClear (s : State) (base : Nat) (m : Word) : State :=
  { s with psw := { s.psw with ch := mapIdxV s.psw.ch fun i (c : PswCh) =>
      if base ≤ i ∧ i < base + 32 ∧ bit m (i - base) then { c with tripCnt := 0, openCnt := 0, refuseCnt := 0, latchCnt := 0 } else c } }

/-- HOST_ABSENCE of the PSW block (16 R428): it acts on channels whose source is `PSW_DUTY[n]`. -/
def State.pswAbsent (s : State) : State :=
  { s with psw := { s.psw with duty := mapIdxV s.psw.duty fun n (d : Nat) =>
      if (s.boundSlots 2 n).isEmpty then
        match s.img.hostAbsence 0x0C01 n 0 with
        | 1 => 0
        | 2 => s.pswSafeDuty n
        | _ => d
      else d } }

/-- The switch channels of a die in ascending order (01 R9). -/
def diePsw (d : Nat) : List Nat := (List.range 40).filter fun n => pswDie n == d

/-! A switch channel that feeds a fan (02 R57; 17 R436). -/

/-- Turned on as part of an admitted spin-up: no request of its own. -/
def State.pswFanOn (s : State) (n fan : Nat) (o : Opt) : State :=
  let s1 := s.updPsw n fun c => { c with supply := some fan }
  let c := rd s.psw.ch n
  if c.enF ∧ c.phase = .idle ∧ c.latch = false ∧ c.safe = false ∧ c.frz = .none then s1.pswOn n o else s1.pswDuty n

/-- Turned off in STOPPED and FAILED_BLOCKED: its own command governs again. -/
def State.pswFanOff (s : State) (n : Nat) (o : Opt) : State :=
  if (rd s.psw.ch n).supply.isNone then s
  else ((s.updPsw n fun c => { c with supply := none }).pswApply n o).pswDuty n

/-! The output (16 R416). -/

/-- A PWM period of a channel, and the on-time that it emits in one, in ns: an on-time below 10 µs stays off, an off-time below 10 µs on;
a channel that is off emits none. -/
def State.pswPeriod (s : State) (n : Nat) : Nat := 1000000000 / field (s.live (0xC1000 + 16 * n)) 0 11
def State.pswOnTime (s : State) (n : Nat) : Nat :=
  let c := rd s.psw.ch n
  let p := s.pswPeriod n
  let t := c.dutyApp * p / 1000
  if c.isOn = false ∨ t < 10000 then 0 else if p - t < 10000 then p else t

/-! The steps. -/

/-- The inrush window ends (16 R418, R421). -/
def execInrushEnd (o : Opt) (ch : Fin 40) (s : State) : Out :=
  let s := s.begin o
  let c := rd s.psw.ch ch.val
  .next (if c.phase = .inrush ∧ c.inrushEnd ≤ o then s.updPsw ch.val fun c => { c with phase := .on, onSince := o } else s)

/-- A short trip (16 R418), in INRUSH and ON. -/
def execPswShortTrip (o : Opt) (ch : Fin 40) (s : State) : Out :=
  let s := s.begin o
  .next (if (rd s.psw.ch ch.val).isOn then s.pswTrip ch.val 0x01 o else s)

/-- An overload trip (16 R418), in ON. -/
def execPswOverloadTrip (o : Opt) (ch : Fin 40) (s : State) : Out :=
  let s := s.begin o
  .next (if (rd s.psw.ch ch.val).phase = .on then s.pswTrip ch.val 0x02 o else s)

/-- The retry timer expires (16 R421). -/
def execPswRetryExpiry (o : Opt) (ch : Fin 40) (s : State) : Out :=
  let s := s.begin o
  let c := rd s.psw.ch ch.val
  .next (match c.phase, c.retryEnd with
    | .tripped, some e =>
      if o < e then s
      else if s.pswEff ch.val = 0 then s.updPsw ch.val fun c => { c with phase := .idle, retryEnd := none }
      else (s.updPsw ch.val fun c => { c with retryEnd := none }).pswRequest ch.val o
    | _, _ => s)

/-- RETRY_RESET_S in ON without a trip (16 R421). -/
def execPswRetryReset (o : Opt) (ch : Fin 40) (s : State) : Out :=
  let s := s.begin o
  let c := rd s.psw.ch ch.val
  .next (if c.phase = .on ∧ c.onSince + u16 (s.pswRec ch.val) 22 * 1000000000 ≤ o then s.updPsw ch.val fun c => { c with retries := 0 } else s)

/-- Open load (16 R419): not in CRANK, not with OPEN_A 0. -/
def execPswOpenLoad (o : Opt) (ch : Fin 40) (s : State) : Out :=
  let s := s.begin o
  let c := rd s.psw.ch ch.val
  .next (if c.phase = .on ∧ c.openLoad = false ∧ u16 (s.pswRec ch.val) 10 ≠ 0 ∧ s.pwr.supply ≠ .crank then
      s.updPsw ch.val fun c => { c with openLoad := true, openCnt := satInc c.openCnt, err := true, lastErr := 0x06 }
    else s)

/-- Open load clears (16 R419). -/
def execPswOpenClear (o : Opt) (ch : Fin 40) (s : State) : Out :=
  let s := s.begin o
  .next (if (rd s.psw.ch ch.val).phase = .on then s.updPsw ch.val fun c => { c with openLoad := false } else s)

/-- A clamp overload at the end of its event (16 R420, R421): FAULT from any phase, RETRIES unchanged. -/
def execPswClampOverload (o : Opt) (ch : Fin 40) (s : State) : Out :=
  let s := s.begin o
  .next (if s.pswUsed ch.val then (s.updPsw ch.val fun c => { c with lastErr := 0x03 }).pswFault ch.val else s)

/-- The junction reaches 170 °C, or TJ_SHED while DIE_HOT is set (16 R423, R424). -/
def execThermalLatch (o : Opt) (ch : Fin 40) (tj : Int) (s : State) : Out :=
  let s := s.begin o
  let s := s.updPsw ch.val fun c => { c with tj := tj }
  .next (if 1700 ≤ tj then s.pswLatch ch.val 0x04 o
    else if (rd s.die (pswDie ch.val)).dieHot ∧ 10 * (u8 (s.pswRec ch.val) 26 : Int) ≤ tj then s.pswLatch ch.val 0x05 o
    else s)

/-- The junction is at or below TJ_REL and the latch has been cleared (16 R423). -/
def execLatchRelease (o : Opt) (ch : Fin 40) (tj : Int) (s : State) : Out :=
  let s := s.begin o
  let s := s.updPsw ch.val fun c => { c with tj := tj }
  let c := rd s.psw.ch ch.val
  .next (if c.latch ∧ (c.clrPend ∨ (u8 (s.pswRec ch.val) 1).testBit 1) ∧ tj ≤ 10 * (u8 (s.pswRec ch.val) 19 : Int)
    then s.pswRelease ch.val o else s)

/-- REFUSE_RETRY_MS in REFUSED (16 R421); never with REFUSE_RETRY_MS 0. -/
def execPswRefuseRetry (o : Opt) (ch : Fin 40) (s : State) : Out :=
  let s := s.begin o
  let c := rd s.psw.ch ch.val
  let ms := u16 (s.pswRec ch.val) 28
  .next (if c.phase = .refused ∧ ms ≠ 0 ∧ c.refusedSince + ms * 1000000 ≤ o ∧ s.pswEff ch.val ≠ 0 then s.pswRequest ch.val o else s)

/-- A die turns on the lowest of its safe-state ON channels that are off, at most one per 2 ms (16 R426). -/
def execSafeStateTurnOn (o : Opt) (die : Fin 4) (s : State) : Out :=
  let s := s.begin o
  let d := die.val
  .next (if s.dieOwn d = false ∨ o < (rd s.die d).safeTurnOn + 2000000 then s
    else match (diePsw d).find? (fun n =>
        let c := rd s.psw.ch n
        c.enF && c.safe && c.phase == .idle && !c.latch && s.pswSafeDuty n != 0 && s.pswUsed n && c.frz == .none) with
      | none => s
      | some n => (s.updDie d fun x => { x with safeTurnOn := o }).pswOn n o)

/-- A die sensor at 135 °C or more (16 R424): DIE_HOT sets, and with it the latch of each channel at or above its TJ_SHED. -/
def execDieHot (o : Opt) (die : Fin 4) (temp : Int) (tj : List Int) (s : State) : Out :=
  let s := s.begin o
  let s := s.updDie die.val fun x => { x with dieT := temp }
  .next (if temp < 135 then s
    else ((diePsw die.val).zip tj).foldl (fun (t : State) (p : Nat × Int) =>
        let t1 := t.updPsw p.1 fun c => { c with tj := p.2 }
        if 10 * (u8 (t.pswRec p.1) 26 : Int) ≤ p.2 then t1.pswLatch p.1 0x05 o else t1)
      (s.updDie die.val fun x => { x with dieHot := true }))

/-- A die sensor at 130 °C or less (16 R424). -/
def execDieHotClear (o : Opt) (die : Fin 4) (temp : Int) (s : State) : Out :=
  let s := s.begin o
  let s := s.updDie die.val fun x => { x with dieT := temp }
  .next (if temp ≤ 130 then s.updDie die.val fun x => { x with dieHot := false } else s)

end Sys2Proof.Machine
end

