-- ==== Sys2Proof/Machine/Cooling.lean ====
section
/-! DEFINITION. Cooling channels and the shutdown comparators (17 R432 to R444). -/

namespace Sys2Proof.Machine

/-- Whether a channel has failed (17 R436). -/
def ColPhase.failed (p : ColPhase) : Bool := p == .failedBlocked || p == .failedTach

/-- Fields of a channel's record (17 R441). -/
def State.colSource (s : State) (n : Nat) : Nat := u8 (s.colRec n) 1
def State.colPpr (s : State) (n : Nat) : Nat := u8 (s.colRec n) 3
def State.colMin (s : State) (n : Nat) : Nat := u16 (s.colRec n) 6
def State.colSafeDuty (s : State) (n : Nat) : Nat := u16 (s.colRec n) 8
def State.colSpinRpm (s : State) (n : Nat) : Nat := u16 (s.colRec n) 10
/-- The switch channel that feeds the fan, where one is named. -/
def State.colSupply (s : State) (n : Nat) : Option Nat := if u8 (s.colRec n) 14 = 0xFF then none else some (u8 (s.colRec n) 14)

/-- 10 × a duty in %, to the nearest 0.1 %, within 0 to 1,000. -/
def dutyOf (x : F32) : Nat := (clampInt 0 1000 (fRoundAway (fmul x (fOfInt 10)))).toNat

/-- The table demand 10 × T of a channel (17 R432, R433): the largest of its terms' outputs. -/
def State.colTable (s : State) (n : Nat) : Nat :=
  let b := s.colRec n
  (List.range 4).foldl (fun a k =>
    let id := u16 b (32 + 2 * k)
    if id = 0xFFFF then a
    else match s.img.tableOf kCurve id with
      | none => a
      | some t => max a (dutyOf (curveEval t (s.sig (u32 b (16 + 4 * k))) sigNone).1)) 0

/-- The speed of a tachometer in rpm (17 R436), from the time between its last two rising edges, in whole rpm. -/
def tachRpm (ppr : Nat) (t : Option Nat) : Nat :=
  match t with
  | some ns => if ppr * ns = 0 then 0 else 60000000000 / (ppr * ns)
  | none => 0

/-- Whether a used, enabled channel other than `n` has failed outside its safe state (17 R434). -/
def State.colOthersFailed (s : State) (n : Nat) : Bool :=
  (List.range 8).any fun k => k != n && s.colUsed k && (rd s.col.ch k).enF && !(rd s.col.ch k).safe && (rd s.col.ch k).phase.failed

/-- The demand after steps 1 and 2 of R434, with MIN_RAISED and ALL_FULL. -/
def State.colDemand (s : State) (n : Nat) : Nat × Bool × Bool :=
  let c := rd s.col.ch n
  let d := match s.colSource n with
    | 0 => c.dem
    | 1 => if c.sheepdog ∧ (s.img.hostAbsence 0x0D01 n 0) % 2 = 0 then c.dem else max c.dem (rd s.col.duty n)
    | _ => match s.boundSlots 3 n with
      | k :: _ => dutyOf (rd s.lop.slot k).u
      | [] => 0
  let raised := decide (0 < d ∧ d < s.colMin n)
  let full := s.colOthersFailed n && !c.phase.failed
  (if full then 1000 else if raised then s.colMin n else d, raised, full)

/-- The supply switch of a channel turned on or off with its spin-up (02 R57; 17 R436). -/
def State.colFeed (s : State) (n : Nat) (on : Bool) (o : Opt) : State :=
  match s.colSupply n with
  | none => s
  | some p => if on then s.pswFanOn p n o else s.pswFanOff p o

/-- A channel stops: its request is withdrawn and its supply switch turned off; ATTEMPT is cleared where `reset` holds. -/
def State.colStop (s : State) (n : Nat) (reset : Bool) (o : Opt) : State :=
  (((s.withdraw (88 + n)).updCol n fun c =>
    { c with phase := .stopped, attempt := if reset then 0 else c.attempt }).colFeed n false o)

/-- A spin-up requested (17 R436). -/
def State.colRequest (s : State) (n : Nat) (o : Opt) : State := (s.updCol n fun c => { c with phase := .wait }).raise (88 + n) o

/-- The applied duty that the phase gives (17 R434 step 3, R436). -/
def ColCh.phaseDuty (c : ColCh) : Nat :=
  match c.phase with
  | .running => c.demand
  | .spinup => 1000
  | .failedTach => 1000
  | _ => 0

/-- One evaluation of a channel outside its safe and freeze states: its demand, the demand-driven rows of the phase table, and
DUTY_APP (17 R434, R436). -/
def State.colEval (s : State) (n : Nat) (o : Opt) : State :=
  let c := rd s.col.ch n
  if s.colUsed n = false ∨ c.safe ∨ c.frz ≠ .none ∨ c.enF = false then s
  else
    let r := s.colDemand n
    let s1 := s.updCol n fun c => { c with demand := r.1, minRaised := r.2.1, allFull := r.2.2 }
    let s2 := match c.phase with
      | .stopped => if 0 < r.1 then s1.colRequest n o else s1
      | .wait => if r.1 = 0 then s1.colStop n false o else s1
      | .refused => if r.1 = 0 then s1.colStop n true o else s1
      | .spinup => if r.1 = 0 then s1.colStop n true o else s1
      | .running => if r.1 = 0 then s1.colStop n false o else s1
      | _ => s1
    s2.updCol n fun c => { c with dutyApp := c.phaseDuty }

/-- Every channel evaluated in ascending order. -/
def State.colEvalAll (s : State) (o : Opt) : State := (List.range 8).foldl (fun t n => t.colEval n o) s

/-- The channels evaluated where the present instant is a tick's; between two ticks the next one does it (17 R434, R436). -/
def State.colAtTick (s : State) : State := if s.clk.opt = s.clk.tickOpt then s.colEvalAll s.clk.opt else s

/-- The part of a PWM period, in 0.1 %, for which a channel's output is high: inverted with INVERT (17 R434). -/
def State.fanHigh (s : State) (n : Nat) : Nat :=
  if (u8 (s.colRec n) 2).testBit 1 then 1000 - (rd s.col.ch n).dutyApp else (rd s.col.ch n).dutyApp

/-- An admitted spin-up (17 R436; 02 R57). -/
def State.colAdmit (s : State) (n : Nat) (o : Opt) : State :=
  (s.updCol n fun c => { c with phase := .spinup, attempt := min 3 (c.attempt + 1), spin := 0, dutyApp := 1000 }).colFeed n true o

/-- Taking the safe state (17 R438): SAFE_DUTY without spin-up, with phases and failure detection suspended. -/
def State.colEnterSafe (s : State) (n : Nat) (o : Opt) : State :=
  (s.colStop n true o).updCol n fun c =>
    { c with safe := true, allFull := false, minRaised := false, loss := 0, recov := 0, dutyApp := s.colSafeDuty n }

/-- Leaving it (01 R28; 17 R438): phases begin from STOPPED, but a channel that is on and commanded on carries on without a start
event. -/
def State.colLeaveSafe (s : State) (n : Nat) (o : Opt) : State :=
  let c := rd s.col.ch n
  let s1 := s.updCol n fun c => { c with safe := false, phase := .stopped }
  if c.enF ∧ 0 < c.dutyApp ∧ 0 < (s1.colDemand n).1 then
    ((s1.updCol n fun c => { c with phase := .running, loss := 0 }).colFeed n true o).colEval n o
  else (s1.updCol n fun c => { c with dutyApp := 0 }).colEval n o

/-- Leaving a freeze state (22 R544): HOLD goes on, OFF begins again from STOPPED. -/
def State.colThaw (s : State) (n : Nat) (o : Opt) : State :=
  match (rd s.col.ch n).frz with
  | .none => s
  | .hold => s.updCol n fun c => { c with frz := .none }
  | .off => (s.colStop n true o).updCol n fun c => { c with frz := .none, dutyApp := if c.safe then s.colSafeDuty n else 0 }

/-- A channel takes its freeze state (22 R540). -/
def ColCh.freeze (c : ColCh) (hold : Bool) : ColCh := if hold then { c with frz := .hold } else { c with frz := .off, dutyApp := 0 }

/-- A die's command frame for one channel (01 R28). -/
def State.colCommand (s : State) (n : Nat) (o : Opt) : State :=
  if s.colUsed n = false then s
  else
    let s1 := s.colThaw n o
    if s1.colRuns n then (if (rd s1.col.ch n).safe then s1.colLeaveSafe n o else s1.colEval n o)
    else if (rd s1.col.ch n).safe then s1 else s1.colEnterSafe n o

/-- A change of a channel's enable (01 R17; 17 R436): disabling stops it and clears ATTEMPT and any failure. -/
def State.colSetEnable (s : State) (n : Nat) (on : Bool) (o : Opt) : State :=
  let c := rd s.col.ch n
  if c.enF = on then s
  else if on then s.updCol n fun c => { c with enF := true, phase := .stopped }
  else (s.colStop n true o).updCol n fun c =>
    { c with enF := false, loss := 0, recov := 0, allFull := false, minRaised := false, dutyApp := if c.safe then c.dutyApp else 0 }

/-- A channel fails (17 R436): FAIL_SEEN, LAST_ERR and notice UNIT_FAULT; every other channel then runs at full duty (R434). -/
def State.colFail (s : State) (n : Nat) (p : ColPhase) (code : Byte) (o : Opt) : State :=
  let s1 := s.updCol n fun c => { c with phase := p, lastErr := code, failSeen := true, recov := 0 }
  let s2 := if p = .failedBlocked then s1.colFeed n false o else s1
  ((s2.updCol n fun c => { c with dutyApp := c.phaseDuty }).unitFault 0x0D n code.toNat).colAtTick

/-- The timers of a channel advance by one tick; they stand still in CRANK (17 R437), and failure detection is suspended in a safe state
and in a freeze (17 R438; 22 R540). -/
def State.colTimers (s : State) (n : Nat) : State :=
  let c := rd s.col.ch n
  if s.pwr.supply = .crank ∨ c.safe ∨ c.frz ≠ .none then s
  else s.updCol n fun c =>
    { c with spin := if c.phase = .spinup then c.spin + 1 else 0,
             loss := if c.phase = .running ∧ 0 < s.colPpr n ∧ c.rpm.toNat < u16 (s.colRec n) 12 then c.loss + 1 else 0,
             recov := if c.phase = .failedTach ∧ s.colSpinRpm n ≤ c.rpm.toNat then c.recov + 1 else 0 }

/-- Sheepdog (17 R435): a HOST channel while the host is absent. -/
def State.colSheepdog (s : State) (absent : Bool) : State :=
  let chs := mapIdxV s.col.ch fun n (c : ColCh) => { c with sheepdog := absent && s.colUsed n && s.colSource n == 1 }
  let duty := mapIdxV s.col.duty fun n (d : Nat) =>
    if absent ∧ s.colUsed n ∧ s.colSource n = 1 ∧ (s.img.hostAbsence 0x0D01 n 0) % 2 = 0 then 0 else d
  { s with col := { s.col with ch := chs, duty := duty } }

/-- The counters of the channels in a mask cleared (01 R19). -/
def State.colCntClear (s : State) (m : Word) : State :=
  let chs := mapIdxV s.col.ch fun n (c : ColCh) => if bit m n then { c with spinFailCnt := 0, tachLossCnt := 0 } else c
  { s with col := { s.col with ch := chs } }

/-- `COL_CMD` CLEAR (17 R436); the demand and the other channels follow at the next tick. -/
def State.colClear (s : State) (n : Nat) : State :=
  if (rd s.col.ch n).phase.failed then
    (s.colStop n true s.clk.opt).updCol n fun c => { c with dutyApp := 0 }
  else s

/-! The steps. -/

/-- At each 10 ms boundary (06 R178) T is evaluated on the input image of its tick (17 R432, R434). -/
def execCoolingDemand (o : Opt) (s : State) : Out :=
  let s := s.begin o
  let chs := mapIdxV s.col.ch fun n (c : ColCh) => { c with dem := s.colTable n }
  .next (if s.runs rCTL = false ∨ s.clk.running = false ∨ s.clk.opt ≠ s.clk.tickOpt ∨ s.clk.tickSec % 200 ≠ 0 then s
    else { s with col := { s.col with ch := chs } }.colEvalAll o)

/-- The 3 s spin timer elapses (17 R436). -/
def execSpinTimeout (o : Opt) (ch : Fin 8) (s : State) : Out :=
  let s := s.begin o
  let n := ch.val
  let c := rd s.col.ch n
  .next (if c.phase ≠ .spinup ∨ c.spin < 60000 then s
    else if s.colPpr n = 0 ∨ s.colSpinRpm n ≤ c.rpm.toNat then (s.updCol n fun c => { c with phase := .running, attempt := 0, loss := 0 }).colEval n o
    else
      let s1 := s.updCol n fun c => { c with spinFailCnt := satInc c.spinFailCnt, err := true }
      if c.attempt < 3 then s1.updCol n fun c => { c with phase := .pause, since := o, dutyApp := 0 }
      else s1.colFail n .failedBlocked 0x01 o)

/-- The speed has reached SPIN_RPM: RUNNING at the first tick that finds it so (17 R436). -/
def execSpinReached (o : Opt) (ch : Fin 8) (s : State) : Out :=
  let s := s.begin o
  let n := ch.val
  let c := rd s.col.ch n
  .next (if c.phase = .spinup ∧ s.clk.opt = s.clk.tickOpt ∧ 0 < s.colPpr n ∧ s.colSpinRpm n ≤ c.rpm.toNat then
      (s.updCol n fun c => { c with phase := .running, attempt := 0, loss := 0 }).colEval n o
    else s)

/-- The 5 s pause ends (17 R436). -/
def execPauseEnd (o : Opt) (ch : Fin 8) (s : State) : Out :=
  let s := s.begin o
  let n := ch.val
  let c := rd s.col.ch n
  .next (if c.phase = .pause ∧ c.since + 5000000000 ≤ o then
      (if 0 < (s.colDemand n).1 then s.colRequest n o else s.colStop n true o)
    else s)

/-- Speed below LOSS_RPM for 2 s in RUNNING (17 R436). -/
def execTachLoss (o : Opt) (ch : Fin 8) (s : State) : Out :=
  let s := s.begin o
  let n := ch.val
  let c := rd s.col.ch n
  .next (if c.phase = .running ∧ 40000 ≤ c.loss then
      (s.updCol n fun c => { c with tachLossCnt := satInc c.tachLossCnt, err := true }).colFail n .failedTach 0x02 o
    else s)

/-- Speed at or above SPIN_RPM for 10 s in FAILED_TACH (17 R436): FAIL_SEEN stays set. -/
def execTachRecovery (o : Opt) (ch : Fin 8) (s : State) : Out :=
  let s := s.begin o
  let n := ch.val
  let c := rd s.col.ch n
  .next (if c.phase = .failedTach ∧ 200000 ≤ c.recov then
      (s.updCol n fun c => { c with phase := .running, loss := 0, recov := 0, dutyApp := c.demand }).colAtTick
    else s)

/-- REFUSE_RETRY × 100 ms in REFUSED (17 R436, R441): ATTEMPT is kept. -/
def execCoolingRefuseRetry (o : Opt) (ch : Fin 8) (s : State) : Out :=
  let s := s.begin o
  let n := ch.val
  let c := rd s.col.ch n
  .next (if c.phase = .refused ∧ c.since + u8 (s.colRec n) 15 * 100000000 ≤ o ∧ 0 < (s.colDemand n).1 then s.colRequest n o else s)

/-- A comparator trips (17 R439): SHDN_N goes low and no command releases it. -/
def execShdnComparatorTrip (o : Opt) (ts15 : Bool) (s : State) : Out :=
  let s := s.begin o
  let x := s.col.shdn
  let x1 := if ts15 then { x with cmp15 := true, shdn := true } else { x with cmp14 := true, shdn := true }
  .next (if s.pwr.supply = .off ∨ (if ts15 then x.fault15 else x.fault14) then s else { s with col := { s.col with shdn := x1 } })

/-- A comparator resets (17 R439); SHDN_N stays low. -/
def execShdnComparatorReset (o : Opt) (ts15 : Bool) (s : State) : Out :=
  let s := s.begin o
  let x := s.col.shdn
  let x1 := if ts15 then { x with cmp15 := false } else { x with cmp14 := false }
  .next (if s.pwr.supply = .off then s else { s with col := { s.col with shdn := x1 } })

/-- Notice SHDN_ASSERTED, once, at the first tick at which SHDN is set (17 R440). -/
def execShdnAsserted (o : Opt) (s : State) : Out :=
  let s := s.begin o
  .next (if s.col.shdn.shdn ∧ s.col.shdn.noticed = false ∧ s.clk.running ∧ s.clk.opt = s.clk.tickOpt then
      { s with col := { s.col with shdn := { s.col.shdn with noticed := true } } }.notice 0x0002 0x0D 0 fZero
    else s)

end Sys2Proof.Machine
end

