-- ==== Sys2Proof/Machine/Valve.lean ====
section
/-! DEFINITION. Valve channels and banks (15 R391 to R414): the microcode engine, activation and new commands, boost phases, safe
states, faults and freeze states. -/

namespace Sys2Proof.Machine

/-! The channel record and the bank's program (15 R400, R411). -/

/-- IMAX, IPEAK and SAFE_MA of a channel, mA. -/
def State.vlvImax (s : State) (n : Nat) : Nat := u16 (s.vlvRec n) 4
def State.vlvIpeak (s : State) (n : Nat) : Nat := u16 (s.vlvRec n) 6
def State.vlvSafeMa (s : State) (n : Nat) : Nat := min (u16 (s.vlvRec n) 8) (s.vlvImax n)
/-- Whether the safe state of a channel is CURRENT. -/
def State.vlvSafeCurrent (s : State) (n : Nat) : Bool := s.vlvMode n == 1 && (u8 (s.vlvRec n) 2).testBit 1

/-- The MICRO table of bank `b`. -/
def Image.micro (im : Image) (b : Nat) : List Byte := (im.tableOf kMicro (0x0B10 + b)).getD []

/-- Word `w` of a bank's program store; a word beyond the table is zero, which is END (log). -/
def microWord (m : List Byte) (w : Nat) : Word :=
  if w < u16 m 2 then lo32 (u32 m (16 + 8 * u8 m 0 + 4 * w)) else 0

/-- The entries of program `p`: START, BOOST with its default START, and OFF where there is one (15 R400). -/
def microStart (m : List Byte) (p : Nat) : Nat := u16 m (16 + 8 * p)
def microBoost (m : List Byte) (p : Nat) : Nat :=
  if u16 m (18 + 8 * p) = 0xFFFF then microStart m p else u16 m (18 + 8 * p)
def microOff (m : List Byte) (p : Nat) : Option Nat :=
  if u16 m (20 + 8 * p) = 0xFFFF then none else some (u16 m (20 + 8 * p))

/-- The live words of a channel's group: PROG and HOLD_TOL (15 R410). -/
def State.vlvProg (s : State) (n : Nat) : Nat := field (s.live (0xB1000 + 8 * n)) 0 5
def State.vlvHoldTol (s : State) (n : Nat) : Bool := bit (s.live (0xB1000 + 8 * n)) 8

/-! One instruction (15 R401). -/

/-- What a channel's program sees in one advance: its bank's store, its measured current in mA and its inputs. -/
structure MicroEnv where
  store : List Byte
  cur : Nat
  in0 : Bool
  in1 : Bool
deriving DecidableEq, Repr

/-- How an instruction leaves the advance: on to the next one, an end of the advance, a stall on a boost, or a third nested CALL. -/
inductive MicroEnd where
  | next | stop | stall | overflow
deriving DecidableEq, Repr

/-- The source and value of SETI and RAMP. -/
def microSrc (w : Word) : TgtSrc :=
  match field w 25 2 with
  | 0 => .imm (field w 0 16)
  | 1 => .cmd
  | _ => .cmdPlus (BitVec.ofNat 16 (field w 0 16)).toInt

/-- SETI and RAMP: a boost instruction stalls unless the channel is in a boost phase, and one without BOOST ends the phase; BOOST
bits are ignored in the OFF sequence (15 R393, R394, R396). -/
def microSet (w : Word) (ramp : Bool) (c : VlvCh) : VlvCh × MicroEnd :=
  let boost := bit w 27 && !c.offSeq
  if boost && !c.inBoost then (c, .stall)
  else
    let c1 := if boost then c else { c with boost := false, boostLeft := 0 }
    if ramp then
      ({ c1 with pc := c.pc + 1, src := microSrc w, wait := .ramp c.tgt (microSrc w) (25 * field w 16 9) 0 }, .stop)
    else ({ c1 with pc := c.pc + 1, src := microSrc w }, .next)

/-- Whether a current wait or branch condition holds. -/
def microCur (ge : Bool) (arg cur : Nat) : Bool := if ge then decide (arg ≤ cur) else decide (cur ≤ arg)

/-- WAIT. -/
def microWait (w : Word) (e : MicroEnv) (c : VlvCh) : VlvCh × MicroEnd :=
  let c1 := { c with pc := c.pc + 1 }
  if field w 24 4 = 0 then
    if field w 0 24 = 0 then (c1, .next) else ({ c1 with wait := .time (field w 0 24) }, .stop)
  else
    let ge := field w 24 4 == 1
    let c2 := { c1 with tflag := false }
    if microCur ge (field w 0 16) e.cur then (c2, .next)
    else ({ c2 with wait := .current ge (field w 0 16) (if field w 16 8 = 0 then none else some (50 * field w 16 8)) }, .stop)

/-- Whether a BRANCH is taken. -/
def microTaken (w : Word) (e : MicroEnv) (c : VlvCh) : Bool :=
  let v := field w 0 13
  match field w 24 4 with
  | 0 => true
  | 1 => e.in0
  | 2 => e.in1
  | 3 => !e.in0
  | 4 => !e.in1
  | 5 => decide (v ≤ e.cur)
  | 6 => decide (e.cur < v)
  | 7 => c.tflag
  | 8 => decide (v ≤ c.cmd)
  | 9 => decide (c.cmd < v)
  | _ => false

/-- END: a return at depth 1 or 2; at depth 0 the program and a boost phase end. -/
def microFinish (c : VlvCh) : VlvCh × MicroEnd :=
  match c.stack with
  | r :: t => ({ c with pc := r, stack := t }, .next)
  | [] => ({ c with ended := true, boost := false, boostLeft := 0 }, .stop)

/-- LOOP: the counter of the present depth is loaded at the first execution. -/
def microLoop (w : Word) (c : VlvCh) : VlvCh :=
  let tgt := field w 13 11
  let d := c.stack.length
  if field w 0 13 = 0 then { c with pc := tgt }
  else match (rd c.loops d).getD (field w 0 13) with
    | 0 => { c with pc := c.pc + 1, loops := put c.loops d none }
    | k + 1 => { c with pc := tgt, loops := put c.loops d (some k) }

/-- One instruction word executed. -/
def microExec (e : MicroEnv) (c : VlvCh) : VlvCh × MicroEnd :=
  let w := microWord e.store c.pc
  match field w 28 4 with
  | 1 => microSet w false c
  | 2 => microSet w true c
  | 3 => microWait w e c
  | 4 =>
    let d := if bit w 27 = false then Dither.group
      else if field w 0 16 = 0 then Dither.none else Dither.own (field w 16 11) (field w 0 16)
    ({ c with pc := c.pc + 1, dither := d }, .next)
  | 5 =>
    let m := match field w 0 2 with
      | 0 => Decay.freewheel
      | 1 => Decay.clamp
      | _ => Decay.recover
    ({ c with pc := c.pc + 1, decay := m }, .next)
  | 6 => ({ c with pc := if microTaken w e c then field w 13 11 else c.pc + 1 }, .next)
  | 7 => (microLoop w c, .next)
  | 8 =>
    if 2 ≤ c.stack.length then (c, .overflow)
    else ({ c with pc := field w 13 11, stack := (c.pc + 1) :: c.stack, loops := put c.loops (c.stack.length + 1) none }, .next)
  | _ => microFinish c

/-- Up to `fuel` instructions: the channel, how the advance ended, and whether the limit ended it (15 R402). -/
def microRun (e : MicroEnv) : Nat → VlvCh → VlvCh × MicroEnd
  | 0, c => (c, .next)
  | k + 1, c =>
    match microExec e c with
    | (c1, .next) => microRun e k c1
    | r => r

/-- A wait at the start of an advance: the channel, and whether it goes on to execute (15 R401). -/
def microResume (e : MicroEnv) (c : VlvCh) : VlvCh × Bool :=
  match c.wait with
  | .none => (c, true)
  | .time (k + 2) => ({ c with wait := .time (k + 1) }, false)
  | .time _ => ({ c with wait := .none }, true)
  | .current ge arg left =>
    if microCur ge arg e.cur then ({ c with wait := .none }, true)
    else match left with
      | none => (c, false)
      | some (k + 2) => ({ c with wait := .current ge arg (some (k + 1)) }, false)
      | some _ => ({ c with wait := .none, tflag := true }, true)
  | .ramp a src total done =>
    if done < total then ({ c with wait := .ramp a src total done }, false) else ({ c with wait := .none }, true)

/-- The value that a target source names. -/
def tgtGoal (src : TgtSrc) (cmd : Nat) : Int :=
  match src with
  | .imm v => v
  | .cmd => cmd
  | .cmdPlus v => (cmd : Int) + v

/-- The target of the next period (15 R401): a ramp's next step, or the value in force, clamped to IPEAK in a boost phase and to
IMAX otherwise. -/
def VlvCh.retarget (c : VlvCh) (imax ipeak : Nat) : VlvCh :=
  let lim : Int := if c.inBoost then ipeak else imax
  match c.wait with
  | .ramp a src total done =>
    let k := min (done + 1) total
    let v := (a : Int) + divRoundI ((tgtGoal src c.cmd - a) * k) total
    { c with wait := .ramp a src total k, tgt := (clampInt 0 lim v).toNat }
  | _ => { c with tgt := (clampInt 0 lim (tgtGoal c.src c.cmd)).toNat }

/-! Banks (15 R391, R395, R396). -/

/-- The channels of bank `b`. -/
def bankChans (b : Nat) : List Nat := (List.range 6).map fun k => 6 * b + k

/-- Whether a channel of the bank other than `n` is in a boost phase. -/
def State.bankBoosting (s : State) (b n : Nat) : Bool := (bankChans b).any fun k => k != n && (rd s.vlv.ch k).inBoost

/-- Whether a channel feeds or decays current through its bank switch. -/
def VlvCh.conducts (c : VlvCh) : Bool :=
  c.st != .fault && (c.active || decide (0 < c.tgt) || decide (0 < c.legApp) || decide (20 ≤ c.iMeas.toNat))

/-- The mode of a bank's switch follows its channels (15 R391). -/
def State.bankRefresh (s : State) (b : Nat) : State :=
  s.updBank b fun x =>
    if x.bhs = .fault then x
    else if (bankChans b).any (fun k => (rd s.vlv.ch k).inBoost) then { x with bhs := .boost }
    else if (bankChans b).any (fun k => (rd s.vlv.ch k).conducts) then { x with bhs := .battery }
    else { x with bhs := .off }

/-- Whether a channel blocks another's boost (15 R395). -/
def State.vlvBlocks (s : State) (n : Nat) : Bool :=
  let c := rd s.vlv.ch n
  if s.vlvMode n = 2 then decide (0 < c.legApp)
  else c.active && !c.holdTol && (decide (0 < c.tgt) || decide (20 ≤ c.iMeas.toNat))

/-- Whether R395 permits channel `n` of bank `b` a boost: no channel of the bank is in a boost phase, and no other one blocks. -/
def State.boostFree (s : State) (b n : Nat) : Bool :=
  !((bankChans b).any fun k => (rd s.vlv.ch k).inBoost || (k != n && s.vlvBlocks k))

/-- The grant of a bank at a slot boundary (15 R396): to the waiting request with the earliest OPT before the boundary, if no
channel of the bank is in a boost phase or blocks. -/
def State.bankGrant (s : State) (b : Nat) : State :=
  let x := rd s.vlv.bank b
  if x.bhs = .fault ∨ x.granted.isSome then s
  else
    let cand := s.bud.reqs.filter fun r => decide (40 + 6 * b ≤ r.src) && decide (r.src < 46 + 6 * b) && decide (r.opt < s.clk.tickOpt)
    let best := cand.foldl (fun (a : Option StartReq) r => match a with
      | none => some r
      | some q => if r.opt < q.opt ∨ (r.opt = q.opt ∧ r.src < q.src) then some r else a) none
    match best with
    | none => s
    | some r =>
      if s.boostFree b (r.src - 40) then s.updBank b fun x => { x with granted := some ((r.src - 40) % 6) } else s

/-- An admitted boost (15 R396): its phase begins with the slot. -/
def State.vlvAdmit (s : State) (n slots : Nat) : State :=
  ((s.updVlv n fun c => { c with boost := true, boostLeft := slots, stall := none }).giveBank n).bankRefresh (n / 6)

/-! Activation and commands (15 R393, R394, R399). -/

/-- The target stays where a ramp that is left has brought it. -/
def VlvCh.leaveRamp (c : VlvCh) : VlvCh :=
  match c.wait with
  | .ramp .. => { c with src := .imm c.tgt }
  | _ => c

/-- The program set to an entry with the call stack, the loop counters and T cleared. -/
def VlvCh.enter (c : VlvCh) (pc : Nat) : VlvCh :=
  { c.leaveRamp with pc := pc, stack := [], loops := Vector.replicate 3 none, tflag := false, ended := false, wait := .none, runaway := 0 }

/-- Activation (15 R393): the program starts at START; a channel that is not hold-tolerant waits out another's boost (R395). -/
def State.vlvActivate (s : State) (n : Nat) : State :=
  let p := s.vlvProg n
  let wait := !((rd s.vlv.ch n).holdTol) && s.bankBoosting (n / 6) n
  (s.updVlv n fun c =>
    { (c.enter (microStart (s.img.micro (n / 6)) p)) with prog := p, active := true, offSeq := false, bankWait := wait }).bankRefresh (n / 6)

/-- A new command (15 R394): the program restarts at its BOOST entry; a boost phase or a boost request goes on. -/
def State.vlvNewCommand (s : State) (n : Nat) : State :=
  s.updVlv n fun c => { (c.enter (microBoost (s.img.micro (n / 6)) c.prog)) with offSeq := false, active := true }

/-- CMD falls to zero (15 R393): a waiting boost is withdrawn, a boost phase ends, and the program jumps to its OFF entry. -/
def State.vlvOff (s : State) (n : Nat) : State :=
  let c := rd s.vlv.ch n
  if c.bankWait then s.updVlv n fun c => { c with bankWait := false, active := false }
  else
    let s1 := ((s.withdraw (40 + n)).giveBank n).updVlv n fun c =>
      { c with stall := none, boost := false, boostLeft := 0, offSeq := true }
    (match microOff (s.img.micro (n / 6)) c.prog with
      | none => s1.updVlv n fun c => { c with src := .imm 0, tgt := 0, wait := .none, ended := true }
      | some pc => s1.updVlv n fun c => c.enter pc).bankRefresh (n / 6)

/-- A legacy channel's duty taken (15 R395, R407): from 0 it waits for a boost phase of another channel to end. -/
def State.vlvLegacy (s : State) (n : Nat) : State :=
  let c := rd s.vlv.ch n
  if c.cmd ≠ 0 ∧ c.legApp = 0 ∧ s.bankBoosting (n / 6) n then s.updVlv n fun c => { c with bankWait := true }
  else (s.updVlv n fun c => { c with legApp := c.cmd, bankWait := false }).bankRefresh (n / 6)

/-- Entry into RUN at release, at enable and when a fault is cleared (15 R393). -/
def State.vlvEnterRun (s : State) (n : Nat) : State :=
  let c := rd s.vlv.ch n
  let s1 := s.updVlv n fun c => { c with st := .run, safe := false, safeSince := none }
  if c.enF = false then (s1.updVlv n fun c => { c with tgt := 0 }).bankRefresh (n / 6)
  else if s.vlvMode n = 2 then s1.vlvLegacy n
  else if c.cmd ≠ 0 then s1.vlvActivate n
  else (s1.updVlv n fun c => { c with tgt := 0 }).bankRefresh (n / 6)

/-- Taking the safe state (15 R408): OFF, or SAFE_MA regulated from BATTERY, which a lost link or a shutdown limits to
SAFE_HOLD_S.  A faulted channel conducts no current in it. -/
def State.vlvEnterSafe (s : State) (n : Nat) (o : Opt) : State :=
  let c := rd s.vlv.ch n
  if c.st = .fault then s.updVlv n fun c => { c with safe := true }
  else
    let timed := (rd s.die (vlvDie n)).linkSafe || s.pwr.supply == .shutdown
    ((s.vlvAbort n).updVlv n fun c =>
      { c with st := .run, safe := true,
               tgt := if s.vlvSafeCurrent n then s.vlvSafeMa n else 0,
               safeSince := if s.vlvSafeCurrent n && timed then some o else none }).bankRefresh (n / 6)

/-- A channel takes its freeze state (22 R540): HOLD regulates its target from BATTERY with the program standing still; OFF
drops the target. -/
def State.vlvFreeze (s : State) (n : Nat) (hold : Bool) : State :=
  let s1 : State := if hold then s.updVlv n fun c => { c with boost := false, boostLeft := 0, dither := .none }
    else s.vlvAbort n
  { s1 with vlv := { s1.vlv with inp := upd s1.vlv.inp n fun i => { i with frz := if hold then FrzState.hold else FrzState.off } } }.bankRefresh (n / 6)

/-- The freeze state of a channel. -/
def State.vlvFrz (s : State) (n : Nat) : FrzState := (rd s.vlv.inp n).frz

/-- A change of command while the channel runs (15 R393, R394, R399). -/
def State.vlvChange (s : State) (n prev : Nat) : State :=
  let c := rd s.vlv.ch n
  if c.enF = false ∨ c.st = .fault then s
  else if s.vlvMode n = 2 then s.vlvLegacy n
  else if c.st = .hold then (if c.cmd = 0 then s.updVlv n fun c => { c with st := .run } else s)
  else if prev = 0 ∧ c.cmd ≠ 0 then
    if c.active ∧ c.offSeq ∧ c.ended = false then
      (s.updVlv n fun c => { c with prog := s.vlvProg n }).vlvNewCommand n
    else s.vlvActivate n
  else if prev ≠ 0 ∧ c.cmd = 0 ∧ c.active ∧ c.offSeq = false then s.vlvOff n
  else s

/-- A die's command frame for one channel (01 R28; 15 R393, R401; 22 R544). -/
def State.vlvCommand (s : State) (n : Nat) (o : Opt) : State :=
  if s.vlvMode n = 0 then s
  else
    let c := rd s.vlv.ch n
    let b := s.vlvRec n
    let prev := c.cmd
    let frz := s.vlvFrz n
    let s1 := s.updVlv n fun c => { c with cmd := c.want }
    let s2 : State := { s1 with vlv := { s1.vlv with inp := upd s1.vlv.inp n fun _ =>
      { in0 := sTrue (s.sig (u32 b 20)), in1 := sTrue (s.sig (u32 b 24)), frz := .none } } }
    if s2.vlvRuns n then
      if c.st = .fault then s2.updVlv n fun c => { c with safe := false }
      else if c.safe ∨ frz = .off then s2.vlvEnterRun n
      else s2.vlvChange n prev
    else if c.safe = false ∨ frz = .off then s2.vlvEnterSafe n o else s2

/-! Faults (15 R409). -/

/-- A channel enters FAULT: it conducts no current, and notice UNIT_FAULT goes out. -/
def State.vlvFault (s : State) (n : Nat) (code : Byte) : State :=
  if s.vlvMode n = 0 ∨ (rd s.vlv.ch n).st = .fault then s
  else (((s.vlvAbort n).updVlv n fun c => { c with st := .fault, lastErr := code, iMeas := 0, safeSince := none }).bankRefresh
    (n / 6)).unitFault 0x0B n code.toNat

/-- A fault cleared: the channel re-enters RUN, or its safe state while it is held in it. -/
def State.vlvClear (s : State) (n : Nat) : State :=
  if (rd s.vlv.ch n).st ≠ .fault then s
  else if s.vlvMode n = 0 then s.updVlv n fun c => { c with st := .run }
  else if s.vlvRuns n then s.vlvEnterRun n
  else (s.updVlv n fun c => { c with st := .run }).vlvEnterSafe n s.clk.opt

/-- `VLV_CMD` CLEAR: a channel of a bank whose switch is in FAULT is cleared by CLEAR_BANK alone (log). -/
def State.vlvCmdClear (s : State) (n : Nat) : State := if (rd s.vlv.bank (n / 6)).bhs = .fault then s else s.vlvClear n

/-- `VLV_CMD` CLEAR_BANK. -/
def State.vlvCmdClearBank (s : State) (b : Nat) : State :=
  let s1 := s.updBank b fun x => if x.bhs = .fault then { x with bhs := .off } else x
  ((bankChans b).foldl State.vlvClear s1).bankRefresh b

/-- `VLV_CMD` RESTART (15 R394, R399): a new command, or the end of HOLD. -/
def State.vlvCmdRestart (s : State) (n : Nat) : State :=
  let c := rd s.vlv.ch n
  if s.vlvMode n ≠ 1 ∨ c.enF = false ∨ c.safe ∨ c.st = .fault ∨ s.vlvFrz n ≠ .none then s
  else if c.st = .hold then
    if c.cmd = 0 then s else (s.updVlv n fun c => { c with st := .run }).vlvActivate n
  else if c.active ∧ c.bankWait = false then s.vlvNewCommand n
  else s

/-- A change of a channel's enable (01 R17; 15 R393, R409): disabling ends its program; enabling it again clears a fault, but not that of
its bank switch. -/
def State.vlvSetEnable (s : State) (n : Nat) (on : Bool) : State :=
  let c := rd s.vlv.ch n
  if c.enF = on then s
  else if on then
    let s1 := s.updVlv n fun c => { c with enF := true }
    if c.st = .fault then (if (rd s.vlv.bank (n / 6)).bhs = .fault then s1 else s1.vlvClear n)
    else if c.safe then s1 else s1.vlvEnterRun n
  else
    let keep := c.safe && (c.st != .fault)
    let s1 : State := if keep then s else s.vlvAbort n
    (s1.updVlv n fun c => { c with
      enF := false, st := if c.st = .fault then .fault else .run, undersupply := false, underTicks := 0, openLoad := false }).bankRefresh (n / 6)

/-- Hold tolerance in force (15 R395): a withdrawal waits for another channel's boost phase to end. -/
def State.vlvTolerance (s : State) (n : Nat) : State :=
  s.updVlv n fun c => { c with holdTol := s.vlvHoldTol n || (c.holdTol && s.bankBoosting (n / 6) n) }

/-- The counters of the channels in a mask cleared (01 R19). -/
def State.vlvCntClear (s : State) (base : Nat) (m : Word) : State :=
  let chs := mapIdxV s.vlv.ch fun i (c : VlvCh) =>
    if base ≤ i ∧ i < base + 32 ∧ bit m (i - base) then
      { c with shortCnt := 0, openCnt := 0, refuseCnt := 0, cutCnt := 0, regCnt := 0 } else c
  { s with vlv := { s.vlv with ch := chs } }

/-- HOST_ABSENCE of the VLV block (15 R411): it acts on legacy channels. -/
def State.vlvAbsent (s : State) : State :=
  let duty := mapIdxV s.vlv.legDuty fun n (d : Nat) => if s.vlvMode n = 2 ∧ s.img.hostAbsence 0x0B01 n 0 = 1 then 0 else d
  { s with vlv := { s.vlv with legDuty := duty } }

/-! The steps. -/

/-- A boost phase whose booking has ended is cut (15 R398). -/
def State.vlvCut (s : State) (n : Nat) : State :=
  let c := rd s.vlv.ch n
  if c.boost ∧ c.boostLeft = 0 then
    (s.updVlv n fun c => { c with boost := false, boostCut := true, cutCnt := satInc c.cutCnt, err := true }).bankRefresh (n / 6)
  else s

/-- A boost request is withdrawn where the program has ended without its boost (15 R394). -/
def State.vlvUnstall (s : State) (n : Nat) : State :=
  let c := rd s.vlv.ch n
  if c.ended ∧ c.stall.isSome then ((s.withdraw (40 + n)).giveBank n).updVlv n fun c => { c with stall := none } else s

/-- One channel's advance over a 20 µs period (15 R401, R402); the target in force stays while a boost is waited for (R396). -/
def State.vlvAdvance (s : State) (n cur : Nat) : State :=
  let s := (s.vlvCut n).vlvTolerance n
  let c := rd s.vlv.ch n
  if c.safe ∨ c.st ≠ .run ∨ c.enF = false ∨ s.vlvFrz n ≠ .none then s
  else if c.bankWait ∧ s.bankBoosting (n / 6) n then s
  else if s.vlvMode n = 2 then (if c.bankWait then s.vlvLegacy n else s)
  else if s.vlvMode n ≠ 1 ∨ c.active = false then s
  else
    let i := rd s.vlv.inp n
    let e : MicroEnv := ⟨s.img.micro (n / 6), cur, i.in0, i.in1⟩
    let c0 := { c with bankWait := false }
    let (c1, go) := if c0.ended then (c0, false) else microResume e c0
    let (c2, r) := if go then microRun e 8 c1 else (c1, MicroEnd.stop)
    let kept := decide (r = .stall) && c.stall.isSome
    let c3 := { (if kept then c2 else c2.retarget (s.vlvImax n) (s.vlvIpeak n)) with runaway := if r = .next then c.runaway + 1 else 0 }
    let c4 := if c3.offSeq ∧ c3.ended ∧ cur < 20 then { c3 with active := false, offSeq := false } else c3
    match r with
    | .overflow => (s.updVlv n fun _ => c2).vlvFault n 0x08
    | .stall =>
      if c.stall.isSome then s.updVlv n fun _ => c4
      else (s.updVlv n fun _ => { c4 with stall := some s.clk.tickOpt }).raise (40 + n) s.clk.tickOpt
    | _ => (s.updVlv n fun _ => c4).vlvUnstall n

/-- The engine of a bank advances its channels in ascending order, once in 20 µs (15 R402); `ma` holds their measured currents. -/
def execMicrocodeAdvance (o : Opt) (bank : Fin 8) (ma : List Nat) (s : State) : Out :=
  let s := s.begin o
  let b := bank.val
  let due := match (rd s.vlv.bank b).advAt with
    | some t => decide (t + 20000 ≤ o)
    | none => true
  if due = false ∨ s.runs (6 + b / 2) = false then .next s else
  let s := s.updBank b fun x => { x with advAt := some o }
  .next ((((bankChans b).zip (List.range 6)).foldl (fun (t : State) p => t.vlvAdvance p.1 (ma.getD p.2 0)) s).bankRefresh b)

/-- A boost phase ends with its booking (15 R398). -/
def execBoostCut (o : Opt) (ch : Fin 48) (s : State) : Out :=
  .next ((s.begin o).vlvCut ch.val)

/-- REFUSE_RETRY_MS in HOLD with CMD nonzero (15 R399); never with REFUSE_RETRY_MS 0. -/
def execValveRefuseRetry (o : Opt) (ch : Fin 48) (s : State) : Out :=
  let s := s.begin o
  let n := ch.val
  let c := rd s.vlv.ch n
  let ms := u16 (s.vlvRec n) 32
  .next (if c.st = .hold ∧ ms ≠ 0 ∧ c.refusedSince + ms * 1000000 ≤ o ∧ c.cmd ≠ 0 ∧ s.vlvFrz n = .none then
      (s.updVlv n fun c => { c with st := .run }).vlvActivate n
    else s)

/-- Current above 12 A (15 R409). -/
def execValveShort (o : Opt) (ch : Fin 48) (s : State) : Out :=
  let s := s.begin o
  let n := ch.val
  .next (if s.vlvMode n = 0 ∨ (rd s.vlv.ch n).st = .fault then s
    else (s.updVlv n fun c => { c with shortCnt := satInc c.shortCnt, err := true }).vlvFault n 0x01)

/-- Open load (15 R409; 02 R49): the channel keeps running; not in CRANK; a legacy channel at duty 1,000 only (R407). -/
def execValveOpenLoad (o : Opt) (ch : Fin 48) (s : State) : Out :=
  let s := s.begin o
  let n := ch.val
  let c := rd s.vlv.ch n
  .next (if s.vlvMode n = 0 ∨ c.st = .fault ∨ c.openLoad ∨ s.pwr.supply = .crank ∨ (if s.vlvMode n = 2 then c.legApp ≠ 1000 else c.tgt = 0) then s
    else s.updVlv n fun c => { c with openLoad := true, openCnt := satInc c.openCnt, err := true, lastErr := 0x02 })

/-- A clamp event above 200 mJ, or above 1.0 W over 1 s, at its end (15 R409). -/
def execValveClampOverload (o : Opt) (ch : Fin 48) (s : State) : Out := .next ((s.begin o).vlvFault ch.val 0x03)

/-- A junction above 170 °C (15 R409). -/
def execValveOvertemp (o : Opt) (ch : Fin 48) (s : State) : Out := .next ((s.begin o).vlvFault ch.val 0x04)

/-- A bank switch above 20 A, or a short of BHS (15 R409): the switch and every channel of its bank enter FAULT. -/
def execBankSwitchOvercurrent (o : Opt) (bank : Fin 8) (s : State) : Out :=
  let s := s.begin o
  let x := rd s.vlv.bank bank.val
  .next (if x.bhs = .fault ∨ x.bhs = .off then s
    else (bankChans bank.val).foldl (fun (t : State) n => t.vlvFault n 0x05)
      (s.updBank bank.val fun x => { x with bhs := .fault, granted := none }))

/-- A shortfall of 100 ms outside CRANK, counted once (15 R404, R409). -/
def execRegShortfall (o : Opt) (ch : Fin 48) (s : State) : Out :=
  let s := s.begin o
  let c := rd s.vlv.ch ch.val
  .next (if c.undersupply ∧ 2000 ≤ c.underTicks ∧ c.underTicks < 10000 ∧ s.pwr.supply ≠ .crank then
      s.updVlv ch.val fun c => { c with underTicks := 10000, regCnt := satInc c.regCnt, err := true, lastErr := 0x06 }
    else s)

/-- 64 advances in a row that end on the instruction limit (15 R402). -/
def execValveRunaway (o : Opt) (ch : Fin 48) (s : State) : Out :=
  let s := s.begin o
  .next (if 64 ≤ (rd s.vlv.ch ch.val).runaway then s.vlvFault ch.val 0x09 else s)

/-- SAFE_HOLD_S after a lost link or a shutdown, a CURRENT safe state becomes OFF (15 R408). -/
def execSafeHoldExpiry (o : Opt) (ch : Fin 48) (s : State) : Out :=
  let s := s.begin o
  let n := ch.val
  .next (match (rd s.vlv.ch n).safeSince with
    | some t =>
      if t + u16 (s.vlvRec n) 10 * 1000000000 ≤ o then
        (s.updVlv n fun c => { c with tgt := 0, safeSince := none }).bankRefresh (n / 6)
      else s
    | none => s)

end Sys2Proof.Machine
end

