-- ==== Sys2Proof/Machine/Budget.lean ====
section
/-! DEFINITION. The start budget (02 R56 to R66), the wake output (02 R59), and the release of outputs (03 R77 to R80). -/

namespace Sys2Proof.Machine

/-! Settling: a channel whose conditions for leaving or taking its safe state have changed leaves or takes it (03 R80; 01 R28). -/

/-- A switch channel settled. -/
def State.pswSettle (s : State) (n : Nat) (o : Opt) : State :=
  let c := rd s.psw.ch n
  if s.pswUsed n = false ∨ c.frz ≠ .none then s
  else if s.pswRuns n then (if c.safe then ((s.updPsw n PswCh.leaveSafe).pswApply n o).pswDuty n else s)
  else if c.safe then s
  else ((s.pswEnterSafe n).pswApply n o).pswDuty n

/-- A valve channel settled. -/
def State.vlvSettle (s : State) (n : Nat) (o : Opt) : State :=
  let c := rd s.vlv.ch n
  if s.vlvMode n = 0 ∨ s.vlvFrz n ≠ .none then s
  else if s.vlvRuns n then
    (if c.safe = false then s else if c.st = .fault then s.updVlv n fun c => { c with safe := false } else s.vlvEnterRun n)
  else if c.safe then s
  else s.vlvEnterSafe n o

/-- A cooling channel settled. -/
def State.colSettle (s : State) (n : Nat) (o : Opt) : State :=
  let c := rd s.col.ch n
  if s.colUsed n = false ∨ c.frz ≠ .none then s
  else if s.colRuns n then (if c.safe then s.colLeaveSafe n o else s)
  else if c.safe then s
  else s.colEnterSafe n o

/-- Every channel of die `d` settled: switch channels, valve channels, cooling channels, each in ascending order. -/
def State.settleDie (s : State) (d : Nat) (o : Opt) : State :=
  let s1 := (diePsw d).foldl (fun t n => t.pswSettle n o) s
  let s2 := (List.range 12).foldl (fun t k => t.vlvSettle (12 * d + k) o) s1
  (List.range 2).foldl (fun t k => t.colSettle (2 * d + k) o) s2

/-- Every channel of every die settled. -/
def State.settleAll (s : State) (o : Opt) : State := (List.range 4).foldl (fun t d => t.settleDie d o) s

/-! The wake output (02 R59). -/

/-- SRC of the WAKE section of the system POLICY. -/
def Image.wakeSrc (im : Image) : Nat := im.fieldOr 0x0002 0x0003 (fun b => u32 b 0) noRef

/-- WAKE_OUT at a tick: its command is read, an assertion is a start request, and a command that is off turns it off. -/
def State.wakeTick (s : State) : State :=
  let src := s.img.wakeSrc
  let cmd := if src = noRef then s.wake.reg else sTrue (s.sig src)
  let eff := cmd && s.released .wake 0
  let w := s.wake
  if eff = false then { (s.withdraw 96) with wake := { w with cmd := false, out := false, wait := false } }
  else if w.cmd = false ∧ w.out = false then
    ({ s with wake := { w with cmd := true, wait := true } }).raise 96 s.clk.tickOpt
  else { s with wake := { w with cmd := true } }

/-! Slots and admission (02 R60 to R66). -/

/-- P and Q in force, in 0.1 A (02 R66). -/
def State.budPeak (s : State) : Nat := 10 * field (s.live 0x240) 0 10
def State.budRise (s : State) : Nat := 10 * field (s.live 0x240) 10 10

/-- The bookings in force after one more slot. -/
def nextBookings (l : List Booking) : List Booking :=
  (l.map fun b => { b with left := b.left - 1 }).filter fun b => b.left != 0

/-- The load of a list of bookings. -/
def bookedLoad (l : List Booking) : Nat := l.foldl (fun a b => a + b.charge) 0

/-- The boost phase of a valve channel at a slot boundary: one booked slot less; with none left it is cut (15 R398). -/
def VlvCh.slotEnd (c : VlvCh) : VlvCh := { c with boostLeft := c.boostLeft - 1 }

/-- A slot boundary (02 R60): the new slot's load, the boost phases that end, admissions that reopen, the BUDGET group, and the
pass of this boundary made due. -/
def State.slotBoundary (s : State) : State :=
  let b := nextBookings s.bud.bookings
  let s1 : State := { s with
    bud := { s.bud with bookings := b, prevLoad := s.bud.load, load := bookedLoad b, isOpen := s.bud.isOpen || s.bud.openNext,
                        openNext := false, passTick := some s.clk.tick },
    vlv := { s.vlv with ch := s.vlv.ch.map VlvCh.slotEnd } }
  ((List.range 8).foldl (fun t k => t.bankRefresh k) s1).applyGroup 0x0001

/-- Whether request `a` comes before request `b` in a pass (02 R61). -/
def StartReq.before (a b : StartReq) : Bool :=
  decide (a.cls < b.cls) || (a.cls == b.cls && (decide (a.opt < b.opt) || (a.opt == b.opt && decide (a.src < b.src))))

/-- Insertion of a request in the order of a pass. -/
def insertReq (r : StartReq) : List StartReq → List StartReq
  | [] => [r]
  | q :: t => if r.before q then r :: q :: t else q :: insertReq r t

/-- What an admission does to its source (02 R59; 15 R396; 16 R421; 17 R436). -/
def State.admitSrc (s : State) (r : StartReq) : State :=
  let o := s.clk.tickOpt
  if r.src < 40 then s.pswOn r.src o
  else if r.src < 88 then s.vlvAdmit (r.src - 40) r.slots
  else if r.src < 96 then s.colAdmit (r.src - 88) o
  else { s with wake := { s.wake with out := true, wait := false } }

/-- The admission of a request into the present slot. -/
def State.grantStart (s : State) (r : StartReq) : State :=
  let b := s.bud
  { s with bud := { b with
      reqs := b.reqs.filter fun q => q.src != r.src, bookings := b.bookings ++ [(⟨r.charge, r.slots⟩ : Booking)], load := b.load + r.charge,
      maxWait := if b.maxWait.toNat < r.waited then satNat 16 r.waited else b.maxWait } }.admitSrc r

/-- The pass over the ordered requests: the first that fails the peak or the rise check ends it (02 R61).  A valve request takes
part only where its bank has been granted to it (15 R396). -/
def admitPass : List StartReq → State → State
  | [], s => s
  | r :: t, s =>
    let l := s.bud.load + r.charge
    if l ≤ s.budPeak ∧ l ≤ s.budRise + s.bud.prevLoad then admitPass t (s.grantStart r) else s

/-- Whether a request may be judged by the pass: a boost request holds its bank, and R395 permits its boost. -/
def State.holdsBank (s : State) (r : StartReq) : Bool :=
  if 40 ≤ r.src ∧ r.src < 88 then
    (rd s.vlv.bank ((r.src - 40) / 6)).granted == some ((r.src - 40) % 6) && s.boostFree ((r.src - 40) / 6) (r.src - 40)
  else true

/-- ADMISSION_PASS (02 R61 to R64): the pass of the slot boundary that the latest tick made, while admissions are open. -/
def execAdmissionPass (s : State) : Out :=
  let s := s.start
  if s.bud.isOpen = false ∨ s.bud.passTick ≠ some s.clk.tick then .next s
  else
    let part (t : State) : List StartReq := t.bud.reqs.filter fun r => decide (r.opt < t.clk.tickOpt)
    let late := ((part s).filter fun r => decide (r.maxDefer ≤ r.waited)).foldr insertReq []
    let s1 := late.foldl (fun t r => t.refuseReq r.src) s
    let s2 := (List.range 8).foldl (fun t b => t.bankGrant b) s1
    let s3 := admitPass (((part s2).filter s2.holdsBank).foldr insertReq []) s2
    .next { s3 with bud := { s3.bud with passTick := none, reqs := s3.bud.reqs.map fun (r : StartReq) =>
      if r.opt < s3.clk.tickOpt then { r with waited := r.waited + 1 } else r } }

/-- WAKE_OUT_TRIP (02 R59): 10 ms in the current limit. -/
def execWakeOutTrip (o : Opt) (s : State) : Out :=
  let s := s.begin o
  .next (if s.wake.out then { s with wake := { s.wake with out := false, trip := true } } else s)

/-! Release groups (03 R77 to R80). -/

/-- Whether the condition of group `g` holds (03 R79); in service hold only a SERVICE session's write counts (R70). -/
def State.relHolds (s : State) (g : Nat) : Bool :=
  let b := s.img.relGroup g
  let p := u32 b 4
  let cond := match s.img.relCond g with
    | 1 =>
      let d := s.sig (0x02050000 + p % 16)
      d.2 && (sTrue d == p.testBit 8)
    | 2 => s.boot.rxCond.getLsbD g
    | 3 =>
      (s.img.machines.zipIdx).any fun m => m.1.id == p % 65536 && (rd s.sm m.2).state.toNat == p / 65536 % 256
    | _ => false
  decide (g < s.img.relCount) && ((!s.boot.svcHold && cond) || s.boot.svcRel.getLsbD g)

/-- A mask of the groups that satisfy `p`. -/
def groupMask (p : Nat → Bool) : BitVec 16 := BitVec.ofNat 16 (((List.range 16).map fun g => if p g then 2 ^ g else 0).foldl (· + ·) 0)

/-- The release groups at a tick (03 R79, R80): the release of a group falls at the tick after the one whose evaluation found its condition
to hold, and the return of a released FOLLOW group at the tick after the one that found it not to; a LATCH release and a return that
have come due stay due until they are made.  Then the conditions are evaluated anew. -/
def State.relEval (s : State) : State :=
  let b := s.boot
  { s with boot := { b with
      due := groupMask fun g => !b.released.getLsbD g && (b.held.getLsbD g || (!s.img.relFollow g && b.due.getLsbD g)),
      lapse := groupMask fun g => b.released.getLsbD g && s.img.relFollow g && (!b.held.getLsbD g || b.lapse.getLsbD g),
      held := groupMask fun g => s.relHolds g } }

/-- Whether the present instant is that of the latest tick. -/
def State.atTick (s : State) : Bool := s.clk.running && s.clk.opt == s.clk.tickOpt

/-- Whether every die has passed its check (01 R30). -/
def State.diesOk (s : State) : Bool := s.boot.dieOk == 0x7F

/-- RELEASE_GROUP (03 R79, R80): at the tick at which the group's release is due, each output of the group moves from its safe state to
what its loop, function or command gives. -/
def execReleaseGroup (g : Fin 16) (s : State) : Out :=
  let s := s.start
  if s.powered ∧ s.diesOk ∧ s.atTick ∧ s.boot.due.getLsbD g.val ∧ s.boot.released.getLsbD g.val = false then
    .next ({ s with boot := { s.boot with released := s.boot.released ||| BitVec.ofNat 16 (2 ^ g.val) } }.settleAll s.clk.opt)
  else .next s

/-- RELEASE_FOLLOW_LAPSE (03 R80; R70): at the tick after the one that found a FOLLOW group's condition not to hold, the group returns its
outputs to their safe states; a group that a SERVICE session released stays. -/
def execReleaseFollowLapse (g : Fin 16) (s : State) : Out :=
  let s := s.start
  if s.powered ∧ s.atTick ∧ s.boot.lapse.getLsbD g.val ∧ s.boot.released.getLsbD g.val then
    .next ({ s with boot := { s.boot with released := s.boot.released &&& ~~~ BitVec.ofNat 16 (2 ^ g.val) } }.settleAll s.clk.opt)
  else .next s

end Sys2Proof.Machine
end

