-- ==== Sys2Proof/Machine/Events.lean ====
section
/-! DEFINITION. Events of state machines (04 R113): how they reach a machine's queue. -/

namespace Sys2Proof.Machine

/-- The state with machine `m` changed. -/
def State.updSm (s : State) (m : Nat) (f : SmSt → SmSt) : State := { s with sm := upd s.sm m f }

/-- An event reaches machine `m` (04 R113). -/
def State.smPush (s : State) (m : Nat) (e : SmEvent) : State :=
  if m < s.img.machines.length then s.updSm m fun x => { x with queue := x.queue ++ [e] } else s

/-- An event reaches every machine. -/
def State.smPushAll (s : State) (e : SmEvent) : State :=
  (List.range (min 64 s.img.machines.length)).foldl (fun t m => t.smPush m e) s

end Sys2Proof.Machine
end

