-- ==== Sys2Proof/Machine/Geo.lean ====
section
/-! DEFINITION. The local plane of 12 R324, in binary64, and exact conversions of binary64 numbers. -/

namespace Sys2Proof.Machine

/-- π/180 in binary64. -/
def degRad : F64 := 0x3F91DF46A2529D39
/-- The semi-major axis of WGS 84 in m (12 R324). -/
def wgsA : F64 := dOfInt 6378137
/-- e² of WGS 84 (12 R324). -/
def wgsE2 : F64 := dRat 669437999014 100000000000000
/-- 1 − e² sin² φ of a latitude in degrees. -/
def wgsW (lat : F64) : F64 :=
  let x := sin64 (dmul lat degRad)
  dsub (dOfInt 1) (dmul wgsE2 (dmul x x))
/-- N0 of a latitude in degrees (12 R324). -/
def wgsN (lat : F64) : F64 := ddiv wgsA (sqrt64 (wgsW lat))
/-- M0 of a latitude in degrees (12 R324). -/
def wgsM (lat : F64) : F64 :=
  ddiv (dmul wgsA (dsub (dOfInt 1) wgsE2)) (dmul (wgsW lat) (sqrt64 (wgsW lat)))

/-- The plane coordinates (E, N) in m of a position about an origin, all in degrees (12 R324). -/
def planeEN (lat0 lon0 lat lon : F64) : F64 × F64 :=
  (dmul (dmul (dmul (dsub lon lon0) degRad) (wgsN lat0)) (cos64 (dmul lat0 degRad)),
   dmul (dmul (dsub lat lat0) degRad) (wgsM lat0))

/-- The position in degrees of plane coordinates about an origin: the inverse of `planeEN`. -/
def planePos (lat0 lon0 e n : F64) : F64 × F64 :=
  (dadd lat0 (ddiv (ddiv n (wgsM lat0)) degRad),
   dadd lon0 (ddiv (ddiv e (dmul (wgsN lat0) (cos64 (dmul lat0 degRad)))) degRad))

/-- The point `x` ahead and `y` to the right of (0, 0) for a heading in degrees clockwise from north, as (E, N). -/
def aheadRight (hdg x y : F64) : F64 × F64 :=
  let s := sin64 (dmul hdg degRad)
  let c := cos64 (dmul hdg degRad)
  (dadd (dmul x s) (dmul y c), dsub (dmul x c) (dmul y s))

/-- The distance between two points of the plane. -/
def planeDist (a b : F64 × F64) : F64 :=
  let de := dsub a.1 b.1
  let dn := dsub a.2 b.2
  sqrt64 (dadd (dmul de de) (dmul dn dn))

/-- A finite binary64 number exactly; 0 for the others. -/
def Q.ofD (x : F64) : Q :=
  match dv x with
  | .fin neg m e =>
    let k : Int := if neg then -(m : Int) else m
    if e < 0 then ⟨k, 2 ^ e.natAbs⟩ else ⟨k * (2 : Int) ^ e.natAbs, 1⟩
  | _ => ⟨0, 1⟩

/-- The nearest integer of a binary64 number, ties away from zero. -/
def dRound (x : F64) : Int := (Q.ofD x).round

/-- The largest integer not above a binary64 number. -/
def dFloor (x : F64) : Int := fpFloor (dv x)

/-- A count that an unsigned field of `w` bits holds, saturating. -/
def satField (w : Nat) (k : Int) : Nat := min k.toNat (2 ^ w - 1)

end Sys2Proof.Machine
end

