-- ==== Sys2Proof/Machine/Recorder.lean ====
section
/-! DEFINITION. The event recorder (20): samples, records, boundaries, writes, freezes for reading, and clearing. -/

namespace Sys2Proof.Machine

/-! Samples (20 R495 to R498). -/

/-- Whether raw `a` is strictly greater than raw `b` under TYPE (20 R495). -/
def rawGreater (ty a b : Nat) : Bool :=
  match ty with
  | 1 => decide ((BitVec.ofNat 32 b).toInt < (BitVec.ofNat 32 a).toInt)
  | 2 => flt (BitVec.ofNat 32 b) (BitVec.ofNat 32 a)
  | _ => decide (b < a)

/-- One sample of extreme slot `e` (20 R495): taken where none was, or strictly beyond the one kept. -/
def RecSet.extreme (a : RecSet) (e ty : Nat) (isMax : Bool) (raw : Nat) (o dvt : Nat) : RecSet :=
  let x := rd a.ext e
  let better := if isMax then rawGreater ty raw x.value.toNat else rawGreater ty x.value.toNat raw
  if x.taken = false ∨ better then
    { a with ext := put a.ext e { value := lo32 raw, opt := o, dvt := dvt, taken := true } }
  else a

/-- Sampling every field of SAMPLE kind `kind` now (20 R497, R498), after a boundary of this instant; the recorder runs in SVC. -/
def State.recSample (s : State) (kind : Nat) : State :=
  let s := s.recTurn
  if s.runs rSVC = false then s
  else match s.recFormat with
  | none => s
  | some b =>
    (List.range (u16 b 2)).foldl (fun t i =>
      let o := 24 + 24 * i
      let ext := 24 + 24 * u16 b 2 + 4 * i
      if u8 b (ext + 1) = kind then
        let v := t.sig (u32 b o)
        let key := 512 * 0x1010 + i
        let raw := packRaw b o v (lookupN t.fmt key)
        let ok := v.2 && !fIsNaN v.1
        let t1 := if ok then { t with fmt := bindN t.fmt key raw } else t
        if u8 b ext = 0 then t1.updRec fun r => { r with openSet := r.openSet.count ((u16 b (o + 4) - 512) / 512) raw }
        else if ok then
          let x := t1.rcd.openSet.extreme ((u16 b (o + 4) - 16896) / 192) (fieldType b o) (u8 b ext == 1) raw t.clk.opt t.dvt
          t1.updRec fun r => { r with openSet := x }
        else t1
      else t) s

/-- Whether the record's MERGED flag is set. -/
def recMerged (body : List Byte) : Bool := (u8 body 4).testBit 1

/-- The stored form of a record (20 R493, R509, R512): with its SEQ, CLEARED where it is the first after a clear, and CRC. -/
def storedRecord (body : List Byte) (seq : Word) (cleared : Bool) : List Byte :=
  let fl := u16 body 4 + (if cleared then 512 else 0)
  let b := leBytes 4 seq.toNat ++ leBytes 2 fl ++ body.drop 6
  b ++ leBytes 4 (crc32c b).toNat

/-- The store of the closed record with a good read-back (20 R507 to R509): it takes the next SEQ; REC_FULL is raised when
the last slot is taken, REC_MERGED for a MERGED record. -/
def State.storeRecord (s : State) (body : List Byte) : State :=
  let q := s.rcd.nextSeq
  let s1 := s.updRec fun r =>
    { r with slots := r.slots ++ [⟨q, true, storedRecord body q r.clearedNext⟩], nextSeq := q + 1, closed := none, clearedNext := false }
  let s2 := if recMerged body then s1.notice 0x0010 0x10 0 (fOfInt q.toNat) else s1
  if s2.rcd.slots.length = 16384 then s2.notice 0x000E 0x10 0 fZero else s2

/-- The freezes that were waiting for a write take effect (20 R506). -/
def State.takeFreezes (s : State) : State :=
  s.rcd.waitFreeze.foldl (fun t (r : HostReq) =>
    (t.updRec fun x => { x with freezers := x.freezers ++ [(r.sess, t.clk.opt)] }).complete r stOK (leBytes 8 t.clk.opt))
    (s.updRec fun x => { x with waitFreeze := [] })

/-- RECORD_BOUNDARY (20 R503 to R505). -/
def execRecordBoundary (o : Opt) (s : State) : Out := .next (s.begin o).recTurn

/-- RECORD_WRITE_COMPLETE (20 R507): a good read-back empties the closed set; a failed one leaves the slot unusable and the
record is written again to the next slot, or discarded where none is left. -/
def execRecordWriteComplete (o : Opt) (good : Bool) (s : State) : Out :=
  let s := s.begin o
  if s.rcd.isClearing then .next s
  else match s.rcd.closed with
  | none => .next s
  | some body =>
    if good then .next (s.storeRecord body).takeFreezes
    else
      let s1 := s.updRec fun r =>
        { r with slots := r.slots ++ [⟨r.nextSeq, false, []⟩], writeErrSeen := true, writeErrCnt := satInc r.writeErrCnt }
      if 16384 ≤ s1.rcd.slots.length then
        .next ((s1.updRec RecSt.discard).notice 0x000E 0x10 0 fZero).takeFreezes
      else .next s1

/-- Session `i`'s freeze ends (20 R506), or the REC_FREEZE of it that waits: at the last one the open set closes if a boundary has passed. -/
def State.endFreeze (s : State) (i : Nat) : State :=
  let s := s.updRec fun r => { r with waitFreeze := r.waitFreeze.filter fun q => q.sess != i }
  if s.rcd.freezers.any (fun f => f.1 == i) then
    let s1 := s.updRec fun r => { r with freezers := r.freezers.filter fun f => f.1 != i }
    if s1.rcd.freezers = [] ∧ s1.rcd.passed ∧ s1.rcd.isClearing = false then s1.closeSet false false else s1
  else s

/-- Storing both sets at the orderly shutdown (20 R506; 02 R52): a waiting record first, then the open set with SHUTDOWN. -/
def State.recShutdown (s : State) : State :=
  let s0 := s.updRec fun r => { r with freezers := [], waitFreeze := [] }
  let s1 := match s0.rcd.closed with
    | some b => s0.storeRecord b
    | none => s0
  let s2 := s1.closeSet true false
  match s2.rcd.closed with
  | some b => s2.storeRecord b
  | none => s2

/-- A session ends (05 R135): what HstSt drops, and its recorder freeze (20 R506), and a FREEZE arming (03 R93). -/
def State.endSession (s : State) (i : Nat) : State := (s.dropSess i).endFreeze i

/-- The OPT of the next boundary (20 R513): the grid instant after the latest one, on OPT. -/
def State.nextBoundary (s : State) : Nat :=
  let step := s.recInterval * 1000000000
  let g := s.gridAt s.clk.opt
  s.clk.opt + ((g / step + 1) * step - g)

/-- REC_INFO (20 R513). -/
def execRecInfo (r : HostReq) (s : State) : Out :=
  .next (hostOp r 0x0070 0 7 (fun t =>
    let l := t.rcd.stored
    .done t (leBytes 4 ((l.head?.map fun x => x.seq.toNat).getD 0) ++ leBytes 4 ((l.getLast?.map fun x => x.seq.toNat).getD 0)
      ++ leBytes 2 l.length ++ leBytes 1 t.rcd.state ++ leBytes 1 t.rcd.freezers.length ++ leBytes 4 t.rcd.unrecorded.toNat
      ++ leBytes 8 t.nextBoundary)) s)

/-- REC_READ (20 R513). -/
def execRecRead (r : HostReq) (seq : Word) (offset len : W16) (s : State) : Out :=
  .next (hostOp r 0x0071 0 7 (fun t =>
    if t.rcd.isClearing then .refuse 0x9002 []
    else match t.rcd.stored.find? (fun x => x.seq == seq) with
    | none => .refuse 0x9001 []
    | some x =>
      if 4096 < offset.toNat + len.toNat ∨ (t.sess r.sess).maxMsg < 24 + len.toNat then .refuse stRANGE []
      else .done t (span x.data offset.toNat len.toNat)) s)

/-- REC_FREEZE (20 R506, R513): at once, or after the write in progress. -/
def execRecFreeze (r : HostReq) (s : State) : Out :=
  .next (hostOp r 0x0072 0 7 (fun t =>
    if t.rcd.isClearing then .refuse 0x9002 []
    else if t.rcd.freezers.any (fun f => f.1 == r.sess) || t.rcd.waitFreeze.any (fun q => q.sess == r.sess) then .refuse stSTATE []
    else if t.rcd.closed.isSome then .wait (t.updRec fun x => { x with waitFreeze := x.waitFreeze ++ [r] })
    else .done (t.updRec fun x => { x with freezers := x.freezers ++ [(r.sess, t.clk.opt)] }) (leBytes 8 t.clk.opt)) s)

/-- REC_THAW (20 R506, R513). -/
def execRecThaw (r : HostReq) (s : State) : Out :=
  .next (hostOp r 0x0073 0 7 (fun t =>
    if t.rcd.freezers.any (fun f => f.1 == r.sess) then
      let merged := t.rcd.passed && t.rcd.freezers.length == 1 && !t.rcd.isClearing
      .done (t.endFreeze r.sess) (leBytes 1 (if merged then 1 else 0) ++ leBytes 3 0 ++ leBytes 8 t.clk.opt)
    else .refuse stSTATE []) s)

/-- FREEZE_MAX_EXPIRY (20 R506, R514): a session's freeze ends FREEZE_MAX_S after it was taken. -/
def execFreezeMaxExpiry (o : Opt) (sess : Fin 8) (s : State) : Out :=
  let s := s.begin o
  let lim := s.img.fieldOr 0x1001 0x0001 (fun b => u16 b 0) 600 * 1000000000
  if s.rcd.freezers.any (fun f => f.1 == sess.val && decide (f.2 + lim ≤ o)) then .next (s.endFreeze sess.val) else .next s

/-- A granted action of session `i` still in force: bit 0 RECORDER_CLEAR, 1 FREEZE, 2 OWNER_TRANSFER (03 R93). -/
def State.granted (s : State) (i bit : Nat) : Bool :=
  (s.sess i).grant.any fun g => g.actions.getLsbD bit && decide (s.clk.opt < g.until_)

/-- A list of grants with one use of an action gone: that of the first grant which still has it. -/
def dropUse (bit : Nat) : List GrantSt → List GrantSt
  | [] => []
  | g :: t => if g.actions.getLsbD bit then { g with actions := g.actions &&& ~~~(BitVec.ofNat 3 (2 ^ bit)) } :: t else g :: dropUse bit t

/-- The session's grants with one use of an action used up (03 R93). -/
def State.useGrant (s : State) (i : Nat) (bit : Nat) : State :=
  s.updSess i fun x => { x with grant := dropUse bit (x.grant.filter fun g => decide (s.clk.opt < g.until_)) }

/-- The arming of every grant of the session ends (03 R93). -/
def State.endArming (s : State) (i : Nat) : State :=
  s.updSess i fun x => { x with grant := x.grant.map fun (g : GrantSt) => { g with actions := g.actions &&& ~~~(BitVec.ofNat 3 2) } }

/-- REC_CLEAR (20 R512, R513): with a granted action, which it uses, or the strap. -/
def execRecClear (r : HostReq) (s : State) : Out :=
  .next (hostOp r 0x0074 2 7 (fun t =>
    if t.rcd.isClearing then .refuse 0x9002 []
    else if t.granted r.sess 0 = false ∧ t.boot.svcEn = false then .refuse 0x9003 []
    else
      let t1 := if t.boot.svcEn then t else t.useGrant r.sess 0
      .wait (t1.updRec fun x => { x with isClearing := true, clearing := some r })) s)

/-- REC_CLEAR_COMPLETE (20 R508, R512): every slot is erased with its unusable mark, UNRECORDED is 0, notice REC_CLEARED
carries the next SEQ, and the next record written carries CLEARED. -/
def execRecClearComplete (o : Opt) (s : State) : Out :=
  let s := s.begin o
  if s.rcd.isClearing = false then .next s
  else
    let req := s.rcd.clearing
    let s1 := (s.updRec fun r =>
      { r with slots := [], unrecorded := 0, isClearing := false, clearing := none, clearedNext := true }).notice
        0x000F 0x10 0 (fOfInt s.rcd.nextSeq.toNat)
    match req with
    | some r => .next (s1.complete r stOK (leBytes 4 s1.rcd.nextSeq.toNat ++ leBytes 4 0))
    | none => .next s1

/-- A write of REC_PTR (20 R511); no record is stored while a clear erases them (R512, log). -/
def State.recPointer (s : State) (v : Word) : State :=
  match (if s.rcd.isClearing then none else s.rcd.stored.find? fun x => x.seq == v) with
  | some x => s.updRec fun r => { r with ptr := v, ptrValid := true, win := x.data }
  | none => s.updRec fun r => { r with ptr := v, ptrValid := false, win := [] }

/-- REC_CNT cleared (20 R516, 01 R19). -/
def RecSt.clearCnt (r : RecSt) : RecSt := { r with writeErrCnt := 0, supprCnt := 0 }

/-- What a power cycle keeps of the recorder (20 R507 to R509). -/
def RecSt.keep (r : RecSt) : RecSt :=
  { RecSt.reset with slots := r.slots, nextSeq := r.nextSeq, unrecorded := r.unrecorded, clearedNext := r.clearedNext }

end Sys2Proof.Machine
end

