-- ==== Sys2Proof/Machine/Nav.lean ====
section
/-! DEFINITION. The GNSS baseband (10): tracking channels, the allocator, Bloodhound's searches, RTCM corrections, solutions,
Whippet and the antenna ports. -/

namespace Sys2Proof.Machine

/-- The state with the GNSS block changed. -/
def State.updNav (s : State) (f : NavSt → NavSt) : State := { s with nav := f s.nav }
/-- The state with tracking channel `n` changed. -/
def State.updNch (s : State) (n : Nat) (f : NavCh → NavCh) : State :=
  s.updNav fun v => { v with ch := upd v.ch n f }

/-! Signals (10 R269, R270). -/

/-- Whether a signal is found by search. -/
def bloodhound (sig : Nat) : Bool := sig == 0x01 || sig == 0x11 || sig == 0x21 || sig == 0x31 || sig == 0x41 || sig == 0x51

/-- Whether a code names a signal of R269. -/
def navSignal (sig : Nat) : Bool :=
  [0x01, 0x02, 0x03, 0x04, 0x11, 0x12, 0x21, 0x22, 0x23, 0x24, 0x31, 0x32, 0x33, 0x34, 0x41, 0x42, 0x43, 0x51].contains sig

/-- Whether a signal has a pilot component: those of the constellations' interface documents, which R269 does not name (log 116). -/
def sigPilot (sig : Nat) : Bool := [0x02, 0x03, 0x04, 0x21, 0x22, 0x23, 0x24, 0x32, 0x33, 0x42, 0x43].contains sig

/-- A satellite: its constellation and its number, as one key. -/
def satKey (sig sv : Nat) : Nat := 64 * (sig / 16) + sv

/-- The coherent integration of a signal in ms (10 R275). -/
def integMs (sig : Nat) (sync : Bool) : Nat := if sync then (if sigPilot sig then 10 else 20) else 1

/-- The band of a signal: 0 L1, 1 L2, 2 L5. -/
def sigBand (sig : Nat) : Nat :=
  if [0x03, 0x12, 0x24, 0x34, 0x42].contains sig then 1
  else if [0x04, 0x22, 0x23, 0x33, 0x43].contains sig then 2 else 0

/-- The RF path of a signal on an antenna. -/
def sigPath (sig : Nat) (ant : Bool) : Nat := (if ant then 3 else 0) + sigBand sig

/-! Configuration (10 R290). -/

/-- A field of RECEIVER, CORRECTIONS or WHIPPET. -/
def Image.rxField {α : Type} (im : Image) (f : List Byte → α) (d : α) : α := im.fieldOr 0x0601 0x0001 f d
/-- PLL_BW in 0.1 Hz and DLL_BW in 0.01 Hz of the tracking loops (10 R275), and CN0_MIN. -/
def Image.pllBw (im : Image) : Nat := im.rxField (fun b => u16 b 4) 150
def Image.dllBw (im : Image) : Nat := im.rxField (fun b => u16 b 6) 50
def Image.cn0Min (im : Image) : Nat := im.rxField (fun b => u8 b 16) 30
def Image.baseline (im : Image) : Nat := im.rxField (fun b => u16 b 8) 0
def Image.corr {α : Type} (im : Image) (i : Nat) (f : List Byte → α) (d0 d1 : α) : α :=
  im.fieldOr 0x0601 0x0002 (fun b => f (span b (12 * i) 12)) (if i = 0 then d0 else d1)
def Image.corrKind (im : Image) (i : Nat) : Nat := im.corr i (fun b => u8 b 0) 1 0
def Image.switchS (im : Image) : Nat := im.corr 0 (fun b => u16 b 2) 5 5
def Image.corrStation (im : Image) (i : Nat) : Nat := im.corr i (fun b => u16 b 8) 0xFFFF 0xFFFF
def Image.whip {α : Type} (im : Image) (f : List Byte → α) (d : α) : α := im.fieldOr 0x0601 0x0003 f d
def Image.holdS (im : Image) : Nat := im.whip (fun b => u32 b 0) 0
def Image.burstMs (im : Image) : Nat := im.whip (fun b => u16 b 4) 40
def Image.vMin (im : Image) : Nat := im.whip (fun b => u16 b 6) 11800
def Image.maxCh (im : Image) : Nat := im.whip (fun b => u8 b 8) 32

/-- CONST_MASK, ELEV_MASK and the solution period in force. -/
def State.constMask (s : State) : Nat := field (s.live 0x60040) 0 8
def State.elevMask (s : State) : Nat := field (s.live 0x60040) 8 5
def State.solPeriod (s : State) : Nat :=
  match field (s.live 0x60040) 16 2 with
  | 0 => 1000000000
  | 1 => 200000000
  | 2 => 100000000
  | _ => 50000000

/-! Channels (10 R273). -/

/-- A channel whose assignment is released. -/
def NavCh.release (c : NavCh) : NavCh :=
  { c with st := .idle, sig := 0, sv := 0, ant := false, sync := false, plock := false, half := false, lockT := 0, cn0 := 0,
           lockRun := 0, lowRun := 0, noPhase := 0, rounds := 0, waitRef := false, slipNext := false, elev := none, stayTill := 0,
           resid := none, integ := 1, load := .none, meas := Meas.zero }

/-- Releasing channel `n`, with the searches queued or running for it; the allocator then runs (10 R272). -/
def State.navRelease (s : State) (n : Nat) : State :=
  (s.updNch n NavCh.release).updNav fun v =>
    { v with queue := v.queue.filter fun q => q.ch != n, pass := v.pass.map fun l => l.filter fun q => q.ch != n, allocDue := true }

/-- The order of searches waiting (10 R277). -/
def classRank : SearchClass → Nat
  | .hot => 0
  | .warm => 1
  | .cold => 2

/-- An elevation as a rank: highest first, unknown last. -/
def elevRank : Option Int → Nat
  | some e => (10000 - e).toNat
  | none => 100000

def searchKey (q : Search) : List Nat :=
  classRank q.cls :: (if q.cls = .cold then [q.sig, q.sv] else [elevRank q.elev])

/-- The lexicographic order of ranks. -/
def keyLt : List Nat → List Nat → Bool
  | a :: s, b :: t => decide (a < b) || (a == b && keyLt s t)
  | [], _ :: _ => true
  | _, [] => false

/-- Insertion after everything that does not come later. -/
def insertBy {α : Type} (key : α → List Nat) (x : α) : List α → List α
  | [] => [x]
  | a :: t => if keyLt (key x) (key a) then x :: a :: t else a :: insertBy key x t

/-- The cells of a search (10 R276). -/
def searchCells (sig : Nat) (c : SearchClass) : Nat :=
  let t : Nat × Nat × Nat := match sig / 16 with
    | 1 => (20, 2044, 24528)
    | 2 => (80, 65472, 785664)
    | 3 => (20, 8184, 98208)
    | _ => (20, 4092, 49104)
  match c with
  | .hot => t.1
  | .warm => t.2.1
  | .cold => t.2.2

/-- The dwell of a signal's search, in ms. -/
def searchDwell (sig : Nat) : Nat := if sig / 16 = 2 then 20 else 10

/-- The searches that join a pass of one dwell, in queue order while their cells fit, and those left waiting. -/
def joinPass (dwell : Nat) : Nat → List Search → List Search × List Search
  | _, [] => ([], [])
  | free, q :: t =>
    if searchDwell q.sig = dwell ∧ q.left ≤ free then
      let (a, b) := joinPass dwell (free - q.left) t
      (q :: a, b)
    else
      let (a, b) := joinPass dwell free t
      (a, q :: b)

/-- The searches of a pass that begins at OPT `o` back in the queue, so that those queued at the same instant join it by their order. -/
def NavSt.openPass (v : NavSt) (o : Opt) : NavSt :=
  match v.pass with
  | some l => if v.passAt = o then { v with pass := none, queue := (l ++ v.queue).foldl (fun a q => insertBy searchKey q a) [] } else v
  | none => v

/-- The next pass at OPT `o`, when none runs and a search waits (10 R277). -/
def NavSt.startPass (v : NavSt) (o : Opt) : NavSt :=
  let w := v.openPass o
  match w.pass, w.queue with
  | none, q :: t =>
    if 8192 ≤ q.left then { w with pass := some [q], passAt := o, queue := t }
    else
      let (a, b) := joinPass (searchDwell q.sig) (8192 - q.left) t
      { w with pass := some (q :: a), passAt := o, queue := b }
  | _, _ => w

/-- Queueing a search for channel `n`. -/
def State.queueSearch (s : State) (n : Nat) (cls : SearchClass) : State :=
  let c := rd s.nav.ch n
  let q : Search := { cls := cls, ch := n, sig := c.sig, sv := c.sv, elev := c.elev, left := searchCells c.sig cls, best := none }
  s.updNav fun v => let w := v.openPass s.clk.opt
    { w with queue := insertBy searchKey q w.queue }.startPass s.clk.opt

/-- Whether `c` holds a channel of its own Bloodhound search: a Bloodhound signal on ANT0. -/
def NavCh.searched (c : NavCh) : Bool := bloodhound c.sig && !c.ant

/-- Whether channel `r` is the reference of channel `c` (10 R273). -/
def isRef (r c : NavCh) : Bool := r.searched && r.sig / 16 == c.sig / 16 && r.sv == c.sv && r.st != .idle

/-- Whether the reference of channel `c` is in TRACK. -/
def State.refTracks (s : State) (c : NavCh) : Bool := s.nav.ch.toList.any fun r => isRef r c && r.st == .track

/-- A handover channel with its reference `r` in TRACK (10 R273): PULLIN loads its code phase and Doppler, COAST goes to PULLIN within its 2 s. -/
def NavCh.handover (r : NavCh) (o : Opt) (c : NavCh) : NavCh :=
  let load := ChLoad.ref r.meas.range r.meas.doppler
  match c.st with
  | .pullin => if c.waitRef then { c with waitRef := false, load := load } else c
  | .coast => if o ≤ c.since + 2000000000 then { c with st := .pullin, since := o, slipNext := true, lockRun := 0, waitRef := false, load := load } else c
  | _ => c

/-- Whether the RF path of channel `c` has a locked synthesiser (10 R270). -/
def NavSt.hasPath (v : NavSt) (c : NavCh) : Bool := (rd v.rf (sigPath c.sig c.ant)).lock

/-- Every handover channel with samples whose reference is in TRACK (10 R273). -/
def NavSt.handovers (v : NavSt) (o : Opt) : NavSt :=
  let refs := v.ch.toList.filter fun r => r.searched && r.st == .track
  { v with ch := v.ch.map fun (c : NavCh) =>
      if c.searched || !v.hasPath c then c
      else match refs.find? fun r => isRef r c with
        | some r => r.handover o c
        | none => c }

/-! The allocator (10 R272). -/

/-- A wanted triple. -/
structure Triple where
  sig : Nat
  sv : Nat
  ant : Bool
  elev : Option Int
  hot : Bool
deriving DecidableEq, Repr, Inhabited

/-- The order of R272. -/
def tripleKey (t : Triple) : List Nat :=
  [if t.ant then 1 else 0, if bloodhound t.sig then 0 else 1, elevRank t.elev, t.sig, t.sv]

/-- Whether a satellite's signal is wanted: one of R269, its constellation enabled, the satellite's elevation high enough or unknown, and the satellite
not set aside. -/
def State.skyWanted (s : State) (i : SkyItem) : Bool :=
  navSignal i.sig && s.constMask.testBit (i.sig / 16)
    && (match i.elev with
      | some e => decide (10 * (s.elevMask : Int) - 20 ≤ e)
      | none => true)
    && !(s.nav.notWanted.any fun p => p.1 == satKey i.sig i.sv && decide (s.clk.opt < p.2 + 60000000000))

/-- The wanted triples in the order of R272; those of ANT1 only while a BASELINE is configured, and in Whippet the first MAX_CH of the
searched ones (R287; log 116). -/
def State.triples (s : State) (sky : List SkyItem) : List Triple :=
  let l := sky.filter s.skyWanted
  let mk (ant : Bool) (i : SkyItem) : Triple := ⟨i.sig, i.sv, ant, i.elev, i.hot⟩
  let all := (l.map (mk false) ++ (if s.img.baseline = 0 then [] else l.map (mk true))).foldr (insertBy tripleKey) []
  if s.nav.whip = .normal then all else (all.filter fun t => bloodhound t.sig && !t.ant).take s.img.maxCh

/-- The class of a new search (10 R276). -/
def State.searchClass (s : State) (hot : Bool) : SearchClass :=
  if hot then .hot
  else if (s.nav.almanac ∨ s.nav.eph ≠ []) ∧ s.nav.lastPos.isSome ∧ (s.tim.dvtSet ∨ s.tim.aiding.isSome) then .warm else .cold

/-- The lowest-numbered free enabled channel. -/
def NavSt.freeCh (v : NavSt) : Option Nat :=
  (List.range 384).find? fun n =>
    let c := rd v.ch n
    c.st == .idle && c.enF && !c.fault && v.en.getLsbD n

/-- Assigning a triple to channel `n` (10 R273). -/
def State.assign (s : State) (n : Nat) (t : Triple) : State :=
  let c : NavCh := { (rd s.nav.ch n).release with sig := t.sig, sv := t.sv, ant := t.ant, elev := t.elev, since := s.clk.opt }
  if c.searched then
    ((s.updNch n fun _ => { c with st := .search }).queueSearch n (s.searchClass t.hot))
  else (s.updNch n fun _ => { c with st := .pullin, waitRef := true }).updNav fun v => v.handovers s.clk.opt

/-- Whether a triple is assigned. -/
def State.assigned (s : State) (t : Triple) : Bool :=
  s.nav.ch.toList.any fun c => c.st != .idle && c.sig == t.sig && c.sv == t.sv && c.ant == t.ant

/-- NAV_ALLOCATOR (10 R272): at a DVT second, at a release, or at the solution group's boundary; it takes the predicted elevations of the
assigned satellites too. -/
def execNavAllocator (o : Opt) (sky : List SkyItem) (s : State) : Out :=
  let s := s.begin o
  if s.runs rNAV = false ∨ s.inReset rNAV 25 ∨ (s.nav.allocDue = false ∧ s.onGrid o 1000000000 = false) then .next s
  else
    let s0 := s.updNav fun v => { v with
      notWanted := v.notWanted.filter fun p => decide (o < p.2 + 60000000000), chShort := false, allocDue := false
      ch := v.ch.map fun (c : NavCh) => match sky.find? fun i => satKey i.sig i.sv == satKey c.sig c.sv with
        | some i => if c.st = .idle then c else { c with elev := i.elev }
        | none => c }
    .next ((s0.triples sky).foldl (fun t w =>
      if t.assigned w then t
      else match t.nav.freeCh with
        | some n => t.assign n w
        | none => t.updNav fun v => { v with chShort := true }) s0)

/-! Measurements (10 R273 to R275). -/

/-- A slip flagged on a channel in TRACK (10 R273, R275). -/
def NavCh.slip (c : NavCh) : NavCh :=
  if c.st = .track then { c with slipSeen := true, lastErr := 3, err := true, slipCnt := satInc c.slipCnt } else c

/-- What a channel measures that the correlators give nothing for. -/
def MeasIn.absent (n : Nat) : MeasIn :=
  { ch := n, cn0 := 0, m := Meas.zero, locked := false, phaseLock := false, sync := false, resid := 0, alm := false, eph := false }

/-- Whether the phase residual jumps by more than 0.25 cycle between two epochs (10 R275). -/
def NavCh.jumps (c : NavCh) (x : F64) : Bool := c.resid.any fun y => dlt (dRat 1 4) (dabs (dsub x y))

/-- The epoch of one channel. -/
def NavCh.measure (c : NavCh) (m : MeasIn) : NavCh :=
  if c.st = .idle ∨ c.st = .search then c
  else
    let slip := c.st == .track && c.jumps m.resid
    let d : NavCh := { c with
      cn0 := min m.cn0 1023, sync := m.sync, plock := m.phaseLock, half := m.m.half, lockT := min (m.m.lockMs / 100) 0xFFFF,
      lockRun := if c.st = .pullin ∧ m.locked ∧ c.waitRef = false then c.lockRun + 1 else 0,
      lowRun := if c.st = .track ∧ m.cn0 < 240 then c.lowRun + 1 else 0,
      noPhase := if c.st = .track ∧ m.phaseLock = false then c.noPhase + 1 else 0,
      resid := if c.st = .track then some m.resid else none, integ := integMs c.sig m.sync,
      stayTill := if m.eph then 0 else c.stayTill,
      meas := { m.m with slip := slip || c.slipNext, valid := m.m.valid && c.st != .coast }, slipNext := false }
    if slip then d.slip else d

/-- A channel that goes to COAST at OPT `o`. -/
def NavCh.coast (c : NavCh) (o : Opt) : NavCh :=
  { c with st := .coast, since := o, rounds := 0, lockRun := 0, lowRun := 0, noPhase := 0, plock := false,
           meas := { c.meas with valid := false } }

/-- The end of a Whippet burst (10 R287): channels that do not stay go back to COAST. -/
def State.endBurst (s : State) : State :=
  s.updNav fun v => { v with
    burst := none
    ch := v.ch.map fun (c : NavCh) =>
      if (c.st = .track ∨ c.st = .pullin) ∧ c.stayTill ≤ s.clk.opt then c.coast s.clk.opt else c }

/-- Every channel on a path out of lock goes to COAST, a search with it (10 R270). -/
def NavSt.pathsLost (v : NavSt) (o : Opt) : NavSt :=
  let lost (c : NavCh) : Bool := (c.st == .track || c.st == .pullin || c.st == .search) && !v.hasPath c
  let gone (q : Search) : Bool := let c := rd v.ch q.ch
    c.st == .search && lost c
  { v with
    ch := v.ch.map fun (c : NavCh) => if lost c then c.coast o else c
    queue := v.queue.filter fun q => !gone q
    pass := v.pass.map fun l => l.filter fun q => !gone q }

/-- The almanacs and ephemerides that channels in TRACK decode at an epoch (10 R276). -/
def NavSt.decoded (v : NavSt) (o : Opt) (ms : List MeasIn) : NavSt :=
  ms.foldl (fun w m =>
    let c := rd w.ch m.ch
    if c.st ≠ .track ∨ m.sync = false then w
    else { w with almanac := w.almanac || m.alm, eph := if m.eph then bindN w.eph (satKey c.sig c.sv) o else w.eph }) v

/-- MEASUREMENT_EPOCH (10 R274): enables and disables first, then the measurements, one of every channel that tracks; a path out of lock sends its
channels to COAST (R270), and the antenna currents and RF paths are read. -/
def execMeasurementEpoch (o : Opt) (ms : List MeasIn) (rf : List RfSt) (antMa : List Nat) (s : State) : Out :=
  let s := s.begin o
  let due := if s.tim.dvtSet then s.onGrid o 1000000 else s.clk.tick % 20 == 0 && o == s.clk.tickOpt
  if s.runs rNAV = false ∨ due = false ∨ s.nav.epochAt = some o then .next s
  else
    let s1 := (List.range 384).foldl (fun t n =>
      let en := t.nav.en.getLsbD n
      let c := rd t.nav.ch n
      let t1 := if c.st ≠ .idle ∧ (en = false ∨ ¬ t.constMask.testBit (c.sig / 16)) then t.navRelease n else t
      if c.enF = en then t1 else t1.updNch n fun x => { x with enF := en, fault := x.fault && en }) s
    let s2 := s1.updNav fun v => { v with
      rf := mapIdxV v.rf fun k r => match rf[k]? with
        | some m => { m with overload := m.overload || r.overload }
        | none => r
      ant := mapIdxV v.ant fun a x => match antMa[a]? with
        | some m => { x with ma := m, isOpen := x.bias != 0 && decide (m < 2) }
        | none => x }
    let s3 := s2.updNav fun v => { v with
      epochAt := some o
      ch := mapIdxV v.ch fun n (c : NavCh) => if c.fault then c else c.measure ((ms.find? fun m => m.ch == n).getD (MeasIn.absent n)) }
    let s4 := s3.updNav fun v => (((v.decoded o ms).pathsLost o).handovers o)
    .next (match s4.nav.burst with
      | some e => if e ≤ o then s4.endBurst else s4
      | none => s4)

/-- The higher of two detected cells. -/
def higher : Option SearchCell → Option SearchCell → Option SearchCell
  | some a, some b => if flt a.power b.power then some b else some a
  | some a, none => some a
  | none, b => b

/-- What a pass finds for a search: its highest detected cell so far (10 R276); a path out of lock gives no samples (R270). -/
def State.passBest (s : State) (found : List (Nat × SearchCell)) (q : Search) : Option SearchCell :=
  if s.nav.hasPath (rd s.nav.ch q.ch) then (found.filter fun x => x.1 == q.ch).foldl (fun a x => higher a (some x.2)) q.best else q.best

/-- The end of a search with its highest detected cell, or without one (10 R273). -/
def State.searchEnd (s : State) (o : Opt) (q : Search) (best : Option SearchCell) : State :=
  let c := rd s.nav.ch q.ch
  match c.st, best with
  | .search, some b => s.updNch q.ch fun x => { x with st := .pullin, since := o, lockRun := 0, load := .cell b.code b.bin }
  | .search, none => (s.navRelease q.ch).updNav fun v => { v with notWanted := (satKey q.sig q.sv, o) :: v.notWanted }
  | .coast, some b =>
    if o ≤ c.since + 2000000000 ∨ s.nav.whip ≠ .normal
    then s.updNch q.ch fun x => { x with st := .pullin, since := o, lockRun := 0, slipNext := true, load := .cell b.code b.bin } else s
  | _, _ => s

/-- ACQ_PASS_END (10 R277): the pass ends once its dwell is over; searches whose last cell it evaluated end with a detection or without. -/
def execAcqPassEnd (o : Opt) (found : List (Nat × SearchCell)) (s : State) : Out :=
  let s := s.begin o
  match s.nav.pass with
  | none => .next s
  | some l =>
    if s.runs rNAV = false ∨ s.inReset rNAV 24 ∨ o < s.nav.passAt + 1000000 * searchDwell ((l.head?.map fun q => q.sig).getD 0) then .next s
    else
      let s0 := s.updNav fun v => { v with pass := none, passCnt := satInc v.passCnt }
      let s1 := l.foldl (fun t q =>
        let best := t.passBest found q
        if 8192 < q.left then t.updNav fun v => { v with queue := insertBy searchKey { q with left := q.left - 8192, best := best } v.queue }
        else t.searchEnd o q best) s0
      .next (s1.updNav fun v => v.startPass o)

/-- PULLIN_LOCK (10 R273). -/
def execPullinLock (o : Opt) (ch : Fin 384) (s : State) : Out :=
  let s := s.begin o
  let c := rd s.nav.ch ch.val
  if s.runs rNAV = false ∨ c.st ≠ .pullin ∨ c.lockRun < 20 then .next s
  else
    let d : NavCh := { c with st := .track, since := o, lowRun := 0, noPhase := 0 }
    let s1 := s.updNch ch.val fun _ => d
    .next (if d.searched then s1.updNav fun v => v.handovers o else s1)

/-- PULLIN_TIMEOUT (10 R273). -/
def execPullinTimeout (o : Opt) (ch : Fin 384) (s : State) : Out :=
  let s := s.begin o
  let c := rd s.nav.ch ch.val
  if s.runs rNAV = false ∨ c.st ≠ .pullin ∨ o < c.since + 200000000 then .next s
  else .next ((s.navRelease ch.val).updNch ch.val fun x => { x with lastErr := 2 })

/-- LOSS_OF_LOCK (10 R273). -/
def execLossOfLock (o : Opt) (ch : Fin 384) (s : State) : Out :=
  let s := s.begin o
  let c := rd s.nav.ch ch.val
  if s.runs rNAV = false ∨ c.st ≠ .track ∨ (c.lowRun < 200 ∧ c.noPhase < 50) then .next s
  else .next (s.updNch ch.val fun x => { x.coast o with lastErr := 1, err := true, lolCnt := satInc x.lolCnt })

/-- COAST_SEARCH (10 R273): every 100 ms counted from the entry into COAST. -/
def execCoastSearch (o : Opt) (ch : Fin 384) (s : State) : Out :=
  let s := s.begin o
  let c := rd s.nav.ch ch.val
  if s.runs rNAV = false ∨ c.st ≠ .coast ∨ c.searched = false ∨ (s.nav.whip ≠ .normal ∧ s.nav.burst.isNone)
      ∨ o < c.since + 100000000 * (c.rounds + 1) then .next s
  else .next ((s.updNch ch.val fun x => { x with rounds := x.rounds + 1 }).queueSearch ch.val .hot)

/-- COAST_TIMEOUT (10 R273): never in Whippet (R287). -/
def execCoastTimeout (o : Opt) (ch : Fin 384) (s : State) : Out :=
  let s := s.begin o
  let c := rd s.nav.ch ch.val
  if s.runs rNAV = false ∨ c.st ≠ .coast ∨ s.nav.whip ≠ .normal ∨ o < c.since + 2000000000 then .next s
  else .next (s.navRelease ch.val)

/-! Corrections (10 R279 to R283). -/

/-- One bit of CRC-24Q, and the CRC of a byte string: the polynomial 0x1864CFB of RTCM 10403 (log). -/
def crc24Bit (c : Nat) : Nat := if (2 * c).testBit 24 then (2 * c) ^^^ 0x1864CFB else 2 * c
def crc24Byte (c : Nat) (b : Byte) : Nat :=
  let x := c ^^^ (b.toNat * 65536)
  crc24Bit (crc24Bit (crc24Bit (crc24Bit (crc24Bit (crc24Bit (crc24Bit (crc24Bit x)))))))
def crc24q (b : List Byte) : Nat := b.foldl crc24Byte 0

/-- What a deframer has found: frames accepted in order, CRC failures, whether a frame is cut off at the end, and what
follows the last complete frame. -/
structure Deframed where
  frames : List (List Byte)
  bad : Nat
  cut : Bool
  rest : List Byte
deriving DecidableEq, Repr, Inhabited

/-- Deframing a byte string (10 R279); `fuel` is its length. -/
def deframe : Nat → List Byte → Deframed
  | 0, b => ⟨[], 0, false, b⟩
  | n + 1, b =>
    match b with
    | [] => ⟨[], 0, false, []⟩
    | x :: t =>
      if x ≠ 0xD3 then deframe n t
      else
        let len := (u8 b 1 * 256 + u8 b 2) % 1024 + 6
        if b.length < 3 ∨ b.length < len then ⟨[], 0, true, b⟩
        else if crc24q (b.take (len - 3)) = beNat (span b (len - 3) 3) then
          let d := deframe n (b.drop len)
          { d with frames := b.take len :: d.frames }
        else
          let d := deframe n t
          { d with bad := d.bad + 1 }

/-- The correction source `i` after a deframing: counted, its frames waiting to be taken. -/
def RtcmSrc.took (r : RtcmSrc) (d : Deframed) (rest : List Byte) : RtcmSrc :=
  { r with good := satAdd r.good d.frames.length, crcErr := satAdd r.crcErr d.bad, waiting := r.waiting ++ d.frames, bytes := rest }

/-- A source's stream with bytes appended and deframed. -/
def RtcmSrc.feed (r : RtcmSrc) (data : List Byte) : RtcmSrc :=
  let b := r.bytes ++ data
  let d := deframe b.length b
  r.took d d.rest

/-- The data bytes of a CAN frame appended to source `i`'s stream (10 R279). -/
def State.rtcmBytes (s : State) (i : Nat) (data : List Byte) : State :=
  s.updNav fun v => { v with rtcm := upd v.rtcm i fun r => r.feed data }

/-- RTCM_IN (10 R283): frames of the payload go to the RONREX source; a frame cut off at the end is rejected and not joined to
the next payload. -/
def execRtcmIn (r : HostReq) (data : List Byte) (s : State) : Out :=
  .next (hostOp r 0x0053 1 12 (fun s =>
    match (List.range 2).find? fun i => s.img.corrKind i == 1 with
    | none => .refuse 0x8602 []
    | some i =>
      let d := deframe data.length data
      if s.region rNAV = .frozen then .refuse stSTATE []
      else if d.frames = [] ∧ d.bad = 0 then .refuse 0x8601 []
      else .done ((s.fifoWrite rNET).updNav fun v => { v with rtcm := upd v.rtcm i fun x => x.took d [] })
        (leBytes 2 d.frames.length ++ leBytes 2 (d.bad + (if d.cut then 1 else 0)))) s)

/-- Bits of a frame's message, most significant first, from bit `o`. -/
def msgBits (b : List Byte) (o n : Nat) : Nat :=
  (List.range n).foldl (fun a k => 2 * a + (if (u8 b (3 + (o + k) / 8)).testBit (7 - (o + k) % 8) then 1 else 0)) 0

/-- A signed field of a message. -/
def msgInt (b : List Byte) (o n : Nat) : Int :=
  let x := msgBits b o n
  if x.testBit (n - 1) then (x : Int) - (2 ^ n : Nat) else x

/-- The constellation and kind of an MSM (10 R280). -/
def msmOf (n : Nat) : Option (Nat × Nat) :=
  if [1074, 1077, 1084, 1087, 1094, 1097, 1114, 1117, 1124, 1127].contains n then some (n / 10, n % 10) else none

/-- The time of an MSM's epoch, in ms of a week of DVT (10 R280; RTCM 10403): GLONASS gives Moscow's day and time, BeiDou its
own time 14 s behind. -/
def State.msmWeekMs (s : State) (b : List Byte) (sys : Nat) : Nat :=
  let week := 604800000
  if sys = 108 then (msgBits b 24 3 * 86400000 + msgBits b 27 27 + week - 10800000 + 1000 * s.leap) % week
  else if sys = 112 then (msgBits b 24 30 + 14000) % week
  else msgBits b 24 30 % week

/-- The DVT of a time of week nearest to now. -/
def State.weekDvt (s : State) (ms : Nat) : Option Nat :=
  if s.tim.dvtSet then
    let now := s.dvt
    let week := 604800000000000
    let half := week / 2
    let t := ms * 1000000
    let d := (t + week - now % week) % week
    some (if d < half then now + d else now + d - week)
  else none

/-- Every ambiguity reset, with RESET_SEEN (10 R282). -/
def State.ambReset (s : State) : State := s.updNav fun v => { v with resetSeen := true, ambiguity := false }

/-- The station in use, where it changes (10 R282). -/
def State.useStation (s : State) (st : Nat) : State :=
  if s.nav.stationUsed = st then s
  else
    let t := s.updNav fun v => { v with stationUsed := st }
    if s.nav.ageMs.isNone then t else t.ambReset

/-- A base epoch of source `i` complete (10 R280, R281). -/
def State.baseEpoch (s : State) (i st : Nat) (tag : Option Nat) : State :=
  let gap := 1000000000 * s.img.switchS
  let run (r : RtcmSrc) : Option Nat := match r.tag, tag with
    | some a, some b => if b ≤ a + gap then r.runStart else tag
    | _, _ => tag
  let s1 := s.updNav fun v => { v with
    rtcm := upd v.rtcm i fun r => { r with tag := tag, station := st, msm := [], runStart := run r } }
  if i = s.nav.src then s1.useStation st else s1

/-- The square of the distance of two reference points, in units of 0.1 mm. -/
def refDist2 (a b : Int × Int × Int) : Int :=
  (a.1 - b.1) * (a.1 - b.1) + (a.2.1 - b.2.1) * (a.2.1 - b.2.1) + (a.2.2 - b.2.2) * (a.2.2 - b.2.2)

/-- The reference point in use taken from source `i` (10 R282): a change by more than 0.01 m resets the ambiguities. -/
def State.useRef (s : State) (i : Nat) (p : Int × Int × Int) : State :=
  let s1 := s.updNav fun v => { v with rtcm := upd v.rtcm i fun r => { r with ref := some p } }
  if i = s.nav.src then
    let t := s1.updNav fun v => { v with refUsed := some p }
    match s.nav.refUsed with
    | some q => if 10000 < refDist2 p q then t.ambReset else t
    | none => t
  else s1

/-- The constellation of an ephemeris message (10 R280). -/
def ephOf (n : Nat) : Option Nat :=
  match n with
  | 1019 => some 0
  | 1020 => some 1
  | 1042 => some 3
  | 1044 => some 4
  | 1046 => some 2
  | _ => none

/-- A frame taken into source `i` (10 R279, R280, R282); in Whippet corrections are not used (R287). -/
def State.takeFrame (s : State) (i : Nat) (b : List Byte) : State :=
  let n := msgBits b 0 12
  let st := msgBits b 12 12
  let want := s.img.corrStation i
  let idle := s.nav.whip != .normal
  match msmOf n with
  | some (sys, kind) =>
    if idle ∨ (want ≠ 0xFFFF ∧ want ≠ st) then s
    else
      let old := rd s.nav.rtcm i
      let m := bindN old.msm sys (max kind ((lookupN old.msm sys).getD 0))
      let s1 := s.updNav fun v => { v with rtcm := upd v.rtcm i fun r => { r with msm := m } }
      if msgBits b 54 1 = 0 then s1.baseEpoch i st (s.weekDvt (s.msmWeekMs b sys)) else s1
  | none =>
    if n = 1005 ∨ n = 1006 then
      if idle ∨ (want ≠ 0xFFFF ∧ want ≠ st) then s else s.useRef i (msgInt b 34 38, msgInt b 74 38, msgInt b 114 38)
    else if n = 1033 ∨ n = 1230 then s
    else match ephOf n with
    | some c => s.updNav fun v => { v with eph := bindN v.eph (satKey (16 * c) (msgBits b 12 (if n = 1044 then 4 else 6))) s.clk.opt }
    | none =>
      s.updNav fun v => { v with rtcm := upd v.rtcm i fun r => { r with unsup := satInc r.unsup } }

/-- RTCM_FRAME (10 R279): the oldest frame that waits at a source is taken. -/
def execRtcmFrame (o : Opt) (src : Fin 2) (s : State) : Out :=
  let s := s.begin o
  match (rd s.nav.rtcm src.val).waiting with
  | [] => .next s
  | b :: t =>
    if s.runs rNAV = false then .next s
    else .next ((s.updNav fun v => { v with rtcm := upd v.rtcm src.val fun r => { r with waiting := t } }).takeFrame src.val b)

/-! Solutions (10 R278, R281 to R285). -/

/-- The age of source `i` at the present instant, in ns (10 R281). -/
def State.corrAge (s : State) (i : Nat) : Option Nat :=
  if s.img.corrKind i = 0 then none else (rd s.nav.rtcm i).tag.map fun t => s.dvt - t

/-- Whether an age is within a limit in seconds. -/
def ageIn (a : Option Nat) (sec : Nat) : Bool :=
  match a with
  | some x => decide (x ≤ 1000000000 * sec)
  | none => false

/-- The active source after the epoch's choice (10 R281, R282). -/
def State.chooseSource (s : State) : State :=
  let sw := s.img.switchS
  let back : Bool := match (rd s.nav.rtcm 0).tag, (rd s.nav.rtcm 0).runStart with
    | some t, some b => decide (b + 10000000000 ≤ t) && ageIn (s.corrAge 0) sw
    | _, _ => false
  let toward := if s.nav.src = 0 then (if !ageIn (s.corrAge 0) sw && ageIn (s.corrAge 1) sw then 1 else 0)
    else (if back then 0 else 1)
  if toward = s.nav.src then s
  else
    let a := rd s.nav.rtcm toward
    let t := s.updNav fun v => { v with src := toward, stationUsed := a.station, refUsed := a.ref.orElse fun _ => v.refUsed }
    if a.station = s.nav.stationUsed then t else t.ambReset

/-- The channels of antenna `ant` that a solution uses (10 R272): in TRACK with a valid measurement, the satellite at or above ELEV_MASK and its C/N0 at or
above CN0_MIN. -/
def State.usedSats (s : State) (x : SolIn) (ant : Bool) : List SatIn :=
  x.sats.filter fun q =>
    let c := rd s.nav.ch q.ch
    decide (q.ch < 384) && c.st == .track && c.ant == ant && c.meas.valid && decide (10 * (s.elevMask : Int) ≤ q.elev) && decide (10 * s.img.cn0Min ≤ c.cn0)

/-- How many different numbers a list holds. -/
def countKinds : List Nat → Nat
  | [] => 0
  | a :: l => if l.contains a then countKinds l else countKinds l + 1

/-- The satellite of a channel. -/
def State.satOf (s : State) (q : SatIn) : Nat := satKey (rd s.nav.ch q.ch).sig (rd s.nav.ch q.ch).sv

/-- The satellites that keep validated ambiguities: none of their measurements carries SLIP (10 R278; log 116). -/
def State.keptSats (s : State) (l : List SatIn) : Nat :=
  let slipped := (l.filter fun q => (rd s.nav.ch q.ch).meas.slip).map s.satOf
  countKinds (((l.filter fun q => q.keep).map s.satOf).filter fun k => !slipped.contains k)

/-- The distance in m to the base beyond which a fix is not held (10 R278), and the Earth-fixed coordinates of a position (WGS 84, 12 R324). -/
def baseLimit : F64 := dOfInt 40000
def ecef (lat lon h : F64) : F64 × F64 × F64 :=
  let n := wgsN lat
  let c := cos64 (dmul lat degRad)
  (dmul (dmul (dadd n h) c) (cos64 (dmul lon degRad)), dmul (dmul (dadd n h) c) (sin64 (dmul lon degRad)),
   dmul (dadd (dmul n (dsub (dOfInt 1) wgsE2)) h) (sin64 (dmul lat degRad)))

/-- Whether the base is more than 40 km from the solution's position; none where no reference point is known. -/
def State.baseFar (s : State) (x : SolIn) : Option Bool :=
  s.nav.refUsed.map fun p =>
    let q := ecef x.lat x.lon x.height
    let dx := dsub q.1 (dRat p.1 10000)
    let dy := dsub q.2.1 (dRat p.2.1 10000)
    let dz := dsub q.2.2 (dRat p.2.2 10000)
    dlt (dmul baseLimit baseLimit) (dadd (dadd (dmul dx dx) (dmul dy dy)) (dmul dz dz))

/-- The best mode that the inputs of an antenna support (10 R278). -/
def State.bestMode (s : State) (x : SolIn) (whip ant : Bool) : Nat :=
  let age := s.corrAge s.nav.src
  let l := s.usedSats x ant
  let need := if 2 ≤ countKinds (l.map fun q => s.satOf q / 64) then 5 else 4
  if countKinds (l.map s.satOf) < need then 0
  else
    let w := s.live 0x60044
    let fl : Bool := !whip && ageIn age (field w 16 16) && decide (5 ≤ countKinds ((l.filter fun q => q.common).map s.satOf))
    if fl && ageIn age (field w 0 16) && s.baseFar x == some false && decide (5 ≤ s.keptSats l) && s.nav.ambiguity then 4
    else if fl then 3
    else if (l.all fun q => q.sbas) && !whip then 2 else 1

/-- The geometry-free combinations of an epoch (10 R275): of two tracked bands of one satellite, a jump by more than 0.05 m since the last epoch is a slip
on both channels. -/
def State.geometryFree (s : State) (x : SolIn) : State :=
  let two (a b : Nat) : Bool :=
    let c := rd s.nav.ch a
    let d := rd s.nav.ch b
    c.st == .track && d.st == .track && c.ant == d.ant && satKey c.sig c.sv == satKey d.sig d.sv && sigBand c.sig != sigBand d.sig
  let l := x.gf.filter fun g => two g.1 g.2.1
  let bad := l.filter fun g => match s.nav.gf.find? fun h => h.1 == g.1 && h.2.1 == g.2.1 with
    | some h => dlt (dRat 1 20) (dabs (dsub g.2.2 h.2.2))
    | none => false
  let flagged := (bad.map fun g => [g.1, g.2.1]).flatten.eraseDups
  (flagged.foldl (fun t n => t.updNch n fun c => { c.slip with meas := { c.meas with slip := true } }) s).updNav fun v => { v with gf := l }

/-- Whether an antenna has a channel in TRACK. -/
def State.antTracks (s : State) (ant : Bool) : Bool := s.nav.ch.toList.any fun c => c.st == .track && c.ant == ant

/-- The antenna-pair heading (10 R284): the state, and whether a fixed vector of the wrong length resets its ambiguities. -/
def State.hdgOf (s : State) (x : SolIn) : Nat × Bool :=
  let b := s.img.baseline
  let tol := s.img.rxField (fun r => u16 r 10) 20
  if b = 0 ∨ s.antTracks true = false ∨ s.nav.posAnt then (0, false)
  else if x.hdgValid ∧ 5 ≤ x.hdgCommon ∧ s.nav.hdgAmbiguity then
    (if x.lenMm ≤ b + tol ∧ b ≤ x.lenMm + tol then (2, false) else (if x.hdgFloat then 1 else 0, true))
  else (if x.hdgFloat then 1 else 0, false)

/-- The position antenna at the epoch (10 R285): a change resets the RTK ambiguities. -/
def State.choosePosAnt (s : State) (x : SolIn) (whip : Bool) : State :=
  let fail := s.img.rxField (fun r => (u8 r 3).testBit 0) true
  let want := if s.nav.posAnt then !(decide (s.bestMode x whip true ≤ s.bestMode x whip false) && s.antTracks false)
    else fail && !s.antTracks false
  if want = s.nav.posAnt then s else s.updNav fun v => { v with posAnt := want, ambiguity := false }

/-- Channels of constellations that the solution group has removed are released at its boundary (10 R289). -/
def State.navGroupApplied (s : State) : State :=
  (List.range 384).foldl (fun t n =>
    let c := rd t.nav.ch n
    if c.st ≠ .idle ∧ ¬ t.constMask.testBit (c.sig / 16) then t.navRelease n else t) s

/-- The boundary of commit group 0x0600. -/
def State.navBoundary (s : State) : State :=
  match s.snapReady 0x0600 with
  | some p => (s.applySnap p).navGroupApplied.updNav fun v => { v with allocDue := true }
  | none => s

/-- A solution epoch as the time source GNSS counts it: three in a row of SPP or better qualify it (11 R298). -/
def State.gnssRun (s : State) (o : Opt) (mode : Nat) : State :=
  { s with tim := { s.tim with srcs := upd s.tim.srcs 0 fun x =>
      if mode = 0 then { x with run := 0 } else { x with run := x.run + 1, last := o, qual := x.qual || decide (2 ≤ x.run) } } }

/-- SOLUTION_EPOCH (10 R278 to R285): the group's boundary, the source, the antenna, the mode and the heading; in Whippet one
SPP solution ends the burst (R287). -/
def execSolutionEpoch (o : Opt) (sol : SolIn) (s : State) : Out :=
  let s := s.begin o
  let whip := s.nav.whip != .normal
  let due := if whip then s.nav.burst.isSome else s.onGrid o s.solPeriod
  if s.runs rNAV = false ∨ s.inReset rNAV 25 ∨ due = false ∨ s.nav.solOpt = o then .next s
  else
    let s1 := s.navBoundary
    let s2 := (((if whip then s1 else s1.chooseSource).geometryFree sol).choosePosAnt sol whip)
    let mode := s2.bestMode sol whip s2.nav.posAnt
    let h := s2.hdgOf sol
    let age := s2.corrAge s2.nav.src
    let s3 := s2.updNav fun v => { v with
      solMode := mode, svUsed := min (countKinds ((s2.usedSats sol v.posAnt).map s2.satOf)) 255, solOpt := o, far := s2.baseFar sol == some true,
      ambiguity := true, hdgAmbiguity := !h.2,
      hdgState := h.1, hdg := if h.1 = 0 then fNaN else sol.hdg, pitch := if h.1 = 0 then fNaN else sol.pitch,
      baseLen := if h.1 = 0 then fNaN else sol.baseLen,
      ageMs := age.map fun a => a / 1000000,
      age := match age with
        | some a => satNat 16 (a / 100000000)
        | none => 0xFFFF
      lastPos := if mode = 0 then v.lastPos else some (sol.lat, sol.lon, sol.height) }
    let s4 := s3.gnssRun o mode
    .next (if whip then s4.endBurst else s4)

/-! Whippet (10 R286, R287). -/

/-- Hot searches for every satellite assigned to a searched channel. -/
def State.hotAll (s : State) : State :=
  (List.range 384).foldl (fun t n =>
    let c := rd t.nav.ch n
    if c.searched ∧ c.st = .coast then t.queueSearch n .hot else t) s

/-- Entering Whippet (10 R286, R287): ambiguities drop, and what may not stay assigned is released: every channel but the first
MAX_CH of the searched ones in the order of R272. -/
def State.enterWhippet (s : State) (w : WhipState) : State :=
  let key (n : Nat) : List Nat :=
    let c := rd s.nav.ch n
    tripleKey ⟨c.sig, c.sv, c.ant, c.elev, false⟩
  let own := ((List.range 384).filter fun n => (rd s.nav.ch n).searched && (rd s.nav.ch n).st != .idle).foldr (insertBy key) []
  let stay := own.take s.img.maxCh
  let s1 := (List.range 384).foldl (fun t n => if (rd t.nav.ch n).st ≠ .idle ∧ ¬ stay.contains n then t.navRelease n else t) s
  s1.updNav fun v => { v with
    whip := w, ambiguity := false, hdgAmbiguity := false, hdgState := 0, hdg := fNaN, pitch := fNaN, baseLen := fNaN, holdSince := s.clk.opt, lowSince := none
    ch := v.ch.map fun (c : NavCh) => if c.st = .track then c.coast s.clk.opt else c }

/-- Leaving Whippet (10 R286): hot searches where the state's row names them; a burst becomes continuous tracking. -/
def State.leaveWhippet (s : State) (hot : Bool) : State :=
  if s.nav.whip = .normal then s
  else
    let s1 := s.updNav fun v => { v with
      whip := .normal, burst := none, lowSince := none
      ch := v.ch.map fun (c : NavCh) => if c.st = .coast then { c with since := s.clk.opt, rounds := 0 } else c }
    if hot then s1.hotAll else s1

/-- COLD_RESTART (10 R293). -/
def State.coldRestart (s : State) : State :=
  (List.range 384).foldl (fun t n => if (rd t.nav.ch n).st ≠ .idle then t.navRelease n else t)
    (s.updNav fun v => { v with almanac := false, eph := [], lastPos := none })

/-- A write of NAV_CTRL (10 R286, R293). -/
def State.navCtrl (s : State) (req : Nat) : State :=
  match req with
  | 1 => if s.nav.whip = .normal then s.enterWhippet .whippet else s
  | 2 => if s.nav.whip = .whippet then s.leaveWhippet true else s
  | 3 => s.coldRestart
  | _ => s

/-- Whether the ephemeris held of a channel's satellite is more than 2 h old (10 R287), by its reception (log 116). -/
def NavSt.ephOld (v : NavSt) (o : Opt) (c : NavCh) : Bool := (lookupN v.eph (satKey c.sig c.sv)).any fun t => decide (t + 7200000000000 < o)

/-- WHIPPET_BURST (10 R287): at a DVT second, once no first search or pull-in is under way; up to 4 satellites whose ephemeris
is older than 2 h stay on for up to 36 s. -/
def execWhippetBurst (o : Opt) (s : State) : Out :=
  let s := s.begin o
  let busy := s.nav.ch.toList.any fun c => c.st == .search || c.st == .pullin
  if s.runs rNAV = false ∨ s.nav.whip = .normal ∨ s.nav.burst.isSome ∨ busy ∨ s.onGrid o 1000000000 = false then .next s
  else
    let staying := s.nav.ch.toList.filter fun c => decide (o < c.stayTill)
    let old := (List.range 384).filter fun n => let c := rd s.nav.ch n
      c.st != .idle && decide (c.stayTill ≤ o) && s.nav.ephOld o c
    let s1 := (old.take (4 - staying.length)).foldl (fun t n => t.updNch n fun c =>
      if c.st = .idle ∨ o < c.stayTill then c else { c with stayTill := o + 36000000000 }) s
    .next ((s1.updNav fun v => { v with burst := some (o + 1000000 * s.img.burstMs) }).hotAll)

/-! Antenna ports (02 R37, 10 R271). -/

/-- The bias that the PINMAP gives antenna `a`: 0 off, 1 3.3 V, 2 5.0 V. -/
def State.antBias (s : State) (a : Nat) : Nat := s.img.pinOr 6 (7 + a) 0xA2 - 0xA0

/-- ANTENNA_SHORT: more than 100 mA switches the port's bias off. -/
def execAntennaShort (o : Opt) (ant : Fin 2) (ma : Nat) (s : State) : Out :=
  let s := s.begin o
  let a := rd s.nav.ant ant.val
  if s.runs rNAV = false ∨ a.bias = 0 ∨ ma ≤ 100 then .next s
  else .next (s.updNav fun v => { v with ant := upd v.ant ant.val fun x =>
    { x with bias := 0, short := true, isOpen := false, shortSeen := true, ma := 0, shortCnt := satInc x.shortCnt, shortAt := o } })

/-- ANTENNA_RETRY: once per second the bias is tried again. -/
def execAntennaRetry (o : Opt) (ant : Fin 2) (ma : Nat) (s : State) : Out :=
  let s := s.begin o
  let a := rd s.nav.ant ant.val
  if s.runs rNAV = false ∨ a.short = false ∨ o < a.shortAt + 1000000000 then .next s
  else .next (s.updNav fun v => { v with ant := upd v.ant ant.val fun x =>
    if 100 < ma then { x with shortCnt := satInc x.shortCnt, shortAt := o }
    else { x with bias := s.antBias ant.val, short := false, isOpen := decide (ma < 2), ma := ma } })

/-- Both counters of the channels of a mask word are cleared (10 R293). -/
def State.navCntClear (s : State) (i : Nat) (m : Word) : State :=
  s.updNav fun v => { v with ch := mapIdxV v.ch fun n (c : NavCh) =>
    if n / 32 = i ∧ m.getLsbD (n % 32) then { c with lolCnt := 0, slipCnt := 0 } else c }

/-- The GNSS block as it starts with an image: the antenna bias on by option. -/
def State.navStart (s : State) : State :=
  s.updNav fun v => { v with ant := mapIdxV v.ant fun a (x : AntSt) => { x with bias := s.antBias a } }

end Sys2Proof.Machine
end

