-- ==== Sys2Proof/Machine/CanOps.lean ====
section
/-! DEFINITION. CAN ring entries, the transmit queue and the transmit buffers (18 R451 to R463), and which controller of a CAN
pair acts (19 R487). -/

namespace Sys2Proof.Machine

/-- The state with the CAN block changed. -/
def State.updCan (s : State) (f : CanSt → CanSt) : State := { s with can := f s.can }
/-- The state with controller `n` changed. -/
def State.updCc (s : State) (n : Nat) (f : CanCh → CanCh) : State := s.updCan fun v => { v with ch := upd v.ch n f }
/-- Controller `n`. -/
def State.cc (s : State) (n : Nat) : CanCh := rd s.can.ch n

/-! Configuration (18 R470) and pairs (19 R487). -/

/-- A field of a controller's record, or its default. -/
def Image.canField {α : Type} (im : Image) (n : Nat) (f : List Byte → α) (d : α) : α :=
  match im.record 0x0E01 0x0001 32 n with
  | some b => f b
  | none => d

def Image.flushTx (im : Image) (n : Nat) : Bool := im.canField n (fun b => u8 b 1 == 1) false
def Image.cyclicReplace (im : Image) (n : Nat) : Bool := im.canField n (fun b => u8 b 2 == 1) false
def Image.recovery (im : Image) (n : Nat) : Nat := im.canField n (fun b => u8 b 3) 0
def Image.busoffDelay (im : Image) (n : Nat) : Nat := im.canField n (fun b => u16 b 4) 100 * 1000000
def Image.busoffLimit (im : Image) (n : Nat) : Nat := im.canField n (fun b => u8 b 6) 8
def Image.detFrames (im : Image) (n : Nat) : Nat := im.canField n (fun b => u8 b 7) 8
def Image.detListen (im : Image) (n : Nat) : Nat := im.canField n (fun b => u16 b 8) 500 * 1000000

/-- The TIME record of a controller, where it is a time master. -/
def Image.timeRec (im : Image) (n : Nat) : Option (List Byte) :=
  match im.record 0x0E01 0x0003 12 n with
  | some b => if u8 b 0 = 1 then some b else none
  | none => none

/-- The CLAIM record of a controller that has a claim machine. -/
def Image.claimRec (im : Image) (n : Nat) : Option (List Byte) :=
  match im.record 0x0E01 0x0004 16 n with
  | some b => if u16 b 0 = 0xFFFF then none else some b
  | none => none

/-- CAN_MODE in force on controller `n`: a bit of it. -/
def State.canMode (s : State) (n k : Nat) : Bool := bit (s.live (0xE1000 + 16 * n + 12)) k

/-- The enabled pair that controller `n` belongs to. -/
def State.canPair (s : State) (n : Nat) : Option Nat :=
  if n < 4 ∧ s.pairOn (1 + n / 2) then some (1 + n / 2) else none

/-- The controller by which a pair is named: its A controller. -/
def State.canLead (s : State) (n : Nat) : Nat := if (s.canPair n).isSome then n / 2 * 2 else n

/-- The controller that sends for `n`: the active member of its pair; in state NONE the one that was active. -/
def State.canSender (s : State) (n : Nat) : Nat :=
  match s.canPair n with
  | none => n
  | some p =>
    let q := rd s.eth.pair p
    n / 2 * 2 + (match q.active with
      | 0 => 0
      | 1 => 1
      | _ => if q.prevAct = 1 then 1 else 0)

/-- Whether controller `n` was the one whose ring the dispatcher reads at OPT `o` (19 R488). -/
def State.canReads (s : State) (n : Nat) (o : Opt) : Bool :=
  match s.canPair n with
  | none => true
  | some p =>
    let q := rd s.eth.pair p
    (if q.takeAt ≤ o then q.active else q.prevAct) == n % 2

/-- Whether controller `n` takes part in its bus (18 R447, R449, R450, R462). -/
def State.canOnBus (s : State) (n : Nat) : Bool :=
  let c := s.cc n
  c.enF && !c.fault && (c.bus == .errorActive || c.bus == .errorPassive) && c.detect.isNone && !s.canMode n 1

/-! Ring entries (18 R451 to R453). -/

/-- FLAGS of a frame's entry. -/
def frameFlags (f : CanFrame) (det oneShot : Bool) : Nat :=
  (if f.fdf then 1 else 0) + (if f.brs then 2 else 0) + (if f.esi then 4 else 0) + (if f.rtr then 8 else 0)
    + (if f.ide then 16 else 0) + (if det then 32 else 0) + (if oneShot then 64 else 0)

/-- Writing an entry into controller `n`'s ring of 4,096. -/
def State.canEntry (s : State) (n kind flags reason id tag : Nat) (data : List Byte) (o : Opt) : State :=
  let e : CanEntry :=
    { seq := (s.cc n).seq + 1, kind := kind, flags := flags, len := data.length, reason := reason, id := id, tag := tag,
      tec := min (s.cc n).tec 511, recv := min (s.cc n).recv 127, opt := o, dvt := s.dvtAt o, data := data, active := s.canReads n o, wrote := s.clk.opt }
  s.updCc n fun c => { c with seq := c.seq + 1, ring := (e :: c.ring).take 4096 }

/-- The 96 bytes of an entry (18 R453). -/
def CanEntry.bytes (e : CanEntry) : List Byte :=
  leBytes 4 e.seq.toNat ++ leBytes 1 e.kind ++ leBytes 1 e.flags ++ leBytes 1 e.len ++ leBytes 1 e.reason
    ++ leBytes 4 e.id ++ leBytes 2 e.tag ++ leBytes 2 (e.tec + 512 * e.recv) ++ leBytes 8 e.opt ++ leBytes 8 e.dvt
    ++ e.data ++ List.replicate (64 - e.data.length) 0

/-- TAG of a frame's entry. -/
def txTag : TxSource → Nat
  | .host t => t
  | .format t => t
  | .action t => t
  | .service => 0xFFFF
  | .reference => 0xFFFF

/-- A TX_FAIL entry (18 R461): counted but for ARB_LOST and ABORTED. -/
def State.txFail (s : State) (n : Nat) (f : TxFrame) (reason : Nat) : State :=
  let t := s.canEntry n 2 (frameFlags f.frame false f.oneShot) reason f.frame.id (txTag f.src) f.frame.data s.clk.opt
  if reason = 0x01 ∨ reason = 0x08 then t
  else t.updCc n fun c => { c with txFailCnt := satInc c.txFailCnt, err := true, lastErr := 2 }

/-- A BUS_STATE entry (18 R462). -/
def State.busEntry (s : State) (n reason : Nat) : State := s.canEntry n 4 0 reason 0 0 [] s.clk.opt

/-! The transmit queue and the buffers (18 R456, R457). -/

/-- The arbitration value, a base frame before an extended one of the same value. -/
def arbKey (f : CanFrame) : Nat := if f.ide then 2 * f.id + 1 else 2 * (f.id * 2 ^ 18)

/-- Insertion by arbitration value, then by order of entry. -/
def insertTx (f : TxFrame) : List TxFrame → List TxFrame
  | [] => [f]
  | g :: t =>
    if arbKey f.frame < arbKey g.frame ∨ (arbKey f.frame = arbKey g.frame ∧ f.order < g.order) then f :: g :: t else g :: insertTx f t

/-- The buffers that TXQ may use on controller `n` (18 R457): TXB0 belongs to a time master's reference. -/
def State.canBufs (s : State) (n : Nat) : List Nat := if (s.img.timeRec (s.canLead n)).isSome then [1, 2] else [0, 1, 2]

/-- Moving the front of TXQ into empty buffers. -/
def fillBufs (allowed : List Nat) : Nat → CanCh → CanCh
  | 0, c => c
  | k + 1, c =>
    match c.txq, allowed.find? (fun i => (rd c.txb i).isNone) with
    | f :: t, some i => fillBufs allowed k { c with txq := t, txb := put c.txb i (some f) }
    | _, _ => c

/-- The buffer with the highest arbitration value that is not in transmission. -/
def worstBuf (allowed : List Nat) (c : CanCh) : Option (Nat × TxFrame) :=
  allowed.foldl (fun a i =>
    match rd c.txb i with
    | none => a
    | some f =>
      if c.sending = some i then a
      else match a with
        | none => some (i, f)
        | some (_, g) => if arbKey g.frame < arbKey f.frame ∨ (arbKey g.frame = arbKey f.frame ∧ g.order < f.order) then some (i, f) else a) none

/-- Whether the front of TXQ outranks every occupied buffer. -/
def outranks (f : TxFrame) (c : CanCh) : Bool :=
  c.txb.toList.all fun b => match b with
    | some g => decide (arbKey f.frame < arbKey g.frame)
    | none => true

/-- Loading the buffers of controller `n` (18 R457). -/
def State.canLoad (s : State) (n : Nat) : State :=
  let allowed := s.canBufs n
  let prio := !s.canMode n 3
  s.updCc n fun c =>
    let d := fillBufs allowed 3 c
    match d.txq, worstBuf allowed d with
    | f :: t, some (i, g) => if prio && outranks f d then { d with txq := insertTx g t, txb := put d.txb i (some f) } else d
    | _, _ => d

/-- The buffer that goes first (18 R457). -/
def firstBuf (prio : Bool) (c : CanCh) : Option Nat :=
  ((List.range 3).foldl (fun (a : Option (Nat × TxFrame)) i =>
    match rd c.txb i with
    | none => a
    | some f => match a with
      | none => some (i, f)
      | some (_, g) =>
        if prio ∧ (arbKey f.frame < arbKey g.frame ∨ (arbKey f.frame = arbKey g.frame ∧ f.order < g.order)) then some (i, f) else a)
    none).map fun p => p.1

/-- The next frame's transmission begins, where the controller takes part and none is under way. -/
def State.canStart (s : State) (n : Nat) : State :=
  let t := s.canLoad n
  if t.canOnBus n = true ∧ (t.cc n).sending.isNone ∧ (t.cc n).offWait = false then t.updCc n fun c => { c with sending := firstBuf (!s.canMode n 3) c } else t

/-- A frame enters the transmit queue of controller `n` (18 R456). -/
def State.canEnqueue (s : State) (n : Nat) (f : CanFrame) (src : TxSource) (oneShot : Bool) (sa : Option Nat) : State :=
  let x : TxFrame := { frame := f, src := src, oneShot := oneShot, order := s.can.order, opt := s.clk.opt, sa := sa }
  let s1 := s.updCan fun v => { v with order := v.order + 1 }
  if 64 ≤ (s.cc n).txq.length then
    (s1.txFail n x 0x09).updCc n fun c => { c with txqFullCnt := satInc c.txqFullCnt }
  else (s1.updCc n fun c => { c with txq := insertTx x c.txq }).canStart n

/-- The frames waiting on controller `n`: the buffers, then TXQ. -/
def CanCh.waiting (c : CanCh) : List TxFrame := (c.txb.toList.filterMap id) ++ c.txq

/-- Every frame of controller `n` is discarded with a reason (18 R461, R463). -/
def State.canFlush (s : State) (n reason : Nat) : State :=
  let l := (s.cc n).waiting
  l.foldl (fun t f => t.txFail n f reason)
    (s.updCc n fun c => { c with txq := [], txb := Vector.replicate 3 none, sending := none })

/-- Waiting frames that satisfy `p` leave with a reason; one in transmission stays until the bus decides (18 R463). -/
def State.canWithdraw (s : State) (n : Nat) (p : TxFrame → Bool) (reason : Nat) : State :=
  let c := s.cc n
  let inBuf (i : Nat) : Bool := match rd c.txb i with
    | some f => p f && c.sending != some i
    | none => false
  let gone := ((List.range 3).filterMap fun i => if inBuf i then rd c.txb i else none) ++ c.txq.filter p
  let s1 := s.updCc n fun c => { c with
    txq := c.txq.filter fun f => !p f
    txb := mapIdxV c.txb fun i b => if inBuf i then none else b }
  (gone.foldl (fun t f => t.txFail n f reason) s1).canStart n

/-- Frames that have failed or been overtaken on an old member move to the active one (19 R488): every frame but one in
transmission; the reference stays in TXB0, and the time master's mirror is taken over. -/
def State.canMove (s : State) (a b : Nat) : State :=
  let c := s.cc a
  let keep (i : Nat) : Bool := c.sending == some i
  let bufs := (List.range 3).filterMap fun i => if keep i then none else rd c.txb i
  let ref := bufs.find? fun f => f.src == .reference
  let move := (bufs.filter fun f => f.src != .reference) ++ c.txq
  let s1 := s.updCc a fun c => { c with txq := [], txb := mapIdxV c.txb fun i x => if keep i then x else none }
  let s2 := s1.updCc b fun d => { d with
    txq := move.foldl (fun l f => insertTx f l) d.txq
    txb := match ref with
      | some f => put d.txb 0 (some f)
      | none => d.txb
    cycle := c.cycle, refSof := c.refSof, refSent := c.refSent }
  s2.canStart b

end Sys2Proof.Machine
end

