-- ==== Sys2Proof/Machine/Manifest.lean ====
section
/-! DEFINITION. The staged manifest (21 R520, R521): its fields, its parts, and the windows of its activation. -/

namespace Sys2Proof.Machine

/-- Fields of a manifest (21 R520). -/
def mfId (b : List Byte) : Nat := u64 b 8
def mfParts (b : List Byte) : Nat := u8 b 21
def mfMembers (b : List Byte) : Nat := u8 b 22
def mfHostConfirm (b : List Byte) : Bool := (u8 b 23).testBit 0
def mfT0 (b : List Byte) : Nat := u64 b 24
def mfWindow (b : List Byte) : Nat := u32 b 32 * 1000000000
def mfConfirm (b : List Byte) : Nat := u32 b 36 * 1000000000
def mfDeadline (b : List Byte) : Nat := u64 b 40
def mfLength (b : List Byte) : Nat := u32 b 48

/-- Part entry `i` (21 R521). -/
def mfPart (b : List Byte) (i : Nat) : Part :=
  let o := 96 + 112 * i
  { kind := u8 b o, member := u8 b (o + 1), version := u32 b (o + 4), length := u32 b (o + 8),
    digest := span b (o + 16) 48, btDigest := span b (o + 64) 48 }

/-- The serial of member `m`. -/
def mfSerial (b : List Byte) (m : Nat) : Nat := u64 b (96 + 112 * mfParts b + 24 * m)

/-- The member indices that carry a serial. -/
def mfOwners (b : List Byte) (serial : Nat) : List Nat := (List.range (mfMembers b)).filter fun m => mfSerial b m == serial

/-- The module's own member index in the staged manifest. -/
def State.ownMember (s : State) : Nat := (mfOwners s.journal.manifest s.boot.serial.toNat).headD 0

/-- Whether a manifest is staged and the module is its head (21 R520). -/
def State.isHead (s : State) : Bool := s.journal.state != .idle && s.ownMember == 0

/-- The least window at or after DVT `t`, where there is one at or before DEADLINE (21 R520). -/
def windowFrom (b : List Byte) (t : Nat) : Option Nat :=
  let w := max 1 (mfWindow b)
  let x := if t ≤ mfT0 b then mfT0 b else mfT0 b + (t - mfT0 b + w - 1) / w * w
  if x ≤ mfDeadline b then some x else none

/-- The DVT of the next window (21 R527, R537): that of a COMMIT, or the first not before now and not yet deferred. -/
def State.nextWindow (s : State) : Option Nat :=
  let j := s.journal
  match j.state with
  | .committed => j.committed
  | .idle | .trial | .confirmed | .fallback | .abandoned => none
  | _ => windowFrom j.manifest (max s.dvt (match s.updt.passed with
    | some w => w + 1
    | none => 0))

/-- ACT_SOON (21 R530). -/
def State.actSoon (s : State) : Bool :=
  (s.journal.state == .ready || s.journal.state == .committed)
    && (match s.nextWindow with
      | some t => decide (s.dvt ≤ t ∧ t ≤ s.dvt + 300000000000)
      | none => false)

end Sys2Proof.Machine
end

