-- ==== Sys2Proof/Machine/Pairs.lean ====
section
/-! DEFINITION. Path pairs (19 R477 to R488): conditions, health, roles, takeovers and gaps. -/

namespace Sys2Proof.Machine

/-- The state with the Ethernet block changed. -/
def State.updEth (s : State) (f : EthSt → EthSt) : State := { s with eth := f s.eth }
def State.updPort (s : State) (n : Nat) (f : EthPort → EthPort) : State := s.updEth fun v => { v with port := upd v.port n f }
def State.updPair (s : State) (p : Nat) (f : Pair → Pair) : State := s.updEth fun v => { v with pair := upd v.pair p f }

/-- Pair `p`, and a field of its record (19 R489). -/
def State.pair (s : State) (p : Nat) : Pair := rd s.eth.pair p
def Image.pairField {α : Type} (im : Image) (p : Nat) (f : List Byte → α) (d : α) : α :=
  im.fieldOr 0x0F01 0x0003 (fun b => f (span b (32 * p) 32)) d
def Image.probeLoss (im : Image) : Nat := im.pairField 0 (fun b => u8 b 2) 3
def Image.eqxMin (im : Image) (p : Nat) : Nat := im.pairField p (fun b => u16 b 4) 360
def Image.eqxOfs (im : Image) (p : Nat) : Nat := im.pairField p (fun b => u16 b 6) 0
def Image.downMs (im : Image) (p : Nat) : Nat := im.pairField p (fun b => u16 b 8) 2
def Image.errMax (im : Image) (p : Nat) : Nat := im.pairField p (fun b => u16 b 10) 20
def Image.probeMs (im : Image) (p : Nat) : Nat := im.pairField p (fun b => u16 b 12) (if p = 0 then 50 else 200)
def Image.returnS (im : Image) (p : Nat) : Nat := im.pairField p (fun b => u16 b 14) 10
/-- PEER of the backbone pair; all zero means no probes. -/
def Image.peer (im : Image) : List Byte := im.pairField 0 (fun b => span b 16 16) []
def Image.probes (im : Image) : Bool := im.peer.any fun x => x != 0

/-- A member of a pair. -/
def Pair.mem (q : Pair) (b : Bool) : Member := if b then q.b else q.a
def Pair.updMem (q : Pair) (b : Bool) (f : Member → Member) : Pair := if b then { q with b := f q.b } else { q with a := f q.a }

/-- Whether a condition of R478 holds. -/
def Member.bad (m : Member) : Bool := m.cLink || m.cErr || m.cSil || m.cDis

/-- The unit of a member: a port of the backbone, a controller of a CAN pair. -/
def memberUnit (p : Nat) (b : Bool) : Nat := (if p = 0 then 0 else 2 * (p - 1)) + (if b then 1 else 0)

/-- The conditions of R478. -/
inductive PathCond where
  | link | errors | silence | disable
deriving DecidableEq, Repr

/-- The member with a condition set. -/
def Member.setCond (m : Member) (k : PathCond) : Member :=
  match k with
  | .link => { m with cLink := true }
  | .errors => { m with cErr := true }
  | .silence => { m with cSil := true }
  | .disable => { m with cDis := true }

/-! Addresses (19 R475). -/

/-- MAC address B + k as 6 bytes. -/
def State.mac (s : State) (k : Nat) : List Byte := beBytes 6 ((s.flash.macBase.toNat + k) % 2 ^ 48)

/-- The link-local address that EUI-64 forms from a MAC address. -/
def linkLocal (m : List Byte) : List Byte :=
  [0xFE, 0x80, 0, 0, 0, 0, 0, 0] ++ [(m.getD 0 0) ^^^ 0x02] ++ span m 1 2 ++ [0xFF, 0xFE] ++ span m 3 3

/-- The record of interface `i` (19 R489). -/
def Image.iface (im : Image) (i : Nat) : List Byte := (im.record 0x0F01 0x0002 32 i).getD []

/-- The IPv4 address of interface `i`, and its IPv6 addresses: the global one where it has one, and the link-local one of MAC
B + `k`. -/
def State.addr4 (s : State) (i : Nat) : Option (List Byte) :=
  if (u8 (s.img.iface i) 0).testBit 0 then some (span (s.img.iface i) 8 4) else none
def State.addr6 (s : State) (i k : Nat) : List (List Byte) :=
  (if (u8 (s.img.iface i) 0).testBit 1 then [span (s.img.iface i) 16 16] else []) ++ [linkLocal (s.mac k)]

/-- The IEEE 802.1Q tag of interface `i`, of its PCP and VLAN ID, none where it is untagged (19 R475, R476, R489). -/
def State.netTag (s : State) (i : Nat) : Option Nat :=
  if s.boot.noImage = false ∧ (u8 (s.img.iface i) 0).testBit 2 then some (8192 * u8 (s.img.iface i) 3 + u16 (s.img.iface i) 4) else none

/-- Kinds of Ethernet messages that the module sends: gratuitous ARP, unsolicited advertisement, probe by ICMPv6 and by ICMP, echo reply,
address reply, and the gPTP messages. -/
def netGarp : Nat := 1
def netAdvert : Nat := 2
def netProbe : Nat := 3
def netProbe4 : Nat := 9
def netEcho : Nat := 4
def netResolve : Nat := 5
def netSync : Nat := 6
def netAnnounce : Nat := 7
def netPdelay : Nat := 8

/-- The announcement of a takeover (19 R481): one gratuitous ARP for the IPv4 address, one unsolicited advertisement for each
IPv6 address, from B on the port of the new active. -/
def State.announce (s : State) (z : Nat) : State :=
  let t := match s.addr4 0 with
    | some a => s.send (.net z netGarp (s.netTag 0) (s.mac 0 ++ a))
    | none => s
  (s.addr6 0 0).foldl (fun u a => u.send (.net z netAdvert (s.netTag 0) (s.mac 0 ++ a))) t

/-! Roles (19 R480 to R482). -/

/-- Whether pair `q` is in a gap at OPT `o`: IN_GAP (19 R482). -/
def Pair.inGap (q : Pair) (o : Opt) : Bool := q.gapSince.isSome || decide (o < q.gapUntil)

/-- A gap that begins at `first` and lasts `us` µs. -/
def Pair.gapEnd (q : Pair) (first : Opt) (us : Nat) : Pair :=
  { q with gapSince := none, gapUntil := first + 1000 * us, lastGap := satNat 16 us, maxGap := if q.maxGap.toNat < us then satNat 16 us else q.maxGap }

/-- The length in µs of a gap of which `least` µs have passed and whose bound is `most` µs, otherwise not stated: a free value between
the two. -/
def State.drawGap (s : State) (least most : Nat) : Nat × State :=
  let (w, t) := s.draw
  (least + w.toNat % (most - least + 1), t)

/-- A takeover of pair `p` by member `z` (19 R481, R488). -/
def State.takeover (s : State) (p : Nat) (z : Bool) : State :=
  let q := s.pair p
  let from_ := if q.active = 2 then q.prevAct else q.active
  let s1 := s.updPair p fun q => { q with active := if z then 1 else 0, prevAct := if q.active = 2 then q.prevAct else q.active, takeAt := s.clk.opt }
  if p = 0 then s1.announce (if z then 1 else 0)
  else
    let old := 2 * (p - 1) + from_
    let new := memberUnit p z
    if from_ < 2 ∧ old ≠ new then s1.canMove old new else s1.canStart new

/-- Member `b` of pair `p` becomes READY (19 R478): DEGRADED ends (R480). -/
def State.memberReady (s : State) (p : Nat) (b : Bool) : State :=
  s.updPair p fun q => { q.updMem b (fun m => { m with health := .ready }) with degraded := false }

/-- A fault switch-over from the active member to the other (19 R480), the gap beginning at `first` and lasting `us` µs. -/
def State.faultSwitch (s : State) (p : Nat) (toB : Bool) (first : Opt) (us : Nat) : State :=
  let q := s.pair p
  let soon : Bool := match q.swapAt with
    | some t => decide (s.clk.opt < t + 60000000000)
    | none => false
  let s1 := ((s.takeover p toB).updPair p fun q => { q.gapEnd first us with faultCnt := satInc q.faultCnt, swapAt := none }).notice
    0x0003 0x0F p (fOfInt (if toB then 1 else 0))
  if soon then (s1.updPair p fun q => { q with eqxFail := true, failCnt := satInc q.failCnt }).notice 0x0005 0x0F p fZero else s1

/-- A member takes over pair `p` in NONE (19 R480): the gap, where there is one, ends; its context is then the active one. -/
def State.leaveNone (s : State) (p : Nat) (b : Bool) : State :=
  let q := s.pair p
  let t := (s.takeover p b).updPair p fun q => q.updMem b fun m => { m with mirror := true }
  match q.gapSince with
  | some first => t.updPair p fun q => q.gapEnd first ((s.clk.opt - first) / 1000)
  | none => t

/-- A condition begins to hold at member `b` of pair `p` (19 R478, R480); `first` is the instant from which a gap would
count. -/
def State.pathCond (s : State) (p : Nat) (b : Bool) (k : PathCond) (first : Opt) : State :=
  if s.pairOn p = false then s
  else
    let q := s.pair p
    let was := (q.mem b).health
    let s1 := s.updPair p fun q => q.updMem b fun m => { m.setCond k with health := .down, answered := false, mirror := false }
    if q.active ≠ (if b then 1 else 0) ∨ (was = .down ∧ k ≠ .link ∧ k ≠ .disable) then s1
    else if (q.mem (!b)).health = .ready then
      let most := if k = .link ∨ k = .disable then 1000 * s.img.downMs p + 3000 else 3000
      let (us, s2) := s1.drawGap ((s.clk.opt - first) / 1000) most
      s2.faultSwitch p (!b) first us
    else if k = .link ∨ k = .disable then
      let s2 := (s1.updPair p fun q => { q with
        active := 2, prevAct := q.active, takeAt := s.clk.opt, gapSince := some first, degraded := false }).notice 0x0003 0x0F p (fOfInt 2)
      if (q.mem (!b)).health = .checking then s2.leaveNone p (!b) else s2
    else s1.updPair p fun q => { q with degraded := true }

/-- Member `b` enters CHECKING, every condition having stopped (19 R478); a pair in NONE is taken over (R480), and where both members stop
being DOWN in one instant, START wins. -/
def State.pathClear (s : State) (p : Nat) (b : Bool) : State :=
  let s1 := s.updPair p fun q => q.updMem b fun m =>
    { m with health := .checking, cLink := false, cErr := false, cSil := false, since := s.clk.opt, answered := false,
             mirror := q.active == (if b then 1 else 0) }
  let q := s1.pair p
  let other := q.mem (!b)
  let start := s.img.pairField p (fun r => u8 r 1 == 1) false
  if q.active = 2 then s1.leaveNone p b
  else if q.active = (if b then 0 else 1) ∧ q.takeAt = s.clk.opt ∧ other.health = .checking ∧ other.since = s.clk.opt ∧ start = b then
    s1.leaveNone p b
  else s1

/-- A planned swap (19 R480), its gap within 2 ms. -/
def State.plannedSwap (s : State) (p : Nat) : State :=
  let toB := (s.pair p).active == 0
  let (us, s1) := s.drawGap 0 2000
  (s1.takeover p toB).updPair p fun q => { q.gapEnd s.clk.opt us with swapCnt := satInc q.swapCnt, swapAt := some s.clk.opt }

/-- Whether the standby of pair `p` is READY. -/
def State.standbyReady (s : State) (p : Nat) : Bool :=
  let q := s.pair p
  match q.active with
  | 0 => q.b.health == .ready
  | 1 => q.a.health == .ready
  | _ => false

end Sys2Proof.Machine
end

