-- ==== Sys2Proof/Machine/CanTp.lean ====
section
/-! DEFINITION. The services on CAN (18 R466 to R469): building FORMAT frames, transport connections and address claim. -/

namespace Sys2Proof.Machine

/-! Identifiers (SAE J1939-21; log). -/

/-- An identifier of priority, PGN, destination and source. -/
def jId (prio pgn da sa : Nat) : Nat :=
  prio % 8 * 2 ^ 26 + (if pgn / 256 % 256 < 240 then (pgn / 256 * 256 + da) else pgn) % 2 ^ 18 * 256 + sa % 256

/-- PGN, destination and source of an identifier. -/
def jPgn (id : Nat) : Nat :=
  let p := id / 256 % 2 ^ 18
  if p / 256 % 256 < 240 then p / 256 * 256 else p
def jDa (id : Nat) : Nat :=
  let p := id / 256 % 2 ^ 18
  if p / 256 % 256 < 240 then p % 256 else 255
def jSa (id : Nat) : Nat := id % 256

def pgnTpCm : Nat := 0xEC00
def pgnTpDt : Nat := 0xEB00
def pgnEtpCm : Nat := 0xC800
def pgnEtpDt : Nat := 0xC700
def pgnClaim : Nat := 0xEE00
def pgnRequest : Nat := 0xEA00

/-- Whether controller `n` is in listen-only operation (18 R449, R450). -/
def State.canListen (s : State) (n : Nat) : Bool := s.canMode n 1 || (s.cc n).detect.isSome

/-- The address in force on lead controller `l` (18 R469). -/
def State.canAddr (s : State) (l : Nat) : Option Nat := if (s.cc l).claim = .claimed then some (s.cc l).addr else none

/-- A classical service frame of 8 bytes at most, sent for lead controller `l`. -/
def State.canService (s : State) (l id : Nat) (data : List Byte) (sa : Option Nat) : State :=
  let n := s.canSender l
  if (s.cc n).enF = false ∨ s.canListen n then s
  else s.canEnqueue n { id := id, ide := true, fdf := false, brs := false, esi := false, rtr := false, data := data } .service false sa

/-! FORMAT frames (04 R123, R127; 18 R458, R460, R469). -/

/-- Whether table `t` is listed in SA_SUBST. -/
def Image.saSubst (im : Image) (t : Nat) : Bool :=
  match im.sect 0x0E01 0x0006 with
  | none => false
  | some b => (List.range (u16 b 0)).any fun i => u16 b (4 + 2 * i) == t

/-- The loop slot bound to field `i` of FORMAT `t` (08 R233). -/
def State.fieldSlot (s : State) (t i : Nat) : Option Nat :=
  (s.boundSlots 4 i).find? fun n => u16 ((s.img.slotRec n).getD []) 36 == t

/-- The value of a field without a SIGREF: the output of the slot bound to it, invalid once the slot has released it (08 R222), or
what CAN_SET last gave it. -/
def State.fieldValue (s : State) (t i : Nat) : Sig :=
  match s.fieldSlot t i with
  | some n => let c := rd s.lop.slot n
              sIf (c.applied && !c.released) c.u
  | none => match lookupN s.can.setv (512 * t + i) with
    | some x => (x, true)
    | none => sigNone

/-- The bytes that FORMAT `b` with table ID `t` packs now, and the state with the raw values it keeps for HOLD. -/
def State.packTable (s : State) (t : Nat) (b : List Byte) : List Byte × State :=
  let r := (List.range (u16 b 2)).foldl (fun (a : List Nat × List (Nat × Nat)) i =>
    let o := 24 + 24 * i
    let src := u32 b o
    let v : Sig := if src = noRef then s.fieldValue t i else s.sig src
    let raw := packRaw b o v (lookupN a.2 (512 * t + i))
    (a.1 ++ [raw], if v.2 && !fIsNaN v.1 then bindN a.2 (512 * t + i) raw else a.2)) ([], s.fmt)
  (packFormat b r.1, { s with fmt := r.2 })

/-- Whether a waiting frame of controller `c`, not in transmission, satisfies `p`. -/
def CanCh.waits (c : CanCh) (p : TxFrame → Bool) : Bool :=
  c.txq.any p || (List.range 3).any fun i => c.sending != some i && (match rd c.txb i with
    | some f => p f
    | none => false)

/-- Waiting frames changed by `g` where they satisfy `p`, in place. -/
def CanCh.mapWaiting (c : CanCh) (p : TxFrame → Bool) (g : TxFrame → TxFrame) : CanCh :=
  let h (f : TxFrame) : TxFrame := if p f then g f else f
  { c with txq := c.txq.map h, txb := mapIdxV c.txb fun i b => if c.sending = some i then b else b.map h }

/-- A FORMAT frame built now for table `t` (18 R456, R458); `cyclic` for a build at its period, false for a CAN_SEND. -/
def State.canBuild (s : State) (t : Nat) (cyclic : Bool) : State :=
  match s.img.tableOf kFormat t with
  | none => s
  | some b =>
    let l := u8 b 12
    let n := s.canSender l
    let subst := s.img.saSubst t
    if u8 b 0 ≠ 3 ∨ (s.cc n).enF = false ∨ s.canListen n ∨ (subst ∧ (s.canAddr l).isNone) then s
    else
      let (data, s1) := s.packTable t b
      let w := lo32 (u32 b 8)
      let id0 := field w 0 29
      let id := if subst then id0 / 256 * 256 + (s.canAddr l).getD 0 else id0
      let f : CanFrame := { id := id, ide := bit w 29, fdf := bit w 30, brs := bit w 31, esi := false, rtr := false, data := data }
      let same (x : TxFrame) : Bool := x.src == .format t
      let fresh := (s.cc n).bus == .busOff && s.img.flushTx l
      if cyclic ∧ fresh = false ∧ (s1.cc n).waits same then
        s1.updCc n fun c =>
          let d := if s.img.cyclicReplace l then c.mapWaiting same fun x => { x with frame := { x.frame with data := data } } else c
          { d with staleCnt := satInc d.staleCnt, err := true }
      else s1.canEnqueue n f (if cyclic then .format t else .action t) (s.canMode n 2) (if subst then s.canAddr l else none)

/-! Transport (18 R466, R467; SAE J1939-21, ISO 11783-3). -/

/-- Three bytes of a PGN. -/
def pgn3 (p : Nat) : List Byte := leBytes 3 p

/-- A connection-management frame of lead `l` to `da`. -/
def State.tpCm (s : State) (l : Nat) (etp : Bool) (prio da : Nat) (data : List Byte) : State :=
  let sa := (s.canAddr l).getD 254
  s.canService l (jId prio (if etp then pgnEtpCm else pgnTpCm) da sa) data (some sa)

/-- The CTS that asks for what connection `c` still lacks, and the connection after it. -/
def State.tpCts (s : State) (l : Nat) (c : TpConn) : State × TpConn :=
  let rest := (c.total + 6) / 7 + 1 - c.next
  let n := min rest c.maxWin
  let data := if c.kind = 2 then [21, BitVec.ofNat 8 n] ++ leBytes 3 c.next ++ pgn3 c.pgn
    else [17, BitVec.ofNat 8 n, BitVec.ofNat 8 c.next, 0xFF, 0xFF] ++ pgn3 c.pgn
  (s.tpCm l (c.kind == 2) 7 c.sa data, { c with left := n, cts := true, last := s.clk.opt })

/-- An aborted connection is counted. -/
def State.tpAborted (s : State) (l : Nat) : State :=
  s.updCc l fun c => { c with tpAbortCnt := satInc c.tpAbortCnt, err := true }

/-- The receive connection with the source `sa` and of the kinds in `ks`. -/
def CanCh.rxFind (c : CanCh) (sa : Nat) (ks : List Nat) : Option TpConn := c.rxConn.find? fun x => x.sa == sa && ks.contains x.kind

/-- The receive connections without those of a source and kinds. -/
def CanCh.rxDrop (c : CanCh) (sa : Nat) (ks : List Nat) : CanCh :=
  { c with rxConn := c.rxConn.filter fun x => !(x.sa == sa && ks.contains x.kind) }

/-- A completed message in the message ring of 256 KiB (18 R467). -/
def trimMsgs : Nat → List CanMsg → List CanMsg
  | _, [] => []
  | room, m :: t =>
    let k := 32 + (m.data.length + 7) / 8 * 8
    if k ≤ room then m :: trimMsgs (room - k) t else []

def State.tpComplete (s : State) (l : Nat) (c : TpConn) (o : Opt) : State :=
  s.updCc l fun x =>
    let m : CanMsg := { seq := x.msgSeq + 1, pgn := c.pgn, sa := c.sa, da := c.da, kind := c.kind, opt := o, first := c.first,
                        data := c.data.take c.total }
    { (x.rxDrop c.sa [c.kind]) with msgSeq := x.msgSeq + 1, msgs := trimMsgs 262144 (m :: x.msgs) }

/-- A receive connection opens: at most 4 at a time. One too many is not opened: a BAM is left alone, an RTS answered with an abort, which
counts (18 R466; log). -/
def State.tpOpen (s : State) (l : Nat) (c : TpConn) : State :=
  let ks := if c.kind = 0 then [0] else [1, 2]
  let s0 := s.updCc l fun x => x.rxDrop c.sa ks
  if 4 ≤ (s0.cc l).rxConn.length then
    (if c.kind = 0 then s0
     else (s0.tpCm l (c.kind == 2) 7 c.sa ([0xFF, 2, 0xFF, 0xFF, 0xFF] ++ pgn3 c.pgn)).tpAborted l)
  else if c.kind = 0 then s0.updCc l fun x => { x with rxConn := x.rxConn ++ [c] }
  else
    let (t, d) := s0.tpCts l c
    t.updCc l fun x => { x with rxConn := x.rxConn ++ [d] }

/-- A data packet for receive connection `c`. -/
def State.tpData (s : State) (l : Nat) (c : TpConn) (seq : Nat) (data : List Byte) (o : Opt) : State :=
  let ks := if c.kind = 0 then [0] else [1, 2]
  let put (t : State) (d : TpConn) : State := t.updCc l fun x => { x with rxConn := x.rxConn.map fun y => if y.sa = c.sa ∧ y.kind = c.kind then d else y }
  if (if c.kind = 2 then c.base + seq else seq) ≠ c.next then
    (if c.kind = 0 then (s.updCc l fun x => x.rxDrop c.sa ks).tpAborted l
     else
       let (t, d) := s.tpCts l c
       put t d)
  else
    let d : TpConn := { c with next := c.next + 1, left := c.left - 1, cts := false, data := c.data ++ data, last := o }
    if c.total ≤ d.data.length then
      let t := if c.kind = 1 then s.tpCm l false 7 c.sa ([19] ++ leBytes 2 c.total ++ leBytes 1 ((c.total + 6) / 7) ++ [0xFF] ++ pgn3 c.pgn)
        else if c.kind = 2 then s.tpCm l true 7 c.sa ([23] ++ leBytes 4 c.total ++ pgn3 c.pgn) else s
      t.tpComplete l d o
    else if c.kind ≠ 0 ∧ d.left = 0 then
      let (t, e) := s.tpCts l d
      put t e
    else put s d

/-! The send connection (18 R466, R469, R473). -/

/-- PRIO of the host message. -/
def State.txmPrio (s : State) : Nat := field s.can.txmCtrl 27 3

/-- The outcome of the host message. -/
def State.txmEnd (s : State) (l st fail : Nat) : State :=
  let t := (s.updCc l fun c => { c with txConn := none }).updCan fun v => { v with txmState := st, txmFail := fail }
  if st = 3 then t.tpAborted l else t

/-- Packet `k` of the host message is sent. -/
def State.tpPacket (s : State) (l : Nat) (c : TpConn) (k : Nat) : State :=
  let d := span c.data (7 * (k - 1)) 7
  s.canService l (jId s.txmPrio pgnTpDt c.da c.sa) ([BitVec.ofNat 8 k] ++ d ++ List.replicate (7 - d.length) 0xFF) (some c.sa)

/-- Packet `k` is due, with `n` packets asked for from it on: it is sent, and the others follow one another's success. -/
def State.tpNext (s : State) (l : Nat) (c : TpConn) (k n : Nat) : State :=
  let d : TpConn := { c with next := k, left := if k = 0 ∨ c.total ≤ 7 * (k - 1) then 0 else n }
  let t := s.updCc l fun x => { x with txConn := some d }
  if d.left = 0 then t else t.tpPacket l d k

/-- CAN_TXM_CMD SEND (18 R469, R473): BAM to 0xFF, otherwise RTS; without a claimed address it fails with 0x03. -/
def State.canTxmSend (s : State) : State :=
  let l := s.canLead (field s.can.txmCtrl 0 3)
  let da := field s.can.txmCtrl 8 8
  let len := field s.can.txmCtrl 16 11
  let data := ((List.range ((len + 3) / 4)).map fun i => leBytes 4 ((lookupN s.can.txmData i).getD 0).toNat).flatten.take len
  match s.canAddr l with
  | none => s.updCan fun v => { v with txmState := 3, txmFail := 3 }
  | some sa =>
    let pgn := field s.can.txmPgn 0 18
    let c : TpConn := { pgn := pgn, sa := sa, da := da, kind := if da = 255 then 0 else 1, total := len, next := 1, base := 0, left := 0,
                        maxWin := 255, cts := true, first := 0, data := data, last := s.clk.opt }
    let s1 := (s.updCc l fun x => { x with txConn := some c }).updCan fun v => { v with txmState := 1, txmFail := 0 }
    s1.tpCm l false s.txmPrio da
      ([if da = 255 then 32 else 16] ++ leBytes 2 len ++ leBytes 1 ((len + 6) / 7) ++ [0xFF] ++ pgn3 pgn)

/-! Address claim (18 R468). -/

/-- NAME of a controller's record. -/
def Image.claimName (im : Image) (l : Nat) : Nat := match im.claimRec l with
  | some b => u64 b 4
  | none => 0

/-- Sending Address Claimed with source `sa`: 254 says Cannot Claim. -/
def State.sendClaim (s : State) (l sa : Nat) : State :=
  s.canService l (jId 6 pgnClaim 255 sa) (leBytes 8 (s.img.claimName l)) (some sa)

/-- The claim state LOST: every use of the address stops (18 R468, R469). -/
def State.claimLost (s : State) (l : Nat) : State :=
  let a := (s.cc l).addr
  let s1 := s.updCc l fun c => { c with claim := .lost, addrLost := true }
  let s2 := s1.canWithdraw (s1.canSender l) (fun f => f.sa == some a) 0x0B
  if (s2.cc l).txConn.isSome then s2.txmEnd l 3 3 else s2

/-- ADDR of CLAIM_MAP for a state of lead `l`'s machine. -/
def Image.claimAddr (im : Image) (l st : Nat) : Option Nat :=
  match im.sect 0x0E01 0x0005 with
  | none => none
  | some b => ((List.range (u16 b 0)).find? fun i => u8 b (4 + 4 * i) == l && u8 b (5 + 4 * i) == st).map fun i => u8 b (6 + 4 * i)

/-- The procedure for a state of the claim machine, new to lead `l`. -/
def State.claimFor (s : State) (l st : Nat) : State :=
  let s1 := s.updCc l fun c => { c with claimState := some st }
  match s.img.claimAddr l st with
  | none => s1.updCc l fun c => { c with claim := .none, addr := 0xFE }
  | some a =>
    if a = 254 then ((s1.claimLost l).updCc l fun c => { c with addr := 254 }).sendClaim l 254
    else (s1.updCc l fun c => { c with claim := .claiming, addr := a, claimSince := s.clk.opt }).sendClaim l a

/-- The claim service looks at the states of its machines (18 R468). -/
def State.claimPoll (s : State) : State :=
  (List.range 8).foldl (fun t l =>
    match t.img.claimRec l with
    | none => t
    | some b =>
      match t.img.machines.findIdx? (fun x => x.id == u16 b 0) with
      | none => t
      | some m =>
        let x := rd t.sm m
        if x.run = false ∨ (t.cc (t.canSender l)).enF = false ∨ (t.cc l).claimState = some x.state.toNat then t
        else t.claimFor l x.state.toNat) s

/-- A claim for an address by another node (18 R468). -/
def State.claimSeen (s : State) (l sa : Nat) (name : Nat) : State :=
  let c := s.cc l
  if (c.claim ≠ .claiming ∧ c.claim ≠ .claimed) ∨ c.addr ≠ sa then s
  else if name < s.img.claimName l then s.claimLost l
  else if s.img.claimName l < name then s.sendClaim l c.addr else s

/-- A request for PGN 60928 (18 R468). -/
def State.claimAsked (s : State) (l : Nat) : State :=
  match (s.cc l).claim with
  | .none => s
  | .lost => s.sendClaim l 254
  | _ => s.sendClaim l (s.cc l).addr

/-! What the transport and claim services make of a ring entry (18 R454, R466 to R468). -/

/-- A received connection-management frame. -/
def State.tpManage (s : State) (l sa da : Nat) (own : Bool) (e : CanEntry) (etp : Bool) : State :=
  let b := e.data
  let pgn := u16 b 5 + 65536 * u8 b 7
  let mk (kind total win : Nat) : TpConn :=
    { pgn := pgn, sa := sa, da := da, kind := kind, total := total, next := 1, base := 0, left := 0, maxWin := win, cts := false,
      first := e.seq, data := [], last := s.clk.opt }
  let c := s.cc l
  match etp, u8 b 0 with
  | false, 32 => if da = 255 ∧ 9 ≤ u16 b 1 ∧ u16 b 1 ≤ 1785 then s.tpOpen l (mk 0 (u16 b 1) 0) else s
  | false, 16 => if own ∧ 9 ≤ u16 b 1 ∧ u16 b 1 ≤ 1785 then s.tpOpen l (mk 1 (u16 b 1) (max 1 (u8 b 4))) else s
  | true, 20 => if own ∧ 1785 < u32 b 1 ∧ u32 b 1 ≤ 16384 then s.tpOpen l (mk 2 (u32 b 1) 255) else s
  | true, 22 =>
    if own then s.updCc l fun x => { x with rxConn := x.rxConn.map fun y =>
      if y.sa = sa ∧ y.kind = 2 then { y with base := u16 b 2 + 65536 * u8 b 4, left := u8 b 1, cts := false, last := s.clk.opt } else y }
    else s
  | false, 17 =>
    match c.txConn with
    | some t =>
      if own ∧ t.da = sa then
        let s1 := s.updCc l fun x => { x with txConn := some { t with last := s.clk.opt } }
        if u8 b 1 = 0 then s1 else s1.tpNext l { t with last := s.clk.opt } (u8 b 2) (u8 b 1)
      else s
    | none => s
  | false, 19 =>
    match c.txConn with
    | some t => if own ∧ t.da = sa then s.txmEnd l 2 0 else s
    | none => s
  | _, 255 =>
    if own = false then s
    else
      let ks := if etp then [2] else [1]
      let s1 := if (c.rxFind sa ks).isSome then (s.updCc l fun x => x.rxDrop sa ks).tpAborted l else s
      match etp, c.txConn with
      | false, some t => if t.da = sa ∧ t.kind = 1 then s1.txmEnd l 3 2 else s1
      | _, _ => s1
  | _, _ => s

/-- An entry of the ring, sent or received, given to the transport and address-claim services. -/
def State.serviceEntry (s : State) (l : Nat) (e : CanEntry) : State :=
  let asked := jPgn e.id = pgnRequest ∧ u16 e.data 0 + 65536 * u8 e.data 2 = pgnClaim
  if e.flags / 16 % 2 = 0 ∨ e.flags / 8 % 2 = 1 then s
  else if asked then
    (if jDa e.id = 255 ∨ (jDa e.id = (s.cc l).addr ∧ ((s.cc l).claim = .claiming ∨ (s.cc l).claim = .claimed)) then s.claimAsked l else s)
  else
    let pgn := jPgn e.id
    let sa := jSa e.id
    let da := jDa e.id
    let c := s.cc l
    let own := s.canAddr l == some da
    if e.kind = 1 then
      match c.txConn with
      | none => s
      | some t =>
        if sa ≠ t.sa ∨ da ≠ t.da then s
        else if t.kind = 0 ∧ pgn = pgnTpCm then s.tpNext l { t with last := s.clk.opt } 1 (t.total + 1)
        else if pgn = pgnTpDt ∧ u8 e.data 0 = t.next ∧ 0 < t.left then
          let u : TpConn := { t with last := s.clk.opt }
          if t.kind = 0 ∧ t.total ≤ 7 * t.next then s.txmEnd l 2 0
          else s.tpNext l u (t.next + 1) (t.left - 1)
        else s
    else if pgn = pgnTpCm then s.tpManage l sa da own e false
    else if pgn = pgnEtpCm then s.tpManage l sa da own e true
    else if pgn = pgnTpDt then
      match c.rxFind sa (if da = 255 then [0] else [1]) with
      | some t => if da = 255 ∨ own then s.tpData l t (u8 e.data 0) (span e.data 1 7) e.opt else s
      | none => s
    else if pgn = pgnEtpDt then
      match c.rxFind sa [2] with
      | some t => if own then s.tpData l t (u8 e.data 0) (span e.data 1 7) e.opt else s
      | none => s
    else if pgn = pgnClaim then s.claimSeen l sa (u64 e.data 0)
    else s

end Sys2Proof.Machine
end

