-- ==== Sys2Proof/Machine/Can.lean ====
section
/-! DEFINITION. CAN controllers (18): frames, errors, bus-off, bit-rate detection, dispatch, time references, host frames, and the
registers' effects. -/

namespace Sys2Proof.Machine

/-- The register address of word `j` of controller `n`'s group. -/
def canWord (n j : Nat) : Nat := 0xE1000 + 16 * n + 4 * j

/-- Whether controller `n`'s member condition matters: its pair and whether it is the B member. -/
def State.canMember (s : State) (n : Nat) : Option (Nat × Bool) := (s.canPair n).map fun p => (p, n % 2 == 1)

/-! Bus state (18 R462). -/

/-- The bus state that TEC and REC give. -/
def busOf (tec recv : Nat) : CanBus := if 256 ≤ tec then .busOff else if 128 ≤ tec ∨ 128 ≤ recv then .errorPassive else .errorActive

/-- The start of a recovery sequence. -/
def State.beginRecovery (s : State) (n : Nat) : State := (s.updCc n fun c => { c with recovering := true }).busEntry n 3

/-- The entry into bus-off (18 R462, R463; 19 R478). -/
def State.enterBusOff (s : State) (n : Nat) : State :=
  let o := s.clk.opt
  let l := s.canLead n
  let offs := o :: (s.cc n).offs.filter fun t => decide (o < t + 60000000000)
  let s1 := (s.updCc n fun c => { c with
    bus := .busOff, sending := none, recovering := false, busoffCnt := satInc c.busoffCnt, err := true, lastErr := 3, offs := offs,
    offSince := o }).busEntry n 2
  let s2 := if (s1.cc l).txConn.isSome ∧ s1.canSender l = n then s1.txmEnd l 3 4 else s1
  let s3 := if s2.img.flushTx l then s2.canFlush n 0x07 else s2
  let s4 := if s3.img.busoffLimit n ≤ offs.length then
      (s3.updCc n fun c => { c with fault := true, lastErr := 4 }).unitFault 0x0E n 4
    else if s3.img.recovery n = 0 then s3.beginRecovery n else s3
  match s4.canMember n with
  | some (p, b) => s4.pathCond p b .link o
  | none => s4

/-- The bus state after the counters have moved, with an entry where it changes. -/
def State.busUpdate (s : State) (n : Nat) : State :=
  let c := s.cc n
  let b := busOf c.tec c.recv
  if b = c.bus then s
  else match b with
    | .busOff => s.enterBusOff n
    | .errorPassive => (s.updCc n fun c => { c with bus := .errorPassive }).busEntry n 1
    | _ => (s.updCc n fun c => { c with bus := .errorActive }).busEntry n 0

/-! Detection (18 R450). -/

/-- Candidates of the DETECT section. -/
def Image.candidates (im : Image) : Nat := match im.sect 0x0E01 0x0002 with
  | some b => u16 b 0
  | none => 0

/-- NBT, DBT and TDC of a candidate. -/
def Image.candidate (im : Image) (i : Nat) : Word × Word × Word := match im.sect 0x0E01 0x0002 with
  | some b => (lo32 (u32 b (4 + 12 * i)), lo32 (u32 b (8 + 12 * i)), lo32 (u32 b (12 + 12 * i)))
  | none => (0, 0, 0)

/-- Detection begins on controller `n`, where its MODE has DETECT set and there is a candidate. -/
def State.beginDetect (s : State) (n : Nat) : State :=
  if s.canMode n 5 = false ∨ s.img.candidates = 0 then s
  else s.updCc n fun c => { c with detect := some ⟨0, s.clk.opt, 0, false⟩, bus := .integrating, sending := none }

/-- A candidate's timing locks (18 R450). -/
def State.lockDetect (s : State) (n cand : Nat) : State :=
  let (nbt, dbt, tdc) := s.img.candidate cand
  let m (old : Word) : Word := (old &&& 0xFFFFFFEE) ||| flag (dbt != 0) 0 ||| flag (tdc != 0) 4
  let set (l : List (Nat × Word)) (mode : Word) : List (Nat × Word) :=
    bindN (bindN (bindN (bindN l (canWord n 0) nbt) (canWord n 1) dbt) (canWord n 2) tdc) (canWord n 3) (m mode)
  let live := s.live (canWord n 3)
  let sh := s.shadow (canWord n 3)
  (({ s with grp := { s.grp with live := set s.grp.live live, shadow := set s.grp.shadow sh } }.updCc n fun c =>
    { c with detect := none, wasLocked := true }).canEntry n 6 0 0 0 0 [] s.clk.opt).canStart n

/-! Frames (18 R451, R457, R464). -/

/-- The position of the first bit in which two bit strings differ. -/
def firstDiff : List Bool → List Bool → Nat → Option Nat
  | a :: s, b :: t, i => if a = b then firstDiff s t (i + 1) else some i
  | _, _, _ => none

/-- Bits in bytes, the first in bit 0 of the first byte. -/
def bitBytes (n : Nat) (b : List Bool) : List Byte := leBytes n (b.foldr (fun x a => 2 * a + (if x then 1 else 0)) 0)

/-- The frame in transmission from buffer `k` did not get through: a one-shot frame leaves with `reason`, one that an abort waits for with
ABORTED, and any other stays in its buffer (18 R460, R461, R463). -/
def State.txMissed (s : State) (n k reason : Nat) : State :=
  let c := s.cc n
  let t := s.updCc n fun d => { d with sending := none }
  let gone := s.updCc n fun d => { d with txb := put d.txb k none, sending := none, abortNow := false }
  match rd c.txb k with
  | none => t
  | some x => if x.oneShot ∧ reason ≠ 0 then gone.txFail n x reason else if c.abortNow then gone.txFail n x 0x08 else t

/-- Whether a measured loop delay, in f_CAN periods, fails a frame's compensation (18 R448). -/
def State.tdcFails (s : State) (n loop : Nat) (f : CanFrame) : Bool := s.canMode n 4 && f.fdf && f.brs && decide (127 < loop)

/-- The check of a valid frame against one interrupted before it (18 R464). -/
def State.dupCheck (s : State) (n : Nat) (f : CanFrame) (sof : Opt) (bits : List Bool) : State :=
  let t := s.updCc n fun c => { c with broken := none }
  match (s.cc n).broken with
  | none => s
  | some b =>
    if b.id = f.id ∧ b.ide = f.ide ∧ b.fdf = f.fdf ∧ sof ≤ b.opt + 1000000 then
      match firstDiff b.bits bits 0 with
      | some k =>
        (t.canEntry n 5 (frameFlags f false false) 0 b.id k (bitBytes (min 64 ((b.bits.length + 7) / 8)) b.bits) s.clk.opt).updCc n
          fun c => { c with dupCnt := satInc c.dupCnt, dupSeen := true, err := true }
      | none => t
    else t

/-- REC after a valid reception: one lower, or into 119 to 127 from above (ISO 11898-1), where the value is not stated. -/
def State.recDown (s : State) (n : Nat) : State :=
  let c := s.cc n
  if 127 < c.recv then
    let (w, t) := s.draw
    t.updCc n fun c => { c with recv := 119 + w.toNat % 9 }
  else s.updCc n fun c => { c with recv := c.recv - 1 }

/-- A controller goes off (18 R473, 19 R478); the claim of a pair belongs to the pair (19 R487). -/
def State.canOff (s : State) (n : Nat) : State :=
  let s1 := s.updCc n fun c => { c with enF := false, offWait := false }
  let s2 := match s1.canMember n with
    | some (p, b) => s1.pathCond p b .disable s1.clk.opt
    | none => s1
  let s3 := (s2.canFlush n 0x0A).updCc n fun c => { c with fault := false, bus := .errorActive, recovering := false, detect := none }
  if (s3.canPair n).isSome then s3 else s3.updCc n fun c => { c with claim := .none, addr := 0xFE, claimState := none }

/-- A disable that waited for bus idle takes effect once no frame of the controller is on the bus (01 R17). -/
def State.canOffDue (s : State) (n : Nat) : State :=
  if (s.cc n).offWait ∧ (s.cc n).sending.isNone then s.canOff n else s

/-- What controller `n` sends next once a frame or an error has ended: a member that no longer sends for its pair hands its frames over
(19 R488). -/
def State.canNext (s : State) (n : Nat) : State :=
  let m := s.canSender n
  (if m ≠ n then s.canMove n m else s.canStart n).canOffDue n

/-- CAN_FRAME (18 R451, R452): a frame completes validly, its SOF at `sof`. -/
def execCanFrame (o : Opt) (ch : Fin 8) (sof : Opt) (f : CanFrame) (own competed : Bool) (loop : Nat) (bits : List Bool)
    (s : State) : Out :=
  let s := s.begin o
  let n := ch.val
  let c := s.cc n
  if s.runs rNET = false ∨ c.enF = false ∨ c.fault ∨ c.bus = .busOff ∨ c.bus = .integrating then .next s
  else if own then
    match c.sending with
    | none => .next s
    | some k =>
      match rd c.txb k with
      | none => .next s
      | some x =>
        let g : CanFrame := { x.frame with esi := f.esi }
        let s1 := s.updCc n fun d => { d with
          txb := put d.txb k none, sending := none, abortNow := false, tec := d.tec - 1, tdcFail := d.tdcFail || s.tdcFails n loop g,
          refSof := if x.src = .reference then some (s.dvtAt sof) else d.refSof, refSent := d.refSent || x.src == .reference }
        let s2 := (s1.dupCheck n g sof bits).canEntry n 1 (frameFlags g false x.oneShot) 0 g.id (txTag x.src) g.data sof
        .next ((s2.busUpdate n).canNext n)
  else
    let det := c.detect.isSome
    let s1 := if s.canListen n then s else s.recDown n
    let s2 := (s1.dupCheck n f sof bits).canEntry n 0 (frameFlags f det false) 0 f.id 0 f.data sof
    let s3 := if s2.canListen n then s2 else s2.busUpdate n
    let s4 := match c.sending with
      | some k => s3.txMissed n k (if competed then 0x01 else 0)
      | none => s3
    let s5 := match s4.canMember n with
      | some (p, b) => s4.updPair p fun q => q.updMem b fun m => { m with cSil := false }
      | none => s4
    .next (match c.detect with
      | some d =>
        if d.failed then s5.canOffDue n
        else if s.img.detFrames n ≤ d.valid + 1 then s5.lockDetect n d.cand
        else s5.updCc n fun x => { x with detect := some { d with valid := d.valid + 1 } }
      | none => s5.canNext n)

/-- The reason of a one-shot frame's failure (18 R461). -/
def errReason (e : CanErrIn) : Nat :=
  if e.other then 0x06
  else match e.kind with
    | 1 => 0x02
    | 2 => 0x03
    | 3 => 0x04
    | 4 => 0x05
    | _ => 0x06

/-- CAN_ERROR (18 R460 to R464): the controller detects an error, in a frame of its own where `sending` holds.  The counters move as ISO
11898-1 has it: TEC by 8 for a frame sent and REC by 1 for one received, but where the standard's exceptions spare them, and either by 8
for each further run of dominant bits that the standard counts. -/
def execCanError (o : Opt) (ch : Fin 8) (e : CanErrIn) (s : State) : Out :=
  let s := s.begin o
  let n := ch.val
  let c := s.cc n
  if s.runs rNET = false ∨ c.enF = false ∨ c.fault ∨ c.bus = .busOff ∨ c.bus = .integrating then .next s
  else
    let quiet := s.canListen n
    let lateLoop : Bool := match e.sending, c.sending with
      | true, some k => (match rd c.txb k with
        | some x => s.tdcFails n e.loop x.frame
        | none => false)
      | _, _ => false
    let s1 := s.updCc n fun d => { d with
      tec := if quiet ∨ e.sending = false then d.tec else d.tec + (if e.spared then 0 else 8) + 8 * e.dom
      recv := if quiet ∨ e.sending then d.recv else min 255 (d.recv + (if e.spared then 0 else 1) + 8 * e.dom)
      tdcFail := d.tdcFail || lateLoop
      errFrameCnt := satInc d.errFrameCnt, err := true, lastErr := 1,
      broken := match e.broken with
        | some (id, ide, fdf, b) => some { id := id, ide := ide, fdf := fdf, bits := b, opt := o }
        | none => d.broken
      detect := d.detect.map fun x => { x with failed := true } }
    let s2 := s1.canEntry n 3 0 e.kind 0 0 [] o
    let s3 := match c.sending with
      | some k => s2.txMissed n k (if e.sending then errReason e else 0)
      | none => s2
    let s4 := if quiet then s3 else s3.busUpdate n
    .next (s4.canNext n)

/-- BUSOFF_DELAY_EXPIRY (18 R462). -/
def execBusoffDelayExpiry (o : Opt) (ch : Fin 8) (s : State) : Out :=
  let s := s.begin o
  let n := ch.val
  let c := s.cc n
  if s.runs rNET = false ∨ c.bus ≠ .busOff ∨ c.fault ∨ c.recovering ∨ s.img.recovery n ≠ 1 ∨ o < c.offSince + s.img.busoffDelay n
  then .next s
  else .next (s.beginRecovery n)

/-- A commit group of controller `n` has been applied: it integrates again (18 R447). -/
def State.canGroupApplied (s : State) (n : Nat) : State :=
  s.updCc n fun c => if c.enF ∧ c.bus ≠ .busOff then { c with bus := .integrating, sending := none } else c

/-- CAN_RECOVERY_COMPLETE (18 R462, R463): the end of recovery is bus idle, so the group is applied there. -/
def execCanRecoveryComplete (o : Opt) (ch : Fin 8) (s : State) : Out :=
  let s := s.begin o
  let n := ch.val
  let c := s.cc n
  if s.runs rNET = false ∨ c.bus ≠ .busOff ∨ c.recovering = false then .next s
  else .next (((s.updCc n fun d => { d with tec := 0, recv := 0, recovering := false, bus := .integrating }).busEntry n 0).applyGroup
    (0x0E00 + n))

/-- CAN_INTEGRATION_COMPLETE (18 R447): 11 recessive bits are a boundary of the group; where a snapshot is applied there, the controller
integrates again. -/
def execCanIntegrationComplete (o : Opt) (ch : Fin 8) (s : State) : Out :=
  let s := s.begin o
  let n := ch.val
  let c := s.cc n
  if s.runs rNET = false ∨ c.enF = false ∨ c.fault ∨ c.bus ≠ .integrating then .next s
  else if (s.snapReady (0x0E00 + n)).isSome then .next ((s.applyGroup (0x0E00 + n)).canGroupApplied n)
  else .next ((s.updCc n fun d => { d with bus := busOf d.tec d.recv }).canStart n)

/-- DETECT_CANDIDATE_TIMEOUT (18 R450): the next candidate, without a limit on rounds. -/
def execDetectCandidateTimeout (o : Opt) (ch : Fin 8) (byError : Bool) (s : State) : Out :=
  let s := s.begin o
  let n := ch.val
  match (s.cc n).detect with
  | none => .next s
  | some d =>
    let due := if byError then d.failed else decide (d.since + s.img.detListen n ≤ o)
    if s.runs rNET = false ∨ (s.cc n).enF = false ∨ (s.cc n).fault ∨ due = false then .next s
    else .next (s.updCc n fun c => { c with
      detect := some ⟨(d.cand + 1) % max 1 s.img.candidates, o, 0, false⟩, bus := .integrating, sending := none })

/-! Dispatch (18 R454, R455). -/

/-- MASK of a CAN_RX FORMAT: its RX_MASK entry, or all 29 bits. -/
def Image.rxMask (im : Image) (t : Nat) : Nat :=
  match im.sect 0x0E01 0x0007 with
  | none => 0x1FFFFFFF
  | some b => match (List.range (u16 b 0)).find? fun i => u16 b (4 + 8 * i) == t with
    | some i => u32 b (8 + 8 * i)
    | none => 0x1FFFFFFF

/-- Whether a FORMAT matches an entry of lead `l` (18 R454). -/
def Image.rxMatches (im : Image) (l : Nat) (t : Table) (e : CanEntry) : Bool :=
  let w := lo32 (u32 t.body 8)
  u8 t.body 12 == l && ((e.id ^^^ field w 0 29) &&& im.rxMask t.id) == 0 && bit w 29 == (e.flags / 16 % 2 == 1)
    && bit w 30 == (e.flags % 2 == 1)

/-- A FORMAT's fields decoded from an entry (18 R455, 04 R124): the destinations updated, the timeout restarted, the event
raised. -/
def State.rxDecode (s : State) (t : Table) (e : CanEntry) : State :=
  let b := t.body
  let rx := (List.range (u16 b 2)).foldl (fun l i =>
    let o := 24 + 24 * i
    let v := unpackField b o e.data
    let k := u32 b o % 65536
    if v.2 then bindN l k v.1 else dropN l k) s.can.rx
  (s.updCan fun v => { v with rx := rx, rxTimers := bindN v.rxTimers t.id (some 0) }).smPushAll { opt := e.opt, code := 7, arg := t.id, raised := none }

/-- One entry handed to its consumers. -/
def State.dispatchEntry (s : State) (l : Nat) (e : CanEntry) : State :=
  if (e.kind ≠ 0 ∧ e.kind ≠ 1) ∨ e.active = false then s
  else
    let s1 := (s.img.formats 4).foldl (fun t f => if s.img.rxMatches l f e then t.rxDecode f e else t) s
    let isSrc (i : Nat) : Bool := s.img.corrKind i == 2 && s.img.corr i (fun b => u8 b 1) 0 0 == l
      && s.img.corr i (fun b => u32 b 4 % 2 ^ 29) 0 0 == e.id && s.img.corr i (fun b => (u32 b 4).testBit 29) false false == (e.flags / 16 % 2 == 1)
    let s2 := (List.range 2).foldl (fun t i => if isSrc i then t.rtcmBytes i e.data else t) s1
    s2.serviceEntry l e

/-- The entry that the dispatcher reads next of controller `n`: the oldest not yet read that is still in the ring. -/
def CanCh.nextEntry (c : CanCh) : Option CanEntry :=
  let left := (c.seq - c.dispatched).toNat
  if left = 0 then none else c.ring[min left c.ring.length - 1]?

/-- CAN_DISPATCH (18 R454): the oldest entry not yet read, late where it was written more than 1 ms before. -/
def execCanDispatch (o : Opt) (ch : Fin 8) (s : State) : Out :=
  let s := s.begin o
  let n := ch.val
  match (s.cc n).nextEntry with
  | none => .next s
  | some e =>
    let late := decide (e.wrote + 1000000 < o)
    if s.runs rSVC = false then .next s
    else
      let s1 := s.updCc n fun c => { c with
        dispatched := e.seq, dispLate := c.dispLate || late, lateCnt := if late then satInc c.lateCnt else c.lateCnt, err := c.err || late }
      .next (s1.dispatchEntry (s1.canLead n) e)

/-- CAN_RX_TIMEOUT (04 R127): the destinations of a CAN_RX FORMAT turn invalid. -/
def execCanRxTimeout (o : Opt) (table : W16) (s : State) : Out :=
  let s := s.begin o
  match s.img.tableOf kFormat table.toNat, lookupN s.can.rxTimers table.toNat with
  | some b, some (some k) =>
    if s.runs rSVC = false ∨ u8 b 0 ≠ 4 ∨ u16 b 14 = 0 ∨ k < u16 b 14 then .next s
    else
      let rx := (List.range (u16 b 2)).foldl (fun l i => dropN l (u32 b (24 + 24 * i) % 65536)) s.can.rx
      .next (s.updCan fun v => { v with rx := rx, rxTimers := bindN v.rxTimers table.toNat none })
  | _, _ => .next s

/-- A tick for the timeout of a CAN_RX FORMAT (04 R127, 19 R486): one in a gap of the pair does not count. -/
def State.rxTickOne (s : State) (p : RxTimer) : RxTimer :=
  match p.2, s.img.tableOf kFormat p.1 with
  | some k, some b =>
    let inGap : Bool := match s.canPair (u8 b 12) with
      | some q => (s.pair q).inGap s.clk.opt
      | none => false
    (p.1, some (if inGap then k else k + 1))
  | x, _ => (p.1, x)

/-- A tick for the timeouts of every CAN_RX FORMAT. -/
def State.rxTick (s : State) : State := s.updCan fun v => { v with rxTimers := v.rxTimers.map s.rxTickOne }

/-- CAN_TX_BUILD (04 R127): due at the present tick. -/
def execCanTxBuild (table : W16) (s : State) : Out :=
  let s := s.start
  match s.img.tableOf kFormat table.toNat with
  | none => .next s
  | some b =>
    let period := u16 b 14
    let phase := u16 b 16
    if s.runs rNET = false ∨ s.runs rSVC = false ∨ u8 b 0 ≠ 3 ∨ period = 0 ∨ (s.clk.tickSec + 20000 - phase) % period ≠ 0 then .next s
    else .next (s.canBuild table.toNat true)

/-- CAN_TIME_REFERENCE (18 R465): due at the present tick. -/
def execCanTimeReference (ch : Fin 8) (s : State) : Out :=
  let s := s.start
  let l := ch.val
  match s.img.timeRec l with
  | none => .next s
  | some b =>
    let n := s.canSender l
    let c := s.cc n
    let period := u16 b 2
    if s.runs rNET = false ∨ c.enF = false ∨ s.canListen n ∨ period = 0 ∨ (s.clk.tickSec + 20000 - u16 b 4) % period ≠ 0 then .next s
    else
      let id := lo32 (u32 b 8)
      let first := !c.refSent
      let known := s.tim.dvtSet && !first
      let d := c.refSof.getD 0
      let data := leBytes 1 (c.cycle % 64)
        ++ leBytes 1 (s.timCode + (if s.tim.dvtSet then 0 else 4) + (if first then 8 else 0))
        ++ (if known then leBytes 2 (d / 1000000000) ++ leBytes 4 (d % 1000000000) else List.replicate 6 0)
      let f : CanFrame := { id := field id 0 29, ide := bit id 29, fdf := false, brs := false, esi := false, rtr := false, data := data }
      let x : TxFrame := { frame := f, src := .reference, oneShot := false, order := s.can.order, opt := s.clk.opt, sa := none }
      let stale := (rd c.txb 0).isSome
      let s1 := (s.updCan fun v => { v with order := v.order + 1 }).updCc n fun d => { d with
        txb := put d.txb 0 (some x), cycle := (d.cycle + 1) % 64,
        staleCnt := if stale then satInc d.staleCnt else d.staleCnt, err := d.err || stale }
      .next (s1.canStart n)

/-! Services' timeouts (18 R466, R468). -/

/-- TP_TIMEOUT (18 R466): a receive connection, numbered in order of its opening, or the send connection; T1 750 ms, T2 and T3
1,250 ms (SAE J1939-21). -/
def execTpTimeout (o : Opt) (ch : Fin 8) (conn : Option Nat) (s : State) : Out :=
  let s := s.begin o
  let l := s.canLead ch.val
  let c := s.cc l
  if s.runs rSVC = false then .next s
  else match conn with
  | some i =>
    (match c.rxConn[i]? with
    | none => .next s
    | some t =>
      if o < t.last + (if t.cts then 1250000000 else 750000000) then .next s
      else
        let ks := if t.kind = 0 then [0] else [1, 2]
        let s1 := (s.updCc l fun x => x.rxDrop t.sa ks).tpAborted l
        .next (if t.kind = 0 then s1 else s1.tpCm l (t.kind == 2) 7 t.sa ([0xFF, 3, 0xFF, 0xFF, 0xFF] ++ pgn3 t.pgn)))
  | none =>
    (match c.txConn with
    | none => .next s
    | some t =>
      if o < t.last + 1250000000 then .next s
      else
        let s1 := s.txmEnd l 3 1
        .next (if t.kind = 0 then s1 else s1.tpCm l false s.txmPrio t.da ([0xFF, 3, 0xFF, 0xFF, 0xFF] ++ pgn3 t.pgn)))

/-- ADDRESS_CLAIM_TIMEOUT (18 R468). -/
def execAddressClaimTimeout (o : Opt) (ch : Fin 8) (s : State) : Out :=
  let s := s.begin o
  let l := s.canLead ch.val
  let c := s.cc l
  if s.runs rSVC = false ∨ c.claim ≠ .claiming ∨ o < c.claimSince + 250000000 then .next s
  else .next (s.updCc l fun x => { x with claim := .claimed, addrLost := false })

/-! Registers (18 R459, R473). -/

/-- Lengths of a classical and of an FD frame. -/
def canLenOk (fdf : Bool) (len : Nat) : Bool :=
  decide (len ≤ 8) || (fdf && [12, 16, 20, 24, 32, 48, 64].contains len)

/-- The frame of the staging registers, with its controller and TAG. -/
def State.stagedFrame (s : State) : CanFrame :=
  let v := s.can
  let len := field v.txsCtrl 4 7
  let data := (v.txsData.toList.map fun w => leBytes 4 w.toNat).flatten.take len
  { id := field v.txsId 0 29, ide := bit v.txsId 29, fdf := bit v.txsId 30, brs := bit v.txsId 31, esi := false,
    rtr := bit v.txsCtrl 12, data := if bit v.txsCtrl 12 then [] else data }

/-- Whether a staged frame is refused with RANGE (18 R459, 19 R487), `id` and `ctrl` being the words written. -/
def State.stagedBad (s : State) (id ctrl : Word) : Bool :=
  let n := field ctrl 0 3
  let fdf := bit id 30
  !canLenOk fdf (field ctrl 4 7) || (bit id 31 && !fdf) || (bit ctrl 12 && fdf)
    || !(s.cc n).enF || ((s.canPair n).isSome && n % 2 == 1)

/-- CAN_TXS_CMD SEND (18 R449, R456, R459, R469). -/
def State.canTxsSend (s : State) : State :=
  let l := field s.can.txsCtrl 0 3
  let n := s.canSender l
  let f0 := s.stagedFrame
  let sa := if f0.ide ∧ (s.img.claimRec l).isSome then s.canAddr l else none
  let f := match sa with
    | some a => { f0 with id := f0.id / 256 * 256 + a }
    | none => f0
  let src := TxSource.host (field s.can.txsCtrl 16 16)
  let one := bit s.can.txsCtrl 11
  if s.canListen n then
    s.txFail n { frame := f, src := src, oneShot := one, order := s.can.order, opt := s.clk.opt, sa := sa } 0x0C
  else s.canEnqueue n f src one sa

/-- A change of enable (01 R17; 18 R473; 19 R478): a controller that is enabled integrates, and so joins at bus idle; one that is disabled while it
sends a frame goes off when the frame has ended. -/
def State.canSetEnable (s : State) (n : Nat) (en : Bool) : State :=
  let c := s.cc n
  if en = c.enF then s.updCc n fun c => { c with offWait := false }
  else if en then
    let s1 := (s.updCc n fun c => { c with
      enF := true, fault := false, bus := .integrating, recovering := false, wasLocked := false, detect := none, tec := 0, recv := 0,
      offs := [], broken := none, claimState := none }).beginDetect n
    match s1.canMember n with
    | some (p, b) => s1.updPair p fun q => q.updMem b fun m => { m with cDis := false, cLink := false }
    | none => s1
  else (s.updCc n fun c => { c with offWait := true }).canOffDue n

/-- A write of CAN_EN. -/
def State.canEnable (s : State) (v : Nat) : State :=
  ((List.range 8).foldl (fun t n => t.canSetEnable n (v.testBit n)) s).updCan fun x => { x with en := BitVec.ofNat 8 v }

/-- CAN_CMD RECOVER (18 R462): it acts in bus-off only, and there it ends the FAULT of BUSOFF_LIMIT too. -/
def State.canRecover (s : State) (n : Nat) : State :=
  let c := s.cc n
  if c.bus = .busOff ∧ c.enF ∧ c.recovering = false then (s.updCc n fun c => { c with fault := false }).beginRecovery n else s

/-- An abort of the frames that satisfy `p` (18 R461, R463). -/
def State.canAbort (s : State) (l : Nat) (p : TxFrame → Bool) : State :=
  let n := s.canSender l
  let c := s.cc n
  let now : Bool := match c.sending with
    | some k => (match rd c.txb k with
      | some f => p f
      | none => false)
    | none => false
  (s.updCc n fun c => { c with abortNow := c.abortNow || now }).canWithdraw n p 0x08

/-- Whether a frame is a host frame with the TAG. -/
def hostTag (tag : Nat) (f : TxFrame) : Bool := f.src == .host tag

/-- A write of CAN_CMD: CH, CMD and TAG (18 R473). -/
def State.canCmd (s : State) (v : Word) : State :=
  let n := field v 0 3
  match field v 4 3 with
  | 1 => s.canRecover n
  | 2 => s.canAbort n fun _ => true
  | 3 => s.canAbort n (hostTag (field v 16 16))
  | 4 => if (s.cc n).enF then s.beginDetect n else s
  | _ => s

/-- A controller with its counters cleared. -/
def CanCh.cleared (c : CanCh) : CanCh :=
  { c with busoffCnt := 0, txFailCnt := 0, txqFullCnt := 0, tpAbortCnt := 0, errFrameCnt := 0, dupCnt := 0, staleCnt := 0, lateCnt := 0 }

/-- Every counter of the controllers of a mask is cleared. -/
def State.canCntClear (s : State) (m : Nat) : State :=
  s.updCan fun v => { v with ch := mapIdxV v.ch fun n (c : CanCh) => if m.testBit n then c.cleared else c }

/-- The bytes of a message in the message ring (18 R467). -/
def CanMsg.bytes (m : CanMsg) : List Byte :=
  leBytes 4 m.seq.toNat ++ leBytes 4 m.data.length ++ leBytes 4 m.pgn ++ leBytes 1 m.sa ++ leBytes 1 m.da ++ leBytes 1 m.kind
    ++ leBytes 1 0 ++ leBytes 8 m.opt ++ leBytes 4 m.first.toNat ++ leBytes 4 0 ++ m.data

/-- A write of CAN_WIN_POS latches an entry, or 96 bytes of a message, into the window (18 R473). -/
def State.canLatch (s : State) (pos : Word) : State :=
  let l := field s.can.winSel 0 3
  let got : Option (List Byte) :=
    if bit s.can.winSel 3 then
      ((s.cc (s.canLead l)).msgs.find? fun m => m.seq == pos).map fun m => span m.bytes s.can.winOfs.toNat 96
    else ((s.cc l).ring.find? fun e => e.seq == pos).map CanEntry.bytes
  s.updCan fun v => { v with winPos := pos, winValid := got.isSome, winBuf := got.getD [] }

/-- The CAN block as it starts with the image (18 R470): the enabled controllers integrate. -/
def State.canStartup (s : State) : State :=
  let ens := (List.range 8).foldl (fun a n => if s.img.canField n (fun b => u8 b 0 == 1) false then a + 2 ^ n else a) 0
  let s1 := s.updCan fun v => { v with
    rxTimers := (s.img.formats 4).map fun (t : Table) => (t.id, none)
    en := BitVec.ofNat 8 ens
    ch := mapIdxV v.ch fun n (c : CanCh) => { c with enF := ens.testBit n, bus := if ens.testBit n then .integrating else c.bus } }
  (List.range 8).foldl (fun t n => if (t.cc n).enF then t.beginDetect n else t) s1

end Sys2Proof.Machine
end

