-- ==== Sys2Proof/Machine/Flags.lean ====
section
/-! DEFINITION. The common status word of a unit (01 R18): its STATE, enable mirror, sticky error, saturation and last error, for every
kind of unit. -/

namespace Sys2Proof.Machine

/-- The code of STATE (01 R18). -/
def UnitState.code : UnitState → Nat
  | .off => 0
  | .starting => 1
  | .run => 2
  | .hold => 3
  | .safe => 4
  | .fault => 5
  | .reset => 6
  | .frozen => 7

/-- STATE of a unit of region `r`, cluster `c`: RESET during a cluster reset, FROZEN while its region is frozen, else its own. -/
def State.unitState (s : State) (r c : Nat) (own : UnitState) : UnitState :=
  if s.inReset r c then .reset else if s.region r = .frozen then .frozen else own

/-- STATE of a service core. -/
def State.coreState (s : State) (n : Nat) : UnitState :=
  let c := rd s.boot.core n
  s.unitState rSVC (n / 4) (if c.fault then .fault else if c.en && s.runs rSVC then .run else .off)

/-- STATE of a loop processor. -/
def State.procState (s : State) (p : Nat) : UnitState :=
  s.unitState rCTL (p / 4) (if (rd s.lop.proc p).run then .run else if (rd s.lop.proc p).lastErr = 0 then .off else .fault)

/-- STATE of a loop slot. -/
def State.slotState (s : State) (n : Nat) : UnitState :=
  let c := rd s.lop.slot n
  s.unitState rCTL (n / 64) (if c.fault then .fault else if c.enF = false then .off else .run)

/-- STATE of a loss channel. -/
def State.lossState (s : State) (n : Nat) : UnitState :=
  let c := rd s.flw.ls n
  s.unitState rSNS (1 + n / 8) (if c.fault then .fault else if c.enF = false then .off else .run)

/-- STATE of a camera port. -/
def State.camState (s : State) (n : Nat) : UnitState :=
  let c := rd s.vis.cam n
  s.unitState rVIS 0 (if c.fault then .fault else if c.enF = false ∧ c.starting = false then .off
    else if c.starting then .starting else .run)

/-- STATE of a pipeline. -/
def State.pipeState (s : State) (n : Nat) : UnitState :=
  s.unitState rVIS (1 + n) (if (rd s.vis.pipe n).run then .run else if (rd s.vis.pipe n).lastErr = 0 then .off else .fault)

/-- STATE of a tracking channel (10 R273). -/
def State.navState (s : State) (n : Nat) : UnitState :=
  let c := rd s.nav.ch n
  s.unitState rNAV (n / 16) (if c.fault then .fault else match c.st with
    | .idle => .off
    | .search => .starting
    | .pullin => .starting
    | .track => .run
    | .coast => .hold)

/-- STATE of a CAN controller (18 R462): HOLD in bus-off, STARTING while it integrates or detects. -/
def State.canState (s : State) (n : Nat) : UnitState :=
  let c := rd s.can.ch n
  s.unitState rNET (n / 4) (if c.fault then .fault else if c.enF = false then .off else if c.detect.isSome then .starting
    else match c.bus with
      | .busOff => .hold
      | .integrating => .starting
      | _ => .run)

/-- STATE of an Ethernet port. -/
def State.ethState (s : State) (n : Nat) : UnitState :=
  let c := rd s.eth.port n
  s.unitState rNET 2 (if c.fault then .fault else if c.enF = false then .off else if c.link then .run else .starting)

/-- STATE of a valve channel (03 R80; 15 R399, R408): HOLD after a refusal, SAFE in its safe state. -/
def State.vlvState (s : State) (n : Nat) : UnitState :=
  let c := rd s.vlv.ch n
  s.unitState (6 + vlvDie n) (n / 6 % 2) (if c.st = .fault then .fault else if s.vlvMode n = 0 then .off
    else if c.safe then .safe else if c.enF = false then .off else match c.st with
      | .hold => .hold
      | _ => .run)

/-- STATE of a switch channel (16 R422). -/
def State.pswState (s : State) (n : Nat) : UnitState :=
  let c := rd s.psw.ch n
  s.unitState (6 + pswDie n) 2 (if c.phase = .fault then .fault else if s.pswUsed n = false ∨ c.enF = false then .off
    else match c.phase with
      | p => if c.safe then .safe else match p with
        | .tripped => .hold
        | .latched => .hold
        | .refused => .hold
        | _ => .run)

/-- STATE of a cooling channel (17 R436, R438). -/
def State.colState (s : State) (n : Nat) : UnitState :=
  let c := rd s.col.ch n
  s.unitState (6 + fanDie n) 3 (if c.phase == .failedBlocked || c.phase == .failedTach then .fault else if s.colUsed n = false then .off else if c.safe then .safe else if c.enF = false then .off
    else match c.phase with
      | .pause => .hold
      | .refused => .hold
      | .failedBlocked => .fault
      | .failedTach => .fault
      | _ => .run)

/-- Whether one of a unit's counters stands at 0xFFFF. -/
def satAny (l : List W16) : Bool := l.any fun c => c == 0xFFFF

/-- The low half of a unit status word (01 R18). -/
def commonWord (st : UnitState) (en err : Bool) (cnt : List W16) (last : Byte) : Word :=
  place st.code 0 4 ||| flag en 4 ||| flag err 5 ||| flag (satAny cnt) 6 ||| place last.toNat 8 8

end Sys2Proof.Machine
end

