-- ==== Sys2Proof/Machine/LoopLaw.lean ====
section
/-! DEFINITION. The laws of the loop engine (08 R225 to R231, R238), each in binary32 in the order of operations written. -/

namespace Sys2Proof.Machine

/-! Slot records (08 R241). -/

def recPeriod (b : List Byte) : Nat := u16 b 0
def recPhase (b : List Byte) : Nat := u16 b 2
def recOffset (b : List Byte) : Nat := u8 b 4
def recAlign (b : List Byte) : Bool := u8 b 5 == 1
def recNOvr (b : List Byte) : Nat := u8 b 6
def recFaultAct (b : List Byte) : Nat := u8 b 7
def recFallback (b : List Byte) : F32 := f32At b 8
def recSched (b : List Byte) : Nat := u16 b 14
def recPv (b : List Byte) : Nat := u32 b 16
def recAux (b : List Byte) (i : Nat) : Nat := u32 b (20 + 4 * i)
def recKind (b : List Byte) : Nat := u8 b 32
def recTrack (b : List Byte) : Bool := (u8 b 33).testBit 0
def recIdx (b : List Byte) : Nat := u16 b 34
def recBindTable (b : List Byte) : Nat := u16 b 36
def recInvFault (b : List Byte) : Bool := u8 b 38 == 1
def recInvLimit (b : List Byte) : Nat := u8 b 39

/-- Tp: PERIOD × 50 µs, nominal, in binary32 (08 R225). -/
def recTp (b : List Byte) : F32 := fRat (recPeriod b) 20000
/-- The step h of the slot's generator in binary64 (09 R245). -/
def recH (b : List Byte) : F64 := dRat (recPeriod b) 20000

/-- The record of slot `n`, empty where it is not configured. -/
def State.slotB (s : State) (n : Nat) : List Byte := (s.img.slotRec n).getD []

/-- Whether slot `n` is configured. -/
def State.slotUsed (s : State) (n : Nat) : Bool := (s.img.slotRec n).isSome

/-- Word `j` of loop group `n` as it is live (08 R239). -/
def State.loopWord (s : State) (n j : Nat) : Word := s.live (0x41000 + 32 * n + 4 * j)

/-! LAW bodies (08 R225 to R230). -/

/-- The LAW table `id`. -/
def Image.law (im : Image) (id : Nat) : List Byte := (im.tableOf kLaw id).getD []

/-- TYPE of a law: 1 PIDF, 2 LEADLAG, 3 SS8, 4 MAP, 5 SELECT. -/
def lawType (l : List Byte) : Nat := u8 l 0
/-- SP_TRACK_PV. -/
def lawTrackPv (l : List Byte) : Bool := (u8 l 1).testBit 1
/-- The error sign s applied to a difference. -/
def lawSign (l : List Byte) (x : F32) : F32 := if (u8 l 1).testBit 0 then fneg x else x

/-- What a law is computed from at a sample: set-point, its velocity and acceleration, y, the SS8 auxiliary inputs, the curve
output of a MAP, the gain-schedule factor, the live trims, u_p, Tp, and whether the sample is a transfer. -/
structure LawIn where
  r : F32
  vRef : F32
  aRef : F32
  y : F32
  aux : List F32
  map : F32
  g : F32
  k0 : F32
  k1 : F32
  k2 : F32
  k3 : F32
  up : F32
  tp : F32
  transfer : Bool

/-- FF = K3 × (KV × v_ref + KA × a_ref) + KBIAS. -/
def lawFf (l : List Byte) (x : LawIn) : F32 :=
  fadd (fmul x.k3 (fadd (fmul (f32At l 16) x.vRef) (fmul (f32At l 20) x.aRef))) (f32At l 24)

/-- e = s (r − y). -/
def lawErr (l : List Byte) (x : LawIn) : F32 := lawSign l (fsub x.r x.y)

/-- What a law's computation gives: v, z_1, and the state after it short of the anti-windup term and of the decay of B. -/
structure LawOut where
  v : F32
  z1 : F32
  st : LawSt

/-- The bias B at a transfer, B := u_p − (v with B = 0), and v, which then equals u_p (08 R238). -/
def biased (x : LawIn) (st : LawSt) (v0 : F32) : F32 × F32 :=
  if x.transfer then (x.up, fsub x.up v0) else (fadd v0 st.bias, st.bias)

/-- PIDF (08 R226). -/
def pidf (l : List Byte) (x : LawIn) (st : LawSt) : LawOut :=
  let kp := fmul (fmul (f32At l 32) x.k0) x.g
  let ki := fmul (fmul (f32At l 36) x.k1) x.g
  let kd := fmul (fmul (f32At l 40) x.k2) x.g
  let tf := f32At l 44
  let e := lawErr l x
  let ep := lawSign l (fsub (fmul (f32At l 52) x.r) x.y)
  let ed := lawSign l (fsub (fmul (f32At l 56) x.r) x.y)
  let p := fmul kp ep
  let d := if x.transfer then fZero
    else fadd (fmul (fdiv tf (fadd tf x.tp)) st.d) (fmul (fdiv kd (fadd tf x.tp)) (fsub ed st.edPrev))
  let ff := lawFf l x
  let hasI := flt fZero (f32At l 36)
  let integ := if x.transfer && hasI then fsub (fsub (fsub x.up p) d) ff else st.integ
  let v0 := fadd (fadd (fadd p integ) d) ff
  let r := if hasI then (if x.transfer then (x.up, fZero) else (fadd v0 fZero, fZero)) else biased x st v0
  { v := r.1, z1 := fZero, st := { st with d := d, edPrev := ed, bias := r.2, integ := fadd integ (fmul (fmul ki x.tp) e) } }

/-- One LEADLAG section (08 R227): w_k from x_k, x_(k−1) and w_(k−1). -/
def leadSection (tp t1 t2 x x1 w1 : F32) : F32 :=
  let two (t : F32) : F32 := fmul (fOfInt 2) t
  fdiv (fsub (fadd (fmul (fadd (two t1) tp) x) (fmul (fsub tp (two t1)) x1)) (fmul (fsub tp (two t2)) w1)) (fadd (two t2) tp)

/-- LEADLAG (08 R227). -/
def leadlag (l : List Byte) (x : LawIn) (st : LawSt) : LawOut :=
  let e := lawErr l x
  let wa := if x.transfer then leadSection x.tp (f32At l 40) (f32At l 44) e e e
    else leadSection x.tp (f32At l 40) (f32At l 44) e st.x1 st.w1
  let wb := if x.transfer then leadSection x.tp (f32At l 48) (f32At l 52) wa wa wa
    else leadSection x.tp (f32At l 48) (f32At l 52) wa st.x2 st.w2
  let w := if u8 l 36 = 1 then wa else wb
  let r := biased x st (fadd (fmul (fmul (fmul (f32At l 32) x.k0) x.g) w) (lawFf l x))
  { v := r.1, z1 := fZero, st := { st with x1 := e, w1 := wa, x2 := wa, w2 := wb, bias := r.2 } }

/-- The sum of products of a row with a column, in ascending index (08 R570). -/
def dot (row : Nat → F32) (col : Nat → F32) : Nat → F32
  | 0 => fZero
  | 1 => fmul (row 0) (col 0)
  | n + 2 => fadd (dot row col (n + 1)) (fmul (row (n + 1)) (col (n + 1)))

/-- SS8 (08 R228): the arrays A at 36, B at 292, C at 420, D at 484, L at 516, each at full size. -/
def ss8 (l : List Byte) (x : LawIn) (st : LawSt) : LawOut :=
  let xs (i : Nat) : F32 := rd st.x i
  let ins (i : Nat) : F32 := if i = 0 then lawErr l x else x.aux.getD (i - 1) fZero
  let z (i : Nat) : F32 :=
    fadd (dot (fun j => f32At l (420 + 4 * (8 * i + j))) xs 8) (dot (fun j => f32At l (484 + 4 * (4 * i + j))) ins 4)
  let next (i : Nat) : F32 :=
    fadd (dot (fun j => f32At l (36 + 4 * (8 * i + j))) xs 8) (dot (fun j => f32At l (292 + 4 * (4 * i + j))) ins 4)
  let r := biased x st (fadd (fmul (fmul x.k0 x.g) (z 0)) (lawFf l x))
  { v := r.1, z1 := z 1, st := { st with x := Vector.ofFn fun (i : Fin 8) => next i.val, bias := r.2 } }

/-- MAP (08 R229). -/
def mapLaw (l : List Byte) (x : LawIn) (st : LawSt) : LawOut :=
  let r := biased x st (fadd (fmul x.k0 x.map) (lawFf l x))
  { v := r.1, z1 := fZero, st := { st with bias := r.2 } }

/-- A law's computation by its type. -/
def lawEval (l : List Byte) (x : LawIn) (st : LawSt) : LawOut :=
  match lawType l with
  | 1 => pidf l x st
  | 2 => leadlag l x st
  | 3 => ss8 l x st
  | _ => mapLaw l x st

/-- The state after a sample once u_a is known (08 R226, R228, R230, R238): the anti-windup term, and B × its factor. -/
def lawFinish (l : List Byte) (tp bumpF v ua : F32) (st : LawSt) : LawSt :=
  let st1 := match lawType l with
    | 1 => { st with integ := fadd st.integ (fmul (fdiv tp (f32At l 48)) (fsub ua v)) }
    | 3 => { st with x := mapIdxV st.x fun i (x : F32) => fadd x (fmul (f32At l (516 + 4 * i)) (fsub ua v)) }
    | _ => st
  { st1 with bias := fmul st1.bias bumpF }

/-- The candidates of a SELECT law (08 R230). -/
def selectCands (l : List Byte) : List Nat := (List.range (u8 l 33)).map fun i => u8 l (36 + i)

/-- The minimum or maximum of the candidates' outputs, by position, ties going to the lower position (08 R230). -/
def selectPick (max : Bool) : List (Nat × F32) → Option (Nat × F32)
  | [] => none
  | p :: t => some (t.foldl (fun a q => if (if max then flt a.2 q.2 else flt q.2 a.2) then q else a) p)

/-- The output path (08 R231): the clamp and the rate limit; u, LIMITED, RATE_LIM. -/
def outPath (lo hi rate tp prev v : F32) : F32 × Bool × Bool :=
  let c := fclamp lo hi v
  let lim := !feq c v
  let step := fmul rate tp
  if flt fZero rate then
    if flt step (fsub c prev) then (fadd prev step, lim, true)
    else if flt step (fsub prev c) then (fsub prev step, lim, true)
    else (c, lim, false)
  else (c, lim, false)

end Sys2Proof.Machine
end

