-- ==== Sys2Proof/Machine/Machines.lean ====
section
/-! DEFINITION. The automation state machines (04 R108 to R119): steps, actions, timers and events. -/

namespace Sys2Proof.Machine

/-! The STATE body (04 R108 to R112). -/

def smS (b : List Byte) : Nat := u16 b 0
def smT (b : List Byte) : Nat := u16 b 2
def smG (b : List Byte) : Nat := u16 b 4
def smA (b : List Byte) : Nat := u16 b 6
def smInit (b : List Byte) : Nat := u8 b 8
def smV (b : List Byte) : Nat := u8 b 9
def smStepTicks (b : List Byte) : Nat := u16 b 12
/-- Offsets of a state, a transition, a guard term, an action and a variable. -/
def smStateAt (i : Nat) : Nat := 16 + 8 * i
def smTransAt (b : List Byte) (i : Nat) : Nat := 16 + 8 * smS b + 16 * i
def smGuardAt (b : List Byte) (i : Nat) : Nat := smTransAt b (smT b) + 12 * i
def smActAt (b : List Byte) (i : Nat) : Nat := smGuardAt b (smG b) + 12 * i
def smVarAt (b : List Byte) (i : Nat) : Nat := smActAt b (smA b) + 4 * i

/-- The body of machine `m`'s table. -/
def Image.smBody (im : Image) (m : Nat) : List Byte := ((im.machines[m]?).map Table.body).getD []

/-! Signals as a step sees them (04 R116, R117). -/

/-- A signal in the snapshot of a step of machine `m` taken in state `s`: a machine stepped earlier at the same tick still shows
the state it had before. -/
def State.snapSig (s : State) (m ref : Nat) : Sig :=
  let e := ref % 2 ^ 16
  if ref / 2 ^ 24 = 0xFD ∧ e < s.img.machines.length then
    let x := rd s.sm e
    sInt (if x.changedAt = s.clk.tickOpt + 1 then x.prevState else x.state).toNat
  else s.sigV (rd s.sm m).vars ref

/-- A signal that a guard or an action reads: variables at their current values, the rest from the snapshot `s0`. -/
def readSig (s0 s : State) (m ref : Nat) : Sig :=
  if ref / 2 ^ 24 = 0xFE then s.sigV (rd s.sm m).vars ref else s0.snapSig m ref

/-- Whether a guard term holds (04 R111). -/
def termHolds (op : Nat) (x : Sig) (v : F32) : Bool :=
  let ok := x.2 && !fIsNaN x.1
  match op with
  | 0 => ok && feq x.1 v
  | 1 => ok && !feq x.1 v
  | 2 => ok && flt x.1 v
  | 3 => ok && fle x.1 v
  | 4 => ok && flt v x.1
  | 5 => ok && fle v x.1
  | 6 => ok
  | _ => !ok

/-- Whether the guard of the transition at offset `t` holds. -/
def guardHolds (s0 s : State) (m : Nat) (b : List Byte) (t : Nat) : Bool :=
  (List.range (u8 b (t + 10))).all fun i =>
    let g := smGuardAt b (u16 b (t + 8) + i)
    termHolds (u8 b (g + 4)) (readSig s0 s m (u32 b g)) (f32At b (g + 8))

/-! Actions (04 R112). -/

/-- The mailbox entry with one more write: the last value for each function is kept (04 R117). -/
def mergeMail (l : List MfWrite) (w : MfWrite) : List MfWrite :=
  match l with
  | [] => [w]
  | x :: t =>
    if x.mf = w.mf then { mf := w.mf, mode := w.mode.orElse fun _ => x.mode, target := w.target.orElse fun _ => x.target } :: t
    else x :: mergeMail t w

/-- The mailbox of CTL ready for a write at this tick (01 R14; 04 R117): the writes of one tick form one entry, which replaces an unread one of
an earlier tick. -/
def State.openMail (s : State) : State :=
  let p := s.prf
  let stale := p.box.unread && p.box.stamp != s.clk.tick
  { s with prf := { p with box := p.box.write s.clk.tick, mail := if stale then [] else p.mail, canMail := if stale then [] else p.canMail } }

/-- Ticks of a timer of `ms` (04 R112): 1 to 86,400,000, rounded up to whole ticks. -/
def timerTicks (ms : F32) : Nat :=
  let q := Q.ofF (fclamp fOne (fOfInt 86400000) ms)
  ((20 * q.num + q.den - 1) / q.den).toNat

/-- A function's target or mode for the mailbox entry (04 R112). -/
def State.postMf (s : State) (w : MfWrite) : State :=
  let t := s.openMail
  { t with prf := { t.prf with mail := mergeMail t.prf.mail w } }

/-- A CAN field's value for the mailbox entry (04 R112). -/
def State.postCan (s : State) (key : Nat) (v : F32) : State :=
  let t := s.openMail
  { t with prf := { t.prf with canMail := bindN t.prf.canMail key v } }

/-- What a step has gathered beside the state: tables to send at its end. -/
abbrev StepAcc := State × List Nat

/-- One action of machine `m`, its snapshot taken in `s0`. -/
def smAction (s0 : State) (m : Nat) (b : List Byte) (a : StepAcc) (i : Nat) : StepAcc :=
  let s := a.1
  let o := smActAt b i
  let idx := u8 b (o + 1)
  let arg := u16 b (o + 2)
  let src := u32 b (o + 4)
  let v : Sig := if src = noRef then (f32At b (o + 8), true) else readSig s0 s m src
  if v.2 = false ∨ (src ≠ noRef ∧ fIsNaN v.1) then (s.updSm m fun x => { x with skip := true }, a.2)
  else match u8 b o with
  | 1 => (s.updSm m fun x => { x with vars := x.vars.set idx v.1 }, a.2)
  | 2 => (s.updSm m fun x => { x with vars := x.vars.set idx (fadd (x.vars.getD idx 0) v.1) }, a.2)
  | 3 => (s.updSm m fun x => { x with timers := bindN x.timers idx (s.clk.opt + 50000 * timerTicks v.1) }, a.2)
  | 4 => (s.updSm m fun x => { x with timers := dropN x.timers idx, queue := x.queue.filter fun e => !(e.code == 1 && e.arg == idx) }, a.2)
  | 5 => (s.postMf ⟨idx, none, some v.1⟩, a.2)
  | 6 => (s.postMf ⟨idx, some arg, none⟩, a.2)
  | 7 => (s.smPush idx { opt := s.clk.opt, code := 5, arg := arg, raised := some s.clk.tickOpt }, a.2)
  | 8 => (s.notice arg 0xFD m v.1, a.2)
  | 9 => (s.postCan (512 * arg + idx) v.1, a.2)
  | 10 => (s, a.2 ++ [arg])
  | _ => a

/-- The actions `first … first + n − 1` in order. -/
def smActions (s0 : State) (m : Nat) (b : List Byte) (first n : Nat) (a : StepAcc) : StepAcc :=
  (List.range n).foldl (fun x i => smAction s0 m b x (first + i)) a

/-! The step (04 R115 to R118). -/

/-- Firing the transition at offset `t`: exit actions, its own, entry actions; a TO of 0xFF changes no state. -/
def smFire (s0 : State) (m : Nat) (b : List Byte) (t : Nat) (a : StepAcc) : StepAcc :=
  let from_ := smStateAt (rd a.1.sm m).state.toNat
  let toward := u8 b (t + 1)
  let a0 : StepAcc := (a.1.updSm m fun x => { x with transCnt := satInc x.transCnt }, a.2)
  if toward = 0xFF then smActions s0 m b (u16 b (t + 12)) (u8 b (t + 11)) a0
  else
    let a1 := smActions s0 m b (u16 b (from_ + 4)) (u8 b (from_ + 3)) a0
    let a2 := smActions s0 m b (u16 b (t + 12)) (u8 b (t + 11)) a1
    let a3 : StepAcc := (a2.1.updSm m fun x => { x with state := BitVec.ofNat 8 toward }, a2.2)
    smActions s0 m b (u16 b (smStateAt toward)) (u8 b (smStateAt toward + 2)) a3

/-- The first transition that an event fires: FROM, EVENT and ARG match and the guard holds.  A NONE event carries no argument, so the ARG of
a NONE transition is neither checked nor compared (log 101). -/
def smFind (s0 s : State) (m : Nat) (b : List Byte) (code arg : Nat) : Option Nat :=
  ((List.range (smT b)).map (smTransAt b)).find? fun t =>
    (u8 b t == (rd s.sm m).state.toNat || u8 b t == 0xFF) && u8 b (t + 2) == code && (code == 0 || u32 b (t + 4) == arg)
      && guardHolds s0 s m b t

/-- One event: it fires a transition or is discarded. -/
def smEventRun (s0 : State) (m : Nat) (b : List Byte) (code arg : Nat) (a : StepAcc) : StepAcc :=
  match smFind s0 a.1 m b code arg with
  | some t => smFire s0 m b t a
  | none => a

/-- Whether a step that starts at `o` in the tick at `tick` takes an event: its OPT is at or before the start (04 R116), and it was not raised
by a step of the same tick (R117). -/
def SmEvent.due (e : SmEvent) (o tick : Opt) : Bool := decide (e.opt ≤ o) && e.raised != some tick

/-- The events of a step: those at the front of the queue that are due, `fuel` at most. -/
def smEvents (s0 : State) (m : Nat) (b : List Byte) (o : Opt) : Nat → StepAcc → StepAcc
  | 0, a => a
  | k + 1, a =>
    match (rd a.1.sm m).queue with
    | e :: t =>
      if e.due o s0.clk.tickOpt then
        smEvents s0 m b o k (smEventRun s0 m b e.code e.arg (a.1.updSm m fun x => { x with queue := t }, a.2))
      else a
    | [] => a

/-- The signals whose rise or fall the machine watches. -/
def smWatched (b : List Byte) : List Nat :=
  ((List.range (smT b)).map (smTransAt b)).filterMap fun t =>
    if u8 b (t + 2) = 2 ∨ u8 b (t + 2) = 3 then some (u32 b (t + 4)) else none

/-- The order of events of one step: OPT, code, ARG. -/
def eventKey (e : SmEvent) : List Nat := [e.opt, e.code, e.arg]

/-- The queue of a step: rises and falls formed, the events due in order and 32 at most, those to come after them; and the
number of events dropped. -/
def smQueue (o tick : Opt) (formed : List SmEvent) (q : List SmEvent) : List SmEvent × Nat :=
  let all := q ++ formed
  let due := (all.filter fun e => e.due o tick).reverse.foldr (insertBy eventKey) []
  (due.take 32 ++ all.filter (fun e => !e.due o tick), due.length - 32)

/-- Rises and falls between the previous snapshot and `now` (04 R113); none for a signal not in the previous one. -/
def smEdges (o : Opt) (prev now : List (Nat × Bool)) : List SmEvent :=
  now.filterMap fun p => match lookupN prev p.1 with
    | some was => if p.2 ∧ ¬ was then some ⟨o, 2, p.1, none⟩ else if was ∧ ¬ p.2 then some ⟨o, 3, p.1, none⟩ else none
    | none => none

/-- A step of machine `m` now (04 R115 to R118).  The first one runs the entry actions of INIT.  A frame of CAN_SEND is packed at the step's end
with the values that CTL has in force then, so a CAN_SET of the same step, which reaches CTL with the mailbox entry, is in the next frame
(log 101). -/
def State.smStep (s : State) (m : Nat) (late : Bool) : State :=
  let b := s.img.smBody m
  let o := s.clk.opt
  let x := rd s.sm m
  let isFirst := !x.run
  let s1 := if isFirst then
      s.updSm m fun y => { y with run := true, state := BitVec.ofNat 8 (smInit b), vars := (List.range (smV b)).map fun i => f32At b (smVarAt b i) }
    else s
  let old := (rd s1.sm m).state
  let now := (smWatched b).foldl (fun l ref => bindN l ref (sTrue (s1.snapSig m ref))) []
  let q := smQueue o s.clk.tickOpt (smEdges o x.prev now) x.queue
  let s2 := s1.updSm m fun y => { y with
    queue := q.1, prev := now, lost := y.lost || decide (0 < q.2), lostCnt := satAdd y.lostCnt q.2,
    late := y.late || late, lateCnt := if late then satInc y.lateCnt else y.lateCnt }
  let init := smStateAt (smInit b)
  let a0 : StepAcc := if isFirst then smActions s1 m b (u16 b init) (u8 b (init + 2)) (s2, []) else (s2, [])
  let a1 := smEvents s1 m b o 32 a0
  let a2 := smEventRun s1 m b 0 0 a1
  let s3 := a2.1.updSm m fun y => if y.state = old then y else { y with prevState := old, changedAt := s.clk.tickOpt + 1 }
  (a2.2.foldl (fun t k => t.canBuild k false) s3).claimPoll

/-- SM_STEP (04 R115, R118): at a tick whose number is a multiple of STEP, or later where the step before had not finished. -/
def execSmStep (o : Opt) (m : Fin 64) (late : Bool) (s : State) : Out :=
  let s := s.begin o
  let b := s.img.smBody m.val
  if s.runs rSVC = false ∨ s.img.machines.length ≤ m.val ∨ (late = false ∧ s.clk.tickSec % max 1 (smStepTicks b) ≠ 0) then .next s
  else .next (s.smStep m.val late)

/-- SM_TIMER_EXPIRY (04 R112, R113). -/
def execSmTimerExpiry (o : Opt) (m : Fin 64) (timer : Byte) (s : State) : Out :=
  let s := s.begin o
  match lookupN (rd s.sm m.val).timers timer.toNat with
  | none => .next s
  | some t =>
    if s.runs rSVC = false ∨ o < t then .next s
    else .next ((s.updSm m.val fun x => { x with timers := dropN x.timers timer.toNat }).smPush m.val ⟨t, 1, timer.toNat, none⟩)

/-- A COMMAND event for a machine (04 R113, R119). -/
def State.smCommand (s : State) (m ev : Nat) : State := s.smPush m ⟨s.clk.opt, 4, ev, none⟩

/-- MACHINE_EVENT (05 R149): refused with RANGE where the machine does not exist, as the write to SYS_SM_EVENT is. -/
def execMachineEvent (r : HostReq) (machine : Byte) (event : W16) (s : State) : Out :=
  .next (hostOp r 0x0052 1 11 (fun s =>
    if s.img.machines.length ≤ machine.toNat ∨ 64 ≤ machine.toNat then .refuse stRANGE []
    else .done (s.smCommand machine.toNat event.toNat) []) s)

end Sys2Proof.Machine
end

