-- ==== Sys2Proof/Machine/Plan.lean ====
section
/-! DEFINITION. Plans of the profile generators (09 R248, R250, R251): the continuous time-optimal profile with limited jerk, acceleration and
velocity, and its fit to whole steps.  Quantities are in fixed point (Real.lean) and in units of the step h and of JMAX: durations in steps, jerk
in JMAX, acceleration in JMAX·h, velocity in JMAX·h², position in JMAX·h³. -/

namespace Sys2Proof.Machine

/-- A segment of a continuous plan: the sign of its jerk and its duration. -/
abbrev Seg := Int × Int

/-- Position, velocity and acceleration in the units of this file. -/
structure Kin where
  p : Int
  v : Int
  a : Int
deriving DecidableEq, Repr, Inhabited

/-- The state after a time `t` under the jerk `j`. -/
def Kin.run (q : Kin) (j t : Int) : Kin :=
  let tt := rMul t t
  { p := q.p + rMul q.v t + rMul q.a tt / 2 + rMul j (rMul tt t) / 6, v := q.v + rMul q.a t + rMul j tt / 2, a := q.a + rMul j t }

/-- The state after a list of segments. -/
def Kin.runSegs (q : Kin) (l : List Seg) : Kin := l.foldl (fun x s => x.run (s.1 * rOne) s.2) q

/-- The least time from (v, a) to (vf, 0) with |a| ≤ lim: jerk up to a peak, perhaps a stretch at the limit, and jerk back to zero.  An
acceleration beyond the limit comes inside it first (R251). -/
def velSegs (lim : Int) (q : Kin) (vf : Int) : List Seg :=
  let d : Int := if q.v + rMul q.a q.a.natAbs / 2 ≤ vf then 1 else -1
  let a := d * q.a
  let dv := d * (vf - q.v)
  let half := rMul a a / 2
  let peak := rSqrt (dv + half)
  if peak ≤ lim then [(d, peak - a), (-d, peak)]
  else if a ≤ lim then [(d, lim - a), (0, rDiv (dv - rMul lim lim + half) lim), (-d, lim)]
  else [(-d, a - lim), (0, rDiv (dv - half) lim), (-d, lim)]

/-- The first `t` of a list of segments. -/
def cutSegs : Int → List Seg → List Seg
  | _, [] => []
  | t, (s, d) :: l => if t ≤ d then [(s, t)] else (s, d) :: cutSegs (t - d) l

/-- The duration of a list of segments. -/
def segTime (l : List Seg) : Int := l.foldl (fun a s => a + s.2) 0

/-- The profile that speeds along `acc` for a time `t` and then goes to (vf, 0). -/
def turnAt (lim vf : Int) (q : Kin) (acc : List Seg) (t : Int) : List Seg :=
  let up := cutSegs t acc
  up ++ velSegs lim (q.runSegs up) vf

/-- The time to turn at, halving a span in which the profile's end passes `d` in the direction `dir`. -/
def turnTime (lim vf d dir : Int) (q : Kin) (acc : List Seg) : Nat → Int → Int → Int
  | 0, lo, _ => lo
  | k + 1, lo, w =>
    let m := lo + w / 2
    if dir * (q.runSegs (turnAt lim vf q acc m)).p ≤ dir * d then turnTime lim vf d dir q acc k m (w / 2)
    else turnTime lim vf d dir q acc k lo (w / 2)

/-- The least time from a state, at position 0, to position `d` with velocity `vf` and no acceleration (R248): towards ±VMAX, at most
until the way left is that of the change to `vf`, with a cruise at VMAX where there is room for one. -/
def goSegs (vmax lim : Int) (q : Kin) (d vf : Int) : List Seg :=
  let near := (q.runSegs (velSegs lim q vf)).p
  let dir : Int := if near ≤ d then 1 else -1
  let acc := velSegs lim q (dir * vmax)
  let qa := q.runSegs acc
  let brake := velSegs lim qa vf
  let far := (qa.runSegs brake).p
  if near = d then velSegs lim q vf
  else if 0 ≤ dir * (d - far) then acc ++ [(0, rDiv (dir * (d - far)) vmax)] ++ brake
  else turnAt lim vf q acc (turnTime lim vf d dir q acc 220 0 (segTime acc))

/-- Adjacent segments of one jerk joined, and segments of no length left out. -/
def joinSegs : List Seg → List Seg
  | [] => []
  | (s, t) :: l => match joinSegs l with
    | (s', t') :: r => if t ≤ rOne / 2 ^ 150 then (s', t') :: r else if s = s' then (s, t + t') :: r else (s, t) :: (s', t') :: r
    | [] => if t ≤ rOne / 2 ^ 150 then [] else [(s, t)]

/-- Segments parted where the acceleration passes zero, so that a plan from rest to rest has the seven segments of R248. -/
def partSegs : Int → List Seg → List Seg
  | _, [] => []
  | a, (s, t) :: l =>
    let e := a + s * t
    if (a < -(rOne / 2 ^ 100) ∧ rOne / 2 ^ 100 < e) ∨ (e < -(rOne / 2 ^ 100) ∧ rOne / 2 ^ 100 < a) then
      (s, a.natAbs) :: (s, t - a.natAbs) :: partSegs e l
    else (s, t) :: partSegs e l

/-! The fit to whole steps (R248).  A fitted plan keeps each segment's place and takes for unknowns the accelerations between the segments, on
which the end velocity and the end position depend linearly; where the acceleration of the continuous plan is zero it stays zero, and a
segment without jerk keeps the acceleration that it begins with. -/

/-- What becomes of the acceleration at a segment's end. -/
inductive EndAcc where
  | zero | same | free
deriving DecidableEq, Repr, Inhabited

/-- A segment to fit: its steps, and the acceleration at its end in the continuous plan. -/
structure Fit where
  n : Nat
  goal : Int
  kind : EndAcc
deriving DecidableEq, Repr, Inhabited

/-- A duration rounded up to whole steps; what the rounding of binary64 adds to it, a 2^-26th of a step, counts as none (log 15). -/
def stepsUp (t : Int) : Nat := max 1 ((t - rOne / 2 ^ 26 + rOne - 1) / rOne).toNat

/-- The segments to fit of a continuous plan that begins with acceleration `a`. -/
def toFit : Int → List Seg → List Fit
  | _, [] => []
  | a, (s, t) :: l =>
    let e := a + s * t
    { n := stepsUp t, goal := e, kind := if s = 0 then .same else if (e.natAbs : Int) ≤ rOne / 2 ^ 100 then .zero else .free } :: toFit e l

/-- The steps of a list of segments. -/
def fitSteps (l : List Fit) : Nat := l.foldl (fun a x => a + x.n) 0

/-- An acceleration between two segments: a known part, or the free one of that number. -/
abbrev Acc := Int × Option Nat

/-- The accelerations at the segments' ends, `k` being the number of the next free one. -/
def fitAccs : Acc → Nat → List Fit → List Acc
  | _, _, [] => []
  | a, k, x :: l => match x.kind with
    | .zero => (0, none) :: fitAccs (0, none) k l
    | .same => a :: fitAccs a k l
    | .free => (x.goal, some k) :: fitAccs (x.goal, some k) (k + 1) l

/-- What the accelerations contribute to the end velocity and the end position: (the acceleration, its weight in each). -/
def fitTerms : Acc → List Fit → List Acc → List (Acc × Int × Int)
  | a, x :: l, e :: m =>
    let n : Int := x.n
    let r : Int := (fitSteps l : Nat)
    (a, n * rOne / 2, (2 * n * n + 3 * n * r) * rOne / 6) :: (e, n * rOne / 2, (n * n + 3 * n * r) * rOne / 6) :: fitTerms e l m
  | _, _, _ => []

/-- The accelerations between the segments for which the plan ends as it shall: of all such the nearest to those of the continuous plan, by the sum
of squares (log 15); without a free one, those of the continuous plan. -/
def fitSolve (pos : Bool) (q : Kin) (d vf : Int) (l : List Fit) : List Int :=
  let accs := fitAccs (q.a, none) 0 l
  let terms := fitTerms (q.a, none) l accs
  let n : Int := (fitSteps l : Nat)
  let rv := vf - q.v - terms.foldl (fun s x => s + rMul x.1.1 x.2.1) 0
  let rp := if pos then d - q.v * n - terms.foldl (fun s x => s + rMul x.1.1 x.2.2) 0 else 0
  let cols : List (Int × Int) := (List.range l.length).map fun k => terms.foldl (fun s x =>
    if x.1.2 = some k then (s.1 + x.2.1, if pos then s.2 + x.2.2 else 0) else s) (0, 0)
  let m11 := cols.foldl (fun s c => s + rMul c.1 c.1) 0
  let m12 := cols.foldl (fun s c => s + rMul c.1 c.2) 0
  let m22 := if pos then cols.foldl (fun s c => s + rMul c.2 c.2) 0 else rOne
  let det := rMul m11 m22 - rMul m12 m12
  let y1 := if det = 0 then 0 else rDiv (rMul rv m22 - rMul rp m12) det
  let y2 := if det = 0 then 0 else rDiv (rMul m11 rp - rMul m12 rv) det
  accs.map fun a => match a.2 with
    | none => a.1
    | some k => let c := cols.getD k (0, 0)
                a.1 + rMul c.1 y1 + rMul c.2 y2

/-- The jerks of a fitted plan with their steps. -/
def fitJerks : Int → List Fit → List Int → List (Int × Nat)
  | a, x :: l, e :: m => ((e - a) / ((max 1 x.n : Nat) : Int), x.n) :: fitJerks e l m
  | _, _, _ => []

/-- Whether the acceleration at the end of a segment and the velocity in it stay inside their limits. -/
def limitOk (vmax amax : Int) : Kin → List (Int × Nat) → Bool
  | _, [] => true
  | q, (j, n) :: l =>
    let e := q.run j (n * rOne)
    let top := if (q.a < 0 ∧ 0 < e.a) ∨ (e.a < 0 ∧ 0 < q.a) then (q.v - rDiv (rMul q.a q.a) (2 * j)).natAbs else 0
    decide ((e.a.natAbs : Int) ≤ amax) && decide ((e.v.natAbs : Int) ≤ vmax) && decide ((top : Int) ≤ vmax) && limitOk vmax amax e l

/-- A limit with `k` places of room for rounding. -/
def slack (lim : Int) (k : Nat) : Int := lim + lim / 2 ^ k

/-- Whether a fitted plan is one that the rule allows: no jerk above JMAX but for what the rounding of binary64 needs, the end state met, and the limits kept, or what the plan could not help
exceeding when it began. -/
def fitOk (pos : Bool) (vmax amax : Int) (q : Kin) (d vf : Int) (l : List (Int × Nat)) : Bool :=
  let e := l.foldl (fun x s => x.run s.1 (s.2 * rOne)) q
  l.all (fun x => decide ((x.1.natAbs : Int) ≤ slack rOne 32)) && decide ((e.a.natAbs : Int) ≤ rOne / 2 ^ 26)
    && decide (((e.v - vf).natAbs : Int) ≤ amax / 2 ^ 26) && (!pos || decide (((e.p - d).natAbs : Int) ≤ vmax / 2 ^ 26))
    && limitOk (slack (max (max vmax q.v.natAbs) (q.v + rMul q.a q.a.natAbs / 2).natAbs) 31) (slack (max amax q.a.natAbs) 31) q l

/-- The index of the segment with the largest jerk. -/
def fitWorst (l : List (Int × Nat)) : Nat :=
  ((l.zipIdx).foldl (fun (a : Nat × Nat) x => if a.1 < x.1.1.natAbs then (x.1.1.natAbs, x.2) else a) (0, 0)).2

/-- The fit of a plan.  Where it needs a jerk above JMAX or breaks a limit, the segment with the largest jerk takes another step, as long as the plan
ends within 7 steps of the continuous one; none where nothing fits even then. -/
def fitPlan (pos : Bool) (vmax amax : Int) (q : Kin) (d vf room : Int) : Nat → List Fit → Option (List (Int × Nat))
  | 0, _ => none
  | fuel + 1, l =>
    let j := fitJerks q.a l (fitSolve pos q d vf l)
    if room < (fitSteps l : Nat) * rOne then none
    else if fitOk pos vmax amax q d vf j then some (j.map fun x => (if rOne < x.1 then rOne else if x.1 < -rOne then -rOne else x.1, x.2))
    else
      let w := fitWorst j
      fitPlan pos vmax amax q d vf room fuel ((l.zipIdx).map fun x => if x.2 = w then { x.1 with n := x.1.n + 1 } else x.1)

/-- A continuous plan fitted to steps: `pos` where its end position counts.  With `lead` a plan that leaves its end state no room to be met in whole steps is
preceded by a step that changes the acceleration, or by two that change the velocity (log 15). -/
def fitSegs (pos lead : Bool) (vmax amax : Int) (q : Kin) (d vf : Int) (segs : List Seg) : Option (List (Int × Nat)) :=
  let s := partSegs q.a (joinSegs segs)
  let l := toFit q.a s
  let room := segTime s + 7 * rOne
  let first : Fit := { n := 1, goal := q.a, kind := .free }
  let still : Fit := { n := 1, goal := 0, kind := .zero }
  (fitPlan pos vmax amax q d vf room 8 l).orElse fun _ =>
    if lead = false then none
    else (fitPlan pos vmax amax q d vf room 8 (first :: l)).orElse fun _ =>
      if q.a = 0 then fitPlan pos vmax amax q d vf room 8 (first :: still :: l) else none

end Sys2Proof.Machine
end

