-- ==== Sys2Proof/Machine/Profile.lean ====
section
/-! DEFINITION. Profile generators (09 R245 to R252). -/

namespace Sys2Proof.Machine

/-- Limits VMAX, AMAX, JMAX (09 R253). -/
abbrev PgLimits := F32 × F32 × F32

/-- The limits of generator `n` in force. -/
def State.pgLimits (s : State) (n : Nat) : PgLimits := (s.live (0x51000 + 16 * n), s.live (0x51004 + 16 * n), s.live (0x51008 + 16 * n))

/-- TRACK_TOL and POS_INIT of generator `n`. -/
def Image.pgTol (im : Image) (n : Nat) : F32 := recWord (im.record 0x0501 0x0001 28 n) fZero fun b => f32At b 24
def Image.pgInit (im : Image) (n : Nat) : F32 := recWord (im.record 0x0501 0x0001 28 n) fZero fun b => f32At b 8

/-- A binary64 number limited to ±lim. -/
def dlimit (lim x : F64) : F64 := if dlt lim x then lim else if dlt x (dneg lim) then dneg lim else x

/-- One step h under jerk j (09 R248): the right-hand side is the state before the advance. -/
def Pg.integrate (q : Pg) (h j : F64) : Pg :=
  let two := dOfInt 2
  let six := dOfInt 6
  { q with
    p := dadd (dadd (dadd q.p (dmul q.v h)) (ddiv (dmul (dmul q.a h) h) two)) (ddiv (dmul (dmul (dmul j h) h) h) six),
    v := dadd (dadd q.v (dmul q.a h)) (ddiv (dmul (dmul j h) h) two),
    a := dadd q.a (dmul j h) }

/-- `x` in the units of Plan.lean: x·20000^k / (JMAX·PERIOD^k), to the nearest place; none where it is not a finite number. -/
def pgUnit (x j : Fp) (per k : Nat) : Option Int :=
  match x, j with
  | .fin a m e, .fin _ mj ej =>
    let sh := e - ej + 352
    let num := m * 20000 ^ k * 2 ^ sh.toNat
    let den := mj * per ^ k * 2 ^ (-sh).toNat
    if den = 0 then none
    else
      let n : Int := ((2 * num + den) / (2 * den) : Nat)
      some (if a then -n else n)
  | _, _ => none

/-- A generator's motion in the units of Plan.lean, its position counted from where it is, with VMAX and AMAX. -/
structure PgUnits where
  kin : Kin
  vmax : Int
  amax : Int
deriving DecidableEq, Repr, Inhabited

/-- The motion of a generator in those units; none where a number of it is not finite (log 15). -/
def Pg.units (q : Pg) (lim : PgLimits) (per : Nat) : Option PgUnits :=
  let j := fv lim.2.2
  match pgUnit (dv q.v) j per 2, pgUnit (dv q.a) j per 1, pgUnit (fv lim.1) j per 2, pgUnit (fv lim.2.1) j per 1 with
  | some v, some a, some vm, some am => some { kin := { p := 0, v := v, a := a }, vmax := vm, amax := am }
  | _, _, _, _ => none

/-- The way to position `x`, in those units. -/
def Pg.way (q : Pg) (lim : PgLimits) (per : Nat) (x : F64) : Option Int := pgUnit (fpAdd (dv x) (fpNeg (dv q.p))) (fv lim.2.2) per 3

/-- The jerk of a plan in units of the axis: never above JMAX. -/
def pgJerk (lim : PgLimits) (j : Int) : F64 := f64 (fpMul (.fin (decide (j < 0)) j.natAbs (-352)) (fv lim.2.2))

/-- The velocity at which the acceleration, taken back at once, would end. -/
def Kin.vEnd (k : Kin) : Int := k.v + rMul k.a k.a.natAbs / 2

/-- The jerk of one step along a continuous plan that has no fit: the plan's change of acceleration over the step, inside the jerk and the velocity limit
(log 15). -/
def stepJerk (u : PgUnits) (segs : List Seg) : Int :=
  let e := u.kin.runSegs (cutSegs rOne segs)
  clampInt (-rOne) rOne (clampInt (2 * (-u.vmax - u.kin.v - u.kin.a)) (2 * (u.vmax - u.kin.v - u.kin.a)) (e.a - u.kin.a))

/-- A continuous plan made ready to follow: its fit to steps, or one step along it. -/
def PgUnits.plan (u : PgUnits) (lim : PgLimits) (pos lead : Bool) (d vf : Int) (segs : List Seg) (endP : Option F64) (endV : F64) (inside : Bool) : Plan :=
  match fitSegs pos lead u.vmax u.amax u.kin d vf segs with
  | some l => { segs := l.map fun x => (pgJerk lim x.1, x.2), endP := endP, endV := endV, exact := true, inside := inside }
  | none => { segs := [(pgJerk lim (stepJerk u segs), 1)], endP := none, endV := endV, exact := false, inside := inside }

/-- Whether a generator is at rest. -/
def Pg.rest (q : Pg) : Bool := fpEq (dv q.v) (dv 0) && fpEq (dv q.a) (dv 0)

/-- The stop profile: the plan that ends at rest as soon as it can (09 R250). -/
def PgUnits.stopPlan (u : PgUnits) (lim : PgLimits) : Plan := u.plan lim false true 0 0 (velSegs u.amax u.kin 0) none 0 false

/-- A plan to an end position `d` away and an end velocity (09 R248). -/
def PgUnits.goPlan (u : PgUnits) (lim : PgLimits) (lead : Bool) (d vf : Int) (endP endV : F64) : Plan :=
  u.plan lim true lead d vf (goSegs u.vmax u.amax u.kin d vf) (some endP) endV false

/-- The plan of a MOVE (09 R247, R250): straight to the target, or first to rest where it lies behind or inside the stopping
distance, which OVERSHOOT then tells. -/
def Pg.planMove (q : Pg) (u : PgUnits) (lim : PgLimits) (d : Int) : Pg :=
  if q.rest then { q with plan := if fpEq (dv q.p) (dv q.target) then none else some (u.goPlan lim true d 0 q.target 0) }
  else
    let near := (u.kin.runSegs (velSegs u.amax u.kin 0)).p
    let dir : Int := if 0 < u.kin.v ∨ (u.kin.v = 0 ∧ 0 < u.kin.a) then 1 else -1
    let behind := decide (dir * d < 0)
    if behind || decide (dir * d < dir * near) then { q with plan := some (u.stopPlan lim), overshoot := !behind }
    else { q with plan := some (u.goPlan lim true d 0 q.target 0), overshoot := false }

/-- One advance along the plan; at the end of one that is fitted the state is the plan's end state (09 R248). -/
def Pg.follow (q : Pg) (h : F64) : Pg :=
  match q.plan with
  | none => q
  | some pl => match pl.segs with
    | [] => { q.integrate h 0 with plan := none }
    | (j, n) :: t =>
      let x := q.integrate h j
      let segs := if n ≤ 1 then t else (j, n - 1) :: t
      if segs.isEmpty = false then { x with plan := some { pl with segs := segs } }
      else if pl.exact then { x with p := pl.endP.getD x.p, v := pl.endV, a := 0, plan := none }
      else { x with plan := none }

/-- Whether |v| or |a|, as handed to the law, exceeds its limit (09 R251; log 15). -/
def Pg.exceeds (q : Pg) (lim : PgLimits) : Bool := flt lim.1 (fabs (fOfD q.v)) || flt lim.2.1 (fabs (fOfD q.a))

/-- The plan back inside the limits (09 R251): the velocity to VMAX, by way of whatever acceleration that takes, where the velocity is above VMAX or
cannot but rise above it; else the acceleration to AMAX.  None where both lie within. -/
def PgUnits.insidePlan (u : PgUnits) (lim : PgLimits) : Option Plan :=
  let a : Int := u.kin.a.natAbs
  if slack u.vmax 30 < u.kin.v.natAbs ∨ slack u.vmax 30 < u.kin.vEnd.natAbs then
    let vf := clampInt (-u.vmax) u.vmax u.kin.vEnd
    let endV := if 0 < vf then dOfF lim.1 else dneg (dOfF lim.1)
    let pl := u.plan lim false true 0 vf (velSegs u.amax u.kin vf) none endV true
    some { pl with exact := pl.exact && (vf == u.vmax || vf == -u.vmax) }
  else if slack u.amax 30 < a then
    let n := stepsUp (a - u.amax)
    let j := (a - u.amax) / (n : Int)
    some { segs := [(pgJerk lim (if 0 < u.kin.a then -j else j), n)], endP := none, endV := 0, exact := false, inside := true }
  else none

/-- ARRIVED (09 R248). -/
def Pg.arrive (q : Pg) : Pg :=
  let at_ := match q.mode with
    | .move => q.rest && fpEq (dv q.p) (dv q.target)
    | .hold => q.rest
    | .track => false
  { q with arrived := at_, overshoot := q.overshoot && !at_ }

/-- The plan to follow at an advance (09 R247 to R251): back inside the limits where the state exceeds them; else a new one where target, mode or limits
have changed or the last has ended, and in TRACK always. -/
def Pg.replan (q : Pg) (u : PgUnits) (lim : PgLimits) (h : F64) (per : Nat) (changed : Bool) : Pg :=
  match u.insidePlan lim with
  | some pl => if changed || !(q.plan.any fun x => x.inside) then { q with plan := some pl } else q
  | none =>
    let fresh := changed || q.plan.isNone || q.plan.any fun x => x.inside
    match q.mode with
    | .move => if fresh then (match q.way lim per q.target with
        | some d => q.planMove u lim d
        | none => { q with plan := none }) else q
    | .hold => if fresh then { q with plan := if q.rest then none else some (u.stopPlan lim), overshoot := false } else q
    | .track =>
      let v := dlimit (dOfF lim.1) (ddiv (dsub q.target (q.prevTarget.getD q.target)) h)
      match q.way lim per q.target, pgUnit (dv v) (fv lim.2.2) per 2 with
      | some d, some vf => { q with plan := some (u.goPlan lim false d vf q.target v), overshoot := false }
      | _, _ => { q with plan := none }

/-- One advance of a generator in `mode` towards `target`, `per` being the slot's PERIOD and `h` the same in seconds (09 R245 to R251).  A motion that is
not finite has no plan and keeps its acceleration (log 15). -/
def Pg.advance (q : Pg) (h : F64) (per : Nat) (lim : PgLimits) (tol : F32) (mode : PgMode) (target : F64) : Pg :=
  let changed := q.mode != mode || !fpEq (dv q.target) (dv target) || q.limits != lim
  let prev : Option F64 := if mode = PgMode.track ∧ q.mode = PgMode.track then some q.target else none
  let q1 := { q with mode := mode, target := target, prevTarget := prev, limits := lim, followPv := false }
  let q2 := match q1.units lim per with
    | some u => (q1.replan u lim h per changed).follow h
    | none => { q1.integrate h 0 with plan := none }
  let q3 := { q2 with excess := q2.exceeds lim,
                      limited := mode == PgMode.track && dlt (dOfF tol) (dabs (dsub target (dOfF (fOfD q2.p)))) }
  q3.arrive

/-- The registers of a generator at an advance (09 R245, R268). -/
def Pg.publish (q : Pg) : Pg := { q with posReg := fOfD q.p, velReg := fOfD q.v, accReg := fOfD q.a, tgtReg := fOfD q.target }

/-- A target clamped to the generator's range, setting CLAMPED where the clamp acts (09 R246). -/
def Pg.clampTo (q : Pg) (r : F32 × F32) (t : F64) : F64 × Pg :=
  let lo := dOfF r.1
  let hi := dOfF r.2
  if dlt t lo then (lo, { q with clamped := true }) else if dlt hi t then (hi, { q with clamped := true }) else (t, q)

/-- The state with generator `n` changed. -/
def State.updPg (s : State) (n : Nat) (f : Pg → Pg) : State := { s with prf := { s.prf with pg := upd s.prf.pg n f } }

/-- r of slot `n`'s generator, in binary32. -/
def State.pgR (s : State) (n : Nat) : F32 := fOfD (rd s.prf.pg n).p

/-- A generator as power-up leaves it: at POS_INIT, at rest (09 R265). -/
def Image.pgStart (im : Image) (n : Nat) (src : PgSource) : Pg :=
  let p := dOfF (im.pgInit n)
  { Pg.reset with p := p, target := p, src := src, mode := if src = .outer then .track else .move }

end Sys2Proof.Machine
end

