-- ==== Sys2Proof/Machine/Functions.lean ====
section
/-! DEFINITION. Machine functions (09 R254 to R263): modes, targets, the interlock and override overlay, host absence. -/

namespace Sys2Proof.Machine

/-- The FUNCTIONS record of function `m`, 0 to 47, where it is configured (09 R265). -/
def Image.mfRec (im : Image) (m : Nat) : Option (List Byte) :=
  match im.record 0x0501 0x0002 112 m with
  | some b => if 48 ≤ m ∨ u8 b 0 = 0xFF then none else some b
  | none => none

/-- The record, empty where there is none. -/
def State.mfB (s : State) (m : Nat) : List Byte := (s.img.mfRec m).getD []
/-- Whether function `m` is configured, and the slot it owns. -/
def State.mfUsed (s : State) (m : Nat) : Bool := (s.img.mfRec m).isSome
def State.mfSlot (s : State) (m : Nat) : Nat := u8 (s.mfB m) 0

/-- The function that owns slot `n` (09 R254). -/
def Image.mfOfSlot (im : Image) (n : Nat) : Option Nat :=
  (List.range 48).find? fun m => match im.mfRec m with
    | some b => u8 b 0 == n
    | none => false

/-- The state with function `m` changed. -/
def State.updMf (s : State) (m : Nat) (f : Mf → Mf) : State := { s with prf := { s.prf with mf := upd s.prf.mf m f } }

/-- Whether a function has an automation source: the steering block, or an MF_TARGET action of a STATE table (09 R255). -/
def Image.mfAuto (im : Image) (m : Nat) : Bool :=
  match im.mfRec m with
  | none => false
  | some b => u8 b 7 == 1 || im.machines.any fun t =>
      (List.range (smA t.body)).any fun i => u8 t.body (smActAt t.body i) == 5 && u8 t.body (smActAt t.body i + 1) == m

/-- A target clamped to [T_MIN, T_MAX]; each clamp sets CLAMPED and counts (09 R254). -/
def State.mfClamp (s : State) (m : Nat) (x : F32) : F32 × State :=
  let b := s.mfB m
  let y := fclamp (f32At b 20) (f32At b 24) x
  if feq x y then (y, s) else (y, s.updMf m fun f => { f with clamped := true, clampCnt := satInc f.clampCnt })

/-- The slot's output, from which a manual value starts. -/
def State.mfOut (s : State) (m : Nat) : F32 := (rd s.lop.slot (s.mfSlot m)).u

/-- The target becomes the present r, clamped as every target is (09 R254). -/
def State.mfHere (s : State) (m : Nat) : State :=
  let (y, t) := s.mfClamp m (s.pgR (s.mfSlot m))
  t.updMf m fun f => { f with tgt := y }

/-- Entry into mode `md` (09 R255): the target becomes the present r, but under GOTO, which governs during INTERLOCK (R257); AUTO without a source
is HOLD.  The mode that a function is in already is no entry (log 115). -/
def State.mfEnter (s : State) (m md : Nat) : State :=
  let md := if md = 4 ∧ s.img.mfAuto m = false then 1 else md
  if (rd s.prf.mf m).mode = md then s
  else
    let t := s.updMf m fun f => { f with mode := md, latest := none, manual := s.mfOut m }
    if (rd s.prf.mf m).st = .interlock ∧ u8 (s.mfB m) 4 = 2 then t else t.mfHere m

/-- A mode change by a source other than the host-absence rules (09 R262): AUTO is refused for a function without a source (R255). -/
def State.mfSetMode (s : State) (m md : Nat) : State :=
  if md = 4 ∧ s.img.mfAuto m = false then s else (s.mfEnter m md).updMf m fun f => { f with changed := true }

/-- A target from the source of mode `src` (09 R255, R258, R261): only the mode's source acts; during an overlay it is kept, in
LOOP_DOWN discarded. -/
def State.mfTake (s : State) (m src : Nat) (x : F32) : State :=
  let f := rd s.prf.mf m
  if f.mode ≠ src ∨ f.st = .loopDown ∨ f.st = .notConfigured then s
  else
    let (y, t) := s.mfClamp m x
    t.updMf m fun f => { f with latest := some y, tgt := if f.st = .normal then y else f.tgt }

/-! The overlay (09 R256 to R258). -/

/-- The first interlock term that fails (09 R257). -/
def State.mfIlkFail (s : State) (m : Nat) : Option Nat :=
  let b := s.mfB m
  (List.range (u8 b 3)).find? fun i => !termHolds (u8 b (68 + 12 * i)) (s.sig (u32 b (64 + 12 * i))) (f32At b (72 + 12 * i))

/-- Whether the override is active (09 R258). -/
def State.mfOvr (s : State) (m : Nat) : Bool := u8 (s.mfB m) 6 != 0 && sTrue (s.sig (u32 (s.mfB m) 12))

/-- Rearming (09 R258): to the latest target received in the overlay with RESUME, to r without. -/
def State.mfRearm (s : State) (m : Nat) (resume : Bool) : State :=
  let t := s.updMf m fun f => { f with st := .normal }
  match (rd s.prf.mf m).latest with
  | some x => if resume then t.updMf m fun f => { f with tgt := x } else t.mfHere m
  | none => t.mfHere m

/-- Entry into INTERLOCK: ILK_ACT applies, GOTO with its target. -/
def State.mfIlkOpen (s : State) (m term : Nat) : State :=
  let b := s.mfB m
  s.updMf m fun f =>
    { f with st := .interlock, ilkCnt := satInc f.ilkCnt, ilkSeen := true, ilkTerm := term, ilkTicks := 0,
             latest := if f.st = .override then f.latest else none, tgt := if u8 b 4 = 2 then f32At b 44 else f.tgt }

/-- The value of the override taken at a tick: the target under TARGET, the manual value under OUTPUT. -/
def State.mfOvrValue (s : State) (m : Nat) : State :=
  let b := s.mfB m
  let v := s.sig (u32 b 16)
  if v.2 = false ∨ fIsNaN v.1 then s
  else if u8 b 6 = 1 then
    let (y, t) := s.mfClamp m v.1
    t.updMf m fun f => { f with tgt := y, ovr := y }
  else s.updMf m fun f => { f with ovr := v.1 }

/-- Entry into OVERRIDE: the target stays until OVR_VAL gives one; under OUTPUT the manual value starts from the slot's output (log 115). -/
def State.mfOvrOpen (s : State) (m : Nat) : State :=
  (s.updMf m fun f => { f with st := .override, ovrSeen := true, ovr := s.mfOut m,
                               latest := if f.st = .interlock then f.latest else none }).mfOvrValue m

/-- The overlay of function `m` at a tick (09 R256).  Leaving INTERLOCK is MF_INTERLOCK_CLEAR's. -/
def State.mfOverlay (s : State) (m : Nat) : State :=
  let b := s.mfB m
  let f := rd s.prf.mf m
  if s.mfUsed m = false then s
  else if s.slotState (s.mfSlot m) ≠ .run then s.updMf m fun f => { f with st := .loopDown, latest := none }
  else match f.st with
    | .loopDown => (s.updMf m fun f => { f with st := .normal }).mfHere m
    | .normal => match s.mfIlkFail m with
      | some i => s.mfIlkOpen m i
      | none => if s.mfOvr m then s.mfOvrOpen m else s
    | .override => match s.mfIlkFail m with
      | some i => s.mfIlkOpen m i
      | none => if s.mfOvr m then s.mfOvrValue m else s.mfRearm m ((u8 b 5).testBit 1)
    | .interlock => match s.mfIlkFail m with
      | some i => s.updMf m fun f => { f with ilkTerm := i, ilkTicks := 0 }
      | none => s.updMf m fun f => { f with ilkTicks := f.ilkTicks + 1 }
    | .notConfigured => s

/-- MF_INTERLOCK_CLEAR (09 R256): the interlock has held for ILK_CLEAR_MS. -/
def execMfInterlockClear (m : Fin 48) (s : State) : Out :=
  let s := s.start
  let b := s.mfB m.val
  let f := rd s.prf.mf m.val
  if s.mfUsed m.val ∧ f.st = .interlock ∧ 0 < f.ilkTicks ∧ 20 * u16 b 56 ≤ f.ilkTicks - 1 then
    .next (if s.mfOvr m.val then s.mfOvrOpen m.val else s.mfRearm m.val ((u8 b 5).testBit 0))
  else .next s

/-! What a function asks of its slot and its generator (09 R255 to R258). -/

/-- The slot's mode and manual value: true for MANUAL. -/
def State.mfSlotMode (s : State) (m : Nat) : Bool × F32 :=
  let b := s.mfB m
  let f := rd s.prf.mf m
  if f.st = .interlock ∧ u8 b 4 = 1 then (true, f32At b 40)
  else if f.st = .override ∧ u8 b 6 = 2 then (true, f.ovr)
  else match f.mode with
    | 0 => (true, f32At b 40)
    | 2 => (true, f.manual)
    | _ => (false, fZero)

/-- The generator's mode and target: none leaves it as it is (R252). -/
def State.mfGen (s : State) (m : Nat) : Option (PgMode × F32) :=
  let b := s.mfB m
  let f := rd s.prf.mf m
  let base : Option (PgMode × F32) := match f.mode with
    | 0 => some (.hold, f.tgt)
    | 1 => some (.hold, f.tgt)
    | 2 => none
    | _ => some (if u8 b 2 = 1 then .track else .move, f.tgt)
  match f.st with
  | .interlock => if u8 b 4 = 0 then some (.hold, f.tgt) else if u8 b 4 = 2 then some (.move, f.tgt) else base
  | .override => if u8 b 6 = 1 then some (.track, f.tgt) else base
  | _ => base

/-! Commands (09 R259, R263). -/

/-- The code of the overlay STATE in `PRF_MF_STAT`. -/
def MfState.code : MfState → Nat
  | .normal => 0
  | .override => 1
  | .interlock => 2
  | .loopDown => 3
  | .notConfigured => 4

/-- `PRF_MF_STAT[m]` (09 R268). -/
def State.mfStat (s : State) (m : Nat) : Word :=
  let f := rd s.prf.mf m
  let used := s.mfUsed m
  place f.mode 0 3 ||| place f.st.code 3 3 ||| flag (used && f.idle) 6 ||| flag (used && (rd s.prf.pg (s.mfSlot m)).arrived) 7
    ||| flag f.clamped 8 ||| flag f.ilkSeen 9 ||| flag f.ovrSeen 10 ||| place f.ilkTerm 12 2 ||| place f.ilkCnt.toNat 16 8
    ||| place f.clampCnt.toNat 24 8

/-- One MF_COMMAND applied (09 R255, R263). -/
def State.mfCommand (s : State) (m : Nat) (c : MfCmd) : State :=
  match c.cmd with
  | 1 => s.mfSetMode m c.arg
  | 2 => s.mfTake m 3 c.value
  | _ => s.updMf m fun f => if f.mode = 2 then { f with manual := c.value } else f

/-- The commands of function `m` applied in order of admission, and the requests to complete. -/
def State.mfCommands (s : State) (m : Nat) : State :=
  let l := (rd s.prf.mf m).cmds
  l.foldl (fun t c => t.mfCommand m c) s

/-- The completions of function `m`'s commands after the tick, with its OPT (09 R263). -/
def State.mfComplete (s : State) (m : Nat) : State :=
  let f := rd s.prf.mf m
  let pl := leBytes 1 f.mode ++ leBytes 1 f.st.code ++ leBytes 2 ((s.mfStat m).toNat % 65536) ++ leBytes 4 f.tgt.toNat ++ leBytes 8 s.clk.tickOpt
  f.cmds.foldl (fun t c => t.complete c.req stOK pl) (s.updMf m fun f => { f with cmds := [] })

/-- The host falls silent (09 R262). -/
def State.mfAbsent (s : State) (m : Nat) : State :=
  let f := rd s.prf.mf m
  let h := s.img.hostAbsence 0x0501 m 0
  if s.mfUsed m = false ∨ (f.mode ≠ 3 ∧ f.mode ≠ 2) then s
  else
    let s1 := s.updMf m fun f => { f with before := some f.mode, changed := false }
    match h % 4 with
    | 0 => s1.mfEnter m 1
    | 1 => s1.mfEnter m 4
    | _ => s1

/-- The host returns (09 R262): with RESTORE the mode before the absence is entered again, unless another source has changed it. -/
def State.mfReturn (s : State) (m : Nat) : State :=
  let f := rd s.prf.mf m
  let s1 := s.updMf m fun f => { f with before := none }
  match f.before with
  | some md => if (s.img.hostAbsence 0x0501 m 0).testBit 2 ∧ f.changed = false then s1.mfEnter m md else s1
  | none => s1

/-- The machine-function part of step 2 of a tick (09 R259): the automation mailbox, modes before targets; commands; host absence and
return; the overlay. -/
def State.mfTick (s : State) : State :=
  let fs := List.range 48
  let own (t : State) (w : MfWrite) : Bool := t.mfUsed w.mf && u8 (t.mfB w.mf) 7 == 0
  let s1 := s.prf.mail.foldl (fun t w => match w.mode with
    | some md => if own t w then t.mfSetMode w.mf md else t
    | none => t) s
  let s2 := s.prf.mail.foldl (fun t w => match w.target with
    | some x => if own t w then t.mfTake w.mf 4 x else t
    | none => t) s1
  let s3 := fs.foldl (fun t m => t.mfCommands m) { s2 with prf := { s2.prf with mail := [], box := s2.prf.box.take } }
  let s4 := if s3.prf.absentEdge then fs.foldl (fun t m => t.mfAbsent m) s3 else s3
  let s5 := if s4.prf.returnEdge then fs.foldl (fun t m => t.mfReturn m) s4 else s4
  fs.foldl (fun t m => t.mfOverlay m) { s5 with prf := { s5.prf with absentEdge := false, returnEdge := false } }

/-- FB and IDLE at a tick (09 R260). -/
def State.mfStatus (s : State) (m : Nat) : State :=
  if s.mfUsed m = false then s
  else
    let b := s.mfB m
    let v := s.sig (u32 b 8)
    let ip := f32At b 48
    let idle := (rd s.prf.mf m).mode == 0
      || ((rd s.prf.pg (s.mfSlot m)).rest && v.2 && !fIsNaN v.1 && (fIsNaN ip || fle (fabs (fsub v.1 ip)) (f32At b 52)))
    s.updMf m fun f => { f with fb := if v.2 then v.1 else fNaN, idle := idle }

/-- An MF_COMMAND's own checks and its wait for the next tick (09 R263). -/
def mfOp (r : HostReq) (cmd mf arg : Nat) (value : F32) (s : State) : OpRes :=
  if 48 ≤ mf ∨ 4 < arg ∨ fIsFin value = false then .refuse stRANGE []
  else if s.mfUsed mf = false then .refuse 0x8501 []
  else if cmd = 1 ∧ arg = 4 ∧ s.img.mfAuto mf = false then .refuse 0x8502 []
  else .wait (s.updMf mf fun f => { f with cmds := f.cmds ++ [⟨cmd, arg, value, r⟩] })

/-- MF_SET_MODE (09 R263). -/
def execMfSetMode (r : HostReq) (mf mode : Byte) (value : F32) (s : State) : Out :=
  .next (hostOp r 0x0050 1 10 (mfOp r 1 mf.toNat mode.toNat value) s)

/-- MF_TARGET (09 R263). -/
def execMfTarget (r : HostReq) (mf arg : Byte) (value : F32) (s : State) : Out :=
  .next (hostOp r 0x0050 1 10 (mfOp r 2 mf.toNat arg.toNat value) s)

/-- MF_MANUAL_VALUE (09 R263). -/
def execMfManualValue (r : HostReq) (mf arg : Byte) (value : F32) (s : State) : Out :=
  .next (hostOp r 0x0050 1 10 (mfOp r 3 mf.toNat arg.toNat value) s)

/-- The counters of the functions in a mask cleared (09 R268). -/
def State.mfCntClear (s : State) (base n : Nat) (v : Word) : State :=
  (List.range n).foldl (fun t i => if bit v i then t.updMf (base + i) fun f => { f with ilkCnt := 0, clampCnt := 0 } else t) s

end Sys2Proof.Machine
end

