-- ==== Sys2Proof/Machine/Loop.lean ====
section
/-! DEFINITION. Loop slots (08 R213 to R244): sampling, outputs, overruns, faults, modes and commands. -/

namespace Sys2Proof.Machine

/-- The state with slot `n` or processor `p` changed. -/
def State.updSlot (s : State) (n : Nat) (f : Slot → Slot) : State := { s with lop := { s.lop with slot := upd s.lop.slot n f } }
def State.updProc (s : State) (p : Nat) (f : Proc → Proc) : State := { s with lop := { s.lop with proc := upd s.lop.proc p f } }
/-- Slot `n`. -/
def State.slot (s : State) (n : Nat) : Slot := rd s.lop.slot n

/-! Declared load (08 R220). -/

/-- The cost of a CURVE. -/
def curveCost (b : List Byte) : Nat := if curve2D b then 320 else 160
/-- The cost of a law. -/
def Image.lawCost (im : Image) (l : List Byte) : Nat :=
  match lawType l with
  | 1 => 340
  | 2 => 160 + 120 * u8 l 36
  | 3 => let ns := u8 l 32
         let ni := u8 l 33
         let no := u8 l 34
         120 + 10 * (ns * ns + ns * ni + no * ns + no * ni + ns)
  | 4 => 100 + (match im.tableOf kCurve (u16 l 32) with
    | some c => curveCost c
    | none => 0)
  | _ => 60 + 20 * u8 l 33
/-- The cost of a slot: the dearer of its two laws, its schedule and the fixed work. -/
def Image.slotCost (im : Image) (n : Nat) : Nat :=
  match im.slotRec n with
  | none => 0
  | some b =>
    let alt := if u16 b 42 = 0xFFFF then 0 else im.lawCost (im.law (u16 b 42))
    let sched := match im.tableOf kCurve (recSched b) with
      | some c => curveCost c
      | none => 0
    240 + max (im.lawCost (im.law (u16 b 12))) alt + sched
/-- The declared load of processor `p` in cycles. -/
def Image.procLoad (im : Image) (p : Nat) : Nat := ((List.range 16).map fun k => im.slotCost (16 * p + k)).foldl (· + ·) 0

/-! Targets (08 R233, R235, R238). -/

/-- Whether a slot's target accepts its output (08 R235). -/
def State.bindAccepts (s : State) (b : List Byte) : Bool :=
  match recKind b with
  | 1 => s.vlvState (recIdx b) == .run
  | 2 => s.pswState (recIdx b) == .run
  | 3 => s.colState (recIdx b) == .run
  | 5 => let c := s.slot (recIdx b)
         c.enF && !c.fault && c.mode == .auto
  | _ => true

/-- The value that a target holds in its configured safe state (08 R238). -/
def State.bindSafe (s : State) (b : List Byte) : F32 :=
  let n := recIdx b
  match recKind b with
  | 1 => fOfInt (if s.vlvSafeCurrent n then s.vlvSafeMa n else 0)
  | 2 => fRat (s.pswSafeDuty n) 10
  | 3 => fRat (s.colSafeDuty n) 10
  | _ => recFallback b

/-- The value that a target holds now (08 R235; 15 R399; 16 R422). -/
def State.bindHeld (s : State) (b : List Byte) : F32 :=
  let n := recIdx b
  match recKind b with
  | 1 => let c := rd s.vlv.ch n
         if c.safe then s.bindSafe b else fOfInt c.cmd
  | 2 => let c := rd s.psw.ch n
         if c.safe then s.bindSafe b else fRat c.cmd 10
  | 3 => let c := rd s.col.ch n
         if c.safe then s.bindSafe b else fRat c.demand 10
  | 5 => (s.slot n).sp.getD (s.pgR n)
  | _ => (s.slot n).u

/-- u_p: the output last applied, or where none has been since the enable, the value of the target's safe state (08 R238). -/
def State.slotUp (s : State) (n : Nat) : F32 :=
  let c := s.slot n
  if c.applied then c.u else s.bindSafe (s.slotB n)

/-- Applying an output: a LOOP binding's inner slot takes it as its set-point (08 R233, R236). -/
def State.slotApply (s : State) (n : Nat) (u : F32) : State :=
  let b := s.slotB n
  let s1 := s.updSlot n fun c => { c with u := u, applied := true }
  if recKind b = 5 then s1.updSlot (recIdx b) fun c => { c with sp := some u } else s1

/-! Faults and overruns (08 R221 to R224). -/

/-- The stall injection ends where it names slot `n` (08 R244). -/
def State.stallOff (s : State) (n : Nat) : State :=
  if s.lop.stall.slot = n then { s with lop := { s.lop with stall := { s.lop.stall with count := 0 } } } else s

/-- A slot enters FAULT, its fault action due at tick `at_` (08 R222). -/
def State.slotFault (s : State) (n : Nat) (code : Byte) (at_ : Nat) : State :=
  if (s.slot n).fault ∨ (s.slot n).enF = false then s
  else ((s.updSlot n fun c => { c with fault := true, lastErr := code, faultAt := some at_, invRun := 0 }).stallOff n).unitFault
    0x04 n code.toNat

/-- The fault action, or the release of a disabled slot's target (08 R222 and its note on disabling). -/
def State.slotFaultAct (s : State) (n : Nat) : State :=
  let b := s.slotB n
  let s1 := s.updSlot n fun c => { c with faultAt := none }
  if (s.slot n).enF = false then s1.updSlot n fun c => { c with released := true }
  else match recFaultAct b with
    | 1 => s1.slotApply n (recFallback b)
    | 2 => s1.updSlot n fun c => { c with released := true }
    | _ => s1

/-- The law of a computation finished with u_a (08 R226, R228, R230). -/
def State.lawDone (s : State) (n : Nat) (j : LoopJob) (ua : F32) : State :=
  if j.lawId = 0xFFFF then s
  else s.updSlot n fun c => { c with law := lawFinish (s.img.law j.lawId) (recTp (s.slotB n)) c.bumpF j.v ua j.law }

/-- The SELECT slot that names slot `n` as a candidate, where it computes at the same tick (08 R230). -/
def State.selectOf (s : State) (n tick : Nat) : Option Nat :=
  (List.range 128).find? fun k => match (s.slot k).job with
    | some j => j.select && j.tick == tick && !j.posted && (selectCands (s.img.law j.lawId)).contains n
    | none => false

/-- The candidates of a SELECT computation that have completed this sample, by position. -/
def State.candJobs (s : State) (j : LoopJob) : List (Nat × Nat × LoopJob) :=
  (selectCands (s.img.law j.lawId)).zipIdx.filterMap fun p => match (s.slot p.1).job with
    | some q => if q.posted ∧ q.tick = j.tick then some (p.2, p.1, q) else none
    | none => none

/-- Every completed candidate of a SELECT finished with the SELECT's u (08 R230). -/
def State.finishCands (s : State) (j : LoopJob) (u : F32) : State :=
  (s.candJobs j).foldl (fun t p => t.lawDone p.2.1 p.2.2 u) s

/-- An overrun (08 R221, R222). -/
def State.overrun (s : State) (n : Nat) (j : LoopJob) : State :=
  let s0 := if j.select then s.finishCands j (s.slotUp n) else s
  let s1 := s0.updSlot n fun c =>
    { c with job := none, consec := satInc c.consec, ovrCnt := satInc c.ovrCnt, ovrLast := true, err := true }
  if recNOvr (s.slotB n) ≤ (s1.slot n).consec.toNat then s1.slotFault n 0x01 j.outTick else s1

/-- A skipped sample or an input fault (08 R224). -/
def State.slotInvalid (s : State) (n : Nat) (hold : Bool) (outTick : Nat) : State :=
  let b := s.slotB n
  if hold then
    let s1 := s.updSlot n fun c =>
      { c with inputInvalid := true, invCnt := satInc c.invCnt, err := true, invRun := c.invRun + 1, transfer := true, job := none }
    if recInvLimit b ≤ (s1.slot n).invRun then s1.slotFault n 0x02 outTick else s1
  else s.slotFault n 0x02 outTick

/-- The outputs of this tick (08 R217): results posted are applied, a result not posted is an overrun, and fault actions take effect, at
the first tick that runs where their own passed in a freeze (22 R544). -/
def State.slotOutputs (s : State) (n : Nat) : State :=
  let tick := s.clk.tick
  let s1 := match (s.slot n).job with
    | some j =>
      if tick < j.outTick then s
      else if j.posted then (s.slotApply n j.u).updSlot n fun c => { c with job := none, limited := j.limited, rateLim := j.rateLim }
      else s.overrun n j
    | none => s
  if ((s1.slot n).faultAt.any fun t => decide (t ≤ tick)) then s1.slotFaultAct n else s1

/-! Enables and commands (08 R237, R240). -/

/-- A processor that is OFF is enabled with the first of its slots (01 R17, R25; log 97). -/
def State.procStart (s : State) (p : Nat) : State := s.updProc p fun x => { x with run := x.run || x.lastErr == 0 }

/-- A change of a slot's enable at a tick. -/
def State.slotSetEnable (s : State) (n : Nat) (on : Bool) : State :=
  let c := s.slot n
  if c.enF = on then s
  else if on then (s.procStart (n / 16)).updSlot n fun c =>
    { c with enF := true, fault := false, consec := 0, invRun := 0, inputInvalid := false, ovrLast := false, law := LawSt.zero,
             applied := false, transfer := true, released := false, faultAt := none, remManual := c.remManual && !c.fault,
             mode := if c.remManual && !c.fault then .manual else .auto, entering := true }
  else
    let s1 := (s.updSlot n fun c => { c with enF := false, remManual := c.remManual && !c.fault, fault := false }).stallOff n
    if s.clk.tick ≤ c.lastOut then s1.updSlot n fun c => { c with faultAt := some (c.lastOut + 1) } else s1.slotFaultAct n

/-- Whether tick-step `n` is a sample tick (08 R216); after the renumbering none falls before the output instant of the previous
sample. -/
def State.slotDue (s : State) (n : Nat) : Bool :=
  match s.img.slotRec n with
  | none => false
  | some b =>
    let t := if recAlign b then s.clk.tickSec else s.clk.tick
    (t + recPeriod b - recPhase b) % recPeriod b == 0 && decide ((s.slot n).lastOut ≤ s.clk.tick)

/-- One loop command at its instant (08 R240): the state and the completion's status. -/
def State.loopCommand (s : State) (n : Nat) (k : LoopCmd) : State × Nat :=
  let c := s.slot n
  if k.cmd = 5 then
    (({ s with lop := { s.lop with en := s.lop.en ||| BitVec.ofNat 128 (2 ^ n) } }).slotSetEnable n true, stOK)
  else if c.enF = false then (s, 0x8405)
  else match k.cmd with
  | 1 => if c.fault then (s, 0x8402) else (s.updSlot n fun c => { c with remManual := false, cmdManual := false }, stOK)
  | 2 => if c.fault then (s, 0x8402)
         else (s.updSlot n fun c => { c with remManual := true, cmdManual := true, man := if fIsNaN k.value then s.slotUp n else k.value }, stOK)
  | 3 => if c.remManual = false ∨ c.fault then (s, 0x8401) else (s.updSlot n fun c => { c with man := k.value }, stOK)
  | 4 => if c.fault = false then (s, 0x8404)
         else (s.updSlot n fun c => { c with fault := false, remManual := false, cmdManual := false, mode := .auto, transfer := true,
                                             consec := 0, invRun := 0, released := false, faultAt := none, entering := true }, stOK)
  | _ => (({ s with lop := { s.lop with en := s.lop.en &&& ~~~ BitVec.ofNat 128 (2 ^ n) } }).slotSetEnable n false, stOK)

/-- A command's answer once its tick is over: the request, the slot and the status. -/
abbrev LoopAnswer := HostReq × Nat × Nat

/-- The commands of slot `n` that take effect at this tick, in order of admission. -/
def State.slotCommands (s : State) (n : Nat) (due : Bool) : State × List LoopAnswer :=
  let now (k : LoopCmd) : Bool := due || k.cmd == 5 || k.cmd == 6
  let l := (s.slot n).cmds
  let s0 := s.updSlot n fun c => { c with cmds := c.cmds.filter fun k => !now k }
  (l.filter now).foldl (fun (a : State × List LoopAnswer) k =>
    let r := a.1.loopCommand n k
    (r.1, a.2 ++ [(k.req, n, r.2)])) (s0, [])

/-- The code of MODE in `LOP_STAT`. -/
def LoopMode.code : LoopMode → Nat
  | .auto => 0
  | .manual => 1
  | .track => 2

/-- The completion of a loop command (08 R240). -/
def State.loopAnswer (s : State) (a : LoopAnswer) : State :=
  s.complete a.1 a.2.2 (leBytes 1 (s.slotState a.2.1).code ++ leBytes 1 (s.slot a.2.1).mode.code ++ leBytes 2 0 ++ leBytes 8 s.clk.tickOpt)

/-! Sampling (08 R216 to R238). -/

/-- Whether slot `n` samples at this tick, being due. -/
def State.slotSamples (s : State) (n : Nat) : Bool := (s.slot n).enF && !(s.slot n).fault

/-- PV of a slot: its value and whether it is valid. -/
def State.slotPv (s : State) (b : List Byte) : Sig :=
  if recPv b = noRef then (fNaN, false) else let v := s.sig (recPv b)
    (v.1, v.2 && !fIsNaN v.1)

/-- The mode of a slot at its sample instant (08 R235, R237, R238), and the law that comes into force.  At an entry into AUTO its generator's target
becomes r (09 R252): at once where no machine function owns it, with a function where the entry is not by its own mode or overlay, whose rules set the
target (log 115). -/
def State.slotModeStep (s : State) (n : Nat) : State :=
  let b := s.slotB n
  let c := s.slot n
  let own := s.img.mfOfSlot n
  let want := match own with
    | some m => s.mfSlotMode m
    | none => (c.remManual, c.man)
  let mode : LoopMode := if s.bindAccepts b = false then .track else if want.1 then .manual else .auto
  let entry := mode == .auto && (c.mode != .auto || c.entering)
  let sel := (s.loopWord n 0).toNat % 65536
  let newLaw := sel != c.lawInForce
  let s1 := s.updSlot n fun c =>
    { c with mode := mode, remManual := want.1, man := want.2, transfer := c.transfer || entry || newLaw, lawInForce := sel, entering := false,
             bumpF := if newLaw then expRatio (recTp b) (f32At (s.img.law sel) 12) else c.bumpF }
  if entry then
    (match own with
      | some m => if c.mode = .track ∧ (rd s.prf.mf m).st = .normal then s1.mfHere m else s1
      | none => (s1.updPg n fun q => { q with target := q.p }).updSlot n fun c => if (rd s.prf.pg n).src = .outer then { c with sp := none } else c)
  else s1

/-- The advance of slot `n`'s generator (08 R214 step 4; 09 R245 to R252). -/
def State.slotGenerator (s : State) (n : Nat) : State :=
  let b := s.slotB n
  let c := s.slot n
  let q := rd s.prf.pg n
  let pv := s.slotPv b
  if c.mode ≠ .auto ∧ lawTrackPv (s.img.law c.lawInForce) then
    s.updPg n fun q => (if pv.2 then { q with p := dOfF pv.1, v := 0, a := 0, plan := none, followPv := true, limited := false, excess := false }.arrive
      else { q with followPv := true }).publish
  else
    let cmd : PgMode × F64 := match q.src with
      | .mf => (match s.img.mfOfSlot n with
        | some m => (match s.mfGen m with
          | some g => (g.1, dOfF g.2)
          | none => (q.mode, q.target))
        | none => (q.mode, q.target))
      | .outer => (.track, (c.sp.map dOfF).getD q.target)
      | .const => (.move, q.target)
    let r := q.clampTo (s.img.posRange n) cmd.2
    s.updPg n fun _ => (r.2.advance (recH b) (recPeriod b) (s.pgLimits n) (s.img.pgTol n) cmd.1 r.1).publish

/-- Set-point, velocity and acceleration at a sample (08 R225, R236): a direct LOOP binding gives r itself. -/
def State.slotSp (s : State) (n : Nat) : F32 × F32 × F32 :=
  let q := rd s.prf.pg n
  match (s.slot n).sp with
  | some u => if q.src = .outer then (q.posReg, q.velReg, q.accReg) else (u, fZero, fZero)
  | none => (q.posReg, q.velReg, q.accReg)

/-- The gain-schedule factor G (08 R231). -/
def State.slotGain (s : State) (b : List Byte) : F32 :=
  match s.img.tableOf kCurve (recSched b) with
  | some c => (curveEval c (s.sig (u32 c 8)) (if curve2D c then s.sig (u32 c 12) else sigNone)).1
  | none => fOne

/-- The output path of slot `n` applied to `v` under the limits of its sample (08 R231; 03 R86). -/
def State.slotPath (s : State) (n : Nat) (j : LoopJob) (v : F32) : F32 × Bool × Bool :=
  outPath j.lo j.hi j.rate (recTp (s.slotB n)) (s.slotUp n) v

/-- Whether the stall injection withholds the next posting of slot `n`. -/
def State.stallTake (s : State) (n : Nat) : Bool × State :=
  let x := s.lop.stall
  if x.slot = n ∧ 0 < x.count then (true, { s with lop := { s.lop with stall := { x with count := x.count - 1 } } }) else (false, s)

/-- The start of a computation: the job of slot `n`, its sample having given `j`.  Whether a SELECT is skipped shows only once its
candidates are done (08 R230), so it keeps its count of skipped samples until then. -/
def State.slotStart (s : State) (n : Nat) (j : LoopJob) : State :=
  let (st, t) := s.stallTake n
  t.updSlot n fun c => { c with job := some { j with stalled := st }, inputInvalid := j.select && c.inputInvalid,
                                invRun := if j.select then c.invRun else 0 }

/-- A sample of slot `n` at this tick (08 R214 step 5, R217, R224 to R237). -/
def State.slotSample (s : State) (n : Nat) : State :=
  let b := s.slotB n
  let c := s.slot n
  let tick := s.clk.tick
  let out := tick + recOffset b
  let sp := s.slotSp n
  let pv := s.slotPv b
  let s1 := s.updSlot n fun c => { c with spReg := sp.1, pvReg := if pv.2 then pv.1 else fNaN, lastOut := out }
  let j0 : LoopJob := { tick := tick, outTick := out, posted := false, lawId := 0xFFFF, select := false, stalled := false,
                        lo := s.loopWord n 1, hi := s.loopWord n 2, rate := s.loopWord n 3, u := fZero, v := c.v, e := c.e, z1 := c.z1, limited := false, rateLim := false, chosen := c.chosen, law := c.law }
  match c.mode with
  | .track =>
    let held := s.bindHeld b
    s1.updSlot n fun c => { c with u := held, applied := true, outReg := held, lastOut := tick, inputInvalid := false }
  | .manual =>
    let r := s.slotPath n j0 c.man
    s1.slotStart n { j0 with u := r.1, limited := r.2.1, rateLim := r.2.2 }
  | .auto =>
    let l := s.img.law c.lawInForce
    if lawType l = 5 then
      if recPv b ≠ noRef ∧ pv.2 = false then s1.slotInvalid n (!recInvFault b) out
      else s1.slotStart n { j0 with lawId := c.lawInForce, select := true }
    else
      let aux := (List.range 3).map fun i => if recAux b i = noRef then (fZero, true) else s.sig (recAux b i)
      let e := lawSign l (fsub sp.1 pv.1)
      let mapIn : F32 := match u8 l 34 with
        | 0 => e
        | 1 => pv.1
        | _ => sp.1
      let map : Sig := if lawType l = 4 then (match s.img.tableOf kCurve (u16 l 32) with
          | some t => curveEval t (mapIn, true) (if curve2D t then s.sig (u32 t 12) else sigNone)
          | none => sigNone) else (fZero, true)
      let ok := pv.2 && map.2 && !fIsNaN map.1 && (lawType l != 3 || aux.all fun v => v.2 && !fIsNaN v.1)
      if ok = false then s1.slotInvalid n (!recInvFault b) out
      else
        let x : LawIn := { r := sp.1, vRef := sp.2.1, aRef := sp.2.2, y := pv.1, aux := aux.map fun v => v.1, map := map.1, g := s.slotGain b,
                           k0 := s.loopWord n 4, k1 := s.loopWord n 5, k2 := s.loopWord n 6, k3 := s.loopWord n 7, up := s.slotUp n,
                           tp := recTp b, transfer := c.transfer }
        let o := lawEval l x c.law
        let r := s.slotPath n j0 o.v
        s1.slotStart n { j0 with lawId := c.lawInForce, u := r.1, v := o.v, e := e, z1 := o.z1, limited := r.2.1, rateLim := r.2.2, law := o.st }

/-- A result posted (08 R218, R221): the law's state, and CONSEC and OVR_LAST cleared. -/
def State.slotPost (s : State) (n : Nat) (j : LoopJob) (clocks : Nat) : State :=
  s.updSlot n fun c =>
    { c with job := some { j with posted := true }, v := j.v, e := j.e, z1 := j.z1, chosen := j.chosen, outReg := j.u, consec := 0,
             ovrLast := false, cycles := satNat 16 clocks, transfer := c.transfer && j.lawId == 0xFFFF }

/-- A SELECT computed from its completed candidates (08 R230). -/
def State.selectDone (s : State) (n : Nat) (j : LoopJob) (clocks : Nat) : State :=
  let c := s.slot n
  let l := s.img.law j.lawId
  match selectPick (u8 l 32 == 1) ((s.candJobs j).map fun p => (p.1, p.2.2.u)) with
  | none => s.slotInvalid n true j.outTick
  | some p =>
    let up := s.slotUp n
    let v := if c.transfer then up else fadd p.2 c.law.bias
    let bias := if c.transfer then fsub up p.2 else c.law.bias
    let r := s.slotPath n j v
    let j1 := { j with u := r.1, v := v, limited := r.2.1, rateLim := r.2.2, chosen := p.1, law := { c.law with bias := bias } }
    (((s.finishCands j r.1).lawDone n j1 r.1).slotPost n j1 clocks).updSlot n fun c => { c with inputInvalid := false, invRun := 0 }

/-- The deadline of a computation: 15 µs before its output instant (08 R218). -/
def State.jobDeadline (s : State) (j : LoopJob) : Opt := s.clk.tickOpt + 50000 * (j.outTick - s.clk.tick) - 15000

/-- The cycles of a tick counted against a processor (08 R244). -/
def Proc.spend (p : Proc) (clocks : Nat) : Proc :=
  let u := p.used + clocks
  { p with used := u, peak := max p.peak (min 255 (u * 100 / 25600)) }

/-- Whether job `q` of slot `m` runs before job `j` of slot `n` (08 R219): both of one tick, the earlier deadline first, then a SELECT
after its candidates, then the lower slot. -/
def State.runsBefore (s : State) (m : Nat) (q : LoopJob) (n : Nat) (j : LoopJob) : Bool :=
  let cand (k : LoopJob) (i : Nat) : Bool := k.select && (selectCands (s.img.law k.lawId)).contains i
  q.tick == j.tick && (decide (q.outTick < j.outTick)
    || (q.outTick == j.outTick && (cand j m || (!cand q n && decide (m < n)))))

/-- Whether another computation of slot `n`'s processor is still to run before its job (08 R219); one that is only withheld has run. -/
def State.runsLater (s : State) (n : Nat) (j : LoopJob) : Bool :=
  (List.range 16).any fun k => (16 * (n / 16) + k != n) && (match (s.slot (16 * (n / 16) + k)).job with
    | some q => !q.posted && !q.stalled && s.runsBefore (16 * (n / 16) + k) q n j
    | none => false)

/-- LOOP_COMPUTATION_DONE (08 R218, R219): a result posted by its deadline, in the running order of its processor; a stalled one only once
its delay is over. -/
def execLoopComputationDone (o : Opt) (slot : Fin 128) (clocks : Nat) (s : State) : Out :=
  let s := s.begin o
  let n := slot.val
  match (s.slot n).job with
  | none => .next s
  | some j =>
    if j.posted ∨ s.runs rCTL = false ∨ (rd s.lop.proc (n / 16)).run = false ∨ s.runsLater n j then .next s
    else
      let s1 := s.updProc (n / 16) fun p => p.spend clocks
      let at_ := if j.stalled then o + 1000 * s.lop.stall.delayUs else o
      if s.jobDeadline j < at_ then .next s1
      else if j.select then .next (s1.selectDone n j clocks)
      else
        let s2 := if (s1.selectOf n j.tick).isSome then s1.updSlot n fun c => { c with law := j.law } else s1.lawDone n j j.u
        .next (s2.slotPost n j clocks)

/-- LOOP_OVERRUN (08 R221): a computation unfinished at its deadline. -/
def execLoopOverrun (slot : Fin 128) (s : State) : Out :=
  let s := s.start
  match (s.slot slot.val).job with
  | some j => if j.posted ∨ s.runs rCTL = false then .next s else .next ((s.reach (s.jobDeadline j)).overrun slot.val j)
  | none => .next s

/-- A processor leaves RUN (08 R223): its slots fault at the next tick; results not posted are lost. -/
def State.procDown (s : State) (p : Nat) (code : Byte) : State :=
  let s1 := s.updProc p fun x => { x with run := false, lastErr := code }
  (List.range 16).foldl (fun t k =>
    let n := 16 * p + k
    let t1 := t.updSlot n fun c => { c with job := match c.job with
      | some j => if j.posted then some j else none
      | none => none }
    t1.slotFault n 0x03 (t.clk.tick + 1)) s1

/-- LOOP_PROCESSOR_DOWN (08 R223). -/
def execLoopProcessorDown (o : Opt) (proc : Fin 8) (s : State) : Out :=
  let s := s.begin o
  .next (if (rd s.lop.proc proc.val).run then (s.procDown proc.val (rd s.lop.proc proc.val).lastErr) else s)

/-! The loop engine at a tick (08 R214). -/

/-- The loop and profile groups whose boundary this tick is (08 R239; 09 R253). -/
def State.lopGroups (s : State) : State :=
  ((s.grp.snaps.map Snap.group).filter fun g => g / 256 == 4 || g / 256 == 5).foldl (fun t g => t.applyGroup g) s

/-- The slots of the image in ascending order. -/
def State.slotsUsed (s : State) : List Nat := (List.range 128).filter fun n => s.slotUsed n

/-- Commands and enables of every slot at this tick (08 R214 step 2). -/
def State.lopCommands (s : State) (ns : List Nat) : State × List LoopAnswer :=
  ns.foldl (fun (a : State × List LoopAnswer) n =>
    let r := a.1.slotCommands n (a.1.slotDue n)
    (r.1.slotSetEnable n (r.1.lop.en.getLsbD n), a.2 ++ r.2)) (s, [])

/-- A slot whose processor does not run enters FAULT instead of sampling (08 R223). -/
def State.slotProcCheck (s : State) (n : Nat) : State :=
  if (rd s.lop.proc (n / 16)).run then s else s.slotFault n 0x03 (s.clk.tick + 1)

/-- The slots that sample at this tick: their modes, then their generators, then their computations, SELECT slots last (08 R214,
R219, R230). -/
def State.lopSamples (s : State) (due : List Nat) : State :=
  let s1 := due.foldl (fun t n => t.slotProcCheck n) s
  let on := due.filter fun n => s1.slotSamples n
  let s2 := on.foldl (fun t n => t.slotModeStep n) s1
  let s3 := on.foldl (fun t n => t.slotGenerator n) s2
  on.foldl (fun t n => t.slotSample n) s3

/-- LOP's step 2 alone, and what is to be answered after the tick. -/
def State.lopTickStart (s : State) : State × List LoopAnswer :=
  let ns := s.slotsUsed
  let s0 : State := { s with lop := { s.lop with proc := s.lop.proc.map fun (p : Proc) => { p with used := 0 } } }
  (ns.foldl (fun t n => t.slotOutputs n) s0).lopGroups.lopCommands ns

/-- Steps 4 and 5. -/
def State.lopTickSample (s : State) : State := s.lopSamples (s.slotsUsed.filter fun n => s.slotDue n)

/-- The host falls silent: slots in MANUAL by LOOP_COMMAND follow their HOST_ABSENCE byte (08 R241). -/
def State.lopAbsent (s : State) : State :=
  s.slotsUsed.foldl (fun t n =>
    let c := t.slot n
    if c.cmdManual ∧ c.remManual ∧ (t.img.mfOfSlot n).isNone then
      match t.img.hostAbsence 0x0401 n 0 with
      | 1 => t.updSlot n fun c => { c with remManual := false, cmdManual := false }
      | 2 => t.updSlot n fun c => { c with man := recFallback (t.slotB n) }
      | _ => t
    else t) s

/-- The counters of the slots in a mask cleared (08 R244). -/
def State.lopCntClear (s : State) (i : Nat) (v : Word) : State :=
  (List.range 32).foldl (fun t b => if bit v b then t.updSlot (32 * i + b) fun c => { c with ovrCnt := 0, invCnt := 0 } else t) s

/-- The slots, generators and functions as power-up leaves them (08 R241; 09 R255, R265). -/
def State.lopStart (s : State) : State :=
  let im := s.img
  let src (n : Nat) : PgSource := if (im.mfOfSlot n).isSome then .mf
    else if (List.range 128).any (fun k => match im.slotRec k with
      | some b => recKind b == 5 && recIdx b == n && recTrack b
      | none => false) then .outer else .const
  let slot (n : Nat) : Slot := match im.slotRec n with
    | none => Slot.reset
    | some b => { Slot.reset with remManual := u8 b 41 == 1, man := recFallback b, mode := if u8 b 41 = 1 then .manual else .auto,
                                  released := true }
  let en := ((List.range 128).map fun n => match im.slotRec n with
    | some b => if u8 b 40 = 1 then 2 ^ n else 0
    | none => 0).foldl (· + ·) 0
  let mf (m : Nat) : Mf := match im.mfRec m with
    | none => Mf.reset
    | some b => { Mf.reset with mode := u8 b 1, st := .loopDown, idle := false, tgt := im.pgInit (u8 b 0), manual := f32At b 40 }
  { s with
    lop := { LopSt.reset with en := BitVec.ofNat 128 en, slot := Vector.ofFn fun (i : Fin 128) => slot i.val,
                              proc := Vector.ofFn fun (i : Fin 8) => { Proc.reset with run := true, load := im.procLoad i.val * 100 / 25600 } },
    prf := { PrfSt.reset with pg := Vector.ofFn fun (i : Fin 128) => im.pgStart i.val (src i.val), mf := Vector.ofFn fun (i : Fin 48) => mf i.val,
                              absentEdge := true } }

/-! Commands of the host (08 R240). -/

/-- A LOOP_COMMAND's own checks and its wait for its instant. -/
def loopOp (r : HostReq) (cmd : Nat) (slot : W16) (value : F32) (s : State) : OpRes :=
  let n := slot.toNat
  if 128 ≤ n ∨ s.slotUsed n = false ∨ (fIsFin value = false ∧ ¬ (cmd = 2 ∧ fIsNaN value = true)) then .refuse stRANGE []
  else if cmd ≤ 3 ∧ (s.img.mfOfSlot n).isSome then .refuse 0x8403 []
  else .wait (s.updSlot n fun c => { c with cmds := c.cmds ++ [⟨cmd, value, r⟩] })

/-- LOOP_AUTO (08 R240). -/
def execLoopAuto (r : HostReq) (slot : W16) (value : F32) (s : State) : Out := .next (hostOp r 0x0051 1 10 (loopOp r 1 slot value) s)
/-- LOOP_MANUAL (08 R240). -/
def execLoopManual (r : HostReq) (slot : W16) (value : F32) (s : State) : Out := .next (hostOp r 0x0051 1 10 (loopOp r 2 slot value) s)
/-- LOOP_SET_MANUAL (08 R240). -/
def execLoopSetManual (r : HostReq) (slot : W16) (value : F32) (s : State) : Out := .next (hostOp r 0x0051 1 10 (loopOp r 3 slot value) s)
/-- LOOP_RESTART (08 R240). -/
def execLoopRestart (r : HostReq) (slot : W16) (value : F32) (s : State) : Out := .next (hostOp r 0x0051 1 10 (loopOp r 4 slot value) s)
/-- LOOP_ENABLE (08 R240). -/
def execLoopEnable (r : HostReq) (slot : W16) (value : F32) (s : State) : Out := .next (hostOp r 0x0051 1 10 (loopOp r 5 slot value) s)
/-- LOOP_DISABLE (08 R240). -/
def execLoopDisable (r : HostReq) (slot : W16) (value : F32) (s : State) : Out := .next (hostOp r 0x0051 1 10 (loopOp r 6 slot value) s)

/-! What the channels are commanded to (15 R393; 16 R416). -/

/-- The command of a valve channel: its slot's output in mA, or a legacy channel's duty. -/
def State.vlvWant (s : State) (n : Nat) : Nat :=
  if s.vlvMode n = 2 then rd s.vlv.legDuty n
  else match s.boundSlots 1 n with
    | k :: _ => (clampInt 0 65535 (fRoundAway (s.slot k).u)).toNat
    | [] => 0

/-- The command of a switch channel in 0.1 %: its slot's output, or its register. -/
def State.pswWant (s : State) (n : Nat) : Nat :=
  match s.boundSlots 2 n with
  | k :: _ => dutyOf (s.slot k).u
  | [] => rd s.psw.duty n

/-- The commands of every used channel taken for the next frame (01 R28). -/
def State.wantTick (s : State) : State :=
  { s with
    vlv := { s.vlv with ch := mapIdxV s.vlv.ch fun n (c : VlvCh) => if s.vlvMode n = 0 then c else { c with want := s.vlvWant n } },
    psw := { s.psw with ch := mapIdxV s.psw.ch fun n (c : PswCh) => if s.pswUsed n then { c with want := s.pswWant n } else c } }

end Sys2Proof.Machine
end

