-- ==== Sys2Proof/Machine/Eth.lean ====
section
/-! DEFINITION. Ethernet ports and path redundancy (19): conditions, probes, Equinox, swaps, and the answers of an interface. -/

namespace Sys2Proof.Machine

/-- PATH_LINK_DOWN (19 R478): the PHY of `port` has reported link failure since `first`. -/
def execPathLinkDown (o : Opt) (port : Fin 7) (first : Opt) (s : State) : Out :=
  let s := s.begin o
  let p := rd s.eth.port port.val
  let wait := if port.val < 2 then 1000000 * s.img.downMs 0 else 0
  if s.runs rNET = false ∨ p.enF = false ∨ p.link = false ∨ o < first + wait then .next s
  else
    let s1 := s.updPort port.val fun x => { x with link := false, lastErr := 1 }
    .next (if port.val < 2 then s1.pathCond 0 (port.val == 1) .link first else s1)

/-- The ERROR entries of controller `n` within the 100 ms up to OPT `o`. -/
def State.errEntries (s : State) (n : Nat) (o : Opt) : Nat :=
  ((s.cc n).ring.filter fun e => e.kind == 3 && decide (o ≤ e.opt + 100000000)).length

/-- The frames with FCS errors at a backbone member within the 100 ms up to OPT `o`. -/
def Member.fcsErrors (m : Member) (o : Opt) : List Opt := m.fcsAt.filter fun t => decide (t ≤ o) && decide (o ≤ t + 100000000)

/-- The frames with FCS errors that a backbone port has received since it last told of them, at the OPTs `l`, counted (19 R478, R492). -/
def State.fcsErrors (s : State) (memberB : Bool) (l : List Opt) : State :=
  let s1 := s.updPort (memberUnit 0 memberB) fun x => { x with fcs := satAdd x.fcs l.length, err := x.err || !l.isEmpty }
  s1.updPair 0 fun q => q.updMem memberB fun m => { m with fcsAt := { m with fcsAt := l ++ m.fcsAt }.fcsErrors s.clk.opt }

/-- PATH_ERRORS (19 R478): a backbone member's frames with FCS errors, at the OPTs `fcs`, or a CAN member's ERROR entries; more than ERR_MAX
within 100 ms are a condition. -/
def execPathErrors (o : Opt) (pair : Fin 3) (memberB : Bool) (fcs : List Opt) (s : State) : Out :=
  let s := s.begin o
  let p := pair.val
  if s.runs rNET = false ∨ (p = 0 ∧ (rd s.eth.port (memberUnit 0 memberB)).enF = false) then .next s
  else
    let s1 := if p = 0 then s.fcsErrors memberB fcs else s
    let n := if p = 0 then ((s1.pair 0).mem memberB).fcsAt.length else s1.errEntries (memberUnit p memberB) o
    if s1.pairOn p = false ∨ n ≤ s1.img.errMax p then .next s1
    else
      let s2 := if p = 0 then s1.updPort (memberUnit 0 memberB) fun x => { x with lastErr := 2 } else s1
      .next (s2.pathCond p memberB .errors o)

/-- Whether controller `n` received a valid frame within `w` ns up to OPT `o`. -/
def State.canHeard (s : State) (n : Nat) (o w : Opt) : Bool :=
  (s.cc n).ring.any fun e => e.kind == 0 && decide (o < e.opt + w)

/-- PATH_SILENCE (19 R478): a CAN member has received nothing for PROBE_MS while the other has. -/
def execPathSilence (o : Opt) (pair : Fin 2) (memberB : Bool) (s : State) : Out :=
  let s := s.begin o
  let p := pair.val + 1
  let w := 1000000 * s.img.probeMs p
  if s.runs rNET = false ∨ s.pairOn p = false ∨ s.canHeard (memberUnit p memberB) o w ∨ ¬ s.canHeard (memberUnit p (!memberB)) o w
  then .next s
  else .next (s.pathCond p memberB .silence o)

/-- A probe of a backbone path (19 R479), from its own port address: ICMP from the interface's IPv4 address where PEER is IPv4-mapped, and
ICMPv6 from the port's link-local address otherwise. -/
def State.probeMsg (s : State) (n : Nat) : Msg :=
  let a := s.img.peer
  if allZero (span a 0 10) ∧ u16 a 10 = 0xFFFF then .net n netProbe4 (s.netTag 0) (s.mac (n + 1) ++ (s.addr4 0).getD [0, 0, 0, 0] ++ span a 12 4)
  else .net n netProbe (s.netTag 0) (s.mac (n + 1) ++ linkLocal (s.mac (n + 1)) ++ a)

/-- PROBE_SEND (19 R479): every PROBE_MS. -/
def execProbeSend (o : Opt) (memberB : Bool) (s : State) : Out :=
  let s := s.begin o
  let n := if memberB then 1 else 0
  if s.runs rNET = false ∨ s.pairOn 0 = false ∨ s.img.probes = false ∨ (rd s.eth.port n).enF = false
      ∨ ((s.pair 0).mem memberB).probe.isSome
      ∨ ((s.pair 0).mem memberB).sent.any (fun t => decide (o < t + 1000000 * s.img.probeMs 0)) then .next s
  else .next ((s.updPair 0 fun q => q.updMem memberB fun m => { m with probe := some o, sent := some o }).send (s.probeMsg n))

/-- PROBE_TIMEOUT (19 R478, R479): no answer within PROBE_MS; PROBE_LOSS in a row are silence, unless the other is silent. -/
def execProbeTimeout (o : Opt) (memberB : Bool) (s : State) : Out :=
  let s := s.begin o
  let n := if memberB then 1 else 0
  match ((s.pair 0).mem memberB).probe with
  | none => .next s
  | some t =>
    if s.runs rNET = false ∨ o < t + 1000000 * s.img.probeMs 0 then .next s
    else
      let s1 := (s.updPair 0 fun q => q.updMem memberB fun m => { m with probe := none, lostRun := m.lostRun + 1 }).updPort n
        fun x => { x with lost := satInc x.lost, err := true }
      let q := s1.pair 0
      if (q.mem memberB).lostRun < s1.img.probeLoss then .next s1
      else if s1.img.probeLoss ≤ (q.mem (!memberB)).lostRun then
        .next (s1.updPair 0 fun q => q.updMem (!memberB) fun m => { m with cSil := false })
      else .next ((s1.updPort n fun x => { x with lastErr := 3 }).pathCond 0 memberB .silence o)

/-- PROBE_REPLY (19 R479): within PROBE_MS. -/
def execProbeReply (o : Opt) (memberB : Bool) (s : State) : Out :=
  let s := s.begin o
  match ((s.pair 0).mem memberB).probe with
  | none => .next s
  | some t =>
    if s.runs rNET = false ∨ t + 1000000 * s.img.probeMs 0 < o then .next s
    else .next (s.updPair 0 fun q => q.updMem memberB fun m =>
      { m with probe := none, lostRun := 0, cSil := false, answered := m.answered || m.health == .checking })

/-- PATH_CONDITION_CLEAR (19 R478, R480): the link is back and the errors have passed; the conditions that State can tell must
have ended. -/
def execPathConditionClear (o : Opt) (pair : Fin 3) (memberB : Bool) (s : State) : Out :=
  let s := s.begin o
  let p := pair.val
  let n := memberUnit p memberB
  let m := (s.pair p).mem memberB
  let held : Bool := if p = 0 then !(rd s.eth.port n).enF || (s.img.probes && m.cSil) || decide (s.img.errMax 0 < (m.fcsErrors o).length)
    else let c := s.cc n
      !c.enF || c.fault || c.bus == .busOff || decide (s.img.errMax p < s.errEntries n o)
        || (m.cSil && !s.canHeard n o (1000000 * s.img.probeMs p) && s.canHeard (memberUnit p (!memberB)) o (1000000 * s.img.probeMs p))
  if s.runs rNET = false ∨ s.pairOn p = false ∨ m.health ≠ .down ∨ held then .next s
  else
    let s1 := if p = 0 then s.updPort n fun x => { x with link := true } else s
    .next ((s1.updPair p fun q => q.updMem memberB fun m => { m with cDis := false }).pathClear p memberB)

/-- MIRROR_COPY_COMPLETE (19 R485). -/
def execMirrorCopyComplete (o : Opt) (pair : Fin 3) (memberB : Bool) (s : State) : Out :=
  let s := s.begin o
  let q := s.pair pair.val
  if s.runs rNET = false ∨ s.pairOn pair.val = false ∨ q.active = 2 ∨ (q.mem memberB).health ≠ .checking then .next s
  else .next (s.updPair pair.val fun q => q.updMem memberB fun m => { m with mirror := true })

/-- PATH_READY (19 R478). -/
def execPathReady (o : Opt) (pair : Fin 3) (memberB : Bool) (s : State) : Out :=
  let s := s.begin o
  let p := pair.val
  let m := (s.pair p).mem memberB
  if s.runs rNET = false ∨ s.pairOn p = false ∨ m.health ≠ .checking ∨ o < m.since + 1000000000 * s.img.returnS p
      ∨ (p = 0 ∧ s.img.probes ∧ m.answered = false) ∨ m.mirror = false then .next s
  else .next (s.memberReady p memberB)

/-- Whether OPT `o` is an Equinox instant of pair `p` (19 R483). -/
def State.equinoxAt (s : State) (p : Nat) (o : Opt) : Bool :=
  let k := s.img.eqxMin p
  let minute := 60000000000
  let n := s.gridAt o / minute
  k != 0 && o != 0 && n != s.gridAt (o - 1) / minute && (n + k - s.img.eqxOfs p % k) % k == 0

/-- EQUINOX (19 R480, R483): skipped in a gap, deferred while the standby is not READY or an activation is near, else a planned
swap. -/
def execEquinox (o : Opt) (pair : Fin 3) (s : State) : Out :=
  let s := s.begin o
  let p := pair.val
  if s.runs rNET = false ∨ s.pairOn p = false ∨ s.equinoxAt p o = false ∨ (s.pair p).active = 2 ∨ (s.pair p).inGap o then .next s
  else if s.standbyReady p ∧ s.actSoon = false then .next (s.plannedSwap p)
  else .next ((s.updPair p fun q => { q with eqxDefer := true, deferCnt := satInc q.deferCnt }).notice 0x0004 0x0F p fZero)

/-! Registers (19 R492). -/

/-- Whether a SWAP of pair `p` is accepted: none where the pair is refused by range. -/
def State.swapReady (s : State) (p : Nat) : Bool := s.standbyReady p

/-- A write of ETH_EN (19 R492): at once; a disabled member meets its condition, and a disabled SVC closes its sessions. -/
def State.ethEnable (s : State) (v : Nat) : State :=
  let s1 := (List.range 7).foldl (fun t n =>
    let en := v.testBit n
    let old := (rd t.eth.port n).enF
    if en = old then t
    else
      let t1 := t.updPort n fun x => { x with enF := en, link := en && (decide (2 ≤ n) || !t.pairOn 0), fault := x.fault && en }
      if n < 2 ∧ t1.pairOn 0 then
        (if en then t1.updPair 0 fun q => q.updMem (n == 1) fun m => { m with cDis := false, cLink := true }
         else t1.pathCond 0 (n == 1) .disable t1.clk.opt)
      else if n = 6 ∧ en = false then
        (List.range 8).foldl (fun u i => if (u.sess i).isOpen ∧ (u.sess i).port = 5 then u.endSession i else u) t1
      else t1) s
  s1.updEth fun x => { x with en := BitVec.ofNat 7 v }

/-- A write of ETH_CNT_CLR. -/
def State.ethCntClear (s : State) (v : Word) : State :=
  s.updEth fun x => { x with
    port := mapIdxV x.port fun n (q : EthPort) => if v.getLsbD n then { q with fcs := 0, lost := 0 } else q
    pair := mapIdxV x.pair fun p (q : Pair) =>
      if v.getLsbD (8 + p) then { q with swapCnt := 0, faultCnt := 0, deferCnt := 0, failCnt := 0, maxGap := 0 } else q }

/-! Interfaces (19 R475, R476). -/

/-- The port that serves interface `i`, and the index of its MAC address: the backbone's member, LOC0 to LOC3, SVC. -/
def State.ifacePort (s : State) (i : Nat) (pathB : Bool) : Nat × Nat :=
  if i = 0 then
    (if s.boot.noImage then (if pathB then (1, 2) else (0, 1))
     else if s.pairOn 0 then ((s.pair 0).active, 0) else (0, 0))
  else if i = 5 then (6, 7) else (i + 1, i + 2)

/-- Whether an address is one that interface `i` answers to (19 R475, R476); IPv6 includes the all-nodes address. -/
def State.ownAddr (s : State) (i k : Nat) (v6 : Bool) (a : List Byte) : Bool :=
  if v6 then a == [0xFF, 2, 0, 0, 0, 0, 0, 0, 0, 0, 0, 0, 0, 0, 0, 1]
    || (if s.boot.noImage then [linkLocal (s.mac k)] else s.addr6 i k).contains a
  else !s.boot.noImage && s.addr4 i == some a

/-- A frame for interface `i` that reached a standby path, or came in a gap of the backbone pair (19 R477, R482). -/
def State.onStandby (s : State) (i : Nat) (pathB : Bool) : Bool :=
  i == 0 && !s.boot.noImage && s.pairOn 0 && ((s.pair 0).active != (if pathB then 1 else 0) || (s.pair 0).inGap s.clk.opt)

/-- The answer of an interface to a request for one of its addresses that came with the VLAN ID `vlan`, or untagged. -/
def State.answer (s : State) (i : Nat) (pathB v6 : Bool) (vlan : Option Nat) (a : List Byte) (kind : Nat) (reply : List Byte → List Byte) :
    State :=
  let (port, k) := s.ifacePort i pathB
  if s.runs rNET = false then s
  else if s.onStandby i pathB then
    (if (s.pair 0).active = 2 ∨ (s.pair 0).active = (if pathB then 1 else 0) then s else s.updEth fun v => { v with stbyDisc := satInc v.stbyDisc })
  else if (rd s.eth.port port).enF = false ∨ vlan ≠ (s.netTag i).map (fun t => t % 4096) ∨ s.ownAddr i k v6 a = false then s
  else (s.updPort port fun x => { x with link := true }).send (.net port kind (s.netTag i) (reply (s.mac k)))

/-- ECHO_REQUEST (19 R475): answered with the payload it carries. -/
def execEchoRequest (o : Opt) (iface : Fin 6) (pathB v6 : Bool) (vlan : Option Nat) (toward payload : List Byte) (s : State) : Out :=
  .next ((s.begin o).answer iface.val pathB v6 vlan toward netEcho fun _ => payload)

/-- ADDRESS_RESOLUTION (19 R475): answered with the interface's MAC address. -/
def execAddressResolution (o : Opt) (iface : Fin 6) (pathB v6 : Bool) (vlan : Option Nat) (target : List Byte) (s : State) : Out :=
  .next ((s.begin o).answer iface.val pathB v6 vlan target netResolve fun m => m)

/-- The Ethernet block as it starts (19 R476, R480, R489): the ports of the image or of the recovery configuration, each pair
in NONE with its members DOWN until their conditions have ended. -/
def State.ethStart (s : State) : State :=
  let en (n : Nat) : Bool := if s.boot.noImage then n == 0 || n == 1 || n == 6
    else match s.img.record 0x0F01 0x0001 4 n with
      | some b => u8 b 0 == 1
      | none => n == 6
  let ens := (List.range 7).foldl (fun a n => if en n then a + 2 ^ n else a) 0
  s.updEth fun v => { v with
    en := BitVec.ofNat 7 ens
    port := mapIdxV v.port fun n (x : EthPort) => { x with enF := en n, link := en n && (decide (2 ≤ n) || !s.pairOn 0) }
    pair := mapIdxV v.pair fun p (q : Pair) =>
      if s.pairOn p then
        let m (b : Bool) : Member :=
          { Member.reset with health := .down, cLink := p == 0, cDis := if p = 0 then !en (if b then 1 else 0) else false }
        { q with a := m false, b := m true, active := 2, prevAct := 2 }
      else q }

/-- The CAN pairs as they start: the members whose controllers are enabled qualify at once, START first (19 R480). -/
def State.canPairsStart (s : State) : State :=
  [1, 2].foldl (fun t p =>
    if t.pairOn p then
      let st := t.img.pairField p (fun b => u8 b 1 == 1) false
      let one (u : State) (b : Bool) : State := if (u.cc (memberUnit p b)).enF then u.pathClear p b else u
      one (one t st) (!st)
    else t) s

end Sys2Proof.Machine
end

