-- ==== Sys2Proof/Machine/Yield.lean ====
section
/-! DEFINITION. The yield mapper (13): entries, the coverage raster, records and their flow, the lag estimate, storage and
publishing. -/

namespace Sys2Proof.Machine

/-- The state with the mapper changed. -/
def State.updYld (s : State) (f : YldSt → YldSt) : State := { s with yld := f s.yld }

/-! Configuration (13 R351, R362, R365). -/

/-- A live word of the yield group, the crop in force (07 R192), and the fields of the group. -/
def State.ycfg (s : State) (off : Nat) : Word := s.live (0x90000 + off)
def State.crop (s : State) : Nat := field (s.live 0x30010) 0 4
def State.lagEstMode (s : State) : Bool := bit (s.ycfg 0x100) 0
def State.lagFix (s : State) : Nat := field (s.ycfg 0x100) 16 16
def State.lagMin (s : State) : Nat := field (s.ycfg 0x104) 0 16
def State.lagMax (s : State) : Nat := field (s.ycfg 0x104) 16 16
def State.recDistance (s : State) : Bool := bit (s.ycfg 0x108) 0
def State.recS (s : State) : Nat := field (s.ycfg 0x108) 8 6
def State.recM (s : State) : Nat := field (s.ycfg 0x108) 16 16
def State.bufS (s : State) : Nat := field (s.ycfg 0x10C) 0 6
def State.fillS (s : State) : Nat := field (s.ycfg 0x10C) 8 4 * 1000000000
def State.emptyS (s : State) : Nat := field (s.ycfg 0x10C) 12 4 * 1000000000

/-- 10 ms in nanoseconds. -/
def tenMs : Nat := 10000000

/-- A field of MAPPER, or its default. -/
def State.mapper {α : Type} (s : State) (f : List Byte → α) (dflt : α) : α := s.img.fieldOr 0x0901 0x0001 f dflt

/-- The sections of SECTIONS (13 R362): SRC, WIDTH in mm, OFFSET in mm, from left to right. -/
def Image.yldSections (im : Image) : List (Nat × Nat × Int) :=
  match im.sect 0x0901 0x0002 with
  | none => []
  | some b => (List.range (u16 b 0)).map fun j => (u32 b (4 + 12 * j), u16 b (8 + 12 * j), i32 b (12 + 12 * j))

/-! The coverage raster (13 R340, R341). -/

/-- A cell by its column and row: its centre lies at ((c + 0.5) / 2, (r + 0.5) / 2) m. -/
abbrev Cell := Int × Int

/-- Whether a cell can exist: within ±25,000 m of the origin (13 R341). -/
def cellInRange (c : Cell) : Bool :=
  decide (-50000 ≤ c.1) && decide (c.1 < 50000) && decide (-50000 ≤ c.2) && decide (c.2 < 50000)

/-- Whether tile `t` is the tile of cell `c`. -/
def Tile.holds (t : Tile) (c : Cell) : Bool := t.col == c.1 / 64 && t.row == c.2 / 64

/-- The bit of a cell within its tile. -/
def cellBit (c : Cell) : Nat := ((c.2 % 64) * 64 + c.1 % 64).toNat

/-- Whether a cell is marked. -/
def Raster.marked (r : Raster) (c : Cell) : Bool := r.tiles.any fun t => t.holds c && t.cells.testBit (cellBit c)

/-- The most tiles that exist (13 R341). -/
def maxTiles : Nat := 19532

/-- Marking one cell: the raster, and whether the cell could not be held. -/
def Raster.mark (r : Raster) (c : Cell) : Raster × Bool :=
  if cellInRange c = false then (r, true)
  else if r.tiles.any (fun t => t.holds c) then
    ({ r with tiles := r.tiles.map fun t => if t.holds c then { t with cells := t.cells ||| 2 ^ cellBit c, dirty := true } else t }, false)
  else if r.tiles.length < maxTiles then
    ({ r with tiles := r.tiles ++ [{ col := c.1 / 64, row := c.2 / 64, cells := 2 ^ cellBit c, dirty := true }] }, false)
  else (r, true)

/-- Twice the signed area of a triangle of the plane. -/
def cross (a b p : F64 × F64) : F64 :=
  dsub (dmul (dsub b.1 a.1) (dsub p.2 a.2)) (dmul (dsub b.2 a.2) (dsub p.1 a.1))

/-- Whether a point lies in a triangle, its edges included. -/
def inTriangle (a b c p : F64 × F64) : Bool :=
  let x := cross a b p
  let y := cross b c p
  let z := cross c a p
  (dle 0 x && dle 0 y && dle 0 z) || (dle x 0 && dle y 0 && dle z 0)

/-- Whether a point lies in the quadrilateral a b c d, taken as the triangles a b c and a c d. -/
def inQuad (a b c d p : F64 × F64) : Bool := inTriangle a b c p || inTriangle a c d p

/-- The integers from `lo` to `hi`. -/
def intRange (lo hi : Int) : List Int := (List.range (hi + 1 - lo).toNat).map fun (k : Nat) => lo + (k : Int)

/-- The cells whose centres lie in a quadrilateral (13 R340). -/
def quadCells (a b c d : F64 × F64) : List Cell :=
  let two := dOfInt 2
  let lo (x y z w : F64) : Int := min (min (dFloor (dmul x two)) (dFloor (dmul y two))) (min (dFloor (dmul z two)) (dFloor (dmul w two)))
  let hi (x y z w : F64) : Int := max (max (dFloor (dmul x two)) (dFloor (dmul y two))) (max (dFloor (dmul z two)) (dFloor (dmul w two)))
  let cols := intRange (lo a.1 b.1 c.1 d.1) (hi a.1 b.1 c.1 d.1)
  let rows := intRange (lo a.2 b.2 c.2 d.2) (hi a.2 b.2 c.2 d.2)
  (cols.map fun x => (rows.map fun y => (x, y)).filter fun q =>
    inQuad a b c d (dRat (2 * q.1 + 1) 4, dRat (2 * q.2 + 1) 4)).flatten

/-- The point `r` to the right of a header centre, square to its heading. -/
def rightOf (e : YldEntry) (x y r : F64) : F64 × F64 :=
  let v := aheadRight (dOfF e.hdg) 0 r
  (dadd x v.1, dadd y v.2)

/-- What a sweep of the sections has found: the cells swept so far and the effective swath in m. -/
structure Sweep where
  cells : List Cell
  w : F64
deriving DecidableEq, Repr, Inhabited

/-- One section's part of a sweep (13 R340): `n` cells not swept by a lower section, `m` of them not marked. -/
def sweepSection (r : Raster) (p e : YldEntry) (sec : Nat × Nat × Int) (a : Sweep) : Sweep :=
  let wid := sec.2.1
  let edge (x : YldEntry) (k : Int) : F64 × F64 := rightOf x x.x x.y (dRat (2 * sec.2.2 + k * wid) 2000)
  let mine := (quadCells (edge p (-1)) (edge p 1) (edge e 1) (edge e (-1))).filter fun c => !a.cells.contains c
  let n := mine.length
  let m := (mine.filter fun c => !r.marked c).length
  let part := if n = 0 then dRat wid 1000 else ddiv (dmul (dRat wid 1000) (dOfInt m)) (dOfInt n)
  { cells := a.cells ++ mine, w := dadd a.w part }

/-- The sections that are on, of a mask. -/
def onSections (secs : List (Nat × Nat × Int)) (mask : Nat) : List (Nat × Nat × Int) :=
  (secs.zipIdx.filter fun p => mask.testBit p.2).map fun p => p.1

/-- Marking a list of cells. -/
def Raster.markAll (r : Raster) (l : List Cell) : Raster × Bool :=
  l.foldl (fun a c => let q := a.1.mark c; (q.1, a.2 || q.2)) (r, false)

/-! Fields and their stored rasters (13 R341). -/

/-- Storing the raster of the field in force: its tiles are clean afterwards; the scratch field is never stored. -/
def State.saveRaster (s : State) : State :=
  let y := s.yld
  let clean : Raster := { y.raster with tiles := y.raster.tiles.map fun t => { t with dirty := false } }
  if y.fieldInForce = 0 then s.updYld fun y => { y with rasterAt := s.clk.opt }
  else
    let k := y.fieldInForce.toNat
    { s with yld := { y with raster := clean, rasterAt := s.clk.opt },
             store := { s.store with rasters := s.store.rasters.map fun p => if p.1 = k then (k, clean) else p } }

/-- The field of YLD_FIELD comes into force: its raster is loaded or empty, it becomes the most recently selected, and the
65th stored field displaces the least recently selected one (13 R341); the totals restart (13 R365). -/
def State.selectField (s : State) : State :=
  let t := s.saveRaster
  let k := t.yld.field.toNat
  let r := (lookupN t.store.rasters k).getD Raster.empty
  let rest := t.store.rasters.filter fun p => p.1 != k
  let kept := if rest.length < 64 then rest else rest.drop (rest.length - 63)
  let t1 := if k = 0 then t else { t with store := { t.store with rasters := kept ++ [(k, r)] } }
  t1.updYld fun y => { y with raster := if k = 0 then Raster.empty else r, fieldInForce := y.field, totalWet := 0, totalArea := 0 }

/-- A CLEAR_RASTER takes effect (13 R342): the raster of field `k`, in force or stored, is empty. -/
def State.clearRaster (s : State) (k : Word) : State :=
  if k = s.yld.fieldInForce then s.updYld fun y => { y with raster := { y.raster with tiles := [] } }
  else { s with store := { s.store with rasters := s.store.rasters.map fun p => if p.1 = k.toNat then (p.1, { p.2 with tiles := [] }) else p } }

/-! Entries (13 R338 to R340). -/

/-- The header's state at an entry: working, up, or as it was (13 R339). -/
def State.headerWorking (s : State) : Bool :=
  let src := s.mapper (fun b => u32 b 0) noRef
  if src = noRef then true
  else
    let v := s.sig src
    if v.2 && fle v.1 (s.mapper (fun b => f32At b 4) 0) then true
    else if !v.2 || fle (s.mapper (fun b => f32At b 8) 0) v.1 then false
    else s.yld.working

/-- The sections on at an entry, as bits (13 R339). -/
def State.sectionsOn (s : State) (working : Bool) : Nat :=
  if working then (s.img.yldSections.zipIdx).foldl (fun a p => if sTrue (s.sig p.1.1) then a + 2 ^ p.2 else a) 0 else 0

/-- The header centre point in degrees of the pose in force (13 R338). -/
def State.headerCentre (s : State) : F64 × F64 :=
  let p := s.tim.pose.rcd
  let lat := dRat (i64 p 24) 1000000000
  let lon := dRat (i64 p 32) 1000000000
  let v := aheadRight (dRat (u16 p 52) 100) (dOfF (s.mapper (fun b => f32At b 12) 0)) (dOfF (s.mapper (fun b => f32At b 16) 0))
  planePos lat lon v.1 v.2

/-- An instant on the 10 ms grid of pose epochs that it lies nearest to. -/
def grid10 (t : Nat) : Nat := (t + tenMs / 2) / tenMs

/-- Whether the pose in force gives an entry (13 R338): a multiple of 50 ms of DVT, or every fifth epoch while unset. -/
def State.entryDue (s : State) : Bool :=
  let p := s.tim.pose
  p.rcd != [] && (match s.yld.prev with
    | some e => decide (e.opt < u64 p.rcd 8)
    | none => true)
  && (if (u8 p.rcd 7).testBit 6 then u32 p.rcd 0 % 5 == 0 else grid10 (u64 p.rcd 16) % 5 == 0)

/-- Entries of the buffer that the latest `20 × BUF_S` keep. -/
def trimBuf (n : Nat) (l : List YldEntry) : List YldEntry := l.drop (l.length - n)

/-- What an entry adds to a record (13 R352, R353): RASTER_FULL where a cell of the entry could not be held. -/
def YldRec.take (r : YldRec) (e : YldEntry) : YldRec :=
  { r with last := some e, area := dadd r.area (dmul e.d e.w), dist := dadd r.dist e.d,
           flags := r.flags ||| (if e.posInvalid then 0x0002 else 0) ||| (if e.full then 0x0040 else 0) }

/-- Taking the entries up to `limit` not yet taken, in buffer order (13 R343). -/
def State.takeEntries (s : State) (limit : Opt) : State :=
  let due := s.yld.buf.filter fun e => decide (s.yld.taken < e.opt) && decide (e.opt ≤ limit)
  s.updYld fun y => due.foldl (fun a e => { a with taken := e.opt, openRec := a.openRec.map fun r => r.take e }) y

/-- Taking what is due now: up to L behind the present, not past a boundary that has not been opened. -/
def State.takeDue (s : State) : State :=
  let lim := s.clk.opt - s.yld.lag * tenMs
  match s.yld.bounds with
  | [] => s.takeEntries lim
  | b :: _ => s.takeEntries (min lim b.opt)

/-- Whether an entry is a TIME boundary (13 R342). -/
def State.timeBound (s : State) (e : YldEntry) : Bool :=
  let t := if e.dvtSet then e.dvt else e.opt
  grid10 t % (100 * s.recS) == 0

/-- A lag sample whose edge frame has not come yet is lost when the header leaves its state (13 R349). -/
def LagSample.spoil (x : LagSample) (now : Opt) (edgeSeen : Bool) : LagSample :=
  if edgeSeen ∨ now ≤ x.opt then x else { x with bad := true }

/-- FLOW_EDGE of MAPPER. -/
def State.flowEdge (s : State) : F32 := s.mapper (fun b => f32At b 20) (fOfInt 2)

/-- The frames of a lag sample within an interval of OPT_END. -/
def framesIn (l : List YldFrame) (lo hi : Opt) : List YldFrame := l.filter fun f => decide (lo < f.opt) && decide (f.opt ≤ hi)

/-- The edge frame of a lag sample (13 R349). -/
def State.lagEdge (s : State) (x : LagSample) : Option YldFrame :=
  (framesIn s.yld.history (x.opt + s.lagMin * tenMs) (x.opt + s.lagMax * tenMs)).find? fun f =>
    f.wet.2 && (if x.lower then fle s.flowEdge f.wet.1 else flt f.wet.1 s.flowEdge)

/-- The time mark of the power cycle's start, with the OPT of the first entry, in its place among those that wait (13 R354). -/
def State.startMark (s : State) (e : YldEntry) : State :=
  let m : TimeMark := { opt := e.opt, dvt := e.dvt, dvtSet := e.dvtSet, epoch := e.epoch,
                        cvt := (s.cvtAt e.opt).getD 0, leap := s.leap, mode := s.cvtMode, civil := false }
  s.updYld fun y => { y with
    marks := (y.marks.filter fun k => decide (k.opt ≤ e.opt)) ++ m :: (y.marks.filter fun k => decide (e.opt < k.opt)),
    started := true }

/-- The civil epoch in force at OPT `o`, not later than now (13 R352): the changes after `o` still wait as marks. -/
def State.epochAtOpt (s : State) (o : Opt) : W16 :=
  s.tim.epoch - BitVec.ofNat 16 (s.yld.marks.countP fun m => m.civil && decide (o < m.opt))

/-- The entry of the pose in force, before its step and swath. -/
def State.entryBase (s : State) (working : Bool) (sect : Nat) : YldEntry :=
  let p := s.tim.pose.rcd
  let ok := (u8 p 7).testBit 0 && (u8 p 7).testBit 3
  let c := s.headerCentre
  let dvtSet := !(u8 p 7).testBit 6
  { opt := u64 p 8, dvt := u64 p 16, dvtSet := dvtSet, epoch := s.epochAtOpt (u64 p 8), speed := fRat (i16 p 50) 1000,
    hdg := fRat (u16 p 52) 100, lat := c.1, lon := c.2, height := dRat (i32 p 40) 1000, x := 0, y := 0,
    working := working, sect := sect, d := 0, w := 0, ok := ok, posInvalid := !ok, full := false, solMode := u8 p 5, mode := u8 p 4,
    svUsed := s.nav.svUsed }

/-- An entry in the field's plane. -/
def YldEntry.inPlane (e : YldEntry) (o : F64 × F64) : YldEntry :=
  let q := planeEN o.1 o.2 e.lat e.lon
  { e with x := q.1, y := q.2 }

/-- Σ WIDTH of the sections that are on, in m. -/
def onWidth (l : List (Nat × Nat × Int)) : F64 := l.foldl (fun a p => dadd a (dRat p.2.1 1000)) 0

/-- The step of an entry (13 R338, R340): d, w, and the cells it marks. -/
def State.stepEntry (s : State) (e0 : YldEntry) : YldEntry × State :=
  let on := onSections s.img.yldSections e0.sect
  let still (e : YldEntry) : YldEntry := { e with d := 0, w := onWidth on }
  let origin := match s.yld.raster.origin with
    | some o => some o
    | none => if e0.ok = false then none else some (e0.lat, e0.lon)
  let s1 := s.updYld fun y => { y with raster := { y.raster with origin := origin } }
  match origin, s.yld.prev with
  | some o, some p0 =>
    let e := e0.inPlane o
    if e.ok = false ∨ p0.ok = false then (still { e with posInvalid := true }, s1)
    else
      let p := p0.inPlane o
      let d := if flt e.speed fZero then 0 else planeDist (p.x, p.y) (e.x, e.y)
      if dlt 0 d then
        let w := on.foldl (fun a sec => sweepSection s1.yld.raster p e sec a) { cells := [], w := 0 }
        let m := s1.yld.raster.markAll w.cells
        ({ e with d := d, w := w.w, full := m.2 }, s1.updYld fun y => { y with raster := m.1, rasterFull := y.rasterFull || m.2 })
      else (still e, s1)
  | some o, none => (still (e0.inPlane o), s1)
  | none, _ => (still e0, s1)

/-- YIELD_ENTRY (13 R338 to R343): one step entry, its sweep, its boundaries, its lag sample, and the entries due.  The first entry makes
a boundary, so that each later one lies in a record (R343). -/
def execYieldEntry (o : Opt) (s : State) : Out :=
  let s := s.begin o
  if s.runs rSVC = false ∨ s.boot.noImage ∨ s.entryDue = false then .next s
  else
    let s := s.takePose
    let changed := s.yld.field != s.yld.fieldInForce
    let s1 := if changed then s.selectField else s
    let working := s1.headerWorking
    let sect := s1.sectionsOn working
    let (e, s2) := s1.stepEntry (s1.entryBase working sect)
    let s3 := if s2.yld.started then s2 else s2.startMark e
    let always := s3.mapper (fun b => u32 b 0) noRef == noRef
    let lower := working && !s3.yld.working && !always
    let raised := !working && s3.yld.working
    let dist := dadd s3.yld.distSum e.d
    let byDist := s3.recDistance && dle (dRat s3.recM 10) dist
    let bound := lower || raised || changed || s3.yld.clearWanted.isSome || s3.yld.prev.isNone || (if s3.recDistance then byDist else s3.timeBound e)
    let lowerAt := if lower then some e.opt else s3.yld.lowerAt
    let b : YldBound := { opt := e.opt, lower := lower, raised := raised, working := working,
                          pass := if working || raised then lowerAt else none, field := s3.yld.fieldInForce,
                          clear := s3.yld.clearWanted }
    let samples := if lower || raised then s3.yld.samples.map fun x => x.spoil e.opt (s3.lagEdge x).isSome else s3.yld.samples
    let samples := if (lower || raised) && fle (fRat 3 10) e.speed then samples ++ [⟨lower, e.opt, false⟩] else samples
    let s4 := s3.updYld fun y => { y with
      buf := trimBuf (20 * s3.bufS) (y.buf ++ [e]), prev := some e, working := working, sect := sect,
      lowerAt := if raised then none else lowerAt, bounds := if bound then y.bounds ++ [b] else y.bounds,
      distSum := if bound then 0 else dist, clearWanted := none, samples := samples }
    .next s4.takeDue

/-! Openings (13 R342 to R345). -/

/-- The tail of the pass that ends at RAISE boundary `b` (13 R347): from t_u + L to the earlier of EMPTY_S later and the next
LOWER + L. -/
def State.tailOf (s : State) (b : YldBound) : YldTail :=
  let l := s.yld.lag * tenMs
  let stop := b.opt + l + s.emptyS
  let e := match s.yld.bounds.find? (fun c => c.lower && decide (b.opt < c.opt)) with
    | some c => min stop (c.opt + l)
    | none => stop
  { pass := b.pass.getD 0, raiseAt := b.opt, start := b.opt + l, stop := e, wet := 0, dry := 0 }

/-- The crop in force at OPT `g` (13 R352), once the frame that holds it has arrived. -/
def State.cropAt (s : State) (g : Opt) : Option Nat := (s.yld.history.find? fun f => decide (g ≤ f.opt)).map YldFrame.crop

/-- Closing the open record at boundary `b` (13 R345): h1, F, and whether its pass ends there. -/
def State.closeRec (s : State) (b : YldBound) : State :=
  match s.yld.openRec with
  | none => s
  | some r =>
    let tailEnd := if r.afterRaise then (match s.yld.tails.find? (fun t => t.raiseAt == r.h0) with
        | some t => t.stop
        | none => 0) else 0
    let f := max s.yld.lastF (max (b.opt + r.lag * tenMs) tailEnd)
    let r1 := { r with h1 := some b.opt, f1 := some f, endsPass := b.raised, crop := (s.cropAt f).getD r.crop }
    s.updYld fun y => { y with openRec := none, held := y.held ++ [r1], lastF := f }

/-- The record that starts at boundary `b` (13 R342, R344). -/
def State.newRec (s : State) (b : YldBound) : YldRec :=
  { h0 := b.opt, h1 := none, lag := s.yld.lag, lagEst := s.yld.lagFromEst, working := b.working, pass := if b.working then b.pass else none,
    afterRaise := b.raised, endsPass := false, last := none, area := 0, dist := 0, wet := 0, dry := 0, moistSum := 0,
    moistN := 0, flags := if s.yld.lagFromEst then 0x0020 else 0, f1 := none, pooled := false, tailed := false, wetG := none,
    dryG := none, tailW := 0, tailD := 0, field := b.field, calGen := s.settings.calGen, crop := s.crop,
    changes := [] }

/-- L for the record that starts at boundary `b` (13 R344). -/
def State.chooseLag (s : State) (b : YldBound) : State :=
  if s.lagEstMode = false then s.updYld fun y => { y with lag := s.lagFix, lagFromEst := false }
  else if b.lower ∨ b.working = false then s.updYld fun y => { y with lag := y.est, lagFromEst := true }
  else s

/-- The estimate limited to the bounds in force (13 R350, R351), as it is stored. -/
def State.clampEst (s : State) : State :=
  let e := clampNat s.lagMin s.lagMax s.yld.est
  (s.updYld fun y => { y with est := e }).updSettings fun t =>
    if (lookupN t.lagEst s.crop).isSome then { t with lagEst := bindN t.lagEst s.crop e } else t

/-- The boundary of the yield group (13 R350, R351): the estimates keep to the new bounds, and the buffer to the new BUF_S. -/
def State.yldBoundary (s : State) : State :=
  if (s.snapReady 0x0900).isSome then
    let t := (s.applyGroup 0x0900).clampEst
    t.updYld fun y => { y with buf := trimBuf (20 * t.bufS) y.buf }
  else s

/-- RECORD_OPENING (13 R342 to R345, R351): the record that starts at the first boundary opens when the present reaches
boundary + L; the yield group is applied. -/
def execRecordOpening (o : Opt) (s : State) : Out :=
  let s := s.begin o
  match s.yld.bounds with
  | [] => .next s
  | b :: rest =>
    if s.runs rSVC = false ∨ o < b.opt + s.yld.lag * tenMs then .next s
    else
      let s1 := (s.takeEntries b.opt).closeRec b
      let s2 := if b.raised then s1.updYld fun y => { y with tails := y.tails ++ [s1.tailOf b] } else s1
      let s3 := if s2.yld.held = [] ∧ s.yld.openRec = none ∧ s.yld.flow0 = 0 then
          s2.updYld fun y => { y with lastF := b.opt + y.lag * tenMs, flow0 := b.opt + y.lag * tenMs } else s2
      let s4 := s3.updYld fun y => { y with bounds := rest }
      let s5 := s4.yldBoundary
      let s6 := s5.chooseLag b
      let s7 := match b.clear with
        | some k => s6.clearRaster k
        | none => s6
      .next (s7.updYld fun y => { y with openRec := some (s7.newRec b) }).takeDue

/-! Flow into records (13 R345 to R348). -/

/-- What frame `f` adds to a record (13 R345, R353): its flags, and its masses and moisture where no tail has taken them. -/
def YldRec.addFrame (r : YldRec) (f : YldFrame) : YldRec :=
  let fl (c : Bool) (k : Nat) : W16 := if c then BitVec.ofNat 16 (2 ^ k) else 0
  let r := { r with calGen := f.calGen,
                    changes := r.changes ++ f.change.toList,
                    flags := r.flags ||| fl (!f.wet.2) 2 ||| fl (f.wet.2 && !f.dry.2) 3 ||| fl f.moistHeld 4
                      ||| fl f.change.isSome 7 ||| fl f.degraded 12 }
  let mass (x : F32) : F64 := dmul (dOfF x) (dRat (f.ticks * 50) 1000)
  if f.wet.2 ∧ f.spent = false then
    { r with wet := dadd r.wet (mass f.wet.1), dry := if f.dry.2 then dadd r.dry (mass f.dry.1) else r.dry,
             moistSum := if f.moist.2 then dadd r.moistSum (dOfF f.moist.1) else r.moistSum,
             moistN := if f.moist.2 then r.moistN + 1 else r.moistN }
  else r

/-- What frame `f` adds to a tail (13 R347). -/
def YldTail.addFrame (t : YldTail) (f : YldFrame) : YldTail :=
  let mass (x : F32) : F64 := dmul (dOfF x) (dRat (f.ticks * 50) 1000)
  if f.wet.2 then { t with wet := dadd t.wet (mass f.wet.1), dry := if f.dry.2 then dadd t.dry (mass f.dry.1) else t.dry } else t

/-- The first element that satisfies `p`, changed by `f`. -/
def updFirst {α : Type} (p : α → Bool) (f : α → α) : List α → List α
  | [] => []
  | x :: t => if p x then f x :: t else x :: updFirst p f t

/-- Whether frame `f` lies in a tail. -/
def YldTail.has (t : YldTail) (f : YldFrame) : Bool := decide (t.start < f.opt) && decide (f.opt ≤ t.stop)

/-- Whether frame `f` lies in the flow interval of closed record `r`, no earlier record holding it. -/
def YldRec.has (r : YldRec) (f : YldFrame) : Bool :=
  match r.f1 with
  | some g => decide (f.opt ≤ g)
  | none => false

/-- Counting the frames that a tail or a closed record holds (13 R345); later frames wait, frames before the first record's
flow interval count nowhere.  A frame of a tail brings its flags to the record whose flow interval holds it. -/
def YldSt.assign (y : YldSt) : YldSt :=
  y.frames.foldl (fun a f =>
    if f.opt ≤ a.flow0 then a
    else
      let t := !f.spent && a.tails.any (fun t => t.has f)
      let a := if t then { a with tails := updFirst (fun t => t.has f) (fun t => t.addFrame f) a.tails } else a
      let f := if t then { f with spent := true } else f
      if a.held.any (fun r => r.has f) then { a with held := updFirst (fun r => r.has f) (fun r => r.addFrame f) a.held }
      else { a with frames := a.frames ++ [f] }) { y with frames := [] }

/-- Whether a closed record is complete (13 R348). -/
def YldSt.isComplete (y : YldSt) (now : Opt) (r : YldRec) : Bool :=
  match r.f1 with
  | some g => decide (g ≤ now) && decide (g ≤ y.lastFrame)
  | none => false

/-- Shares of `total` in proportion to areas, rounded to the nearest, the remainder to the last (13 R346, R347). -/
def shares (total : Int) (areas : List F64) : List Int :=
  let sum := areas.foldl (fun a x => a.add (Q.ofD x)) (Q.ofInt 0)
  let raw := areas.map fun x => (((Q.ofInt total).mul (Q.ofD x)).div sum).round
  match raw.reverse with
  | [] => []
  | _ :: t => (t.reverse) ++ [total - t.foldl (fun a k => a + k) 0]

/-- Whether the areas of a window sum to more than 0. -/
def someArea (l : List YldRec) : Bool := l.any fun r => dlt 0 r.area

/-- Whether a record lies in the fill window of its pass (13 R346). -/
def YldRec.inFill (r : YldRec) (fill : Nat) : Bool :=
  match r.pass with
  | some p => decide (r.h0 < p + fill)
  | none => false

/-- Giving each record that satisfies `p`, in order, its share. -/
def giveShares (p : YldRec → Bool) (f : YldRec → Int → Int → YldRec) : List YldRec → List Int → List Int → List YldRec
  | [], _, _ => []
  | r :: t, w, d =>
    if p r then f r (w.headD 0) (d.headD 0) :: giveShares p f t (w.drop 1) (d.drop 1) else r :: giveShares p f t w d

/-- The fill pool of pass `p` (13 R346), once the last record of its window is complete. -/
def State.poolFill (s : State) (p : Opt) : State :=
  let win (r : YldRec) : Bool := r.pass == some p && r.inFill s.fillS && !r.pooled
  let w := s.yld.held.filter win
  match w.getLast? with
  | none => s
  | some last =>
    let final := last.endsPass || decide (p + s.fillS ≤ last.h1.getD 0)
    if final && w.all (fun r => s.yld.isComplete s.clk.opt r) then
      let areas := w.map YldRec.area
      let tw := dRound (w.foldl (fun a r => dadd a r.wet) 0)
      let td := dRound (w.foldl (fun a r => dadd a r.dry) 0)
      let mark (r : YldRec) : YldRec := { r with pooled := true, flags := r.flags ||| 0x0200 }
      if someArea w then
        s.updYld fun y => { y with held := giveShares win (fun r a b => { mark r with wetG := some a, dryG := some b }) y.held
                                             (shares tw areas) (shares td areas) }
      else s.updYld fun y => { y with held := y.held.map fun r => if win r then mark r else r }
    else s

/-- TAIL_END (13 R347): the tail's masses are shared among the records of the empty window, which set TAIL, or go whole to the last
record of the pass. -/
def execTailEnd (o : Opt) (s : State) : Out :=
  let s := s.begin o
  let s := s.updYld YldSt.assign
  match s.yld.tails with
  | [] => .next s
  | t :: rest =>
    if s.runs rSVC = false ∨ o < t.stop ∨ s.yld.lastFrame < t.stop then .next s
    else
      let s1 := s.poolFill t.pass
      let win (r : YldRec) : Bool := r.pass == some t.pass && decide (t.raiseAt ≤ r.h0 + s1.emptyS)
      let w := s1.yld.held.filter win
      let tw := dRound t.wet
      let td := dRound t.dry
      let mark (r : YldRec) (a b : Int) : YldRec :=
        { r with tailed := true, tailW := r.tailW + a, tailD := r.tailD + b, flags := if win r then r.flags ||| 0x0100 else r.flags }
      let held := if someArea w then
          giveShares win (fun r a b => mark r a b) s1.yld.held (shares tw (w.map YldRec.area)) (shares td (w.map YldRec.area))
        else s1.yld.held.map fun r =>
          if r.pass == some t.pass && r.endsPass then mark r tw td else if win r then mark r 0 0 else r
      .next (s1.updYld fun y => { y with held := held, tails := rest })

/-- Whether a record waits for the tail of its pass (13 R347): it lies in the empty window, or is the last of the pass. -/
def State.tailHeld (s : State) (r : YldRec) : Bool :=
  let inWin (raise : Opt) : Bool := decide (raise ≤ r.h0 + s.emptyS) || r.endsPass
  match r.pass with
  | none => false
  | some p => s.yld.tails.any (fun t => t.pass == p && inWin t.raiseAt)
      || s.yld.bounds.any (fun b => b.raised && b.pass == some p && inWin b.opt)

/-! Writing (13 R348, R352 to R360). -/

/-- PASS of a record (13 R348). -/
def YldRec.passCode (r : YldRec) (fill : Nat) : Nat :=
  if r.working = false then 0 else if r.flags.getLsbD 8 then 3 else if r.pooled || r.inFill fill then 1 else 2

/-- The 64 bytes of a record, its CRC appended (13 R352). -/
def withCrc (b : List Byte) : List Byte := b ++ leBytes 4 (crc32c b).toNat

/-- FLAGS of a record (13 R353). -/
def YldRec.flagWord (r : YldRec) (first trunc : Bool) : Nat :=
  (r.flags ||| (if (r.last.map YldEntry.dvtSet).getD false then 0 else 1) ||| (if first then 0x0400 else 0)
    ||| (if trunc then 0x0800 else 0)).toNat

/-- Bytes 0 to 59 of data record `r` (13 R352). -/
def YldRec.body (r : YldRec) (seq : Nat) (first trunc : Bool) (fill : Nat) : List Byte :=
  let e := r.last.getD default
  let h1 := r.h1.getD 0
  let area := satField 32 (dRound (dmul r.area (dOfInt 10000)))
  let dist := satField 16 (dRound (dmul r.dist (dOfInt 100)))
  let fl := r.flagWord first trunc
  let wet := (r.wetG.getD (dRound r.wet)) + r.tailW
  let dry := (r.dryG.getD (dRound r.dry)) + r.tailD
  let moist := if r.moistN = 0 then 0xFFFF else satField 16 (dRound (dmul (ddiv r.moistSum (dOfInt r.moistN)) (dOfInt 100)))
  leBytes 4 seq ++ leBytes 8 h1 ++ leBytes 8 (if e.dvtSet then e.dvt else 0) ++ leBytes 2 e.epoch.toNat ++ leBytes 2 fl
    ++ leBytes 4 (ofInt32 (dRound (dmul e.lat (dOfInt 10000000)))).toNat
    ++ leBytes 4 (ofInt32 (dRound (dmul e.lon (dOfInt 10000000)))).toNat
    ++ leBytes 4 (satField 32 wet) ++ leBytes 4 (if fl.testBit 3 then 0xFFFFFFFF else satField 32 dry) ++ leBytes 4 area
    ++ leBytes 2 (min (divRound (h1 - r.h0) tenMs) 0xFFFF) ++ leBytes 2 dist
    ++ leBytes 2 (if dist = 0 then 0 else min (divRound (10 * area) dist) 0xFFFF) ++ leBytes 2 moist
    ++ leBytes 2 (satField 16 (fRoundAway (fmul e.hdg (fOfInt 100)))) ++ leBytes 2 (min r.lag 0xFFFF)
    ++ leBytes 1 (r.crop % 16) ++ leBytes 1 (r.passCode fill) ++ leBytes 2 r.calGen.toNat

/-- FLAGS of a mark (13 R353). -/
def markFlags (unset first : Bool) : Nat := (if unset then 1 else 0) + if first then 0x0400 else 0

/-- Bytes 0 to 59 of a CAL_MARK (13 R354). -/
def calMark (y : YldSt) (seq : Nat) (c : F32 × F32 × Nat) (gen : Nat) : List Byte :=
  leBytes 4 seq ++ leBytes 8 y.lastOpt ++ leBytes 8 y.lastDvt ++ leBytes 2 y.lastEpoch.toNat ++ leBytes 2 (markFlags y.lastUnset y.firstRec)
    ++ leBytes 4 c.1.toNat ++ leBytes 4 c.2.1.toNat ++ leBytes 1 c.2.2 ++ leBytes 23 0 ++ leBytes 1 0x10 ++ leBytes 1 0xFF ++ leBytes 2 gen

/-- Bytes 0 to 59 of a TIME_MARK (13 R354). -/
def timeMarkBody (m : TimeMark) (seq gen : Nat) (first : Bool) : List Byte :=
  leBytes 4 seq ++ leBytes 8 m.opt ++ leBytes 8 m.dvt ++ leBytes 2 m.epoch.toNat ++ leBytes 2 (markFlags (!m.dvtSet) first)
    ++ leBytes 8 m.cvt ++ leBytes 1 m.leap ++ leBytes 1 m.mode ++ leBytes 22 0 ++ leBytes 1 0x20 ++ leBytes 1 0xFF ++ leBytes 2 gen

/-- Bytes of the yield partition in use (13 R357). -/
def YldStore.used (t : YldStore) : Nat :=
  64 * t.log.length + t.files.foldl (fun a f => a + f.bin.length + f.xml.length) 0

/-- The yield partition is full: no further record fits (13 R357). -/
def YldStore.full (t : YldStore) : Bool := decide (17179869184 < t.used + 64)

/-- Writing a record of kind `kind` whose bytes 0 to 59 `body` gives for its SEQ: appended to the log, or counted lost, and
published (13 R357, R358). -/
def State.writeRec (s : State) (kind : Nat) (opt dvt : Nat) (body : Nat → List Byte) : State :=
  let q := s.store.lastSeq + 1
  let b := withCrc (body q)
  let s1 := { s with store := { s.store with lastSeq := q }, yld := { s.yld with firstRec := false } }
  let s2 := if s1.store.full then s1.updYld fun y => { y with lostCnt := satInc y.lostCnt }
    else { s1 with store := { s1.store with log := s1.store.log ++ [(q, b)] } }
  s2.publish 3 (fun i => i == 0xFFFF || i.testBit kind) opt dvt b

/-- The TimeLog FORMAT, where MAPPER names one (13 R359). -/
def State.tlgFormat (s : State) : Option (List Byte) := s.img.tableOf kFormat (s.mapper (fun b => u16 b 30) 0xFFFF)

/-- The CVT of a data record, derived from the latest TIME_MARK (13 R356). -/
def derivedCvt (m : Option TimeMark) (opt dvt : Nat) (dvtSet : Bool) : Option Nat :=
  match m with
  | none => none
  | some k => if k.mode = 0xFF then none
    else if dvtSet && k.dvtSet then some (k.cvt + dvt - k.dvt) else some (k.cvt + opt - k.opt)

/-- PositionStatus of a TimeLog record (13 R360). -/
def positionStatus (e : YldEntry) : Nat :=
  if e.mode = 2 then 6 else match e.solMode with
  | 1 => 1
  | 2 => 2
  | 3 => 5
  | 4 => 4
  | _ => 15

/-- One TimeLog binary record (13 R360): TimeStart, the position elements of POS_MASK, and the DLVs. -/
def tlgRecord (b : List Byte) (cvt : Nat) (e : YldEntry) (raws : List Nat) : List Byte :=
  let mask := u8 b 8
  let ms := cvt / 1000000
  leBytes 4 (ms % 86400000) ++ leBytes 2 (ms / 86400000 - 3652)
    ++ (if mask.testBit 0 then
          leBytes 4 (ofInt32 (dRound (dmul e.lat (dOfInt 10000000)))).toNat
            ++ leBytes 4 (ofInt32 (dRound (dmul e.lon (dOfInt 10000000)))).toNat
            ++ leBytes 4 (ofInt32 (dRound (dmul e.height (dOfInt 1000)))).toNat else [])
    ++ (if mask.testBit 1 then leBytes 1 (positionStatus e) else []) ++ (if mask.testBit 2 then leBytes 1 e.svUsed else [])
    ++ leBytes 1 raws.length ++ (raws.zipIdx.map fun p => leBytes 1 p.2 ++ leBytes 4 p.1).flatten

/-- The raw values of the TimeLog fields from the latest data record (13 R359, 04 R123). -/
def State.tlgRaws (s : State) (id : Nat) (b : List Byte) : List Nat × State :=
  (List.range (u16 b 2)).foldl (fun a i =>
    let o := 24 + 24 * i
    let v := a.2.sig (u32 b o)
    let raw := packRaw b o v (lookupN a.2.fmt (512 * id + i))
    (a.1 ++ [raw], if v.2 then { a.2 with fmt := bindN a.2.fmt (512 * id + i) raw } else a.2)) ([], s)

/-- The TimeLog output of data record `r`, just written (13 R360). -/
def State.writeTlg (s : State) (r : YldRec) : State :=
  match s.tlgFormat with
  | none => s
  | some b =>
    let e := r.last.getD default
    match derivedCvt s.yld.lastMark (r.h1.getD 0) e.dvt e.dvtSet with
    | none => s.updYld fun y => { y with tlgSkip := true }
    | some cvt =>
      let (raws, s1) := s.tlgRaws (s.mapper (fun m => u16 m 30) 0xFFFF) b
      let line := tlgRecord b cvt e raws
      let same := s1.yld.fileOpen && s1.yld.fileField == r.field && (match s1.store.files.getLast? with
        | some f => f.epoch == e.epoch && decide (f.recs < u16 b 10)
        | none => false)
      if same then
        if s1.store.full then s1.updYld fun y => { y with tlgSkip := true }
        else
          let add (f : TlgFile) : TlgFile := { f with bin := f.bin ++ line, recs := f.recs + 1 }
          let l := updFirst (fun f => f.num == s1.store.lastFile) add s1.store.files
          { s1 with store := { s1.store with files := l } }
      else if 99999 ≤ s1.store.lastFile ∨ s1.store.full then s1.updYld fun y => { y with tlgSkip := true, fileOpen := false }
      else
        let n := s1.store.lastFile + 1
        let f : TlgFile := { num := n, bin := line, xml := b.drop (24 + 24 * u16 b 2), recs := 1, epoch := e.epoch }
        { s1 with store := { s1.store with files := s1.store.files ++ [f], lastFile := n },
                  yld := { s1.yld with fileOpen := true, fileField := r.field } }

/-- Writing the time marks whose OPT lies before data record OPT `h1` (13 R354). -/
def State.writeMarks (s : State) (h1 : Opt) (gen : Nat) : State :=
  let due := s.yld.marks.filter fun m => decide (m.opt < h1)
  let s1 := s.updYld fun y => { y with marks := y.marks.filter fun m => !decide (m.opt < h1) }
  due.foldl (fun t m => (t.writeRec 2 m.opt m.dvt (fun q => timeMarkBody m q gen t.yld.firstRec)).updYld fun y => { y with lastMark := some m }) s1

/-- Writing data record `r` (13 R348, R352 to R360): the marks before it, the record, the totals, the signals and the TimeLog
record. -/
def State.writeData (s : State) (r : YldRec) (trunc : Bool) : State :=
  let e := r.last.getD default
  let h1 := r.h1.getD 0
  let dvt := if e.dvtSet then e.dvt else 0
  let s1 := r.changes.foldl (fun t c => t.writeRec 1 t.yld.lastOpt t.yld.lastDvt (fun q => calMark t.yld q c r.calGen.toNat)) s
  let s2 := s1.writeMarks h1 r.calGen.toNat
  let q := s2.store.lastSeq + 1
  let body (k : Nat) : List Byte := r.body k s2.yld.firstRec trunc s2.fillS
  let rec_ := withCrc (body q)
  let s3 := s2.writeRec 0 h1 dvt body
  let s4 := s3.updYld fun y => { y with
    latest := some rec_, passLast := r.passCode s2.fillS, lastOpt := h1, lastDvt := dvt,
    lastEpoch := e.epoch, lastUnset := !e.dvtSet, totalWet := fadd y.totalWet (fRat (u32 rec_ 32) 1000),
    totalArea := fadd y.totalArea (fRat (u32 rec_ 40) 10000) }
  s4.writeTlg r

/-- YIELD_RECORD_WRITE (13 R348): the earliest record not written is written once it is complete and no longer held. -/
def execYieldRecordWrite (o : Opt) (s : State) : Out :=
  let s := s.begin o
  let s := s.updYld YldSt.assign
  if s.runs rSVC = false then .next s else
  match s.yld.held with
  | [] => .next s
  | r0 :: _ =>
    let s1 := match r0.pass with
      | some p => s.poolFill p
      | none => s
    match s1.yld.held with
    | [] => .next s1
    | r :: rest =>
      if s1.yld.isComplete o r && (!r.inFill s1.fillS || r.pooled) && (r.tailed || !s1.tailHeld r) then
        .next ((s1.updYld fun y => { y with held := rest }).writeData r false)
      else .next s1

/-! The lag estimate (13 R349, R350). -/

/-- EST after an accepted sample of `sample` ns (13 R350): nearest 10 ms, ties upward, clamped. -/
def newEst (est sample shift lo hi : Nat) : Nat :=
  let den : Int := tenMs * 2 ^ shift
  let num : Int := (est * tenMs : Nat) * (2 ^ shift - 1 : Nat) + (sample : Int)
  clampNat lo hi ((2 * num + den) / (2 * den)).toNat

/-- Whether the frames before the edge meet the condition of R349. -/
def State.lagQuiet (s : State) (x : LagSample) : Bool :=
  (framesIn s.yld.history x.opt (x.opt + s.lagMin * tenMs)).all fun f =>
    f.wet.2 && (if x.lower then flt f.wet.1 s.flowEdge else fle s.flowEdge f.wet.1)

/-- LAG_SAMPLE (13 R349, R350): the oldest open sample is decided once its edge frame is there, its span has passed, or the
header has left its state. -/
def execLagSample (o : Opt) (s : State) : Out :=
  let s := s.begin o
  if s.runs rSVC = false then .next s else
  match s.yld.samples with
  | [] => .next s
  | x :: rest =>
    let s1 := s.updYld fun y => { y with samples := rest }
    let reject (t : State) : State := t.updYld fun y => { y with reject := satInc y.reject }
    match s.lagEdge x with
    | none => if x.bad ∨ s.lagQuiet x = false ∨ x.opt + s.lagMax * tenMs ≤ s.yld.lastFrame then .next (reject s1) else .next s
    | some f =>
      let comp := if x.lower then s.mapper (fun b => u16 b 24) 50 else s.mapper (fun b => u16 b 26) 50
      let v : Int := (f.opt : Int) - x.opt - comp * tenMs
      if x.bad ∨ s.lagQuiet x = false ∨ v < s.lagMin * tenMs ∨ (s.lagMax * tenMs : Int) < v then .next (reject s1)
      else
        let e := newEst s.yld.est v.toNat (s.mapper (fun b => u8 b 28) 3) s.lagMin s.lagMax
        let crop := s.crop
        .next ((s1.updYld fun y => { y with est := e, accept := satInc y.accept }).updSettings fun t =>
          { t with lagEst := bindN t.lagEst crop e })

/-- A measurement frame reaches the mapper (13 R345, R349); a record whose F_k it holds has its crop (13 R352). -/
def State.yieldFrame (s : State) (f : YldFrame) : State :=
  if s.runs rSVC = false ∨ s.boot.noImage then s
  else
    let kept := s.yld.history.filter fun g => decide (f.opt < g.opt + (s.lagMax + 100) * tenMs)
    let atF (r : YldRec) : Bool := match r.f1 with
      | some g => decide (s.yld.lastFrame < g) && decide (g ≤ f.opt)
      | none => false
    s.updYld fun y => { y with
      frames := y.frames ++ [f], lastFrame := f.opt, history := kept ++ [f],
      held := y.held.map fun r => if atF r then { r with crop := f.crop } else r }

/-- RASTER_SAVE (13 R341): every 10 s. -/
def execRasterSave (o : Opt) (s : State) : Out :=
  let s := s.begin o
  if s.runs rSVC = false ∨ s.boot.noImage ∨ o < s.yld.rasterAt + 10000000000 then .next s else .next s.saveRaster

/-- The mapper at power-up or a change of crop: the estimate of the crop in force, and L (13 R344, R350). -/
def State.yieldCrop (s : State) : State :=
  s.updYld fun y => { y with est := clampNat s.lagMin s.lagMax ((lookupN s.settings.lagEst s.crop).getD s.lagFix) }

/-- The mapper as it starts (13 R343, R344, R352). -/
def State.yieldStart (s : State) : State :=
  let s1 := s.yieldCrop
  let s2 := s1.updYld fun y => { y with lag := if s1.lagEstMode then y.est else s1.lagFix, lagFromEst := s1.lagEstMode, rasterAt := s.clk.opt }
  { s2 with store := { s2.store with lastSeq := (s2.store.log.getLast?.map fun p => p.1).getD 0 } }

/-- The mapper at the orderly shutdown (13 R361): the open record closes at the last entry taken, and every held record is
written with TRUNC; the raster is saved. -/
def State.yieldShutdown (s : State) : State :=
  let s0 := s.takeDue
  let s1 := match s0.yld.openRec with
    | some r => match r.last with
      | some e =>
        let r1 := { r with h1 := some e.opt, f1 := some (max s0.clk.opt s0.yld.lastF) }
        s0.updYld fun y => { y with openRec := none, held := y.held ++ [r1] }
      | none => s0.updYld fun y => { y with openRec := none }
    | none => s0
  let s2 := s1.updYld YldSt.assign
  let s3 := s2.yld.held.foldl (fun t r => t.writeData r true) (s2.updYld fun y => { y with held := [], tails := [] })
  s3.saveRaster

/-! The window (13 R365). -/

/-- The bytes at POS of the window's source, at most 64. -/
def State.yldWin (s : State) : List Byte :=
  let file := s.store.files.find? fun f => f.num == field s.yld.winSel 8 24
  match field s.yld.winSel 0 2 with
  | 0 => (lookupN s.store.log s.yld.winPos.toNat).getD []
  | 1 => match file with
    | some f => span f.bin s.yld.winPos.toNat 64
    | none => []
  | 2 => match file with
    | some f => span f.xml s.yld.winPos.toNat 64
    | none => []
  | _ => []

end Sys2Proof.Machine
end

