-- ==== Sys2Proof/Machine/Flow.lean ====
section
/-! DEFINITION. Crop flow and grain loss (07): the flow estimator, moisture, tare and calibration, loss hits and their
classification, loss groups and the loss spectrum. -/

namespace Sys2Proof.Machine

/-- The state with the flow block changed. -/
def State.updFlw (s : State) (f : FlwSt → FlwSt) : State := { s with flw := f s.flw }

/-! Configuration (07 R209). -/

/-- A field of the FLOW section, or its default. -/
def State.flowField {α : Type} (s : State) (f : List Byte → α) (dflt : α) : α := s.img.fieldOr 0x0301 0x0001 f dflt

/-- MANUAL_MOIST in force (07 R192). -/
def State.manualMoist (s : State) : Nat := field (s.live 0x30010) 16 16

/-- The CROPS record of crop `j`, where it has one. -/
def Image.cropRec (im : Image) (j : Nat) : Option (List Byte) :=
  match im.sect 0x0301 0x0002 with
  | some b => if j < u16 b 0 then some (span b (4 + 20 * j) 20) else none
  | none => none

/-- The CURVE that a table ID names, where the image has it. -/
def Image.curve (im : Image) (id : Nat) : Option (List Byte) := im.tableOf kCurve id

/-- CAL of the crop in force: the settings' value, or CAL_DEFAULT (07 R193); none where the image has no such crop. -/
def State.calInForce (s : State) : Option F32 :=
  match lookupN s.settings.cal s.crop with
  | some c => some c
  | none => (s.img.cropRec s.crop).map fun b => f32At b 8

/-- CAL as a factor; without a crop record WET is invalid, whatever it is. -/
def State.calFactor (s : State) : F32 := s.calInForce.getD fOne

/-- COMBINE (07 R187). -/
def State.combine (s : State) : Nat := s.flowField (fun b => u8 b 0) 0

/-- Whether COMBINE uses bridge `b` (07 R187). -/
def State.usesBridge (s : State) (b : Nat) : Bool := decide (2 ≤ s.combine) || s.combine == b

/-! The flow estimator (07 R184 to R187). -/

/-- The plate-normal acceleration and whether the IMU gives it (07 R185). -/
def State.plateAcc (s : State) : F32 × Bool :=
  if s.sns.imu.valid then
    let ax (k : Nat) (d : F32) : F32 := s.flowField (fun b => f32At b (4 + 4 * k)) d
    let v (k : Nat) : F32 := rd s.sns.imu.v k
    (fadd (fadd (fmul (ax 0 0) (v 0)) (fmul (ax 1 0) (v 1))) (fmul (ax 2 fOne) (v 2)), true)
  else (s.settings.aT, false)

/-- π in binary64. -/
def piD : F64 := 0x400921FB54442D18

/-- The coefficients (b0, b1, b2, a1, a2) of a notch at f_c with bandwidth BW (07 R186): formed in binary64 and rounded to
binary32 (log 42). -/
def notchOf (fc : F32) (bw : Nat) : List F32 :=
  let two := dOfInt 2
  let rate := dOfInt 8000
  let c := dmul two (cos64 (ddiv (dmul (dmul two piD) (dOfF fc)) rate))
  let r := dsub (dOfInt 1) (ddiv (dmul piD (dOfInt bw)) rate)
  [fOne, fOfD (dneg c), fOne, fOfD (dneg (dmul r c)), fOfD (dmul r r)]

/-- The coefficients of notch `i` at a tick start (07 R186): none while it is bypassed. -/
def State.notchCoef (s : State) (i : Nat) : Option (List F32) :=
  let fin := rd s.sns.fin (s.flowField (fun b => u8 b (52 + 6 * i)) 0)
  let fc := fmul (s.flowField (fun b => f32At b (54 + 6 * i)) 0) fin.freq
  if fin.valid && fle (fOfInt 2) fc && fle fc (fOfInt 3600) then
    some (notchOf fc (s.flowField (fun b => u8 b (53 + 6 * i)) 1)) else none

/-- The notch set at a tick start (07 R186): coefficients for the samples of the tick; a bypassed notch's state is cleared. -/
def State.notchTick (s : State) : State :=
  let n := s.flowField (fun b => u8 b 1) 0
  let coef : Vector (Option (List F32)) 4 := Vector.ofFn fun i => if i.val < n then s.notchCoef i.val else none
  let bypassed (i : Nat) : Bool := decide (i < n) && (rd coef i).isNone
  s.updFlw fun f => { f with
    coef := coef, bypass := f.bypass || (List.range 4).any bypassed,
    bridge := f.bridge.map fun (b : BridgeSt) => { b with notch := mapIdxV b.notch fun i x => if bypassed i then (0, 0, 0, 0) else x } }

/-- One notch's output and new state: (x1, x2, y1, y2). -/
def notchStep (c : List F32) (st : F32 × F32 × F32 × F32) (x : F32) : F32 × (F32 × F32 × F32 × F32) :=
  let k (i : Nat) : F32 := c.getD i 0
  let (x1, x2, y1, y2) := st
  let y := fsub (fsub (fadd (fadd (fmul (k 0) x) (fmul (k 1) x1)) (fmul (k 2) x2)) (fmul (k 3) y1)) (fmul (k 4) y2)
  (y, (x, x1, y, y1))

/-- The notch set applied in order (07 R184 stage 3). -/
def notchSet (coef : Vector (Option (List F32)) 4) (st : Vector (F32 × F32 × F32 × F32) 4) (x : F32) :
    F32 × Vector (F32 × F32 × F32 × F32) 4 :=
  (List.range 4).foldl (fun a i => match rd coef i with
    | some c => let r := notchStep c (rd a.2 i) a.1
                (r.1, put a.2 i r.2)
    | none => a) (x, st)

/-- The invalidity of a bridge sample: open, short, over range (06 R172). -/
def BridgeIn.isOpen (b : BridgeIn) : Bool := decide (b.excUa < 2000)
def BridgeIn.short (b : BridgeIn) : Bool := decide (40000 ≤ b.excUa)
def BridgeIn.overV (b : BridgeIn) : Bool := flt (fOfInt 22) (fabs b.s) || fIsNaN b.s
def BridgeIn.ok (b : BridgeIn) : Bool := !b.isOpen && !b.short && !b.overV

/-- A bridge's status after a sample (06 R172; 07 R189, R212). -/
def BridgeSt.status (x : BridgeSt) (i : BridgeIn) : BridgeSt :=
  { x with valid := i.ok, isOpen := i.isOpen, short := i.short, overV := i.overV, s := i.s,
           faultSeen := x.faultSeen || !i.ok, faultCnt := if x.valid && !i.ok then satInc x.faultCnt else x.faultCnt }

/-- A bridge after a sample: its status, its f̄ sum and its notch states; with g where the sample is valid. -/
def BridgeSt.sample (x : BridgeSt) (i : BridgeIn) (f : F32) (coef : Vector (Option (List F32)) 4) : Option F32 × BridgeSt :=
  let y := x.status i
  if i.ok then
    let r := notchSet coef x.notch f
    (some r.1, { y with notch := r.2, fbarSum := dadd y.fbarSum (dOfF f), fbarN := y.fbarN + 1 })
  else (none, y)

/-- CURVE_F of the crop in force at a force (07 R187): none where the curve is absent or its output is invalid. -/
def State.forceCurve (s : State) (g : F32) : Option F32 :=
  match s.img.cropRec s.crop with
  | none => none
  | some r => match s.img.curve (u16 r 0) with
    | none => none
    | some c => let v := curveEval c (g, true) sigNone
                if v.2 then some v.1 else none

/-- q of a sample, and whether it is DEGRADED (07 R187). -/
def State.combineFlow (s : State) (g0 g1 : Option F32) : Option F32 × Bool :=
  match s.combine, g0, g1 with
  | 0, some a, _ => (s.forceCurve a, false)
  | 1, _, some b => (s.forceCurve b, false)
  | 2, some a, some b => (match s.forceCurve a, s.forceCurve b with
      | some x, some y => some (fadd x y)
      | _, _ => none, false)
  | 3, some a, some b => (s.forceCurve (fdiv (fadd a b) (fOfInt 2)), false)
  | 3, some a, none => (s.forceCurve a, true)
  | 3, none, some b => (s.forceCurve b, true)
  | _, _, _ => (none, false)

/-- FLOW_SAMPLE (07 R184 to R187): both bridges through tare, inertia, notches and COMBINE; the window's sums and a running
tare take the sample. -/
def execFlowSample (o : Opt) (a b : BridgeIn) (s : State) : Out :=
  let s := s.begin o
  if s.runs rSNS = false ∨ s.inReset rSNS 3 then .next s
  else
    let acc := s.plateAcc
    let inert := fmul (s.flowField (fun x => f32At x 16) 0) (fsub acc.1 s.settings.aT)
    let f0 := fsub (fsub a.s s.settings.z0) inert
    let f1 := fsub (fsub b.s s.settings.z1) inert
    let r0 := if s.combine = 1 then (none, (rd s.flw.bridge 0).status a) else (rd s.flw.bridge 0).sample a f0 s.flw.coef
    let r1 := if s.combine = 0 then (none, (rd s.flw.bridge 1).status b) else (rd s.flw.bridge 1).sample b f1 s.flw.coef
    let q := s.combineFlow r0.1 r1.1
    let bad := (s.usesBridge 0 && !a.ok) || (s.usesBridge 1 && !b.ok)
    let taring := s.flw.calState == .taring
    .next (s.updFlw fun f => { f with
      bridge := put (put f.bridge 0 r0.2) 1 r1.2,
      samples := f.samples + 1, usable := if q.1.isSome then f.usable + 1 else f.usable,
      qSum := match q.1 with
        | some x => dadd f.qSum (dOfF x)
        | none => f.qSum,
      degraded := f.degraded || q.2, compOff := f.compOff || !acc.2,
      tareS := if taring then put (put f.tareS 0 (a.s :: rd f.tareS 0)) 1 (b.s :: rd f.tareS 1) else f.tareS,
      tareF := if taring then put (put f.tareF 0 (f0 :: rd f.tareF 0)) 1 (f1 :: rd f.tareF 1) else f.tareF,
      tareA := if taring then acc.1 :: f.tareA else f.tareA,
      tareBad := f.tareBad || (taring && bad) })

/-! Moisture (07 R190, R191). -/

/-- The moisture source before its curve (07 R190): none where it is not named. -/
def State.moistSource (s : State) : Option Sig :=
  let src := s.flowField (fun b => u32 b 44) noRef
  if src = noRef then none else some (s.sig src)

/-- The moisture source in % (07 R190). -/
def State.moistValue (s : State) : Sig :=
  match s.moistSource with
  | none => sigNone
  | some v =>
    match s.img.curve ((s.img.cropRec s.crop).map (fun b => u16 b 2) |>.getD 0xFFFF) with
    | some c => curveEval c v sigNone
    | none => v

/-- The mean of the valid values of a list, where there is one. -/
def sigMean (l : List Sig) : Option F32 :=
  let ok := l.filter fun v => v.2
  if ok.isEmpty then none else some (fOfD (ddiv (ok.foldl (fun a v => dadd a (dOfF v.1)) 0) (dOfInt ok.length)))

/-- MOISTURE of the window that ends now, whether it is held, and the history with the source's new value, which is kept under a manual value as
well (07 R190).  A mean without a valid value in MOIST_AVG_S is the last one, held; no mean outlasts the last valid value by more than
MOIST_HOLD_S (log 111). -/
def State.moisture (s : State) : Sig × Bool × List Sig × Option (F32 × Opt) :=
  let v := s.moistValue
  let hist := (v :: s.flw.moistHist).take (100 * s.flowField (fun b => u16 b 26) 10)
  let now := s.clk.opt
  let mean := (sigMean hist).orElse fun _ => s.flw.moistLast.map Prod.fst
  let at_ := if v.2 then some now else s.flw.moistLast.map Prod.snd
  let last : Option (F32 × Opt) := match mean, at_ with
    | some m, some t => some (m, t)
    | _, _ => none
  if s.manualMoist ≠ 0xFFFF then ((fRat s.manualMoist 10, true), false, hist, last)
  else match last with
    | some (m, t) =>
      if now ≤ t + s.flowField (fun b => u16 b 48) 30 * 1000000000 then ((m, true), (sigMean hist).isNone, hist, last)
      else (sigNone, false, hist, last)
    | none => (sigNone, false, hist, last)

/-! The window (07 R188). -/

/-- The slope factor and SLOPE_CLAMP at the end of a window (07 R188). -/
def State.slope (s : State) : F32 × Bool :=
  match s.img.curve (s.flowField (fun b => u16 b 2) 0xFFFF) with
  | none => (fOne, false)
  | some c =>
    let p := s.tim.pose.rcd
    let x := fRat (i16 p 54) 100
    let y := fRat (i16 p 56) 100
    if s.poseFlag 2 then
      ((curveEval c (x, true) (y, true)).1,
       (axisPos (curveX c) (curveNX c) x).off || (axisPos (curveY c) (curveNY c) y).off)
    else (curveFallback c, false)

/-- WET of a window of `ticks` ticks and whether it lies below MIN_FLOW (07 R188). -/
def State.wetFlow (s : State) (ticks : Nat) : Sig × Bool :=
  let f := s.flw
  if f.usable = 0 ∨ 10 * f.usable < 9 * (ticks * 2 / 5) then (sigNone, false)
  else
    let w := fmul (fmul s.calFactor s.slope.1) (fOfD (ddiv f.qSum (dOfInt f.usable)))
    if flt w (s.flowField (fun b => f32At b 20) (fRat 3 10)) then ((fZero, true), true) else ((w, true), false)

/-- DRY of a window (07 R191). -/
def State.dryFlow (s : State) (wet moist : Sig) (below : Bool) : Sig :=
  if wet.2 && moist.2 then
    if below then (fZero, true)
    else
      let mb := (s.img.cropRec s.crop).map (fun b => f32At b 4) |>.getD 0
      (fdiv (fmul wet.1 (fsub (fOfInt 100) moist.1)) (fsub (fOfInt 100) mb), true)
  else sigNone

/-- A value that is not valid is stored as 0x7FC0_0000. -/
def Sig.word (v : Sig) : F32 := if v.2 then v.1 else fNaN

/-! Loss hits (07 R195 to R202). -/

/-- T_MIN, T_MAX and K_THR in force of channel `c` (07 R204). -/
def State.lsThr (s : State) (c : Nat) : Nat × Nat × Nat :=
  let w := s.live (0x30200 + 4 * c)
  (field w 0 14, field w 16 14, field (s.live (0x30240 + 4 * c)) 0 8)

/-- The threshold T for noise floor `n` in codes, rounded down to a code (07 R195; log 112). -/
def State.lsThreshold (s : State) (c : Nat) (n : F64) : Nat :=
  let (lo, hi, k) := s.lsThr c
  max lo (min hi (fpFloor (dv (ddiv (dmul (dOfInt k) n) (dOfInt 8)))).toNat)

/-- The weight of a sample in the baseline's first-order filter: 1 − exp(−2π · 50 Hz / 2 MHz) (07 R195; log 112). -/
def baseAlpha : F64 := dsub (dOfInt 1) (f64 (fpExp (fpNeg (fpDiv ⟨352, 8⟩ (dv (dmul (dOfInt 100) piD)) (dv (dOfInt 2000000))))))

/-- A loss channel's detector between hits: B and N. -/
abbrev Quiet := F64 × F64

/-- |e| of a code over the baseline, in whole codes, at most 8,192 (07 R195, R196). -/
def hitE (base : F64) (x : Int) : Nat := min 8192 (x - fpNearest (dv base)).natAbs

/-- B and N after a sample outside hits and dead times (07 R195). -/
def quietStep (tau : Nat) (q : Quiet) (x : Int) : Quiet :=
  (dadd q.1 (dmul baseAlpha (dsub (dOfInt x) q.1)),
   dadd q.2 (ddiv (dsub (dOfInt (hitE q.1 x)) q.2) (dOfInt (2000 * tau))))

/-- B and N after a list of samples, and whether none of them reached the threshold: the first that does begins a hit (07 R196). -/
def State.quietRun (s : State) (c tau : Nat) : Quiet → List Int → Quiet × Bool
  | q, [] => (q, true)
  | q, x :: l => if s.lsThreshold c q.2 ≤ hitE q.1 x then (q, false) else s.quietRun c tau (quietStep tau q x) l

/-- Whether a code stands at full scale (07 R197). -/
def fullScale (x : Int) : Bool := decide (x ≤ -8192) || decide (8191 ≤ x)

/-- A hit as it is walked (07 R196, R197): the index of its last sample, whether the threshold was reached again in a dead time, whether it was
ended at 256 samples, PEAK, RISE, ENERGY, and the squares of the samples below the threshold since the last one. -/
structure HitSpan where
  last : Nat
  again : Bool
  overlong : Bool
  peak : Nat
  rise : Nat
  energy : Nat
  gap : Nat
deriving DecidableEq, Repr, Inhabited

def HitSpan.first : HitSpan := { last := 0, again := false, overlong := false, peak := 0, rise := 0, energy := 0, gap := 0 }

/-- The hit with the sample `v` of index `i`; of the samples since its last one, those before a crossing in the dead time do not join it. -/
def HitSpan.join (a : HitSpan) (hold i v : Nat) : HitSpan :=
  let cross := decide (a.last + hold < i)
  { last := i, again := a.again || cross, overlong := a.overlong, peak := max a.peak v, rise := if a.peak < v then i else a.rise,
    energy := a.energy + (if cross then 0 else a.gap) + v * v, gap := 0 }

/-- The extent and the features of a hit, its samples |e| walked from index `i`: it reaches 256 samples with the sample of index 255, and is
ended there (log 112). -/
def hitSpan (t hold : Nat) : List Nat → Nat → HitSpan → HitSpan
  | [], _, a => a
  | v :: l, i, a =>
    if a.overlong ∨ a.last + 8 < i then a
    else if t ≤ v then
      if i < 255 then hitSpan t hold l (i + 1) (a.join hold i v)
      else if i = 255 then { a.join hold i v with overlong := true }
      else { a with last := 255, again := a.again || decide (a.last + hold < i), overlong := true }
    else hitSpan t hold l (i + 1) { a with gap := a.gap + v * v }

/-- The features of a hit (07 R196). -/
structure HitFeat where
  peak : Nat
  rise : Nat
  ring : Nat
  energy : Nat
deriving DecidableEq, Repr, Inhabited

/-- The features of a walked hit, each at its end value where it would exceed its range. -/
def HitSpan.feat (a : HitSpan) : HitFeat :=
  { peak := a.peak, rise := min a.rise 255, ring := min (a.last - a.rise) 255, energy := min a.energy 0xFFFFFFFF }

/-- Whether |e| rises again by `d4 / 4` after a minimum past the first peak (07 R197): walked with the sample before, whether
the first peak is past, and the least sample since. -/
def risesAgain (d4 : Nat) : List Nat → Nat → Bool → Nat → Bool
  | [], _, _, _ => false
  | v :: l, prev, past, m =>
    if past then (if m * 4 + d4 ≤ v * 4 then true else risesAgain d4 l v true (min m v))
    else if v < prev then risesAgain d4 l v true v
    else risesAgain d4 l v false m

/-- L(v) of a LOG axis (07 R201): 8w + m. -/
def logStep (v : Nat) : Nat :=
  let w := v.log2
  8 * w + (if 3 ≤ w then v / 2 ^ (w - 3) % 8 else v * 2 ^ (3 - w) % 8)

/-- The bin of a feature (07 R201). -/
def featBin (log : Bool) (shift off v : Nat) : Nat :=
  if v = 0 then 0 else if log then min 63 (logStep v - off) else min 63 ((v - off) / 2 ^ shift)

/-- The peak and energy bins of a hit under a CLASSMAP (07 R201). -/
def hitBins (m : List Byte) (f : HitFeat) : Nat × Nat :=
  (featBin (u8 m 0 == 1) (u8 m 1) (u16 m 4) f.peak, featBin (u8 m 2 == 1) (u8 m 3) (u16 m 6) f.energy)

/-- The class of a hit (07 R202): a pile-up is DOUBLE, else the map's class through its gate. -/
def hitClass (m : List Byte) (f : HitFeat) (pile : Bool) : Nat :=
  if pile then 2
  else
    let (p, e) := hitBins m f
    let i := 64 * e + p
    let k := u8 m (32 + i / 4) / 2 ^ (2 * (i % 4)) % 4
    let g := 8 + 6 * k
    if u8 m g ≤ f.rise ∧ f.rise ≤ u8 m (g + 1) ∧ u8 m (g + 2) ≤ f.ring ∧ f.ring ≤ u8 m (g + 3) then k else u8 m (g + 4)

/-- One more in bin `b` of a sparse histogram. -/
def binInc (l : List (Nat × Nat)) (b : Nat) : List (Nat × Nat) := bindN l b ((lookupN l b).getD 0 + 1)

/-- The LOSS_CH record of channel `c`. -/
def State.lossRec (s : State) (c : Nat) : Option (List Byte) := s.img.record 0x0301 0x0003 16 c

/-- The CLASSMAP of channel `c`, where it names one. -/
def State.classMap (s : State) (c : Nat) : Option (List Byte) :=
  match s.lossRec c with
  | some b => s.img.tableOf kClassmap (u16 b 0)
  | none => none

/-- The state with loss channel `c` changed. -/
def State.updLs (s : State) (c : Nat) (f : LossCh → LossCh) : State := s.updFlw fun w => { w with ls := upd w.ls c f }

/-- TAU_MS and END_HOLD of channel `c` (07 R209). -/
def State.lossTau (s : State) (c : Nat) : Nat := match s.lossRec c with
  | some b => max 1 (u16 b 2)
  | none => 50
def State.lossHold (s : State) (c : Nat) : Nat := match s.lossRec c with
  | some b => u8 b 4
  | none => 4

/-- Channel `c` after the samples of an image outside hits (07 R195); a sample at full scale shows in the window (07 R197). -/
def State.lossQuiet (s : State) (c : Nat) (x : LossCh) (l : List Int) : LossCh :=
  let q := (s.quietRun c (s.lossTau c) (x.base, x.floor) l).1
  { x with base := q.1, floor := q.2, satNow := x.satNow || l.any fullScale }

/-- The detector of channel `n` after the samples before a hit, and whether they lie below the threshold (07 R195). -/
def State.hitLead (s : State) (n : Nat) (h : HitIn) : Quiet × Bool :=
  s.quietRun n (s.lossTau n) ((rd s.flw.ls n).base, (rd s.flw.ls n).floor) h.lead

/-- The threshold that a hit meets, and its samples |e| (07 R195, R196). -/
def State.hitThr (s : State) (n : Nat) (h : HitIn) : Nat := s.lsThreshold n (s.hitLead n h).1.2
def State.hitAbs (s : State) (n : Nat) (h : HitIn) : List Nat := h.codes.map (hitE (s.hitLead n h).1.1)

/-- The hit walked to the end of its dead time (07 R196, R197), and that end. -/
def State.hitWalk (s : State) (n : Nat) (h : HitIn) : HitSpan := hitSpan (s.hitThr n h) (s.lossHold n) (s.hitAbs n h) 0 HitSpan.first
def State.hitStop (s : State) (n : Nat) (h : HitIn) : Opt := h.opt + ((s.hitWalk n h).last + 9) * 500

/-- Whether the samples begin a hit: none before it reached the threshold, its first one does, outside the dead time of the hit before. -/
def State.hitStarts (s : State) (n : Nat) (h : HitIn) : Bool :=
  (s.hitLead n h).2 && decide (s.hitThr n h ≤ (s.hitAbs n h).headD 0) && decide ((rd s.flw.ls n).deadEnd ≤ h.opt)

/-- Whether the hit is a pile-up (07 R197), and whether one of its samples stands at full scale. -/
def State.hitPile (s : State) (n : Nat) (h : HitIn) : Bool :=
  let a := s.hitWalk n h
  a.again || a.overlong || risesAgain (max (4 * s.hitThr n h) a.feat.peak) ((s.hitAbs n h).take (a.last + 1)) 0 false 0
def State.hitSat (s : State) (n : Nat) (h : HitIn) : Bool := (h.codes.take ((s.hitWalk n h).last + 1)).any fullScale

/-- LOSS_HIT (07 R195 to R198): the samples since the last one that the channel took lie below the threshold, and the first of the hit reaches it
outside the dead time of the hit before; the hit is measured and classified at the end of its dead time, and counted in the running window of a
channel in RUN.  Samples that are no hit leave the channel as it was. -/
def execLossHit (ch : Fin 16) (h : HitIn) (s : State) : Out :=
  let n := ch.val
  let c := rd s.flw.ls n
  let q := (s.hitLead n h).1
  let sp := s.hitWalk n h
  let pile := s.hitPile n h
  let sat := s.hitSat n h
  let stop := s.hitStop n h
  let starts := s.hitStarts n h
  let s := s.begin stop
  if s.runs rSNS = false ∨ s.inReset rSNS (1 + n / 8) ∨ starts = false then .next s
  else
    let s1 := s.updLs n fun x => { x with base := q.1, floor := q.2, deadEnd := stop }
    match s.classMap n with
    | none => .next s1
    | some m =>
      if c.counting = false ∨ c.fault then .next s1
      else
        let k := hitClass m sp.feat pile
        let (p, e) := hitBins m sp.feat
        .next (s1.updLs n fun x => { x with
          cnt := upd x.cnt k satInc, peakHist := binInc x.peakHist p, enHist := binInc x.enHist e,
          overlong := if sp.overlong then satInc x.overlong else x.overlong,
          satCnt := if sat then satInc x.satCnt else x.satCnt, satNow := x.satNow || sat,
          err := x.err || sp.overlong || sat,
          lastErr := if sat then 0x03 else if sp.overlong then 0x02 else x.lastErr })

/-- LOSS_INPUT_FAULT (07 R199): the level was outside its window for 100 ms; a channel that is not enabled faults as well, so that enabling it does
not put an open input in RUN. -/
def execLossInputFault (o : Opt) (ch : Fin 16) (s : State) : Out :=
  let s := s.begin o
  let c := rd s.flw.ls ch.val
  if s.runs rSNS = false then .next s
  else if c.fault then .next (s.updLs ch.val fun x => { x with inState := none })
  else
    .next ((s.updLs ch.val fun x => { x with fault := true, whole := false, counting := false, lastErr := 0x01, inState := none,
                                             cnt := Vector.replicate 4 0, peakHist := [], enHist := [] }).unitFault 0x03 ch.val 1)

/-- LOSS_INPUT_RECOVER (07 R199): the level was inside for 1 s; RUN from the next window boundary. -/
def execLossInputRecover (o : Opt) (ch : Fin 16) (s : State) : Out :=
  let s := s.begin o
  let c := rd s.flw.ls ch.val
  if c.fault ∧ c.lastErr = 0x01 then .next (s.updLs ch.val fun x => { x with inState := some o }) else .next s

/-! Loss groups (07 R205, R206). -/

/-- The LOSS_GROUP record of group `g`. -/
def State.lossGroupRec (s : State) (g : Nat) : List Byte := (s.img.record 0x0301 0x0004 16 g).getD []

/-- The channels of group `g` that ran the whole window just closed. -/
def State.groupChannels (s : State) (g : Nat) : List LossCh :=
  ((List.range 16).filter fun c => decide (u8 ((s.lossRec c).getD [0, 0, 0, 0, 0, 0xFF]) 5 = g) && !(rd s.flw.ls c).invalid).map
    fun c => rd s.flw.ls c

/-- What the frame adds to group `g` (07 R205). -/
def State.lossFrame (s : State) (g ticks : Nat) (wet : Sig) : LossFrame :=
  let l := s.groupChannels g
  let sum (k : Nat) : Nat := l.foldl (fun a c => a + (rd c.last k).toNat) 0
  let sec := dRat (ticks * 50) 1000000
  let v := fRat (i16 s.tim.pose.rcd 50) 1000
  let area := match s.yld.prev with
    | some e => if s.poseFlag 1 && fle (fRat 3 10) v && s.yld.working then fOfD (dmul (dmul (dOfF v) e.w) sec) else fZero
    | none => fZero
  { grain := sum 0, double := sum 2, all := sum 0 + sum 1 + sum 2 + sum 3, ticks := ticks, area := area,
    wet := if wet.2 then fOfD (dmul (dOfF wet.1) sec) else fZero }

/-- The outputs of a group over its frames (07 R205): rate, kg/ha, %, hits/s. -/
def lossOutputs (r : List Byte) (kmass : F32) (l : List LossFrame) : Vector Sig 4 :=
  let sum (f : LossFrame → F64) : F64 := l.foldl (fun a x => dadd a (f x)) 0
  let n (f : LossFrame → Nat) : F64 := dOfInt ((l.foldl (fun a x => a + f x) 0 : Nat) : Int)
  let g := dadd (n LossFrame.grain) (dmul (dOfF (f32At r 8)) (n LossFrame.double))
  let m := dmul (dmul g (dOfF kmass)) (dOfF (f32At r 4))
  let t := dmul (n LossFrame.ticks) (dRat 50 1000000)
  let a := sum fun x => dOfF x.area
  let q := sum fun x => dOfF x.wet
  let v (ok : Bool) (x : F64) : Sig := if ok then (fOfD x, true) else sigNone
  let loss := u8 r 0 == 1
  let ran := dlt 0 t
  #v[v (loss && ran) (ddiv m t), v (loss && dlt 0 a) (ddiv (dmul (dOfInt 10000) m) a),
     v (loss && dlt 0 q) (ddiv (dmul (dOfInt 100) m) (dadd q m)), v (u8 r 0 != 0 && ran) (ddiv (n LossFrame.all) t)]

/-- The loss groups after a frame. -/
def State.lossGroups (s : State) (ticks : Nat) (wet : Sig) : State :=
  let km := (s.img.cropRec s.crop).map (fun b => f32At b 12) |>.getD 0
  s.updFlw fun f => { f with
    group := mapIdxV f.group fun g x =>
    let r := s.lossGroupRec g
    if u8 r 0 = 0 then x
    else
      let l := (s.lossFrame g ticks wet :: x.frames).take (u16 r 2)
      { frames := l, out := lossOutputs r km l } }

/-! Calibration (07 R193, R194). -/

/-- A settings write that may fail (07 R193): the state after it, or none where the flash refused it. -/
def State.trySettings (s : State) (f : Settings → Settings) : Option State × State :=
  let t := { s with free := s.free + 1 }
  if Config.settingsFail s.free then (none, t) else (some (t.updSettings f), t)

/-- RESULT after a command. -/
def State.calResult (s : State) (st : CalState) (r : Nat) : State :=
  s.updFlw fun f => { f with calState := st, result := BitVec.ofNat 8 r }

/-- ENTER in STOPPED (07 R194). -/
def State.calEnter (s : State) : State :=
  let f := s.flw
  let mw := fRat f.mass.toNat 10
  let ratio := fdiv mw f.mm
  if flt f.mm (s.flowField (fun b => f32At b 32) (fOfInt 500)) then s.calResult .idle 0x02
  else if f.frames < 100 * f.gaps.toNat then s.calResult .idle 0x04
  else if flt ratio (s.flowField (fun b => f32At b 36) (fRat 85 100)) || flt (s.flowField (fun b => f32At b 40) (fRat 115 100)) ratio
      || fIsNaN ratio then s.calResult .idle 0x03
  else
    let old := s.calFactor
    let new := fmul old ratio
    let crop := s.crop
    match s.trySettings (fun t => { t with cal := bindN t.cal crop new, calGen := t.calGen + 1 }) with
    | (some t, _) => (t.updFlw fun f => { f with calChange := some (old, new, crop) }).calResult .idle 0x01
    | (none, t) => t.calResult .idle 0x09

/-- A calibration command at a window boundary (07 R194). -/
def State.calCommand (s : State) (c : CalCmd) : State :=
  match c, s.flw.calState with
  | .start, .idle => s.updFlw fun f => { f with calState := .running, mm := fZero, mmValid := true, frames := 0, gaps := 0, calCrop := s.crop }
  | .stop, .running => s.updFlw fun f => { f with calState := .stopped }
  | .enter, .stopped => s.calEnter
  | .abort, .running => s.calResult .idle 0x05
  | .abort, .stopped => s.calResult .idle 0x05
  | .tare, .idle => s.updFlw fun f => { f with
      calState := .taring, tareAt := s.clk.opt, tareS := Vector.replicate 2 [], tareF := Vector.replicate 2 [], tareA := [],
      tareBad := false }
  | _, st => s.calResult st 0x08

/-- The end of a run by a crop change or a shutdown (07 R194). -/
def State.calAbort (s : State) : State :=
  match s.flw.calState with
  | .running => s.calResult .idle 0x05
  | .stopped => s.calResult .idle 0x05
  | _ => s

/-- The mean of a list in binary64. -/
def meanD (l : List F32) : F64 := ddiv (l.foldl (fun a x => dadd a (dOfF x)) 0) (dOfInt l.length)

/-- Whether the standard deviation of a list is at most `lim`, compared by squares. -/
def quiet (l : List F32) (lim : F32) : Bool :=
  let m := meanD l
  let v := ddiv (l.foldl (fun a x => dadd a (dmul (dsub (dOfF x) m) (dsub (dOfF x) m))) 0) (dOfInt l.length)
  dle v (dmul (dOfF lim) (dOfF lim))

/-- TARE_COMPLETE (07 R194): at the first window boundary with TARE_S elapsed since the tare began.  f_0 is judged whatever COMBINE is, f_1 under SUM
and MEAN. -/
def execTareComplete (o : Opt) (s : State) : Out :=
  let s := s.begin o
  let f := s.flw
  if f.calState ≠ .taring ∨ s.sns.frameOpt ≠ o ∨ o < f.tareAt + s.flowField (fun b => u16 b 24) 5 * 1000000000 then .next s
  else
    let lim := s.flowField (fun b => f32At b 28) (fRat 2 100)
    let ok (b : Nat) : Bool := !(rd f.tareF b).isEmpty && quiet (rd f.tareF b) lim
    if f.tareBad = false ∧ ok 0 ∧ (s.combine < 2 ∨ ok 1) then
      match s.trySettings (fun t => { t with
          z0 := if s.usesBridge 0 then fOfD (meanD (rd f.tareS 0)) else t.z0,
          z1 := if s.usesBridge 1 then fOfD (meanD (rd f.tareS 1)) else t.z1, aT := fOfD (meanD f.tareA) }) with
      | (some t, _) => .next (t.calResult .idle 0x06)
      | (none, t) => .next (t.calResult .idle 0x09)
    else .next (s.calResult .idle 0x07)

/-! The window boundary (07 R188, R192, R194, R199, R204). -/

/-- FLOW_FLAGS of a window (07 R208). -/
def State.flowFlags (s : State) (wet dry moist : Sig) (held below : Bool) : Word :=
  let f := s.flw
  orAll [flag wet.2 0, flag dry.2 1, flag moist.2 2, flag held 3, flag f.degraded 4, flag below 5, flag f.bypass 6,
    flag s.slope.2 7, flag f.compOff 8, flag (f.calState == .taring) 9, flag (f.calState == .running) 10, place s.crop 12 4,
    orAll ((List.range 16).map fun c => flag (rd f.ls c).invalid (16 + c))]

/-- The loss channels at the end of the first, partial window: nothing of it is counted (07 R206). -/
def State.lossDrop (s : State) : State :=
  s.updFlw fun f => { f with ls := f.ls.map fun (x : LossCh) => { x with cnt := Vector.replicate 4 0, satNow := false, peakHist := [], enHist := [] } }

/-- The loss channels at the end of a window (07 R198, R199): their counts are gathered, and the spectrum takes them. -/
def State.lossClose (s : State) : State :=
  s.updFlw fun f => { f with
    ls := mapIdxV f.ls fun c x =>
    let ok := x.whole && x.counting && !x.fault
    { x with last := if ok then x.cnt else Vector.replicate 4 0, invalid := !ok, cnt := Vector.replicate 4 0,
             saturated := x.satNow, satNow := false,
             thrAtMax := decide (s.lsThreshold c x.floor = (s.lsThr c).2.1),
             specCnt := if ok then Vector.ofFn fun k => rd x.specCnt k.val + (rd x.cnt k.val).toNat else x.specCnt,
             specPeak := if ok then x.peakHist.foldl (fun a p => bindN a p.1 ((lookupN a p.1).getD 0 + p.2)) x.specPeak else x.specPeak,
             specEn := if ok then x.enHist.foldl (fun a p => bindN a p.1 ((lookupN a p.1).getD 0 + p.2)) x.specEn else x.specEn,
             specInvalid := x.specInvalid || !ok, peakHist := [], enHist := [] } }

/-- Channel enables and recoveries at a window boundary (07 R199). -/
def State.lossBoundary (s : State) : State :=
  s.updFlw fun f => { f with
    ls := mapIdxV f.ls fun c x =>
    let en := f.lsEn.getLsbD c
    let fault := x.fault && x.inState.isNone
    { x with enF := en, fault := fault, inState := if x.fault && !fault then none else x.inState, counting := en && !fault,
             whole := en && !fault } }

/-- The outcome of a window: WET, DRY and MOISTURE, whether moisture is held, and FLOW_FLAGS. -/
structure FlowWindow where
  wet : Sig
  dry : Sig
  moist : Sig
  held : Bool
  flags : Word
deriving DecidableEq, Repr, Inhabited

/-- The window boundary of the flow groups (07 R192, R204): a change of crop abandons the calibration and starts the loss means and
the yield estimate afresh. -/
def State.flwBoundary (s : State) : State :=
  let t := (s.applyGroup 0x0300).applyGroup 0x0301
  if t.crop = s.crop then t
  else (t.calAbort.updFlw fun f => { f with group := f.group.map fun (g : LossGroup) => { g with frames := [] } }).yieldCrop

/-- The boundary at the end of a window: the groups, then the commands, then the channels' enables and recoveries (07 R192, R194, R199). -/
def State.flowBoundary (s : State) : State :=
  let s4 := s.flwBoundary
  (s4.flw.calCmds.foldl (fun t c => t.calCommand c) (s4.updFlw fun f => { f with calCmds := [] })).lossBoundary

/-- The sums of a window set back for the next. -/
def FlwSt.fresh (f : FlwSt) : FlwSt :=
  { f with
    bridge := f.bridge.map fun (x : BridgeSt) => { x with fbarSum := 0, fbarN := 0 },
    qSum := 0, usable := 0, samples := 0, degraded := false, bypass := false, compOff := false, calChange := none }

/-- Closing the flow and loss window of `ticks` ticks now (07 R188 to R206): the values of the frame, the calibration's sums, the
boundary, and a fresh window; the first, partial window gives no frame and counts as empty (07 R206). -/
def State.flowClose (s : State) (ticks : Nat) (whole : Bool) : FlowWindow × State :=
  if whole = false then (default, (s.lossDrop.updFlw FlwSt.fresh).flowBoundary) else
  let (wet, below) := s.wetFlow ticks
  let (moist, held, hist, last) := s.moisture
  let dry := s.dryFlow wet moist below
  let s1 := s.lossClose.lossGroups ticks wet
  let flags := s1.flowFlags wet dry moist held below
  let src := s.moistSource.getD sigNone
  let s2 := s1.updFlw fun f => { f with
    wet := wet, dry := dry, moist := moist, moistSrc := src, flags := flags, moistHist := hist, moistLast := last,
    mm := if f.calState = .running ∧ wet.2 then fadd f.mm (fmul wet.1 (fRat (ticks * 50) 1000000)) else f.mm,
    frames := if f.calState = .running then f.frames + 1 else f.frames,
    gaps := if f.calState = .running ∧ wet.2 = false then satInc f.gaps else f.gaps,
    bridge := f.bridge.map fun (x : BridgeSt) =>
      { x with fbar := if x.fbarN = 0 then sigNone else (fOfD (ddiv x.fbarSum (dOfInt x.fbarN)), true) } }
  ({ wet := wet, dry := dry, moist := moist, held := held, flags := flags }, (s2.updFlw FlwSt.fresh).flowBoundary)

/-- A loss channel as a frame shows it. -/
def State.lossOut (s : State) (c : Nat) (x : LossCh) : LossOut :=
  { cnt := x.last, ok := !x.invalid, saturated := x.saturated, thrAtMax := x.thrAtMax, noise := (fpFloor (dv x.floor)).toNat,
    thr := s.lsThreshold c x.floor }

/-- A published frame brings its values to the registers and signals of FLW, and its own to the mapper (06 R179; 07 R188, R211, R212). -/
def State.flowPublish (s : State) : State :=
  let s1 := s.updFlw fun f => { f with out := {
    any := true, flags := f.flags, wet := f.wet, dry := f.dry, moist := f.moist, moistSrc := f.moistSrc,
    fbar := f.bridge.map BridgeSt.fbar, mm := if f.mmValid then f.mm else fNaN, calState := f.calState, result := f.result, gaps := f.gaps,
    factor := s.calInForce.getD fNaN, loss := Vector.ofFn fun i => s.lossOut i.val (rd f.ls i.val), group := f.group.map LossGroup.out } }
  match s1.yld.inbox with
  | some f => (s1.updYld fun y => { y with inbox := none }).yieldFrame f
  | none => s1

/-! Commands (07 R212) and the spectrum (07 R207). -/

/-- The effect of a write of FLW_CAL_CMD (07 R194): the command acts at the next window boundary. -/
def State.calQueue (s : State) (c : CalCmd) : State := s.updFlw fun f => { f with calCmds := f.calCmds ++ [c] }

/-- Both counters of the loss channels of a mask are cleared (01 R19, 07 R212). -/
def State.lossCntClear (s : State) (m : Nat) : State :=
  s.updFlw fun f => { f with ls := mapIdxV f.ls fun c x => if m.testBit c then { x with overlong := 0, satCnt := 0 } else x }

/-- A sparse histogram as 64 saturating 16-bit counts. -/
def histBytes (l : List (Nat × Nat)) : List Byte :=
  ((List.range 64).map fun b => leBytes 2 (min ((lookupN l b).getD 0) 0xFFFF)).flatten

/-- The spectrum body of channel `c` (07 R207). -/
def State.spectrumBody (s : State) (c : Nat) : List Byte :=
  let x := rd s.flw.ls c
  let sat := (x.specPeak ++ x.specEn).any fun p => decide (0xFFFF ≤ p.2)
  leBytes 1 c ++ leBytes 1 ((if x.specInvalid then 1 else 0) + (if sat then 2 else 0)) ++ leBytes 2 s.flw.specFrames
    ++ leBytes 4 s.flw.specFirst.toNat ++ (x.specCnt.toList.map fun k => leBytes 4 k).flatten ++ leBytes 2 (fpFloor (dv x.floor)).toNat
    ++ leBytes 2 (s.lsThreshold c x.floor) ++ leBytes 4 0 ++ histBytes x.specPeak ++ histBytes x.specEn

/-- The spectrum's counts set back for the next period. -/
def State.spectrumClear (s : State) : State :=
  s.updFlw fun f => { f with specFrames := 0, specLast := false, ls := f.ls.map fun (x : LossCh) =>
    { x with specCnt := Vector.replicate 4 0, specPeak := [], specEn := [], specInvalid := false } }

/-- A frame counts in the spectrum of its period (07 R207); what a period without its last frame has gathered waits as its own bodies. -/
def State.spectrumFrame (s : State) (key : Bool × Nat) (isLast : Bool) (seq : Word) : State :=
  let s1 := if s.flw.specFrames ≠ 0 ∧ s.flw.specKey ≠ key then
      (s.updFlw fun f => { f with specWait := (List.range 16).map s.spectrumBody }).spectrumClear else s
  s1.updFlw fun f => { f with
    specFrames := f.specFrames + 1, specFirst := if f.specFrames = 0 then seq else f.specFirst, specKey := key, specLast := isLast }

/-- LOSS_SPECTRUM_PUBLISH (07 R207): one body per channel for each DVT second, or per 100 frames before DVT is set. -/
def execLossSpectrumPublish (o : Opt) (s : State) : Out :=
  let s := s.begin o
  let send (t : State) (c : Nat) (b : List Byte) : State := t.publish 4 (fun i => i == 0xFFFF || i == c) o (t.dvtAt o) b
  if s.flw.specWait ≠ [] then
    .next (((s.flw.specWait.zipIdx).foldl (fun t p => send t p.2 p.1) s).updFlw fun f => { f with specWait := [] })
  else if s.flw.specFrames = 0 ∨ s.flw.specLast = false then .next s
  else .next ((List.range 16).foldl (fun t c => send t c (s.spectrumBody c)) s).spectrumClear

end Sys2Proof.Machine
end

