-- ==== Sys2Proof/Machine/Lines.lean ====
section
/-! DEFINITION. Guidance lines (12 R324 to R327): the line of a commit group's words, its rules, and the errors of a control point
against it, in binary64. -/

namespace Sys2Proof.Machine

/-- A point or a direction of the plane: E and N. -/
abbrev Pt := F64 × F64

def Pt.sub (a b : Pt) : Pt := (dsub a.1 b.1, dsub a.2 b.2)
def Pt.along (a u : Pt) (x : F64) : Pt := (dadd a.1 (dmul u.1 x), dadd a.2 (dmul u.2 x))
def Pt.dot (a b : Pt) : F64 := dadd (dmul a.1 b.1) (dmul a.2 b.2)
def Pt.norm (a : Pt) : F64 := sqrt64 (Pt.dot a a)
def Pt.scale (a : Pt) (x : F64) : Pt := (dmul a.1 x, dmul a.2 x)
def Pt.unit (a : Pt) : Pt := (ddiv a.1 (Pt.norm a), ddiv a.2 (Pt.norm a))
def Pt.right (a : Pt) : Pt := (a.2, dneg a.1)
def Pt.left (a : Pt) : Pt := (dneg a.2, a.1)
def Pt.neg (a : Pt) : Pt := (dneg a.1, dneg a.2)

def dZero : F64 := 0
def dOne : F64 := dOfInt 1

/-- The azimuth of a direction in degrees, clockwise from N, from 0 to less than 360 (12 R324). -/
def azimuth (u : Pt) : F64 :=
  if feqD u.2 then (if dlt u.1 dZero then dOfInt 270 else dOfInt 90)
  else
    let a := ddiv (atan64 (ddiv u.1 u.2)) degRad
    let b := if dlt u.2 dZero then dadd a (dOfInt 180) else a
    if dlt b dZero then dadd b (dOfInt 360) else b
where
  feqD (x : F64) : Bool := !dlt x dZero && !dlt dZero x

/-- An angle in degrees wrapped to [−180, 180). -/
def wrap180 (x : F64) : F64 :=
  if dlt x (dOfInt (-180)) then dadd x (dOfInt 360) else if dle (dOfInt 180) x then dsub x (dOfInt 360) else x

/-- A guidance line (12 R325): points in m, curvatures in 1/m, OFFSET in m. -/
structure Line where
  kind : Nat
  npts : Nat
  lat0 : Int
  lon0 : Int
  off : Int
  e : Nat → Int
  n : Nat → Int
  k : Nat → F32

/-- The line that words at the addresses of the STR block describe (12 R337). -/
def lineOf (w : Nat → Word) : Line :=
  let h := w 0x80100
  let i64w (lo hi : Nat) : Int := (BitVec.ofNat 64 ((w lo).toNat + 2 ^ 32 * (w hi).toNat)).toInt
  { kind := field h 0 2, npts := field h 8 7, lat0 := i64w 0x80104 0x80108, lon0 := i64w 0x8010C 0x80110, off := (w 0x80114).toInt,
    e := fun i => (w (0x80200 + 4 * i)).toInt, n := fun i => (w (0x80300 + 4 * i)).toInt, k := fun i => w (0x80400 + 4 * i) }

namespace Line

def pt (l : Line) (i : Nat) : Pt := (dRat (l.e i) 1000, dRat (l.n i) 1000)
def d (l : Line) : F64 := dRat l.off 1000
def kap (l : Line) (i : Nat) : F64 := dOfF (l.k i)
def isArc (l : Line) (i : Nat) : Bool := l.kind == 2 && !feq (l.k i) fZero
def segs (l : Line) : Nat := l.npts - 1

/-- The unit vector from point i to the next. -/
def chord (l : Line) (i : Nat) : Pt := Pt.unit (Pt.sub (l.pt (i + 1)) (l.pt i))

/-- The centre of arc i (12 R325): right of the chord for a turn to the right, by the height of the centre over it. -/
def centre (l : Line) (i : Nat) : Pt :=
  let r := ddiv dOne (dabs (l.kap i))
  let w := Pt.sub (l.pt (i + 1)) (l.pt i)
  let half := ddiv (Pt.norm w) (dOfInt 2)
  let h2 := dsub (dmul r r) (dmul half half)
  let h := if dlt dZero h2 then sqrt64 h2 else dZero
  let mid := Pt.along (l.pt i) w (dRat 1 2)
  let side := if dlt dZero (l.kap i) then Pt.right (l.chord i) else Pt.left (l.chord i)
  Pt.along mid side h

/-- The direction of travel on arc i where the vector from the point to the centre is `v`. -/
def arcDir (l : Line) (i : Nat) (v : Pt) : Pt := if dlt dZero (l.kap i) then Pt.left (Pt.unit v) else Pt.right (Pt.unit v)

/-- The tangents of segment i at its start and its end. -/
def startTan (l : Line) (i : Nat) : Pt := if l.isArc i then l.arcDir i (Pt.sub (l.centre i) (l.pt i)) else l.chord i
def endTan (l : Line) (i : Nat) : Pt := if l.isArc i then l.arcDir i (Pt.sub (l.centre i) (l.pt (i + 1))) else l.chord i

/-- The ends of segment i shifted by OFFSET (12 R325). -/
def offStart (l : Line) (i : Nat) : Pt := Pt.along (l.pt i) (Pt.right (l.startTan i)) l.d
def offEnd (l : Line) (i : Nat) : Pt := Pt.along (l.pt (i + 1)) (Pt.right (l.endTan i)) l.d

/-- The curvature of segment i after the shift. -/
def offKap (l : Line) (i : Nat) : F64 :=
  if l.isArc i then ddiv (l.kap i) (dsub dOne (dmul (l.kap i) l.d)) else dZero

/-- The length of the part of shifted arc i from the point in direction `g` from its centre to its end, and of the whole. -/
def arcAngle (l : Line) (i : Nat) (g : Pt) : F64 :=
  let c := l.centre i
  let a := azimuth (Pt.unit g)
  let b := azimuth (Pt.unit (Pt.sub (l.pt (i + 1)) c))
  let x := if dlt dZero (l.kap i) then dsub b a else dsub a b
  dmul (if dlt x dZero then dadd x (dOfInt 360) else x) degRad

/-- The length of shifted segment i. -/
def segLen (l : Line) (i : Nat) : F64 :=
  if l.isArc i then ddiv (l.arcAngle i (Pt.sub (l.pt i) (l.centre i))) (dabs (l.offKap i))
  else Pt.norm (Pt.sub (l.pt (i + 1)) (l.pt i))

end Line

/-- A candidate for the nearest point (12 R327): its segment, the point, the direction of travel and the curvature there, the distance
along the path to the end of its segment, and how far it lies beyond the last point. -/
structure Near where
  seg : Nat
  q : Pt
  dir : Pt
  kap : F64
  left : F64
  beyond : F64

/-- The nearest point of segment i itself. -/
def Line.nearSeg (l : Line) (i : Nat) (c : Pt) : Near :=
  let a := l.offStart i
  let b := l.offEnd i
  if l.isArc i then
    let m := l.centre i
    let g := Pt.sub c m
    let kap := l.offKap i
    let inside := dle dZero (Pt.dot g (l.startTan i)) && dle (Pt.dot g (l.endTan i)) dZero
    if inside then
      let u := Pt.unit g
      { seg := i, q := Pt.along m u (ddiv dOne (dabs kap)), dir := l.arcDir i (Pt.neg u), kap := kap,
        left := ddiv (l.arcAngle i u) (dabs kap), beyond := dZero }
    else if dle (Pt.norm (Pt.sub c a)) (Pt.norm (Pt.sub c b)) then
      { seg := i, q := a, dir := l.startTan i, kap := kap, left := l.segLen i, beyond := dZero }
    else { seg := i, q := b, dir := l.endTan i, kap := kap, left := dZero, beyond := dZero }
  else
    let u := l.chord i
    let len := Pt.norm (Pt.sub b a)
    let x := Pt.dot (Pt.sub c a) u
    let y := if dlt x dZero then dZero else if dlt len x then len else x
    { seg := i, q := Pt.along a u y, dir := u, kap := dZero, left := dsub len y, beyond := dZero }

/-- The nearest points of the extension before the first and after the last point, where the control point lies along them. -/
def Line.nearExt (l : Line) (c : Pt) : List Near :=
  let n := l.segs - 1
  let a := l.offStart 0
  let x := Pt.dot (Pt.sub c a) (l.startTan 0)
  let b := l.offEnd n
  let y := Pt.dot (Pt.sub c b) (l.endTan n)
  (if dlt x dZero then [{ seg := 0, q := Pt.along a (l.startTan 0) x, dir := l.startTan 0, kap := dZero, left := dsub (l.segLen 0) x,
                          beyond := dZero }] else [])
    ++ (if dlt dZero y then [{ seg := n, q := Pt.along b (l.endTan n) y, dir := l.endTan n, kap := dZero, left := dneg y, beyond := y }]
        else [])

/-- The nearest point among segments `lo` to `hi` and the extensions of those at the ends; the lower segment wins a tie. -/
def Line.nearest (l : Line) (c : Pt) (lo hi : Nat) : Near :=
  let n := l.segs - 1
  let ext := (l.nearExt c).filter fun x => decide (lo ≤ x.seg) && decide (x.seg ≤ hi)
  let inner := ((List.range l.segs).filter fun i => decide (lo ≤ i) && decide (i ≤ hi)).map fun i => l.nearSeg i c
  let cands := (ext.filter fun x => x.seg == 0) ++ inner ++ ext.filter fun x => x.seg == n && n != 0
  cands.foldl (fun b x => if dlt (Pt.norm (Pt.sub c x.q)) (Pt.norm (Pt.sub c b.q)) then x else b) (l.nearSeg (min lo n) c)

/-- The distance along the path from a point of segment i to the last point. -/
def Line.remain (l : Line) (x : Near) : F64 :=
  ((List.range l.segs).filter fun j => decide (x.seg < j)).foldl (fun a j => dadd a (l.segLen j)) x.left

/-- The errors of R327 at a control point with a vehicle heading in degrees. -/
structure LineErr where
  seg : Nat
  rev : Bool
  ey : F64
  epsi : F64
  kap : F64
  remain : Option F64
  beyond : F64

/-- Errors against the nearest point; `rev` follows an AB line from P1 to P0. -/
def Line.errors (l : Line) (c : Pt) (hdg : F64) (lo hi : Nat) (rev : Bool) : LineErr :=
  let x := l.nearest c lo hi
  let u := if rev then Pt.neg x.dir else x.dir
  let v := Pt.sub c x.q
  let dist := Pt.norm v
  { seg := x.seg, rev := rev, ey := if dlt (Pt.dot v (Pt.right u)) dZero then dneg dist else dist,
    epsi := wrap180 (wrap180 (dsub hdg (azimuth u))), kap := x.kap,
    remain := if l.kind = 2 then some (l.remain x) else none, beyond := if l.kind = 2 then x.beyond else dZero }

/-- The direction of an AB line for a heading (12 R327): the reverse where |e_ψ| exceeds 90 °. -/
def Line.reverse (l : Line) (c : Pt) (hdg : F64) : Bool :=
  l.kind == 1 && dlt (dOfInt 90) (dabs (l.errors c hdg 0 l.segs false).epsi)

/-! The rules of the line group (12 R326). -/

def Line.gap2 (l : Line) (i : Nat) : Int :=
  (l.e (i + 1) - l.e i) * (l.e (i + 1) - l.e i) + (l.n (i + 1) - l.n i) * (l.n (i + 1) - l.n i)

/-- |K| × chord / 2 ≤ 1 and |K| ≤ KAPPA_MAX, with the chord in mm, exactly. -/
def Line.kapOk (l : Line) (kMax : F32) (i : Nat) : Bool :=
  let q := Q.ofF (l.k i)
  fIsFin (l.k i) && decide (q.num * q.num * l.gap2 i ≤ 4000000 * ((q.den : Int) * q.den)) && fle (fabs (l.k i)) kMax

/-- 1 − K d ≥ 0.1, exactly. -/
def Line.offOk (l : Line) (i : Nat) : Bool :=
  let q := Q.ofF (l.k i)
  decide (100 * (q.den : Int) ≤ 1000 * q.den - q.num * l.off)

/-- The number of the first rule that a line breaks, in the order of 12 R326. -/
def Line.broken (l : Line) (kMax : F32) : Option Nat :=
  let pts := List.range l.npts
  let sg := List.range l.segs
  if l.kind = 0 then none
  else if ¬ ((l.kind = 1 ∧ l.npts = 2) ∨ (l.kind = 2 ∧ 2 ≤ l.npts ∧ l.npts ≤ 64)) then some 0x0801
  else if sg.any (fun i => decide (l.gap2 i < 10000)) then some 0x0802
  else if (if l.kind = 1 then pts.any fun i => !feq (l.k i) fZero
           else (sg.any fun i => !l.kapOk kMax i) || !feq (l.k (l.npts - 1)) fZero) then some 0x0803
  else if (pts.any fun i => decide (400000000000000 < l.e i * l.e i + l.n i * l.n i)) ∨ 85000000000 < l.lat0.natAbs then some 0x0804
  else if sg.any (fun i => l.isArc i && !l.offOk i) then some 0x0805
  else if (List.range (l.segs - 1)).any (fun i =>
      dlt (Pt.dot (l.endTan i) (l.startTan (i + 1))) (cos64 (dmul (dOfInt 30) degRad))) then some 0x0806
  else none

end Sys2Proof.Machine
end

