-- ==== Sys2Proof/Machine/Vision.lean ====
section
/-! DEFINITION. Camera intake and image pipelines (14): frames, exposure sets and tags, the stages whose arithmetic the manual
gives, statistics, auto-exposure, raw taps, the read window and the grain-sample service. -/

namespace Sys2Proof.Machine

/-- The state with the vision block, a camera or a pipeline changed. -/
def State.updVis (s : State) (f : VisSt → VisSt) : State := { s with vis := f s.vis }
def State.updCam (s : State) (n : Nat) (f : Cam → Cam) : State := s.updVis fun v => { v with cam := upd v.cam n f }
def State.updPipe (s : State) (p : Nat) (f : Pipe → Pipe) : State := s.updVis fun v => { v with pipe := upd v.pipe p f }

/-! Configuration (14 R387). -/

/-- The PORTS and PIPE_PARAMS records of camera `n`; none where the section is absent. -/
def State.camRec (s : State) (n : Nat) : List Byte := (s.img.record 0x0A01 0x0001 64 n).getD []
def State.pipeRec (s : State) (n : Nat) : List Byte := (s.img.record 0x0A01 0x0002 64 n).getD []

/-- Fields of a PORTS record. -/
def camW (b : List Byte) : Nat := u16 b 4
def camH (b : List Byte) : Nat := u16 b 6
def camUs (b : List Byte) : Nat := u32 b 8
def camPipe (b : List Byte) : Nat := u8 b 12 % 2
def camMemory (b : List Byte) : Bool := u8 b 13 == 1
def camOutBufs (b : List Byte) : Nat := u8 b 15

/-! Exposure sets (14 R380 to R382). -/

/-- The live words of camera `n`'s exposure group. -/
def State.camWords (s : State) (n : Nat) : List Word := (List.range 9).map fun j => s.live (0xA1000 + 64 * n + 4 * j)

/-- Fields of a set's words. -/
def setMode (w : List Word) : Nat := field (w.getD 0 0) 0 2
def setLines (w : List Word) (k : Nat) : Nat := field (w.getD (1 + k) 0) 0 20
def setGain (w : List Word) (k : Nat) : Nat := field (w.getD (4 + k) 0) 0 16
/-- WB gains R, Gr, Gb, B. -/
def setWb (w : List Word) : List Nat :=
  [field (w.getD 7 0) 0 16, field (w.getD 7 0) 16 16, field (w.getD 8 0) 0 16, field (w.getD 8 0) 16 16]
/-- The exposure count of a mode (14 R383). -/
def modeExposures (m : Nat) : Nat := match m with
  | 1 => 2
  | 2 => 3
  | _ => 1

/-- The tag after one (14 R381): 1, 2, …, 255, 1. -/
def nextTag (t : Nat) : Nat := if 255 ≤ t then 1 else t + 1

/-- `k` in `n` bytes of the port's byte order. -/
def portBytes (big : Bool) (n k : Nat) : List Byte := if big then beBytes n k else leBytes n k

/-- The code of a gain in Q8.8 (14 R381). -/
def State.gainCode (s : State) (b : List Byte) (g : Nat) : Nat :=
  match s.img.tableOf kCurve (u16 b 44) with
  | none => g
  | some c => let x := fRat g 256
              (if u8 c 3 = 0 then fRoundAway (curveF c x 0) else curveRaw c x 0).toNat

/-- The burst of a set (14 R381): lines, gains, tag. -/
def State.burstOf (s : State) (n : Nat) (e : ExpSet) : List (Nat × List Byte × Nat) :=
  let b := s.camRec n
  let big := (u8 b 23).testBit 2
  let k := modeExposures (setMode e.words)
  (List.range k).map (fun i => (u16 b (32 + 2 * i), portBytes big (u8 b 30) (setLines e.words i), 0))
    ++ (List.range k).map (fun i => (u16 b (38 + 2 * i), portBytes big (u8 b 31) (s.gainCode b (setGain e.words i)), 0))
    ++ [(u16 b 24, portBytes big 1 e.tag, 0)]

/-- The INIT entries of port `n` (14 R370, R387): register, data, delay in ms. -/
def State.initWrites (s : State) (n : Nat) : List (Nat × List Byte × Nat) :=
  match s.img.sect 0x0A01 0x0004 with
  | none => []
  | some b =>
    let big := (u8 (s.camRec n) 23).testBit 2
    ((List.range (u16 b 0)).filter fun i => u8 b (4 + 12 * i) == n).map fun i =>
      let o := 4 + 12 * i
      (u16 b (o + 2), portBytes big (u8 b (o + 1)) (u32 b (o + 4)), u16 b (o + 8))

/-- The time an I2C write list takes: 9 bits a byte with address and register, and its delays (14 R366). -/
def i2cTime (cfg : Nat) (l : List (Nat × List Byte × Nat)) : Nat :=
  let bit := if cfg.testBit 0 then 1000 else 2500
  let head := if cfg.testBit 1 then 3 else 2
  l.foldl (fun a w => a + (9 * (head + w.2.1.length) + 2) * bit + w.2.2 * 1000000) 0

/-- A pipeline that a cluster reset left OFF runs again with an enable of a camera that feeds it (01 R25; log 97). -/
def State.pipeEnable (s : State) (n : Nat) : State :=
  s.updPipe (camPipe (s.camRec n)) fun q => if q.lastErr = 0 then { q with run := true } else q

/-- Whether a port is in the FAULT of a window or memory error, which the cluster's reset ends (01 R20, R21). -/
def memFault (c : Cam) : Bool := c.fault && decide (0xF0 ≤ c.lastErr.toNat)

/-- A change of VIS_CAM_EN (01 R17; 14 R370): a port newly enabled starts its INIT and its set; one newly disabled finishes its frame and is off from
the next frame start, or at once where no frames start. -/
def State.camEnable (s : State) (m : BitVec 6) : State :=
  (List.range 6).foldl (fun t0 n =>
    let was := s.vis.en.getLsbD n
    let on := m.getLsbD n
    let t := if on then t0.pipeEnable n else t0
    if on && !was && memFault (rd t.vis.cam n) then t
    else if on && !was then
      let e : ExpSet := { ((rd t.vis.cam n).sets.headD default) with words := t.camWords n }
      let l := t.initWrites n ++ t.burstOf n e
      (t.updCam n fun c => { c with
        starting := true, initAt := t.clk.opt + i2cTime (u8 (t.camRec n) 23) l,
        lastLock := t.clk.opt }).send (.i2c n l)
    else if was && !on then
      t.updCam n fun c => if c.enF && c.link && !c.fault then { c with starting := false }
        else { c with enF := false, starting := false, link := false, fault := memFault c }
    else t) (s.updVis fun v => { v with en := m })

/-! Buffers (14 R378). -/

/-- Exposures that arrived in a frame, and whether each has `h` lines of `w` pixels (14 R369). -/
def CamFrame.exposures (f : CamFrame) : Nat := f.samples.length
def CamFrame.fits (f : CamFrame) (w h : Nat) : Bool :=
  f.samples.all fun e => e.length == h && e.all fun l => l.length == w

/-- Output buffers of a camera that a reader holds. -/
def Cam.heldBufs (c : Cam) : Nat := (c.outBufs.filter fun b => b.grain || b.window).length

/-- Whether an output buffer is free for camera `n`, `writing` passes being under way. -/
def State.outFree (s : State) (n writing : Nat) : Bool :=
  decide ((rd s.vis.cam n).heldBufs + writing < camOutBufs (s.camRec n))

/-- A pass takes a buffer as it begins, `writing` others being under way: with none empty, the oldest free one, whose frame is gone. -/
def Cam.takeBuf (c : Cam) (limit writing : Nat) : Cam :=
  if c.outBufs.length + writing < limit then c
  else { c with outBufs := c.outBufs.eraseIdx ((c.outBufs.findIdx? fun x => !x.grain && !x.window).getD c.outBufs.length) }

/-- A frame dropped for want of a buffer. -/
def Cam.dropForBuffer (c : Cam) : Cam := { c with dropBuf := satInc c.dropBuf, err := true }

/-- A frame dropped for reason `r` (14 R369). -/
def Cam.dropFor (c : Cam) (r : Nat) : Cam :=
  { c with dropErr := satInc c.dropErr, err := true, lastErr := BitVec.ofNat 8 r }

/-! The frame start (14 R368, R370, R378, R380, R381). -/

/-- The exposure group's boundary at a frame start: a checked set becomes live with a new tag and goes to the sensor; that of a port that
is off goes there with its enable (R370). -/
def State.camCutoff (s : State) (n : Nat) : State :=
  match s.snapReady (0x0A00 + n) with
  | none => s
  | some p =>
    let t := s.applySnap p
    let c := rd t.vis.cam n
    let e : ExpSet := { tag := nextTag (c.sets.headD default).tag, frame := c.frameCnt.toNat, words := t.camWords n }
    let t1 := t.updCam n fun x => { x with sets := (e :: x.sets).take 4 }
    if s.vis.en.getLsbD n then (t1.updCam n fun x => { x with burst := some t.clk.opt }).send (.i2c n (t.burstOf n e)) else t1

/-- The frame in progress of camera `n` is dropped for reason `r`: its raw buffer is released and a tap stays armed (14 R369,
R373). -/
def State.dropFrame (s : State) (n r : Nat) : State :=
  match (rd s.vis.cam n).cur with
  | none => s
  | some j =>
    let s1 := s.updCam n fun c =>
      let d := c.dropFor r
      { d with cur := none, rawUsed := if j.memory then c.rawUsed - 1 else c.rawUsed }
    if j.tapped then s1.updPipe (camPipe (s1.camRec n)) fun q => { q with tap := .armed } else s1

/-- FRAME_START (14 R368): the frame counter, the settings cut-off, and the frame in progress where the port takes it.  A frame that has
not ended by then lacks lines. -/
def execFrameStart (o : Opt) (cam : Fin 6) (s : State) : Out :=
  let s := s.begin o
  let n := cam.val
  let c0 := rd s.vis.cam n
  if s.runs rVIS = false ∨ (s.vis.en.getLsbD n = false ∧ c0.enF = false) ∨ c0.fault then .next s
  else
    let s := s.dropFrame n 0x03
    let s1 := (s.updCam n fun c => { c with frameCnt := c.frameCnt + 1, link := true, lastLock := o }).camCutoff n
    let b := s1.camRec n
    let c := rd s1.vis.cam n
    if s1.vis.en.getLsbD n = false then .next (s1.updCam n fun c => { c with enF := false, link := false })
    else if o < c.initAt then .next (s1.updCam n fun c => c.dropFor 0x06)
    else
      let s2 := s1.updCam n fun c => { c with enF := true, starting := false, initDone := true }
      let mem := camMemory b
      let p := camPipe b
      let pipe := rd s2.vis.pipe p
      let writing := if (pipe.inl.map FrameJob.cam) = some n then 1 else 0
      let free := if mem then decide (c.rawUsed < u8 b 14) else s2.outFree n writing
      if free = false then .next (s2.updCam n Cam.dropForBuffer)
      else
        let tapped := !mem && pipe.tap == .armed && pipe.tapCam == n
        let j : FrameJob := { cam := n, cnt := c.frameCnt, fs := o, dvt := s2.dvt, newest := (c.sets.headD default).tag, settings := none,
                              inferred := false, unknown := false, tag := 0, memory := mem, tapped := tapped, data := default }
        let s3 := s2.updCam n fun c => if mem then { c with cur := some j, rawUsed := c.rawUsed + 1 }
          else { c.takeBuf (camOutBufs b) writing with cur := some j }
        .next (if tapped then s3.updPipe p fun q => { q with tap := .writing } else s3)

/-- The set that governs a frame (14 R382): by its echoed tag, or by the frame number, with TAG_INFERRED and TAG_UNKNOWN. -/
def State.frameSet (s : State) (j : FrameJob) (emb : List Byte) : ExpSet × Bool × Bool :=
  let c := rd s.vis.cam j.cam
  let b := s.camRec j.cam
  let newest := c.sets.headD default
  if u16 b 26 = 0xFFFF then
    (((c.sets.find? fun e => decide (e.frame + u8 b 17 ≤ j.cnt.toNat)).getD (c.sets.getLastD default)), true, false)
  else match c.sets.find? (fun e => e.tag == u8 emb (u16 b 26)) with
    | some e => (e, false, false)
    | none => (newest, false, true)

/-- FRAME_END (14 R369, R377): the frame is accepted or dropped whole. -/
def execFrameEnd (o : Opt) (cam : Fin 6) (f : CamFrame) (s : State) : Out :=
  let s := s.begin o
  let n := cam.val
  match (rd s.vis.cam n).cur with
  | none => .next s
  | some j =>
    if s.runs rVIS = false then .next s
    else
      let b := s.camRec n
      let s1 := s.updCam n fun c => { c with dropErr := satAdd c.dropErr f.otherPackets, err := c.err || decide (0 < f.otherPackets) }
      if f.crcBad then .next (s1.dropFrame n 0x02)
      else if f.fits (camW b) (camH b) = false then .next (s1.dropFrame n 0x03)
      else if j.fs + 2000 * camUs b < o then .next (s1.dropFrame n 0x04)
      else
      let (e, inferred, unknown) := s1.frameSet j f.embedded
      let s2 := if unknown then s1.updCam n fun c => { c with tagErr := satInc c.tagErr, err := true } else s1
      if f.exposures ≠ modeExposures (setMode e.words) then .next (s2.dropFrame n 0x05)
      else
        let k := { j with settings := some e, inferred := inferred, unknown := unknown, tag := e.tag, data := f }
        let s3 := s2.updCam n fun c => { c with
          cur := none, tag := BitVec.ofNat 8 e.tag }
        .next (s3.updPipe (camPipe b) fun q => if j.memory then { q with ready := q.ready ++ [k] } else { q with inl := some k })

/-- FRAME_TIMEOUT (14 R369): the frame has not ended within 2 × FRAME_US. -/
def execFrameTimeout (o : Opt) (cam : Fin 6) (s : State) : Out :=
  let s := s.begin o
  match (rd s.vis.cam cam.val).cur with
  | some j => if s.runs rVIS ∧ j.fs + 2000 * camUs (s.camRec cam.val) < o then .next (s.dropFrame cam.val 0x04) else .next s
  | none => .next s

/-- CAMERA_LINK_LOSS (14 R366): no lock within 2 s of the enable, or lock lost. -/
def execCameraLinkLoss (o : Opt) (cam : Fin 6) (s : State) : Out :=
  let s := s.begin o
  let n := cam.val
  let c := rd s.vis.cam n
  if s.runs rVIS = false ∨ s.vis.en.getLsbD n = false ∨ c.fault ∨ (c.link = false ∧ o < c.lastLock + 2000000000) then .next s
  else
    .next (((s.dropFrame n 0x01).updCam n fun x => { x with
      fault := true, link := false, lastErr := 0x01, lastLock := o, cur := none }).unitFault 0x0A n 1)

/-- CAMERA_LINK_RETRY (14 R366): once per second while the port stays enabled. -/
def execCameraLinkRetry (o : Opt) (cam : Fin 6) (locked : Bool) (s : State) : Out :=
  let s := s.begin o
  let n := cam.val
  let c := rd s.vis.cam n
  if s.runs rVIS = false ∨ s.vis.en.getLsbD n = false ∨ c.fault = false ∨ memFault c ∨ c.link ∨ o < c.lastLock + 1000000000 then .next s
  else if locked then .next (s.updCam n fun x => { x with fault := false, link := true, lastLock := o })
  else .next (s.updCam n fun x => { x with lastLock := o })

/-- I2C_BURST_LATE (14 R381): the burst has not finished by the frame start plus CUT_US. -/
def execI2cBurstLate (o : Opt) (cam : Fin 6) (s : State) : Out :=
  let s := s.begin o
  match (rd s.vis.cam cam.val).burst with
  | some t => if s.runs rVIS ∧ t + 1000 * u16 (s.camRec cam.val) 28 ≤ o then
      .next (s.updCam cam.val fun c => { c with burst := none, lateCnt := satInc c.lateCnt, err := true }) else .next s
  | none => .next s

/-! The stages (14 R371, R372). -/

/-- The CFA channel of a pixel (14 R374): 0 R, 1 Gr, 2 Gb, 3 B. -/
def cfaChannel (cfa x y : Nat) : Nat :=
  let p := x % 2 + 2 * (y % 2)
  match cfa with
  | 0 => [0, 1, 2, 3].getD p 0
  | 1 => [1, 0, 3, 2].getD p 0
  | 2 => [2, 3, 0, 1].getD p 0
  | _ => [3, 2, 1, 0].getD p 0

/-- A value saturated to 20 bits. -/
def sat20 (k : Int) : Nat := min k.toNat 0xFFFFF

/-- Stages 2 and 3 of one sample: black level and linearisation. -/
def linearise (lin black : List Byte) (ch code : Nat) : Nat :=
  sat20 (curveRaw lin (fOfInt (code - u16 black (2 * ch) : Nat)) 0)

/-- R_k of a set (14 R372). -/
def ratioK (w : List Word) (k : Nat) : Q :=
  (Q.ofInt (setLines w 0 * setGain w 0 : Nat)).div (Q.ofInt (setLines w k * setGain w k : Nat))

/-- The merge of one pixel's exposures (14 R372), longest first, `k` being the first of the list. -/
def mergePixel (w : List Word) (lo hi : Nat) : List Nat → Nat → Q
  | [], _ => Q.ofInt 0
  | [v], k => (Q.ofInt (v : Int)).mul (ratioK w k)
  | v :: t, k =>
    let here := (Q.ofInt (v : Int)).mul (ratioK w k)
    if v * 65536 < lo * 1048576 then here
    else
      let next := mergePixel w lo hi t (k + 1)
      if hi * 1048576 < v * 65536 then next
      else
        let x : Q := ⟨(v : Int) * 65536 - lo * 1048576, (hi - lo) * 1048576⟩
        here.add (x.mul (next.sub here))

/-- The samples of a frame after each stage whose arithmetic the manual gives: linear per exposure, merged, shaded. -/
structure Stages where
  lin : List (List Nat)
  merged : List Nat
  shaded : List Nat
deriving DecidableEq, Repr, Inhabited

/-- The stages 1 to 6 of a frame (14 R371). -/
def State.stages (s : State) (j : FrameJob) : Stages :=
  let b := s.camRec j.cam
  let pr := s.pipeRec j.cam
  let w := camW b
  let set := (j.settings.getD default).words
  let lin := (s.img.tableOf kCurve (u16 b 52)).getD []
  let ch (i : Nat) : Nat := cfaChannel (u8 b 58) (i % w) (i / w)
  let l := j.data.samples.map fun e => e.flatten.zipIdx.map fun p => linearise lin pr (ch p.2) p.1
  let merged := if modeExposures (setMode set) = 1 then l.headD []
    else (List.range (l.headD []).length).map fun i =>
      sat20 (mergePixel set (u16 pr 10) (u16 pr 12) (l.map fun e => e.getD i 0) 0).round
  let dpc := if u16 pr 8 = 0 then merged else Config.defectCorrect (u16 pr 8 * 16) w merged
  let lsc := u16 b 56
  let shaded := if lsc = 0xFFFF then dpc else dpc.zipIdx.map fun p =>
    match s.img.tableOf kCurve (lsc + ch p.2) with
    | some c => min (Config.shade p.1 (curveEval c (fOfInt (p.2 % w : Nat), true) (fOfInt (p.2 / w : Nat), true)).1) 0xFFFFF
    | none => p.1
  { lin := l, merged := merged, shaded := shaded }

/-! Statistics (14 R374, R375). -/

/-- The histogram of channel `c`: 256 counts of bin value >> 12. -/
def histOf (cfa w c : Nat) (l : List Nat) : List Nat :=
  l.zipIdx.foldl (fun a p => if cfaChannel cfa (p.2 % w) (p.2 / w) = c then a.modify (p.1 / 4096) (fun k => k + 1) else a)
    (List.replicate 256 0)

/-- The zone means of all channels, >> 4: zone z, channel c at 4z + c. -/
def zonesOf (cfa w h : Nat) (l : List Nat) : List Nat :=
  let acc := l.zipIdx.foldl (fun (a : List (Nat × Nat)) p =>
    let x := p.2 % w
    let y := p.2 / w
    let i := 4 * (32 * (24 * y / h) + 32 * x / w) + cfaChannel cfa x y
    a.modify i fun q => (q.1 + p.1, q.2 + 1)) (List.replicate 3072 (0, 0))
  acc.map fun q => if q.2 = 0 then 0 else q.1 / q.2 / 16

/-- M of a frame: the mean of the Gr and Gb zone means, in 1/65,536 of full scale (14 R384). -/
def zoneM (z : List Nat) : Q :=
  let l := z.zipIdx.filter fun p => p.2 % 4 == 1 || p.2 % 4 == 2
  (Q.ofInt ((l.foldl (fun a p => a + p.1) 0 : Nat) : Int)).div (Q.ofInt (max 1 l.length : Nat))

/-- The statistics record (14 R375). -/
def State.statRecord (s : State) (j : FrameJob) (l : List Nat) (zones : List Nat) : List Byte :=
  let b := s.camRec j.cam
  let hist := (List.range 4).map fun c => histOf (u8 b 58) (camW b) c l
  leBytes 4 j.cnt.toNat ++ leBytes 1 j.tag
    ++ leBytes 1 ((if j.inferred then 1 else 0) + (if j.unknown then 2 else 0) + (if j.memory then 4 else 0))
    ++ leBytes 1 j.cam ++ leBytes 1 j.data.exposures ++ leBytes 8 j.fs ++ leBytes 8 j.dvt ++ leBytes 8 s.clk.opt
    ++ leBytes 4 l.length ++ leBytes 4 (l.filter fun v => v == 0xFFFFF).length ++ List.replicate 24 0
    ++ ((hist.flatten).map fun k => leBytes 4 k).flatten ++ (zones.map fun k => leBytes 2 k).flatten

/-! Auto-exposure (14 R384). -/

/-- The set that AE forms from `w` for factor `f`, and whether a limit held it back: lines first, the rest by gain, the other
exposures in the same ratios. -/
def aeSet (w : List Word) (f : Q) (maxLines gmin gmax : Nat) : List Word × Bool :=
  let l0 := setLines w 0
  let sum := setLines w 0 + setLines w 1 + setLines w 2
  let want := (Q.ofInt (l0 : Int)).mul f |>.round.toNat
  let top := if sum = 0 then 0 else l0 * maxLines / sum
  let n0 := max 1 (min want top)
  let scale (k : Nat) : Nat := if l0 = 0 then 0 else divRound (setLines w k * n0) l0
  let gainF := (f.mul (Q.ofInt (l0 : Int))).div (Q.ofInt (n0 : Int))
  let g (k : Nat) : Int := ((Q.ofInt (setGain w k : Int)).mul gainF).round
  let held (k : Nat) : Nat := clampNat gmin gmax (g k).toNat
  let words := [w.getD 0 0, place n0 0 20, place (scale 1) 0 20, place (scale 2) 0 20, place (held 0) 0 16,
    if setLines w 1 = 0 then w.getD 5 0 else place (held 1) 0 16, if setLines w 2 = 0 then w.getD 6 0 else place (held 2) 0 16,
    w.getD 7 0, w.getD 8 0]
  (words, decide ((held 0 : Int) ≠ g 0))

/-- AE after a frame (14 R384): where it acts, the new set is the shadow and a pending snapshot under check. -/
def State.autoExpose (s : State) (j : FrameJob) (m : Q) : State :=
  let n := j.cam
  let b := s.camRec n
  let g := 0x0A00 + n
  if (u8 b 23).testBit 3 = false ∨ j.tag ≠ ((rd s.vis.cam n).sets.headD default).tag ∨ j.unknown
      ∨ s.grp.snaps.any (fun p => p.group == g) then s
  else
    let raw := (Q.ofInt (u16 b 60 : Int)).div m
    let f : Q := if m.num = 0 ∨ 2 * (raw.den : Int) < raw.num then ⟨2, 1⟩
      else if 2 * raw.num < raw.den then ⟨1, 2⟩ else raw
    if 20 * (f.num - f.den).natAbs < f.den then s
    else
      let (w, lim) := aeSet (s.camWords n) f (u16 b 46) (u16 b 48) (u16 b 50)
      let addr (i : Nat) : Nat := 0xA1000 + 64 * n + 4 * i
      let words : List (Nat × Word) := (List.range w.length).map fun i => (addr i, w.getD i 0)
      let snap : Snap := { group := g, words := words, accepted := s.clk.opt, checkedAt := none, req := none }
      let t : State := { s with grp := { s.grp with
        shadow := words.foldl (fun l p => bindN l p.1 p.2) s.grp.shadow,
        snaps := s.grp.snaps ++ [snap] } }
      t.updCam n fun c => { c with aeLimit := lim }

/-! Pipelines (14 R376 to R378). -/

/-- The order of ready frames: by OPT_FS, ties round-robin from the camera after the one served last (14 R377). -/
def readyBefore (last : Nat) (a b : FrameJob) : Bool :=
  let key (j : FrameJob) : Nat := (j.cam + 6 - (last + 1) % 6) % 6
  decide (a.fs < b.fs) || (a.fs == b.fs && decide (key a < key b))

/-- The ready frame to take next. -/
def firstReady (last : Nat) : List FrameJob → Option FrameJob
  | [] => none
  | j :: t => match firstReady last t with
    | none => some j
    | some k => if readyBefore last k j then some k else some j

/-- PIPELINE_TAKE_FRAME (14 R376 to R378): a free pipeline takes the next ready frame, or drops it for want of an output
buffer. -/
def execPipelineTakeFrame (o : Opt) (pipe : Fin 2) (s : State) : Out :=
  let s := s.begin o
  let q := rd s.vis.pipe pipe.val
  if s.runs rVIS = false ∨ q.run = false ∨ q.mem.isSome then .next s
  else match firstReady q.lastServed q.ready with
  | none => .next s
  | some j =>
    let rest := q.ready.filter fun k => k != j
    if s.outFree j.cam 0 then
      let tapped := q.tap == .armed && q.tapCam == j.cam
      .next ((s.updPipe pipe.val fun x => { x with
        mem := some { j with tapped := tapped }, ready := rest, lastServed := j.cam, tap := if tapped then .writing else x.tap }).updCam j.cam
          fun c => c.takeBuf (camOutBufs (s.camRec j.cam)) 0)
    else
      .next ((s.updPipe pipe.val fun x => { x with ready := rest }).updCam j.cam fun c => { c.dropForBuffer with rawUsed := c.rawUsed - 1 })

/-- The bytes a tap writes of a frame (14 R373). -/
def State.tapBytes (s : State) (p : Nat) (j : FrameJob) (g : Stages) : List Byte :=
  let w4 (l : List Nat) : List Byte := (l.map fun v => leBytes 4 v).flatten
  match p with
  | 0 => (j.data.samples.flatten.flatten.map fun v => leBytes 2 v).flatten
  | 1 => w4 g.lin.flatten
  | 2 => w4 g.merged
  | 3 => w4 g.shaded
  | _ => Config.tapRender p (s.camRec j.cam) (s.pipeRec j.cam) (setWb (j.settings.getD default).words) g.shaded

/-- Whether the grain-sample service takes a frame of camera `n` now (14 R385, R386): it is idle and under 30 frames a second. -/
def State.grainFree (s : State) : Bool :=
  !s.vis.gsRun && (s.vis.gsLast == 0 || decide (s.vis.gsLast + 33333333 ≤ s.clk.opt))

/-- PIPELINE_FRAME_DONE (14 R374): statistics, output, tap, auto-exposure and the grain-sample service of a frame whose pass is
complete. -/
def execPipelineFrameDone (o : Opt) (pipe : Fin 2) (memory : Bool) (s : State) : Out :=
  let s := s.begin o
  let q := rd s.vis.pipe pipe.val
  match (if memory then q.mem else q.inl) with
  | none => .next s
  | some j =>
    if s.runs rVIS = false ∨ q.run = false then .next s
    else
      let n := j.cam
      let b := s.camRec n
      let g := s.stages j
      let zones := zonesOf (u8 b 58) (camW b) (camH b) g.shaded
      let m := zoneM zones
      let sec := s.img.fieldOr 0x0A01 0x0005 (fun x => (u8 x 0, u8 x 1)) (0, 0)
      let mine := sec.2 == 1 && sec.1 == n && s.runs rSVC
      let take := mine && s.grainFree
      let out : OutBuf := { cnt := j.cnt, tag := j.tag, unknown := j.unknown, sat := (g.shaded.filter fun v => v == 0xFFFFF).length,
                            pixels := g.shaded.length,
                            bytes := Config.render b (s.pipeRec n) (setWb (j.settings.getD default).words) g.shaded,
                            grain := take, window := false, endOpt := o }
      let s1 := s.updCam n fun c => { c with
        outBufs := c.outBufs ++ [out], rawUsed := if memory then c.rawUsed - 1 else c.rawUsed, stats := some (s.statRecord j g.shaded zones),
        mean := some (f32 (fpRat fmt32 m.num (m.den * 65536))) }
      let s2 := s1.updPipe pipe.val fun x => { x with
        mem := if memory then none else x.mem, inl := if memory then x.inl else none,
        tap := if j.tapped then .done else x.tap, tapData := if j.tapped then s.tapBytes x.tapPoint j g else x.tapData }
      let s3 := s2.updVis fun v => if take then { v with gsRun := true, gsLast := o }
        else if mine then { v with gsSkip := satInc v.gsSkip } else v
      .next (s3.autoExpose j m)

/-! The grain-sample service (14 R385, R386). -/

/-- GRAIN_SAMPLE_EVAL (14 R385, R386): the indices of the frame under evaluation, whose method the manual does not give, and
their validity; the output buffer is released. -/
def execGrainSampleEval (o : Opt) (g : GrainEval) (s : State) : Out :=
  let s := s.begin o
  let sec := (s.img.sect 0x0A01 0x0005).getD []
  let n := u8 sec 0
  match (rd s.vis.cam n).outBufs.find? OutBuf.grain with
  | none => .next s
  | some b =>
    if s.runs rSVC = false then .next s else
    let profile := u8 sec (16 + field (s.live 0x30010) 0 4)
    let ok := !(flt g.cover (fRat (u16 sec 12) 10)) && decide (1000 * b.sat ≤ u16 sec 14 * b.pixels) && !b.unknown
      && profile != 0xFF
    let s1 := s.updCam n fun c => { c with outBufs := c.outBufs.map fun x => { x with grain := false } }
    .next (s1.updVis fun v => { v with
      gsRun := false, gsValid := ok, gsFrame := b.cnt, gsTag := b.tag, gsHist := ({ g with valid := ok } :: v.gsHist).take 300 })

/-! Taps and the window (14 R373, R375). -/

/-- A rate in bits per µs, exactly. -/
def perFrame (bits us : Nat) : Q := (Q.ofInt (bits : Int)).div (Q.ofInt (us : Int))

/-- The declared DRAM rate of channel `p` for the ports of a mask (14 R379). -/
def Image.visRate (im : Image) (p : Nat) (en : Nat → Bool) : Q :=
  (List.range 6).foldl (fun a n =>
    let b := (im.record 0x0A01 0x0001 64 n).getD []
    if en n && camPipe b == p && camUs b != 0 then
      let raw := if camMemory b then 16 * camW b * camH b * u8 b 3 else 0
      let out := u16 b 18 * u16 b 20 * ([12, 16, 24, 8].getD (u8 b 16) 0)
      a.add (perFrame (raw + out) (camUs b))
    else a) (Q.ofInt 0)

/-- The declared pixel load of pipeline `p`, in pixels per µs (14 R379). -/
def Image.visLoad (im : Image) (p : Nat) (en : Nat → Bool) : Q :=
  (List.range 6).foldl (fun a n =>
    let b := (im.record 0x0A01 0x0001 64 n).getD []
    if en n && camPipe b == p && camUs b != 0 then a.add (perFrame (camW b * camH b) (camUs b)) else a) (Q.ofInt 0)

/-- The rate of tap point `p` on camera record `b` (14 R373). -/
def tapRate (p : Nat) (b : List Byte) : Q :=
  let px := camW b * camH b
  perFrame (match p with
    | 0 => 16 * px * u8 b 3
    | 1 => 32 * px * u8 b 3
    | 2 => 32 * px
    | 3 => 32 * px
    | 4 => 96 * px
    | _ => 48 * px) (camUs b)

/-- Whether `a` exceeds `k`. -/
def Q.above (a : Q) (k : Nat) : Bool := decide ((k : Int) * a.den < a.num)

/-- Arming tap point `t` of pipeline `p` for camera `n` (14 R373): refused where the channel would exceed 20 Gbit/s. -/
def State.tapArm (s : State) (p t n : Nat) : State :=
  if ((s.img.visRate p fun k => s.vis.en.getLsbD k).add (tapRate t (s.camRec n))).above 20000 then
    s.updPipe p fun q => { q with refused := true }
  else s.updPipe p fun q => { q with tap := .armed, tapPoint := t, tapCam := n, tapData := [] }

/-- Disarming a tap: nothing further is written; a finished buffer stays until the next arming. -/
def State.tapDisarm (s : State) (p : Nat) : State :=
  let q := rd s.vis.pipe p
  let off (j : FrameJob) : FrameJob := { j with tapped := false }
  let s1 := s.updPipe p fun x => { x with
    tap := if q.tap = .done then .done else .idle, mem := x.mem.map off, inl := x.inl.map off, ready := x.ready.map off }
  (List.range 6).foldl (fun t n => if camPipe (t.camRec n) = p then t.updCam n fun c => { c with cur := c.cur.map off } else t) s1

/-- The output buffer that the window holds is released. -/
def State.windowFree (s : State) : State :=
  match s.vis.winHeld with
  | none => s
  | some n => (s.updCam n fun c => { c with outBufs := c.outBufs.map fun b => { b with window := false } }).updVis
      fun v => { v with winHeld := none }

/-- Marking the last buffer of a list as the window's. -/
def markLast : List OutBuf → List OutBuf
  | [] => []
  | [b] => [{ b with window := true }]
  | b :: t => b :: markLast t

/-- A write of VIS_WIN_SEL (14 R375): the source is latched into the read buffer. -/
def State.windowLatch (s : State) (v : Word) : State :=
  let t := s.windowFree
  let i := field v 2 3
  let buf := match field v 0 2 with
    | 0 => ((rd t.vis.cam i).stats).getD []
    | 1 => (rd t.vis.pipe i).tapData
    | _ => (((rd t.vis.cam i).outBufs.getLast?).map OutBuf.bytes).getD []
  let t1 := t.updVis fun x => { x with winSel := v, winBuf := buf, winRead := t.clk.opt }
  if field v 0 2 = 2 then
    (t1.updCam i fun c => { c with outBufs := markLast c.outBufs }).updVis fun x => { x with winHeld := some i }
  else t1

/-- VIS_WINDOW_RELEASE (14 R375): 10 s with no window read. -/
def execVisWindowRelease (o : Opt) (s : State) : Out :=
  let s := s.begin o
  if o < s.vis.winRead + 10000000000 then .next s
  else .next (s.windowFree.updVis fun v => { v with winBuf := [] })

/-- All four counters of the cameras of a mask are cleared (14 R390). -/
def State.camCntClear (s : State) (m : Nat) : State :=
  s.updVis fun v => { v with
    cam := mapIdxV v.cam fun n (c : Cam) => if m.testBit n then { c with dropBuf := 0, dropErr := 0, tagErr := 0, lateCnt := 0 } else c }

/-- The vision block as it starts (14 R381): the set of the image with tag 0, the pipelines running. -/
def State.visStart (s : State) : State :=
  let s1 := s.updVis fun v => { v with
    cam := mapIdxV v.cam fun n c => { c with sets := [{ tag := 0, frame := 0, words := s.camWords n }] },
    pipe := v.pipe.map fun (p : Pipe) => { p with run := true } }
  let en : BitVec 6 := BitVec.ofNat 6 ((List.range 6).foldl (fun a n => if u8 (s.camRec n) 0 = 1 then a + 2 ^ n else a) 0)
  s1.camEnable en

end Sys2Proof.Machine
end

