-- ==== Sys2Proof/Machine/Rules.lean ====
section
/-! DEFINITION. The agreement rules of every commit group (24 R568), as functions of the image, of the words of a snapshot, and of
FLW_LS_EN, the one field outside a group that a rule reads (03 R83).  Power-up checks the initial values of the groups against the
same rules (03 R76, code 0x0D). -/

namespace Sys2Proof.Machine

/-- The words of a group under check, by address. -/
abbrev Words := Nat → Word

/-- The first rule of a list, in order, that does not hold. -/
def firstBroken : List (Nat × Bool) → Option Nat
  | [] => none
  | (id, holds) :: t => if holds then firstBroken t else some id

/-- The start sources that the image configures as used (02 R65), by their index in the order of R61. -/
def Image.usedSources (im : Image) : List Nat :=
  ((List.range 40).filter fun n => u8 ((im.record 0x0C01 0x0001 32 n).getD []) 0 == 1)
    ++ ((List.range 48).filter fun n => u8 ((im.record 0x0B01 0x0001 36 n).getD []) 0 == 1).map (fun n => 40 + n)
    ++ ((List.range 8).filter fun n => u8 ((im.record 0x0D01 0x0001 40 n).getD []) 0 == 1).map (fun n => 88 + n)
    ++ [96]

/-- Rule 0x0001 (02 R65): no used source's CHARGE above PEAK or RISE. -/
def Image.budgetRules (im : Image) (w : Words) : List (Nat × Bool) :=
  let p := 10 * field (w 0x240) 0 10
  let q := 10 * field (w 0x240) 10 10
  [(0x0001, im.usedSources.all fun src => decide ((im.charge src).charge ≤ p) && decide ((im.charge src).charge ≤ q))]

/-- Rules 0x0301 to 0x0303 (07 R192). -/
def Image.cropRules (im : Image) (w : Words) : List (Nat × Bool) :=
  let c := field (w 0x30010) 0 4
  let m := field (w 0x30010) 16 16
  let noSource := im.fieldOr 0x0301 0x0001 (fun b => u32 b 44) noRef == noRef
  let wanted := match im.cropRec c with
    | some b => u8 b 16 == 1
    | none => false
  [(0x0301, (im.cropRec c).isSome || ((im.sect 0x0301 0x0002).isNone && c == 0)),
   (0x0302, decide (m ≤ 600) || m == 0xFFFF),
   (0x0303, !(m == 0xFFFF && noSource && wanted))]

/-- Rules 0x0304 and 0x0305 (07 R204). -/
def lossRules (lsEn : Nat) (w : Words) : List (Nat × Bool) :=
  [(0x0304, (setBits lsEn 16).all fun c => decide (field (w (0x30200 + 4 * c)) 0 14 < field (w (0x30200 + 4 * c)) 16 14)),
   (0x0305, (List.range 16).all fun c => decide (8 ≤ field (w (0x30240 + 4 * c)) 0 8))]

/-- Rules 0x0401 to 0x0405 (08 R239) of loop slot `n`.  A LAW_SEL that names no law has no limits to keep. -/
def Image.loopRules (im : Image) (n : Nat) (w : Words) : List (Nat × Bool) :=
  let at_ (j : Nat) : Word := w (0x41000 + 32 * n + 4 * j)
  let b := (im.slotRec n).getD []
  let sel := field (at_ 0) 0 16
  let law := im.tableOf kLaw sel
  let lo := f32At (law.getD []) 4
  let hi := f32At (law.getD []) 8
  let r := im.bindRange b lo hi
  let mn := at_ 1
  let mx := at_ 2
  let inside (x : F32) : Bool := fle r.1 x && fle x r.2
  [(0x0401, flt mn mx),
   (0x0402, inside mn && inside mx && (law.isSome || u8 b 32 != 0)),
   (0x0403, law.isSome && fle lo mn && fle mx hi),
   (0x0404, sel == u16 b 12 || sel == u16 b 42),
   (0x0405, (List.range 5).all fun k => fIsFin (at_ (3 + k)) && fle fZero (at_ (3 + k)))]

/-- The record of the machine function that names slot `n` (09 R265). -/
def Image.functionOf (im : Image) (n : Nat) : Option (List Byte) :=
  match im.sect 0x0501 0x0002 with
  | none => none
  | some s => ((List.range 48).map fun m => span s (112 * m) 112).find? fun b => u8 b 0 == n

/-- Rules 0x0501 and 0x0502 (09 R253) of generator `n`. -/
def Image.profileRules (im : Image) (n : Nat) (w : Words) : List (Nat × Bool) :=
  let at_ (j : Nat) : Word := w (0x51000 + 16 * n + 4 * j)
  [(0x0501, (List.range 3).all fun k => fIsFin (at_ k) && flt fZero (at_ k)),
   (0x0502, match im.functionOf n with
     | some b => (List.range 3).all fun k => fle (at_ k) (f32At b (28 + 4 * k))
     | none => true)]

/-- Rules 0x0601 to 0x0603 (10 R289). -/
def navRules (w : Words) : List (Nat × Bool) :=
  let fix := field (w 0x60044) 0 16
  let max_ := field (w 0x60044) 16 16
  let mask := w 0x60040
  let within (x lo hi : Nat) : Bool := decide (lo ≤ x) && decide (x ≤ hi)
  [(0x0601, within fix 1 60 && within max_ 2 300 && decide (fix < max_)),
   (0x0602, (bit mask 0 || bit mask 2 || bit mask 3) && field mask 6 2 == 0),
   (0x0603, decide (field mask 8 5 ≤ 30))]

/-- KAPPA_MAX (12 R333); without the section there is none to keep. -/
def Image.kappaMax (im : Image) : F32 := im.fieldOr 0x0801 0x0001 (fun b => f32At b 20) (f32 (.inf false))

/-- Rules 0x0801 to 0x0806 (12 R326): the first that the line breaks. -/
def Image.lineBroken (im : Image) (w : Words) : Option Nat := (lineOf w).broken im.kappaMax

/-- Rules 0x0901 to 0x0905 (13 R351). -/
def yieldRules (w : Words) : List (Nat × Bool) :=
  let mn := field (w 0x90104) 0 16
  let mx := field (w 0x90104) 16 16
  let fixed := field (w 0x90100) 16 16
  let bufS := field (w 0x9010C) 0 6
  let recS := field (w 0x90108) 8 6
  let recM := field (w 0x90108) 16 16
  let within (x lo hi : Nat) : Bool := decide (lo ≤ x) && decide (x ≤ hi)
  [(0x0901, decide (400 ≤ mn) && decide (mn < mx) && decide (mx ≤ 2000)),
   (0x0902, within fixed mn mx),
   (0x0903, decide (mx + 100 ≤ 100 * bufS)),
   (0x0904, within bufS 10 60 && within recS 1 60 && 60 % recS == 0 && within recM 10 1000),
   (0x0905, decide (field (w 0x9010C) 8 4 ≤ 10) && decide (100 * field (w 0x9010C) 12 4 ≤ mn))]

/-- Rules 0x0A01 to 0x0A04 (14 R383) of camera `n`. -/
def Image.cameraRules (im : Image) (n : Nat) (w : Words) : List (Nat × Bool) :=
  let at_ (j : Nat) : Word := w (0xA1000 + 64 * n + 4 * j)
  let b := (im.record 0x0A01 0x0001 64 n).getD []
  let m := field (at_ 0) 0 2
  let l (k : Nat) : Nat := field (at_ (1 + k)) 0 20
  let g (k : Nat) : Nat := field (at_ (4 + k)) 0 16
  let used := modeExposures m
  let ratio (k : Nat) : Bool := decide (2 * (l k * g k) ≤ l 0 * g 0) && decide (l 0 * g 0 ≤ 256 * (l k * g k))
  [(0x0A01, l 0 != 0 && (match m with
     | 1 => l 1 != 0 && l 2 == 0
     | 2 => l 1 != 0 && l 2 != 0
     | _ => l 1 == 0 && l 2 == 0)),
   (0x0A02, decide (used ≤ u8 b 3) && decide (l 0 + l 1 + l 2 ≤ u16 b 46)),
   (0x0A03, (List.range used).all fun k => decide (u16 b 48 ≤ g k) && decide (g k ≤ u16 b 50) && (k == 0 || ratio k)),
   (0x0A04, [field (at_ 7) 0 16, field (at_ 7) 16 16, field (at_ 8) 0 16, field (at_ 8) 16 16].all fun x => decide (0x400 ≤ x))]

/-- Whether an AMP and FREQ keep rule 0x0B04 of a CHANNELS record (15 R410). -/
def ditherSlewOk (b : List Byte) (amp freq : Nat) : Bool :=
  decide (4 * amp ≤ u16 b 4) && decide (4 * amp * freq ≤ u32 b 16)

/-- Whether a dither FREQ keeps rule 0x0B03 (15 R410). -/
def ditherFreqOk (freq : Nat) : Bool := freq == 0 || (decide (40 ≤ freq) && decide (freq ≤ 500) && 20000 % freq == 0)

/-- Rules 0x0B01 to 0x0B05 (15 R410) of valve channel `n`. -/
def Image.valveRules (im : Image) (n : Nat) (w : Words) : List (Nat × Bool) :=
  let cfg := w (0xB1000 + 8 * n)
  let dth := w (0xB1004 + 8 * n)
  let b := (im.record 0x0B01 0x0001 36 n).getD []
  let amp := field dth 0 16
  let freq := field dth 16 16
  [(0x0B01, match im.tableOf kMicro (0x0B10 + n / 6) with
     | some t => decide (field cfg 0 5 < u8 t 0)
     | none => u8 b 0 != 1),
   (0x0B02, (freq == 0) == (amp == 0)),
   (0x0B03, ditherFreqOk freq),
   (0x0B04, ditherSlewOk b amp freq),
   (0x0B05, u8 b 0 != 2 || (field cfg 0 5 == 0 && !bit cfg 8 && amp == 0))]

/-- The highest PWM frequency of a switch channel's class (16 R415). -/
def pswMaxHz (n : Nat) : Nat := if n < 24 then 500 else 2000

/-- Rules 0x0C01 to 0x0C03 (16 R427) of switch channel `n`. -/
def Image.switchRules (im : Image) (n : Nat) (w : Words) : List (Nat × Bool) :=
  let at_ (j : Nat) : Word := w (0xC1000 + 16 * n + 4 * j)
  let b := (im.record 0x0C01 0x0001 32 n).getD []
  let hz := field (at_ 0) 0 11
  let vnom := field (at_ 1) 16 16
  let ms := field (at_ 2) 16 16
  let within (x lo hi : Nat) : Bool := decide (lo ≤ x) && decide (x ≤ hi)
  [(0x0C01, within hz 50 (pswMaxHz n)),
   (0x0C02, within vnom 6000 36000 && (!bit (at_ 1) 0 || decide (100 ≤ hz))),
   (0x0C03, decide (field (at_ 2) 0 4 ≤ 15) && within ms 10 60000 && decide (2 * u16 b 6 ≤ ms))]

/-- Rules 0x0E01 to 0x0E06 (18 R446, R447) of controller `n`; f_CAN is 80 MHz. -/
def Image.canRules (im : Image) (n : Nat) (w : Words) : List (Nat × Bool) :=
  let nbt := w (canWord n 0)
  let dbt := w (canWord n 1)
  let mode := w (canWord n 3)
  let nSeg := 2 + field nbt 5 8
  let nq := nSeg + field nbt 13 7 + 1
  let nt := (field nbt 0 5 + 1) * nq
  let dSeg := 2 + field dbt 5 5
  let dq := dSeg + field dbt 10 4 + 1
  let dt := (field dbt 0 5 + 1) * dq
  let sample (seg q : Nat) : Bool := decide (q ≤ 2 * seg) && decide (10 * seg ≤ 9 * q)
  [(0x0E01, decide (field nbt 20 7 ≤ field nbt 13 7) && decide (field dbt 14 4 ≤ field dbt 10 4)),
   (0x0E02, decide (80 ≤ nt) && decide (nt ≤ 8000) && sample nSeg nq),
   (0x0E03, !bit mode 0 || (decide (dt ≤ nt) && decide (16 ≤ dt) && sample dSeg dq)),
   (0x0E04, !bit mode 4 || (bit mode 0 && decide (field dbt 0 5 < 2) && field (w (canWord n 2)) 0 7 != 0)),
   (0x0E05, !bit mode 1 || ((im.timeRec n).isNone && (im.claimRec n).isNone)),
   (0x0E06, !bit mode 5 || decide (1 ≤ im.candidates))]

/-- The first rule of group `g` that the words `w` break, in ascending order of rule ID (03 R82). -/
def Image.ruleBroken (im : Image) (lsEn : Nat) (g : Nat) (w : Words) : Option Nat :=
  let n := g % 256
  match g / 256 with
  | 0x00 => firstBroken (im.budgetRules w)
  | 0x03 => if n = 0 then firstBroken (im.cropRules w) else firstBroken (lossRules lsEn w)
  | 0x04 => firstBroken (im.loopRules n w)
  | 0x05 => firstBroken (im.profileRules n w)
  | 0x06 => firstBroken (navRules w)
  | 0x08 => im.lineBroken w
  | 0x09 => firstBroken (yieldRules w)
  | 0x0A => firstBroken (im.cameraRules n w)
  | 0x0B => firstBroken (im.valveRules n w)
  | 0x0C => firstBroken (im.switchRules n w)
  | 0x0E => firstBroken (im.canRules n w)
  | _ => none

/-- Whether the image configures the unit of group `g` (24 R568). -/
def Image.groupUnit (im : Image) (g : Nat) : Bool :=
  let n := g % 256
  match g / 256 with
  | 0x04 => (im.slotRec n).isSome
  | 0x05 => (im.slotRec n).isSome
  | 0x0B => u8 ((im.record 0x0B01 0x0001 36 n).getD []) 0 != 0
  | 0x0C => u8 ((im.record 0x0C01 0x0001 32 n).getD []) 0 == 1
  | _ => true

end Sys2Proof.Machine
end

