-- ==== Sys2Proof/Machine/ImgTables.lean ====
section
/-! DEFINITION. The content checks of the tables other than POLICY (03 R76, code 0x0C): PINMAP, CURVE, STATE, FORMAT, LAW, MICRO and
CLASSMAP.  Nonzero reserved bytes and a SIGREF or table ID in a field that cannot hold it make content invalid (log 40). -/

namespace Sys2Proof.Machine

/-! Field checks shared by every table. -/

/-- A field of a layout: its offset, its size in bytes, and the range it must lie in. -/
abbrev FieldCheck := Nat × Nat × Nat × Nat

/-- Whether every field listed lies in its range. -/
def fieldsOk (b : List Byte) (l : List FieldCheck) : Bool :=
  l.all fun (o, n, lo, hi) => decide (lo ≤ leNat (span b o n)) && decide (leNat (span b o n) ≤ hi)

/-- Whether the reserved bytes listed, as (offset, size), are zero. -/
def zeroAt (b : List Byte) (l : List (Nat × Nat)) : Bool := l.all fun (o, n) => allZero (span b o n)

/-- Whether the binary32 fields listed are finite and lie in their ranges. -/
def floatsOk (b : List Byte) (l : List (Nat × F32 × F32)) : Bool :=
  l.all fun (o, lo, hi) => fIsFin (f32At b o) && fle lo (f32At b o) && fle (f32At b o) hi

/-- The highest finite binary32 number, for a range without an upper end. -/
def fMaxFin : F32 := 0x7F7FFFFF

/-- A decimal number n / 10^k in binary32, for the ends of ranges. -/
def fDec (n : Int) (k : Nat) : F32 := fRat n (10 ^ k)

/-- Whether a number is a tick period of the kind that 04 R108 and R127 allow: a multiple of 20 that divides 20,000. -/
def stepOk (n : Nat) : Bool := n != 0 && n % 20 == 0 && 20000 % n == 0

/-- Whether a list has no element twice. -/
def distinct : List Nat → Bool
  | [] => true
  | a :: t => !t.contains a && distinct t

/-! PINMAP (02 R40 to R43). -/

/-- The option codes that a contact may take (02 R36, R42), the lowest and the highest. -/
def pinOptions (conn k : Nat) : Option (Nat × Nat) :=
  let within (lo hi : Nat) : Bool := decide (lo ≤ k) && decide (k ≤ hi)
  match conn with
  | 2 => if within 69 92 then some (0x10, 0x12) else if within 93 116 then some (0x20, 0x23) else if within 117 120 then some (0x70, 0x72)
         else none
  | 3 => if within 49 64 && k % 2 == 1 then some (0x50, 0x52) else if within 73 88 then some (0x30, 0x31)
         else if k = 89 then some (0x90, 0x91) else if k = 90 then some (0x92, 0x93) else none
  | 4 => if within 41 56 then some (0x40, 0x41) else none
  | 6 => if within 7 8 then some (0xA0, 0xA2) else none
  | _ => none

/-- The range of PARAM of an option (02 R42). -/
def pinParamOk (opt param : Nat) : Bool :=
  match opt with
  | 0x11 => decide (param ≤ 3)
  | 0x22 => decide (20 ≤ param) && decide (param ≤ 2000)
  | _ => param == 0

/-- A PINMAP body is valid (02 R41, R43). -/
def pinmapOk (b : List Byte) : Bool :=
  let n := u16 b 0
  let key (k : Nat) : Nat := 256 * u8 b (4 + 8 * k) + u8 b (5 + 8 * k)
  let named := (List.range n).map key
  decide (1 ≤ n) && decide (n ≤ 364) && b.length == 4 + 8 * n && zeroAt b [(2, 2)] && distinct named
    && (List.range n).all fun k =>
      let o := 4 + 8 * k
      let opt := u8 b (o + 2)
      zeroAt b [(o + 3, 1)] && pinParamOk opt (u32 b (o + 4))
        && (match pinOptions (u8 b o) (u8 b (o + 1)) with
          | some (lo, hi) => decide (lo ≤ opt) && decide (opt ≤ hi)
          | none => false)
        && (opt != 0x23 || (u8 b (o + 1) % 2 == 1 && !named.contains (key k + 1)))

/-! CURVE (04 R102 to R104). -/

/-- Whether binary32 numbers rise strictly. -/
def risesF : List F32 → Bool
  | a :: c :: t => flt a c && risesF (c :: t)
  | _ => true

/-- A CURVE body is valid. -/
def curveOk (b : List Byte) : Bool :=
  let nx := u8 b 4
  let ny := u8 b 5
  let two := u8 b 0 == 2
  let xs := (List.range nx).map (curveX b)
  let ys := if two then (List.range ny).map (curveY b) else []
  let zOff := if two then 24 + 4 * nx + 4 * ny else 24 + 4 * nx
  let f32s := u8 b 3 == 0
  fieldsOk b [(0, 1, 1, 2), (1, 1, 0, 1), (2, 1, 0, 2), (3, 1, 0, 1), (4, 1, 2, 64), (7, 1, 0, 1)] && zeroAt b [(20, 4)]
    && (if two then decide (2 ≤ ny) && decide (ny ≤ 64) else ny == 1 && u32 b 12 == noRef)
    && (if f32s then u8 b 6 == 0 else decide (-32 ≤ i8 b 6) && decide (i8 b 6 ≤ 31))
    && b.length == (if two then 24 + 4 * nx + 4 * ny + 4 * nx * ny else 24 + 8 * nx)
    && (xs ++ ys).all fIsFin && risesF xs && risesF ys
    && (!f32s || (fIsFin (f32At b 16) && (List.range (nx * ny)).all fun k => fIsFin (f32At b (zOff + 4 * k))))

/-! STATE (04 R108 to R114). -/

/-- A SIGREF inside a STATE table: a variable (0xFE) or a machine's state (0xFD) that it names exists. -/
def stateRefOk (vars machines ref : Nat) : Bool :=
  match ref / 0x1000000 with
  | 0xFE => decide (ref % 65536 < vars)
  | 0xFD => decide (ref % 65536 < machines)
  | _ => true

/-- An action's CODE, and what it names (04 R112, R114; 09 R264, R266; 20 R499). -/
def Image.actionOk (im : Image) (vars timers : Nat) (a : List Byte) : Bool :=
  let idx := u8 a 1
  let arg := u16 a 2
  let n := im.machines.length
  let mf : Bool := match im.mfRec idx with
    | some r => u8 r 7 == 0
    | none => false
  stateRefOk vars n (u32 a 4) && (match u8 a 0 with
    | 1 => decide (idx < vars)
    | 2 => decide (idx < vars)
    | 3 => decide (idx < timers)
    | 4 => decide (idx < timers)
    | 5 => mf
    | 6 => mf && decide (arg ≤ 4)
    | 7 => decide (idx < n)
    | 8 => decide (0x8000 ≤ arg)
    | 9 => match im.tableOf kFormat arg with
      | some f => u8 f 0 == 3 && decide (idx < u16 f 2) && u32 f (24 + 24 * idx) == noRef
      | none => false
    | 10 => match im.tableOf kFormat arg with
      | some f => u8 f 0 == 3
      | none => false
    | _ => false)

/-- The actions of a STATE body, 12 bytes each (04 R108, R112). -/
def stateActions (b : List Byte) : List (List Byte) :=
  let base := 16 + 8 * u16 b 0 + 16 * u16 b 2 + 12 * u16 b 4
  (List.range (u16 b 6)).map fun k => span b (base + 12 * k) 12

/-- The guard terms of a STATE body, 12 bytes each (04 R111). -/
def stateGuards (b : List Byte) : List (List Byte) :=
  let base := 16 + 8 * u16 b 0 + 16 * u16 b 2
  (List.range (u16 b 4)).map fun k => span b (base + 12 * k) 12

/-- A guard term's OP and reserved bytes (04 R111). -/
def guardOk (g : List Byte) : Bool := decide (u8 g 4 ≤ 7) && zeroAt g [(5, 3)]

/-- What a STATE table writes outside itself: machine functions, target and mode alike, and FORMAT fields, as codes (04 R114; 09 R264). -/
def stateWrites (b : List Byte) : List Nat :=
  (stateActions b).filterMap fun a => match u8 a 0 with
    | 5 => some (0x5000000 + u8 a 1)
    | 6 => some (0x5000000 + u8 a 1)
    | 9 => some (0x9000000 + 256 * u16 a 2 + u8 a 1)
    | _ => none

/-- A STATE body is valid, its writes shared with no earlier STATE table (04 R108 to R114).  The 0xFF of R114 stands for any state in FROM and
for no change in TO (R110); an INIT of 0xFF names no state and is refused (log 101). -/
def Image.stateOk (im : Image) (id : Nat) (b : List Byte) : Bool :=
  let ns := u16 b 0
  let nt := u16 b 2
  let ng := u16 b 4
  let na := u16 b 6
  let nv := u8 b 9
  let runs (first count limit : Nat) : Bool := count == 0 || decide (first + count ≤ limit)
  let st (x : Nat) : Bool := decide (x < ns) || x == 0xFF
  let machines := im.machines.length
  let others := ((im.machines.filter fun t => decide (t.id < id)).map fun t => stateWrites t.body).flatten
  fieldsOk b [(0, 2, 1, 255), (2, 2, 1, 2048), (4, 2, 0, 4096), (6, 2, 0, 4096), (9, 1, 0, 64), (10, 1, 0, 16)] && zeroAt b [(11, 1), (14, 2)]
    && decide (machines ≤ 64) && stepOk (u16 b 12) && b.length == 16 + 8 * ns + 16 * nt + 12 * ng + 12 * na + 4 * nv && decide (u8 b 8 < ns)
    && ((List.range ns).all fun k =>
      let o := 16 + 8 * k
      runs (u16 b o) (u8 b (o + 2)) na && runs (u16 b (o + 4)) (u8 b (o + 3)) na && zeroAt b [(o + 6, 2)])
    && ((List.range nt).all fun k =>
      let o := 16 + 8 * ns + 16 * k
      let arg := u32 b (o + 4)
      st (u8 b o) && st (u8 b (o + 1)) && decide (u8 b (o + 2) ≤ 7) && zeroAt b [(o + 3, 1), (o + 14, 2)]
        && runs (u16 b (o + 8)) (u8 b (o + 10)) ng && runs (u16 b (o + 12)) (u8 b (o + 11)) na
        && (u8 b (o + 2) != 1 || decide (arg < u8 b 10))
        && ((u8 b (o + 2) != 2 && u8 b (o + 2) != 3) || stateRefOk nv machines arg)
        && (u8 b (o + 2) != 7 || (match im.tableOf kFormat arg with
          | some f => u8 f 0 == 4
          | none => false)))
    && ((stateGuards b).all fun g => guardOk g && stateRefOk nv machines (u32 g 0))
    && ((stateActions b).all fun a => im.actionOk nv (u8 b 10) a)
    && ((stateWrites b).all fun w => !others.contains w)

/-! FORMAT (04 R120 to R127; 13 R359; 18 R455, R471; 20 R496, R499). -/

/-- Whether the bits of a field lie inside an output of `bits` bits, the most significant bit of a BE field included. -/
def bitsInside (l : List Nat) (bits : Nat) : Bool := l.all fun p => decide (p < bits)

/-- RAW_MAX fits in the field's bits as its TYPE reads it (04 R125). -/
def rawFits (b : List Byte) (o : Nat) : Bool :=
  let len := u8 b (o + 6)
  if fieldType b o = 1 then decide (-(2 ^ (len - 1) : Nat) ≤ rawBound b o 20) && decide (rawBound b o 20 < (2 ^ (len - 1) : Nat)) else decide (rawBound b o 20 < (2 ^ len : Nat))

/-- One field entry of a FORMAT (04 R121, R122, R125). -/
def formatFieldOk (b : List Byte) (o : Nat) : Bool :=
  fieldsOk b [(o + 6, 1, 1, 32), (o + 7, 1, 0, 31)] && decide (fieldType b o ≤ 2)
    && (fieldType b o != 2 || (u8 b (o + 6) == 32 && ((u8 b (o + 7)).testBit 2 || u16 b (o + 4) % 8 == 0)))
    && fIsFin (f32At b (o + 8)) && !feq (f32At b (o + 8)) fZero && fIsFin (f32At b (o + 12))
    && decide (rawBound b o 16 ≤ rawBound b o 20) && rawFits b o
    && (u32 b o != noRef || u8 b 0 == 3) && bitsInside (fieldBits b o) (8 * u16 b 4)

/-- The B controller of an enabled CAN pair, which nothing may name (19 R490). -/
def Image.pairB (im : Image) (n : Nat) : Bool :=
  (n == 1 && im.pairField 1 (fun b => u8 b 0 == 1) false) || (n == 3 && im.pairField 2 (fun b => u8 b 0 == 1) false)

/-- Whether a CAN FORMAT may name controller `n` (18 R471; 19 R490). -/
def Image.canUsable (im : Image) (n : Nat) : Bool := decide (n < 8) && im.canField n (fun b => u8 b 0 == 1) false && !im.pairB n

/-- Whether two CAN_RX FORMATs of one controller can match a common identifier (18 R455). -/
def Image.rxClash (im : Image) (a b : Table) : Bool :=
  let id (t : Table) : Nat := u32 t.body 8
  u8 a.body 12 == u8 b.body 12 && id a / 2 ^ 29 % 4 == id b / 2 ^ 29 % 4
    && ((id a ^^^ id b) &&& im.rxMask a.id &&& im.rxMask b.id) % 2 ^ 29 == 0

/-- The part of a CAN FORMAT that its target adds (04 R125, R127; 18 R455, R471; 19 R490). -/
def Image.canFormatOk (im : Image) (t : Table) : Bool :=
  let b := t.body
  let rx := u8 b 0 == 4
  let period := u16 b 14
  let fdf := (u32 b 8).testBit 30
  let earlier := (im.formats 4).filter fun x => decide (x.id < t.id)
  let dst (x : List Byte) : List Nat := (List.range (u16 x 2)).map fun i => u32 x (24 + 24 * i)
  u16 b 6 == 0 && (decide (u16 b 4 ≤ 8) || (fdf && [12, 16, 20, 24, 32, 48, 64].contains (u16 b 4))) && im.canUsable (u8 b 12)
    && zeroAt b [(13, 1), (18, 6)]
    && decide (u16 b 16 < max 1 period)
    && (if rx then (dst b).all (fun d => d / 65536 == 0x0E10 && decide (d % 65536 < 1024)) && distinct (dst b)
          && earlier.all fun x => !im.rxClash x t && (dst b).all fun d => !(dst x.body).contains d
        else period == 0 || stepOk period)

/-- The part of a TIMELOG FORMAT (13 R359). -/
def timelogOk (b : List Byte) : Bool :=
  decide (u16 b 2 ≤ 255) && u16 b 4 == 4 * u16 b 2 && decide (u8 b 8 ≤ 7) && zeroAt b [(9, 1), (12, 12)] && decide (1000 ≤ u16 b 10)
    && (List.range (u16 b 2)).all fun i =>
      let o := 24 + 24 * i
      u16 b (o + 4) == 32 * i && u8 b (o + 6) == 32 && u8 b (o + 7) % 8 == 1 && u32 b o / 65536 == 0x0901

/-- The part of the RECORDER FORMAT (20 R496, R499). -/
def recorderOk (b : List Byte) : Bool :=
  let n := u16 b 2
  let iv := u32 b 8
  u16 b 4 == 4096 && decide (n ≤ 96) && u16 b 6 == 4 * n && decide (60 ≤ iv) && decide (iv ≤ 86400) && iv % 60 == 0 && iv != 0 && 86400 % iv == 0
    && zeroAt b [(12, 12)]
    && (List.range n).all fun i =>
      let o := 24 + 24 * i
      let x := 24 + 24 * n + 4 * i
      let start := u16 b (o + 4)
      let notices := u32 b o / 65536 == 0x1010
      fieldsOk b [(x, 1, 0, 2), (x + 1, 1, 0, 2)] && zeroAt b [(x + 2, 2)] && (u8 b (x + 1) == 2) == notices
        && (u8 b (x + 1) != 2 || (u8 b x == 0 && u32 b o % 32 == 0))
        && (if u8 b x = 0 then decide (512 ≤ start) && start % 512 == 0 && decide ((start - 512) / 512 < 32) && u8 b (o + 6) == 5
              && fieldType b o == 0 && decide (rawBound b o 20 ≤ 31)
            else decide (16896 ≤ start) && (start - 16896) % 192 == 0 && decide ((start - 16896) / 192 < 64) && u8 b (o + 6) == 32
              && !(u8 b (o + 7)).testBit 2)

/-- A FORMAT table is valid. -/
def Image.formatOk (im : Image) (t : Table) : Bool :=
  let b := t.body
  let n := u16 b 2
  let bits := (List.range n).map fun i => fieldBits b (24 + 24 * i)
  fieldsOk b [(0, 1, 1, 4), (2, 2, 1, 256), (4, 2, 1, 4096)] && zeroAt b [(1, 1)] && u16 b 6 % 4 == 0
    && b.length == 24 + 24 * n + u16 b 6 && ((List.range n).all fun i => formatFieldOk b (24 + 24 * i)) && distinct bits.flatten
    && (match u8 b 0 with
      | 1 => t.id == 0x1010 && recorderOk b
      | 2 => t.id / 256 == 9 && timelogOk b
      | _ => t.id / 256 == 0x0E && im.canFormatOk t)

/-! LAW (08 R225 to R232). -/

/-- The slots whose LAW or ALT_LAW names a law. -/
def Image.slotsOfLaw (im : Image) (id : Nat) : List (Nat × List Byte) :=
  (List.range 128).filterMap fun n => match im.slotRec n with
    | some b => if u16 b 12 = id ∨ u16 b 42 = id then some (n, b) else none
    | none => none

/-- The unused entries of an SS8's arrays are zero (08 R228). -/
def ss8Zeros (b : List Byte) : Bool :=
  let ns := u8 b 32
  let ni := u8 b 33
  let no := u8 b 34
  let zero (o : Nat) : Bool := feq (f32At b o) fZero
  let mat (base cols rows c r : Nat) : Bool :=
    (List.range rows).all fun i => (List.range cols).all fun j => (decide (i < r) && decide (j < c)) || zero (base + 4 * (cols * i + j))
  mat 36 8 8 ns ns && mat 292 4 8 ni ns && mat 420 8 2 ns no && mat 484 4 2 ni no && mat 516 8 1 ns 1

/-- A LAW body is valid (08 R225 to R230, R232). -/
def Image.lawOk (im : Image) (id : Nat) (b : List Byte) : Bool :=
  let ty := u8 b 0
  let inf := fneg fMaxFin
  let fin (l : List Nat) : Bool := l.all fun o => fIsFin (f32At b o)
  let pos (l : List Nat) : Bool := l.all fun o => flt fZero (f32At b o)
  let users := im.slotsOfLaw id
  let curve (c : Nat) : Bool := match im.curve c with
    | some k => u32 k 8 == noRef && c / 256 == 4
    | none => false
  fin [4, 8, 12, 16, 20, 24] && flt (f32At b 4) (f32At b 8) && pos [12] && decide (u8 b 1 ≤ 3) && zeroAt b [(28, 4)]
    && (if ty = 3 then users.all fun p => u16 p.2 0 == u16 b 2 else u16 b 2 == 0)
    && (match ty with
      | 1 => b.length == 64 && floatsOk b [(32, inf, fMaxFin), (36, inf, fMaxFin), (40, inf, fMaxFin), (44, fZero, fMaxFin),
               (48, inf, fMaxFin), (52, fZero, fOne), (56, fZero, fOne)] && pos [48] && zeroAt b [(60, 4)]
      | 2 => b.length == 56 && fin [32, 40, 44] && fieldsOk b [(36, 1, 1, 2)] && zeroAt b [(37, 3)] && fle fZero (f32At b 40) && pos [44]
               && (u8 b 36 == 1 || (fin [48, 52] && fle fZero (f32At b 48) && pos [52]))
      | 3 => b.length == 548 && fieldsOk b [(32, 1, 1, 8), (33, 1, 1, 4), (34, 1, 1, 2)] && zeroAt b [(35, 1)]
               && ((List.range 128).all fun k => fIsFin (f32At b (36 + 4 * k))) && ss8Zeros b
      | 4 => b.length == 40 && curve (u16 b 32) && decide (u8 b 34 ≤ 2) && zeroAt b [(35, 5)]
      | 5 => b.length == 40 && fieldsOk b [(32, 1, 0, 1), (33, 1, 2, 4)] && zeroAt b [(34, 2)]
               && ((List.range 4).all fun i => decide (i < u8 b 33) || u8 b (36 + i) == 0xFF)
               && ((selectCands b).all fun c => match im.slotRec c with
                 | none => false
                 | some r => u8 r 32 == 0 && users.all fun p =>
                   p.1 / 16 == c / 16 && u16 p.2 0 == u16 r 0 && u16 p.2 2 == u16 r 2 && u8 p.2 4 == u8 r 4 && u8 p.2 5 == u8 r 5)
      | _ => false)

/-! MICRO (15 R400, R401, R403). -/

/-- The PROFILE channels of a bank. -/
def Image.profileChannels (im : Image) (b : Nat) : List (List Byte) :=
  ((List.range 6).map fun k => (im.record 0x0B01 0x0001 36 (6 * b + k)).getD []).filter fun r => u8 r 0 == 1

/-- One instruction word: its fields defined, reserved bits zero, targets inside the program (15 R401, R403). -/
def microWordOk (chans : List (List Byte)) (nwords : Nat) (w : Word) : Bool :=
  let clear (lo len : Nat) : Bool := field w lo len == 0
  let src := field w 25 2
  let value := field w 0 16
  let target := decide (field w 13 11 < nwords)
  match field w 28 4 with
  | 0 => clear 0 28
  | 1 => clear 16 9 && decide (src ≤ 2) && (src != 0 || decide (value ≤ 8000))
  | 2 => decide (src ≤ 2) && field w 16 9 != 0 && (src != 0 || decide (value ≤ 8000))
  | 3 => decide (field w 24 4 ≤ 2)
  | 4 => if bit w 27 then ditherFreqOk (field w 16 11) && chans.all fun c => ditherSlewOk c value (field w 16 11) else true
  | 5 => clear 2 26 && decide (field w 0 2 ≤ 2)
  | 6 => decide (field w 24 4 ≤ 9) && target
  | 7 => clear 24 4 && target
  | 8 => clear 24 4 && clear 0 13 && target
  | _ => false

/-- A MICRO body is valid, and its bank has a PROFILE channel (15 R403, R412). -/
def Image.microOk (im : Image) (id : Nat) (b : List Byte) : Bool :=
  let np := u8 b 0
  let nw := u16 b 2
  let chans := im.profileChannels (id % 256 - 0x10)
  let entry (x : Nat) (opt : Bool) : Bool := decide (x < nw) || (opt && x == 0xFFFF)
  fieldsOk b [(0, 1, 1, 32), (2, 2, 1, 2048)] && zeroAt b [(1, 1), (4, 12)] && b.length == 16 + 8 * np + 4 * nw && !chans.isEmpty
    && ((List.range np).all fun p =>
      let o := 16 + 8 * p
      entry (u16 b o) false && entry (u16 b (o + 2)) true && entry (u16 b (o + 4)) true && zeroAt b [(o + 6, 2)])
    && ((List.range nw).all fun k => microWordOk chans nw (lo32 (u32 b (16 + 8 * np + 4 * k))))

/-! CLASSMAP (07 R200, R203). -/

/-- A CLASSMAP body is valid. -/
def classmapOk (b : List Byte) : Bool :=
  b.length == 1056 && fieldsOk b [(0, 1, 0, 1), (2, 1, 0, 1)]
    && (if u8 b 0 = 0 then decide (u8 b 1 ≤ 13) else u8 b 1 == 0) && (if u8 b 2 = 0 then decide (u8 b 3 ≤ 31) else u8 b 3 == 0)
    && (List.range 4).all fun k =>
      let o := 8 + 6 * k
      decide (u8 b o ≤ u8 b (o + 1)) && decide (u8 b (o + 2) ≤ u8 b (o + 3)) && decide (u8 b (o + 4) ≤ 3) && zeroAt b [(o + 5, 1)]

end Sys2Proof.Machine
end

