-- ==== Sys2Proof/Machine/Time.lean ====
section
/-! DEFINITION. Time (11 R294 to R314, R322): the tick's instants and its alignment, the sources, the timebase, the leap second,
TIME_SET, the time pulses and PTP. -/

namespace Sys2Proof.Machine

/-- The state with the TIM block changed. -/
def State.updTim (s : State) (f : TimSt → TimSt) : State := { s with tim := f s.tim }

/-! TIMEBASE and PTP sections (11 R319). -/

def Image.tb {α : Type} (im : Image) (f : List Byte → α) (d : α) : α := im.fieldOr 0x0701 0x0001 f d

/-- SRC0 to SRC2. -/
def Image.srcAt (im : Image) (k : Nat) : Nat := im.tb (fun b => u8 b k) (match k with
  | 0 => 1
  | 1 => 3
  | _ => 0)
def Image.widthCode (im : Image) : Bool := im.tb (fun b => (u8 b 3).testBit 0) true
def Image.holdLimit (im : Image) : Nat := im.tb (fun b => u16 b 4) 1440 * 60000000000
def Image.widthMs (im : Image) : Nat := im.tb (fun b => u16 b 6) 100
def Image.cableDelay (im : Image) : Int := im.tb (fun b => i16 b 8) 0
/-- IN_DELAY in ns, rounded down from its steps of 0.5 ns. -/
def Image.inDelay (im : Image) : Int := im.tb (fun b => i16 b 10) 0 / 2
def Image.ptpRole (im : Image) : Nat := im.fieldOr 0x0701 0x0002 (fun b => u8 b 0) 0
def Image.ptpPrio (im : Image) (k : Nat) : Nat := im.fieldOr 0x0701 0x0002 (fun b => u8 b k) 248
def Image.clientTol (im : Image) : Nat := im.fieldOr 0x0701 0x0002 (fun b => u16 b 4) 1000

/-! The tick's instants (08 R213, 11 R304). -/

/-- The first OPT at which DVT has reached `d`, under the slew in force. -/
def State.optOfDvt (s : State) (d : Nat) : Opt :=
  ((s.tim.optBase : Int) - ((s.tim.dvtBase : Int) - d) * 1000000000 / (1000000000 + s.tim.slew)).toNat

/-- The number of the DVT grid instant nearest to OPT `o`. -/
def State.gridNo (s : State) (o : Opt) : Nat := (s.dvtAt o + 25000) / 50000

/-- Whether the tick in force starts on the DVT grid within 1.25 ns (11 R304). -/
def State.onDvtGrid (s : State) : Bool :=
  let d := s.dvtAt s.clk.tickOpt % 50000
  s.tim.dvtSet && (decide (d ≤ 1) || d == 49999)

/-- The OPT of the next tick, with the part of a nanosecond still to pay out: on the DVT grid once aligned; nominal before DVT is
set; 0.5 ns shorter or longer while the edges move to the grid. -/
def State.nextTick (s : State) : Opt × Int :=
  let c := s.clk
  if c.aligned then (max (c.tickOpt + 1) (s.optOfDvt (50000 * (s.gridNo c.tickOpt + 1))), 0)
  else match s.tim.align with
    | some short =>
      if s.onDvtGrid then (c.tickOpt + 50000, c.tickRem)
      else
        let h := c.tickRem + (if short then -1 else 1)
        (((c.tickOpt : Int) + 50000 + h / 2).toNat, h % 2)
    | none => (c.tickOpt + 50000, c.tickRem)

/-- The OPT of the `n`-th tick after the latest one, the tick generator running on its grid. -/
def State.tickAhead (s : State) (n : Nat) : Opt :=
  let c := s.clk
  if n = 1 then s.nextTick.1
  else if c.aligned then s.optOfDvt (50000 * (s.gridNo c.tickOpt + n)) else c.tickOpt + 50000 * n

/-- The number of ticks by which the tick whose cut-off is `o` follows the latest one (06 R163), where `o` is a cut-off; before the first
tick, any instant may be the cut-off of tick 0. -/
def State.cutTick (s : State) (o : Opt) : Option Nat :=
  if s.clk.tickOpt = 0 then some 0
  else
    let n := (o + 35000 - s.clk.tickOpt) / 50000
    if 1 ≤ n ∧ s.tickAhead n = o + 10000 then some n else none

/-- The next tick begins (08 R213, 11 R304); at the first after DVT is set the direction of the alignment is measured. -/
def State.advanceTick (s : State) : State :=
  let (o, rem) := s.nextTick
  let s1 : State := ({ s with clk := { s.clk with
    tickOpt := o, tickRem := rem, tick := s.clk.tick + 1, tickSec := (s.clk.tickSec + 1) % 20000 }, hst := s.hst.tick o } : State).reach o
  if s1.tim.dvtSet ∧ s1.tim.align.isNone then s1.updTim fun t => { t with align := some (decide (s1.dvtAt o % 50000 < 25000)) } else s1

/-- TICK_ALIGNMENT (11 R304): at the first tick on the grid TICK_SEC is renumbered and ALIGNED is set; a renumbered slot boundary is a
boundary like any other (02 R60). -/
def execTickAlignment (s : State) : Out :=
  let s := s.start
  .next (if s.clk.running ∧ s.clk.aligned = false ∧ s.tim.align.isSome ∧ s.onDvtGrid then
      { s with clk := { s.clk with aligned := true, tickSec := s.gridNo s.clk.tickOpt % 20000 } }
    else s)

/-! The timebase (11 R298 to R303). -/

/-- Source `k` (0 GNSS, 1 TIMEPULSE_IN, 2 PTP). -/
def State.srcSt (s : State) (k : Nat) : SrcSt := rd s.tim.srcs k
def State.updSrc (s : State) (k : Nat) (f : SrcSt → SrcSt) : State := s.updTim fun t => { t with srcs := upd t.srcs k f }

/-- A source is lost (11 R298), and what counted towards its qualifying is void. -/
def State.loseSrc (s : State) (k : Nat) : State :=
  s.updSrc k fun x => { x with qual := false, run := 0, lossCnt := if x.qual then satInc x.lossCnt else x.lossCnt }

/-- The active source by its code: the first qualified one in the order of the SRC fields, 0 for none (11 R299). -/
def State.chooseSrc (s : State) : Nat :=
  (((List.range 3).map fun k => s.img.srcAt k).find? fun c => decide (1 ≤ c) && (s.srcSt (c - 1)).qual).getD 0

/-- The time in DVT that source code `c` gives for OPT `o` (11 R298, R303); 0 where GNSS has no whole second there. -/
def State.srcTime (s : State) (c : Nat) (o : Opt) (t : SecondIn) : Nat :=
  let x := s.srcSt (c - 1)
  match c with
  | 1 => t.gnssSec.getD 0 * 1000000000
  | 2 => ((x.lastDvt : Int) + (o : Int) - ((x.last : Int) - s.img.inDelay)).toNat
  | _ => x.lastDvt + (o - x.last)

/-- ERR of source code `c` (11 R299): the source's time minus DVT at the source's second. -/
def State.srcErr (s : State) (c : Nat) (t : SecondIn) : Int :=
  let x := s.srcSt (c - 1)
  match c with
  | 0 => 0
  | 1 => t.gnss
  | 2 => (x.lastDvt : Int) - s.dvtAt ((x.last : Int) - s.img.inDelay).toNat
  | _ => (x.lastDvt : Int) - s.dvtAt x.last

/-- DVT taken at OPT `o` as the base from which the slew `w` acts. -/
def State.reSlew (s : State) (o : Opt) (w : Int) : State :=
  let d := s.dvtAt o
  s.updTim fun t => { t with dvtBase := d, optBase := o, slew := w }

/-- Whether no slew may be made: the tick alignment is under way (11 R300). -/
def State.aligning (s : State) : Bool := s.tim.dvtSet && s.clk.running && !s.clk.aligned

/-- The slew that an error asks for: at most 10 µs in a second, 9 µs during a cable-delay walk (11 R300). -/
def State.slewOf (s : State) (e : Int) : Int :=
  let m : Int := if s.tim.delay != s.tim.delayWant then 9000 else 10000
  if s.aligning then 0 else clampInt (-m) m e

/-- The frequency estimate learned while LOCKED, whose value the manual does not give (11 R302): a free value within the 10 ppm of
R300; the one in force in any other state. -/
def State.learnFreq (s : State) : State :=
  if s.tim.st = .locked then
    let (w, s1) := s.draw
    s1.updTim fun t => { t with freq := (w.toNat % 20001 : Nat) - 10000 }
  else s

/-- A change of the leap count in force (11 R297, R310): in DERIVED mode with CVT valid it steps CVT and the epoch. -/
def State.leapStep (s : State) (f : TimSt → TimSt) : State :=
  let s1 := s.updTim f
  if s1.leap ≠ s.leap ∧ s1.tim.cvtHost = false ∧ s1.tim.dvtSet then s1.newEpoch else s1

/-- Whether OPT `o` is a whole second of source code `c` (11 R303). -/
def State.srcSecond (s : State) (c : Nat) (o : Opt) (t : SecondIn) : Bool :=
  match c with
  | 0 => false
  | 1 => t.gnssSec.isSome
  | _ => s.srcTime c o t % 1000000000 == 0

/-- DVT is set once (11 R303, R309; 13 R354; 20 R500): in HOST mode CVT runs on, otherwise it becomes valid with a new epoch. -/
def State.setDvt (s : State) (d : Nat) (c : Nat) : State :=
  let s := s.recTurn
  let o := s.clk.opt
  let s1 : State := { s with
    tim := { s.tim with dvtSet := true, dvtBase := d, optBase := o, slew := 0, st := .locked, src := c, err := 0, align := none, setSec := d / 1000000000,
                        hOff := if s.tim.cvtHost then s.tim.hOff + o - d else s.tim.hOff },
    rcd := { s.rcd with openSet := { s.rcd.openSet with flags := s.rcd.openSet.flags ||| 0x0100 } } }
  (if s1.tim.cvtHost then s1.timeMark false else s1.newEpoch).notice 0x000A 0x07 0 fZero

/-- Entry into HOLDOVER (11 R301, R302). -/
def State.enterHoldover (s : State) : State :=
  let s1 := s.learnFreq
  ((s1.reSlew s.clk.opt s1.tim.freq).updTim fun t => { t with
    st := .holdover, src := 0, lossCnt := satInc t.lossCnt, holdSince := s.clk.opt }).notice 0x000C 0x07 0 fZero

/-- The table of 11 R301 at a second with DVT set, source code `c` and its error `e`. -/
def State.timebaseRow (s : State) (c : Nat) (e : Int) : State :=
  let o := s.clk.opt
  if c = 0 then
    match s.tim.st with
    | .locked => s.enterHoldover
    | .recovering => s.enterHoldover
    | .holdover => (s.reSlew o s.tim.freq).updTim fun t => { t with src := 0 }
    | .free => (s.reSlew o 0).updTim fun t => { t with src := 0 }
  else
    let far := decide (10000 < e.natAbs)
    let st : TimState := match s.tim.st with
      | .free => if far then .recovering else .locked
      | .holdover => if far then .recovering else .locked
      | .locked => if far && s.tim.src != c then .recovering else .locked
      | .recovering => if e.natAbs < 100 then .locked else .recovering
    (s.reSlew o (s.slewOf e)).updTim fun t => { t with st := st, src := c, err := e }

/-- TIMEBASE_SECOND (11 R299 to R303, R310; 20 R497): at a DVT second, or while DVT is unset at an OPT second or at a whole second
of a qualified source.  In a freeze DVT is not disciplined (22 R540). -/
def execTimebaseSecond (o : Opt) (t : SecondIn) (s : State) : Out :=
  let s := s.begin o
  let c := s.chooseSrc
  let due := s.onGrid o 1000000000 || (!s.tim.dvtSet && s.srcSecond c o t)
  if s.pwr.supply = .off ∨ due = false ∨ s.tim.secAt = some o then .next s
  else if s.dbg.phase ≠ .run then .next (if s.runs rSVC then s.recSample 1 else s)
  else
    let s1 := s.leapStep fun x => { x with
      secAt := some o
      leapGnss := match t.leap with
        | some l => some l
        | none => x.leapGnss
      leapNext := match t.leapNext with
        | some l => some l
        | none => x.leapNext }
    let s2 := if s1.tim.dvtSet then s1.timebaseRow c (s1.srcErr c t)
      else if s1.srcSecond c o t then s1.setDvt (s1.srcTime c o t) c
      else s1.updTim fun x => { x with src := c }
    .next (s2.recSample 1)

/-- SOURCE_LOST (11 R298). -/
def execSourceLost (o : Opt) (src : Fin 3) (s : State) : Out :=
  let s := s.begin o
  let x := s.srcSt src.val
  let late := match src.val with
    | 0 => decide (x.last + 2000000000 ≤ o)
    | 1 => decide (x.last + 1500000000 ≤ o)
    | _ => s.tim.ptp.port != 9 || decide (x.last + 3000000000 ≤ o)
  .next (if s.dbg.phase = .run ∧ late = true then s.loseSrc src.val else s)

/-- HOLDOVER_LIMIT_EXPIRY (11 R301): DVT runs on the bare OCXO. -/
def execHoldoverLimitExpiry (o : Opt) (s : State) : Out :=
  let s := s.begin o
  .next (if s.tim.st = .holdover ∧ s.dbg.phase = .run ∧ s.tim.holdSince + s.img.holdLimit ≤ o then
      (s.reSlew o 0).updTim fun t => { t with st := .free, freq := 0 }
    else s)

/-- An announced leap second that has fallen due (11 R310). -/
def State.leapDue (s : State) (o : Opt) : Option Nat :=
  match s.tim.leapNext with
  | some (sec, l) => if s.tim.dvtSet ∧ sec * 1000000000 ≤ s.dvtAt o then some l else none
  | none => none

/-- LEAP_SECOND (11 R309, R310). -/
def execLeapSecond (o : Opt) (s : State) : Out :=
  let s := s.begin o
  match s.leapDue o with
  | none => .next s
  | some l => .next (s.leapStep fun t => { t with leapGnss := some l, leapNext := none })

/-! TIME_SET (11 R312). -/

/-- One TIME_SET at its tick, with its completion; a leap due within the tick is counted with a return to DERIVED. -/
def State.timeCmd (s : State) (c : TimeCmd) : State :=
  let o := s.clk.tickOpt
  let s1 := match c.target with
    | 1 => (s.updTim fun t => { t with
        cvtHost := true, hOff := (c.value : Int) - (if t.dvtSet then s.dvtAt o else o : Nat) }).newEpoch
    | 2 => if s.tim.cvtHost then
        (s.updTim fun t => { t with
          cvtHost := false,
          leapGnss := match s.leapDue (o + 49999) with
            | some l => some l
            | none => t.leapGnss,
          leapNext := if (s.leapDue (o + 49999)).isSome then none else t.leapNext }).newEpoch
      else s
    | 3 => s.updTim fun t => { t with aiding := some (c.value, o) }
    | _ => s.leapStep fun t => { t with leapHost := some c.leap }
  s1.complete c.req stOK (leBytes 2 s1.tim.epoch.toNat ++ leBytes 1 (match s1.tim.st with
    | .free => 0
    | .locked => 1
    | .holdover => 2
    | .recovering => 3) ++ leBytes 1 0 ++ leBytes 8 o)

/-- Step 2 of a tick for TIME_SET (08 R214). -/
def State.timTick (s : State) : State :=
  let l := s.tim.cmds
  l.foldl State.timeCmd (s.updTim fun t => { t with cmds := [] })

/-- A TIME_SET request admitted: it waits for the next tick. -/
def State.timeWait (s : State) (r : HostReq) (target leap value : Nat) : OpRes :=
  if s.clk.running = false then .refuse stSTATE []
  else .wait (s.updTim fun t => { t with cmds := t.cmds ++ [⟨target, leap, value, r⟩] })

/-- TIME_SET CVT_SET (11 R296, R312). -/
def execTimeSetCvtSet (r : HostReq) (value : BitVec 64) (s : State) : Out :=
  .next (hostOp r 0x00A0 1 13 (fun s => s.timeWait r 1 0 value.toNat) s)

/-- TIME_SET CVT_FOLLOW (11 R312). -/
def execTimeSetCvtFollow (r : HostReq) (s : State) : Out :=
  .next (hostOp r 0x00A0 1 13 (fun s => if s.tim.dvtSet then s.timeWait r 2 0 0 else .refuse 0x8702 []) s)

/-- TIME_SET AIDING (11 R308, R312). -/
def execTimeSetAiding (r : HostReq) (value : BitVec 64) (s : State) : Out :=
  .next (hostOp r 0x00A0 1 13 (fun s => if s.tim.dvtSet then .refuse 0x8701 [] else s.timeWait r 3 0 value.toNat) s)

/-- TIME_SET LEAP (11 R310, R312). -/
def execTimeSetLeap (r : HostReq) (leap : Byte) (s : State) : Out :=
  .next (hostOp r 0x00A0 1 13 (fun s =>
    if s.tim.leapGnss.isSome ∨ s.tim.ptp.utcOffset.isSome then .refuse 0x8703 [] else s.timeWait r 4 leap.toNat 0) s)

/-! The time pulses (11 R305 to R308). -/

/-- A cable delay one pulse nearer to the one wanted: at most 1 µs, in steps of 0.5 ns (11 R306). -/
def walkDelay (d want : Int) : Int := d + clampInt (-2000) 2000 (want - d)

/-- Whether TIMEPULSE_OUT marks the second with its rising edge, and whether TIMEPULSE_IN takes rising edges (02 R42). -/
def Image.pulseRises (im : Image) : Bool := im.pinOr 3 89 0x90 != 0x91
def Image.pulseInRises (im : Image) : Bool := im.pinOr 3 90 0x92 != 0x93

/-- TIMEPULSE_EDGE (11 R305 to R307; 02 R42): the edge of the DVT second that lies CABLE_DELAY after it, the first being that of the first whole second
after DVT is set, which leaves the contact high where the
rising edge marks the second, and low where the falling one does. -/
def execTimepulseEdge (o : Opt) (s : State) : Out :=
  let s := s.begin o
  let walk := s.tim.delay != s.tim.delayWant
  let delay := if s.tim.pulseCnt = 0 then s.tim.delayWant else walkDelay s.tim.delay s.tim.delayWant
  let at_ := ((s.dvtAt o : Int) + delay / 2).toNat
  let sec := (at_ + 500000000) / 1000000000
  let off := ((at_ : Int) - sec * 1000000000).natAbs
  if s.pwr.supply = .off ∨ s.tim.dvtSet = false ∨ 20 < off ∨ (if s.tim.pulseCnt = 0 then decide (sec ≤ s.tim.setSec) else decide (sec ≤ s.tim.pulseSec.toNat)) = true then .next s
  else .next (s.updTim fun t => { t with
    delay := delay, pulseState := (match t.st with
      | .free => 0
      | .locked => 1
      | .holdover => 2
      | .recovering => 3),
    pulseHigh := s.img.pulseRises, pulseFirst := t.pulseCnt == 0, pulseWalk := walk, pulseCnt := satInc t.pulseCnt, pulseSec := lo32 sec,
    pulseWidth := if s.img.widthCode then (match t.st with
      | .locked => 100
      | .recovering => 200
      | .holdover => 300
      | .free => 400) else s.img.widthMs })

/-- The label of an edge of TIMEPULSE_IN (11 R308): the nearest whole DVT second, or one from a TIME_SET AIDING of the last 60 s. -/
def State.edgeLabel (s : State) (o : Opt) : Option Nat :=
  let e := ((o : Int) - s.img.inDelay).toNat
  if s.tim.dvtSet then some ((s.dvtAt e + 500000000) / 1000000000)
  else match s.tim.aiding with
    | some (v, t) => if o ≤ t + 60000000000 then some ((v + (e - t) + 500000000) / 1000000000) else none
    | none => none

/-- TIMEPULSE_IN_EDGE (11 R298, R308): an edge of the polarity that the PINMAP gives, stamped in steps of 2.5 ns. -/
def execTimepulseInEdge (at_ : Opt) (rising : Bool) (s : State) : Out :=
  let s := s.begin at_
  let o : Opt := 2 * at_ / 5 * 5 / 2
  let x := s.srcSt 1
  let good := decide (x.last + 999900000 ≤ o) && decide (o ≤ x.last + 1000100000) && x.last != 0
  let run := if good then x.run + 1 else 0
  let lab := s.edgeLabel o
  if s.pwr.supply = .off ∨ s.dbg.phase ≠ .run ∨ rising ≠ s.img.pulseInRises then .next s
  else .next (s.updSrc 1 fun y => { y with
    run := run, last := o, labelled := lab.isSome, lastDvt := (lab.getD 0) * 1000000000,
    qual := y.qual || (decide (5 ≤ run) && lab.isSome) })

/-! PTP (11 R313, R314). -/

/-- Whether the port can exchange messages: NET runs, a backbone path is active and ROLE does not disable it. -/
def State.ptpUp (s : State) : Bool := s.runs rNET && s.dbg.phase == .run && s.img.ptpRole != 3 && (rd s.eth.pair 0).active != 2

/-- The port enters a state; leaving SLAVE loses the source (11 R298). -/
def State.ptpPort (s : State) (p : Nat) : State :=
  let s1 := s.updTim fun t => { t with ptp := { t.ptp with port := p } }
  if p = 9 then s1 else s1.loseSrc 2

/-- The state of a port without a better master: MASTER where ROLE and DVT allow it, LISTENING otherwise. -/
def State.ptpIdle (s : State) : Nat := if s.img.ptpRole ≤ 1 ∧ s.tim.dvtSet then 6 else 4

/-- clockClass in force: 248 while no Announce is sent (11 R314, R322). -/
def State.ptpClass (s : State) : Nat :=
  if s.tim.ptp.port = 6 ∧ s.tim.dvtSet then match s.tim.st with
    | .locked => 6
    | .holdover => 7
    | .recovering => 52
    | .free => 187
  else 248

/-- PTP_SYNC (11 R298, R313). -/
def execPtpSync (o : Opt) (p : PtpSyncIn) (s : State) : Out :=
  let s := s.begin o
  if s.ptpUp = false ∨ s.tim.ptp.port ≠ 9 then .next s
  else
    let run := if p.offset.natAbs ≤ s.img.clientTol then (s.srcSt 2).run + 1 else 0
    .next ((s.updSrc 2 fun x => { x with
      run := run, last := o, lastDvt := p.time - 315964819000000000, labelled := true, qual := x.qual || decide (8 ≤ run) }).updTim
        fun t => { t with ptp := { t.ptp with offset := p.offset } })

/-- PTP_ANNOUNCE (11 R310, R314). -/
def execPtpAnnounce (o : Opt) (a : AnnounceIn) (s : State) : Out :=
  let s := s.begin o
  if s.ptpUp = false then .next s
  else
    let port := match s.img.ptpRole with
      | 1 => if a.better then 7 else s.ptpIdle
      | 2 => 9
      | _ => if a.better then 9 else s.ptpIdle
    let s1 := s.ptpPort port
    .next (if port = 9 ∨ port = 7 then
        s1.leapStep fun t => { t with ptp := { t.ptp with lastAnn := o, utcOffset := a.utcOffset } }
      else s1)

/-- The source of DVT as PTP names it (11 R314). -/
def State.ptpSource (s : State) : Nat :=
  if s.tim.st = .free then 0xA0 else match s.tim.src with
    | 2 => 0x90
    | 3 => 0x40
    | _ => 0x20

/-- PTP_MESSAGE_INTERVAL (11 R313, R314): a Sync each 125 ms and an Announce each second as master, a path-delay measurement each
second; a master unheard for 3 s is given up. -/
def execPtpMessageInterval (o : Opt) (s : State) : Out :=
  let s := s.begin o
  if s.runs rNET = false ∨ s.dbg.phase ≠ .run then .next s
  else if s.img.ptpRole = 3 then .next (s.ptpPort 3)
  else if (rd s.eth.pair 0).active = 2 then .next s
  else
    let p := s.tim.ptp
    let stale := decide (p.lastAnn + 3000000000 ≤ o)
    let s1 := if p.port = 1 then s.ptpPort 4
      else if stale then (s.ptpPort s.ptpIdle).leapStep fun t => { t with ptp := { t.ptp with utcOffset := none } }
      else s
    let port := (rd s.eth.pair 0).active
    let eighth := s1.tim.ptp.rounds % 8 == 0
    let ptpNow := s1.dvtAt o + 315964819000000000
    let master := s1.tim.ptp.port == 6 && s1.tim.dvtSet
    let s2 := if master then s1.send (.net port netSync none (leBytes 8 ptpNow)) else s1
    let s3 := if master && eighth then
        s2.send (.net port netAnnounce none (leBytes 1 s2.ptpClass ++ leBytes 1 s2.ptpSource ++ leBytes 1 (s2.img.ptpPrio 1)
          ++ leBytes 1 (s2.img.ptpPrio 2) ++ leBytes 2 (s2.leap + 19)))
      else s2
    let s4 := if eighth then s3.send (.net port netPdelay none []) else s3
    .next (s4.updTim fun t => { t with ptp := { t.ptp with rounds := t.ptp.rounds + 1 } })

/-! The fused pose (11 R315 to R318). -/

def Image.mount {α : Type} (im : Image) (f : List Byte → α) (d : α) : α := im.fieldOr 0x0701 0x0003 f d

/-- The vehicle's heading from the antenna pair in 0.01 °, to the nearest: the pair's heading minus BASE_YAW, modulo 360 ° (11 R315). -/
def State.pairHeading (s : State) : Nat :=
  ((fToInt (fmul s.nav.hdg (fOfInt 100)) - s.img.mount (fun b => i16 b 44) 0) % 36000).toNat

/-- HDG_SRC at an epoch (11 R316). -/
def State.hdgSource (s : State) (o : Opt) (p : PoseIn) : Nat :=
  let carried := match s.tim.pose.lastHdg with
    | some t => decide (o ≤ t + s.img.mount (fun b => u16 b 50) 120 * 1000000000)
    | none => false
  if s.nav.hdgState = 2 then 1
  else if carried = true ∧ s.sns.imu.valid then 2
  else if s.nav.solMode ≠ 0 ∧ s.img.fieldOr 0x0601 0x0001 (fun b => u16 b 8) 0 = 0 ∧ 1000000 ≤ p.vn * p.vn + p.ve * p.ve then 3
  else 0

/-- The heading that goes with a source; COG is reversed while REVERSE_SRC is valid and non-zero (11 R316). -/
def State.headingOf (s : State) (src : Nat) (p : PoseIn) : Nat :=
  let rev := s.img.mount (fun b => u32 b 52) noRef
  match src with
  | 1 => s.pairHeading
  | 2 => p.carried % 36000
  | 3 => (p.course + (if rev ≠ noRef ∧ sTrue (s.sig rev) then 18000 else 0)) % 36000
  | _ => 0

/-- The fusion MODE at an epoch (11 R316). -/
def State.poseMode (s : State) (o : Opt) : Nat :=
  let dr := match s.tim.pose.lastSol with
    | some t => decide (o ≤ t + s.img.mount (fun b => u16 b 48) 10 * 1000000000)
    | none => false
  if s.nav.solMode ≠ 0 then (if s.sns.imu.valid then 1 else 3) else if s.sns.imu.valid ∧ dr = true then 2 else 0

/-- The pose record (11 R318). -/
def State.poseRecord (s : State) (o : Opt) (p : PoseIn) (mode src seq : Nat) : List Byte :=
  let pos := mode != 0
  let att := mode == 1 || mode == 2
  let i (ok : Bool) (n : Nat) (v : Int) : List Byte := leBytes n (if ok then (BitVec.ofInt (8 * n) v).toNat else 0)
  leBytes 4 seq ++ leBytes 1 mode ++ leBytes 1 s.nav.solMode ++ leBytes 1 src
    ++ leBytes 1 ((if pos then 3 else 0) + (if att then 4 else 0) + (if src ≠ 0 then 8 else 0) + 16 * s.timCode
        + (if s.tim.dvtSet then 0 else 64))
    ++ leBytes 8 o ++ leBytes 8 (s.dvtAt o) ++ i pos 8 p.lat ++ i pos 8 p.lon ++ i pos 4 p.height ++ i pos 2 p.vn ++ i pos 2 p.ve
    ++ i pos 2 p.vd ++ i pos 2 p.speed ++ leBytes 2 (if src = 0 then 0 else s.headingOf src p) ++ i att 2 p.pitch ++ i att 2 p.roll
    ++ i att 2 p.yaw ++ leBytes 2 (if pos then min p.hAcc 0xFFFF else 0) ++ leBytes 2 (if src = 0 then 0 else min p.hdgAcc 0xFFFF)

/-- Whether a pose epoch falls at `o`: every 10 ms of DVT, or at every 200th tick while DVT is unset (11 R317). -/
def State.poseDue (s : State) (o : Opt) : Bool := if s.tim.dvtSet then s.onGrid o 10000000 else s.clk.tick % 200 == 0 && o == s.clk.tickOpt

/-- POSE_EPOCH (11 R315 to R318): NAV has taken the IMU samples of its FIFO channel (06 R165), and the pose goes to the mailboxes of SNS and SVC
(01 R14). -/
def execPoseEpoch (o : Opt) (p : PoseIn) (s : State) : Out :=
  let s := s.begin o
  if s.runs rNAV = false ∨ s.inReset rNAV 25 ∨ s.poseDue o = false ∨ (s.tim.pose.rcd ≠ [] ∧ s.tim.pose.opt = o) then .next s
  else
    let mode := s.poseMode o
    let src := s.hdgSource o p
    let q := s.tim.pose
    let first := q.rcd.isEmpty
    let seq := if first then 0 else (q.seq + 1).toNat
    let body := s.poseRecord o p mode src seq
    let s1 := { s with sns := { s.sns with imuFifo := [] } }
    .next ((s1.updTim fun t => { t with poseSns := t.poseSns.write o, poseSvc := t.poseSvc.write o, pose := { q with
      mode := mode, hdgSrc := src, seq := lo32 seq, rcd := body, opt := o,
      lastSol := if s.nav.solMode ≠ 0 then some s.nav.solOpt else q.lastSol,
      lastHdg := if src = 1 ∨ src = 3 then some o else q.lastHdg } }).publish 2 (fun _ => true) o (s.dvtAt o) body)

end Sys2Proof.Machine
end

