-- ==== Sys2Proof/Machine/Steer.lean ====
section
/-! DEFINITION. Steering and guidance (12 R323 to R333): the guidance epoch, the law, readiness, engage and disengage. -/

namespace Sys2Proof.Machine

/-- The GUIDANCE section; empty where it is absent (12 R334). -/
def Image.guidance (im : Image) : List Byte := (im.sect 0x0801 0x0001).getD []
/-- The function driven; 0xFF for none. -/
def Image.steerMf (im : Image) : Nat := im.fieldOr 0x0801 0x0001 (fun b => u8 b 0) 0xFF
def State.updStr (s : State) (f : StrSt → StrSt) : State := { s with str := f s.str }

/-- Whether the block guides. -/
def StrSt.on (t : StrSt) : Bool := t.st == .engaged || t.st == .coast

/-- SPEED in m/s from the pose, signed (11 R318). -/
def State.poseSpeed (s : State) : F32 := fRat (i16 s.tim.pose.rcd 50) 1000

/-- The control point and the heading of the pose in force about a line's origin (12 R324, R327); none without a valid position and
heading. -/
def State.control (s : State) (l : Line) : Option (Pt × F64) :=
  if s.poseFlag 0 ∧ s.poseFlag 3 then
    let p := s.tim.pose.rcd
    let g := s.img.guidance
    let hdg := dRat (u16 p 52) 100
    let a := planeEN (dRat l.lat0 1000000000) (dRat l.lon0 1000000000) (dRat (i64 p 24) 1000000000) (dRat (i64 p 32) 1000000000)
    let c := aheadRight hdg (dOfF (f32At g 12)) dZero
    some ((dadd a.1 c.1, dadd a.2 c.2), hdg)
  else none

/-- The errors of an epoch (12 R327): the search is local while guiding on an unchanged line. -/
def State.lineErrors (s : State) (l : Line) (newLine : Bool) : Option LineErr :=
  match s.control l with
  | none => none
  | some (c, hdg) =>
    if l.kind = 0 then none
    else if s.str.on ∧ newLine = false then some (l.errors c hdg (s.str.seg - 2) (s.str.seg + 2) s.str.dir)
    else some (l.errors c hdg 0 l.segs (l.reverse c hdg))

/-- Whether takeover is active (12 R330). -/
def State.takeOver (s : State) : Bool :=
  u32 s.img.guidance 52 != noRef && decide ((u16 s.img.guidance 62 + 9) / 10 ≤ s.str.takeRun)

/-- The epochs over which |TAKEOVER_SRC| has exceeded its threshold; an invalid source counts as active at once. -/
def State.takeEpochs (s : State) : Nat :=
  let g := s.img.guidance
  let v := s.sig (u32 g 52)
  if u32 g 52 = noRef then 0
  else if v.2 = false ∨ fIsNaN v.1 then 200
  else if flt (f32At g 48) (fabs v.1) then min (s.str.takeRun + 1) 200 else 0

/-- The slot and overlay of the function driven (12 R330). -/
def State.steerSlotOk (s : State) : Bool :=
  let m := s.img.steerMf
  s.slotState (s.mfSlot m) == .run && (rd s.prf.mf m).st == .normal

/-- The readiness conditions (12 R330). -/
def State.readiness (s : State) (l : Line) (e : Option LineErr) : BitVec 10 :=
  let g := s.img.guidance
  let p := s.tim.pose
  let sp := s.poseSpeed
  let near := match s.control l with
    | some (c, _) => dle (Pt.norm c) (dOfInt 25000)
    | none => false
  let within (f : LineErr → F64) (lim : F32) : Bool := match e with
    | some x => fle (fabs (fOfD (f x))) lim
    | none => false
  let bits : List Bool := [l.kind != 0, p.mode == 1 || p.mode == 3, decide (u8 g 2 ≤ u8 p.rcd 5), p.hdgSrc != 0 && (u8 g 3).testBit p.hdgSrc,
    fle (f32At g 28) sp && fle sp (f32At g 32), within LineErr.ey (f32At g 36), within LineErr.epsi (f32At g 40), near,
    s.steerSlotOk, !s.takeOver]
  BitVec.ofNat 10 (bits.foldr (fun b a => 2 * a + (if b then 1 else 0)) 0)

/-- Whether the quality conditions of ENGAGED hold (12 R331). -/
def State.quality (s : State) : Bool :=
  let g := s.img.guidance
  let p := s.tim.pose
  decide (u8 g 2 ≤ u8 p.rcd 5) && (u8 g 3).testBit p.hdgSrc

/-- The disengage reasons that an epoch finds itself, first in the order of 12 R332; takeover, late epochs and the end of a coast
have steps of their own. -/
def State.disReason (s : State) (l : Line) (e : Option LineErr) (newLine : Bool) (bad : Option Opt) (o : Opt) : Option Nat :=
  let g := s.img.guidance
  let p := s.tim.pose
  let f := rd s.prf.mf s.img.steerMf
  let overV (k : LineErr → F64) (lim : F32) : Bool := match e with
    | some x => flt lim (fabs (fOfD (k x)))
    | none => false
  let slow := match bad with
    | some t => decide (t + 1000000000 ≤ o)
    | none => false
  let past := match e with
    | some x => flt (f32At g 44) (fOfD x.beyond)
    | none => false
  if s.steerSlotOk = false ∨ (s.str.modeSet ∧ f.mode ≠ 4) then some 2
  else if p.mode = 0 ∨ p.hdgSrc = 0 then some 3
  else if i16 p.rcd 50 < -100 then some 4
  else if s.str.cmd = some false then some 5
  else if newLine ∧ (l.kind = 0 ∨ overV LineErr.ey (f32At g 36) ∨ overV LineErr.epsi (f32At g 40)) then some 6
  else if past then some 7
  else if slow then some 8
  else if s.str.hostOff then some 10
  else none

/-- The tick at which what an epoch computes takes effect: 120 ticks after the epoch's (12 R329). -/
def State.steerTick (s : State) : Nat := s.clk.tick + 120

/-- A disengage (12 R331): DIS_MODE goes to the function, which takes it only while it is still in AUTO. -/
def State.disengage (s : State) (reason : Nat) : State :=
  s.updStr fun t => { t with
    st := .off, dir := false, curvLim := false, reason := BitVec.ofNat 4 reason, kappa := fNaN, target := fNaN, speedBad := none,
    hostOff := false, lateRun := 0, pend := t.pend ++ [{ tick := s.steerTick, mode := some (u8 s.img.guidance 4), target := none }] }

/-- The guidance law (12 R328): κ, whether it was clamped, and δ. -/
def State.steerLaw (s : State) (e : LineErr) : F64 × Bool × F64 :=
  let g := s.img.guidance
  let v := fabs s.poseSpeed
  let curve (o : Nat) : F64 := match s.img.tableOf kCurve (u16 g o) with
    | some b => dOfF (curveEval b (v, true) (fNaN, false)).1
    | none => dZero
  let raw := dsub (dsub e.kap (dmul (curve 16) e.ey)) (dmul (curve 18) e.epsi)
  let vd := dOfF v
  let kMax := dOfF (f32At g 20)
  let lat := ddiv (dOfF (f32At g 24)) (dmul vd vd)
  let lim := if dlt lat kMax then lat else kMax
  let acts := dlt lim (dabs raw)
  let k := if dlt lim raw then lim else if dlt raw (dneg lim) then dneg lim else raw
  let a := ddiv (atan64 (dmul (dOfF (f32At g 8)) k)) degRad
  (k, acts, if u8 g 1 = 0 then a else dneg a)

/-- The law's target of an epoch, with the function's AUTO where the epoch engages. -/
def State.guide (s : State) (e : Option LineErr) (engage : Bool) : State :=
  match e with
  | none => s
  | some x =>
    let (k, acts, d) := s.steerLaw x
    s.updStr fun t => { t with
      kappa := fOfD k, curvLim := acts, target := fOfD d,
      pend := t.pend ++ [{ tick := s.steerTick, mode := if engage then some 4 else none, target := some (fOfD d) }] }

/-- The table of 12 R331 at an epoch, the errors and readiness being those of the epoch. -/
def State.steerRow (s : State) (l : Line) (e : Option LineErr) (newLine rise : Bool) (o : Opt) : State :=
  let t := s.str
  let engage := t.cmd == some true || rise
  let all := t.met == BitVec.allOnes 10
  match t.st with
  | .off => s.updStr fun x => { x with st := if all then .ready else .off, refused := x.refused || engage, hostOff := false }
  | .ready =>
    if all = false then s.updStr fun x => { x with st := .off, hostOff := false }
    else if engage then
      (s.updStr fun x => { x with
        st := .engaged, engageCnt := satInc x.engageCnt, modeSet := false, hostOff := false, speedBad := none,
        dir := match e with
          | some y => y.rev
          | none => false }).guide e true
    else s.updStr fun x => { x with hostOff := false }
  | _ =>
    if s.takeOver then s
    else match s.disReason l e newLine t.speedBad o with
      | some r => s.disengage r
      | none =>
        let s1 := if newLine then s.updStr fun x => { x with dir := match e with
            | some y => y.rev
            | none => false } else s
        let s2 := if t.st = .engaged ∧ s.quality = false then
            s1.updStr fun x => { x with st := .coast, coastSince := o, coastCnt := satInc x.coastCnt, coastSeen := true }
          else if t.st = .coast ∧ s.quality then s1.updStr fun x => { x with st := .engaged }
          else s1
        s2.guide e false

/-- GUIDANCE_EPOCH (12 R326 to R332): the line's boundary, the errors, readiness, the state and the target; `late` where the pose has
not arrived or the computation is not finished in time (R329). -/
def execGuidanceEpoch (o : Opt) (late : Bool) (s : State) : Out :=
  let s := s.begin o
  if s.runs rSVC = false ∨ s.img.steerMf = 0xFF ∨ s.poseDue o = false ∨ s.str.epochAt = some o then .next s
  else
    let newLine := (s.snapReady 0x0800).isSome || s.str.lineNew
    let s0 := ((s.applyGroup 0x0800).takePose).updStr fun t => { t with epochAt := some o, lineNew := newLine }
    if late ∨ s.tim.pose.opt ≠ o then .next (s0.updStr fun t => { t with lateCnt := satInc t.lateCnt, lateRun := t.lateRun + 1 })
    else
      let g := s0.img.guidance
      let l := lineOf s0.live
      let e := s0.lineErrors l newLine
      let v := fabs s0.poseSpeed
      let out := flt v (f32At g 28) || flt (f32At g 32) v
      let src := s0.sig (u32 g 56)
      let now := u32 g 56 != noRef && sTrue src
      let s1 := s0.updStr fun t => { t with
        takeRun := s0.takeEpochs, lateRun := 0, lineNew := false, seg := (e.map LineErr.seg).getD t.seg, curvLim := false,
        speedBad := if out then some (t.speedBad.getD o) else none,
        errY := (e.map fun x => fOfD x.ey).getD fNaN, errPsi := (e.map fun x => fOfD x.epsi).getD fNaN,
        remain := ((e.bind LineErr.remain).map fOfD).getD fNaN }
      let s2 := s1.updStr fun t => { t with met := s1.readiness l e }
      .next ((s2.steerRow l e newLine (now && !s2.str.srcPrev) o).updStr fun t => { t with cmd := none, srcPrev := now })

/-- One entry that steering writes to its function at its tick (12 R329, R331; 09 R259). -/
def State.steerWrite (s : State) (p : StrPend) : State :=
  let m := s.img.steerMf
  let s1 := match p.mode with
    | some 4 => (s.mfSetMode m 4).updStr fun t => { t with modeSet := true }
    | some md => if (rd s.prf.mf m).mode = 4 then s.mfSetMode m md else s
    | none => s
  match p.target with
  | some x => s1.mfTake m 4 x
  | none => s1

/-- STEERING_TARGET_APPLY (12 R329; 09 R259): what is due at the tick about to start is written ahead of its commands. -/
def execSteeringTargetApply (s : State) : Out :=
  let s := s.start
  if s.runs rCTL = false then .next s
  else
    let due := s.str.pend.filter fun p => decide (p.tick ≤ s.clk.tick + 1)
    .next (due.foldl State.steerWrite (s.updStr fun t => { t with pend := t.pend.filter fun p => decide (s.clk.tick + 1 < p.tick) }))

/-- STEER_LATE_DISENGAGE (12 R329): five consecutive late epochs; like the rows below it stands at an epoch (12 R331). -/
def execSteerLateDisengage (o : Opt) (s : State) : Out :=
  let s := s.begin o
  .next (if s.runs rSVC ∧ s.poseDue o ∧ s.str.on ∧ 5 ≤ s.str.lateRun then s.disengage 3 else s)

/-- STEER_COAST_TIMEOUT (12 R331). -/
def execSteerCoastTimeout (o : Opt) (s : State) : Out :=
  let s := s.begin o
  .next (if s.runs rSVC ∧ s.poseDue o ∧ s.str.st = .coast ∧ s.str.coastSince + 1000000 * u16 s.img.guidance 60 ≤ o then s.disengage 9 else s)

/-- STEER_TAKEOVER (12 R330, R332). -/
def execSteerTakeover (o : Opt) (s : State) : Out :=
  let s := s.begin o
  .next (if s.runs rSVC ∧ s.poseDue o ∧ s.str.on ∧ s.takeOver then s.disengage 1 else s)

end Sys2Proof.Machine
end

