-- ==== Sys2Proof/Machine/ImgPolicy.lean ====
section
/-! DEFINITION. The content checks of the POLICY tables (03 R76, code 0x0C; 04 R128, R129), block by block. -/

namespace Sys2Proof.Machine

/-! The frame of a POLICY body (04 R128, R129). -/

/-- The sections of a POLICY body read one after the other, none where the layout breaks R128. -/
def readSections : Nat → List Byte → Option (List (Nat × List Byte))
  | 0, b => if b.isEmpty then some [] else none
  | n + 1, b =>
    let len := u16 b 2
    if b.length < 4 ∨ len % 4 ≠ 0 ∨ b.length < 4 + len then none
    else (readSections n (b.drop (4 + len))).map fun l => (u16 b 0, span b 4 len) :: l

/-- Whether section IDs rise strictly. -/
def risesN : List Nat → Bool
  | a :: c :: t => decide (a < c) && risesN (c :: t)
  | _ => true

/-- A POLICY body is well laid out, and each of its sections is one that `f` knows and accepts. -/
def policyOk (b : List Byte) (f : Nat → List Byte → Bool) : Bool :=
  decide (1 ≤ u16 b 0) && decide (u16 b 0 ≤ 64) && zeroAt b [(2, 2)] && (match readSections (u16 b 0) (b.drop 4) with
    | some l => risesN (l.map Prod.fst) && l.all fun s => f s.1 s.2
    | none => false)

/-- Every record of `n` bytes of a section satisfies `ok`. -/
def recordsOk (b : List Byte) (count n : Nat) (ok : Nat → List Byte → Bool) : Bool :=
  b.length == count * n && (List.range count).all fun k => ok k (span b (n * k) n)

/-- A START_CHARGE section of `count` records (02 R56). -/
def chargesOk (count : Nat) (b : List Byte) : Bool :=
  recordsOk b count 8 fun _ r => fieldsOk r [(0, 2, 1, 10000), (2, 2, 1, 1500), (4, 1, 0, 3), (5, 1, 0, 0), (6, 2, 1, 5000)]

/-- A HOST_ABSENCE section of one byte per unit, each at most `hi` (04 R129). -/
def absenceOk (count hi : Nat) (b : List Byte) : Bool := b.length == count && b.all fun x => decide (x.toNat ≤ hi)

/-- A table named by a field is a CURVE of `dims` dimensions, or none where the field may name none (04 R99).  Its consumer
gives the inputs that it binds, whatever IN_X and IN_Y name (log 103). -/
def Image.curveDims (im : Image) (dims id : Nat) : Bool := match im.curve id with
  | some b => u8 b 0 == dims
  | none => false

/-! SYS, HST, SNS, FLW. -/

/-- The outputs that a release group names, as bit indices of one mask (03 R77). -/
def Image.releaseMask (im : Image) (g : Nat) : Nat := leNat (span (im.relGroup g) 8 14)

/-- The release section (03 R77, R78; 16 R429). -/
def Image.releaseOk (im : Image) (b : List Byte) : Bool :=
  let n := u16 b 0
  decide (n ≤ 16) && zeroAt b [(2, 2)] && b.length == 4 + 24 * n && (List.range n).all fun g =>
    let r := span b (4 + 24 * g) 24
    let param := u32 r 4
    let mask := im.releaseMask g
    decide (u8 r 0 ≤ 3) && decide (u8 r 1 ≤ 1) && zeroAt r [(2, 2), (22, 2)] && decide (u8 r 21 < 32)
      && (match u8 r 0 with
        | 1 => param % 16 + param / 256 % 2 * 256 == param
        | 3 => match im.tableOf kState (param % 65536) with
          | some t => decide (param < 0x1000000) && decide (param / 65536 < u16 t 0)
          | none => false
        | 2 => param == 0 && u8 r 1 == 0
        | _ => param == 0)
      && ((List.range g).all fun h => mask &&& im.releaseMask h == 0)
      && ((List.range 40).all fun k => !(mask / 2 ^ 64).testBit k || u8 ((im.record 0x0C01 0x0001 32 k).getD []) 0 == 1)
      && ((List.range 4).all fun k => !(u8 r 21).testBit (k + 1) || im.pinOr 2 (117 + k) 0x70 == 0x70)

/-- The system POLICY (02 R59; 03 R77; 04 R130). -/
def Image.sysOk (im : Image) (b : List Byte) : Bool :=
  policyOk b fun sid s => match sid with
    | 1 => im.releaseOk s
    | 2 => s.length == 16 && fieldsOk s [(0, 4, 0, 600000), (4, 4, 100, 60000), (8, 4, 50, 60000), (12, 4, 0, 0)]
    | 3 => s.length == 8 && fieldsOk s [(4, 1, 0, 1), (5, 3, 0, 0)]
    | 0xF1 => chargesOk 1 s
    | _ => false

/-- A die's POLICY (04 R130). -/
def dieOkPolicy (b : List Byte) : Bool :=
  policyOk b fun sid s => sid == 1 && s.length == 4 && fieldsOk s [(0, 2, 4, 2000), (2, 2, 0, 0)]

/-- The HST POLICY (05 R134). -/
def hstOk (b : List Byte) : Bool :=
  policyOk b fun sid s => sid == 1 && s.length == 8 && fieldsOk s [(0, 2, 1024, 65535), (2, 2, 5, 600), (4, 2, 0, 64), (6, 2, 0, 0)]

/-- The SNS POLICY (06 R177). -/
def Image.snsOk (im : Image) (b : List Byte) : Bool :=
  let conv (id : Nat) : Bool := id == 0xFFFF || im.curveDims 1 id
  policyOk b fun sid s => match sid with
    | 1 => recordsOk s 24 16 fun _ r => fieldsOk r [(0, 2, 0, 5000)] && conv (u16 r 6) && fIsFin (f32At r 8) && fIsFin (f32At r 12)
    | 2 => recordsOk s 24 12 fun _ r => fieldsOk r [(0, 1, 2, 64), (1, 1, 0, 1), (2, 2, 1, 10000)] && fIsFin (f32At r 4)
             && floatsOk r [(8, fOne, fOfInt 25000)]
    | 3 => recordsOk s 16 4 fun _ r => fieldsOk r [(0, 2, 0, 100), (2, 2, 0, 0)]
    | 4 => recordsOk s 16 4 fun _ r => conv (u16 r 0) && zeroAt r [(2, 2)]
    | _ => false

/-- A vector of unit length to within 0.01 (07 R210), compared by squares. -/
def unitAxis (b : List Byte) : Bool :=
  let sq (o : Nat) : F64 := dmul (dOfF (f32At b o)) (dOfF (f32At b o))
  let l := dadd (dadd (sq 4) (sq 8)) (sq 12)
  (fIsFin (f32At b 4) && fIsFin (f32At b 8) && fIsFin (f32At b 12)) && dle (dRat 9801 10000) l && dle l (dRat 10201 10000)

/-- The FLOW section (07 R209, R210). -/
def Image.flowOk (im : Image) (b : List Byte) : Bool :=
  let inf := fneg fMaxFin
  let quad (n : Nat) : Bool := im.pinOr 2 (93 + n) 0x20 == 0x23
  b.length == 76
    && fieldsOk b [(0, 1, 0, 3), (1, 1, 0, 4), (24, 2, 1, 60), (26, 2, 1, 120), (48, 2, 0, 600)]
    && (u16 b 2 == 0xFFFF || im.curveDims 2 (u16 b 2)) && unitAxis b
    && floatsOk b [(16, inf, fMaxFin), (20, fZero, fOfInt 5), (28, inf, fMaxFin), (32, fOfInt 100, fOfInt 50000), (36, fDec 5 1, fOne),
         (40, fOne, fOfInt 2)]
    && (decide (u16 b 50 ≤ 600) || u16 b 50 == 0xFFFF)
    && (List.range (u8 b 1)).all fun i =>
      let o := 52 + 6 * i
      fieldsOk b [(o, 1, 0, 23), (o + 1, 1, 1, 200)] && floatsOk b [(o + 2, fDec 1 1, fOfInt 64)] && !quad (u8 b o)

/-- The FLW POLICY (07 R209, R210). -/
def Image.flwOk (im : Image) (b : List Byte) : Bool :=
  policyOk b fun sid s => match sid with
    | 1 => im.flowOk s
    | 2 => decide (1 ≤ u16 s 0) && decide (u16 s 0 ≤ 16) && zeroAt s [(2, 2)] && recordsOk (s.drop 4) (u16 s 0) 20 fun _ r =>
        im.curveDims 1 (u16 r 0) && (u16 r 2 == 0xFFFF || im.curveDims 1 (u16 r 2))
          && floatsOk r [(4, fZero, fOfInt 30), (8, fDec 5 1, fOfInt 2), (12, fDec 1 6, fDec 2 3)] && decide (u8 r 16 ≤ 1) && zeroAt r [(17, 3)]
    | 3 => recordsOk s 16 16 fun _ r =>
        fieldsOk r [(2, 2, 1, 1000), (4, 1, 1, 8), (6, 1, 0, 1), (12, 4, 0, 0)] && (u16 r 0 == 0xFFFF || im.has kClassmap (u16 r 0))
          && (u8 r 6 == 0 || u16 r 0 != 0xFFFF)
          && (u8 r 5 == 0xFF || (decide (u8 r 5 ≤ 3) && u8 ((im.record 0x0301 0x0004 16 (u8 r 5)).getD []) 0 != 0))
    | 4 => recordsOk s 4 16 fun _ r =>
        fieldsOk r [(0, 1, 0, 2), (1, 1, 0, 0), (2, 2, 1, 3000), (12, 4, 0, 0)] && floatsOk r [(4, fDec 1 1, fOfInt 1000), (8, fZero, fOfInt 4)]
    | _ => false

/-! LOP and PRF. -/

/-- The slots bound to a target, by BIND_KIND, BIND_IDX and BIND_TABLE (08 R234). -/
def Image.boundBy (im : Image) (kind idx table : Nat) : List Nat :=
  (List.range 128).filter fun n => match im.slotRec n with
    | some b => u8 b 32 == kind && u16 b 34 == idx && (kind != 4 || u16 b 36 == table)
    | none => false

/-- Whether LOOP bindings from slot `n` come to an end within `k` steps (08 R234). -/
def Image.bindEnds (im : Image) : Nat → Nat → Bool
  | 0, _ => false
  | k + 1, n => match im.slotRec n with
    | some b => u8 b 32 != 5 || im.bindEnds k (u16 b 34)
    | none => true

/-- The target of a slot's binding (08 R233, R234, R236; 15 R412; 16 R429; 17 R442). -/
def Image.bindOk (im : Image) (n : Nat) (b : List Byte) : Bool :=
  let idx := u16 b 34
  let kind := u8 b 32
  (kind == 0 || (im.boundBy kind idx (u16 b 36)).length == 1) && (kind == 4 || u16 b 36 == 0xFFFF) && decide (u8 b 33 ≤ 1)
    && (u8 b 33 == 0 || kind == 5)
    && (match kind with
      | 0 => idx == 0
      | 1 => u8 ((im.record 0x0B01 0x0001 36 idx).getD []) 0 == 1 && decide (idx < 48)
      | 2 => u8 ((im.record 0x0C01 0x0001 32 idx).getD []) 0 == 1 && decide (idx < 40)
      | 3 => let r := (im.record 0x0D01 0x0001 40 idx).getD []
             u8 r 0 == 1 && u8 r 1 == 2 && decide (idx < 8)
      | 4 => match im.tableOf kFormat (u16 b 36) with
        | some f => u8 f 0 == 3 && decide (idx < u16 f 2) && u32 f (24 + 24 * idx) == noRef
            && !((im.machines.map fun t => stateWrites t.body).flatten.contains (0x9000000 + 256 * u16 b 36 + idx))
        | none => false
      | 5 => match im.slotRec idx with
        | some r => decide (idx < 128) && im.bindEnds 128 n && u16 b 0 % u16 r 0 == 0 && decide (u16 b 0 / u16 r 0 ≤ 1000) && u8 b 5 == u8 r 5
            && u16 b 2 % u16 r 0 == u16 r 2 % u16 r 0
        | none => false
      | _ => false)

/-- One record of SLOTS (08 R241, R242). -/
def Image.slotOk (im : Image) (n : Nat) (b : List Byte) : Bool :=
  let law (id : Nat) : Option (List Byte) := im.tableOf kLaw id
  let alt := u16 b 42
  let select (l : List Byte) : Bool := u8 l 0 == 5
  match law (u16 b 12) with
  | none => false
  | some l =>
    let r := im.bindRange b (f32At l 4) (f32At l 8)
    let altOk : Bool := alt == 0xFFFF || (match law alt with
      | some m => select m == select l
      | none => false)
    let sched : Bool := u16 b 14 == 0xFFFF || (match im.curve (u16 b 14) with
      | some c => u32 c 8 != noRef && (u8 c 0 == 1 || u32 c 12 != noRef)
      | none => false)
    fieldsOk b [(0, 2, 1, 20000), (5, 1, 0, 1), (6, 1, 1, 255), (7, 1, 0, 2), (38, 1, 0, 1), (39, 1, 1, 255), (40, 1, 0, 1), (41, 1, 0, 1),
        (44, 4, 0, 0)]
      && decide (u16 b 2 < u16 b 0) && decide (1 ≤ u8 b 4) && decide (u8 b 4 ≤ u16 b 0) && (u8 b 5 == 0 || 20000 % u16 b 0 == 0)
      && floatsOk b [(8, r.1, r.2)] && altOk && sched && (select l || u32 b 16 != noRef) && im.bindOk n b

/-- The LOP POLICY (08 R220, R241, R242). -/
def Image.lopOk (im : Image) (b : List Byte) : Bool :=
  ((List.range 8).all fun p => decide (im.procLoad p ≤ 25600)) && policyOk b fun sid s => match sid with
    | 1 => recordsOk s 128 48 fun n r => u16 r 0 == 0 || im.slotOk n r
    | 0xF0 => absenceOk 128 2 s
    | _ => false

/-- One record of FUNCTIONS (09 R265, R266; 12 R323). -/
def Image.functionOk (im : Image) (m : Nat) (r : List Byte) : Bool :=
  let slot := u8 r 0
  let range := im.posRange slot
  let inner := (im.boundBy 5 slot 0).length != 0
  let others := (List.range 48).filter fun k => k != m && (match im.mfRec k with
    | some x => u8 x 0 == slot
    | none => false)
  match im.slotRec slot with
  | none => false
  | some sb =>
    let l := im.law (u16 sb 12)
    let br := im.bindRange sb (f32At l 4) (f32At l 8)
    decide (slot < 128) && !inner && others.isEmpty
      && fieldsOk r [(1, 1, 0, 4), (2, 1, 0, 1), (3, 1, 0, 4), (4, 1, 0, 2), (5, 1, 0, 3), (6, 1, 0, 2), (7, 1, 0, 1), (56, 2, 0, 10000), (58, 6, 0, 0)]
      && flt (f32At r 20) (f32At r 24) && fle range.1 (f32At r 20) && fle (f32At r 24) range.2
      && floatsOk r [(44, f32At r 20, f32At r 24), (40, br.1, br.2), (52, fZero, fMaxFin)]
      && ((List.range 3).all fun k => fIsFin (f32At r (28 + 4 * k)) && flt fZero (f32At r (28 + 4 * k)))
      && (u8 r 6 == 0 || (u32 r 12 != noRef && u32 r 16 != noRef)) && (u8 r 1 != 4 || im.mfAuto m)
      && (u8 r 7 == 0 || im.steerMf == m)
      && ((List.range 4).all fun k =>
        let g := span r (64 + 12 * k) 12
        if k < u8 r 3 then guardOk g else allZero g)

/-- The PRF POLICY (09 R262, R265, R266). -/
def Image.prfOk (im : Image) (b : List Byte) : Bool :=
  policyOk b fun sid s => match sid with
    | 1 => recordsOk s 128 28 fun n r => (im.slotRec n).isNone
        || (floatsOk r [(0, fneg fMaxFin, fMaxFin), (4, fneg fMaxFin, fMaxFin), (8, fneg fMaxFin, fMaxFin), (24, fZero, fMaxFin)]
            && flt (f32At r 0) (f32At r 4))
    | 2 => recordsOk s 48 112 fun m r => u8 r 0 == 0xFF || im.functionOk m r
    | 0xF0 => s.length == 48 && s.all fun x => decide (x.toNat < 8) && x.toNat % 4 != 3
    | _ => false

/-! NAV, TIM, STR, YLD. -/

/-- The NAV POLICY (10 R290, R291; 19 R490). -/
def Image.navOk (im : Image) (b : List Byte) : Bool :=
  policyOk b fun sid s => match sid with
    | 1 => s.length == 20 && fieldsOk s [(0, 1, 0, 0x3F), (1, 1, 0, 30), (2, 1, 0, 3), (3, 1, 0, 1), (4, 2, 50, 300), (6, 2, 5, 200),
             (10, 2, 5, 100), (16, 1, 20, 45), (17, 3, 0, 0)]
             && (u16 s 8 == 0 || (decide (500 ≤ u16 s 8) && decide (u16 s 8 ≤ 5000)))
    | 2 => s.length == 24 && !(u8 s 0 == 1 && u8 s 12 == 1) && ((List.range 2).all fun i =>
        let r := span s (12 * i) 12
        fieldsOk r [(0, 1, 0, 2), (10, 2, 0, 0)] && (u8 r 0 == 2 || u8 r 1 == 0)
          && (i != 0 || (decide (1 ≤ u16 r 2) && decide (u16 r 2 ≤ 60))) && (decide (u16 r 8 ≤ 4095) || u16 r 8 == 0xFFFF)
          && (u8 r 0 != 2 || (decide (u8 r 1 < 8) && decide (u32 r 4 < 2 ^ 30) && !im.pairB (u8 r 1)
            && (im.formats 4).all fun t => !(u8 t.body 12 == u8 r 1 && u32 t.body 8 / 2 ^ 29 % 2 == u32 r 4 / 2 ^ 29
              && !(u32 t.body 8).testBit 30 && ((u32 t.body 8 ^^^ u32 r 4) &&& im.rxMask t.id) % 2 ^ 29 == 0))))
    | 3 => s.length == 12 && fieldsOk s [(0, 4, 0, 28800), (4, 2, 20, 200), (6, 2, 6500, 30000), (8, 1, 8, 64), (9, 3, 0, 0)]
    | _ => false

/-- The TIM POLICY (11 R319, R320). -/
def Image.timOk (im : Image) (b : List Byte) : Bool :=
  let signed (s : List Byte) (o : Nat) : Bool := decide (-20000 ≤ i16 s o) && decide (i16 s o ≤ 20000)
  policyOk b fun sid s => match sid with
    | 1 =>
      let src := [u8 s 0, u8 s 1, u8 s 2]
      s.length == 16 && fieldsOk s [(0, 1, 0, 3), (1, 1, 0, 3), (2, 1, 0, 3), (3, 1, 0, 1), (4, 2, 10, 10080), (6, 2, 1, 500), (13, 3, 0, 0)]
        && signed s 8 && signed s 10 && distinct (src.filter fun x => x != 0) && !(src.contains 3 && (im.ptpRole == 1 || im.ptpRole == 3))
    | 2 => s.length == 8 && fieldsOk s [(0, 1, 0, 3), (3, 1, 0, 0), (4, 2, 100, 10000), (6, 2, 0, 0)]
    | 3 => s.length == 56 && fieldsOk s [(6, 2, 0, 0), (48, 2, 0, 60), (50, 2, 0, 600)]
    | _ => false

/-- The STR POLICY (12 R323, R334, R335). -/
def Image.strOk (im : Image) (b : List Byte) : Bool :=
  let gain (id : Nat) : Bool := match im.curve id with
    | some c => u8 c 0 == 1 && u32 c 8 == noRef && id / 256 == 8
    | none => false
  let mfAuto (m : Nat) : Bool := match im.mfRec m with
    | some r => u8 r 7 == 1
    | none => false
  policyOk b fun sid s => match sid with
    | 1 => s.length == 64 && (u8 s 0 == 0xFF || (decide (u8 s 0 < 48) && mfAuto (u8 s 0)))
        && fieldsOk s [(1, 1, 0, 1), (2, 1, 1, 4), (3, 1, 0, 14), (4, 1, 0, 1), (5, 3, 0, 0), (60, 2, 0, 10000), (62, 2, 10, 2000)] && u8 s 3 % 2 == 0
        && floatsOk s [(8, fOne, fOfInt 10), (12, fOfInt (-10), fOfInt 10), (20, fDec 1 2, fOne), (24, fDec 1 1, fOfInt 5), (28, fDec 1 1, fOfInt 2),
             (32, fOne, fOfInt 15), (36, fDec 5 2, fOfInt 5), (40, fOne, fOfInt 60), (44, fZero, fOfInt 100), (48, fneg fMaxFin, fMaxFin)]
        && flt (f32At s 28) (f32At s 32) && gain (u16 s 16) && gain (u16 s 18)
    | 0xF0 => s.length == 4 && decide (u8 s 0 ≤ 1) && zeroAt s [(1, 3)]
    | _ => false

/-- The YLD POLICY (13 R351, R362, R363). -/
def Image.yldOk (im : Image) (b : List Byte) : Bool :=
  let inf := fneg fMaxFin
  policyOk b fun sid s => match sid with
    | 1 => s.length == 48 && fieldsOk s [(24, 2, 0, 300), (26, 2, 0, 300), (28, 1, 1, 6), (29, 1, 0, 0), (32, 1, 0, 1), (33, 1, 0, 1), (46, 2, 0, 0)]
        && floatsOk s [(4, inf, fMaxFin), (8, inf, fMaxFin), (12, fOfInt (-20), fOfInt 20), (16, fOfInt (-10), fOfInt 10), (20, fDec 1 1, fOfInt 20)]
        && (u32 s 0 == noRef || flt (f32At s 4) (f32At s 8))
        && (u16 s 30 == 0xFFFF || (match im.tableOf kFormat (u16 s 30) with
          | some f => u8 f 0 == 2 && u16 s 30 / 256 == 9
          | none => false))
    | 2 => s.length == 196 && decide (1 ≤ u16 s 0) && decide (u16 s 0 ≤ 16) && zeroAt s [(2, 2)] && recordsOk (s.drop 4) 16 12 fun k r =>
        if k < u16 s 0 then fieldsOk r [(4, 2, 100, 20000), (6, 2, 0, 0)] else allZero r
    | _ => false

/-! VIS. -/

/-- A CURVE of the pipeline: 1-D, I32, CLAMP (14 R371). -/
def Image.pixelCurve (im : Image) (id outMax : Nat) : Bool := match im.curve id with
  | some c => u8 c 0 == 1 && u8 c 3 == 1 && u8 c 2 == 0
      && (List.range (u8 c 4)).all fun i =>
        let z := Q.mul (Q.ofInt (i32 c (curveZOff c i 0))) (Q.ofF (scaleRaw 1 (i8 c 6)))
        decide (0 ≤ z.num) && decide (z.num ≤ outMax * z.den)
  | none => false

/-- The bit width of a data type (14 R367). -/
def dtBits (dt : Nat) : Nat := match dt with
  | 0x2B => 10
  | 0x2C => 12
  | 0x2D => 14
  | _ => 16

/-- The rate of a gear, in Mbit/s (14 R366). -/
def gearRate (g : Nat) : Nat := [0, 2000, 4000, 8000, 12000].getD g 0

/-- One record of PORTS (14 R366, R367, R371, R379, R387, R388). -/
def Image.portOk (im : Image) (r : List Byte) : Bool :=
  let w := u16 r 4
  let h := u16 r 6
  let us := u32 r 8
  let ow := u16 r 18
  let oh := u16 r 20
  let scale (a o : Nat) : Bool := o != 0 && decide (o ≤ a) && decide (a ≤ 8 * o)
  let gainCurve : Bool := u16 r 44 == 0xFFFF || im.curveDims 1 (u16 r 44)
  fieldsOk r [(0, 1, 0, 1), (1, 1, 1, 4), (2, 1, 0x2B, 0x2E), (3, 1, 1, 3), (4, 2, 64, 4096), (6, 2, 64, 3072), (8, 4, 8333, 1000000), (12, 1, 0, 1),
      (13, 1, 0, 1), (15, 1, 2, 8), (16, 1, 0, 3), (17, 1, 0, 3), (22, 1, 0, 127), (23, 1, 0, 15), (28, 2, 1000, 20000), (30, 1, 1, 3), (31, 1, 1, 2),
      (46, 2, 1, 65535), (48, 2, 0x100, 65535), (50, 2, 0x100, 65535), (58, 1, 0, 3), (59, 1, 0, 0), (62, 2, 0, 0)]
    && w % 2 == 0 && h % 2 == 0 && (if u8 r 13 = 1 then decide (1 ≤ u8 r 14) && decide (u8 r 14 ≤ 8) else u8 r 14 == 0)
    && scale w ow && scale h oh && decide (u16 r 48 ≤ u16 r 50) && gainCurve && im.pixelCurve (u16 r 52) 0xFFFFF && im.pixelCurve (u16 r 54) 4095
    && (u16 r 56 == 0xFFFF || (List.range 4).all fun k => im.curveDims 2 (u16 r 56 + k))
    && (u8 r 0 == 0 || decide (5 * dtBits (u8 r 2) * w * h * u8 r 3 ≤ 4 * gearRate (u8 r 1) * us))

/-- The limits of the pipelines and of DRAM over the enabled ports (01 R35; 14 R379). -/
def Image.pipesOk (im : Image) : Bool :=
  let rec_ (n : Nat) : List Byte := (im.record 0x0A01 0x0001 64 n).getD []
  let en (n : Nat) : Bool := u8 (rec_ n) 0 == 1
  (List.range 2).all fun p =>
    let load := im.visLoad p en
    let rate := im.visRate p en
    decide (load.num ≤ 1600 * load.den) && decide (rate.num ≤ 20000 * rate.den)
      && decide (((List.range 6).filter fun n => en n && u8 (rec_ n) 12 == p && u8 (rec_ n) 13 == 0).length ≤ 1)

/-- The VIS POLICY (14 R379, R387, R388). -/
def Image.visOk (im : Image) (b : List Byte) : Bool :=
  let port (n : Nat) : List Byte := (im.record 0x0A01 0x0001 64 n).getD []
  im.pipesOk && policyOk b fun sid s => match sid with
    | 1 => recordsOk s 6 64 fun _ r => im.portOk r
    | 2 => recordsOk s 6 64 fun _ r => decide (u16 r 10 < u16 r 12) && ((List.range 9).all fun k => fIsFin (f32At r (16 + 4 * k)))
             && decide (u8 r 52 ≤ 2) && zeroAt r [(14, 2), (53, 11)]
    | 3 => recordsOk s 6 32 fun _ r => fieldsOk r [(0, 1, 0, 3), (4, 4, 0, 0xFFFFF), (8, 4, 0, 0xFFFFF), (12, 4, 0, 0xFFFFF), (1, 3, 0, 0), (30, 2, 0, 0)]
    | 4 => decide (u16 s 0 ≤ 1024) && zeroAt s [(2, 2)] && recordsOk (s.drop 4) (u16 s 0) 12 fun _ r =>
             fieldsOk r [(0, 1, 0, 5), (1, 1, 1, 4), (8, 2, 0, 1000), (10, 2, 0, 0)]
    | 5 =>
      let p := port (u8 s 0)
      s.length == 32 && fieldsOk s [(0, 1, 0, 5), (1, 1, 0, 1), (2, 2, 1, 300)]
        && (s.drop 16).all (fun x => decide (x.toNat ≤ 7) || x == 0xFF)
        && u8 p 0 == 1 && u8 p 16 != 2 && decide (u16 s 4 + u16 s 8 ≤ u16 p 18) && decide (u16 s 6 + u16 s 10 ≤ u16 p 20)
    | _ => false

/-! VLV, PSW, COL. -/

/-- The VLV POLICY (15 R397, R411, R412). -/
def Image.vlvOk (im : Image) (b : List Byte) : Bool :=
  policyOk b fun sid s => match sid with
    | 1 => recordsOk s 48 36 fun n r => u8 r 0 == 0 || (fieldsOk r [(0, 1, 1, 2), (1, 1, 0, 31), (2, 1, 0, 3), (3, 1, 0, 0), (4, 2, 100, 5000),
        (6, 2, u16 r 4, 8000), (8, 2, 0, u16 r 4), (10, 2, 0, 600), (16, 4, 1000, 10000000), (28, 2, 10, 2000), (30, 2, 50, 1000),
        (32, 2, 0, 60000), (34, 2, 0, 0)] && (u8 r 0 != 1 || im.has kMicro (0x0B10 + n / 6)))
    | 0xF0 => absenceOk 48 1 s
    | 0xF1 => chargesOk 48 s
    | _ => false

/-- Class limits of a switch channel (16 R415): continuous and inrush current in 0.1 A, inrush window in ms. -/
def pswLimits (n : Nat) : Nat × Nat × Nat := if n < 8 then (250, 1200, 40) else if n < 24 then (100, 600, 20) else (30, 150, 20)

/-- The PSW POLICY (16 R428, R429). -/
def pswOk (b : List Byte) : Bool :=
  policyOk b fun sid s => match sid with
    | 1 => recordsOk s 40 32 fun n r =>
        let c := pswLimits n
        if u8 r 0 = 0 then !(u8 r 1).testBit 3
        else fieldsOk r [(0, 1, 1, 1), (1, 1, 0, 15), (2, 2, 1, c.1), (4, 2, u16 r 2, c.2.1), (6, 2, 1, c.2.2), (8, 2, 1, 1000),
          (10, 2, 0, 10 * u16 r 2), (12, 2, 10, 2000), (19, 1, 100, 160), (22, 2, 1, 3600), (26, 1, 120, 165), (27, 1, 0, 0), (28, 2, 0, 60000),
          (30, 2, 0, 0)] && (if (u8 r 1).testBit 0 then decide (1 ≤ u16 r 24) && decide (u16 r 24 ≤ 1000) else u16 r 24 == 0)
    | 0xF0 => absenceOk 40 2 s
    | 0xF1 => chargesOk 40 s
    | _ => false

/-- One term of a cooling channel (17 R433, R442). -/
def Image.coolTermOk (im : Image) (r : List Byte) (k : Nat) : Bool :=
  let id := u16 r (32 + 2 * k)
  let pct (x : F32) : Bool := fle fZero x && fle x (fOfInt 100)
  id == 0xFFFF || (u32 r (16 + 4 * k) != noRef && id / 256 == 0x0D && (match im.curve id with
    | some c =>
      let z (i : Nat) : F32 := if u8 c 3 = 0 then f32At c (curveZOff c i 0) else scaleRaw (i32 c (curveZOff c i 0)) (i8 c 6)
      let fb := curveFallback c
      u8 c 0 == 1 && u32 c 8 == noRef && u8 c 7 == 0 && pct fb && (List.range (u8 c 4)).all fun i => pct (z i) && fle (z i) fb
    | none => false))

/-- The COL POLICY (16 R429; 17 R433, R441, R442). -/
def Image.colOk (im : Image) (b : List Byte) : Bool :=
  let supplies := (List.range 8).filterMap fun n =>
    let r := (im.record 0x0D01 0x0001 40 n).getD []
    if u8 r 0 = 1 ∧ u8 r 14 ≠ 0xFF then some (u8 r 14) else none
  distinct supplies && policyOk b fun sid s => match sid with
    | 1 => recordsOk s 8 40 fun n r => u8 r 0 == 0 || (fieldsOk r [(0, 1, 1, 1), (1, 1, 0, 2), (2, 1, 0, 3), (3, 1, 0, 8), (4, 2, 10, 30000),
        (6, 2, 0, 500), (8, 2, 0, 1000), (10, 2, 100, 20000), (12, 2, 50, u16 r 10), (15, 1, 1, 255)]
        && (u8 r 14 == 0xFF || (decide (u8 r 14 < 40) && u8 ((im.record 0x0C01 0x0001 32 (u8 r 14)).getD []) 0 == 1))
        && ((List.range 4).all fun k => im.coolTermOk r k)
        && (u8 r 1 == 2) == ((im.boundBy 3 n 0).length == 1))
    | 0xF0 => absenceOk 8 1 s
    | 0xF1 => chargesOk 8 s
    | _ => false

/-! CAN, ETH, REC, UPD, DBG. -/

/-- A TIME record (18 R470, R471; 19 R490). -/
def Image.timeRecOk (im : Image) (s : List Byte) (n : Nat) (r : List Byte) : Bool :=
  let pairOf (k : Nat) : Nat := if k < 4 then k / 2 else k
  u8 r 0 == 0 || (u8 r 0 == 1 && zeroAt r [(1, 1), (6, 2)] && stepOk (u16 r 2) && decide (u16 r 4 < u16 r 2) && decide (u32 r 8 < 2 ^ 30)
    && !im.pairB n && (List.range n).all fun k =>
      let q := span s (12 * k) 12
      !(u8 q 0 == 1 && u32 q 8 == u32 r 8 && pairOf k == pairOf n))

/-- The reserved bits of NBT, DBT and TDC words at `o` are zero (18 R470, R473). -/
def timingOk (b : List Byte) (o : Nat) : Bool := u32 b o / 2 ^ 27 == 0 && u32 b (o + 4) / 2 ^ 18 == 0 && u32 b (o + 8) / 2 ^ 7 == 0

/-- The CAN POLICY (18 R468 to R471; 19 R490). -/
def Image.canPolicyOk (im : Image) (b : List Byte) : Bool :=
  let target (id t : Nat) : Bool := match im.tableOf kFormat id with
    | some f => u8 f 0 == t
    | none => false
  let listLen (s : List Byte) (hi n : Nat) : Bool := decide (u16 s 0 ≤ hi) && zeroAt s [(2, 2)] && s.length == 4 + n * u16 s 0
  policyOk b fun sid s => match sid with
    | 1 => recordsOk s 8 32 fun _ r => fieldsOk r [(0, 1, 0, 1), (1, 1, 0, 1), (2, 1, 0, 1), (3, 1, 0, 2), (4, 2, 0, 60000), (6, 1, 1, 255),
             (7, 1, 1, 64), (8, 2, 50, 5000), (10, 6, 0, 0)] && timingOk r 16 && u32 r 28 / 64 == 0
    | 2 => listLen s 8 12 && (List.range (u16 s 0)).all fun k => timingOk s (4 + 12 * k)
    | 3 => recordsOk s 8 12 fun n r => im.timeRecOk s n r
    | 4 => recordsOk s 8 16 fun n r => u16 r 0 == 0xFFFF
             || (im.has kState (u16 r 0) && u16 r 0 / 256 == 0x0E && zeroAt r [(2, 2), (12, 4)] && !im.pairB n)
    | 5 => listLen s 512 4 && (List.range (u16 s 0)).all fun k =>
        let r := span s (4 + 4 * k) 4
        decide (u8 r 0 < 8) && decide (u8 r 2 ≤ 254) && u8 r 3 == 0 && (match im.claimRec (u8 r 0) with
          | some c => match im.tableOf kState (u16 c 0) with
            | some t => decide (u8 r 1 < u16 t 0)
            | none => false
          | none => false)
    | 6 =>
      let n := u16 s 0
      decide (n ≤ 256) && zeroAt s [(2, 2)] && s.length == 4 + 4 * ((n + 1) / 2) && (n % 2 == 0 || u16 s (4 + 2 * n) == 0xFFFF)
        && (List.range n).all fun k => target (u16 s (4 + 2 * k)) 3
    | 7 => listLen s 256 8 && (List.range (u16 s 0)).all fun k =>
        let r := span s (4 + 8 * k) 8
        target (u16 r 0) 4 && zeroAt r [(2, 2)] && decide (u32 r 4 < 2 ^ 29)
    | _ => false

/-- One record of INTERFACES (19 R489). -/
def ifaceOk (r : List Byte) : Bool :=
  fieldsOk r [(0, 1, 0, 7), (1, 1, 0, 32), (2, 1, 0, 128), (3, 1, 0, 7), (6, 2, 0, 0)]
    && (if (u8 r 0).testBit 2 then decide (1 ≤ u16 r 4) && decide (u16 r 4 ≤ 4094) else u16 r 4 == 0)

/-- One record of PAIRS (19 R489, R490). -/
def Image.pairRecOk (im : Image) (p : Nat) (r : List Byte) : Bool :=
  let can (n : Nat) : List Byte := (im.record 0x0E01 0x0001 32 n).getD []
  let a := can (2 * p - 2)
  let c := can (2 * p - 1)
  let ethB : Bool := match im.record 0x0F01 0x0001 4 1 with
    | some x => u8 x 0 == 1
    | none => false
  fieldsOk r [(0, 1, 0, 1), (1, 1, 0, 1), (2, 1, 1, 20), (3, 1, 0, 0), (8, 2, 1, 15), (10, 2, 1, 1000), (12, 2, 10, if p = 0 then 1000 else 5000),
      (14, 2, 1, 600)]
    && (u16 r 4 == 0 || (decide (10 ≤ u16 r 4) && decide (u16 r 4 ≤ 10080) && decide (u16 r 6 < u16 r 4)))
    && (p == 0 || allZero (span r 16 16))
    && (u8 r 0 == 0 || (if p = 0 then ethB else u8 a 0 == 1 && u8 c 0 == 1 && span a 16 16 == span c 16 16))

/-- The ETH POLICY (19 R489, R490). -/
def Image.ethOk (im : Image) (b : List Byte) : Bool :=
  policyOk b fun sid s => match sid with
    | 1 => recordsOk s 7 4 fun n r => fieldsOk r [(0, 1, 0, 1), (1, 1, 0, if n < 2 then 3 else 0), (2, 1, 0, 1), (3, 1, 0, 0)]
    | 2 => recordsOk s 6 32 fun _ r => ifaceOk r
    | 3 => recordsOk s 3 32 fun p r => im.pairRecOk p r
    | _ => false

/-- The REC POLICY (20 R514). -/
def recPolicyOk (b : List Byte) : Bool :=
  policyOk b fun sid s => sid == 1 && s.length == 8 && fieldsOk s [(0, 2, 10, 3600), (2, 2, 1, 100), (4, 4, 0, 0)]

/-- The UPD POLICY (21 R534). -/
def updPolicyOk (b : List Byte) : Bool :=
  policyOk b fun sid s => sid == 1 && s.length == 8 && fieldsOk s [(4, 2, 10, 1000), (6, 2, 0, 0)]

/-- The DBG POLICY (22 R546): a HOLD bit only for a used channel. -/
def Image.dbgOk (im : Image) (b : List Byte) : Bool :=
  let used (tid len n : Nat) : Bool := u8 ((im.record tid 0x0001 len n).getD []) 0 != 0
  policyOk b fun sid s => sid == 1 && s.length == 16 && zeroAt s [(12, 4)]
    && ((setBits (leNat (span s 0 6)) 48).all fun n => used 0x0B01 36 n) && ((setBits (leNat (span s 6 5)) 40).all fun n => used 0x0C01 32 n)
    && ((setBits (u8 s 11) 8).all fun n => used 0x0D01 40 n)

/-- A POLICY table is valid under the rules of its block's chapter. -/
def Image.policyValid (im : Image) (id : Nat) (b : List Byte) : Bool :=
  match id / 256 with
  | 0x00 => if id = 2 then im.sysOk b else dieOkPolicy b
  | 0x01 => hstOk b
  | 0x02 => im.snsOk b
  | 0x03 => im.flwOk b
  | 0x04 => im.lopOk b
  | 0x05 => im.prfOk b
  | 0x06 => im.navOk b
  | 0x07 => im.timOk b
  | 0x08 => im.strOk b
  | 0x09 => im.yldOk b
  | 0x0A => im.visOk b
  | 0x0B => im.vlvOk b
  | 0x0C => pswOk b
  | 0x0D => im.colOk b
  | 0x0E => im.canPolicyOk b
  | 0x0F => im.ethOk b
  | 0x10 => recPolicyOk b
  | 0x11 => updPolicyOk b
  | _ => im.dbgOk b

end Sys2Proof.Machine
end

