-- ==== Sys2Proof/Machine/ImgCheck.lean ====
section
/-! DEFINITION. The content and agreement checks of an image as a whole (03 R76 codes 0x0C and 0x0D). -/

namespace Sys2Proof.Machine

/-- The 32-bit fields at an offset of every record of a section. -/
def recRefs (s : List Byte) (first count len : Nat) (offs : List Nat) : List Nat :=
  ((List.range count).map fun k => offs.map fun o => u32 s (first + len * k + o)).flatten

/-- The SIGREFs of a POLICY section, by POLICY and section ID. -/
def sectionRefs (tid sid : Nat) (s : List Byte) : List Nat :=
  match tid, sid with
  | 0x0002, 3 => [u32 s 0]
  | 0x0301, 1 => [u32 s 44]
  | 0x0401, 1 => recRefs s 0 128 48 [16, 20, 24, 28]
  | 0x0501, 2 => recRefs s 0 48 112 [8, 12, 16, 64, 76, 88, 100]
  | 0x0701, 3 => [u32 s 52]
  | 0x0801, 1 => [u32 s 52, u32 s 56]
  | 0x0901, 1 => [u32 s 0]
  | 0x0901, 2 => recRefs s 4 16 12 [0]
  | 0x0B01, 1 => recRefs s 0 48 36 [20, 24]
  | 0x0D01, 1 => recRefs s 0 8 40 [16, 20, 24, 28]
  | 0x1101, 1 => [u32 s 0]
  | _, _ => []

/-- The SIGREFs that a table holds (04 R100). -/
def tableRefs (t : Table) : List Nat :=
  let b := t.body
  match t.kind with
  | 1 => [u32 b 8, u32 b 12]
  | 2 => (stateGuards b).map (fun g => u32 g 0) ++ (stateActions b).map (fun a => u32 a 4)
           ++ (List.range (u16 b 2)).filterMap fun k =>
             let o := 16 + 8 * u16 b 0 + 16 * k
             if u8 b (o + 2) = 2 ∨ u8 b (o + 2) = 3 then some (u32 b (o + 4)) else none
  | 3 => recRefs b 24 (u16 b 2) 24 [0]
  | 8 => ((policySections b).map fun p => sectionRefs t.id p.1 p.2).flatten
  | _ => []

/-- The f̄ signal that COMBINE never computes (07 R210), where it ignores a bridge. -/
def Image.ignoredRef (im : Image) : Option Nat :=
  match im.fieldOr 0x0301 0x0001 (fun b => u8 b 0) 0 with
  | 0 => some 0x03010005
  | 1 => some 0x03010004
  | _ => none

/-- The content of a table is valid under the rules of its chapter (03 R76, code 0x0C). -/
def Image.tableValid (im : Image) (t : Table) : Bool :=
  (match t.kind with
    | 1 => curveOk t.body
    | 2 => im.stateOk t.id t.body
    | 3 => im.formatOk t
    | 4 => im.lawOk t.id t.body
    | 5 => im.microOk t.id t.body
    | 6 => classmapOk t.body
    | 7 => pinmapOk t.body
    | _ => im.policyValid t.id t.body)
  && (match im.ignoredRef with
    | some r => !(tableRefs t).contains r
    | none => true)

/-- Whether power-up checks the initial values of group `g`: of every configured unit whose values the image gives (03 R76; 08 R239; 09 R253,
R266; 14 R388; 18 R470, R471).  The guidance line of 0x0800 has none, and a camera's or controller's are those of its section. -/
def Image.checksGroup (im : Image) (g : Nat) : Bool :=
  im.groupUnit g && (match g / 256 with
    | 0x08 => false
    | 0x0A => (im.sect 0x0A01 0x0003).isSome || u8 ((im.record 0x0A01 0x0001 64 (g % 256)).getD []) 0 == 1
    | 0x0E => (im.sect 0x0E01 0x0001).isSome
    | _ => true)

/-- Every commit group's ID, in ascending order (24 R568). -/
def groupIds : List Nat :=
  [0x0001, 0x0300, 0x0301] ++ (List.range 128).map (0x0400 + ·) ++ (List.range 128).map (0x0500 + ·) ++ [0x0600, 0x0800, 0x0900]
    ++ (List.range 6).map (0x0A00 + ·) ++ (List.range 48).map (0x0B00 + ·) ++ (List.range 40).map (0x0C00 + ·) ++ (List.range 8).map (0x0E00 + ·)

/-- The POLICY of the block that owns a group. -/
def groupPolicy (g : Nat) : Nat := if g / 256 = 0 then 0x0002 else g / 256 * 256 + 1

/-- FLW_LS_EN as the image first sets it (07 R209). -/
def Image.lsEnInit (im : Image) : Nat :=
  ((List.range 16).map fun n => if u8 ((im.record 0x0301 0x0003 16 n).getD []) 6 = 1 then 2 ^ n else 0).foldl (· + ·) 0

/-- The first group, in ascending order, whose initial values break a rule, with the rule (03 R76, code 0x0D). -/
def Image.groupBroken (im : Image) : Option (Nat × Nat) :=
  groupIds.findSome? fun g =>
    if im.checksGroup g then (im.ruleBroken im.lsEnInit g (shBase im)).map fun r => (g, r) else none

/-- The first failing check of code 0x0C or 0x0D: the first table in ascending order whose content is invalid, then the first group whose
initial values break a rule. -/
def Image.invalid (im : Image) : Option SlotErr :=
  match im.tables.find? fun t => !im.tableValid t with
  | some t => some ⟨0x0C, t.id, 0⟩
  | none => im.groupBroken.map fun p => ⟨0x0D, groupPolicy p.1, p.2⟩

end Sys2Proof.Machine
end

