-- ==== Sys2Proof/Machine/Supply.lean ====
section
/-! DEFINITION. The supply states (02 R47 to R55), the orderly shutdown (02 R52) and the power-down. -/

namespace Sys2Proof.Machine

/-! The supply monitor (02 R47, R54). -/

/-- A sense input with the hysteresis of R54. -/
def sense (old : Bool) (mv : Nat) : Bool := if 5000 < mv then true else if mv < 3000 then false else old

/-- The input of the logic front end apart from the store (02 R47, R48): the higher of VLOG and the VBAT bus, in mV. -/
def SupplyIn.feed (m : SupplyIn) : Nat := max m.vlog (max (max m.vb1 m.vb2) (max m.vb3 m.vb4))

/-- One measurement of the supply monitor (02 R47, R49, R54), with the end of a Whippet hold that IGN brings (10 R286). -/
def State.monitor (s : State) (m : SupplyIn) : State :=
  let p := s.pwr
  let wake := sense p.wake m.wake
  let off := decide (m.ign < 3000) && !wake
  let s1 : State := { s with pwr := { p with
    mon := m, ign := sense p.ign m.ign, wake := wake, holdUp := if m.feed < 3000 then p.holdUp else none,
    storeFull := if p.holdUp.isSome && decide (3000 ≤ m.feed) then some s.clk.opt else p.storeFull,
    ignOffSince := if off then some (p.ignOffSince.getD s.clk.opt) else none } }
  if 5000 < m.ign ∧ s1.nav.whip = .hold then s1.leaveWhippet true else s1

/-- The counts of ticks over which the conditions of R49 and R286 have held, at a tick (02 R49, R55). -/
def State.supplyTick (s : State) : State :=
  let p := s.pwr
  let vs := s.vs
  let crank := p.supply == .crank
  let ct := if crank && decide (vs < 6000) then p.crankTicks + 1 else p.crankTicks
  let low := s.nav.whip == .hold && decide (vs < s.img.vMin)
  { s with
    pwr := { p with
      crankTicks := ct, crankMax := if p.crankMax.toNat < ct / 20 then satNat 16 (ct / 20) else p.crankMax,
      uvTicks := if (crank && decide (vs < 3500)) || (p.supply == .powerup && decide (vs < 6000)) then p.uvTicks + 1 else 0,
      okTicks := if crank && decide (6500 ≤ vs) then p.okTicks + 1 else 0,
      ovOkTicks := if p.supply == .overvolt && decide (vs ≤ 35000) then p.ovOkTicks + 1 else 0 },
    nav := { s.nav with lowSince := if low then some (s.nav.lowSince.getD s.clk.opt) else none } }

/-- A row of the supply table (02 R49). -/
inductive SupplyRow where
  | none | crankEntry | overvoltEntry | crankExit | undervolt | timeout | overvoltExit | ignOff
deriving DecidableEq, Repr

/-- Whether the row of IGN-off holds at OPT `o`. -/
def State.ignOffDue (s : State) (o : Opt) : Bool :=
  (match s.pwr.ignOffSince with
    | some t => decide (t + s.img.ignOffDelay ≤ o)
    | none => false) && s.nav.whip != .hold

/-- The first row of the state in force that holds (02 R49).  10 ms held continuously are 200 ticks after the first. -/
def State.supplyRow (s : State) (o : Opt) : SupplyRow :=
  let off : SupplyRow := if s.ignOffDue o then .ignOff else .none
  match s.pwr.supply with
  | .normal => if s.vs < 6000 then .crankEntry else if 36000 < s.vs then .overvoltEntry else off
  | .overvolt => if s.vs < 6000 then .crankEntry else if 200 < s.pwr.ovOkTicks then .overvoltExit else off
  | .crank =>
    if 200 < s.pwr.okTicks then .crankExit else if 2 ≤ s.pwr.uvTicks then .undervolt
    else if 4000 ≤ s.pwr.crankTicks then .timeout else off
  | _ => .none

/-! The orderly shutdown (02 R52). -/

/-- Loops stop (02 R52). -/
def State.loopsStop (s : State) : State :=
  { s with lop := { s.lop with slot := s.lop.slot.map fun (c : Slot) => { c with job := none } } }

/-- The steps of the shutdown up to its 20 ms row (02 R52): admissions close, every queued request is refused, the dies take their
safe states, WAKE_OUT goes off, loops stop, a calibration run is aborted (07 R194), and the mapper and the recorder close what they hold. -/
def State.shutdownSteps (s : State) : State :=
  let s1 : State := { s with bud := { s.bud with isOpen := false, openNext := false, passTick := none } }
  let s2 := (s1.bud.reqs.map StartReq.src).foldl State.refuseReq s1
  let s3 := s2.settleAll s2.clk.opt
  let s4 : State := { s3 with wake := { s3.wake with out := false, wait := false } }
  s4.loopsStop.calAbort.yieldShutdown.recShutdown

/-- Entering SHUTDOWN with a reason of R54; sessions end (05 R135) and Whippet is left (10 R286). -/
def State.shutdown (s : State) (reason : Nat) : State :=
  if s.pwr.supply = .off ∨ s.pwr.supply = .shutdown then s
  else
    let s1 : State := { s with pwr := { s.pwr with supply := .shutdown, shdnReason := BitVec.ofNat 4 reason } }
    let s2 := (s1.leaveWhippet false).shutdownSteps
    (List.range 8).foldl (fun t i => if (t.sess i).isOpen then t.endSession i else t) s2

/-- The logic powers down: what flash, UFS and the standby rail keep stays, the rest is as after a reset (02 R49, R52). -/
def State.off (s : State) : State :=
  { State.reset with
    pwr := { PwrSt.reset with mon := s.pwr.mon, ign := s.pwr.ign, wake := s.pwr.wake },
    flash := s.flash, bootRec := s.bootRec, journal := s.journal, fw := s.fw, setSlots := s.setSlots, store := s.store,
    rcd := s.rcd.keep, tim := { TimSt.reset with epoch := s.tim.epoch }, hst := { HstSt.reset with draws := s.hst.draws },
    free := s.free, out := s.out, pending := s.pending }

/-- The reason stored at the end of a power cycle (02 R52, R54). -/
def State.writeReason (s : State) (reason : BitVec 4) : State := { s with flash := { s.flash with shdn := .reason reason } }

/-! The steps. -/

/-- SUPPLY_CONNECT (02 R47, R49): the standby rail comes up and the monitor starts. -/
def execSupplyConnect (m : SupplyIn) (s : State) : Out :=
  let s := s.start
  .next (if s.pwr.supply = .off then s.monitor m else s)

/-- IGN_WAKE_CHANGE (02 R49, R54; 10 R286). -/
def execIgnWakeChange (o : Opt) (m : SupplyIn) (s : State) : Out :=
  let s := s.begin o
  .next (if s.pwr.supply = .off then s else s.monitor m)

/-- POWERUP_UNDERVOLT (02 R47, R49): VS below 6.0 V for 10 ms in POWERUP, that is at 200 measurements of the monitor and at this one. -/
def execPowerupUndervolt (o : Opt) (m : SupplyIn) (s : State) : Out :=
  let s := (s.begin o).monitor m
  .next (if s.pwr.supply = .powerup ∧ s.vs < 6000 ∧ 200 ≤ s.pwr.uvTicks then s.off else s)

/-- CRANK_ENTRY (02 R49, R55, R63; 10 R286). -/
def execCrankEntry (o : Opt) (s : State) : Out :=
  let s := s.begin o
  .next (if s.supplyRow o = .crankEntry then
      (({ s with
        pwr := { s.pwr with supply := .crank, crankTicks := 0, uvTicks := 0, okTicks := 0, cranked := true, crankCnt := satInc s.pwr.crankCnt },
        bud := { s.bud with isOpen := false, openNext := false } } : State).leaveWhippet false).notice 0x0008 0x00 0 fZero
    else s)

/-- CRANK_EXIT (02 R49, R63). -/
def execCrankExit (o : Opt) (s : State) : Out :=
  let s := s.begin o
  .next (if s.supplyRow o = .crankExit then
      { s with pwr := { s.pwr with supply := .normal, crankTicks := 0, uvTicks := 0, okTicks := 0 }, bud := { s.bud with openNext := true } }
    else s)

/-- CRANK_TIMEOUT (02 R49). -/
def execCrankTimeout (o : Opt) (s : State) : Out :=
  let s := s.begin o
  .next (if s.supplyRow o = .timeout then s.shutdown 2 else s)

/-- CRANK_UNDERVOLT (02 R49). -/
def execCrankUndervolt (o : Opt) (s : State) : Out :=
  let s := s.begin o
  .next (if s.supplyRow o = .undervolt then s.shutdown 1 else s)

/-- OVERVOLT_ENTRY (02 R49, R51). -/
def execOvervoltEntry (o : Opt) (s : State) : Out :=
  let s := s.begin o
  .next (if s.supplyRow o = .overvoltEntry then
      { s with pwr := { s.pwr with supply := .overvolt, ovOkTicks := 0, ovv := true } }.notice 0x0009 0x00 0 (fRat s.vs 1000)
    else s)

/-- OVERVOLT_EXIT (02 R49). -/
def execOvervoltExit (o : Opt) (s : State) : Out :=
  let s := s.begin o
  .next (if s.supplyRow o = .overvoltExit then { s with pwr := { s.pwr with supply := .normal, ovOkTicks := 0 } } else s)

/-- IGN_OFF_DELAY_EXPIRY (02 R49; 10 R286): SHUTDOWN, or a Whippet hold where one is configured and VS allows it. -/
def execIgnOffDelayExpiry (o : Opt) (s : State) : Out :=
  let s := s.begin o
  .next (if s.supplyRow o ≠ .ignOff then s
    else if s.nav.whip = .normal ∧ 0 < s.img.holdS ∧ s.img.vMin ≤ s.vs ∧ s.runs rNAV then s.enterWhippet .hold
    else s.shutdown 3)

/-- WHIPPET_HOLD_END (10 R286): the hold is withdrawn, and SHUTDOWN follows under R49. -/
def execWhippetHoldEnd (o : Opt) (s : State) : Out :=
  let s := s.begin o
  let low := match s.nav.lowSince with
    | some t => decide (t + 1000000000 ≤ o)
    | none => false
  .next (if s.nav.whip = .hold ∧ (s.nav.holdSince + s.img.holdS * 1000000000 ≤ o ∨ low = true) then
      let t := s.leaveWhippet false
      if t.ignOffDue o then t.shutdown 3 else t
    else s)

/-- SHUTDOWN_COMPLETE (02 R52, R54): the reason is written, then the logic powers down. -/
def execShutdownComplete (o : Opt) (s : State) : Out :=
  let s := s.begin o
  .next (if s.pwr.supply = .shutdown then (s.writeReason s.pwr.shdnReason).off else s)

/-- HOLD_UP_TAKEOVER (02 R48). -/
def execHoldUpTakeover (o : Opt) (m : SupplyIn) (s : State) : Out :=
  let s := (s.begin o).monitor m
  .next (if s.pwr.supply ≠ .off ∧ m.feed < 3000 then { s with pwr := { s.pwr with holdUp := some (s.pwr.holdUp.getD s.clk.opt) } } else s)

/-- Whether the store was full when it took over: charged for 350 ms since POWERUP, or 1.5 s since a discharge (23 R552). -/
def State.storeWasFull (s : State) (t : Opt) : Bool :=
  match s.pwr.storeFull with
  | none => decide (350000000 ≤ t)
  | some d => decide (d + 1500000000 ≤ t)

/-- HOLD_UP_EXHAUSTED (02 R48, R54): the logic powers down with the marker still stored.  A store that was full carries the logic for at
least 120 ms. -/
def execHoldUpExhausted (s : State) : Out :=
  let s := s.start
  match s.pwr.holdUp with
  | none => .next s
  | some t => .next (if s.storeWasFull t ∧ s.clk.opt < t + 120000000 then s else s.off)

/-- SVC_EN_CHANGE (03 R70). -/
def execSvcEnChange (o : Opt) (strapped : Bool) (s : State) : Out :=
  let s := s.begin o
  .next (if s.pwr.supply = .off then s else { s with boot := { s.boot with svcEn := strapped } })

end Sys2Proof.Machine
end

