-- ==== Sys2Proof/Machine/PowerUp.lean ====
section
/-! DEFINITION. Power-up (03 R67 to R76; 01 R27, R30; 21 R519, R532): the boot record, the firmware and the configuration slot, the
image, and the start of the regions. -/

namespace Sys2Proof.Machine

/-- The boot record written: its generation goes up with every write (21 R518). -/
def State.writeBoot (s : State) (f : BootRec → BootRec) : State :=
  { s with bootRec := { f s.bootRec with gen := s.bootRec.gen + 1 } }

/-- The CONFIRMED bits of the trial slots cleared. -/
def BootRec.unconfirm (r : BootRec) : BootRec :=
  let fw : BitVec 4 := if r.fwTrial then (if r.fwActive then 1 else 2) else 0
  let cfg : BitVec 4 := if r.cfgTrial then (if r.cfgActive then 4 else 8) else 0
  { r with confirmed := r.confirmed &&& ~~~ (fw ||| cfg) }

/-- What the boot code does with the boot record (21 R519): it falls back, begins a trial boot, or boots the active slots.  A trial that
cannot be booted falls back at once. -/
def State.bootDecide (s : State) (trialOk : Bool) : State :=
  let r := s.bootRec
  let trial := r.fwTrial || r.cfgTrial
  if r.migrateFail ∨ r.reject ∨ (trial ∧ r.trialCnt = 3) ∨ (r.fwTrial ∧ trialOk = false) then
    let res := if r.migrateFail then 3 else if r.reject then 4 else 2
    let s1 := s.writeBoot fun x => { x.unconfirm with
      fwTrial := false, cfgTrial := false, migrateFail := false, reject := false, trialCnt := 0, lastResult := res }
    { s1 with journal := { s1.journal with state := .fallback, committed := none },
              updt := { s1.updt with note := some (if res = 3 then 0x0046 else 0x0045, 0) } }
  else if trial then
    let s1 := s.writeBoot fun x => { x with trialCnt := x.trialCnt + 1 }
    { s1 with journal := { s1.journal with state := .trial, committed := none },
              updt := { s1.updt with trialBoot := true, note := some (0x0043, r.trialCnt + 1) } }
  else s

/-- The firmware slot in force on this boot. -/
def State.fwSlot (s : State) : Nat := if s.bootRec.fwActive != (s.bootRec.fwTrial && s.updt.trialBoot) then 1 else 0
/-- The firmware in force. -/
def State.firmware (s : State) : FwSlot := rd s.fw s.fwSlot

/-- Step 1 (03 R67): everything volatile starts anew and OPT counts from 0; the straps are read and set the shutdown threshold (02 R39). -/
def State.powerStep1 (s : State) (p : PowerIn) : State :=
  let z := s.off
  { z with
    pwr := { z.pwr with supply := .powerup, mon := p.m, ign := sense z.pwr.ign p.m.ign, wake := sense z.pwr.wake p.m.wake },
    regions := Vector.replicate 10 { Region.reset with st := .boot, clkOk := true, railOk := true },
    boot := { BootSt.reset with strap := p.strap, svcEn := p.svcEn, svcHold := p.svcEn },
    col := { z.col with shdn := { z.col.shdn with code := p.strap, thresh := BitVec.ofNat 8 (100 + 5 * p.strap.toNat) } },
    journal := { z.journal with parts := z.journal.parts.map fun (x : PartRx) => { x with tablePieces := [], chunks := [] } },
    updt := { z.updt with members := List.replicate (if z.journal.state = .idle then 0 else mfMembers z.journal.manifest) MemberSt.fresh } }

/-- Step 2 (03 R67; 02 R54; 21 R519): the serial, the boot record and the vendor signatures; whether it succeeded. -/
def State.powerStep2 (s : State) (p : PowerIn) : Bool × State :=
  let s1 : State := ({ s with boot := { s.boot with serial := s.flash.serial } } : State).bootDecide p.trialFwOk
  let ok := if s1.bootRec.fwTrial && s1.updt.trialBoot then p.trialFwOk else p.fwOk
  if ok = false then (false, { s1 with boot := { s1.boot with failed2 := some s1.clk.opt } })
  else
    let last : BitVec 4 := match s1.flash.shdn with
      | .none => 0
      | .openMark => 7
      | .reason c => c
    (true, { s1 with pwr := { s1.pwr with lastShdn := last },
                     flash := { s1.flash with shdn := .openMark, bootCount := s1.flash.bootCount + 1 } })

/-- The key that die `n` is held to (01 R30; 03 R88): the device certificate's, and for D2 the fused one. -/
def FlashSt.boundKey (f : FlashSt) (n : Nat) : List Byte :=
  match n with
  | 0 => f.devCert.d0Key
  | 1 => f.devCert.dieKeys.getD 0 []
  | 2 => f.d2Key
  | k => f.devCert.dieKeys.getD (k - 2) []

/-- Whether die `n` passes its check (01 R30): its answer verifies, and its key is the bound or fused one. -/
def State.diePasses (s : State) (p : PowerIn) (n : Nat) : Bool := p.answers.getLsbD n && rd s.flash.dieKey n == s.flash.boundKey n

/-- Step 3 (01 R30; 03 R67, R69, R88): the dies' checks, and the device and owner certificates against the vendor root. -/
def State.powerStep3 (s : State) (p : PowerIn) : State :=
  let ok := ((List.range 7).map fun n => if s.diePasses p n then 2 ^ n else 0).foldl (· + ·) 0
  let bad := (List.range 7).find? fun n => !s.diePasses p n
  { s with boot := { s.boot with dieOk := BitVec.ofNat 7 ok, devCert := p.devCertOk, owner := s.flash.ownerCert.isSome && p.ownerOk,
                                 failDie := BitVec.ofNat 4 (bad.getD 15), checked := true } }

/-- The settings as a migration to version `want` leaves them (21 R532): the fields stay, their values are the migration's. -/
def Settings.migrate (x : Settings) (want : Word) : Settings :=
  let f := Config.migrated x.ver want
  { ver := want, z0 := f 0 x.z0, z1 := f 1 x.z1, aT := f 2 x.aT,
    cal := x.cal.map fun c => (c.1, f 3 c.2),
    lagEst := x.lagEst.map fun c => (c.1, (f 4 (BitVec.ofNat 32 c.2)).toNat),
    calGen := (f 5 (x.calGen.setWidth 32)).setWidth 16 }

/-- The settings that a boot uses (21 R532): the slot, whether it was found, and the stores after a migration. -/
def State.chooseSettings (s : State) (p : PowerIn) : Bool × State :=
  let k := if s.bootRec.setActive then 1 else 0
  let other := 1 - k
  let use (t : State) (i : Nat) : State := { t with updt := { t.updt with setUsed := i == 1, settingsOk := true } }
  let cur := rd s.setSlots k
  let want := s.firmware.schema
  if s.updt.trialBoot = false then (true, use s k)
  else if cur.1.ver = want then (true, use s k)
  else if want.toNat < cur.1.ver.toNat then (false, s)
  else if (rd s.setSlots other).1.ver = want ∧ (rd s.setSlots other).2 = s.bootRec.manifestId then (true, use s other)
  else if p.migrateOk then
    (true, use { s with setSlots := put s.setSlots other (cur.1.migrate want, s.bootRec.manifestId) } other)
  else (false, s)

/-- The bytes of a configuration slot: 0 for A, 1 for B. -/
def State.cfgBytes (s : State) (k : Bool) : List Byte := if k then s.flash.slotB else s.flash.slotA

/-- The checks of R76 on a configuration slot, code 0x0E with the settings in use. -/
def State.checkSlot (s : State) (k : Bool) : Except SlotErr Image :=
  match parseSlot s.flash.ownerCert (s.cfgBytes k) with
  | .error e => .error e
  | .ok im => match im.invalid with
    | some e => .error e
    | none => if im.settingsVer = s.settings.ver then .ok im else .error ⟨0x0E, 0, 0⟩

/-- A slot refused: its code is reported. -/
def State.slotRefused (s : State) (e : SlotErr) : State :=
  { s with boot := { s.boot with
      cfgErr := BitVec.ofNat 8 e.code, errTable := if 9 ≤ e.code ∧ e.code ≤ 13 then BitVec.ofNat 16 e.table else 0,
      errRule := if e.code = 13 then BitVec.ofNat 16 e.rule else 0 } }

/-- Step 6 for the channels and contacts (01 R28; 02 R42, R59; 03 R67, R68; 15 R411; 16 R428; 17 R441): the image's enables and programs,
every used channel in its safe state with its output off, the supplies of option 0x71 on, and WAKE_CMD at INIT. -/
def State.loadChannels (s : State) : State :=
  let pEn := ((List.range 40).map fun n => if s.pswUsed n && (u8 (s.pswRec n) 1).testBit 3 then 2 ^ n else 0).foldl (· + ·) 0
  let cEn := ((List.range 8).map fun n => if s.colUsed n && (u8 (s.colRec n) 2).testBit 0 then 2 ^ n else 0).foldl (· + ·) 0
  let sup := mapIdxV s.sns.sup fun k (c : SupCh) => if s.img.pinOr 2 (117 + k) 0x70 = 0x71 then { c with live := .on } else c
  let init := s.img.fieldOr 0x0002 0x0003 (fun b => u32 b 0 == noRef && u8 b 4 == 1) false
  { s with
    psw := { s.psw with en := BitVec.ofNat 40 pEn, ch := mapIdxV s.psw.ch fun n (c : PswCh) =>
      { c with enF := pEn.testBit n, safe := s.pswUsed n } },
    col := { s.col with en := BitVec.ofNat 8 cEn, ch := mapIdxV s.col.ch fun n (c : ColCh) =>
      { c with enF := cEn.testBit n, safe := s.colUsed n } },
    vlv := { s.vlv with ch := mapIdxV s.vlv.ch fun n (c : VlvCh) =>
      { c with prog := u8 (s.vlvRec n) 1, holdTol := (u8 (s.vlvRec n) 2).testBit 0, safe := s.vlvMode n != 0 } },
    sns := { s.sns with sup := sup },
    wake := { s.wake with reg := init } }

/-- A slot accepted: its image comes into force (03 R71, R94). -/
def State.slotTaken (s : State) (k trial fallback : Bool) (im : Image) : State :=
  ({ s with img := im, boot := { s.boot with cfgSlot := k, trial := trial, fallback := fallback, cfgVer := im.imageVer } } : State).loadChannels

/-- Steps 4 to 6: the choice of the configuration slot (03 R71). -/
def State.chooseSlot (s : State) : State :=
  let act := s.bootRec.cfgActive
  let trial := s.bootRec.cfgTrial && s.updt.trialBoot
  let first := if trial then !act else act
  let second := !first
  let mayFall := trial || s.bootRec.confirmed.getLsbD (if second then 3 else 2)
  match s.checkSlot first with
  | .ok im => s.slotTaken first trial false im
  | .error e =>
    let s1 := s.slotRefused e
    if mayFall then
      match s1.checkSlot second with
      | .ok im => s1.slotTaken second false true im
      | .error e2 => let s2 := s1.slotRefused e2; { s2 with boot := { s2.boot with noImage := true } }
    else { s1 with boot := { s1.boot with noImage := true } }

/-- One run of the power-up sequence up to the end of step 6; true where a failed settings migration asks for a reset. -/
def State.powerRun (s : State) (p : PowerIn) : Bool × State :=
  let s1 := s.powerStep1 p
  let (ok, s2) := s1.powerStep2 p
  if ok = false then (false, s2)
  else
    let s3 := s2.powerStep3 p
    let (found, s4) := s3.chooseSettings p
    if found then (false, s4.chooseSlot)
    else (true, (((s4.notice 0x0046 0x11 0 fZero).writeBoot fun r => { r with migrateFail := true }).writeReason 6).send .moduleReset)

/-- The power-up sequence (03 R67): a failed migration resets the module, and the boot after it falls back (21 R519, R532). -/
def State.powerUp (s : State) (p : PowerIn) : State :=
  let (again, s1) := s.powerRun p
  if again then (s1.powerRun p).2 else s1

/-- The state machines in their initial states (04 R108, R116). -/
def State.smStart (s : State) : State :=
  { s with sm := Vector.ofFn fun (i : Fin 64) =>
      if i.val < s.img.machines.length then
        let b := s.img.smBody i.val
        { SmSt.reset with state := BitVec.ofNat 8 (smInit b), prevState := BitVec.ofNat 8 (smInit b),
                          vars := (List.range (smV b)).map fun k => f32At b (smVarAt b k) }
      else SmSt.reset }

/-- The switch channels whose safe state is ON request their turn-on as the supply state becomes NORMAL (03 R68); the safe states that are
no start events wait for the first tick in NORMAL. -/
def State.channelsStart (s : State) : State :=
  let t := (List.range 40).foldl (fun u n => if u.pswUsed n then u.pswApply n u.clk.opt else u) s
  { t with boot := { t.boot with safeDue := true } }

/-- The loss channels' initial enables (07 R209). -/
def State.lossStart (s : State) : State :=
  let en := ((List.range 16).map fun n => match s.img.record 0x0301 0x0003 16 n with
    | some b => if u8 b 6 = 1 then 2 ^ n else 0
    | none => 0).foldl (· + ·) 0
  { s with flw := { s.flw with lsEn := BitVec.ofNat 16 en } }

/-- The recorder's first set opens (20 R503, R504). -/
def State.recStart (s : State) : State :=
  { s with rcd := { s.rcd with openSet := s.newSet, atBound := false, passed := false, bound := s.gridAt s.clk.opt / (s.recInterval * 1000000000), first := true } }

/-- The regions at step 7 (01 R27; 03 R71), and the service cores, which have no enable register and run with SVC (log 97).  CLK_OK and
RAIL_OK stay as they are in regions that read OFF in NO_IMAGE (log 98). -/
def State.regionsStart (s : State) : State :=
  let no := s.boot.noImage
  { s with boot := { s.boot with core := s.boot.core.map fun (c : CoreSt) => { c with en := true } }, regions := mapIdxV s.regions fun n (r : Region) =>
      { r with st := if no then (if n = rSVC ∨ n = rNET then .run else if n < 6 then .off else .boot) else .run } }

/-- Every block applies its HOST_ABSENCE section (05 R161; 04 R129). -/
def State.hostAbsent (s : State) : State :=
  let s1 := ((s.lopAbsent.pswAbsent).vlvAbsent).colSheepdog true
  let s2 := if s1.img.fieldOr 0x0801 0x00F0 (fun b => u8 b 0) 0 = 1 then s1.updStr fun t => { t with hostOff := true } else s1
  { s2 with prf := { s2.prf with absentEdge := true, returnEdge := false } }

/-- Step 7 with an image: every block starts (03 R67), under its HOST_ABSENCE behaviour (05 R161). -/
def State.blocksStart (s : State) : State :=
  let s1 := s.smStart.lossStart.lopStart.navStart.yieldStart
  let s2 : State := { s1 with tim := { s1.tim with delay := s1.img.cableDelay, delayWant := s1.img.cableDelay },
                              sns := { s1.sns with start := s1.clk.opt }, clk := { s1.clk with running := true, tickOpt := 0 } }
  ((s2.visStart.canStartup.ethStart).canPairsStart.hostAbsent).channelsStart

/-- IGN_ON (02 R49; 03 R67): from OFF, 50 ms after the last entry into it. -/
def execIgnOn (p : PowerIn) (s : State) : Out :=
  let s := s.start
  let m := p.m
  let vs := min (min m.vb1 m.vb2) (min m.vb3 m.vb4)
  .next (if s.pwr.supply = .off ∧ (5000 < m.ign ∨ sense s.pwr.wake m.wake = true) ∧ 6500 ≤ vs ∧ 50000000 ≤ p.sinceOff then s.powerUp p else s)

/-- POWERUP_RETRY (03 R69): 1 s after a failure in step 2. -/
def execPowerupRetry (p : PowerIn) (s : State) : Out :=
  let s := s.start
  .next (if s.pwr.supply = .powerup ∧ s.boot.failed2.isSome then s.powerUp p else s)

/-- POWERUP_COMPLETE (02 R49; 03 R67, R68; 01 R27): step 7. -/
def execPowerupComplete (o : Opt) (s : State) : Out :=
  let s := s.begin o
  if s.pwr.supply ≠ .powerup ∨ s.boot.failed2.isSome then .next s
  else
    let s1 : State := { s with pwr := { s.pwr with supply := .normal }, bud := { s.bud with openNext := true },
                               updt := { s.updt with normalSince := some o } }
    let s2 := s1.regionsStart.recStart
    let s3 := if s2.boot.noImage then s2.ethStart else s2.blocksStart
    .next (match s3.updt.note with
      | some (c, v) => ({ s3 with updt := { s3.updt with note := none } } : State).notice c 0x11 0 (fOfInt v)
      | none => s3)

end Sys2Proof.Machine
end

