-- ==== Sys2Proof/Machine/Update.lean ====
section
/-! DEFINITION. The update service (21): manifests, blocks, verification, the chain's windows and decisions, activation, trial
boots and their confirmation. -/

namespace Sys2Proof.Machine

/-- The state with the UPD block changed. -/
def State.updUpd (s : State) (f : UpdSt → UpdSt) : State := { s with updt := f s.updt }
/-- The state with the journal changed. -/
def State.updJournal (s : State) (f : Journal → Journal) : State := { s with journal := f s.journal }
/-- What the module holds of member `m`. -/
def UpdSt.updMember (u : UpdSt) (m : Nat) (f : MemberSt → MemberSt) : UpdSt := { u with members := u.members.modify m f }

/-- Whether the update service and its sessions run. -/
def State.updOn (s : State) : Bool := s.runs rSVC && s.netUp && s.pwr.supply != .powerup

/-! Checks of a manifest (21 R520 to R522). -/

/-- The bytes of a signature block (03 R75). -/
def sigBlockLen : Nat := 148

/-- The member values that a kind is given. -/
def mfKindMembers (b : List Byte) (k : Nat) : List Nat :=
  (((List.range (mfParts b)).map (mfPart b)).filter fun p => p.kind == k).map Part.member

/-- Code 0x01: the form of a manifest (21 R520). -/
def mfFormOk (b : List Byte) : Bool :=
  let n := mfParts b
  let m := mfMembers b
  let len := 96 + 112 * n + 24 * m
  span b 0 4 == [0x54, 0x58, 0x55, 0x4D] && u16 b 4 == 1 && u16 b 6 == 96 && decide (1 ≤ n) && decide (n ≤ 71) && decide (1 ≤ m)
    && decide (m ≤ 32) && decide (u8 b 23 ≤ 1) && mfId b != 0 && decide (60 ≤ u32 b 32) && decide (u32 b 32 ≤ 86400)
    && decide (10 ≤ u32 b 36) && decide (u32 b 36 ≤ 3600) && decide (mfT0 b ≤ mfDeadline b) && mfLength b == len
    && allZero (span b 52 44) && b.length == up16 len + sigBlockLen
    && (List.range n).all fun i => u16 b (98 + 112 * i) == 0 && u32 b (108 + 112 * i) == 0

/-- Code 0x03: the signature over the manifest by the installed owner (03 R75; 21 R520). -/
def mfSigOk (owner : Option (List Byte)) (b : List Byte) : Bool :=
  let g := up16 (mfLength b)
  match owner with
  | none => false
  | some c => span b (g + 4) 48 == c && u16 b g == 1 && u16 b (g + 2) == 0 && Config.sigOk c (span b 0 (mfLength b)) (span b (g + 52) 96)

/-- Whether a list of numbers holds none twice. -/
def noTwice : List Nat → Bool
  | [] => true
  | x :: t => !t.contains x && noTwice t

/-- The kinds of a bundle: the six firmware parts and the schema. -/
def fwKinds : List Nat := [1, 2, 3, 4, 5, 6, 0x12]

/-- Code 0x06: the parts (21 R521, R522). -/
def mfPartsOk (b : List Byte) (own : Nat) : Bool :=
  let n := mfMembers b
  let ps := (List.range (mfParts b)).map (mfPart b)
  let len (f : Part → Bool) : Nat := (ps.filter f).foldl (fun a p => a + p.length) 0
  let fw := fwKinds.all fun k => mfKindMembers b k == [0xFF]
  let noFw := fwKinds.all fun k => mfKindMembers b k == []
  let cfg := mfKindMembers b 0x10
  ps.all (fun p => (fwKinds.contains p.kind || p.kind == 0x10 || p.kind == 0x11) && (decide (p.member < n) || p.member == 0xFF))
    && (fw || noFw)
    && (List.range n).all (fun m => decide ((cfg.filter fun x => x == m || x == 0xFF).length ≤ 1))
    && (mfKindMembers b 0x11).all (fun m => cfg.contains m)
    && ([0x10, 0x11].all fun k => noTwice (mfKindMembers b k))
    && decide (len (fun p => fwKinds.contains p.kind) ≤ 134217728)
    && ps.all (fun p => p.kind != 0x10 || decide (p.length ≤ 33554432))
    && decide (len (fun p => !fwKinds.contains p.kind && p.member != own && p.member != 0xFF) ≤ 1073741824)

/-- The first failing check of R522, 0 for none. -/
def State.mfCheck (s : State) (b : List Byte) : Nat :=
  let own := mfOwners b s.boot.serial.toNat
  let serials := (List.range (mfMembers b)).map (mfSerial b)
  if mfFormOk b = false then 1
  else if u32 b 16 ≠ 0x8840 ∨ 0xC1 < u8 b 20 then 2
  else if mfSigOk s.flash.ownerCert b = false then 3
  else if own.length ≠ 1 ∨ noTwice serials = false then 4
  else if mfId b ≤ s.bootRec.lastId then 5
  else if mfPartsOk b (own.headD 0) = false then 6
  else if s.tim.dvtSet = false ∨ mfT0 b ≤ s.dvt + 120000000000 then 7
  else match s.journal.state with
    | .idle | .confirmed | .fallback | .abandoned | .failed => 0
    | _ => 8

/-! The chain's messages (21 R523, R524). -/

/-- A message of the chain for the subscribers of INSTANCE `inst`. -/
def State.relay (s : State) (inst kind part chunk block window : Nat) (payload : List Byte) : State :=
  let head := leBytes 1 kind ++ leBytes 1 part ++ leBytes 2 chunk ++ leBytes 4 block ++ leBytes 8 (mfId s.journal.manifest)
    ++ leBytes 2 s.ownMember ++ leBytes 2 0 ++ leBytes 4 payload.length ++ leBytes 8 window
  s.publish 6 (fun i => i == inst) s.clk.opt s.dvt (head ++ payload)

/-- A message of the chain read from its body (21 R524), with the serial of the module that signed it, 0 for a plain one. -/
structure RelayMsg where
  kind : Nat
  part : Nat
  chunk : Nat
  block : Nat
  manifest : Nat
  member : Nat
  window : Nat
  sender : Nat
  payload : List Byte
deriving DecidableEq, Repr

/-- Whether CHUNK and the payload are what KIND has (21 R524). -/
def RelayMsg.formOk (x : RelayMsg) : Bool :=
  let p := x.payload
  let word (n : Nat) : Bool := p.length == 4 && u8 p 0 < n && allZero (span p 1 3)
  match x.kind with
  | 0x01 => decide (96 ≤ p.length)
  | 0x02 | 0x03 => decide (x.chunk < 8) && decide (1 ≤ p.length) && decide (p.length ≤ 8192)
  | 0x04 | 0x05 | 0x06 => p.length == 0
  | 0x07 => word 2
  | 0x08 => word 64
  | 0x09 => word 3
  | 0x0A => p.length == 8 && u8 p 0 < 5 && allZero (span p 1 3)
  | _ => false

/-- The UPDATE_RELAY body in an arrived message: behind the 40 bytes of an envelope (05 R158) or the 24 of a plain payload (05 R157). -/
def RelayIn.body (m : RelayIn) : List Byte := if m.env then span m.raw 40 (u32 m.raw 32) else m.raw.drop 24

/-- The message that a body spells (21 R524); none where its reserved bytes or PLEN are not as laid out. -/
def RelayIn.read (m : RelayIn) : Option RelayMsg :=
  let b := m.body
  if b.length < 32 ∨ u16 b 18 ≠ 0 ∨ b.length ≠ 32 + u32 b 20 then none
  else some { kind := u8 b 0, part := u8 b 1, chunk := u16 b 2, block := u32 b 4, manifest := u64 b 8, member := u16 b 16, window := u64 b 24,
              sender := if m.env then u64 m.raw 8 else 0, payload := b.drop 32 }

/-- Whether an envelope is laid out as 05 R158 says and its signature verifies with the key of a device certificate of its SERIAL that chains
to the vendor root (05 R159). -/
def RelayIn.envelopeOk (m : RelayIn) : Bool :=
  let b := m.raw
  let n := 40 + u32 b 32
  decide (40 ≤ b.length) && span b 0 4 == [0x54, 0x58, 0x46, 0x45] && u16 b 4 == 1 && u8 b 6 == 6 && decide (u8 b 7 < 8) && u32 b 36 == 0
    && b.length == n + 96 && (match m.cert with
      | some c => m.chains && c.serial.toNat == u64 b 8 && Config.sigOk c.d0Key (span b 0 n) (span b n 96)
      | none => false)

/-- Whether (BOOT, SEQ) of an envelope lies above the last pair taken from its SERIAL (05 R159). -/
def State.pairNewer (s : State) (b : List Byte) : Bool :=
  match lookupN s.flash.taken (u64 b 8) with
  | none => true
  | some (boot, seq) => decide (boot < u32 b 16) || (u32 b 16 == boot && decide (seq < u32 b 20))

/-- The receipt of a message of kind `k` (05 R159; 21 R523, R524): block tables and data come plain, the others in an envelope, which is
taken only where it passes R159 and then becomes the last of its SERIAL; anything else is discarded. -/
def State.takeRelay (s : State) (m : RelayIn) (k : Nat) : Option (State × RelayMsg) :=
  match m.read with
  | none => none
  | some x =>
    if s.updOn = false ∨ x.kind ≠ k ∨ x.formOk = false ∨ m.env = (k == 2 || k == 3) then none
    else if m.env = false then some (s, x)
    else if m.envelopeOk = false ∨ s.pairNewer m.raw = false then none
    else some ({ s with flash := { s.flash with taken := bindN s.flash.taken (u64 m.raw 8) (u32 m.raw 16, u32 m.raw 20) } }, x)

/-- A message passed on unchanged to the subscribers of INSTANCE `inst`, counted and sent like every item of the stream. -/
def State.forward (s : State) (inst : Nat) (m : RelayIn) : State :=
  s.publishItem 6 (fun i => i == inst) ⟨s.clk.opt, s.dvt, m.body, some m.raw⟩

/-- Whether message `m` concerns the staged manifest. -/
def State.staged (s : State) (m : RelayMsg) : Bool := s.journal.state != .idle && m.manifest == mfId s.journal.manifest

/-- Whether a message that the head originates comes from it (21 R524). -/
def State.fromHead (s : State) (m : RelayMsg) : Bool := m.sender == mfSerial s.journal.manifest 0
/-- Whether a report comes from the member it names, which lies downstream. -/
def State.fromMember (s : State) (m : RelayMsg) : Bool :=
  decide (s.ownMember < m.member) && decide (m.member < mfMembers s.journal.manifest) && m.sender == mfSerial s.journal.manifest m.member

/-! Parts, block tables and blocks (21 R521, R525). -/

/-- Part entry `i` of the staged manifest. -/
def State.part (s : State) (i : Nat) : Part := mfPart s.journal.manifest i
def State.partRx (s : State) (i : Nat) : PartRx := (s.journal.parts[i]?).getD { tablePieces := [], table := none, blocks := [], chunks := [] }
def State.updPart (s : State) (i : Nat) (f : PartRx → PartRx) : State :=
  s.updJournal fun j => { j with parts := j.parts.modify i f }
/-- The blocks of a part, the bytes of block `k`, and its chunks. -/
def Part.blocks (p : Part) : Nat := (p.length + 65535) / 65536
def Part.blockLen (p : Part) (k : Nat) : Nat := min 65536 (p.length - 65536 * k)
def chunksOf (len : Nat) : Nat := (len + 8191) / 8192

/-- Blocks accepted and blocks in all (21 R537). -/
def State.blocksOk (s : State) : Nat := (s.journal.parts.map fun (x : PartRx) => x.blocks.length).foldl (· + ·) 0
def State.blocksTotal (s : State) : Nat :=
  if s.journal.state = .idle then 0
  else ((List.range (mfParts s.journal.manifest)).map fun i => (s.part i).blocks).foldl (· + ·) 0

/-- Whether a part is for this module. -/
def State.partOwn (s : State) (p : Part) : Bool := p.member == 0xFF || p.member == s.ownMember

/-- Bytes written into others from offset `o`. -/
def overlay (b : List Byte) (o : Nat) (d : List Byte) : List Byte :=
  b.take o ++ List.replicate (o - b.length) 0 ++ d ++ b.drop (o + d.length)

/-- The configuration slot in force: CFG_ACTIVE, but on a boot that fell back under 03 R71 the other one (log 118). -/
def State.cfgInForce (s : State) : Bool := if s.boot.fallback then s.boot.cfgSlot else s.bootRec.cfgActive

/-- An accepted block written to where its part goes (21 R517, R521): the slots that are not in force.  The blocks that the journal's bitmap
counts are kept in `Journal.parts`, which is the relay area for parts addressed to others. -/
def State.storeBlock (s : State) (p : Part) (k : Nat) (d : List Byte) : State :=
  if s.partOwn p = false then s
  else if p.kind = 0x10 then
    let put (b : List Byte) : List Byte := overlay b (65536 * k) d
    if s.cfgInForce then { s with flash := { s.flash with slotA := put s.flash.slotA } }
    else { s with flash := { s.flash with slotB := put s.flash.slotB } }
  else if fwKinds.contains p.kind then
    let i := if s.bootRec.fwActive then 0 else 1
    { s with fw := upd s.fw i fun (f : FwSlot) => { f with
        parts := bindN f.parts p.kind (overlay ((lookupN f.parts p.kind).getD []) (65536 * k) d),
        version := if p.kind = 1 then lo32 p.version else f.version, schema := if p.kind = 0x12 then lo32 p.version else f.schema } }
  else s

/-- The chunks of block `k` of part `i` sent downstream. -/
def State.sendBlock (s : State) (i k : Nat) (d : List Byte) : State :=
  (List.range (chunksOf d.length)).foldl (fun t c => t.relay 0 0x03 i c k 0 (span d (8192 * c) 8192)) s

/-- Every block accepted, the member verifies (21 R526). -/
def State.maybeVerify (s : State) : State :=
  if s.journal.state = .receiving ∧ s.blocksOk = s.blocksTotal then s.updJournal fun j => { j with state := .verifying } else s

/-- A block whose chunks have all arrived: accepted, written and passed on, or discarded whole (21 R525). -/
def State.tryBlock (s : State) (i k : Nat) : State :=
  let p := s.part i
  let x := s.partRx i
  let n := chunksOf (p.blockLen k)
  let got := (List.range n).filterMap fun c => lookupN x.chunks (8 * k + c)
  match x.table with
  | none => s
  | some t =>
    if got.length ≠ n ∨ (lookupN x.blocks k).isSome then s
    else
      let d := got.flatten
      let s1 := s.updPart i fun y => { y with chunks := y.chunks.filter fun c => c.1 / 8 != k }
      if Config.sha384 d = span t (48 * k) 48 then
        (((s1.updPart i fun y => { y with blocks := bindN y.blocks k d }).storeBlock p k d).sendBlock i k d).maybeVerify
      else
        ((s1.updUpd fun u => { u with blockErr := satInc u.blockErr }).notice 0x0048 0x11 0 (fOfInt k)).relay 2 0x04 i 0 k 0 []

/-- A piece of a block table: the whole is accepted where its digest agrees, and passed on (21 R525). -/
def State.takeTable (s : State) (i piece : Nat) (d : List Byte) : State :=
  let p := s.part i
  let x := s.partRx i
  let n := chunksOf (48 * p.blocks)
  if i ≥ mfParts s.journal.manifest ∨ x.table.isSome ∨ n ≤ piece then s
  else
    let l := bindN x.tablePieces piece d
    let s1 := s.updPart i fun y => { y with tablePieces := l }
    let got := (List.range n).filterMap fun c => lookupN l c
    if got.length ≠ n then s1
    else if Config.sha384 got.flatten = p.btDigest then
      let t := got.flatten
      let s2 := s1.updPart i fun y => { y with tablePieces := [], table := some t }
      let s3 := (List.range n).foldl (fun u c => u.relay 0 0x02 i (c % 8) (c / 8) 0 (span t (8192 * c) 8192)) s2
      (List.range p.blocks).foldl (fun u k => u.tryBlock i k) s3
    else s1.updPart i fun y => { y with tablePieces := [] }

/-- A chunk of a block (21 R525). -/
def State.takeChunk (s : State) (i k c : Nat) (d : List Byte) : State :=
  let p := s.part i
  if i ≥ mfParts s.journal.manifest ∨ p.blocks ≤ k ∨ chunksOf (p.blockLen k) ≤ c ∨ (lookupN (s.partRx i).blocks k).isSome then s
  else (s.updPart i fun y => { y with chunks := bindN y.chunks (8 * k + c) d }).tryBlock i k

/-- A manifest staged (21 R522, R525). -/
def State.stage (s : State) (b : List Byte) : State :=
  { s with
    journal := { state := .receiving, manifest := b, committed := none,
                 parts := List.replicate (mfParts b) { tablePieces := [], table := none, blocks := [], chunks := [] } },
    updt := { s.updt with err := 0, cfgErr := 0, prepared := none, passed := none, decided := none, sampled := none,
                          members := List.replicate (mfMembers b) MemberSt.fresh } }

/-- ERR of UPD_STAT after a manifest refused with code `c` (21 R537); that of a staged one stays where the code is UPDATE_BUSY's. -/
def State.mfRefused (s : State) (c : Nat) : State := s.updUpd fun u => { u with err := BitVec.ofNat 8 c, cfgErr := 0 }

/-- UPD_BEGIN (21 R522, R535). -/
def execUpdBegin (r : HostReq) (manifest : List Byte) (s : State) : Out :=
  .next (hostOp r 0x0080 2 8 (fun t =>
    let c := t.mfCheck manifest
    if c = 8 then .refuse 0x9102 [0x08]
    else if c ≠ 0 then .wait ((t.mfRefused c).complete r 0x9101 (leBytes 1 c))
    else if mfOwners manifest t.boot.serial.toNat ≠ [0] then .refuse 0x9103 []
    else .done ((t.stage manifest).relay 1 0x01 0 0 0 0 manifest) []) s)

/-- UPD_DATA (21 R525, R535). -/
def execUpdData (r : HostReq) (part kind : Byte) (offset : Word) (data : List Byte) (s : State) : Out :=
  .next (hostOp r 0x0081 2 8 (fun t =>
    let i := part.toNat
    let p := t.part i
    let whole := if kind = 0 then 48 * p.blocks else p.length
    let o := offset.toNat
    if (t.sess r.sess).agreed.getLsbD 15 = false then .refuse stFEATURE []
    else if t.isHead = false then .refuse 0x9103 []
    else if t.journal.state ≠ .receiving then .refuse stSTATE []
    else if mfParts t.journal.manifest ≤ i ∨ 1 < kind.toNat ∨ o % 8192 ≠ 0 ∨ whole ≤ o ∨ data.length ≠ min 8192 (whole - o) then
      .refuse stRANGE []
    else
      let t1 := if kind = 0 then t.takeTable i (o / 8192) data else t.takeChunk i (o / 65536) (o / 8192 % 8) data
      .done t1 (leBytes 2 t1.blocksOk ++ leBytes 2 0)) s)

/-- The code of a staging state (21 R537). -/
def UpdState.code : UpdState → Nat
  | .idle => 0
  | .receiving => 1
  | .verifying => 2
  | .ready => 3
  | .committed => 4
  | .trial => 5
  | .confirmed => 6
  | .fallback => 7
  | .abandoned => 8
  | .failed => 9

/-- UPD_STATUS (21 R535). -/
def execUpdStatus (r : HostReq) (s : State) : Out :=
  .next (hostOp r 0x0082 2 8 (fun t =>
    let j := t.journal
    let n := if j.state = .idle then 0 else mfMembers j.manifest
    let one (m : Nat) : List Byte :=
      let x := (t.updt.members[m]?).getD MemberSt.fresh
      leBytes 1 (if m = t.ownMember then j.state.code else if x.result = 1 then 6 else if x.result ≠ 0 then 7 else if x.ready then 3 else 1)
        ++ leBytes 1 x.vote ++ leBytes 1 (x.state.getD 0) ++ leBytes 1 (if m = t.ownMember then t.bootRec.lastResult else x.result)
    .done t (leBytes 1 j.state.code ++ leBytes 1 t.updt.err.toNat ++ leBytes 1 n ++ leBytes 1 0
      ++ leBytes 8 (if j.state = .idle then 0 else mfId j.manifest) ++ leBytes 8 (t.nextWindow.getD 0) ++ (List.range n).flatMap one)) s)

/-! Decisions (21 R527). -/

/-- The OR of the reasons of the STATE reports held. -/
def UpdSt.reasons (u : UpdSt) : Nat := u.members.foldl (fun a m => a ||| m.state.getD 0) 0

/-- A window deferred at this member (21 R527): counted, and notice UPD_DEFER. -/
def State.deferred (s : State) (w : Nat) : State :=
  let v := s.updt.reasons
  (s.updUpd fun u => { u with
    deferCnt := satInc u.deferCnt, passed := some w, prepared := none,
    members := u.members.map fun (m : MemberSt) => { m with vote := 0xFF, state := none } }).notice 0x0041 0x11 0 (fOfInt v)

/-- The manifest abandoned at this member. -/
def State.abandoned (s : State) : State :=
  (s.updJournal fun j => { j with state := .abandoned, committed := none }).notice 0x0042 0x11 0 fZero

/-- The head's DEFER of a window, and ABANDON where no window is left (21 R527). -/
def State.headDefer (s : State) (w : Nat) : State :=
  let s1 := ((s.updUpd fun u => { u with decided := some w }).relay 1 0x09 0 0 0 w (leBytes 1 1 ++ leBytes 3 0)).deferred w
  if (windowFrom s1.journal.manifest (max (w + 1) (s1.dvt + 120000000000))).isNone then (s1.relay 1 0x09 0 0 0 w (leBytes 1 2 ++ leBytes 3 0)).abandoned else s1

/-- COMMIT taken by this member for window `w`: the journal says so (21 R527). -/
def State.committedTo (s : State) (w : Nat) : State := s.updJournal fun j => { j with state := .committed, committed := some w }

/-- UPD_ABORT (21 R535): at the head, before it has sent COMMIT, the decision is ABANDON. -/
def execUpdAbort (r : HostReq) (s : State) : Out :=
  .next (hostOp r 0x0083 2 8 (fun t =>
    match t.journal.state with
    | .committed => .refuse 0x9104 []
    | .receiving | .verifying | .ready | .failed =>
      if t.isHead then .done ((t.relay 1 0x09 0 0 0 (t.nextWindow.getD 0) (leBytes 1 2 ++ leBytes 3 0)).abandoned) []
      else .refuse 0x9103 []
    | _ => .refuse stSTATE []) s)

/-- UPD_CONFIRM (21 R533, R535). -/
def execUpdConfirm (r : HostReq) (s : State) : Out :=
  .next (hostOp r 0x0084 2 8 (fun t =>
    if t.updt.trialBoot ∧ mfHostConfirm t.journal.manifest then .done (t.updUpd fun u => { u with hostConfirm := true }) []
    else .refuse 0x9105 []) s)

/-- UPD_REJECT (21 R533, R535): the reply goes out, then the module resets as in an activation and falls back. -/
def execUpdReject (r : HostReq) (p : PowerIn) (s : State) : Out :=
  .next (hostOp r 0x0085 2 8 (fun t =>
    if t.updt.trialBoot = false then .refuse 0x9105 []
    else
      let t1 := (t.complete r stOK []).shutdownSteps
      .wait ((((t1.writeBoot fun b => { b with reject := true }).writeReason 6).send .moduleReset).powerUp p)) s)

/-! Reports and orders of the chain (21 R523 to R527). -/

/-- An arrived message that passes its receipt, given to `k`. -/
def State.onRelay (s : State) (m : RelayIn) (kind : Nat) (k : RelayMsg → State → State) : State :=
  match (s.begin m.opt).takeRelay m kind with
  | none => s.begin m.opt
  | some (t, x) => k x t

/-- RELAY_MANIFEST (21 R522, R524). -/
def execRelayManifest (m : RelayIn) (s : State) : Out :=
  .next (s.onRelay m 0x01 fun x t =>
    let c := t.mfCheck x.payload
    if c = 8 ∨ (t.journal.state ≠ .idle ∧ t.journal.state ≠ .abandoned ∧ t.journal.manifest = x.payload) then t
    else if c ≠ 0 then t.mfRefused c
    else (t.stage x.payload).forward 1 m)

/-- RELAY_BTABLE (21 R524, R525). -/
def execRelayBtable (m : RelayIn) (s : State) : Out :=
  .next (s.onRelay m 0x02 fun x t =>
    if t.staged x ∧ t.journal.state = .receiving then t.takeTable x.part (8 * x.block + x.chunk) x.payload else t)

/-- RELAY_DATA (21 R524, R525). -/
def execRelayData (m : RelayIn) (s : State) : Out :=
  .next (s.onRelay m 0x03 fun x t =>
    if t.staged x ∧ t.journal.state = .receiving then t.takeChunk x.part x.block x.chunk x.payload else t)

/-- RELAY_RESEND (21 R524): the downstream neighbour asks for a block again. -/
def execRelayResend (m : RelayIn) (s : State) : Out :=
  .next (s.onRelay m 0x04 fun x t =>
    if t.staged x = false ∨ t.fromMember x = false then t
    else match lookupN (t.partRx x.part).blocks x.block with
      | some d => t.sendBlock x.part x.block d
      | none => t)

/-- RELAY_READY (21 R526, R527). -/
def execRelayReady (m : RelayIn) (s : State) : Out :=
  .next (s.onRelay m 0x05 fun x t =>
    if t.staged x ∧ t.fromMember x then (t.forward 2 m).updUpd fun u => u.updMember x.member fun y => { y with ready := true } else t)

/-- PREPARE taken for window `w` with this member's vote (21 R527). -/
def State.prepare (s : State) (w : Nat) : State :=
  let go := s.journal.state == .ready
  (s.updUpd fun u => ({ u with
    prepared := some w,
    members := u.members.map fun (x : MemberSt) => { x with vote := 0xFF, state := none } } : UpdSt).updMember s.ownMember
      fun x => { x with vote := if go then 0 else 1 })

/-- RELAY_PREPARE (21 R527). -/
def execRelayPrepare (m : RelayIn) (s : State) : Out :=
  .next (s.onRelay m 0x06 fun x t =>
    if t.staged x ∧ t.fromHead x ∧ t.isHead = false then
      let v := if t.journal.state = .ready then 0 else 1
      ((t.forward 1 m).prepare x.window).relay 2 0x07 0 0 0 x.window (leBytes 1 v ++ leBytes 3 0)
    else t)

/-- RELAY_VOTE (21 R527). -/
def execRelayVote (m : RelayIn) (s : State) : Out :=
  .next (s.onRelay m 0x07 fun x t =>
    if t.staged x ∧ t.fromMember x then
      let u := t.forward 2 m
      if u.updt.prepared = some x.window then u.updUpd fun v => v.updMember x.member fun y => { y with vote := u8 x.payload 0 } else u
    else t)

/-- RELAY_STATE (21 R527, R531). -/
def execRelayState (m : RelayIn) (s : State) : Out :=
  .next (s.onRelay m 0x08 fun x t =>
    if t.staged x ∧ t.fromMember x then
      let u := t.forward 2 m
      if u.updt.prepared = some x.window then u.updUpd fun v => v.updMember x.member fun y => { y with state := some (u8 x.payload 0) } else u
    else t)

/-- Whether a staged manifest is still undecided at this member: DEFER and ABANDON move it (21 R527, R529). -/
def UpdState.undecided : UpdState → Bool
  | .receiving | .verifying | .ready | .failed => true
  | _ => false

/-- RELAY_DECISION (21 R527, R529): a window is acted on only after its PREPARE. -/
def execRelayDecision (m : RelayIn) (s : State) : Out :=
  .next (s.onRelay m 0x09 fun x t =>
    if t.staged x ∧ t.fromHead x ∧ t.isHead = false then
      let u := t.forward 1 m
      match u8 x.payload 0 with
      | 0 => if u.updt.prepared = some x.window ∧ u.journal.state = .ready then u.committedTo x.window else u
      | 1 => if u.journal.state.undecided then u.deferred x.window else u
      | _ => if u.journal.state.undecided then u.abandoned else u
    else t)

/-- RELAY_RESULT (21 R533). -/
def execRelayResult (m : RelayIn) (s : State) : Out :=
  .next (s.onRelay m 0x0A fun x t =>
    if t.staged x ∧ t.fromMember x then (t.forward 2 m).updUpd fun u => u.updMember x.member fun y => { y with result := u8 x.payload 0 } else t)

/-- The member's RESULT sent upstream (21 R524, R533). -/
def State.sendResult (s : State) : State :=
  s.relay 2 0x0A 0 0 0 0 (leBytes 1 s.bootRec.lastResult ++ leBytes 3 0 ++ leBytes 4 s.firmware.version.toNat)

/-- What a member that opens its session to this one may have missed: the manifest, and the block tables and blocks accepted so far. -/
def State.relayHeld (s : State) : State :=
  (List.range (mfParts s.journal.manifest)).foldl (fun t i =>
    match (t.partRx i).table with
    | none => t
    | some b =>
      let t1 := (List.range (chunksOf b.length)).foldl (fun u c => u.relay 0 0x02 i (c % 8) (c / 8) 0 (span b (8192 * c) 8192)) t
      (t1.partRx i).blocks.foldl (fun u k => u.sendBlock i k.1 k.2) t1) (s.relay 1 0x01 0 0 0 0 s.journal.manifest)

/-- CHAIN_SESSION_RETRY (21 R523): what a neighbour may have missed goes out again when a session with it opens. -/
def execChainSessionRetry (o : Opt) (upOk downOk : Bool) (s : State) : Out :=
  let s := s.begin o
  if s.updOn = false ∨ s.journal.state = .idle then .next s
  else
    let newUp := upOk && !s.updt.sessUp
    let newDown := downOk && !s.updt.sessDown
    let s1 := s.updUpd fun u => { u with sessUp := upOk, sessDown := downOk }
    let s2 := if newDown ∧ s1.journal.state.undecided then s1.relayHeld else s1
    .next (if newUp then
        match s2.journal.state with
        | .receiving => (List.range (mfParts s2.journal.manifest)).foldl (fun t i =>
            (List.range (t.part i).blocks).foldl (fun v k =>
              if (lookupN (v.partRx i).blocks k).isNone then v.relay 2 0x04 i 0 k 0 [] else v) t) s2
        | .ready => s2.relay 2 0x05 0 0 0 0 []
        | .confirmed | .fallback => s2.sendResult
        | _ => s2
      else s2)

/-! Verification (21 R526). -/

/-- The bytes of part `i` as stored. -/
def State.partBytes (s : State) (i : Nat) : List Byte :=
  let x := s.partRx i
  (List.range (s.part i).blocks).flatMap fun k => (lookupN x.blocks k).getD []

/-- The first part of a kind for this module. -/
def State.ownPart (s : State) (k : Nat) : Option Nat :=
  (List.range (mfParts s.journal.manifest)).find? fun i => (s.part i).kind == k && s.partOwn (s.part i)

/-- Whether the MICRO list agrees with an image: every entry names a MICRO table with its digest, and every one is listed. -/
def microListOk (l : List Byte) (im : Image) : Bool :=
  let n := l.length / 52
  l.length % 52 == 0
    && (List.range n).all (fun e => match im.tableOf kMicro (u16 l (52 * e)) with
      | some b => Config.sha384 b == span l (52 * e + 4) 48
      | none => false)
    && im.tables.all fun t => t.kind != kMicro || (List.range n).any fun e => u16 l (52 * e) == t.id

/-- The first failing check of R526 with the R76 code behind 0x13: 0 for none. -/
def State.verify (s : State) (vendorOk : Bool) : Nat × Nat :=
  let n := mfParts s.journal.manifest
  let want := match s.ownPart 0x12 with
    | some i => lo32 (s.part i).version
    | none => s.settings.ver
  if (List.range n).any (fun i => Config.sha384 (s.partBytes i) != (s.part i).digest) then (0x11, 0)
  else if (s.ownPart 1).isSome ∧ vendorOk = false then (0x12, 0)
  else match s.ownPart 0x10 with
    | none => (0, 0)
    | some i => match parseSlot s.flash.ownerCert (s.partBytes i) with
      | .error e => (0x13, e.code)
      | .ok im => match im.invalid with
        | some e => (0x13, e.code)
        | none =>
          if im.settingsVer ≠ want then (0x13, 0)
          else match s.ownPart 0x11 with
            | some k => if microListOk (s.partBytes k) im then (0, 0) else (0x14, 0)
            | none => (0, 0)

/-- VERIFY_COMPLETE (21 R526; 03 R72 to R76). -/
def execVerifyComplete (o : Opt) (vendorOk : Bool) (s : State) : Out :=
  let s := s.begin o
  .next (if s.updOn = false ∨ s.journal.state ≠ .verifying then s
    else
      let (e, c) := s.verify vendorOk
      if e = 0 then
        (((s.updJournal fun j => { j with state := .ready }).updUpd fun u =>
          { (u.updMember s.ownMember fun x => { x with ready := true }) with err := 0, cfgErr := 0 }).relay 2 0x05 0 0 0 0 []).notice 0x0040 0x11 0 fZero
      else (s.updJournal fun j => { j with state := .failed }).updUpd fun u => { u with err := BitVec.ofNat 8 e, cfgErr := BitVec.ofNat 8 c })

/-! Windows (21 R527). -/

/-- Whether DVT is at the instant `d` before window `w`, met within 1 us (log 90). -/
def State.before (s : State) (w d : Nat) : Bool := s.tim.dvtSet && decide (w ≤ s.dvt + d) && decide (s.dvt + d < w + 1000)

/-- The window whose PREPARE instant it is at the head of an undecided manifest, where no earlier window is still under way. -/
def State.headWindow (s : State) : Option Nat :=
  let free : Bool := match s.updt.prepared with
    | some w => decide (w < s.dvt)
    | none => true
  let late := max (s.dvt + 120000000000 - 999) (match s.updt.passed with
    | some w => w + 1
    | none => 0)
  if s.isHead ∧ s.journal.state.undecided ∧ free then windowFrom s.journal.manifest late else none

/-- PREPARE_INSTANT (21 R527): 120 s before a window. -/
def execPrepareInstant (o : Opt) (s : State) : Out :=
  let s := s.begin o
  match s.headWindow with
  | none => .next s
  | some w =>
    .next (if s.updOn = false ∨ s.before w 120000000000 = false then s
      else if s.journal.state = .ready then (s.prepare w).relay 1 0x06 0 0 0 w []
      else s.headDefer w)

/-- VOTE_DEADLINE (21 R527): 60 s before it. -/
def execVoteDeadline (o : Opt) (s : State) : Out :=
  let s := s.begin o
  match s.updt.prepared with
  | none => .next s
  | some w =>
    .next (if s.updOn = false ∨ s.isHead = false ∨ s.before w 60000000000 = false ∨ s.updt.decided = some w
          ∨ s.updt.members.all (fun m => m.vote == 0) = true then s
      else s.headDefer w)

/-- The failing conditions of the permitted state (21 R531). -/
def State.reasons (s : State) : Nat :=
  let still := s.sig (s.img.fieldOr 0x1101 0x0001 (fun b => u32 b 0) noRef)
  let max := s.img.fieldOr 0x1101 0x0001 (fun b => u16 b 4) 100
  let stand := (s.poseFlag 1 && decide ((i16 s.tim.pose.rcd 50).natAbs < max)) || sTrue still
  let idle := (List.range 48).all fun m => !s.mfUsed m || (rd s.prf.mf m).idle
  let steer := s.str.st == .off || s.str.st == .ready
  let valves := (List.range 48).all fun n => match s.vlvMode n with
    | 1 => !(rd s.vlv.ch n).active
    | 2 => rd s.vlv.legDuty n == 0
    | _ => true
  let switches := (List.range 40).all fun n => !s.pswUsed n || ((s.pswWant n == 0) == (s.pswSafeDuty n == 0))
  let bits : List Bool := [stand, idle, steer, valves && switches, s.pwr.supply == .normal, s.dbg.phase == .run]
  bits.foldr (fun b a => 2 * a + (if b then 0 else 1)) 0

/-- STATE_SAMPLE (21 R527, R531): 2 s before a prepared window. -/
def execStateSample (o : Opt) (s : State) : Out :=
  let s := s.begin o
  match s.updt.prepared with
  | none => .next s
  | some w =>
    .next (if s.updOn = false ∨ s.before w 2000000000 = false ∨ s.updt.sampled = some w ∨ s.journal.state ≠ .ready then s
      else
        let r := s.reasons
        (s.updUpd fun u => { (u.updMember s.ownMember fun x => { x with state := some r }) with sampled := some w }).relay 2 0x08 0 0 0 w
          (leBytes 1 r ++ leBytes 3 0))

/-- DECISION_INSTANT (21 R527): 0.5 s before it the head sends COMMIT where every STATE report held is free of reasons. -/
def execDecisionInstant (o : Opt) (s : State) : Out :=
  let s := s.begin o
  match s.updt.prepared with
  | none => .next s
  | some w =>
    .next (if s.updOn = false ∨ s.isHead = false ∨ s.before w 500000000 = false ∨ s.updt.decided = some w ∨ s.journal.state ≠ .ready then s
      else if s.updt.members.all (fun m => m.state == some 0) then
        ((s.updUpd fun u => { u with decided := some w }).relay 1 0x09 0 0 0 w (leBytes 4 0)).committedTo w
      else s.headDefer w)

/-! Activation, trial and confirmation (21 R528 to R533). -/

/-- The activation (21 R528): the shutdown's first steps, the boot record and the reason, then the reset. -/
def State.activate (s : State) (p : PowerIn) : State :=
  let fw := (s.ownPart 1).isSome
  let cfg := (s.ownPart 0x10).isSome
  let id := mfId s.journal.manifest
  let s1 := s.shutdownSteps.updJournal fun j => { j with committed := none, state := if fw || cfg then j.state else .confirmed }
  (((s1.writeBoot fun b => { b with fwTrial := fw, cfgTrial := cfg, cfgActive := if cfg then s1.cfgInForce else b.cfgActive, trialCnt := 0, manifestId := id, lastId := id }).writeReason 6).send
    .moduleReset).powerUp p

/-- ACTIVATION (21 R527, R528): at the instant of the committed window, in the permitted state. -/
def execActivation (o : Opt) (p : PowerIn) (s : State) : Out :=
  let s := s.begin o
  match s.journal.state, s.journal.committed with
  | .committed, some w =>
    .next (if s.updOn ∧ s.before w 0 ∧ s.reasons = 0 then s.activate p else s)
  | _, _ => .next s

/-- LATE_ACTIVATION (21 R529): past the window, or 60 s after power-up without DVT, at the first tick that permits it. -/
def execLateActivation (o : Opt) (p : PowerIn) (s : State) : Out :=
  let s := s.begin o
  match s.journal.state, s.journal.committed with
  | .committed, some w =>
    let due := if s.tim.dvtSet then decide (w + 1000 ≤ s.dvt) else match s.updt.normalSince with
      | some t => decide (t + 60000000000 ≤ o)
      | none => false
    .next (if s.updOn ∧ s.atTick ∧ due = true ∧ s.reasons = 0 then
        ((s.updUpd fun u => { u with lateCnt := satInc u.lateCnt }).notice 0x0047 0x11 0 fZero).activate p
      else s)
  | _, _ => .next s

/-- TRIAL_CONFIRM (21 R533). -/
def execTrialConfirm (o : Opt) (s : State) : Out :=
  let s := s.begin o
  let u := s.updt
  let b := s.journal.manifest
  let late := match u.normalSince with
    | some t => decide (t + mfConfirm b ≤ o)
    | none => false
  let faulty := u.regionFault || (List.range 10).any fun n => s.region n == .fault
  .next (if s.updOn = false ∨ u.trialBoot = false ∨ s.boot.fallback ∨ u.settingsOk = false ∨ late = false ∨ faulty
        ∨ (mfHostConfirm b ∧ u.hostConfirm = false) then s
    else
      let s1 := s.writeBoot fun r =>
        let fw := r.fwActive != r.fwTrial
        let cfg := r.cfgActive != r.cfgTrial
        { r with fwActive := fw, cfgActive := cfg, setActive := u.setUsed, fwTrial := false, cfgTrial := false, trialCnt := 0,
                 confirmed := r.confirmed ||| (if r.fwTrial then (if fw then 2 else 1) else 0) ||| (if r.cfgTrial then (if cfg then 8 else 4) else 0),
                 lastResult := 1 }
      let s2 : State := { s1 with journal := { s1.journal with state := .confirmed }, updt := { s1.updt with trialBoot := false },
                                  boot := { s1.boot with trial := false } }
      (s2.notice 0x0044 0x11 0 fZero).sendResult)

end Sys2Proof.Machine
end

