-- ==== Sys2Proof/Machine/Reg.lean ====
section
/-! DEFINITION. Register tables (24 R564, R566) and what the register files of the blocks share. -/

namespace Sys2Proof.Machine

/-- A row of a block's register table (24 R566): `count` registers from offset `base`, `step` bytes apart, with the reserved
bits `rsv` of each and a name. -/
structure RegRow (α : Type) where
  base : Nat
  count : Nat
  step : Nat
  rsv : Word
  reg : α

/-- Whether the row holds the register at offset `off`. -/
def RegRow.holds {α : Type} (w : RegRow α) (off : Nat) : Bool :=
  decide (w.base ≤ off) && decide (off < w.base + w.count * w.step) && (off - w.base) % w.step == 0

/-- The register at offset `off`: its name, its index and its reserved bits; none where the offset is undefined (24 R564). -/
def findReg {α : Type} (rows : List (RegRow α)) (off : Nat) : Option (α × Nat × Word) :=
  (rows.find? fun w => w.holds off).map fun w => (w.reg, (off - w.base) / w.step, w.rsv)

/-- A register that only reads: every bit reserved for writing but those that the field map names. -/
def one {α : Type} (base : Nat) (rsv : Word) (reg : α) : RegRow α := ⟨base, 1, 4, rsv, reg⟩

/-- An array of registers with a step of 4. -/
def arr {α : Type} (base count : Nat) (rsv : Word) (reg : α) : RegRow α := ⟨base, count, 4, rsv, reg⟩

/-- An enable mask with word `i` of `v` in it (01 R18). -/
def putWord {w : Nat} (m : BitVec w) (i : Nat) (v : Word) : BitVec w :=
  BitVec.ofNat w (m.toNat - m.toNat / 2 ^ (32 * i) % 2 ^ 32 * 2 ^ (32 * i) + v.toNat * 2 ^ (32 * i))

/-- Word `i` of an enable mask. -/
def getWord {w : Nat} (m : BitVec w) (i : Nat) : Word := BitVec.ofNat 32 (m.toNat / 2 ^ (32 * i))

/-- A write to an SH field: the value goes to the shadow alone (00 R6; 03 R81). -/
def State.setShadow (s : State) (addr : Nat) (v : Word) : State :=
  { s with grp := { s.grp with shadow := bindN s.grp.shadow addr v } }

/-- Whether any number of a list fails its range, as a status: RANGE. -/
def rangeIf (ok : Bool) : Option Nat := if ok then none else some stRANGE

/-- Whether `x` lies in the closed range `lo … hi`. -/
def within (x lo hi : Nat) : Bool := decide (lo ≤ x) && decide (x ≤ hi)

end Sys2Proof.Machine
end

