-- ==== Sys2Proof/Machine/RegsLop.lean ====
section
/-! DEFINITION. The registers of the LOP and PRF blocks (08 R244; 09 R268). -/

namespace Sys2Proof.Machine

/-- The registers of the LOP block; `group` are the words of the slots' commit groups. -/
inductive LopReg where
  | tickLo | tickHi | tickSec | en | cntClr | testStall | procStat | stat | cnt | timing | out | sp | pv | lawSel | group
deriving DecidableEq, Repr

/-- The register table of LOP (24 R566). -/
def lopRows : List (RegRow LopReg) :=
  [one 0x0000 0 .tickLo, one 0x0004 0 .tickHi, one 0x0008 0xFFFF0000 .tickSec, arr 0x0010 4 0 .en, arr 0x0020 4 0 .cntClr,
   one 0x0030 0x00000080 .testStall, arr 0x0040 8 0x00000080 .procStat, arr 0x0100 128 0xFF800080 .stat, arr 0x0300 128 0 .cnt,
   arr 0x0500 128 0x0000FF00 .timing, arr 0x0700 128 0 .out, arr 0x0900 128 0 .sp, arr 0x0B00 128 0 .pv,
   ⟨0x1000, 128, 32, 0xFFFF0000, .lawSel⟩, arr 0x1000 1024 0 .group]

/-- A read of an LOP register, with the latch that a read of LOP_TICK_LO makes. -/
def State.lopRead (s : State) (g : LopReg) (n : Nat) : Word × State :=
  let c := rd s.lop.slot n
  match g with
  | .tickLo => (lo32 s.clk.tick, { s with lop := { s.lop with tickHi := hi32 s.clk.tick } })
  | .tickHi => (s.lop.tickHi, s)
  | .tickSec => (place s.clk.tickSec 0 15 ||| flag s.clk.aligned 15, s)
  | .en => (getWord s.lop.en n, s)
  | .cntClr => (0, s)
  | .testStall => (0, s)
  | .procStat =>
    let p := rd s.lop.proc n
    (orAll [commonWord (s.procState n) p.run p.err [] p.lastErr, place (min p.load 255) 16 8, place p.peak 24 8], s)
  | .stat =>
    let alt := s.slotUsed n && c.lawInForce != 0xFFFF && c.lawInForce != u16 (s.slotB n) 12
    (orAll [commonWord (s.slotState n) c.enF c.err [c.ovrCnt, c.invCnt] c.lastErr, place c.mode.code 16 2, flag c.limited 18,
            flag c.rateLim 19, flag c.inputInvalid 20, flag alt 21, flag c.ovrLast 22], s)
  | .cnt => (place c.ovrCnt.toNat 0 16 ||| place c.invCnt.toNat 16 16, s)
  | .timing => (place c.consec.toNat 0 8 ||| place c.cycles.toNat 16 16, s)
  | .out => (c.outReg, s)
  | .sp => (c.spReg, s)
  | .pv => (c.pvReg, s)
  | .lawSel => (s.live (0x41000 + 32 * n), s)
  | .group => (s.live (0x41000 + 4 * n), s)

/-- The checks of a write to an LOP register beyond its reserved bits. -/
def State.lopCheck (s : State) (r : HostReq) (g : LopReg) (n : Nat) (v : Word) : Option Nat :=
  match g with
  | .en => if (setBits v.toNat 32).all fun b => s.slotUsed (32 * n + b) then none else some stRANGE
  | .testStall =>
    if (s.sess r.sess).level < 2 then some stACCESS else rangeIf (field v 8 8 == 0 || decide (1 ≤ field v 16 16))
  | _ => none

/-- The effect of a write to an LOP register. -/
def State.lopWrite (s : State) (g : LopReg) (n : Nat) (v : Word) : State :=
  match g with
  | .en => { s with lop := { s.lop with en := putWord s.lop.en n v } }
  | .cntClr => s.lopCntClear n v
  | .testStall => { s with lop := { s.lop with stall := { slot := field v 0 7, count := field v 8 8, delayUs := field v 16 16 } } }
  | .procStat => s.updProc n fun p => { p with err := p.err && !bit v 5 }
  | .stat => s.updSlot n fun c => { c with err := c.err && !bit v 5 }
  | .lawSel => s.setShadow (0x41000 + 32 * n) v
  | .group => s.setShadow (0x41000 + 4 * n) v
  | _ => s

/-! The PRF block (09 R268). -/

/-- The registers of the PRF block; `rsvd` are the fourth words of the generators' groups. -/
inductive PrfReg where
  | pgStat | pgPos | pgVel | pgAcc | pgTgt | group | rsvd | mfStat | mfTgt | mfFb | idleLo | idleHi | clrLo | clrHi
deriving DecidableEq, Repr

/-- The register table of PRF (24 R566). -/
def prfRows : List (RegRow PrfReg) :=
  [arr 0x0000 128 0xFFFFFC00 .pgStat, arr 0x0200 128 0 .pgPos, arr 0x0400 128 0 .pgVel, arr 0x0600 128 0 .pgAcc, arr 0x0800 128 0 .pgTgt,
   ⟨0x100C, 128, 16, 0xFFFFFFFF, .rsvd⟩, arr 0x1000 512 0 .group, arr 0x2000 48 0x0000C800 .mfStat, arr 0x2100 48 0 .mfTgt,
   arr 0x2200 48 0 .mfFb, one 0x2300 0 .idleLo, one 0x2304 0xFFFF0000 .idleHi, one 0x2310 0 .clrLo, one 0x2314 0xFFFF0000 .clrHi]

/-- MODE and SOURCE of a generator (09 R268). -/
def PgMode.code : PgMode → Nat
  | .move => 0
  | .track => 1
  | .hold => 2
def PgSource.code : PgSource → Nat
  | .const => 0
  | .mf => 1
  | .outer => 2

/-- The IDLE bits of the machine functions from `base`; a function that the image does not configure reads 1. -/
def State.idleBits (s : State) (base n : Nat) : Word :=
  orAll ((List.range n).map fun b => flag (!(s.mfUsed (base + b)) || (rd s.prf.mf (base + b)).idle) b)

/-- A read of a PRF register. -/
def State.prfRead (s : State) (g : PrfReg) (n : Nat) : Word :=
  let p := rd s.prf.pg n
  match g with
  | .pgStat => orAll [place p.mode.code 0 2, place p.src.code 2 2, flag p.arrived 4, flag p.limited 5, flag p.overshoot 6, flag p.excess 7,
                      flag p.clamped 8, flag p.followPv 9]
  | .pgPos => p.posReg
  | .pgVel => p.velReg
  | .pgAcc => p.accReg
  | .pgTgt => p.tgtReg
  | .rsvd => 0
  | .group => s.live (0x51000 + 4 * n)
  | .mfStat => s.mfStat n
  | .mfTgt => (rd s.prf.mf n).tgt
  | .mfFb => (rd s.prf.mf n).fb
  | .idleLo => s.idleBits 0 32
  | .idleHi => s.idleBits 32 16
  | .clrLo => 0
  | .clrHi => 0

/-- The effect of a write to a PRF register. -/
def State.prfWrite (s : State) (g : PrfReg) (n : Nat) (v : Word) : State :=
  match g with
  | .pgStat => s.updPg n fun p => { p with clamped := p.clamped && !bit v 8 }
  | .group => s.setShadow (0x51000 + 4 * n) v
  | .mfStat => s.updMf n fun f =>
      { f with clamped := f.clamped && !bit v 8, ilkSeen := f.ilkSeen && !bit v 9, ovrSeen := f.ovrSeen && !bit v 10 }
  | .clrLo => s.mfCntClear 0 32 v
  | .clrHi => s.mfCntClear 32 16 v
  | _ => s

end Sys2Proof.Machine
end

