-- ==== Sys2Proof/Machine/RegsNav.lean ====
section
/-! DEFINITION. The registers of the NAV, TIM and STR blocks (10 R293; 11 R322; 12 R337). -/

namespace Sys2Proof.Machine

/-- The registers of the NAV block. -/
inductive NavReg where
  | ctrl | stat | rtkStat | rtcmCnt | hdg | hdgPitch | baseLen | acqStat | solCfg | ageCfg | rfStat | antStat | chEn | chCntClr | chStat
  | chInfo | chCnt
deriving DecidableEq, Repr

/-- The register table of NAV (24 R566). -/
def navRows : List (RegRow NavReg) :=
  [one 0x0000 0xFFFFFFFC .ctrl, one 0x0004 0xFC000000 .stat, one 0x0008 0 .rtkStat, arr 0x0010 2 0 .rtcmCnt, one 0x0020 0 .hdg,
   one 0x0024 0 .hdgPitch, one 0x0028 0 .baseLen, one 0x0030 0x0000FE00 .acqStat, one 0x0040 0xFFFCE000 .solCfg, one 0x0044 0 .ageCfg,
   arr 0x0100 6 0xFC000000 .rfStat, arr 0x0120 2 0x000000E0 .antStat, arr 0x0200 12 0 .chEn, arr 0x0240 12 0 .chCntClr,
   arr 0x1000 384 0x80000080 .chStat, arr 0x1800 384 0x0000C000 .chInfo, arr 0x2000 384 0 .chCnt]

/-- A read of a NAV register. -/
def State.navRead (s : State) (g : NavReg) (n : Nat) : Word :=
  let v := s.nav
  let c := rd v.ch n
  match g with
  | .ctrl => 0
  | .stat =>
    let tracks := (v.ch.toList.filter fun (x : NavCh) => x.st == .track).length
    orAll [place v.solMode 0 3, place v.hdgState 3 2, flag (v.whip != .normal) 5, flag (v.whip == .hold) 6, flag v.posAnt 7,
           place (min v.svUsed 255) 8 8, place tracks 16 9, flag v.chShort 25]
  | .rtkStat =>
    let fresh := match s.corrAge v.src with
      | some a => decide (a ≤ 1000000000 * field (s.live 0x60044) 16 16)
      | none => false
    orAll [place v.src 0 1, flag fresh 1, flag v.far 2, flag v.resetSeen 3, place v.stationUsed 4 12, place v.age.toNat 16 16]
  | .rtcmCnt =>
    let x := rd v.rtcm n
    orAll [place x.good.toNat 0 16, place x.crcErr.toNat 16 8, place x.unsup.toNat 24 8]
  | .hdg => if v.hdgState = 0 then fNaN else v.hdg
  | .hdgPitch => if v.hdgState = 0 then fNaN else v.pitch
  | .baseLen => if v.hdgState = 0 then fNaN else v.baseLen
  | .acqStat => place v.queue.length 0 9 ||| place v.passCnt.toNat 16 16
  | .solCfg => s.live 0x60040
  | .ageCfg => s.live 0x60044
  | .rfStat =>
    let x := rd v.rf n
    orAll [place (min x.agc 255) 0 8, place (min x.jn 255) 8 8, place (min x.blank 255) 16 8, flag x.lock 24, flag x.overload 25]
  | .antStat =>
    let x := rd v.ant n
    orAll [place x.bias 0 2, flag x.short 2, flag x.isOpen 3, flag x.shortSeen 4, place (min x.ma 255) 8 8, place x.shortCnt.toNat 16 16]
  | .chEn => getWord v.en n
  | .chCntClr => 0
  | .chStat =>
    orAll [commonWord (s.navState n) c.enF c.err [c.lolCnt, c.slipCnt] c.lastErr, place c.sig 16 8, place c.sv 24 6, flag c.ant 30]
  | .chInfo =>
    orAll [place (min c.cn0 1023) 0 10, flag c.sync 10, flag c.plock 11, flag c.half 12, flag c.slipSeen 13, place (min c.lockT 65535) 16 16]
  | .chCnt => place c.lolCnt.toNat 0 16 ||| place c.slipCnt.toNat 16 16

/-- The checks of a write to a NAV register beyond its reserved bits. -/
def State.navCheck (s : State) (r : HostReq) (g : NavReg) (v : Word) : Option Nat :=
  match g with
  | .ctrl =>
    if field v 0 2 = 0 then some stRANGE else if field v 0 2 = 3 ∧ (s.sess r.sess).level < 2 then some stACCESS else none
  | _ => none

/-- The effect of a write to a NAV register. -/
def State.navWrite (s : State) (g : NavReg) (n : Nat) (v : Word) : State :=
  match g with
  | .ctrl => s.navCtrl (field v 0 2)
  | .rtkStat => s.updNav fun x => { x with resetSeen := x.resetSeen && !bit v 3 }
  | .solCfg => s.setShadow 0x60040 v
  | .ageCfg => s.setShadow 0x60044 v
  | .rfStat => s.updNav fun x => { x with rf := upd x.rf n fun c => { c with overload := c.overload && !bit v 25 } }
  | .antStat => s.updNav fun x => { x with ant := upd x.ant n fun c => { c with shortSeen := c.shortSeen && !bit v 4 } }
  | .chEn => s.updNav fun x => { x with en := putWord x.en n v }
  | .chCntClr => s.navCntClear n v
  | .chStat => s.updNch n fun c => { c with err := c.err && !bit v 5 }
  | .chInfo => s.updNch n fun c => { c with slipSeen := c.slipSeen && !bit v 13 }
  | _ => s

/-! The TIM block (11 R322). -/

/-- The registers of the TIM block. -/
inductive TimReg where
  | stat | optLo | optHi | dvtLo | dvtHi | cvtLo | cvtHi | err | hold | pulseCfg | pulseStat | pulseSec | srcStat | ptpStat | poseStat
deriving DecidableEq, Repr

/-- The register table of TIM (24 R566). -/
def timRows : List (RegRow TimReg) :=
  [one 0x0000 0 .stat, one 0x0008 0 .optLo, one 0x000C 0 .optHi, one 0x0010 0 .dvtLo, one 0x0014 0 .dvtHi, one 0x0018 0 .cvtLo,
   one 0x001C 0 .cvtHi, one 0x0020 0 .err, one 0x0024 0 .hold, one 0x0040 0xFFFF0000 .pulseCfg, one 0x0044 0x0000FFF0 .pulseStat,
   one 0x0048 0 .pulseSec, arr 0x0060 3 0xFFFF00FC .srcStat, one 0x0080 0xFFFF00E0 .ptpStat, one 0x0100 0xFFFF00F0 .poseStat]

/-- STATE of the timebase (11 R322). -/
def TimState.code : TimState → Nat
  | .free => 0
  | .locked => 1
  | .holdover => 2
  | .recovering => 3

/-- HOLD_S: seconds since the source was lost (11 R322). -/
def State.holdS (s : State) : Nat :=
  let t := s.tim
  if t.st = .holdover ∨ (t.st = .free ∧ t.dvtSet) then min ((s.clk.opt - t.holdSince) / 1000000000) 0xFFFFFF else 0

/-- The latch that a read of TIM_OPT_LO makes: OPT high, DVT and CVT at the same instant, 0 while invalid (11 R322). -/
def State.timLatch (s : State) : State :=
  let o := s.clk.opt
  let d := if s.tim.dvtSet then s.dvtAt o else 0
  let c := (s.cvtAt o).getD 0
  s.updTim fun t => { t with latch := (hi32 o, lo32 d, hi32 d, lo32 c, hi32 c) }

/-- `LEAP` of `TIM_STAT` (11 R322): the leap count in force. While no image is in force and no source has given a count it holds its
reset value, 0 (00 R3): LEAP_DEFAULT is a field of the image. -/
def State.leapField (s : State) : Nat :=
  if s.img.tables.isEmpty ∧ s.tim.leapGnss = none ∧ s.tim.ptp.utcOffset = none ∧ s.tim.leapHost = none then 0 else s.leap

/-- A read of a TIM register, with the latch that a read of TIM_OPT_LO makes. -/
def State.timRead (s : State) (g : TimReg) (n : Nat) : Word × State :=
  let t := s.tim
  match g with
  | .stat =>
    (orAll [place t.st.code 0 2, flag t.dvtSet 2, place t.src 3 2, flag (t.delay != t.delayWant) 5, flag (s.cvtAt s.clk.opt).isSome 6,
            flag t.cvtHost 7, place s.leapField 8 8, place t.epoch.toNat 16 16], s)
  | .optLo => (lo32 s.clk.opt, s.timLatch)
  | .optHi => (t.latch.1, s)
  | .dvtLo => (t.latch.2.1, s)
  | .dvtHi => (t.latch.2.2.1, s)
  | .cvtLo => (t.latch.2.2.2.1, s)
  | .cvtHi => (t.latch.2.2.2.2, s)
  | .err => (ofInt32 (clampInt (-2147483648) 2147483647 t.err), s)
  | .hold => (place s.holdS 0 24 ||| place t.lossCnt.toNat 24 8, s)
  | .pulseCfg => (place (BitVec.ofInt 16 t.delayWant).toNat 0 16, s)
  | .pulseStat => (orAll [place t.pulseState 0 2, flag t.pulseFirst 2, flag t.pulseWalk 3, place t.pulseCnt.toNat 16 16], s)
  | .pulseSec => (t.pulseSec, s)
  | .srcStat => (orAll [flag (rd t.srcs n).qual 0, flag (t.src == n + 1) 1, place (rd t.srcs n).lossCnt.toNat 8 8], s)
  | .ptpStat => (orAll [place t.ptp.port 0 4, flag (t.ptp.port == 6) 4, place s.ptpClass 8 8], s)
  | .poseStat =>
    let dr := match t.pose.lastSol with
      | some o => min ((s.clk.opt - o) / 1000000000) 255
      | none => min (s.clk.opt / 1000000000) 255
    (orAll [place t.pose.mode 0 2, place t.pose.hdgSrc 2 2, place dr 8 8], s)

/-- The checks of a write to a TIM register beyond its reserved bits. -/
def State.timCheck (_s : State) (g : TimReg) (v : Word) : Option Nat :=
  match g with
  | .pulseCfg =>
    let d := (BitVec.ofNat 16 v.toNat).toInt
    rangeIf (decide (-20000 ≤ d) && decide (d ≤ 20000))
  | _ => none

/-- The effect of a write to a TIM register (11 R306). -/
def State.timWrite (s : State) (g : TimReg) (v : Word) : State :=
  match g with
  | .pulseCfg => s.updTim fun t => { t with delayWant := (BitVec.ofNat 16 v.toNat).toInt }
  | _ => s

/-! The STR block (12 R337). -/

/-- The registers of the STR block; `group` are the points of the line. -/
inductive StrReg where
  | cmd | stat | ready | cnt | errY | errPsi | kappa | target | remain | lineHdr | line | pt
deriving DecidableEq, Repr

/-- The register table of STR (24 R566). -/
def strRows : List (RegRow StrReg) :=
  [one 0x0000 0xFFFFFFFC .cmd, one 0x0004 0xFFC0F0C0 .stat, one 0x0008 0xFFFFFC00 .ready, one 0x000C 0 .cnt, one 0x0010 0 .errY,
   one 0x0014 0 .errPsi, one 0x0018 0 .kappa, one 0x001C 0 .target, one 0x0020 0 .remain, one 0x0100 0xFFFF80FC .lineHdr,
   arr 0x0104 6 0 .line, arr 0x0200 192 0 .pt]

/-- STATE of steering (12 R337). -/
def StrState.code : StrState → Nat
  | .off => 0
  | .ready => 1
  | .engaged => 2
  | .coast => 3

/-- A read of an STR register. -/
def State.strRead (s : State) (g : StrReg) (n : Nat) : Word :=
  let t := s.str
  match g with
  | .cmd => 0
  | .stat =>
    orAll [place t.st.code 0 2, flag t.dir 2, flag t.curvLim 3, flag t.refused 4, flag t.coastSeen 5, place t.reason.toNat 8 4,
           place t.seg 16 6]
  | .ready => place t.met.toNat 0 10
  | .cnt => orAll [place t.engageCnt.toNat 0 16, place t.lateCnt.toNat 16 8, place t.coastCnt.toNat 24 8]
  | .errY => t.errY
  | .errPsi => t.errPsi
  | .kappa => t.kappa
  | .target => t.target
  | .remain => t.remain
  | .lineHdr => s.live 0x80100
  | .line => s.live (0x80104 + 4 * n)
  | .pt => s.live (0x80200 + 4 * n)

/-- The checks of a write to an STR register beyond its reserved bits. -/
def State.strCheck (_s : State) (g : StrReg) (v : Word) : Option Nat :=
  match g with
  | .cmd => rangeIf (field v 0 2 == 1 || field v 0 2 == 2)
  | .lineHdr => rangeIf (field v 0 2 != 3)
  | _ => none

/-- The effect of a write to an STR register: an ENGAGE or a DISENGAGE waits for the next guidance epoch (12 R331). -/
def State.strWrite (s : State) (g : StrReg) (n : Nat) (v : Word) : State :=
  match g with
  | .cmd => s.updStr fun t => { t with cmd := some (field v 0 2 == 1) }
  | .stat => s.updStr fun t => { t with refused := t.refused && !bit v 4, coastSeen := t.coastSeen && !bit v 5 }
  | .lineHdr => s.setShadow 0x80100 v
  | .line => s.setShadow (0x80104 + 4 * n) v
  | .pt => s.setShadow (0x80200 + 4 * n) v
  | _ => s

end Sys2Proof.Machine
end

