-- ==== Sys2Proof/Machine/Sensors.lean ====
section
/-! DEFINITION. Sensor inputs and the measurement frame (06). -/

namespace Sys2Proof.Machine

/-- The state with the sensor block changed. -/
def State.updSns (s : State) (f : SnsSt → SnsSt) : State := { s with sns := f s.sns }

/-! Configuration (02 R42, 06 R177). -/

/-- The option of AIN `n`, and the supply it is ratiometric to. -/
def State.ainMode (s : State) (n : Nat) : Nat := s.img.pinOr 2 (69 + n) 0x10
def State.ainSupply (s : State) (n : Nat) : Nat := ((s.img.pin 2 (69 + n)).map fun p => p.2).getD 0
/-- Whether FIN `n` is quadrature A (02 R42). -/
def State.finQuad (s : State) (n : Nat) : Bool := s.img.pinOr 2 (93 + n) 0x20 == 0x23
/-- Whether DIN `n` is active low. -/
def State.dinLow (s : State) (n : Nat) : Bool := s.img.pinOr 3 (73 + n) 0x30 == 0x31
/-- Whether TS `n` is a PT1000. -/
def State.tsPt (s : State) (n : Nat) : Bool := s.img.pinOr 4 (41 + n) 0x40 == 0x41
/-- A field of the AIN, FIN, DIN or TS record `n`, or its default. -/
def State.snsField {α : Type} (s : State) (sid len n : Nat) (f : List Byte → α) (dflt : α) : α :=
  match s.img.record 0x0201 sid len n with
  | some b => f b
  | none => dflt

/-- LO_FAULT and HI_FAULT of AIN `n` (06 R177). -/
def State.ainLimits (s : State) (n : Nat) : Nat × Nat :=
  let d := match s.ainMode n with
    | 0x11 => (500, 9500)
    | 0x12 => (7200, 42000)
    | _ => (0, 0xFFFF)
  (s.snsField 1 16 n (fun b => u16 b 2) d.1, s.snsField 1 16 n (fun b => u16 b 4) d.2)

/-! Analog inputs (06 R166 to R168). -/

/-- The mean of x over an image's conversions, exactly, in the unit of the limits (0.1 mV, 0.01 %, 0.5 µA). -/
def meanUnits (mode : Nat) (raw sup : List Nat) : Q :=
  let sum := if mode = 0x11 then
      (raw.zip sup).foldl (fun a p => a.add ((Q.ofInt (10000 * p.1 : Nat)).div (Q.ofInt (p.2 : Nat)))) (Q.ofInt 0)
    else Q.ofInt ((raw.foldl (fun a x => a + x) 0 : Nat) : Int)
  sum.div (Q.ofInt (max 1 raw.length : Nat))

/-- x of a mean: V, a fraction of the supply, or mA (06 R166). -/
def unitsToX (mode : Nat) (q : Q) : F32 :=
  let k := if mode = 0x12 then 2000 else 10000
  f32 (fpRat fmt32 q.num (q.den * k))

/-- The nearest instants of a supply's voltage to its range (06 R167): 4.85 V to 5.15 V in 0.1 mV. -/
def supInRange (v : Nat) : Bool := decide (48500 ≤ v) && decide (v ≤ 51500)

/-- The instant since which a supply has stayed in range, after an image whose window began at `w` (06 R167). -/
def supSince (old : Option Opt) (w : Opt) (l : List Nat) : Option Opt :=
  (l.zipIdx).foldl (fun a p => if supInRange p.1 then (match a with
    | some t => some t
    | none => some (w + 12500 * p.2)) else none) old

/-- Whether a ratiometric input is invalid for its supply in this image. -/
def supplyBad (since : Option Opt) (w : Opt) (l : List Nat) : Bool :=
  l.any (fun v => !supInRange v) || (match since with
    | some t => decide (w < t + 1000000)
    | none => true)

/-- The engineering value of x (06 R166). -/
def State.ainEngineer (s : State) (n : Nat) (x : F32) : Sig :=
  match s.img.curve (s.snsField 1 16 n (fun b => u16 b 6) 0xFFFF) with
  | some c => curveEval c (x, true) sigNone
  | none => (fadd (fmul x (s.snsField 1 16 n (fun b => f32At b 8) fOne)) (s.snsField 1 16 n (fun b => f32At b 12) fZero), true)

/-- α of a filter corner (06 R166). -/
def filterAlpha (hz : Nat) : F32 :=
  fsub fOne (expRatio (fmul (fmul (0x40C90FDB) (fOfInt hz)) (fRat 50 1000000)) fOne)

/-- AIN `n` in a new image: `w` is the start of its window, `since` and `sup` its supply's. -/
def State.ainImage (s : State) (n : Nat) (c : AinCh) (w : Opt) (raw : List Nat) (since : Option Opt) (sup : List Nat) : AinCh :=
  let mode := s.ainMode n
  let q := meanUnits mode raw sup
  let m := unitsToX mode q
  let lim := s.ainLimits n
  let supBad := mode == 0x11 && supplyBad since w sup
  let judged := !supBad && c.shuntOff.isNone
  let below := decide (q.num < (lim.1 : Int) * q.den)
  let above := decide ((lim.2 : Int) * q.den < q.num)
  let limit := if judged then (if below || above then some 0 else match c.limit with
      | none => none
      | some k => if 10 ≤ k + 1 then none else some (k + 1)) else c.limit
  let valid := judged && limit.isNone
  let hz := s.snsField 1 16 n (fun b => u16 b 0) 0
  let y := some (match c.y with
    | none => m
    | some y0 => if valid then fadd y0 (fmul (filterAlpha hz) (fsub m y0)) else y0)
  let x := if hz = 0 then m else y.getD m
  let eng := if valid then (s.ainEngineer n x).word else fNaN
  { c with
    raw := BitVec.ofNat 16 (raw.getLastD 0), valid := valid, low := judged && below, high := judged && above, supBad := supBad,
    offImg := c.shuntOff.isSome,
    faultSeen := c.faultSeen || !valid, faultCnt := if c.valid && !valid then satInc c.faultCnt else c.faultCnt,
    x := x, eng := eng, y := y, limit := limit, sum := dadd c.sum (dOfF m), n := c.n + 1, allValid := c.allValid && valid }

/-! Frequency inputs (06 R169, R170). -/

/-- The time stamp of an edge, in steps of 2.5 ns (06 R164). -/
def edgeStamp (o : Opt) : Nat := 2 * o / 5

/-- FIN `n` at a cut-off: its frequency from the last AVG counted edges before it, with the count and the errors that the image takes. -/
def State.finImage (s : State) (n : Nat) (c : FinCh) (cut : Opt) : FinCh :=
  let avg := s.snsField 2 12 n (fun b => u8 b 0) 2
  let l := (c.edges.filter fun e => decide (e < cut)).take avg
  let count := if c.posClr then 0 else c.count
  let c := { c with
    count := count, pos := count, posClr := false, zero := c.timedOut, qerrSeen := c.qerrSeen || decide (0 < c.errs),
    qerrCnt := satAdd c.qerrCnt c.errs, errs := 0 }
  match l, l.getLast? with
  | newest :: _ :: _, some oldest =>
    let d := edgeStamp newest - edgeStamp oldest
    let f := fRat ((l.length - 1 : Nat) * 400000000) d
    let overV := decide (d = 0) || flt (s.snsField 2 12 n (fun b => f32At b 8) (fOfInt 25000)) f
    { c with valid := !overV, zero := false, timedOut := false, overV := overV, avgUsed := BitVec.ofNat 8 l.length, freq := f,
             eng := if overV then fNaN else fmul f (s.snsField 2 12 n (fun b => f32At b 4) fOne) }
  | _, _ =>
    if c.zero then { c with valid := true, overV := false, avgUsed := BitVec.ofNat 8 l.length, freq := fZero, eng := fZero }
    else { c with valid := false, overV := false, avgUsed := BitVec.ofNat 8 l.length, freq := fNaN, eng := fNaN }

/-! Digital inputs (06 R171). -/

/-- DIN after one 10 µs sample of `mv` mV, `need` samples being the debounce time. -/
def DinCh.sample (c : DinCh) (low : Bool) (need mv : Nat) : DinCh :=
  let level := if 6000 < mv then true else if mv < 3000 then false else c.level
  let act := level != low
  if act = c.state then { level := level, state := c.state, run := 0 }
  else if need ≤ c.run + 1 then { level := level, state := act, run := 0 }
  else { level := level, state := c.state, run := c.run + 1 }

/-! Temperature inputs (06 R173, R174). -/

/-- The temperature of a resistance: through the CURVE or the built-in characteristic, −50 °C to +250 °C. -/
def State.tsConvert (s : State) (n : Nat) (r : F32) : Sig :=
  let lim (x : F32) : F32 := fclamp (fOfInt (-50)) (fOfInt 250) x
  match s.img.curve (s.snsField 4 4 n (fun b => u16 b 0) 0xFFFF) with
  | some c => let v := curveEval c (r, true) sigNone
              (lim v.1, v.2)
  | none => (lim (if s.tsPt n then ptTemp r else ntcTemp r), true)

/-- Whether a resistance lies in the open or short range of TS `n` (06 R174). -/
def State.tsFault (s : State) (n : Nat) (x : F32) : Bool :=
  flt (if s.tsPt n then fOfInt 2500 else fOfInt 1000000) x || flt x (if s.tsPt n then fOfInt 500 else fOfInt 20)

/-- FAULT14 and FAULT15 of the shutdown comparators, from their inputs' resistances (17 R439). -/
def State.shdnFaults (s : State) (l : List (Option F32)) : State :=
  let f (n : Nat) (old : Bool) : Bool := match l.getD n none with
    | some x => s.tsFault n x
    | none => old
  let x := s.col.shdn
  { s with col := { s.col with shdn := { x with fault14 := f 14 x.fault14, fault15 := f 15 x.fault15 } } }

/-- TS `n` after a conversion. -/
def State.tsSample (s : State) (n : Nat) (c : TsCh) (r : Option F32) : TsCh :=
  match r with
  | none => { c with valid := false }
  | some x =>
    let hi := if s.tsPt n then fOfInt 2500 else fOfInt 1000000
    let lo := if s.tsPt n then fOfInt 500 else fOfInt 20
    let above := flt hi x
    let below := flt x lo
    let o := if above then c.openRun + 1 else 0
    let k := if below then c.shortRun + 1 else 0
    let g := if above || below then 0 else c.okRun + 1
    let isOpen := decide (3 ≤ o) || (c.isOpen && decide (g < 10))
    let short := decide (3 ≤ k) || (c.short && decide (g < 10))
    let v := if isOpen || short then (fOfInt 255, true) else s.tsConvert n x
    { c with temp := v.1, valid := v.2, isOpen := isOpen, short := short, faultSeen := c.faultSeen || isOpen || short,
             openRun := o, shortRun := k, okRun := g }

/-! Sensor supplies (06 R176). -/

/-- Whether supply `k` is meant to be on (02 R42, 03 R77): option 0x70 once released, 0x71 from step 6, 0x72 never. -/
def State.supWanted (s : State) (k : Nat) : Bool :=
  match s.img.pinOr 2 (117 + k) 0x70 with
  | 0x71 => true
  | 0x72 => false
  | _ => match s.img.sect 0x0002 0x0001 with
    | none => false
    | some b => (List.range (u16 b 0)).any fun g => s.boot.released.getLsbD g && (u8 b (25 + 24 * g)).testBit (1 + k)

/-- Supply `k` in a new image: the mean of its conversions (06 R164), its state, and since when its current has been in the limit; the window's
start stands for the instant at which the current reached it (log 110). -/
def State.supImage (s : State) (k : Nat) (c : SupCh) (w : Opt) (v : List Nat) (ma : Nat) : SupCh :=
  let st := match c.live with
    | .tripped => SupState.tripped
    | _ => if s.supWanted k = false then .off else if 120 ≤ ma then .limit else .on
  let sum := v.foldl (fun a x => a + x) 0
  let n := max 1 v.length
  { c with st := st, live := st, limitAt := if st = .limit then some (c.limitAt.getD w) else none,
           v := fRat (sum : Nat) (10000 * n), mv := (sum + 5 * n) / (10 * n), ma := ma, okSince := supSince c.okSince w v,
           tripSeen := c.tripSeen || decide (0 < c.trips), tripCnt := satAdd c.tripCnt c.trips, trips := 0 }

/-! The image (06 R163). -/

/-- The values of the image as CTL reads them. -/
def State.imageOf (s : State) : ImageSt :=
  let q := s.sns
  { ainEng := q.ain.map fun (c : AinCh) => sIf c.valid c.eng, ainX := q.ain.map fun (c : AinCh) => sIf c.valid c.x,
    fin := q.fin.map fun (c : FinCh) => sIf c.valid c.eng,
    pos := Vector.ofFn fun i => if s.finQuad i.val then (fOfInt (rd q.fin i.val).pos.toInt, true) else sigNone,
    din := q.din.map fun (c : DinCh) => sBool c.state, ts := q.ts.map fun (c : TsCh) => (c.temp, c.valid),
    sup := q.sup.map fun (c : SupCh) => sIf true c.v,
    flow := s.flw.bridge.map fun (b : BridgeSt) => sIf b.valid b.s,
    imu := q.imu.v.map fun x => sIf q.imu.valid x, imuOpt := q.imu.last }

/-- A digital input after an image's samples, and whether it changed state at one of them (06 R171, R181). -/
def dinImage (low : Bool) (need : Nat) (x : DinCh) (l : List Nat) : DinCh × Bool :=
  l.foldl (fun a mv => let y := a.1.sample low need mv
                       (y, a.2 || y.state != a.1.state)) (x, false)

/-- The inputs after an image's conversions; a set of temperatures is in the image whose tick follows tick 200j (06 R164). -/
def State.convert (s : State) (c : ConvIn) (tsDue : Bool) : State :=
  let w := c.opt - 50000
  let sup : Vector SupCh 4 := mapIdxV s.sns.sup fun k x => s.supImage k x w (c.sup.getD k []) (c.supMa.getD k 0)
  let s1 := s.updSns fun q => { q with sup := sup }
  let ain := mapIdxV s1.sns.ain fun n x =>
    let k := s1.ainSupply n
    s1.ainImage n x w (c.ain.getD n []) (rd s1.sns.sup k).okSince (c.sup.getD k [])
  let fin := mapIdxV s1.sns.fin fun n x => s1.finImage n x c.opt
  let need (n : Nat) : Nat := 1 + 100 * s1.snsField 3 4 n (fun b => u16 b 0) 5
  let dins : Vector (DinCh × Bool) 16 := Vector.ofFn fun i => dinImage (s1.dinLow i.val) (need i.val) (rd s1.sns.din i.val) (c.din.getD i.val [])
  let din := dins.map Prod.fst
  let changed := (List.range 16).foldl (fun a n => if (rd dins n).2 then a ||| BitVec.ofNat 16 (2 ^ n) else a) s1.sns.dinChanged
  let ts := if tsDue then mapIdxV s1.sns.ts fun n x => s1.tsSample n x (c.ts.getD n none) else s1.sns.ts
  let bad := (List.range 4).foldl (fun a k =>
    if (c.sup.getD k []).any (fun v => !supInRange v) then a ||| BitVec.ofNat 4 (2 ^ k) else a) s1.sns.supFault
  let s2 := s1.updSns fun q => { q with
    ain := ain, fin := fin, din := din, ts := ts, dinChanged := changed, supFault := bad, ticks := q.ticks + 1,
    crank := q.crank || s1.pwr.supply == .crank, imuImg := q.imu,
    convFail := if tsDue then (List.range 16).any (fun n => (c.ts.getD n none).isNone) else q.convFail }
  let s3 := s2.shdnFaults c.ts
  s3.updFlw fun f => { f with ls := mapIdxV f.ls fun k x => s3.lossQuiet k x (c.codes.getD k []) }

/-- The bits of a vector whose elements satisfy `p`. -/
def bitsOf {α : Type} {n : Nat} (v : Vector α n) (p : α → Bool) : Nat :=
  (v.toList.zipIdx).foldl (fun a x => if p x.1 then a + 2 ^ x.2 else a) 0

/-- AIN `n` of the frame: the mean of every conversion of the window, through the engineering conversion (06 R182). -/
def State.frameAin (s : State) (n : Nat) : F32 :=
  let c := rd s.sns.ain n
  if c.allValid && decide (0 < c.n) then (s.ainEngineer n (fOfD (ddiv c.sum (dOfInt c.n)))).word else fNaN

/-- Bytes 4 to 511 of the frame of the window that ends now (06 R181). -/
def State.frameBody (s : State) (f : FlowWindow) (opt : Opt) : List Byte :=
  let q := s.sns
  let fl := (if s.tim.dvtSet then 0 else 1) + (if q.ticks = 200 then 0 else 2) + (if q.crank then 4 else 0) + 16 * q.supFault.toNat
  let f4 (l : List F32) : List Byte := (l.map fun x => leBytes 4 x.toNat).flatten
  leBytes 2 q.ticks ++ leBytes 2 fl ++ leBytes 8 opt ++ leBytes 8 (s.dvtAt opt)
    ++ leBytes 4 (bitsOf q.ain fun c => c.allValid && decide (0 < c.n)) ++ leBytes 4 (bitsOf q.fin FinCh.valid)
    ++ leBytes 2 (bitsOf q.ts TsCh.valid) ++ leBytes 2 (bitsOf q.ts fun c => c.isOpen || c.short)
    ++ leBytes 2 (bitsOf q.din DinCh.state) ++ leBytes 2 q.dinChanged.toNat
    ++ leBytes 4 f.wet.word.toNat ++ leBytes 4 f.dry.word.toNat ++ leBytes 4 f.moist.word.toNat ++ leBytes 4 f.flags.toNat
    ++ f4 ((List.range 24).map s.frameAin) ++ f4 (q.fin.toList.map fun c => if c.valid then c.eng else fNaN)
    ++ f4 (q.ts.toList.map fun c => if c.valid then c.temp else fNaN)
    ++ (s.flw.ls.toList.map fun c => (c.last.toList.map fun k => leBytes 2 k.toNat).flatten).flatten
    ++ span (s.tim.pose.rcd ++ List.replicate 64 0) 0 64 ++ leBytes 8 0

/-- The period of the loss spectrum that the frame with window end `opt` belongs to (07 R207), and whether it is its last frame: the DVT second
of its B_n, or the 100 frames before DVT is set; `tick` is the number of the tick of its last image. -/
def State.spectrumKey (s : State) (opt : Opt) (tick : Nat) : (Bool × Nat) × Bool :=
  if s.tim.dvtSet then
    let d := s.dvtAt (opt + 110000)
    ((true, (d + 5000000) / 1000000000), (d + 5000000) / 1000000000 != (d + 15000000) / 1000000000)
  else
    let n := (tick + 2) / 200
    ((false, n / 100), n % 100 == 99)

/-- The end of a frame window at a cut-off (06 R179, R180): the flow window closes and the frame is formed, with what the mapper gets at its
publication; the first, partial window after the start gives no frame.  `tick` is the number of the tick whose cut-off it is. -/
def State.windowClose (s : State) (opt : Opt) (tick : Nat) : State :=
  let ticks := s.sns.ticks
  let gen := s.settings.calGen
  let change := s.flw.calChange
  let crop := s.crop
  let whole := s.sns.frameOpt != 0
  let seq : Word := if s.sns.haveFrame then s.sns.frameSeq + 1 else 0
  let key := s.spectrumKey opt tick
  let s0 := if whole then s.spectrumFrame key.1 key.2 seq else s
  let (f, s1) := s0.flowClose ticks whole
  let body := { s0 with flw := s1.flw }.frameBody f opt
  let s2 := s1.updSns fun q => { q with
    next := if whole then some body else q.next, frameOpt := opt, ticks := 0, dinChanged := 0, supFault := 0, crank := false,
    ain := q.ain.map fun (c : AinCh) => { c with sum := 0, n := 0, allValid := true } }
  let s3 := s2.updTim fun t => { t with poseSns := t.poseSns.take }
  if whole then
    s3.updYld fun y => { y with inbox := some {
      opt := opt, wet := f.wet, dry := f.dry, moist := f.moist, ticks := ticks, moistHeld := f.held, degraded := bit f.flags 4,
      calGen := gen, change := change, crop := crop, spent := false } }
  else s3

/-- INPUT_IMAGE_PUBLISH (06 R163): at a tick's cut-off its image goes into the CTL mailbox, replacing an unread one (01 R14); the
cut-off of tick 200n − 2 ends the frame window.  At another instant, or a second time at one cut-off, there is no image. -/
def execInputImagePublish (c : ConvIn) (s : State) : Out :=
  let s := s.begin c.opt
  match s.cutTick c.opt with
  | none => .next s
  | some k =>
    if s.runs rSNS = false ∨ s.inReset rSNS 0 ∨ s.sns.cut = some c.opt then .next s
    else
      let tick := s.clk.tick + k
      let s1 := s.convert c (decide (200 < tick) && tick % 200 == 1)
      let s2 := s1.updSns fun q => { q with
        cut := some c.opt,
        mail := some s1.imageOf, mailSeq := q.mailSeq + 1, mailSkip := if q.mail.isSome then q.mailSkip + 1 else q.mailSkip }
      if (s.clk.tickSec + k) % 200 = 198 then .next (s2.windowClose c.opt tick) else .next s2

/-- MEAS_FRAME_PUBLISH (06 R179 to R181): the frame takes its FRAME_SEQ and goes to the CTL mailbox, to the FIFO channels to SVC and NET, to its
stream, to the state machines and to the recorder's FRAME samples. -/
def execMeasFramePublish (o : Opt) (s : State) : Out :=
  let s := s.begin o
  match s.sns.next with
  | none => .next s
  | some b =>
    if s.runs rSNS = false then .next s
    else
      let seq : Word := if s.sns.haveFrame then s.sns.frameSeq + 1 else 0
      let frame := leBytes 4 seq.toNat ++ b
      let s0 := ((s.fifoWrite rSNS).fifoWrite rSNS).flowPublish
      let s1 := s0.updSns fun q => { q with
        next := none, frame := frame, frameSeq := seq, haveFrame := true, frameBox := q.frameBox.write o }
      let s2 := s1.publish 1 (fun _ => true) (u64 frame 8) (u64 frame 16) frame
      .next ((s2.smPushAll { opt := o, code := 6, arg := 0, raised := none }).recSample 0)

/-- SHUNT_DISCONNECT (06 R168): a 4 mA to 20 mA input above 25 mA for 1 ms. -/
def execShuntDisconnect (o : Opt) (ch : Fin 24) (s : State) : Out :=
  let s := s.begin o
  if s.runs rSNS = false ∨ s.ainMode ch.val ≠ 0x12 ∨ (rd s.sns.ain ch.val).shuntOff.isSome then .next s
  else .next (s.updSns fun q => { q with ain := upd q.ain ch.val fun c => { c with shuntOff := some o } })

/-- SHUNT_RECONNECT (06 R168): 1 s later. -/
def execShuntReconnect (o : Opt) (ch : Fin 24) (s : State) : Out :=
  let s := s.begin o
  match (rd s.sns.ain ch.val).shuntOff with
  | some t => if t + 1000000000 ≤ o then
      .next (s.updSns fun q => { q with ain := upd q.ain ch.val fun c => { c with shuntOff := none } }) else .next s
  | none => .next s

/-- FIN_ZERO_TIMEOUT (06 R169): no counted edge within ZERO_MS; earlier edges do not count afterwards. -/
def execFinZeroTimeout (o : Opt) (ch : Fin 24) (s : State) : Out :=
  let s := s.begin o
  let c := rd s.sns.fin ch.val
  let base := if c.last = 0 then s.sns.start else c.last
  let lim := s.snsField 2 12 ch.val (fun b => u16 b 2) 2000 * 1000000
  if s.runs rSNS = false ∨ o < base + lim then .next s
  else .next (s.updSns fun q => { q with fin := upd q.fin ch.val fun x => { x with timedOut := true, edges := [] } })

/-- A counted edge of FIN `n` (06 R169). -/
def State.countEdge (s : State) (n : Nat) (o : Opt) (rising : Bool) : State :=
  let both := s.snsField 2 12 n (fun b => u8 b 1) 0 == 1
  s.updSns fun q => { q with
    fin := upd q.fin n fun c => { c with
      level := rising, edges := if rising || both then (o :: c.edges).take 80 else c.edges, last := if rising || both then o else c.last } }

/-- FIN_EDGE (06 R169, R170): the edge is counted; in quadrature it moves the count by the phase, and A and B changing together
count an error. -/
def execFinEdge (o : Opt) (ch : Fin 24) (rising partnerEdge : Bool) (s : State) : Out :=
  let s := s.begin o
  if s.runs rSNS = false then .next s
  else
    let n := ch.val
    let a := n / 2 * 2
    let b := a + 1
    let quad := s.finQuad a
    let la := (rd s.sns.fin a).level
    let lb := (rd s.sns.fin b).level
    let s1 := s.countEdge n o rising
    if quad = false then .next s1
    else if partnerEdge then
      let other := if n = a then b else a
      let s2 := s1.countEdge other o (!(if other = a then la else lb))
      .next (s2.updSns fun q => { q with fin := upd q.fin a fun c => { c with errs := c.errs + 1 } })
    else
      let upward := if n = a then rising != lb else rising == la
      .next (s1.updSns fun q => { q with fin := upd q.fin a fun c => { c with count := if upward then c.count + 1 else c.count - 1 } })

/-- Whether supply `k` has stood in its limit for 2 ms at `o` (06 R176); while SNS forms no image nothing shows its current, and a supply that
is on may be in the limit. -/
def State.supLimited (s : State) (k : Nat) (o : Opt) : Bool :=
  let c := rd s.sns.sup k
  if s.runs rSNS && !s.inReset rSNS 0 && s.sns.cut.isSome then (match c.limitAt with
    | some t => c.live == .limit && decide (t + 2000000 ≤ o)
    | none => false)
  else c.live == .on || c.live == .limit

/-- SUP5_TRIP (06 R176): 2 ms in the current limit. -/
def execSup5Trip (o : Opt) (ch : Fin 4) (s : State) : Out :=
  let s := s.begin o
  if s.supLimited ch.val o = false then .next s
  else .next (s.updSns fun q => { q with
      sup := upd q.sup ch.val fun c => { c with live := .tripped, limitAt := none, trips := c.trips + 1, tripAt := o } })

/-- SUP5_RETRY (06 R176): 1 s after the trip. -/
def execSup5Retry (o : Opt) (ch : Fin 4) (s : State) : Out :=
  let s := s.begin o
  let c := rd s.sns.sup ch.val
  if c.live = .tripped ∧ c.tripAt + 1000000000 ≤ o then
    .next (s.updSns fun q => { q with sup := upd q.sup ch.val fun x => { x with live := .on } })
  else .next s

/-- IMU_SAMPLE (06 R165, R175): six values on the module axes, which also go to NAV through their FIFO channel; a sample that fails the IMU's
check makes it invalid. -/
def execImuSample (o : Opt) (v : List F32) (ok : Bool) (s : State) : Out :=
  let s := s.begin o
  if s.runs rSNS = false then .next s
  else if ok then
    let x : Vector F32 6 := Vector.ofFn fun i => v.getD i.val 0
    .next ((s.fifoWrite rSNS).updSns fun q => { q with imu := { v := x, valid := true, last := o }, imuFifo := q.imuFifo ++ [(o, x)] })
  else .next (s.updSns fun q => { q with imu := { q.imu with valid := false, last := o } })

/-- IMU_TIMEOUT (06 R175): no sample for 5 ms. -/
def execImuTimeout (o : Opt) (s : State) : Out :=
  let s := s.begin o
  if s.runs rSNS = false ∨ o < max s.sns.imu.last s.sns.start + 5000000 then .next s
  else .next (s.updSns fun q => { q with imu := { q.imu with valid := false } })

/-- The effect of a write of SNS_FIN_POS_CLR (06 R183): counts of quadrature inputs are zeroed at the next cut-off. -/
def State.finPosClear (s : State) (m : Nat) : State :=
  let quad := (List.range 24).filter fun n => s.finQuad n && m.testBit n
  s.updSns fun q => { q with fin := quad.foldl (fun v n => upd v n fun c => { c with posClr := true }) q.fin }

end Sys2Proof.Machine
end

