-- ==== Sys2Proof/Machine/Regions.lean ====
section
/-! DEFINITION. Unit and region faults (01 R20, R21), cluster resets (01 R25; 03 R87), and the power links with their dies (01 R26 to R32,
R571). -/

namespace Sys2Proof.Machine

/-! Unit faults (01 R20, R21). -/

/-- The region of a unit (01). -/
def UnitRef.region : UnitRef → Nat
  | .core _ => rSVC
  | .proc _ => rCTL
  | .slot _ => rCTL
  | .loss _ => rSNS
  | .nav _ => rNAV
  | .cam _ => rVIS
  | .pipe _ => rVIS
  | .can _ => rNET
  | .eth _ => rNET
  | .vlv n => 6 + vlvDie n
  | .psw n => 6 + pswDie n
  | .fan n => 6 + fanDie n

/-- The state with service core `n` changed. -/
def State.updCore (s : State) (n : Nat) (f : CoreSt → CoreSt) : State := { s with boot := { s.boot with core := upd s.boot.core n f } }

/-- A unit put in FAULT with LAST_ERR `code` (01 R20, R21), whether it is enabled or not: nothing of another unit changes but what its own
fault brings about.  A unit that is in FAULT already takes the code alone.  A cooling channel faults as FAILED_BLOCKED (log 96). -/
def State.faultUnit (s : State) (u : UnitRef) (code : Byte) : State :=
  match u with
  | .core n => (s.updCore n fun c => { c with fault := true, lastErr := code }).unitFault 0x00 n code.toNat
  | .proc p => (s.procDown p code).unitFault 0x04 p code.toNat
  | .slot n =>
    if (s.slot n).enF && !(s.slot n).fault then s.slotFault n code (s.clk.tick + 1)
    else
      let t := s.updSlot n fun c => { c with fault := true, lastErr := code }
      if (s.slot n).fault then t else t.unitFault 0x04 n code.toNat
  | .loss c => (s.updLs c fun x =>
      { x with fault := true, lastErr := code, whole := false, counting := false, inState := none }).unitFault 0x03 c code.toNat
  | .nav n => ((s.navRelease n).updNch n fun c => { c with fault := true, lastErr := code }).unitFault 0x06 n code.toNat
  | .cam n => ((s.dropFrame n code.toNat).updCam n fun c => { c with fault := true, lastErr := code }).unitFault 0x0A n code.toNat
  | .pipe p =>
    let t := match (rd s.vis.pipe p).mem with
      | some j => s.updCam j.cam fun c => { c with rawUsed := c.rawUsed - 1 }
      | none => s
    (t.updPipe p fun x => { x with
      run := false, lastErr := code, mem := none, inl := none, tap := if x.tap = .writing then .armed else x.tap }).unitFault 0x0A (6 + p) code.toNat
  | .can n => (s.updCc n fun c => { c with fault := true, lastErr := code, sending := none }).unitFault 0x0E n code.toNat
  | .eth n => (s.updPort n fun x => { x with fault := true, lastErr := code }).unitFault 0x0F n code.toNat
  | .vlv n =>
    if s.vlvMode n = 0 ∨ (rd s.vlv.ch n).st = .fault then
      let t := s.updVlv n fun c => { c with st := .fault, lastErr := code }
      if (rd s.vlv.ch n).st = .fault then t else t.unitFault 0x0B n code.toNat
    else s.vlvFault n code
  | .psw n => (s.updPsw n fun c => { c with lastErr := code }).pswFault n
  | .fan n => s.colFail n .failedBlocked code s.clk.opt

/-- The state with region `n` changed. -/
def State.updRegion (s : State) (n : Nat) (f : Region → Region) : State := { s with regions := upd s.regions n f }

/-- WINDOW_VIOLATION (01 R20): the write is blocked and the writing unit faults; the owner of the window is not affected. -/
def execWindowViolation (o : Opt) (u : UnitRef) (s : State) : Out :=
  let s := s.begin o
  .next (if s.runs u.region then s.faultUnit u 0xF0 else s)

/-- MEMORY_UNCORRECTABLE (01 R21): the owner of the word faults; a word of no unit faults its region, and what follows depends on the
region. -/
def execMemoryUncorrectable (o : Opt) (w : MemOwner) (s : State) : Out :=
  let s := s.begin o
  .next (match w with
    | .unit u => if s.runs u.region then (s.updRegion u.region fun r => { r with eccUe := true }).faultUnit u 0xF1 else s
    | .region n affected =>
      if s.runs n.val = false then s
      else
        let t0 := s.updRegion n.val fun r => { r with eccUe := true, st := .fault }
        let t : State := { t0 with updt := { t0.updt with regionFault := true } }
        if n.val = rCTL ∨ n.val = rSNS ∨ 6 ≤ n.val then t.shutdown 5
        else { t with boot := { t.boot with bad := t.boot.bad ++ affected } })

/-- MEMORY_CORRECTABLE (01 R21, R27). -/
def execMemoryCorrectable (o : Opt) (region : Fin 10) (s : State) : Out :=
  let s := s.begin o
  .next (if s.runs region.val then s.updRegion region.val fun r => { r with eccCe := true } else s)

/-! Cluster resets (01 R25; 03 R87). -/

/-- The number of clusters of a region. -/
def clusters (r : Nat) : Nat :=
  match r with
  | 0 => 2
  | 1 => 2
  | 2 => 4
  | 3 => 3
  | 4 => 26
  | 5 => 4
  | _ => if r < 10 then 4 else 0

/-- Whether a bit of `m` from `lo`, `n` bits long, is set. -/
def anyBit (m lo n : Nat) : Bool := decide (m / 2 ^ lo % 2 ^ n ≠ 0)

/-- Whether a unit of the cluster is enabled: by its enable bit or still in force. -/
def State.clusterBusy (s : State) (r c : Nat) : Bool :=
  match r with
  | 0 => (List.range 4).any fun k => (rd s.boot.core (4 * c + k)).en
  | 1 => anyBit s.lop.en.toNat (64 * c) 64 || (List.range 64).any fun k => (s.slot (64 * c + k)).enF
  | 2 => if c = 1 ∨ c = 2 then anyBit s.flw.lsEn.toNat (8 * (c - 1)) 8 || (List.range 8).any fun k => (rd s.flw.ls (8 * (c - 1) + k)).enF
    else false
  | 3 => if c = 0 then s.vis.en != 0 || s.vis.cam.toList.any fun x => x.enF || x.starting else false
  | 4 => if c < 24 then anyBit s.nav.en.toNat (16 * c) 16 || (List.range 16).any fun k => (rd s.nav.ch (16 * c + k)).enF else false
  | 5 => if c < 2 then anyBit s.can.en.toNat (4 * c) 4 || (List.range 4).any fun k => (s.cc (4 * c + k)).enF
    else if c = 2 then s.eth.en != 0 else false
  | _ =>
    let d := r - 6
    if c < 2 then anyBit s.vlv.en.toNat (12 * d + 6 * c) 6 || (List.range 6).any fun k => (rd s.vlv.ch (12 * d + 6 * c + k)).enF
    else if c = 2 then (diePsw d).any fun n => s.psw.en.getLsbD n || (rd s.psw.ch n).enF
    else (List.range 2).any fun k => s.col.en.getLsbD (2 * d + k) || (rd s.col.ch (2 * d + k)).enF

/-- The commit groups of a cluster's units (24 R568). -/
def clusterGroups (r c : Nat) : List Nat :=
  match r with
  | 1 => (List.range 64).flatMap fun k => [0x0400 + 64 * c + k, 0x0500 + 64 * c + k]
  | 2 => if c = 3 then [0x0300] else if c = 0 then [] else [0x0301]
  | 3 => if c = 0 then (List.range 6).map fun n => 0x0A00 + n else []
  | 4 => if c = 25 then [0x0600] else []
  | 5 => if c < 2 then (List.range 4).map fun n => 0x0E00 + 4 * c + n else []
  | _ => if r < 6 then [] else if c < 2 then (List.range 6).map fun k => 0x0B00 + 12 * (r - 6) + 6 * c + k
    else if c = 2 then (diePsw (r - 6)).map fun n => 0x0C00 + n else []

/-- A snapshot withdrawn: its COMMIT completes with `status` (03 R82, R85, R87). -/
def State.withdrawSnap (s : State) (g status : Nat) (payload : List Byte) : State :=
  match s.grp.snaps.find? (fun p => p.group == g) with
  | none => s
  | some p =>
    let t := { s with grp := { s.grp with snaps := s.grp.snaps.filter fun q => q.group != g } }
    match p.req with
    | some r => t.complete r status payload
    | none => t

/-- The configuration of a cluster's units reloaded from the image (01 R25): the units start afresh, with their counters kept (01 R19) and
the live values of their groups in force (03 R87).  Every definition reads configuration from the image and the live words, so what is
reloaded is what the units derived from it; a cluster without enumerated units starts its processing afresh (log 97). -/
def State.clusterReload (s : State) (r c : Nat) : State :=
  match r with
  | 1 =>
    let z := s.lopStart
    { s with
      lop := { s.lop with
        slot := mapIdxV s.lop.slot fun n (x : Slot) => if n / 64 = c then
          { (rd z.lop.slot n) with ovrCnt := x.ovrCnt, invCnt := x.invCnt, err := x.err } else x,
        proc := mapIdxV s.lop.proc fun p (x : Proc) => if p / 4 = c then { (rd z.lop.proc p) with run := false, err := x.err, peak := x.peak } else x },
      prf := { s.prf with pg := mapIdxV s.prf.pg fun n (x : Pg) => if n / 64 = c then rd z.prf.pg n else x } }
  | 0 => { s with boot := { s.boot with core := mapIdxV s.boot.core fun n (x : CoreSt) => if n / 4 = c then { CoreSt.reset with err := x.err } else x } }
  | 2 => if c = 0 then s.updSns fun q => { q with
      ain := q.ain.map fun (x : AinCh) => { AinCh.reset with faultSeen := x.faultSeen, faultCnt := x.faultCnt, allValid := false },
      fin := q.fin.map fun (x : FinCh) => { FinCh.reset with qerrSeen := x.qerrSeen, qerrCnt := x.qerrCnt, pos := x.pos, count := x.count, errs := x.errs, level := x.level },
      din := Vector.replicate 16 DinCh.reset, ts := q.ts.map fun (x : TsCh) => { TsCh.reset with faultSeen := x.faultSeen }, mail := none }
    else if c = 3 then s.updFlw fun f => { f with
      bridge := f.bridge.map fun (x : BridgeSt) => { BridgeSt.reset with faultSeen := x.faultSeen, faultCnt := x.faultCnt, fbar := x.fbar },
      coef := Vector.replicate 4 none, qSum := 0, usable := 0, samples := 0 }
    else s.updFlw fun f => { f with
      ls := mapIdxV f.ls fun n (x : LossCh) => if 1 + n / 8 = c then
        { LossCh.reset with err := x.err, overlong := x.overlong, satCnt := x.satCnt } else x }
  | 3 =>
    let z := s.visStart
    if c = 0 then s.updVis fun v => { v with cam := mapIdxV v.cam fun n (x : Cam) =>
        { Cam.reset with sets := (rd z.vis.cam n).sets, frameCnt := x.frameCnt, err := x.err, dropBuf := x.dropBuf, dropErr := x.dropErr,
                         tagErr := x.tagErr, lateCnt := x.lateCnt } }
    else s.updPipe (c - 1) fun x => { Pipe.reset with err := x.err }
  | 4 => if c < 24 then s.updNav fun v => { v with
      ch := mapIdxV v.ch fun n (x : NavCh) => if n / 16 = c then { NavCh.reset with err := x.err, lolCnt := x.lolCnt, slipCnt := x.slipCnt } else x
      allocDue := true }
    else if c = 24 then s.updNav fun v => { v with queue := [], pass := none }
    else s.updNav fun v => { v with solMode := 0, hdgState := 0, hdg := fNaN, pitch := fNaN, baseLen := fNaN, svUsed := 0, ambiguity := false }
  | 5 => if c < 2 then s.updCan fun v => { v with
      ch := mapIdxV v.ch fun n (x : CanCh) => if n / 4 = c then
        { CanCh.reset with err := x.err, busoffCnt := x.busoffCnt, txFailCnt := x.txFailCnt, txqFullCnt := x.txqFullCnt, tpAbortCnt := x.tpAbortCnt,
                           errFrameCnt := x.errFrameCnt, dupCnt := x.dupCnt, staleCnt := x.staleCnt, lateCnt := x.lateCnt, seq := x.seq } else x }
    else if c = 2 then s.updEth fun v => { v with
      port := v.port.map fun (x : EthPort) => { EthPort.reset with err := x.err, fcs := x.fcs, lost := x.lost } }
    else s
  | _ =>
    let d := r - 6
    if c < 2 then { s with vlv := { s.vlv with ch := mapIdxV s.vlv.ch fun n (x : VlvCh) => if n / 6 = 2 * d + c then
        { VlvCh.reset with err := x.err, safe := x.safe, tgt := x.tgt, legApp := x.legApp, shortCnt := x.shortCnt, openCnt := x.openCnt,
                           refuseCnt := x.refuseCnt, cutCnt := x.cutCnt, regCnt := x.regCnt, want := x.want, cmd := x.cmd } else x } }
    else if c = 2 then { s with psw := { s.psw with ch := mapIdxV s.psw.ch fun n (x : PswCh) => if pswDie n = d then
        { PswCh.reset with err := x.err, safe := x.safe, latch := x.latch, tripCnt := x.tripCnt, openCnt := x.openCnt,
                           refuseCnt := x.refuseCnt, latchCnt := x.latchCnt, want := x.want, cmd := x.cmd, tj := x.tj } else x } }
    else { s with col := { s.col with ch := mapIdxV s.col.ch fun n (x : ColCh) => if n / 2 = d then
        { ColCh.reset with err := x.err, safe := x.safe, dutyApp := x.dutyApp, sheepdog := x.sheepdog, spinFailCnt := x.spinFailCnt,
                           tachLossCnt := x.tachLossCnt, rpm := x.rpm } else x } }

/-- The checks of a SYS_CLUSTER_RST write: the region and the cluster exist, and no unit of the cluster is enabled (01 R25). -/
def State.clusterCheck (s : State) (v : Word) : Option Nat :=
  let r := field v 8 4
  let c := field v 0 8
  if 10 ≤ r ∨ clusters r ≤ c then some stRANGE
  else if s.region r ≠ .run ∨ s.clusterBusy r c ∨ s.inReset r c then some stSTATE
  else none

/-- An accepted cluster reset (01 R25; 03 R87; 08 R223): the units show RESET, and the pending snapshots of their groups are withdrawn. -/
def State.clusterReset (s : State) (v : Word) : State :=
  let r := field v 8 4
  let c := field v 0 8
  let s1 := (clusterGroups r c).foldl (fun t g => t.withdrawSnap g stUNITRESET (commitReply 0 0)) s
  { (s1.clusterReload r c) with clRst := s.clRst ++ [(r, c)] }

/-- CLUSTER_RESET_COMPLETE (01 R25): the units pass from RESET to OFF, and remain disabled; a loop processor or a pipeline, which has no
enable register, is enabled again with the first of its slots or cameras (log 97). -/
def execClusterResetComplete (o : Opt) (region : Fin 10) (cluster : Byte) (s : State) : Out :=
  let s := s.begin o
  let r := region.val
  let c := cluster.toNat
  if s.inReset r c = false then .next s
  else
    .next { s with clRst := s.clRst.filter fun p => p != (r, c) }

/-! Power links (01 R28). -/

/-- POWER_LINK_COMMAND_FRAME (01 R28; 22 R544): the die applies its targets, its watchdog is armed, and it leaves the safe states that only
its own expiry held, and its freeze states. -/
def execPowerLinkCommandFrame (die : Fin 4) (s : State) : Out :=
  let s := s.start
  let d := die.val
  let o := s.clk.opt
  let live := s.clk.running && s.region rCTL == .run && s.pwr.supply != .off && s.pwr.supply != .powerup
  .next (if live = false ∨ ¬ (s.region (6 + d) = .run ∨ s.region (6 + d) = .frozen) then s
    else
      let s0 := if s.region (6 + d) = .frozen then s.updRegion (6 + d) fun r => { r with st := .run } else s
      let s1 := s0.updDie d fun x => { x with armed := true, lastFrame := o, linkSafe := false, tempHold := x.overTemp }
      let s2 := (diePsw d).foldl (fun t n => t.pswCommand n o) s1
      let s3 := (List.range 12).foldl (fun t k => t.vlvCommand (12 * d + k) o) s2
      (List.range 2).foldl (fun t k => t.colCommand (2 * d + k) o) s3)

/-- Undersupply of a valve channel as a status frame reports it (02 R50; 15 R404): counted in ticks outside CRANK, and kept once it has
become a shortfall. -/
def VlvCh.supplied (c : VlvCh) (under crank : Bool) : VlvCh :=
  if under then { c with undersupply := true, underTicks := if crank then c.underTicks else c.underTicks + 1 }
  else { c with undersupply := false, underTicks := 0 }

/-- Whether an open load is still there, as a status frame shows it (15 R409, R414): current below 5 % of a target, or a legacy channel
at duty 1,000. -/
def VlvCh.stillOpen (c : VlvCh) (legacy : Bool) (ma : Nat) : Bool :=
  c.openLoad && (if legacy then c.legApp == 1000 else decide (0 < c.tgt) && decide (20 * ma < c.tgt))

/-- A package's current over one more tick (01 R32): the mean of the last second, and PKG_OVER with its notice. -/
def State.pkgTick (s : State) (d : Nat) : State :=
  let p := rd s.psw.pkg d
  let sum := (diePsw d).foldl (fun a n => a + (rd s.psw.ch n).iMeas.toNat) 0
  let vlv := (List.range 12).foldl (fun a k => a + (rd s.vlv.ch (12 * d + k)).iMeas.toNat) 0
  let hist := ((sum + divRound vlv 10) :: p.hist).take 20000
  let avg := divRound (hist.foldl (· + ·) 0) 20000
  let overV := decide (6000 < avg)
  let s1 : State := { s with psw := { s.psw with pkg := put s.psw.pkg d { iAvg := satNat 16 avg, overV := p.overV || overV, hist := hist } } }
  if overV && !p.overV then s1.notice 0x000D 0x0C d (fRat avg 100) else s1

/-- POWER_LINK_STATUS_FRAME (01 R28, R22, R32; 02 R47, R50; 17 R436). -/
def execPowerLinkStatusFrame (die : Fin 4) (f : DieStatus) (s : State) : Out :=
  let s := s.start
  let d := die.val
  .next (if s.runs (6 + d) = false ∨ s.region rCTL = .frozen then s
    else
      let s := (List.range 2).foldl (fun (t : State) k => t.updCol (2 * d + k) fun c =>
        { c with rpm := satNat 16 (tachRpm (t.colPpr (2 * d + k)) (f.tach.getD k none)) }) s
      let crank := s.pwr.supply == .crank
      let s1 : State := { s with pwr := { s.pwr with die := put s.pwr.die d (some f.vbat) } }
      let s2 := s1.updDie d fun x => { x with dieT := f.temp, vHist := (f.vbat :: x.vHist).take 20 }
      let s3 := ((diePsw d).zipIdx).foldl (fun t p => t.updPsw p.1 fun c =>
        { c with iMeas := satNat 16 (f.psw.getD p.2 0), tj := f.tj.getD p.2 c.tj }) s2
      let s4 := (List.range 12).foldl (fun t k => t.updVlv (12 * d + k) fun c =>
        { (c.supplied (f.under.getD k false) crank) with
          iMeas := satNat 16 (f.vlv.getD k 0), openLoad := c.stillOpen (t.vlvMode (12 * d + k) == 2) (f.vlv.getD k 0) }) s3
      let s5 := (List.range 2).foldl (fun t k => (t.updBank (2 * d + k) fun b => { b with ma := satNat 16 (f.bank.getD k 0) }).bankRefresh (2 * d + k)) s4
      let boost := (List.range 2).any fun k => (rd s5.vlv.bank (2 * d + k)).bhs == .boost
      let rail : Rail := { mv := satNat 16 f.railMv, low := (rd s5.vlv.rail d).low || (boost && decide (f.railMv < 40000)) }
      { s5 with vlv := { s5.vlv with rail := put s5.vlv.rail d rail } }.pkgTick d)

/-- LINK_WATCHDOG_EXPIRY (01 R28, R33): every channel of the die takes its safe state on the die's own logic. -/
def execLinkWatchdogExpiry (o : Opt) (die : Fin 4) (s : State) : Out :=
  let s := s.begin o
  let d := die.val
  let x := rd s.die d
  .next (if x.armed ∧ s.region (6 + d) = .run ∧ x.lastFrame + s.img.watchdog d * 50000 ≤ o then
      (s.updDie d fun x => { x with linkSafe := true, armed := false }).settleDie d o
    else s)

/-! Dies (01 R26, R29, R571). -/

/-- DIE_OVERTEMP (01 R29): D0 to D2 at 125 °C bring the orderly shutdown, a power die at 150 °C takes its safe states and reports it; DIE_T
and DIE_HOT show its sensor (16 R431). -/
def execDieOvertemp (o : Opt) (die : Fin 7) (temp : Int) (s : State) : Out :=
  let s := s.begin o
  .next (if s.pwr.supply = .off then s
    else if die.val < 3 then (if 125 ≤ temp then s.shutdown 4 else s)
    else
      let d := die.val - 3
      let s1 := s.updDie d fun x => { x with dieT := temp }
      if 150 ≤ temp ∧ s.region (6 + d) ≠ .off then
        ((s1.updDie d fun x => { x with overTemp := true, tempHold := true }).settleDie d o).send (.dieOvertemp d)
      else s1)

/-- DIE_TEMP_RECOVERED (01 R571): the channels leave their safe states at the next command frame, and not before. -/
def execDieTempRecovered (o : Opt) (die : Fin 4) (temp : Int) (s : State) : Out :=
  let s := (s.begin o).updDie die.val fun x => { x with dieT := temp }
  .next (if temp ≤ 130 then s.updDie die.val fun x => { x with overTemp := false } else s)

/-- DIE_SUPERVISOR_RESET (01 R26, R28): the die comes up with every channel in its safe state and its watchdog not armed; its contact is the
monitor's until it reports again (02 R47), and the hold of R571 stays until its sensor ends it. -/
def execDieSupervisorReset (o : Opt) (die : Fin 4) (s : State) : Out :=
  let s := s.begin o
  let d := die.val
  let down (t : State) (n : Nat) : State :=
    let u := t.pswEnterSafe n
    u.updPsw n fun c => { c with frz := .none, phase := if c.phase = .inrush ∨ c.phase = .on then .idle else c.phase }
  .next (if s.region (6 + d) = .off ∨ s.region (6 + d) = .boot then s
    else
      let s0 : State := { s with pwr := { s.pwr with die := put s.pwr.die d none } }
      let s1 := (s0.updRegion (6 + d) fun r => { r with st := .supervisor }).updDie d fun x =>
        { x with armed := false, linkSafe := false, loading := true, vHist := [] }
      let s2 := (diePsw d).foldl (fun t n => if t.pswUsed n then (down t n).pswDuty n else t) s1
      let s3 := (List.range 12).foldl (fun t k =>
        let n := 12 * d + k
        if t.vlvMode n = 0 then t
        else ({ t with vlv := { t.vlv with inp := upd t.vlv.inp n fun i => { i with frz := .none } } } : State).vlvEnterSafe n o) s2
      (List.range 2).foldl (fun t k =>
        let n := 2 * d + k
        if t.colUsed n then (t.updCol n fun c => { c with frz := .none }).colEnterSafe n o else t) s3)

/-- DIE_CONFIG_RELOADED (01 R26; 03 R80): the region returns to RUN; released outputs follow from the next command frame. -/
def execDieConfigReloaded (o : Opt) (die : Fin 4) (s : State) : Out :=
  let s := s.begin o
  let d := die.val
  .next (if s.region (6 + d) = .supervisor then
      (s.updRegion (6 + d) fun r => { r with st := .run }).updDie d fun x => { x with loading := false }
    else s)

end Sys2Proof.Machine
end

