-- ==== Sys2Proof/Machine/Freeze.lean ====
section
/-! DEFINITION. The freeze controller and the test access port (22): arming, freezes, the hold limit, thaws, readout and the
module reset. -/

namespace Sys2Proof.Machine

/-- The state with the freeze controller changed. -/
def State.updDbg (s : State) (f : DbgSt → DbgSt) : State := { s with dbg := f s.dbg }

/-- Whether a token has armed the controller (03 R93). -/
def State.tokenArmed (s : State) : Bool := (List.range 8).any fun i => (s.sess i).isOpen && s.granted i 1

/-- Whether the controller is armed (22 R538). -/
def State.armed (s : State) : Bool := s.boot.svcEn || s.tokenArmed

/-- A FREEZE section byte (22 R546); a channel freezes OFF without the section. -/
def Image.freezeHold (im : Image) (base n : Nat) : Bool := im.fieldOr 0x1201 0x0001 (fun b => (u8 b (base + n / 8)).testBit (n % 8)) false

/-- The channels of die `d` take their freeze states (22 R540). -/
def State.dieFreeze (s : State) (d : Nat) : State :=
  let o := s.clk.opt
  let im := s.img
  let s1 := (diePsw d).foldl (fun t n => if t.pswUsed n then t.updPsw n fun c => c.freeze (im.freezeHold 6 n) o else t) s
  let s2 := (List.range 12).foldl (fun t k => let n := 12 * d + k
    if t.vlvMode n = 0 then t else t.vlvFreeze n (im.freezeHold 0 n)) s1
  let s3 := (List.range 2).foldl (fun t k => let n := 2 * d + k
    if t.colUsed n then t.updCol n fun c => c.freeze (im.freezeHold 11 n) else t) s2
  s3.updRegion (6 + d) fun r => { r with st := .frozen }

/-- A region stops. -/
def State.stopRegion (s : State) (n : Nat) : State :=
  match s.region n with
  | .run => s.updRegion n fun r => { r with st := .frozen }
  | .fault => (s.updRegion n fun r => { r with st := .frozen }).updDbg fun g => { g with faulty := g.faulty ||| BitVec.ofNat 6 (2 ^ n) }
  | _ => s

/-- The boundaries of the recorder that passed while SVC was frozen, before the present instant (22 R544; 20 R505). -/
def State.recPassed (s : State) : State :=
  let k := s.gridAt (s.clk.opt - 1) / (s.recInterval * 1000000000)
  if s.rcd.bound < k then s.updRec fun r => { r with bound := k, passed := true } else s

/-- The freeze begins now with the regions of `mask` (22 R539, R542): the marker goes out on the four power links, the dies take their freeze states, CTL and then SNS, NAV, VIS, SVC
and NET stop (a loss channel has then not run the whole window, 07 R199), admissions close, DVT keeps to its frequency estimate, and the arming ends. -/
def State.enterFreeze (s : State) (mask : BitVec 6) : State :=
  let o := s.clk.opt
  let partialOn := s.dbg.phase != .run
  let s0 := if partialOn then s else (List.range 4).foldl (fun t d => t.send (.freezeMarker d)) s
  let s1 := (List.range 4).foldl (fun t d => if t.region (6 + d) = .run then t.dieFreeze d else t) s0
  let s2 := [rCTL, rSNS, rNAV, rVIS, rSVC, rNET].foldl (fun t n => if mask.getLsbD n then t.stopRegion n else t) s1
  let s2a := if s2.region rSNS = .frozen then { s2 with flw := { s2.flw with ls := s2.flw.ls.map fun (x : LossCh) => { x with whole := false } } } else s2
  let s3 := (List.range 8).foldl (fun t i => t.endArming i) s2a
  let s4 := if s3.tim.dvtSet ∧ partialOn = false then
      let t := s3.learnFreq
      t.reSlew o t.tim.freq
    else s3
  { s4 with
    bud := { s4.bud with isOpen := false, openNext := false, passTick := none },
    dbg := { s4.dbg with phase := .frozen, full := mask == BitVec.allOnes 6, mask := mask, pendingFull := none,
                         frzCnt := if partialOn then s4.dbg.frzCnt else satInc s4.dbg.frzCnt,
                         began := if partialOn then s4.dbg.began else some o
                         since := if partialOn then s4.dbg.since else some o
                         snap := if partialOn then s4.dbg.snap else s4.dbg.snap + 1
                         holdExpired := s4.dbg.holdExpired && partialOn } }

/-- FREEZE_N (22 R538, R542): accepted while armed and powered, or into a partial freeze; otherwise counted. -/
def execFreezeN (o : Opt) (s : State) : Out :=
  let s := s.begin o
  let fresh := s.dbg.phase == .run && s.armed && s.powered
  let more := s.dbg.phase == .frozen && !s.dbg.full
  .next (if s.pwr.supply = .off then s
    else if fresh || more then s.enterFreeze (BitVec.allOnes 6)
    else s.updDbg fun g => { g with ignored := satInc g.ignored })

/-- FREEZE (22 R538, R545): a full freeze begins 1 ms after its completion. -/
def execFreeze (r : HostReq) (mask : Byte) (s : State) : Out :=
  .next (hostOp r 0x0090 2 14 (fun t =>
    let m : BitVec 6 := BitVec.ofNat 6 (mask.toNat ||| 2)
    if t.dbg.phase ≠ .run ∨ t.dbg.pendingFull.isSome then .refuse stSTATE []
    else if t.armed = false then .refuse 0x9201 []
    else if t.powered = false then .refuse stSTATE []
    else if m.getLsbD rSVC || m.getLsbD rNET then
      .done (t.updDbg fun g => { g with pendingFull := some (t.clk.opt + 1000000) }) (leBytes 8 (t.clk.opt + 1000000))
    else .done (t.enterFreeze m) (leBytes 8 t.clk.opt)) s)

/-- A full freeze that a FREEZE asked for begins where its instant has come. -/
def State.freezeDue (s : State) : State :=
  match s.dbg.pendingFull with
  | some t => if t ≤ s.clk.opt ∧ s.dbg.phase = .run ∧ s.powered then s.enterFreeze (BitVec.allOnes 6) else s
  | none => s

/-- FREEZE_HOLD_EXPIRY (22 R541): 2 s after the die took its freeze states, on an oscillator within 1 %, what still holds goes OFF, also
between the thaw and the die's first command frame (R544). -/
def execFreezeHoldExpiry (o : Opt) (die : Fin 4) (s : State) : Out :=
  let s := s.begin o
  let d := die.val
  let late := match s.dbg.since with
    | some t => decide (t + 1980000000 ≤ o)
    | none => false
  .next (if s.region (6 + d) ≠ .frozen ∨ late = false then s
    else
      let s1 := (diePsw d).foldl (fun t n => if (rd t.psw.ch n).frz = .hold then t.updPsw n fun c => c.freeze false o else t) s
      let s2 := (List.range 12).foldl (fun t k => if t.vlvFrz (12 * d + k) = .hold then t.vlvFreeze (12 * d + k) false else t) s1
      let s3 := (List.range 2).foldl (fun t k => if (rd t.col.ch (2 * d + k)).frz = .hold then t.updCol (2 * d + k) fun c => c.freeze false
        else t) s2
      s3.updDbg fun g => { g with holdExpired := true })

/-! Thaw (22 R544). -/

/-- The first tick after step 7 of power-up, within 50 µs of it at an instant the manual leaves open (08 R213; log 12). -/
def State.firstTick (s : State) : State :=
  let o := s.sns.start + 1 + (Config.freeWord s.free).toNat % 50000
  ({ s with free := s.free + 1, clk := { s.clk with tickOpt := o, tick := 0, tickSec := 0, tickRem := 0 } } : State).reach o

/-- A computation that the freeze kept from its output instant is given up without an overrun (22 R544): `t` is the first tick after the
thaw. -/
def Slot.missed (c : Slot) (t : Nat) : Slot :=
  { c with job := c.job.bind fun j => if !j.posted && decide (j.outTick ≤ t) then none else some j }

/-- The tick after `n` grid instants that passed in the freeze (08 R213). -/
def State.skipTicks (s : State) (n : Nat) : State :=
  let c := s.clk
  let o := if c.aligned then s.optOfDvt (50000 * (s.gridNo c.tickOpt + n)) else c.tickOpt + 50000 * n
  let k := (c.tickSec + n) / 40 - c.tickSec / 40
  let aged := (List.range (min k 4096)).foldl (fun b _ => nextBookings b) s.bud.bookings
  let before := (List.range (min (k - 1) 4096)).foldl (fun b _ => nextBookings b) s.bud.bookings
  { s with
    clk := { c with tickOpt := o, tick := c.tick + n, tickSec := (c.tickSec + n) % 20000 },
    lop := { s.lop with slot := s.lop.slot.map fun (x : Slot) => x.missed (c.tick + n + 1) },
    bud := if k = 0 then s.bud else { s.bud with bookings := aged, load := bookedLoad aged, prevLoad := bookedLoad before } }

/-- The grid instants that have passed since the latest tick. -/
def State.missedTicks (s : State) : Nat :=
  let c := s.clk
  if c.aligned then (s.dvtAt c.opt - 50000 * s.gridNo c.tickOpt) / 50000 else (c.opt - c.tickOpt) / 50000

/-- The thaw: the stopped regions run again, the tick catches up, admissions reopen at the next slot where the state has them (02 R63); the
dies leave their freeze states at their first command frames. -/
def State.thaw (s : State) : State :=
  let ran := s.region rCTL == .frozen && s.clk.running
  let s1 := (List.range 6).foldl (fun t n =>
    if t.region n = .frozen then t.updRegion n fun r => { r with st := if s.dbg.faulty.getLsbD n then .fault else .run } else t) s
  let s2 := if ran = false then s1
    else if s1.clk.tickOpt ≠ 0 then s1.skipTicks s1.missedTicks
    else if s1.clk.opt < s1.sns.start + 50000 then s1
    else let t := s1.firstTick; t.skipTicks t.missedTicks
  let s3 := if s.region rSVC = .frozen then s2.recPassed else s2
  { s3 with
    bud := { s2.bud with openNext := s2.pwr.supply == .normal || s2.pwr.supply == .overvolt },
    dbg := { s2.dbg with phase := .run, full := false, mask := 0, began := none, faulty := 0 } }

/-- THAW (22 R545): of a partial freeze. -/
def execThaw (r : HostReq) (s : State) : Out :=
  .next (hostOp r 0x0091 2 14 (fun t =>
    if t.dbg.phase ≠ .frozen ∨ t.dbg.full then .refuse stSTATE [] else .done t.thaw (leBytes 8 t.clk.opt)) s)

/-- TAP_THAW (22 R543, R544). -/
def execTapThaw (o : Opt) (s : State) : Out :=
  let s := s.begin o
  let s1 := s.updDbg fun g => { g with ir := 0x20 }
  .next (if s.dbg.phase = .frozen then s1.thaw else s1)

/-- TAP_RESET (22 R543, R544; 02 R54): the module resets and powers up from step 1. -/
def execTapReset (o : Opt) (p : PowerIn) (s : State) : Out :=
  let s := s.begin o
  .next (if s.pwr.supply = .off then s.updDbg fun g => { g with ir := 0x21 }
    else ((s.writeReason 6).send .moduleReset).powerUp p)

/-- FREEZE_SUPPLY_FAIL (22 R544): a row of R49 that leads to SHUTDOWN holds with the measurement `m`: the thaw, then the orderly
shutdown with its reason. -/
def execFreezeSupplyFail (o : Opt) (m : SupplyIn) (s : State) : Out :=
  let s := (s.begin o).monitor m
  let reason := match s.supplyRow o with
    | .undervolt => 1
    | .timeout => 2
    | .ignOff => 3
    | _ => 0
  .next (if s.dbg.phase = .frozen ∧ reason ≠ 0 then s.thaw.shutdown reason else s)

/-! Readout through the test access port (22 R543). -/

/-- Whether the port can be used: the logic is powered. -/
def State.tapOn (s : State) : Bool := s.pwr.supply != .off

/-- Whether the selected target is frozen: a region that stopped, or the DRAM of a full freeze. -/
def State.tapFrozen (s : State) : Bool :=
  let t := s.dbg.selTarget
  if t < 10 then s.region t == .frozen else decide (12 ≤ t) && s.dbg.phase == .frozen && s.dbg.full

/-- The bytes of the selected target's memory (01 R9, 00 R1): a region's slice, or a DRAM channel. -/
def tapSize (t : Nat) : Nat :=
  match t with
  | 0 => 16 * 1048576
  | 1 => 2 * 1048576
  | 2 => 2 * 1048576
  | 3 => 12 * 1048576
  | 4 => 6 * 1048576
  | 5 => 2 * 1048576
  | 12 | 13 | 14 | 15 => 4294967296
  | _ => 0

/-- TAP_IDCODE (22 R543). -/
def execTapIdcode (s : State) : Out :=
  let s := s.start
  .next (if s.tapOn then (s.updDbg fun g => { g with ir := 0x01 }).send (.tdo 32 0x188409A7) else s)

/-- TAP_SEL (22 R543). -/
def execTapSel (v : Word) (s : State) : Out :=
  let s := s.start
  .next (if s.tapOn then s.updDbg fun g => { g with ir := 0x10, selTarget := field v 0 4, selChain := field v 8 8 } else s)

/-- The directory of a target's chains (22 R543): their count in 16 bits, then one 32-bit length for each, that of chain 0 its own. -/
def tapDirectory (target : Nat) : Nat × Nat :=
  let k := (Config.chainCount target).toNat
  let bits := 16 + 32 * k
  (bits, k + ((List.range k).map fun c => (if c = 0 then bits else (Config.chainLen target c).toNat) * 2 ^ (16 + 32 * c)).foldl (· + ·) 0)

/-- The bits of chain `c` of a frozen target in freeze `k`, and their number: none beyond the target's chains (22 R543). -/
def tapBits (k target c : Nat) : Nat × Nat :=
  if c = 0 then tapDirectory target
  else if (Config.chainCount target).toNat ≤ c then (0, 0)
  else ((Config.chainLen target c).toNat, Config.chainBits k target c % 2 ^ (Config.chainLen target c).toNat)

/-- TAP_CHAIN (22 R543): the directory, or the chain's captured state, whose layout and length the manual does not give; zero where the target
runs. -/
def execTapChain (s : State) : Out :=
  let s := s.start
  if s.tapOn = false then .next s
  else
    let s1 := s.updDbg fun g => { g with ir := 0x11 }
    let r := tapBits s.dbg.snap s.dbg.selTarget s.dbg.selChain
    .next (s1.send (.tdo r.1 (if s.tapFrozen then r.2 else 0)))

/-- TAP_MADDR (22 R543): a multiple of 8. -/
def execTapMaddr (v : Word) (s : State) : Out :=
  let s := s.start
  .next (if s.tapOn then s.updDbg fun g => { g with ir := 0x12, maddr := v &&& 0xFFFFFFF8 } else s)

/-- TAP_MDATA (22 R543): 8 bytes at MADDR, which then advances by 8; zero with ERR where the target runs or ends before it.  What the
memories hold is not laid out by the manual; a second capture of an address in one freeze gives the same. -/
def execTapMdata (s : State) : Out :=
  let s := s.start
  if s.tapOn = false then .next s
  else
    let s1 := s.updDbg fun g => { g with ir := 0x13, maddr := g.maddr + 8 }
    if s.tapFrozen ∧ s.dbg.maddr.toNat + 8 ≤ tapSize s.dbg.selTarget then
      .next (s1.send (.tdo 72 (Config.memWord s.dbg.snap s.dbg.selTarget s.dbg.maddr.toNat).toNat))
    else .next (s1.send (.tdo 72 (2 ^ 64)))

/-- TAP_BYPASS (22 R543). -/
def execTapBypass (s : State) : Out :=
  let s := s.start
  .next (if s.tapOn then (s.updDbg fun g => { g with ir := 0xFF }).send (.tdo 1 0) else s)

/-- TAP_TRST (22 R543): the TAP controller resets, which loads IDCODE. -/
def execTapTrst (s : State) : Out :=
  let s := s.start
  .next (s.updDbg fun g => { g with ir := 0x01 })

end Sys2Proof.Machine
end

