-- ==== Sys2Proof/Machine/RegsNet.lean ====
section
/-! DEFINITION. The registers of the CAN, ETH, REC, UPD and DBG blocks (18 R473; 19 R492; 20 R516; 21 R537; 22 R547). -/

namespace Sys2Proof.Machine

/-- The registers of the CAN block. -/
inductive CanReg where
  | en | cntClr | cmd | stat | errc | cnt | cnt2 | cnt3 | cnt4 | head | addrStat | winSel | winPos | winOfs | winStat | win | txsId
  | txsCtrl | txsData | txsCmd | txmCtrl | txmPgn | txmCmd | txmStat | txmData | nbt | dbt | tdc | mode
deriving DecidableEq, Repr

/-- The register table of CAN (24 R566). -/
def canRows : List (RegRow CanReg) :=
  [one 0x0000 0xFFFFFF00 .en, one 0x0004 0xFFFFFF00 .cntClr, one 0x0008 0x0000FF88 .cmd, arr 0x0100 8 0xF8800080 .stat,
   arr 0x0140 8 0x8000FE00 .errc, arr 0x0180 8 0 .cnt, arr 0x01C0 8 0 .cnt2, arr 0x0200 8 0 .cnt3, arr 0x0240 8 0 .cnt4,
   arr 0x0280 8 0 .head, arr 0x02C0 8 0xFFFFFC00 .addrStat, one 0x0300 0xFFFFFFF0 .winSel, one 0x0304 0 .winPos,
   one 0x0308 0 .winOfs, one 0x030C 0xFFFFFF00 .winStat, arr 0x0340 24 0 .win, one 0x0500 0 .txsId, one 0x0504 0x0000E008 .txsCtrl,
   arr 0x0508 16 0 .txsData, one 0x0548 0xFFFFFFFE .txsCmd, one 0x0600 0xC00000F8 .txmCtrl, one 0x0604 0xFFFC0000 .txmPgn,
   one 0x0608 0xFFFFFFFE .txmCmd, one 0x060C 0xFFFF00FC .txmStat, arr 0x0800 448 0 .txmData, ⟨0x1000, 8, 16, 0xF8000000, .nbt⟩,
   ⟨0x1004, 8, 16, 0xFFFC0000, .dbt⟩, ⟨0x1008, 8, 16, 0xFFFFFF80, .tdc⟩, ⟨0x100C, 8, 16, 0xFFFFFFC0, .mode⟩]

/-- BUS of CAN_STAT (18 R473). -/
def CanBus.code : CanBus → Nat
  | .errorActive => 0
  | .errorPassive => 1
  | .busOff => 2
  | .integrating => 3

/-- CLAIM of CAN_ADDR_STAT (18 R473). -/
def Claim.code : Claim → Nat
  | .none => 0
  | .claiming => 1
  | .claimed => 2
  | .lost => 3

/-- The eight counters of a controller. -/
def CanCh.counters (c : CanCh) : List W16 :=
  [c.busoffCnt, c.errFrameCnt, c.txFailCnt, c.dupCnt, c.txqFullCnt, c.staleCnt, c.tpAbortCnt, c.lateCnt]

/-- A read of a CAN register. -/
def State.canRead (s : State) (g : CanReg) (n : Nat) : Word :=
  let v := s.can
  let c := rd v.ch n
  let pair (a b : W16) : Word := place a.toNat 0 16 ||| place b.toNat 16 16
  match g with
  | .en => lo32 v.en.toNat
  | .cntClr => 0
  | .cmd => 0
  | .stat =>
    orAll ([commonWord (s.canState n) c.enF c.err c.counters c.lastErr, place c.bus.code 16 2, flag c.detect.isSome 18,
            flag c.wasLocked 19, flag c.tdcFail 20, flag c.dupSeen 21, flag c.dispLate 22]
      ++ (List.range 3).map fun (k : Nat) => flag (rd c.txb k).isSome (24 + k))
  | .errc => orAll [place c.tec 0 9, place c.recv 16 8, place c.txq.length 24 7]
  | .cnt => pair c.busoffCnt c.errFrameCnt
  | .cnt2 => pair c.txFailCnt c.dupCnt
  | .cnt3 => pair c.txqFullCnt c.staleCnt
  | .cnt4 => pair c.tpAbortCnt c.lateCnt
  | .head => c.seq
  | .addrStat => place c.addr 0 8 ||| place c.claim.code 8 2
  | .winSel => v.winSel
  | .winPos => v.winPos
  | .winOfs => v.winOfs
  | .winStat => flag v.winValid 0 ||| place v.winBuf.length 1 7
  | .win => lo32 (u32 v.winBuf (4 * n))
  | .txsId => v.txsId
  | .txsCtrl => v.txsCtrl
  | .txsData => rd v.txsData n
  | .txsCmd => 0
  | .txmCtrl => v.txmCtrl
  | .txmPgn => v.txmPgn
  | .txmCmd => 0
  | .txmStat => place v.txmState 0 2 ||| place v.txmFail 8 8
  | .txmData => (lookupN v.txmData n).getD 0
  | .nbt => s.live (canWord n 0)
  | .dbt => s.live (canWord n 1)
  | .tdc => s.live (canWord n 2)
  | .mode => s.live (canWord n 3)

/-- Whether LEN of CAN_TXM_CTRL lies in its range (18 R473). -/
def txmLenOk (v : Word) : Bool := within (field v 16 11) 9 1785

/-- The checks of a write to a CAN register beyond its reserved bits, on the staging values that the write leaves (18 R459, R473). -/
def State.canCheck (s : State) (g : CanReg) (v : Word) : Option Nat :=
  match g with
  | .cmd => rangeIf (within (field v 4 3) 1 4)
  | .winOfs => rangeIf (v.toNat % 4 == 0)
  | .txsCmd => if bit v 0 && s.stagedBad s.can.txsId s.can.txsCtrl then some stRANGE else none
  | .txmCtrl => rangeIf (txmLenOk v)
  | .txmCmd =>
    let l := s.canLead (field s.can.txmCtrl 0 3)
    if bit v 0 && (s.can.txmState == 1 || (s.img.claimRec l).isNone || !txmLenOk s.can.txmCtrl) then some stRANGE else none
  | _ => none

/-- The effect of a write to a CAN register. -/
def State.canWrite (s : State) (g : CanReg) (n : Nat) (v : Word) : State :=
  match g with
  | .en => s.canEnable v.toNat
  | .cntClr => s.canCntClear v.toNat
  | .cmd => s.canCmd v
  | .stat => s.updCc n fun c =>
      { c with err := c.err && !bit v 5, tdcFail := c.tdcFail && !bit v 20, dupSeen := c.dupSeen && !bit v 21,
               dispLate := c.dispLate && !bit v 22 }
  | .winSel => s.updCan fun x => { x with winSel := v }
  | .winPos => s.canLatch v
  | .winOfs => s.updCan fun x => { x with winOfs := v }
  | .txsId => s.updCan fun x => { x with txsId := v }
  | .txsCtrl => s.updCan fun x => { x with txsCtrl := v }
  | .txsData => s.updCan fun x => { x with txsData := put x.txsData n v }
  | .txsCmd => if bit v 0 then s.canTxsSend else s
  | .txmCtrl => s.updCan fun x => { x with txmCtrl := v }
  | .txmPgn => s.updCan fun x => { x with txmPgn := v }
  | .txmCmd => if bit v 0 then s.canTxmSend else s
  | .txmData => s.updCan fun x => { x with txmData := bindN x.txmData n v }
  | .nbt => s.setShadow (canWord n 0) v
  | .dbt => s.setShadow (canWord n 1) v
  | .tdc => s.setShadow (canWord n 2) v
  | .mode => s.setShadow (canWord n 3) v
  | _ => s

/-- Whether a CAN register is one whose value a later register of the same write reads (18 R459). -/
def CanReg.staging : CanReg → Bool
  | .txsId => true
  | .txsCtrl => true
  | .txsData => true
  | .txmCtrl => true
  | .txmPgn => true
  | .txmData => true
  | _ => false

/-! The ETH block (19 R492). -/

/-- The registers of the ETH block. -/
inductive EthReg where
  | en | cntClr | pairCmd | portStat | portCnt | stbyDisc | pairStat | pairCnt | pairGap
deriving DecidableEq, Repr

/-- The register table of ETH (24 R566). -/
def ethRows : List (RegRow EthReg) :=
  [one 0x0000 0xFFFFFF80 .en, one 0x0004 0xFFFFF880 .cntClr, one 0x0008 0xFFFFFFF0 .pairCmd, arr 0x0100 7 0xFF000080 .portStat,
   arr 0x0140 7 0 .portCnt, one 0x0180 0xFFFF0000 .stbyDisc, arr 0x0200 3 0xC000FFC0 .pairStat, arr 0x0220 3 0 .pairCnt,
   arr 0x0240 3 0 .pairGap]

/-- SPEED of a port with its link up (19 R474, R489, R492): the record's speed on the backbone ports, 10 Gbit/s by default. -/
def Image.portSpeed (im : Image) (n : Nat) : Nat :=
  if n < 2 then
    match im.record 0x0F01 0x0001 4 n with
    | some b => match u8 b 1 with
      | 1 => 3
      | 2 => 4
      | _ => 5
    | none => 5
  else if n < 6 then 2 else 1

/-- Whether a port's PHY is T1 master (19 R489): SLAVE by default. -/
def Image.phyMaster (im : Image) (n : Nat) : Bool := match im.record 0x0F01 0x0001 4 n with
  | some b => u8 b 2 == 0
  | none => false

/-- HEALTH (19 R492). -/
def Health.code : Health → Nat
  | .down => 0
  | .checking => 1
  | .ready => 2
  | .unpaired => 3

/-- Whole minutes to the next Equinox instant of a pair, 0x3FFF while Equinox is disabled (19 R483, R492), so at reset
too, where its Reset column gives 0x0000 (log 108). -/
def State.eqxLeft (s : State) (p : Nat) : Nat :=
  let m := s.img.eqxMin p
  if m = 0 ∨ s.pairOn p = false then 0x3FFF
  else
    let period := m * 60000000000
    let ofs := s.img.eqxOfs p * 60000000000
    let t := s.gridAt s.clk.opt
    let past := if ofs ≤ t then (t - ofs) % period else (t + period - ofs) % period
    (period - past) / 60000000000

/-- A read of an ETH register. -/
def State.ethRead (s : State) (g : EthReg) (n : Nat) : Word :=
  let c := rd s.eth.port n
  let q := rd s.eth.pair n
  let paired := decide (n < 2) && s.pairOn 0
  let bb := rd s.eth.pair 0
  match g with
  | .en => lo32 s.eth.en.toNat
  | .cntClr => 0
  | .pairCmd => 0
  | .portStat =>
    orAll [commonWord (s.ethState n) c.enF c.err [c.fcs, c.lost] c.lastErr, flag c.link 16,
           place (if c.link then s.img.portSpeed n else 0) 17 3, flag (s.img.phyMaster n) 20,
           place (if paired then (bb.mem (n == 1)).health.code else 3) 21 2, flag (paired && bb.active == n) 23]
  | .portCnt => place c.fcs.toNat 0 16 ||| place c.lost.toNat 16 16
  | .stbyDisc => place s.eth.stbyDisc.toNat 0 16
  | .pairStat =>
    orAll [place q.active 0 2, flag q.degraded 2, flag q.eqxDefer 3, flag q.eqxFail 4, flag (q.inGap s.clk.opt) 5,
           place (s.eqxLeft n) 16 14]
  | .pairCnt =>
    orAll [place q.swapCnt.toNat 0 8, place q.faultCnt.toNat 8 8, place q.deferCnt.toNat 16 8, place q.failCnt.toNat 24 8]
  | .pairGap => place q.lastGap.toNat 0 16 ||| place q.maxGap.toNat 16 16

/-- The block status NOT_READY of ETH (19 R480). -/
def stNOTREADY : Nat := 0x8F01

/-- The checks of a write to an ETH register beyond its reserved bits (19 R480, R492). -/
def State.ethCheck (s : State) (r : HostReq) (g : EthReg) (v : Word) : Option Nat :=
  match g with
  | .pairCmd =>
    let p := field v 0 2
    if (s.sess r.sess).level < 2 then some stACCESS
    else if p = 3 ∨ s.pairOn p = false ∨ field v 2 2 ≠ 1 then some stRANGE
    else if s.swapReady p then none else some stNOTREADY
  | _ => none

/-- The effect of a write to an ETH register. -/
def State.ethWrite (s : State) (g : EthReg) (n : Nat) (v : Word) : State :=
  match g with
  | .en => s.ethEnable v.toNat
  | .cntClr => s.ethCntClear v
  | .pairCmd => s.plannedSwap (field v 0 2)
  | .portStat => s.updPort n fun c => { c with err := c.err && !bit v 5 }
  | .pairStat => s.updPair n fun q => { q with eqxDefer := q.eqxDefer && !bit v 3, eqxFail := q.eqxFail && !bit v 4 }
  | _ => s

/-! The REC block (20 R516). -/

/-- The registers of the REC block. -/
inductive RecReg where
  | stat | first | last | count | unrecorded | cnt | cntClr | ptr | ptrStat | win
deriving DecidableEq, Repr

/-- The register table of REC (24 R566). -/
def recRows : List (RegRow RecReg) :=
  [one 0x0000 0xFFFF00F0 .stat, one 0x0004 0 .first, one 0x0008 0 .last, one 0x000C 0xFFFF8000 .count, one 0x0010 0 .unrecorded,
   one 0x0014 0 .cnt, one 0x0018 0xFFFFFFFE .cntClr, one 0x0100 0 .ptr, one 0x0104 0xFFFFFFFE .ptrStat, arr 0x1000 1024 0 .win]

/-- A read of a REC register. -/
def State.recRegRead (s : State) (g : RecReg) (n : Nat) : Word :=
  let r := s.rcd
  match g with
  | .stat => orAll [place r.state 0 2, flag r.closed.isSome 2, flag r.writeErrSeen 3, place r.freezers.length 8 8]
  | .first => lo32 ((r.stored.map fun (x : RecSlot) => x.seq.toNat).min?.getD 0)
  | .last => lo32 ((r.stored.map fun (x : RecSlot) => x.seq.toNat).max?.getD 0)
  | .count => place r.stored.length 0 15
  | .unrecorded => r.unrecorded
  | .cnt => place r.writeErrCnt.toNat 0 16 ||| place r.supprCnt.toNat 16 16
  | .cntClr => 0
  | .ptr => r.ptr
  | .ptrStat => flag r.ptrValid 0
  | .win => lo32 (u32 r.win (4 * n))

/-- The effect of a write to a REC register. -/
def State.recWrite (s : State) (g : RecReg) (v : Word) : State :=
  match g with
  | .stat => s.updRec fun r => { r with writeErrSeen := r.writeErrSeen && !bit v 3 }
  | .cntClr => if bit v 0 then s.updRec RecSt.clearCnt else s
  | .ptr => s.recPointer v
  | _ => s

/-! The UPD block (21 R537). -/

/-- The registers of the UPD block. -/
inductive UpdReg where
  | stat | detail | boot | idLo | idHi | nextLo | nextHi | progress | cnt | cntClr
deriving DecidableEq, Repr

/-- The register table of UPD (24 R566). -/
def updRows : List (RegRow UpdReg) :=
  [one 0x0000 0xFFC000C0 .stat, one 0x0004 0xFFFFFF00 .detail, one 0x0008 0xFF00F080 .boot, one 0x0010 0 .idLo, one 0x0014 0 .idHi,
   one 0x0018 0 .nextLo, one 0x001C 0 .nextHi, one 0x0020 0 .progress, one 0x0024 0 .cnt, one 0x0028 0xFFFFFFFE .cntClr]

/-- A read of a UPD register. -/
def State.updRead (s : State) (g : UpdReg) : Word :=
  let j := s.journal
  let b := s.bootRec
  let u := s.updt
  let ident := if j.state = .idle then 0 else mfId j.manifest
  let next := s.nextWindow.getD 0
  match g with
  | .stat =>
    orAll [place j.state.code 0 4, flag s.isHead 4, flag s.actSoon 5, place u.err.toNat 8 8,
           place (if j.state = .idle then 0 else s.ownMember) 16 6]
  | .detail => place u.cfgErr.toNat 0 8
  | .boot =>
    orAll [flag b.fwActive 0, flag b.cfgActive 1, flag b.setActive 2, flag b.fwTrial 3, flag b.cfgTrial 4, place b.trialCnt 5 2,
           place b.confirmed.toNat 8 4, place b.lastResult 16 8]
  | .idLo => lo32 ident
  | .idHi => hi32 ident
  | .nextLo => lo32 next
  | .nextHi => hi32 next
  | .progress => place s.blocksOk 0 16 ||| place s.blocksTotal 16 16
  | .cnt => orAll [place u.blockErr.toNat 0 16, place u.deferCnt.toNat 16 8, place u.lateCnt.toNat 24 8]
  | .cntClr => 0

/-- UPD_CNT cleared (21 R537, 01 R19). -/
def UpdSt.clearCnt (u : UpdSt) : UpdSt := { u with blockErr := 0, deferCnt := 0, lateCnt := 0 }

/-- The effect of a write to a UPD register. -/
def State.updWrite (s : State) (g : UpdReg) (v : Word) : State :=
  match g with
  | .cntClr => if bit v 0 then s.updUpd UpdSt.clearCnt else s
  | _ => s

/-! The DBG block (22 R547). -/

/-- The registers of the DBG block. -/
inductive DbgReg where
  | frzStat | frzTime | frzCnt
deriving DecidableEq, Repr

/-- The register table of DBG (24 R566). -/
def dbgRows : List (RegRow DbgReg) :=
  [one 0x0000 0x00000080 .frzStat, one 0x0004 0 .frzTime, one 0x0008 0xFFFF0000 .frzCnt]

/-- STATE of DBG_FRZ_STAT (22 R547). -/
def FrzPhase.code : FrzPhase → Nat
  | .run => 0
  | .freezing => 1
  | .frozen => 2
  | .thawing => 3

/-- A read of a DBG register. -/
def State.dbgRead (s : State) (g : DbgReg) : Word :=
  let d := s.dbg
  match g with
  | .frzStat =>
    orAll [place d.phase.code 0 2, flag s.armed 2, flag s.tokenArmed 3, flag s.boot.svcEn 4, flag d.holdExpired 5, flag d.full 6,
           place d.mask.toNat 8 8, place d.frzCnt.toNat 16 16]
  | .frzTime => match d.began with
    | some b => lo32 (min ((s.clk.opt - b) / 1000000) 0xFFFFFFFF)
    | none => 0
  | .frzCnt => place d.ignored.toNat 0 16

end Sys2Proof.Machine
end

