-- ==== Sys2Proof/Machine/RegsPwr.lean ====
section
/-! DEFINITION. The registers of the VLV, PSW and COL blocks (15 R414; 16 R431; 17 R444). -/

namespace Sys2Proof.Machine

/-- The registers of the VLV block. -/
inductive VlvReg where
  | en | cntClr | cmd | bankStat | railStat | stat | cnt | cnt2 | cur | legDuty | pc | chCfg | dither
deriving DecidableEq, Repr

/-- The register table of VLV (24 R566). -/
def vlvRows : List (RegRow (VlvReg × Nat)) :=
  [one 0x0000 0 (.en, 0), one 0x0004 0xFFFF0000 (.en, 1), one 0x0008 0 (.cntClr, 0), one 0x000C 0xFFFF0000 (.cntClr, 1),
   one 0x0010 0xFFFFF8C0 (.cmd, 0), arr 0x0040 8 0x0000F020 (.bankStat, 0), arr 0x0060 4 0xFFFE0000 (.railStat, 0),
   arr 0x0100 48 0xFC000080 (.stat, 0), arr 0x0200 48 0 (.cnt, 0), arr 0x0300 48 0 (.cnt2, 0), arr 0x0400 48 0 (.cur, 0),
   arr 0x0500 48 0xFFFFFC00 (.legDuty, 0), arr 0x0600 48 0xFFFF8000 (.pc, 0), ⟨0x1000, 48, 8, 0xFFFFFEE0, (.chCfg, 0)⟩,
   ⟨0x1004, 48, 8, 0, (.dither, 0)⟩]

/-- The codes of a bank switch and of the decay mode (15 R405, R414). -/
def BhsMode.code : BhsMode → Nat
  | .off => 0
  | .battery => 1
  | .boost => 2
  | .fault => 3
def Decay.code : Decay → Nat
  | .freewheel => 0
  | .clamp => 1
  | .recover => 2

/-- Whether a valve channel waits for a boost: its request has not been admitted (15 R396). -/
def VlvCh.waits (c : VlvCh) : Bool := c.stall.isSome

/-- DECAY of a channel: a legacy channel always turns off under CLAMP (15 R407). -/
def State.vlvDecay (s : State) (n : Nat) : Decay := if s.vlvMode n = 2 then .clamp else (rd s.vlv.ch n).decay

/-- A read of a VLV register. -/
def State.vlvRead (s : State) (g : VlvReg) (n : Nat) : Word :=
  let c := rd s.vlv.ch n
  match g with
  | .en => getWord s.vlv.en n
  | .cntClr => 0
  | .cmd => 0
  | .bankStat =>
    let b := rd s.vlv.bank n
    let of (p : VlvCh → Bool) : List Nat := (List.range 6).filter fun k => p (rd s.vlv.ch (6 * n + k))
    orAll ([place b.bhs.code 0 2, place ((of VlvCh.inBoost).headD 0) 2 3, place b.ma.toNat 16 16]
      ++ (of VlvCh.waits).map fun k => flag true (6 + k))
  | .railStat => place (rd s.vlv.rail n).mv.toNat 0 16 ||| flag (rd s.vlv.rail n).low 16
  | .stat =>
    orAll [commonWord (s.vlvState n) c.enF c.err [c.shortCnt, c.openCnt, c.refuseCnt, c.cutCnt, c.regCnt] c.lastErr, flag c.inBoost 16,
           flag c.waits 17, flag c.undersupply 18, flag c.openLoad 19, flag c.startRefused 20, flag c.boostCut 21, flag c.holdTol 22,
           flag c.active 23, place (s.vlvDecay n).code 24 2]
  | .cnt => place c.shortCnt.toNat 0 16 ||| place c.refuseCnt.toNat 16 16
  | .cnt2 => place c.openCnt.toNat 0 16 ||| place c.cutCnt.toNat 16 16
  | .cur => place c.iMeas.toNat 0 16 ||| place (min c.tgt 65535) 16 16
  | .legDuty => place (rd s.vlv.legDuty n) 0 10
  | .pc => orAll [place c.pc 0 11, flag c.ended 11, place c.stack.length 12 2, flag c.tflag 14]
  | .chCfg => s.live (0xB1000 + 8 * n)
  | .dither => s.live (0xB1004 + 8 * n)

/-- The checks of a write to a VLV register beyond its reserved bits. -/
def State.vlvCheck (s : State) (g : VlvReg) (n : Nat) (v : Word) : Option Nat :=
  match g with
  | .en => if (setBits v.toNat 32).all fun b => s.vlvMode (32 * n + b) != 0 then none else some stRANGE
  | .cmd => rangeIf (decide (field v 0 6 < 48) && within (field v 8 3) 1 3)
  | .legDuty => if 1000 < field v 0 10 then some stRANGE else if s.vlvMode n = 2 then none else some stRANGE
  | _ => none

/-- The effect of a write to a VLV register. -/
def State.vlvWrite (s : State) (g : VlvReg) (n : Nat) (v : Word) : State :=
  match g with
  | .en => { s with vlv := { s.vlv with en := putWord s.vlv.en n v } }
  | .cntClr => s.vlvCntClear (32 * n) v
  | .cmd => match field v 8 3 with
    | 1 => s.vlvCmdRestart (field v 0 6)
    | 2 => s.vlvCmdClear (field v 0 6)
    | _ => s.vlvCmdClearBank (field v 0 6 / 6)
  | .railStat => { s with vlv := { s.vlv with rail := upd s.vlv.rail n fun r => { r with low := r.low && !bit v 16 } } }
  | .stat => s.updVlv n fun c =>
      { c with err := c.err && !bit v 5, startRefused := c.startRefused && !bit v 20, boostCut := c.boostCut && !bit v 21 }
  | .legDuty => { s with vlv := { s.vlv with legDuty := put s.vlv.legDuty n (field v 0 10) } }
  | .chCfg => s.setShadow (0xB1000 + 8 * n) v
  | .dither => s.setShadow (0xB1004 + 8 * n) v
  | _ => s

/-! The PSW block (16 R431). -/

/-- The registers of the PSW block; `rsvd` are the fourth words of the channels' groups. -/
inductive PswReg where
  | en | cntClr | cmd | pkgStat | duty | stat | meas | temp | cnt | cnt2 | pwm | lamp | retry | rsvd
deriving DecidableEq, Repr

/-- The register table of PSW (24 R566). -/
def pswRows : List (RegRow (PswReg × Nat)) :=
  [one 0x0000 0 (.en, 0), one 0x0004 0xFFFFFF00 (.en, 1), one 0x0008 0 (.cntClr, 0), one 0x000C 0xFFFFFF00 (.cntClr, 1),
   one 0x0010 0xFFFFF8C0 (.cmd, 0), arr 0x0040 4 0x00FC0000 (.pkgStat, 0), arr 0x0100 40 0xFFFFFC00 (.duty, 0),
   arr 0x0200 40 0x0E000080 (.stat, 0), arr 0x0300 40 0xFC000000 (.meas, 0), arr 0x0400 40 0 (.temp, 0), arr 0x0500 40 0 (.cnt, 0),
   arr 0x0600 40 0 (.cnt2, 0), ⟨0x1000, 40, 16, 0xFFFFF800, (.pwm, 0)⟩, ⟨0x1004, 40, 16, 0x0000FFFE, (.lamp, 0)⟩,
   ⟨0x1008, 40, 16, 0x0000FFF0, (.retry, 0)⟩, ⟨0x100C, 40, 16, 0xFFFFFFFF, (.rsvd, 0)⟩]

/-- PHASE of a switch channel (16 R431). -/
def PswPhase.code : PswPhase → Nat
  | .idle => 0
  | .wait => 1
  | .inrush => 2
  | .on => 3
  | .tripped => 4
  | .latched => 5
  | .refused => 6
  | .fault => 7

/-- RETRY_LEFT of a channel: whole milliseconds begun on its retry timer, running or paused. -/
def State.retryLeft (s : State) (c : PswCh) : Nat :=
  let ns := match c.retryEnd with
    | some e => e - s.clk.opt
    | none => c.retryLeft.getD 0
  min ((ns + 999999) / 1000000) 65535

/-- A read of a PSW register. -/
def State.pswRead (s : State) (g : PswReg) (n : Nat) : Word :=
  let c := rd s.psw.ch n
  match g with
  | .en => getWord s.psw.en n
  | .cntClr => 0
  | .cmd => 0
  | .pkgStat =>
    let p := rd s.psw.pkg n
    let d := rd s.die n
    orAll [place p.iAvg.toNat 0 16, flag p.overV 16, flag d.dieHot 17, place (clampInt 0 255 d.dieT).toNat 24 8]
  | .duty => place (s.pswWant n) 0 10
  | .stat =>
    orAll [commonWord (s.pswState n) c.enF c.err [c.tripCnt, c.openCnt, c.refuseCnt, c.latchCnt] c.lastErr, place c.phase.code 16 3,
           flag c.lampSat 19, flag c.openLoad 20, flag c.startRefused 21, flag c.latch 22, flag c.clrPend 23, flag c.tripSeen 24,
           place c.retries.toNat 28 4]
  | .meas => place c.iMeas.toNat 0 16 ||| place c.dutyApp 16 10
  | .temp => place (BitVec.ofInt 16 (clampInt (-32768) 32767 c.tj)).toNat 0 16 ||| place (s.retryLeft c) 16 16
  | .cnt => place c.tripCnt.toNat 0 16 ||| place c.refuseCnt.toNat 16 16
  | .cnt2 => place c.openCnt.toNat 0 16 ||| place c.latchCnt.toNat 16 16
  | .pwm => s.live (0xC1000 + 16 * n)
  | .lamp => s.live (0xC1004 + 16 * n)
  | .retry => s.live (0xC1008 + 16 * n)
  | .rsvd => 0

/-- The checks of a write to a PSW register beyond its reserved bits. -/
def State.pswCheck (s : State) (g : PswReg) (n : Nat) (v : Word) : Option Nat :=
  match g with
  | .en => if (setBits v.toNat 32).all fun b => s.pswUsed (32 * n + b) then none else some stRANGE
  | .cmd => rangeIf (decide (field v 0 6 < 40) && within (field v 8 3) 1 3)
  | .duty => if 1000 < field v 0 10 then some stRANGE else if (s.boundSlots 2 n).isEmpty then none else some stRANGE
  | _ => none

/-- The effect of a write to a PSW register. -/
def State.pswWrite (s : State) (g : PswReg) (n : Nat) (v : Word) : State :=
  match g with
  | .en => { s with psw := { s.psw with en := putWord s.psw.en n v } }
  | .cntClr => s.pswCntClear (32 * n) v
  | .cmd => match field v 8 3 with
    | 1 => s.pswClear (field v 0 6)
    | 2 => s.pswClearLatch (field v 0 6)
    | _ => s.pswRestart (field v 0 6)
  | .pkgStat => { s with psw := { s.psw with pkg := upd s.psw.pkg n fun p => { p with overV := p.overV && !bit v 16 } } }
  | .duty => { s with psw := { s.psw with duty := put s.psw.duty n (field v 0 10) } }
  | .stat => s.updPsw n fun c =>
      { c with err := c.err && !bit v 5, startRefused := c.startRefused && !bit v 21, tripSeen := c.tripSeen && !bit v 24 }
  | .pwm => s.setShadow (0xC1000 + 16 * n) v
  | .lamp => s.setShadow (0xC1004 + 16 * n) v
  | .retry => s.setShadow (0xC1008 + 16 * n) v
  | _ => s

/-! The COL block (17 R444). -/

/-- The registers of the COL block. -/
inductive ColReg where
  | en | cntClr | cmd | shdnStat | stat | meas | cnt | duty
deriving DecidableEq, Repr

/-- The register table of COL (24 R566). -/
def colRows : List (RegRow ColReg) :=
  [one 0x0000 0xFFFFFF00 .en, one 0x0004 0xFFFFFF00 .cntClr, one 0x0008 0xFFFFFCF8 .cmd, one 0x0040 0xFF00F8E0 .shdnStat,
   arr 0x0100 8 0xFC000080 .stat, arr 0x0200 8 0xFC000000 .meas, arr 0x0300 8 0 .cnt, arr 0x0400 8 0xFFFFFC00 .duty]

/-- PHASE of a cooling channel (17 R444). -/
def ColPhase.code : ColPhase → Nat
  | .stopped => 0
  | .wait => 1
  | .spinup => 2
  | .running => 3
  | .pause => 4
  | .refused => 5
  | .failedBlocked => 6
  | .failedTach => 7

/-- A read of a COL register. -/
def State.colRead (s : State) (g : ColReg) (n : Nat) : Word :=
  let c := rd s.col.ch n
  match g with
  | .en => lo32 s.col.en.toNat
  | .cntClr => 0
  | .cmd => 0
  | .shdnStat =>
    let x := s.col.shdn
    orAll [flag x.cmp14 0, flag x.cmp15 1, flag x.fault14 2, flag x.fault15 3, flag x.shdn 4, place x.code.toNat 8 3, place x.thresh.toNat 16 8]
  | .stat =>
    orAll [commonWord (s.colState n) c.enF c.err [c.spinFailCnt, c.tachLossCnt] c.lastErr, place c.phase.code 16 3, flag c.sheepdog 19,
           flag c.allFull 20, flag c.startRefused 21, flag c.failSeen 22, flag c.minRaised 23, place c.attempt 24 2]
  | .meas => place c.rpm.toNat 0 16 ||| place c.dutyApp 16 10
  | .cnt => place c.spinFailCnt.toNat 0 16 ||| place c.tachLossCnt.toNat 16 16
  | .duty => place (rd s.col.duty n) 0 10

/-- The checks of a write to a COL register beyond its reserved bits. -/
def State.colCheck (s : State) (g : ColReg) (n : Nat) (v : Word) : Option Nat :=
  match g with
  | .en => if (setBits v.toNat 8).all fun b => s.colUsed b then none else some stRANGE
  | .cmd => rangeIf (field v 8 2 == 1)
  | .duty => if 1000 < field v 0 10 then some stRANGE else if s.colUsed n && s.colSource n == 1 then none else some stRANGE
  | _ => none

/-- The effect of a write to a COL register. -/
def State.colWrite (s : State) (g : ColReg) (n : Nat) (v : Word) : State :=
  match g with
  | .en => { s with col := { s.col with en := BitVec.ofNat 8 v.toNat } }
  | .cntClr => s.colCntClear v
  | .cmd => s.colClear (field v 0 3)
  | .stat => s.updCol n fun c =>
      { c with err := c.err && !bit v 5, startRefused := c.startRefused && !bit v 21, failSeen := c.failSeen && !bit v 22 }
  | .duty => { s with col := { s.col with duty := put s.col.duty n (field v 0 10) } }
  | _ => s

end Sys2Proof.Machine
end

