-- ==== Sys2Proof/Machine/RegsSns.lean ====
section
/-! DEFINITION. The registers of the SNS and FLW blocks (06 R183; 07 R212). -/

namespace Sys2Proof.Machine

/-- The registers of the SNS block. -/
inductive SnsReg where
  | ainStat | ainEng | finStat | finEng | finPos | finPosClr | dinStat | tsStat | supStat | frameStat | imu
deriving DecidableEq, Repr

/-- The register table of SNS (24 R566). -/
def snsRows : List (RegRow SnsReg) :=
  [arr 0x0100 24 0x00C00000 .ainStat, arr 0x0200 24 0 .ainEng, arr 0x0300 24 0x000000F0 .finStat, arr 0x0400 24 0 .finEng,
   arr 0x0500 24 0 .finPos, one 0x0580 0xFF000000 .finPosClr, one 0x0600 0xFFFF0000 .dinStat, arr 0x0700 16 0xFFF00000 .tsStat,
   arr 0x0800 4 0 .supStat, one 0x0900 0 .frameStat, arr 0x0A00 6 0 .imu]

/-- STATE of a sensor supply (06 R183). -/
def SupState.code : SupState → Nat
  | .off => 0
  | .on => 1
  | .limit => 2
  | .tripped => 3

/-- TEMP of a temperature input: in 0.01 °C, 255.00 °C while open or shorted. -/
def TsCh.temp16 (c : TsCh) : Nat :=
  if c.isOpen ∨ c.short then 0x639C else (BitVec.ofInt 16 (clampInt (-32768) 32767 (fRoundAway (fmul c.temp (fOfInt 100))))).toNat

/-- A read of an SNS register. -/
def State.snsRead (s : State) (g : SnsReg) (n : Nat) : Word :=
  let q := s.sns
  match g with
  | .ainStat =>
    let c := rd q.ain n
    orAll [place c.raw.toNat 0 16, flag c.valid 16, flag c.low 17, flag c.high 18, flag c.supBad 19, flag c.offImg 20,
           flag c.faultSeen 21, place c.faultCnt.toNat 24 8]
  | .ainEng => let c := rd q.ain n
    if c.valid then c.eng else fNaN
  | .finStat =>
    let c := rd q.fin n
    orAll [flag c.valid 0, flag c.zero 1, flag c.overV 2, flag c.qerrSeen 3, place c.avgUsed.toNat 8 8, place c.qerrCnt.toNat 16 16]
  | .finEng => let c := rd q.fin n
    if c.valid then c.eng else fNaN
  | .finPos => if n % 2 = 0 ∧ s.finQuad n then (rd q.fin n).pos else 0
  | .finPosClr => 0
  | .dinStat => lo32 (bitsOf q.din fun c => c.state)
  | .tsStat =>
    let c := rd q.ts n
    orAll [place c.temp16 0 16, flag c.valid 16, flag c.isOpen 17, flag c.short 18, flag c.faultSeen 19]
  | .supStat =>
    let c := rd q.sup n
    orAll [place (min c.mv 8191) 0 13, place c.st.code 13 3, place (min c.ma 255) 16 8, flag c.tripSeen 24, place c.tripCnt.toNat 25 7]
  | .frameStat => q.frameSeq
  | .imu => if q.imuImg.valid then rd q.imuImg.v n else fNaN

/-- The effect of a write to an SNS register. -/
def State.snsWrite (s : State) (g : SnsReg) (n : Nat) (v : Word) : State :=
  match g with
  | .ainStat => s.updSns fun q => { q with ain := upd q.ain n fun c => { c with faultSeen := c.faultSeen && !bit v 21 } }
  | .finStat => s.updSns fun q => { q with fin := upd q.fin n fun c => { c with qerrSeen := c.qerrSeen && !bit v 3 } }
  | .finPosClr => s.finPosClear v.toNat
  | .tsStat => s.updSns fun q => { q with ts := upd q.ts n fun c => { c with faultSeen := c.faultSeen && !bit v 19 } }
  | .supStat => s.updSns fun q => { q with sup := upd q.sup n fun c => { c with tripSeen := c.tripSeen && !bit v 24 } }
  | _ => s

/-! The FLW block (07 R212). -/

/-- The registers of the FLW block. -/
inductive FlwReg where
  | flowStat | wet | dry | moist | crop | calCmd | calMass | calStat | calMeas | calFactor | bridgeStat | lsEn | lsStat | lsCnt
  | lsNoise | lsCntClr | lsThr | lsKthr | loss
deriving DecidableEq, Repr

/-- The register table of FLW (24 R566). -/
def flwRows : List (RegRow FlwReg) :=
  [one 0x0000 0 .flowStat, one 0x0004 0 .wet, one 0x0008 0 .dry, one 0x000C 0 .moist, one 0x0010 0x0000FFF0 .crop,
   one 0x0020 0xFFFFFFF8 .calCmd, one 0x0024 0 .calMass, one 0x0028 0x000000FC .calStat, one 0x002C 0 .calMeas, one 0x0030 0 .calFactor,
   arr 0x0040 2 0x0000FFE0 .bridgeStat, one 0x00F0 0xFFFF0000 .lsEn, arr 0x0100 16 0xFFFC0080 .lsStat, arr 0x0140 16 0 .lsCnt,
   arr 0x0180 16 0xC000C000 .lsNoise, one 0x01C0 0xFFFF0000 .lsCntClr, arr 0x0200 16 0xC000C000 .lsThr, arr 0x0240 16 0xFFFFFF00 .lsKthr,
   arr 0x0300 16 0 .loss]

/-- STATE of the calibration (07 R212). -/
def CalState.code : CalState → Nat
  | .idle => 0
  | .running => 1
  | .stopped => 2
  | .taring => 3

/-- A read of an FLW register: values of the latest frame, but for the settings, the bridges and the common status. -/
def State.flwRead (s : State) (g : FlwReg) (n : Nat) : Word :=
  let f := s.flw
  match g with
  | .flowStat => f.out.flags
  | .wet => f.out.wet.word
  | .dry => f.out.dry.word
  | .moist => f.out.moist.word
  | .crop => s.live 0x30010
  | .calCmd => 0
  | .calMass => f.mass
  | .calStat => orAll [place f.out.calState.code 0 2, place f.out.result.toNat 8 8, place f.out.gaps.toNat 16 16]
  | .calMeas => f.out.mm
  | .calFactor => f.out.factor
  | .bridgeStat =>
    let b := rd f.bridge n
    orAll [flag b.valid 0, flag b.isOpen 1, flag b.short 2, flag b.overV 3, flag b.faultSeen 4, place b.faultCnt.toNat 16 16]
  | .lsEn => lo32 f.lsEn.toNat
  | .lsStat =>
    let c := rd f.ls n
    orAll [commonWord (s.lossState n) c.enF c.err [c.overlong, c.satCnt] c.lastErr, flag (rd f.out.loss n).saturated 16,
           flag (rd f.out.loss n).thrAtMax 17]
  | .lsCnt => place (rd f.ls n).overlong.toNat 0 16 ||| place (rd f.ls n).satCnt.toNat 16 16
  | .lsNoise => place (rd f.out.loss n).noise 0 14 ||| place (rd f.out.loss n).thr 16 14
  | .lsCntClr => 0
  | .lsThr => s.live (0x30200 + 4 * n)
  | .lsKthr => s.live (0x30240 + 4 * n)
  | .loss => (rd (rd f.out.group (n / 4)) (n % 4)).word

/-- The checks of a write to an FLW register beyond its reserved bits. -/
def State.flwCheck (s : State) (g : FlwReg) (v : Word) : Option Nat :=
  match g with
  | .calCmd => rangeIf (within (field v 0 3) 1 5)
  | .lsEn => if (setBits v.toNat 16).all fun c => (s.classMap c).isSome then none else some stRANGE
  | .lsThr => rangeIf (within (field v 0 14) 1 8191 && within (field v 16 14) 1 8191)
  | _ => none

/-- The command that a FLW_CAL_CMD code names. -/
def calCmdOf (k : Nat) : CalCmd :=
  match k with
  | 1 => .start
  | 2 => .stop
  | 3 => .enter
  | 4 => .abort
  | _ => .tare

/-- The effect of a write to an FLW register. -/
def State.flwWrite (s : State) (g : FlwReg) (n : Nat) (v : Word) : State :=
  match g with
  | .crop => s.setShadow 0x30010 v
  | .calCmd => s.calQueue (calCmdOf (field v 0 3))
  | .calMass => s.updFlw fun f => { f with mass := v }
  | .bridgeStat => s.updFlw fun f => { f with bridge := upd f.bridge n fun b => { b with faultSeen := b.faultSeen && !bit v 4 } }
  | .lsEn => s.updFlw fun f => { f with lsEn := BitVec.ofNat 16 v.toNat }
  | .lsStat => s.updLs n fun c => { c with err := c.err && !bit v 5 }
  | .lsCntClr => s.lossCntClear v.toNat
  | .lsThr => s.setShadow (0x30200 + 4 * n) v
  | .lsKthr => s.setShadow (0x30240 + 4 * n) v
  | _ => s

end Sys2Proof.Machine
end

