-- ==== Sys2Proof/Machine/RegsSys.lean ====
section
/-! DEFINITION. The registers of the SYS and HST blocks (01 R25, R27; 02 R54, R55, R59, R66; 03 R94; 04 R119; 05 R162). -/

namespace Sys2Proof.Machine

/-- The registers of the SYS block. -/
inductive SysReg where
  | id | serialLo | serialHi | idStat | regionStat | clusterRst | supplyStat | supplyVolt | supplyCnt | budgetCfg | budgetStat
  | budgetRefused | wake | bootStat | cfgVer | cfgErrDetail | releaseStat | releaseCmd | smStat | smCnt | smEvent
deriving DecidableEq, Repr

/-- The register table of SYS (24 R566). -/
def sysRows : List (RegRow SysReg) :=
  [one 0x0000 0xFF000000 .id, one 0x0004 0 .serialLo, one 0x0008 0 .serialHi, one 0x000C 0xFFFF0E00 .idStat,
   arr 0x0100 10 0xFF000000 .regionStat, one 0x0140 0xFFFFF000 .clusterRst, one 0x0200 0xFFFFF000 .supplyStat, one 0x0204 0 .supplyVolt,
   one 0x0208 0 .supplyCnt, one 0x0240 0xFFF00000 .budgetCfg, one 0x0244 0xFFC00000 .budgetStat, one 0x0248 0 .budgetRefused,
   one 0x0250 0xFFFFFFE0 .wake, one 0x0300 0xFFFF00C0 .bootStat, one 0x0304 0 .cfgVer, one 0x0308 0 .cfgErrDetail,
   one 0x0340 0xFFFE0000 .releaseStat, one 0x0344 0xFFFF0000 .releaseCmd, ⟨0x0400, 64, 8, 0x0000F000, .smStat⟩,
   ⟨0x0404, 64, 8, 0, .smCnt⟩, one 0x0600 0xFFC00000 .smEvent]

/-- The code of STATE of a region (01 R27). -/
def RegionState.code : RegionState → Nat
  | .off => 0
  | .boot => 1
  | .run => 2
  | .frozen => 3
  | .fault => 4
  | .supervisor => 5

/-- The code of STATE of the supply (02 R54); the logic of a module that is OFF answers nothing, and its field reads as at reset. -/
def Supply.code : Supply → Nat
  | .off => 0
  | .powerup => 0
  | .normal => 1
  | .crank => 2
  | .overvolt => 3
  | .shutdown => 4

/-- Whether every release is withheld (03 R94). -/
def State.relBlocked (s : State) : Bool := (s.boot.checked && !s.diesOk) || s.boot.svcHold

/-- A read of a SYS register.  STATE of SNS reads FAULT while the D1 converter cannot convert a temperature input (06 R174; log 109). -/
def State.sysRead (s : State) (g : SysReg) (n : Nat) : Word :=
  let b := s.boot
  match g with
  | .id => 0x00C18840
  | .serialLo => lo32 b.serial.toNat
  | .serialHi => hi32 b.serial.toNat
  | .idStat => orAll [place b.dieOk.toNat 0 7, flag b.devCert 7, flag b.owner 8, place b.failDie.toNat 12 4]
  | .regionStat =>
    let r := rd s.regions n
    let st : RegionState := if n = rSNS ∧ r.st = .run ∧ s.sns.convFail then .fault else r.st
    orAll [place st.code 0 4, flag r.clkOk 4, flag r.railOk 5, flag r.eccCe 6, flag r.eccUe 7, place r.hsFull.toNat 8 16]
  | .clusterRst => 0
  | .supplyStat =>
    let p := s.pwr
    orAll [place p.supply.code 0 3, flag p.ign 3, flag p.wake 4, flag (decide (6000 ≤ p.mon.vlog)) 5, flag p.cranked 6, flag p.ovv 7,
           place p.lastShdn.toNat 8 4]
  | .supplyVolt => place (satNat 16 s.vs).toNat 0 16 ||| place (satNat 16 s.pwr.mon.vlog).toNat 16 16
  | .supplyCnt => place s.pwr.crankCnt.toNat 0 16 ||| place s.pwr.crankMax.toNat 16 16
  | .budgetCfg => s.live 0x240
  | .budgetStat => orAll [place s.bud.load 0 14, place s.bud.reqs.length 14 7, flag s.bud.isOpen 21]
  | .budgetRefused => place s.bud.refused.toNat 0 16 ||| place s.bud.maxWait.toNat 16 16
  | .wake => orAll [flag s.wake.reg 0, flag s.wake.out 1, flag s.wake.wait 2, flag s.wake.refused 3, flag s.wake.trip 4]
  | .bootStat => orAll [flag b.cfgSlot 0, flag b.trial 1, flag b.fallback 2, flag b.noImage 3, flag b.svcHold 4, flag b.svcEn 5,
                        place b.cfgErr.toNat 8 8]
  | .cfgVer => b.cfgVer
  | .cfgErrDetail => place b.errTable.toNat 0 16 ||| place b.errRule.toNat 16 16
  | .releaseStat => place b.released.toNat 0 16 ||| flag s.relBlocked 16
  | .releaseCmd => 0
  | .smStat =>
    let x := rd s.sm n
    orAll [place x.state.toNat 0 8, flag x.run 8, flag x.late 9, flag x.lost 10, flag x.skip 11,
           place (match s.img.machines[n]? with
             | some t => t.id
             | none => 0) 16 16]
  | .smCnt =>
    let x := rd s.sm n
    orAll [place x.transCnt.toNat 0 16, place x.lostCnt.toNat 16 8, place x.lateCnt.toNat 24 8]
  | .smEvent => 0

/-- The checks of a write to a SYS register beyond its reserved bits: the status of a refusal. -/
def State.sysCheck (s : State) (r : HostReq) (g : SysReg) (v : Word) : Option Nat :=
  match g with
  | .clusterRst => if (s.sess r.sess).level < 2 then some stACCESS else s.clusterCheck v
  | .budgetCfg => rangeIf (within (field v 0 10) 50 1000 && within (field v 10 10) 10 1000)
  | .wake => if s.img.wakeSrc = noRef then none else some stRANGE
  | .smEvent => rangeIf (decide (field v 16 6 < s.img.machines.length))
  | _ => none

/-- A write to SYS_RELEASE_CMD (03 R94, R70): RONREX conditions, and in service hold the groups of a SERVICE session. -/
def State.releaseWrite (s : State) (r : HostReq) (v : Word) : State :=
  let groups := setBits v.toNat 16
  let mask (p : Nat → Bool) : BitVec 16 :=
    (groups.filter fun g => decide (g < s.img.relCount) && p (s.img.relCond g)).foldl (fun m g => m ||| BitVec.ofNat 16 (2 ^ g)) 0
  let rx := mask fun c => c == 2
  let svc := if s.boot.svcHold && decide (2 ≤ (s.sess r.sess).level) then mask fun c => c != 0 else 0
  { s with boot := { s.boot with rxCond := s.boot.rxCond ||| rx, svcRel := s.boot.svcRel ||| svc } }

/-- The effect of a write to a SYS register. -/
def State.sysWrite (s : State) (r : HostReq) (g : SysReg) (n : Nat) (v : Word) : State :=
  match g with
  | .regionStat => s.updRegion n fun x => { x with eccCe := x.eccCe && !bit v 6, eccUe := x.eccUe && !bit v 7 }
  | .clusterRst => s.clusterReset v
  | .supplyStat => { s with pwr := { s.pwr with cranked := s.pwr.cranked && !bit v 6, ovv := s.pwr.ovv && !bit v 7 } }
  | .budgetCfg => s.setShadow 0x240 v
  | .wake => { s with wake := { s.wake with reg := bit v 0, refused := s.wake.refused && !bit v 3, trip := s.wake.trip && !bit v 4 } }
  | .releaseCmd => s.releaseWrite r v
  | .smStat => s.updSm n fun x => { x with late := x.late && !bit v 9, lost := x.lost && !bit v 10, skip := x.skip && !bit v 11 }
  | .smEvent => s.smCommand (field v 16 6) (field v 0 16)
  | _ => s

/-! The HST block (05 R162). -/

/-- The registers of the HST block. -/
inductive HstReg where
  | slotStat | cnt | badMsg | silenceStat | sessionStat | ringStat
deriving DecidableEq, Repr

/-- The register table of HST (24 R566). -/
def hstRows : List (RegRow HstReg) :=
  [one 0x0000 0xFFF00000 .slotStat, one 0x0004 0 .cnt, one 0x0008 0xFFFF0000 .badMsg, one 0x000C 0x000000F8 .silenceStat,
   arr 0x0100 8 0xF8000008 .sessionStat, arr 0x0200 256 0xF00000E0 .ringStat]

/-- A read of an HST register.  SINCE_MS reads 0xFFFF while EVER is 0, at reset too, where its Reset column gives 0x0000: the field's own words
win (log 108). -/
def State.hstRead (s : State) (g : HstReg) (n : Nat) : Word :=
  let h := s.hst
  match g with
  | .slotStat => place h.ops.length 0 10 ||| place h.highWater 10 10
  | .cnt => place h.busyCnt.toNat 0 16 ||| place h.dropPub.toNat 16 16
  | .badMsg => place h.badMsg.toNat 0 16
  | .silenceStat =>
    let ms := if h.ever then (satNat 16 ((s.clk.opt - h.tLast) / 1000000)).toNat else 0xFFFF
    orAll [flag h.present 0, flag h.ever 1, flag h.expired 2, place h.expiryCnt.toNat 8 8, place ms 16 16]
  | .sessionStat =>
    let x := s.sess n
    if x.isOpen = false then 0
    else orAll [flag true 0, place x.level 1 2, place x.port 4 4,
                place (h.ring.toList.filter fun (g : Ring) => g.isOpen && g.sess == n).length 8 9, place (s.sessFlight n) 17 10]
  | .ringStat =>
    let x := rd h.ring n
    if x.isOpen = false then 0
    else orAll [flag true 0, flag x.ordered 1, place x.sess 2 3, place (s.ringFlight n) 8 10, place x.limit 18 10]

/-- The effect of a write to an HST register: EXPIRED alone can be cleared. -/
def State.hstWrite (s : State) (g : HstReg) (v : Word) : State :=
  match g with
  | .silenceStat => { s with hst := { s.hst with expired := s.hst.expired && !bit v 2 } }
  | _ => s

end Sys2Proof.Machine
end

