-- ==== Sys2Proof/Machine/RegsYld.lean ====
section
/-! DEFINITION. The registers of the YLD and VIS blocks (13 R365; 14 R390). -/

namespace Sys2Proof.Machine

/-- The registers of the YLD block. -/
inductive YldReg where
  | stat | lag | lagCnt | field | cmd | totalWet | totalArea | raster | logFirst | logLast | logTrim | tlgTrim | winSel | winPos | winStat
  | tlgFile | win | lagCfg | lagBound | recCfg | passCfg
deriving DecidableEq, Repr

/-- The register table of YLD (24 R566). -/
def yldRows : List (RegRow YldReg) :=
  [one 0x0000 0x0000FF00 .stat, one 0x0004 0 .lag, one 0x0008 0 .lagCnt, one 0x000C 0 .field, one 0x0010 0xFFFFFFFC .cmd,
   one 0x0014 0 .totalWet, one 0x0018 0 .totalArea, one 0x001C 0xFFFF8000 .raster, one 0x0020 0 .logFirst, one 0x0024 0 .logLast,
   one 0x0028 0 .logTrim, one 0x002C 0 .tlgTrim, one 0x0030 0x000000FC .winSel, one 0x0034 0 .winPos, one 0x0038 0xFFFFFF80 .winStat,
   one 0x003C 0xFFFF0000 .tlgFile, arr 0x0040 16 0 .win, one 0x0100 0x0000FFFE .lagCfg, one 0x0104 0 .lagBound, one 0x0108 0x0000C0FE .recCfg,
   one 0x010C 0xFFFF00C0 .passCfg]

/-- A read of a YLD register. -/
def State.yldRead (s : State) (g : YldReg) (n : Nat) : Word :=
  let y := s.yld
  match g with
  | .stat =>
    orAll [flag y.working 0, place y.passLast 1 2, flag y.lagFromEst 3, flag y.rasterFull 4, flag s.store.full 5, flag y.fileOpen 6,
           flag y.tlgSkip 7, place y.sect 16 16]
  | .lag => place y.lag 0 16 ||| place y.est 16 16
  | .lagCnt => place y.accept.toNat 0 16 ||| place y.reject.toNat 16 16
  | .field => y.field
  | .cmd => 0
  | .totalWet => y.totalWet
  | .totalArea => y.totalArea
  | .raster => place y.raster.tiles.length 0 15
  | .logFirst => lo32 ((s.store.log.head?.map fun p => p.1).getD 0)
  | .logLast => lo32 ((s.store.log.getLast?.map fun p => p.1).getD 0)
  | .logTrim => 0
  | .tlgTrim => 0
  | .winSel => y.winSel
  | .winPos => y.winPos
  | .winStat => place s.yldWin.length 0 7
  | .tlgFile => place y.lostCnt.toNat 0 16
  | .win => lo32 (u32 s.yldWin (4 * n))
  | .lagCfg => s.live 0x90100
  | .lagBound => s.live 0x90104
  | .recCfg => s.live 0x90108
  | .passCfg => s.live 0x9010C

/-- The checks of a write to a YLD register beyond its reserved bits. -/
def State.yldCheck (_s : State) (g : YldReg) (v : Word) : Option Nat :=
  match g with
  | .cmd => rangeIf (field v 0 2 == 1 || field v 0 2 == 2)
  | .winSel => rangeIf (field v 0 2 != 3)
  | _ => none

/-- A write of YLD_LOG_TRIM or YLD_TLG_TRIM (13 R365): the open file is never deleted. -/
def State.logTrim (s : State) (below : Nat) : State :=
  { s with store := { s.store with log := s.store.log.filter fun p => decide (below ≤ p.1) } }
def State.tlgTrim (s : State) (below : Nat) : State :=
  { s with store := { s.store with
      files := s.store.files.filter fun f => decide (below ≤ f.num) || (s.yld.fileOpen && f.num == s.store.lastFile) } }

/-- The effect of a write to a YLD register. -/
def State.yldWrite (s : State) (g : YldReg) (v : Word) : State :=
  match g with
  | .stat => s.updYld fun y => { y with rasterFull := y.rasterFull && !bit v 4, tlgSkip := y.tlgSkip && !bit v 7 }
  | .field => s.updYld fun y => { y with field := v }
  | .cmd => if field v 0 2 = 1 then s.updYld fun y => { y with clearWanted := some y.fieldInForce }
      else s.updYld fun y => { y with totalWet := 0, totalArea := 0 }
  | .logTrim => s.logTrim v.toNat
  | .tlgTrim => s.tlgTrim v.toNat
  | .winSel => s.updYld fun y => { y with winSel := v }
  | .winPos => s.updYld fun y => { y with winPos := v }
  | .lagCfg => s.setShadow 0x90100 v
  | .lagBound => s.setShadow 0x90104 v
  | .recCfg => s.setShadow 0x90108 v
  | .passCfg => s.setShadow 0x9010C v
  | _ => s

/-! The VIS block (14 R390). -/

/-- The registers of the VIS block; `wb` are the white-balance words, `rsvd` the reserved words of a camera's group. -/
inductive VisReg where
  | camEn | camStat | camFrame | cnt0 | cnt1 | cntClr | pipeStat | tapCfg | tapStat | winSel | winPos | winLen | win | gsStat | gsFrame
  | expMode | expLines (k : Nat) | expGain (k : Nat) | wb (k : Nat) | rsvd
deriving DecidableEq, Repr

/-- The register table of VIS (24 R566). -/
def visRows : List (RegRow VisReg) :=
  [one 0x0000 0xFFFFFFC0 .camEn, arr 0x0100 6 0x00E00080 .camStat, arr 0x0140 6 0 .camFrame, arr 0x0180 6 0 .cnt0, arr 0x01C0 6 0 .cnt1,
   one 0x0200 0xFFFFFFC0 .cntClr, arr 0x0300 2 0x00000080 .pipeStat, arr 0x0340 2 0xFFFFFF80 .tapCfg, arr 0x0348 2 0x000000F8 .tapStat,
   one 0x0400 0xFFFFFFE0 .winSel, one 0x0404 0 .winPos, one 0x0408 0 .winLen, arr 0x0500 64 0 .win, one 0x0600 0x0000FFFC .gsStat,
   one 0x0604 0 .gsFrame, ⟨0x1000, 6, 64, 0xFFFFFFFC, .expMode⟩, ⟨0x1004, 6, 64, 0xFFF00000, .expLines 0⟩,
   ⟨0x1008, 6, 64, 0xFFF00000, .expLines 1⟩, ⟨0x100C, 6, 64, 0xFFF00000, .expLines 2⟩, ⟨0x1010, 6, 64, 0xFFFF0000, .expGain 0⟩,
   ⟨0x1014, 6, 64, 0xFFFF0000, .expGain 1⟩, ⟨0x1018, 6, 64, 0xFFFF0000, .expGain 2⟩, ⟨0x101C, 6, 64, 0, .wb 0⟩, ⟨0x1020, 6, 64, 0, .wb 1⟩,
   arr 0x1000 96 0xFFFFFFFF .rsvd]

/-- The address of word `j` of CAMn's group. -/
def camWordAt (n j : Nat) : Nat := 0xA1000 + 64 * n + 4 * j

/-- STATE of a raw tap (14 R390). -/
def TapState.code : TapState → Nat
  | .idle => 0
  | .armed => 1
  | .writing => 2
  | .done => 3

/-- A read of a VIS register; a read of VIS_WIN keeps the latched source (14 R375). -/
def State.visRead (s : State) (g : VisReg) (n : Nat) : Word × State :=
  let c := rd s.vis.cam n
  let p := rd s.vis.pipe n
  let b := s.camRec n
  match g with
  | .camEn => (lo32 s.vis.en.toNat, s)
  | .camStat =>
    (orAll [commonWord (s.camState n) c.enF c.err [c.dropBuf, c.dropErr, c.tagErr, c.lateCnt] c.lastErr, flag c.link 16,
            place (u8 b 1 - 1) 17 2, flag (s.vis.en.getLsbD n && !camMemory b) 19, flag c.aeLimit 20, place c.tag.toNat 24 8], s)
  | .camFrame => (c.frameCnt, s)
  | .cnt0 => (place c.dropBuf.toNat 0 16 ||| place c.dropErr.toNat 16 16, s)
  | .cnt1 => (place c.tagErr.toNat 0 16 ||| place c.lateCnt.toNat 16 16, s)
  | .cntClr => (0, s)
  | .pipeStat =>
    let load := ((s.img.visLoad n fun k => s.vis.en.getLsbD k).div (Q.ofInt 20)).num / ((s.img.visLoad n fun k => s.vis.en.getLsbD k).div (Q.ofInt 20)).den
    (orAll [commonWord (s.pipeState n) p.run p.err [] p.lastErr, flag p.mem.isSome 16, place ((p.mem.map FrameJob.cam).getD 0) 17 3,
            place (min p.ready.length 15) 20 4, place (min load.toNat 255) 24 8], s)
  | .tapCfg => (0, s)
  | .tapStat => (orAll [place p.tap.code 0 2, flag p.refused 2, place (min (p.tapData.length / 1024) 0xFFFFFF) 8 24], s)
  | .winSel => (s.vis.winSel, s)
  | .winPos => (s.vis.winPos, s)
  | .winLen => (lo32 s.vis.winBuf.length, s)
  | .win => (lo32 (u32 s.vis.winBuf (s.vis.winPos.toNat + 4 * n)), s.updVis fun v => { v with winRead := s.clk.opt })
  | .gsStat => (orAll [flag s.vis.gsRun 0, flag s.vis.gsValid 1, place s.vis.gsSkip.toNat 16 16], s)
  | .gsFrame => (s.vis.gsFrame, s)
  | .expMode => (s.live (camWordAt n 0), s)
  | .expLines k => (s.live (camWordAt n (1 + k)), s)
  | .expGain k => (s.live (camWordAt n (4 + k)), s)
  | .wb k => (s.live (camWordAt n (7 + k)), s)
  | .rsvd => (0, s)

/-- The checks of a write to a VIS register beyond its reserved bits. -/
def State.visCheck (s : State) (g : VisReg) (n : Nat) (v : Word) : Option Nat :=
  match g with
  | .camEn => if v = 0 ∨ (s.img.sect 0x0A01 0x0001).isSome then none else some stRANGE
  | .tapCfg =>
    let c := field v 3 3
    rangeIf (decide (field v 0 3 < 6) && decide (c < 6) && (s.img.sect 0x0A01 0x0001).isSome && camPipe (s.camRec c) == n)
  | .winSel => rangeIf (field v 0 2 != 3 && decide (field v 2 3 < if field v 0 2 = 1 then 2 else 6))
  | .winPos => rangeIf (v.toNat % 4 == 0)
  | _ => none

/-- The effect of a write to a VIS register. -/
def State.visWrite (s : State) (g : VisReg) (n : Nat) (v : Word) : State :=
  match g with
  | .camEn => s.camEnable (BitVec.ofNat 6 v.toNat)
  | .camStat => s.updCam n fun c => { c with err := c.err && !bit v 5 }
  | .cntClr => s.camCntClear v.toNat
  | .pipeStat => s.updPipe n fun p => { p with err := p.err && !bit v 5 }
  | .tapCfg => if bit v 6 then s.tapArm n (field v 0 3) (field v 3 3) else s.tapDisarm n
  | .tapStat => s.updPipe n fun p => { p with refused := p.refused && !bit v 2 }
  | .winSel => s.windowLatch v
  | .winPos => s.updVis fun x => { x with winPos := v }
  | .expMode => s.setShadow (camWordAt n 0) v
  | .expLines k => s.setShadow (camWordAt n (1 + k)) v
  | .expGain k => s.setShadow (camWordAt n (4 + k)) v
  | .wb k => s.setShadow (camWordAt n (7 + k)) v
  | _ => s

end Sys2Proof.Machine
end

