-- ==== Sys2Proof/Machine/Regs.lean ====
section
/-! DEFINITION. The register map as a whole (24 R564 to R569) and the register operations over it (05 R150 to R152): the checks of
every register before any write, the reads, the writes and the merge. -/

namespace Sys2Proof.Machine

/-- A register of the module by its block and its name there (24 R565, R566). -/
inductive RegId where
  | sys (g : SysReg) | hst (g : HstReg) | sns (g : SnsReg) | flw (g : FlwReg) | lop (g : LopReg) | prf (g : PrfReg) | nav (g : NavReg)
  | tim (g : TimReg) | str (g : StrReg) | yld (g : YldReg) | vis (g : VisReg) | vlv (g : VlvReg) | psw (g : PswReg) | col (g : ColReg)
  | can (g : CanReg) | eth (g : EthReg) | recd (g : RecReg) | upd (g : UpdReg) | dbg (g : DbgReg)
deriving DecidableEq, Repr

/-- A register found: which one, its index, and its reserved bits. -/
structure RegHit where
  id : RegId
  idx : Nat
  rsv : Word
deriving DecidableEq, Repr

/-- The hit of a block's table. -/
def hitOf {α : Type} (f : α → RegId) (rows : List (RegRow α)) (off : Nat) : Option RegHit :=
  (findReg rows off).map fun x => ⟨f x.1, x.2.1, x.2.2⟩

/-- The hit of a table whose rows carry a first index. -/
def hitOf2 {α : Type} (f : α → RegId) (rows : List (RegRow (α × Nat))) (off : Nat) : Option RegHit :=
  (findReg rows off).map fun x => ⟨f x.1.1, x.1.2 + x.2.1, x.2.2⟩

/-- The register at an address; none where the address is undefined (24 R564 to R566). -/
def findAddr (addr : Nat) : Option RegHit :=
  let off := addr % 65536
  if addr % 4 ≠ 0 then none
  else match addr / 65536 with
    | 0x00 => hitOf .sys sysRows off
    | 0x01 => hitOf .hst hstRows off
    | 0x02 => hitOf .sns snsRows off
    | 0x03 => hitOf .flw flwRows off
    | 0x04 => hitOf .lop lopRows off
    | 0x05 => hitOf .prf prfRows off
    | 0x06 => hitOf .nav navRows off
    | 0x07 => hitOf .tim timRows off
    | 0x08 => hitOf .str strRows off
    | 0x09 => hitOf .yld yldRows off
    | 0x0A => hitOf .vis visRows off
    | 0x0B => hitOf2 .vlv vlvRows off
    | 0x0C => hitOf2 .psw pswRows off
    | 0x0D => hitOf .col colRows off
    | 0x0E => hitOf .can canRows off
    | 0x0F => hitOf .eth ethRows off
    | 0x10 => hitOf .recd recRows off
    | 0x11 => hitOf .upd updRows off
    | 0x12 => hitOf .dbg dbgRows off
    | _ => none

/-- A read of a register, with the latch that some reads make (00 R6, R8). -/
def State.regRead (s : State) (id : RegId) (n : Nat) : Word × State :=
  match id with
  | .sys g => (s.sysRead g n, s)
  | .hst g => (s.hstRead g n, s)
  | .sns g => (s.snsRead g n, s)
  | .flw g => (s.flwRead g n, s)
  | .lop g => s.lopRead g n
  | .prf g => (s.prfRead g n, s)
  | .nav g => (s.navRead g n, s)
  | .tim g => s.timRead g n
  | .str g => (s.strRead g n, s)
  | .yld g => (s.yldRead g n, s)
  | .vis g => s.visRead g n
  | .vlv g => (s.vlvRead g n, s)
  | .psw g => (s.pswRead g n, s)
  | .col g => (s.colRead g n, s)
  | .can g => (s.canRead g n, s)
  | .eth g => (s.ethRead g n, s)
  | .recd g => (s.recRegRead g n, s)
  | .upd g => (s.updRead g, s)
  | .dbg g => (s.dbgRead g, s)

/-- The checks of a write to a register against its field ranges and its level (05 R150): the status of a refusal. -/
def State.regCheck (s : State) (r : HostReq) (id : RegId) (n : Nat) (v : Word) : Option Nat :=
  match id with
  | .sys g => s.sysCheck r g v
  | .hst _ => none
  | .sns _ => none
  | .flw g => s.flwCheck g v
  | .lop g => s.lopCheck r g n v
  | .prf _ => none
  | .nav g => s.navCheck r g v
  | .tim g => s.timCheck g v
  | .str g => s.strCheck g v
  | .yld g => s.yldCheck g v
  | .vis g => s.visCheck g n v
  | .vlv g => s.vlvCheck g n v
  | .psw g => s.pswCheck g n v
  | .col g => s.colCheck g n v
  | .can g => s.canCheck g v
  | .eth g => s.ethCheck r g v
  | .recd _ => none
  | .upd _ => none
  | .dbg _ => none

/-- The effect of a write to a register (00 R6). -/
def State.regWrite (s : State) (r : HostReq) (id : RegId) (n : Nat) (v : Word) : State :=
  match id with
  | .sys g => s.sysWrite r g n v
  | .hst g => s.hstWrite g v
  | .sns g => s.snsWrite g n v
  | .flw g => s.flwWrite g n v
  | .lop g => s.lopWrite g n v
  | .prf g => s.prfWrite g n v
  | .nav g => s.navWrite g n v
  | .tim g => s.timWrite g v
  | .str g => s.strWrite g n v
  | .yld g => s.yldWrite g v
  | .vis g => s.visWrite g n v
  | .vlv g => s.vlvWrite g n v
  | .psw g => s.pswWrite g n v
  | .col g => s.colWrite g n v
  | .can g => s.canWrite g n v
  | .eth g => s.ethWrite g n v
  | .recd g => s.recWrite g v
  | .upd g => s.updWrite g v
  | .dbg _ => s

/-- The W1C bits of a register (00 R6): outside MASK they are written as 0 by REG_MODIFY (05 R151). -/
def RegId.w1c : RegId → Word
  | .sys .regionStat => 0x000000C0
  | .sys .supplyStat => 0x000000C0
  | .sys .wake => 0x00000018
  | .sys .smStat => 0x00000E00
  | .hst .silenceStat => 0x00000004
  | .sns .ainStat => 0x00200000
  | .sns .finStat => 0x00000008
  | .sns .tsStat => 0x00080000
  | .sns .supStat => 0x01000000
  | .flw .bridgeStat => 0x00000010
  | .flw .lsStat => 0x00000020
  | .lop .procStat => 0x00000020
  | .lop .stat => 0x00000020
  | .prf .pgStat => 0x00000100
  | .prf .mfStat => 0x00000700
  | .nav .rtkStat => 0x00000008
  | .nav .rfStat => 0x02000000
  | .nav .antStat => 0x00000010
  | .nav .chStat => 0x00000020
  | .nav .chInfo => 0x00002000
  | .str .stat => 0x00000030
  | .yld .stat => 0x00000090
  | .vis .camStat => 0x00000020
  | .vis .pipeStat => 0x00000020
  | .vis .tapStat => 0x00000004
  | .vlv .railStat => 0x00010000
  | .vlv .stat => 0x00300020
  | .psw .pkgStat => 0x00010000
  | .psw .stat => 0x01200020
  | .col .stat => 0x00600020
  | .can .stat => 0x00700020
  | .eth .portStat => 0x00000020
  | .eth .pairStat => 0x00000018
  | .recd .stat => 0x00000008
  | _ => 0

/-- The module with the blocks that hold sticky bits as they stood when the present instant began. -/
def State.beforeInstant (s : State) : State :=
  let p := s.clk.past
  { s with regions := p.regions, pwr := p.pwr, wake := p.wake, sm := p.sm, hst := p.hst, sns := p.sns, flw := p.flw, lop := p.lop, prf := p.prf,
           nav := p.nav, str := p.str, yld := p.yld, vis := p.vis, vlv := p.vlv, psw := p.psw, col := p.col, can := p.can, eth := p.eth,
           rcd := p.rcd }

/-- The W1C bits of a register that an event of the present instant has set: a write in the same instant does not clear them (00 R6).  A bit
that was set before as well shows no second event and is cleared (log 106). -/
def State.freshBits (s : State) (id : RegId) (n : Nat) : Word :=
  id.w1c &&& (s.regRead id n).1 &&& ~~~(s.beforeInstant.regRead id n).1

/-- Whether register operations to a block are answered with STATE: without an image (24 R569) or frozen (22 R542). -/
def State.blockShut (s : State) (blk : Nat) : Bool :=
  (s.boot.noImage && [0x02, 0x03, 0x04, 0x05, 0x06, 0x08, 0x09, 0x0A].contains blk) || s.blockFrozen blk

/-- The status of a read of one register: BAD_ADDRESS, STATE or none. -/
def State.readStatus (s : State) (addr : Nat) : Option Nat :=
  match findAddr addr with
  | none => some stBADADDR
  | some _ => if s.blockShut (addr / 65536) then some stSTATE else none

/-- The status of a write of `v` to one register (05 R150, 00 R7). -/
def State.writeStatus (s : State) (r : HostReq) (addr : Nat) (v : Word) : Option Nat :=
  match findAddr addr with
  | none => some stBADADDR
  | some h =>
    if s.blockShut (addr / 65536) then some stSTATE
    else if v &&& h.rsv ≠ 0 then some stRESERVED
    else s.regCheck r h.id h.idx v

/-- Whether a later register of the same write is checked on the value that this one takes (18 R459). -/
def RegId.staging : RegId → Bool
  | .can g => g.staging
  | _ => false

/-- The effect of a write of `v` to the register at an address. -/
def State.writeAt (s : State) (r : HostReq) (addr : Nat) (v : Word) : State :=
  match findAddr addr with
  | none => s
  | some h => s.regWrite r h.id h.idx (v &&& ~~~(s.freshBits h.id h.idx))

/-- The state on which the checks after a register of the same write go on. -/
def State.staged1 (s : State) (r : HostReq) (addr : Nat) (v : Word) : State :=
  match findAddr addr with
  | none => s
  | some h => if h.id.staging then s.regWrite r h.id h.idx v else s

/-- The first register of a write that is refused, with its status (05 R150): every register is checked before any is written. -/
def checkWrites (r : HostReq) : State → List (Nat × Word) → Option (Nat × Nat)
  | _, [] => none
  | s, (a, v) :: t => match s.writeStatus r a v with
    | some st => some (st, a)
    | none => checkWrites r (s.staged1 r a v) t

/-- All the registers of a write, in order (05 R150). -/
def State.writeAll (s : State) (r : HostReq) (l : List (Nat × Word)) : State := l.foldl (fun t p => t.writeAt r p.1 p.2) s

/-- The first register of a read that is refused, with its status. -/
def State.checkReads (s : State) : List Nat → Option (Nat × Nat)
  | [] => none
  | a :: t => match s.readStatus a with
    | some st => some (st, a)
    | none => s.checkReads t

/-- The values of the registers read, in order, with the latches that the reads make. -/
def readAll : State → List Nat → List Byte × State
  | s, [] => ([], s)
  | s, a :: t => match findAddr a with
    | none => readAll s t
    | some h =>
      let (w, s1) := s.regRead h.id h.idx
      let (l, s2) := readAll s1 t
      (leBytes 4 w.toNat ++ l, s2)

/-- A write of a list of registers as an operation: all of them or none (05 R150, R152). -/
def writeOp (r : HostReq) (l : List (Nat × Word)) (s : State) : OpRes :=
  match checkWrites r s l with
  | some (st, a) => .refuse st (leBytes 4 a)
  | none => .done (s.writeAll r l) []

/-- A read of a list of registers as an operation (05 R150, R152). -/
def readOp (l : List Nat) (s : State) : OpRes :=
  match s.checkReads l with
  | some (st, _) => .refuse st []
  | none => let (b, s1) := readAll s l; .done s1 b

/-- The level that a write needs: OPERATE, but OBSERVE for the recorder's Pointer alone (05 R149, 20 R511). -/
def writeLevel (l : List Nat) : Nat := if l ≠ [] ∧ (l.all fun a => a == 0x100100) then 0 else 1

/-- `n` register addresses from `a`; an address past the block of the first is undefined for the operation (05 R150). -/
def addrRun (a n : Nat) : List Nat :=
  (List.range n).map fun i => if (a + 4 * i) / 65536 = a / 65536 then a + 4 * i else 0xFFFFFFFC

/-- A REG_WRITE of one register: what every register row of the table is. -/
def writeOne (r : HostReq) (addr : Nat) (v : Word) (s : State) : State :=
  hostOp r 0x0011 (writeLevel [addr]) 0 (writeOp r [(addr, v)]) s

/-- A REG_READ of one register. -/
def readOne (r : HostReq) (addr : Nat) (s : State) : State := hostOp r 0x0010 0 0 (readOp [addr]) s

/-- REG_READ (05 R150). -/
def execRegRead (r : HostReq) (addr : Word) (count : W16) (s : State) : Out :=
  .next (hostOp r 0x0010 0 0 (fun t =>
    if within count.toNat 1 256 then readOp (addrRun addr.toNat count.toNat) t else .refuse stRANGE []) s)

/-- REG_WRITE (05 R150). -/
def execRegWrite (r : HostReq) (addr : Word) (values : List Word) (s : State) : Out :=
  let l := addrRun addr.toNat values.length
  .next (hostOp r 0x0011 (writeLevel l) 0 (fun t =>
    if within values.length 1 256 then writeOp r (l.zip values) t else .refuse stRANGE []) s)

/-- Whether a register is wholly of access SH (24 R568). -/
def RegId.isSH : RegId → Bool
  | .sys .budgetCfg => true
  | .flw .crop => true
  | .flw .lsThr => true
  | .flw .lsKthr => true
  | .lop .lawSel => true
  | .lop .group => true
  | .prf .group => true
  | .nav .solCfg => true
  | .nav .ageCfg => true
  | .str .lineHdr => true
  | .str .line => true
  | .str .pt => true
  | .yld .lagCfg => true
  | .yld .lagBound => true
  | .yld .recCfg => true
  | .yld .passCfg => true
  | .vis .expMode => true
  | .vis (.expLines _) => true
  | .vis (.expGain _) => true
  | .vis (.wb _) => true
  | .vlv .chCfg => true
  | .vlv .dither => true
  | .psw .pwm => true
  | .psw .lamp => true
  | .psw .retry => true
  | .can .nbt => true
  | .can .dbt => true
  | .can .tdc => true
  | .can .mode => true
  | _ => false

/-- What REG_MODIFY merges into (05 R151): the shadow of an SH register, the value in force of any other. -/
def State.regOld (s : State) (addr : Nat) (h : RegHit) : Word :=
  if h.id.isSH then s.shadow addr else (s.regRead h.id h.idx).1

/-- What REG_MODIFY writes (05 R151). -/
def mergeWord (old mask value w1c : Word) : Word := ((old &&& ~~~w1c) &&& ~~~mask) ||| (value &&& mask)

/-- REG_MODIFY (05 R151). -/
def execRegModify (r : HostReq) (addr mask value : Word) (s : State) : Out :=
  .next (hostOp r 0x0012 (writeLevel [addr.toNat]) 0 (fun t =>
    match findAddr addr.toNat with
    | none => .refuse stBADADDR (leBytes 4 addr.toNat)
    | some h =>
      let old := t.regOld addr.toNat h
      match writeOp r [(addr.toNat, mergeWord old mask value h.id.w1c)] t with
      | .done u _ => .done u (leBytes 4 old.toNat)
      | x => x) s)

/-- REG_BATCH_READ (05 R152). -/
def execRegBatchRead (r : HostReq) (addrs : List Word) (s : State) : Out :=
  .next (hostOp r 0x0013 0 2 (fun t =>
    if within addrs.length 1 64 then readOp (addrs.map BitVec.toNat) t else .refuse stRANGE []) s)

/-- REG_BATCH_WRITE (05 R152). -/
def execRegBatchWrite (r : HostReq) (pairs : List (Word × Word)) (s : State) : Out :=
  let l := pairs.map fun (p : Word × Word) => (p.1.toNat, p.2)
  .next (hostOp r 0x0014 (writeLevel (l.map Prod.fst)) 2 (fun t =>
    if within pairs.length 1 64 then writeOp r l t else .refuse stRANGE []) s)

end Sys2Proof.Machine
end

