-- ==== Sys2Proof/Machine/Commit.lean ====
section
/-! DEFINITION. COMMIT, its check, its boundary and its deadline; DISCARD and SHADOW_READ (03 R81 to R87; 05 R153). -/

namespace Sys2Proof.Machine

/-- The registers of a group that an operation may name: BAD_ADDRESS for an ID that is not listed and for a unit that the image does
not configure (24 R568), STATE for a block that is shut. -/
def State.groupStatus (s : State) (g : Nat) : Option Nat :=
  if (groupWords g).isNone ∨ s.img.groupUnit g = false then some stBADADDR
  else if s.blockShut (g / 256) then some stSTATE
  else none

/-- The block statuses of a COMMIT that a running AE (14 R384) or a running detection (18 R450) refuses. -/
def stAEACTIVE : Nat := 0x8A01
def stDETECTING : Nat := 0x8E01

/-- Whether a COMMIT of group `g` is refused by its unit's state. -/
def State.commitBarred (s : State) (g : Nat) : Option Nat :=
  if g / 256 = 0x0A ∧ (u8 (s.camRec (g % 256)) 23).testBit 3 then some stAEACTIVE
  else if g / 256 = 0x0E ∧ (s.cc (g % 256)).detect.isSome then some stDETECTING
  else none

/-- The shadow of group `g` as a snapshot holds it (03 R82). -/
def State.shadowWords (s : State) (g : Nat) : List (Nat × Word) := ((groupWords g).getD []).map fun a => (a, s.shadow a)

/-- COMMIT (03 R82, R84): a snapshot of the shadow, under check. -/
def execCommit (r : HostReq) (group : W16) (s : State) : Out :=
  let g := group.toNat
  .next (hostOp r 0x0021 1 4 (fun t =>
    match t.groupStatus g with
    | some st => .refuse st []
    | none => match t.commitBarred g with
      | some st => .refuse st (commitReply 0 0)
      | none =>
        if t.grp.snaps.any fun p => p.group == g then .refuse stPENDING (commitReply 0 0)
        else .wait { t with grp := { t.grp with snaps := t.grp.snaps ++
          [{ group := g, words := t.shadowWords g, accepted := t.clk.opt, checkedAt := none, req := some r }] } }) s)

/-- Whether the units of group `g` are all disabled or OFF, so that the end of the check is its boundary (03 R85; 18 R447). -/
def State.groupIdle (s : State) (g : Nat) : Bool :=
  let n := g % 256
  match g / 256 with
  | 0x03 => n == 1 && (List.range 16).all fun c => (rd s.flw.ls c).enF == false
  | 0x04 => s.slotState n == .off
  | 0x05 => s.slotState n == .off
  | 0x06 => s.nav.ch.all fun (c : NavCh) => c.st == .idle
  | 0x08 => s.img.steerMf == 0xFF
  | 0x0A => s.camState n == .off
  | 0x0B => s.vlvState n == .off
  | 0x0C => s.pswState n == .off
  | 0x0E => (s.cc n).enF == false || (s.cc n).bus == .busOff
  | _ => false

/-- The boundary of group `g`, with what its block does at it. -/
def State.boundaryOf (s : State) (g : Nat) : State :=
  match g / 256 with
  | 0x03 => s.flwBoundary
  | 0x06 => s.navBoundary
  | 0x09 => s.yldBoundary
  | 0x0A => s.camCutoff (g % 256)
  | 0x0E => if (s.snapReady g).isSome then (s.applyGroup g).canGroupApplied (g % 256) else s
  | _ => s.applyGroup g

/-- The snapshot's check completes at this instant: the snapshot is as it will be when it is applied or waits. -/
def State.snapChecked (s : State) (g : Nat) (at_ : Opt) : State :=
  { s with grp := { s.grp with snaps := s.grp.snaps.map fun (p : Snap) => if p.group == g then { p with checkedAt := some at_ } else p } }

/-- The words of a snapshot under check; a register outside it reads 0. -/
def Snap.word (p : Snap) (a : Nat) : Word := (lookupN p.words a).getD 0

/-- COMMIT_CHECK_DONE (03 R82): within 1 ms of the acceptance, the first rule broken refuses the COMMIT; otherwise the snapshot waits
for its boundary, which is the end of the check where the units are idle (R85). -/
def execCommitCheckDone (o : Opt) (group : W16) (s : State) : Out :=
  let s := s.begin o
  let g := group.toNat
  match s.grp.snaps.find? (fun p => p.group == g) with
  | none => .next s
  | some p =>
    if p.checkedAt.isSome ∨ o < p.accepted ∨ p.accepted + 1000000 < o then .next s
    else match s.img.ruleBroken s.flw.lsEn.toNat g p.word with
      | some rule => .next (s.withdrawSnap g stREFUSED (commitReply rule 0))
      | none =>
        if s.groupIdle g then .next (s.applySnap p)
        else .next (s.snapChecked g o)

/-- Whether the present instant can be a boundary of group `g` (24 R568): the tick and slot groups have theirs at a tick start, a CAN group
while no frame is being sent.  The boundaries of blocks 0x03, 0x06, 0x08, 0x09 and 0x0A are the steps that close a frame window, make a
solution epoch, a guidance epoch, a record or a frame, which apply the snapshot themselves. -/
def State.boundaryNow (s : State) (g : Nat) : Bool :=
  let tick := s.atTick
  match g / 256 with
  | 0x00 => tick && s.clk.tickSec % 40 == 0
  | 0x04 => tick
  | 0x05 => tick
  | 0x0B => tick
  | 0x0C => tick
  | 0x0E => (s.cc (g % 256)).bus != .integrating && (s.cc (g % 256)).sending.isNone
  | _ => false

/-- COMMIT_APPLY (03 R82): the boundary of a group whose check completed strictly before. -/
def execCommitApply (group : W16) (s : State) : Out :=
  let s := s.start
  let g := group.toNat
  if s.boundaryNow g then .next (s.boundaryOf g) else .next s

/-- COMMIT_TIMEOUT (03 R85): no boundary within the commit deadline of the acceptance. -/
def execCommitTimeout (o : Opt) (group : W16) (s : State) : Out :=
  let s := s.begin o
  let g := group.toNat
  match s.grp.snaps.find? (fun p => p.group == g) with
  | none => .next s
  | some p =>
    if o < p.accepted + s.img.commitDeadline then .next s
    else .next (s.withdrawSnap g stTIMEOUT (commitReply 0 0))

/-- The live values of group `g` copied into its shadow (05 R153; 03 R84). -/
def State.discard (s : State) (g : Nat) : State :=
  { s with grp := { s.grp with shadow := ((groupWords g).getD []).foldl (fun l a => bindN l a (s.live a)) s.grp.shadow } }

/-- DISCARD (05 R153; 03 R84): a pending snapshot stays. -/
def execDiscard (r : HostReq) (group : W16) (s : State) : Out :=
  let g := group.toNat
  .next (hostOp r 0x0022 1 4 (fun t =>
    match t.groupStatus g with
    | some st => .refuse st []
    | none => .done (t.discard g) []) s)

/-- SHADOW_READ (05 R153): every register of the group in ascending address, RANGE where the reply would exceed the agreed message
size (12 R326). -/
def execShadowRead (r : HostReq) (group : W16) (s : State) : Out :=
  let g := group.toNat
  .next (hostOp r 0x0020 0 4 (fun t =>
    match t.groupStatus g with
    | some st => .refuse st []
    | none =>
      let ws := (groupWords g).getD []
      let pend : Nat := if t.grp.snaps.any (fun p => p.group == g) then 1 else 0
      if (t.sess r.sess).maxMsg < 24 + 4 + 12 * ws.length then .refuse stRANGE []
      else .done t (leBytes 1 pend ++ leBytes 1 0 ++ leBytes 2 ws.length
        ++ ws.flatMap fun a => leBytes 4 a ++ leBytes 4 (t.shadow a).toNat ++ leBytes 4 (t.live a).toNat)) s)

end Sys2Proof.Machine
end

