-- ==== Sys2Proof/Machine/Host.lean ====
section
/-! DEFINITION. Sessions, the control channel, rings, tables, subscriptions, tokens and host silence (05; 03 R88 to R93). -/

namespace Sys2Proof.Machine

/-! Sessions (05 R131 to R135). -/

/-- Whether sessions are accepted on a port (05 R131, 19 R476): the port that carries it is enabled, and without an image only the
backbone and the service port. -/
def State.portOpen (s : State) (p : Nat) : Bool :=
  let en (n : Nat) : Bool := (rd s.eth.port n).enF
  match p with
  | 0 => en 0 || ((s.pairOn 0 || s.boot.noImage) && en 1)
  | 5 => en 6
  | _ => decide (p < 5) && en (p + 1) && !s.boot.noImage

/-- The UDP port that Ronrex listens on (05 R131, R134). -/
def Image.udpPort (im : Image) : Nat := im.fieldOr 0x0101 0x0001 (fun b => u16 b 0) 47310

/-- Whether a handshake offers an acceptable combination (05 R132): the one cipher suite, group and signature scheme of the module, and a
certificate that chains. -/
def HandshakeIn.acceptable (h : HandshakeIn) : Bool :=
  h.suites.contains .aes256GcmSha384 && h.groups.contains .secp384r1 && h.schemes.contains .ecdsaSecp384r1Sha384 && h.hasCert && h.chains

/-- The lowest free session index. -/
def State.freeSess (s : State) : Option Nat := (List.range 8).find? fun i => !(s.sess i).isOpen

/-- SESSION_HANDSHAKE (05 R131 to R133; 03 R90): an acceptable handshake under way is remembered until it completes, and the module presents
its device certificate; complete, it opens the lowest free session at its certificate's level, or a session beyond the eighth that its HELLO
will close. -/
def execSessionHandshake (h : HandshakeIn) (s : State) : Out :=
  let s := s.begin h.opt
  if s.netUp = false ∨ s.portOpen h.port = false ∨ h.udpPort ≠ s.img.udpPort ∨ h.acceptable = false then .next s
  else
    let old := lookupN s.hst.shakes h.id
    if h.complete = false then
      .next (if old.isSome then s
        else { s with hst := { s.hst with shakes := s.hst.shakes ++ [(h.id, h.opt)] } }.send (.certificate s.flash.devCert))
    else if (match old with
      | some t => decide (t + 5000000000 ≤ h.opt)
      | none => false) then .next s
    else
      let s0 := if old.isSome then s else s.send (.certificate s.flash.devCert)
      let s1 := { s0 with hst := { s0.hst with shakes := dropN s0.hst.shakes h.id } }
      match s1.freeSess with
      | some i => .next (s1.updSess i fun _ => { Sess.reset with isOpen := true, level := min h.level 2, port := h.port, last := h.opt })
      | none => .next { s1 with hst := { s1.hst with surplus := (s1.hst.surplus.filter fun k => k != h.id) ++ [h.id] } }

/-- HANDSHAKE_TIMEOUT (05 R132): a handshake not complete after 5 s is abandoned. -/
def execHandshakeTimeout (o : Opt) (id : Nat) (s : State) : Out :=
  let s := s.begin o
  .next (match lookupN s.hst.shakes id with
    | some t => if t + 5000000000 ≤ o then { s with hst := { s.hst with shakes := dropN s.hst.shakes id } } else s
    | none => s)

/-- DTLS_CLOSE (05 R135). -/
def execDtlsClose (o : Opt) (sess : Fin 8) (s : State) : Out :=
  let s := s.begin o
  .next (if s.netUp ∧ (s.sess sess.val).isOpen then s.endSession sess.val else s)

/-- IDLE_CLOSE of the HST POLICY (05 R134), in ns. -/
def Image.idleClose (im : Image) : Nat := im.fieldOr 0x0101 0x0001 (fun b => u16 b 2) 30 * 1000000000

/-- IDLE_CLOSE (05 R134). -/
def execIdleClose (o : Opt) (sess : Fin 8) (s : State) : Out :=
  let s := s.begin o
  let x := s.sess sess.val
  .next (if s.netUp ∧ x.isOpen ∧ x.last + s.img.idleClose ≤ o then s.endSession sess.val else s)

/-- The operation codes of 05 R149, 20, 21 and 22. -/
def listedOps : List Nat :=
  [0x01, 0x02, 0x03, 0x04, 0x05, 0x10, 0x11, 0x12, 0x13, 0x14, 0x20, 0x21, 0x22, 0x30, 0x31, 0x40, 0x41, 0x50, 0x51, 0x52, 0x53, 0x60, 0x61,
   0x70, 0x71, 0x72, 0x73, 0x74, 0x80, 0x81, 0x82, 0x83, 0x84, 0x85, 0x90, 0x91, 0xA0]

/-- The header of a received message (05 R136). -/
structure Header where
  magic : Nat
  version : Nat
  flags : Nat
  ring : Nat
  op : Nat
  ticket : Word
  seq : Word
  length : Nat
  reserved : Nat
deriving DecidableEq, Repr

/-- The first 24 bytes of a message as a header, little-endian. -/
def Header.ofBytes (b : List Byte) : Header :=
  { magic := u16 b 0, version := u8 b 2, flags := u8 b 3, ring := u16 b 4, op := u16 b 6, ticket := lo32 (u32 b 8), seq := lo32 (u32 b 12),
    length := u32 b 16, reserved := u16 b 22 }

/-- Whether MAGIC and LENGTH match the datagram (05 R137). -/
def Header.matches (h : Header) (b : List Byte) : Bool := h.magic == 0x5258 && decide (24 ≤ b.length) && b.length == 24 + h.length

/-- The fault that a message of an accepted SEQ shows in its header (05 R136, R137): the status of its answer. -/
def Header.fault (h : Header) : Option Nat :=
  if h.version ≠ 1 then some stVERSION
  else if h.flags ≠ 0 ∨ h.reserved ≠ 0 then some stBADHEADER
  else if 256 ≤ h.ring ∧ h.ring ≠ controlRing then some stBADRING
  else none

/-- An authenticated message that may not be accepted (05 R134, R136 to R138, R149): discarded and counted, or answered by its header's fault
or with BAD_OPCODE; a message without a fault is the business of its operation's own row. -/
def State.badMessage (s : State) (o : Opt) (i : Nat) (pathB : Bool) (b : List Byte) : State :=
  let h := Header.ofBytes b
  let r : HostReq := { sess := i, pathB := pathB, ring := h.ring, ticket := h.ticket, seq := h.seq, lenOk := true, opt := o }
  let s := s.begin o
  if s.netUp = false then s
  else if s.standbyPath r then s.standbyDiscard r
  else if (s.sess i).isOpen = false then s.badMsg
  else if h.matches b = false ∨ seqOk (s.sess i) h.seq = false then (s.seen i o).badMsg
  else match h.fault with
    | some st => ((s.updSess i fun x => acceptSeq x h.seq).seen i o).reply r h.op st false []
    | none => if listedOps.contains h.op then s else receive r h.op (fun t => t.reply r h.op stBADOPCODE false []) s

/-- BAD_MESSAGE (05 R137, R138, R149). -/
def execBadMessage (m : BadMsgIn) (s : State) : Out :=
  match m with
  | .dtls o =>
    let s := s.begin o
    .next (if s.netUp then s.badMsg else s)
  | .message o i pathB b => .next (s.badMessage o i.val pathB b)

/-! The control channel (05 R140 to R144). -/

/-- The module's feature mask of revision C1 (05 R142). -/
def featModule : List Byte := [0xFF, 0xFF] ++ List.replicate 30 0
/-- The required mask (05 R142). -/
def featRequired : List Byte := [0x01] ++ List.replicate 31 0

/-- HELLO (05 R133, R140, R141). -/
def execHello (r : HostReq) (features : BitVec 256) (maxMsg : W16) (s : State) : Out :=
  .next (controlOp r 0x0001 (fun t =>
    if (t.sess r.sess).hello then .refuse stSTATE []
    else if maxMsg.toNat < 1200 then .refuse stRANGE []
    else if features.getLsbD 0 = false then
      .wait ((t.reply r 0x0001 stFEATREQ false (featModule ++ featRequired ++ List.replicate 64 0)).endSession r.sess)
    else
      let agreed := BitVec.ofNat 16 features.toNat
      let size := if agreed.getLsbD 15 then min maxMsg.toNat 8960 else 1200
      .done (t.updSess r.sess fun x => { x with hello := true, agreed := agreed, maxMsg := size })
        (featModule ++ featRequired ++ leBytes 32 agreed.toNat ++ leBytes 2 size ++ leBytes 1 (t.sess r.sess).level ++ leBytes 1 r.sess
          ++ leBytes 4 0x00C18840 ++ leBytes 8 t.boot.serial.toNat ++ leBytes 8 t.dvt ++ leBytes 8 t.clk.opt)) s)

/-- BYE (05 R149): answered, and the session closes. -/
def execBye (r : HostReq) (s : State) : Out :=
  .next (controlOp r 0x0002 (fun t => .wait ((t.finish r 0x0002 stOK []).endSession r.sess)) s)

/-- PING (05 R149). -/
def execPing (r : HostReq) (s : State) : Out :=
  .next (controlOp r 0x0003 (fun t => .done t (leBytes 8 t.clk.opt ++ leBytes 8 t.dvt)) s)

/-- The ring that RING_OPEN asks for: itself where it is free, the lowest free one for 0xFFFF (05 R144). -/
def State.ringWanted (s : State) (n : Nat) : Option Nat :=
  if n = 0xFFFF then (List.range 256).find? fun k => !(rd s.hst.ring k).isOpen
  else if n < 256 ∧ (rd s.hst.ring n).isOpen = false then some n
  else none

/-- RING_OPEN (05 R144, R142). -/
def execRingOpen (r : HostReq) (ring : W16) (mode : Byte) (limit : W16) (s : State) : Out :=
  .next (controlOp r 0x0004 (fun t =>
    if 1 < mode.toNat ∨ within limit.toNat 1 512 = false then .refuse stRANGE []
    else if mode = 1 ∧ (t.sess r.sess).agreed.getLsbD 1 = false then .refuse stFEATURE []
    else match t.ringWanted ring.toNat with
      | none => .refuse stBADRING []
      | some n =>
        let g : Ring := { isOpen := true, ordered := mode == 1, sess := r.sess, limit := limit.toNat, closing := none }
        .done { t with hst := { t.hst with ring := put t.hst.ring n g } } (leBytes 2 n ++ leBytes 2 0)) s)

/-- RING_CLOSE (05 R144): complete once the ring's operations are. -/
def execRingClose (r : HostReq) (ring : W16) (s : State) : Out :=
  .next (controlOp r 0x0005 (fun t =>
    let n := ring.toNat
    let g := rd t.hst.ring n
    if 256 ≤ n ∨ g.isOpen = false ∨ g.sess ≠ r.sess ∨ g.closing.isSome then .refuse stBADRING []
    else
      let t1 : State := { t with hst := { t.hst with ring := upd t.hst.ring n fun x => { x with closing := some r } } }
      .wait ((t1.updSess r.sess fun x => { x with control := true }).closeIfDone n)) s)

/-! Tables (05 R154). -/

/-- The bytes of the slot in force (03 R71). -/
def State.slotBytes (s : State) : List Byte := if s.boot.cfgSlot then s.flash.slotB else s.flash.slotA

/-- TABLE_DIR_READ (05 R154). -/
def execTableDirRead (r : HostReq) (first count : W16) (s : State) : Out :=
  .next (hostOp r 0x0030 0 3 (fun t =>
    if within count.toNat 1 64 = false then .refuse stRANGE []
    else
      let n := t.img.tables.length
      let f := first.toNat
      let k := min count.toNat (n - f)
      if (t.sess r.sess).maxMsg < 24 + 4 + 24 * k then .refuse stRANGE []
      else .done t (leBytes 2 n ++ leBytes 2 0 ++ span t.slotBytes (128 + 24 * f) (24 * k))) s)

/-- TABLE_READ (05 R154). -/
def execTableRead (r : HostReq) (table : W16) (offset : Word) (len : Word) (s : State) : Out :=
  .next (hostOp r 0x0031 0 3 (fun t =>
    match t.img.body table.toNat with
    | none => .refuse stNOTABLE []
    | some b =>
      if b.length < offset.toNat + len.toNat ∨ (t.sess r.sess).maxMsg < 24 + len.toNat then .refuse stRANGE []
      else .done t (span b offset.toNat len.toNat)) s)

/-! Subscriptions (05 R156, R160). -/

/-- Whether a stream has the instance (06 R181; 07 R207; 11 R318; 13 R358; 20 R501; 21 R523). -/
def instanceOk (stream inst : Nat) : Bool :=
  match stream with
  | 4 => decide (inst < 16) || inst == 0xFFFF
  | 5 => decide (inst < 2) || inst == 0xFFFF
  | 6 => decide (inst < 3)
  | _ => true

/-- The declared items per 3,600 s of a subscription before DECIM (05 R160): frames and poses 100 per second, spectra one per second and
channel, yield records 1 / REC_S + 1 per second in TIME mode (13 R358), every stream without a fixed rate 10 per second. -/
def State.streamRate (s : State) (stream inst : Nat) : Nat :=
  match stream with
  | 1 => 360000
  | 2 => 360000
  | 3 =>
    let recS := field (s.live 0x90108) 8 6
    if field (s.live 0x90108) 0 1 = 0 ∧ recS ≠ 0 then 3600 / recS + 3600 else 36000
  | 4 => if inst = 0xFFFF then 57600 else 3600
  | _ => 36000

/-- The envelope rate committed so far, in items per 3,600,000 s. -/
def State.envRate (s : State) : Nat := (s.hst.subs.filter fun k => k.env).foldl (fun a k => a + k.rate) 0

/-- SUBSCRIBE (05 R156, R160). -/
def execSubscribe (r : HostReq) (stream : Byte) (env : Byte) (decim : W16) (inst : W16) (s : State) : Out :=
  .next (hostOp r 0x0040 0 5 (fun t =>
    let st := stream.toNat
    if within st 1 6 = false ∨ 1 < env.toNat ∨ within decim.toNat 1 1000 = false ∨ instanceOk st inst.toNat = false then .refuse stRANGE []
    else if env = 1 ∧ (t.sess r.sess).agreed.getLsbD 6 = false then .refuse stFEATURE []
    else if 32 ≤ (t.hst.subs.filter fun k => k.sess == r.sess).length then .refuse stRANGE []
    else
      let rate := if env = 1 then 1000 * t.streamRate st inst.toNat / decim.toNat else 0
      if 400 * 3600000 < t.envRate + rate then .refuse stRATE []
      else
        let k : Sub := { id := t.hst.nextSub, sess := r.sess, stream := st, env := env == 1, decim := decim.toNat, inst := inst.toNat,
                         items := 0, rate := rate }
        .done { t with hst := { t.hst with subs := t.hst.subs ++ [k], nextSub := t.hst.nextSub % 65535 + 1 } }
          (leBytes 2 k.id ++ leBytes 2 0)) s)

/-- UNSUBSCRIBE (05 R149). -/
def execUnsubscribe (r : HostReq) (sub : W16) (s : State) : Out :=
  .next (hostOp r 0x0041 0 5 (fun t =>
    if t.hst.subs.any fun k => k.id == sub.toNat && k.sess == r.sess then
      .done { t with hst := { t.hst with subs := t.hst.subs.filter fun k => k.id != sub.toNat } } []
    else .refuse stRANGE []) s)

/-! Tokens (03 R91 to R93). -/

/-- The life of a nonce and of a grant: 300 s of OPT. -/
def tokenLife : Nat := 300000000000

/-- TOKEN_CHALLENGE (03 R91): a new nonce, in the place of one outstanding. -/
def execTokenChallenge (r : HostReq) (s : State) : Out :=
  .next (hostOp r 0x0060 2 9 (fun t =>
    let b := (Config.nonce t.hst.draws ++ List.replicate 16 0).take 16
    .done ({ t with hst := { t.hst with draws := t.hst.draws + 1 } }.updSess r.sess fun x =>
      { x with nonce := some { bytes := b, issued := t.clk.opt } }) b) s)

/-- Whether a token is accepted (03 R89, R92): its layout, the module's serial, the outstanding nonce, the installed owner certificate and
its signature; with OWNER_TRANSFER, a new certificate whose chain ends at the vendor root. -/
def State.tokenOk (s : State) (nonce token : List Byte) (chainOk : Bool) : Bool :=
  match s.flash.ownerCert with
  | none => false
  | some cert =>
    span token 0 4 == [0x54, 0x58, 0x54, 0x4B] && u16 token 4 == 1 && decide (u16 token 6 < 8)
      && u64 token 8 == s.boot.serial.toNat && span token 16 16 == nonce && span token 80 48 == cert
      && Config.sigOk cert (span token 0 128) (span token 128 96)
      && (if (u16 token 6).testBit 2 then chainOk else allZero (span token 32 48))

/-- TOKEN_PRESENT (03 R91 to R93, R89): the nonce is consumed whatever the outcome; an accepted token grants each of its actions once
within 300 s, and an owner transfer takes place with it. -/
def execTokenPresent (r : HostReq) (token : List Byte) (chainOk : Bool) (s : State) : Out :=
  .next (hostOp r 0x0061 2 9 (fun t =>
    if token.length ≠ 224 then .refuse stBADLENGTH []
    else match (t.sess r.sess).nonce with
      | none => .refuse stNONONCE []
      | some n =>
        if n.issued + tokenLife ≤ t.clk.opt then .refuse stNONONCE []
        else
          let t1 := t.updSess r.sess fun x => { x with nonce := none }
          if t.tokenOk n.bytes token chainOk = false then .wait (t1.complete r stTOKEN [])
          else
            let acts := u16 token 6
            let g : GrantSt := { actions := BitVec.ofNat 3 (acts % 4), until_ := t.clk.opt + tokenLife }
            let t2 := t1.updSess r.sess fun x => { x with grant := x.grant ++ [g] }
            let t3 : State := if acts.testBit 2 then { t2 with flash := { t2.flash with ownerCert := some (span token 32 48) } } else t2
            .done t3 (leBytes 2 acts ++ leBytes 2 0)) s)

/-- NONCE_EXPIRY (03 R91). -/
def execNonceExpiry (o : Opt) (sess : Fin 8) (s : State) : Out :=
  let s := s.begin o
  .next (s.updSess sess.val fun x => { x with nonce := match x.nonce with
    | some n => if n.issued + tokenLife ≤ o then none else some n
    | none => none })

/-- TOKEN_GRANT_EXPIRY (03 R93): grants whose 300 s are over end, and with them a FREEZE arming. -/
def execTokenGrantExpiry (o : Opt) (sess : Fin 8) (s : State) : Out :=
  let s := s.begin o
  .next (s.updSess sess.val fun x => { x with grant := x.grant.filter fun g => decide (o < g.until_) })

/-! Host silence (05 R161). -/

/-- HOST_SILENCE_EXPIRY (05 R161): at a tick whose start lies HOST_SILENCE or more after the last qualifying message before it, every block
applies its HOST_ABSENCE section.  A message that has arrived since the tick's start is the first one heard in the absence. -/
def execHostSilenceExpiry (o : Opt) (s : State) : Out :=
  let s := s.begin o
  let h := s.hst
  if h.present = false ∨ s.clk.running = false ∨ s.clk.tickOpt < h.tTick + s.img.hostSilence ∨ s.region rCTL = .frozen ∨ s.netUp = false then .next s
  else
    let again := if s.clk.tickOpt ≤ h.tLast then some h.tLast else none
    let s1 : State := { s with hst := { h with present := false, heard := again, expired := true, expiryCnt := satInc h.expiryCnt } }
    .next (s1.hostAbsent.notice 0x0001 0x01 0 fZero)

/-- HOST_RETURN (05 R161): at the tick that counts a qualifying message heard while ABSENT, every block follows its return rule. -/
def execHostReturn (o : Opt) (s : State) : Out :=
  let s := s.begin o
  match s.hst.heard with
  | none => .next s
  | some t =>
    if s.hst.present ∨ s.clk.running = false ∨ s.clk.tickOpt ≤ t ∨ s.netUp = false then .next s
    else
      let s1 := { s with hst := { s.hst with present := true, heard := none } }.colSheepdog false
      .next { s1 with prf := { s1.prf with returnEdge := true } }

end Sys2Proof.Machine
end

