-- ==== Sys2Proof/Machine/RegRows.lean ====
section
/-! DEFINITION. The rows of the table that are a write, or a read, of one register: each is the register operation of that one
register (05 R150), whatever the value spells. -/

namespace Sys2Proof.Machine

/-- CLUSTER_RESET: a write of SYS_CLUSTER_RST (01 R25). -/
def execClusterReset (r : HostReq) (v : Word) (s : State) : Out := .next (writeOne r 0x140 v s)

/-- RELEASE_CMD: a write of SYS_RELEASE_CMD (03 R94). -/
def execReleaseCmd (r : HostReq) (v : Word) (s : State) : Out := .next (writeOne r 0x344 v s)

/-- WAKE_CMD: a write of SYS_WAKE (02 R59). -/
def execWakeCmd (r : HostReq) (v : Word) (s : State) : Out := .next (writeOne r 0x250 v s)

/-- SM_EVENT: a write of SYS_SM_EVENT (04 R119). -/
def execSmEvent (r : HostReq) (v : Word) (s : State) : Out := .next (writeOne r 0x600 v s)

/-- FIN_POS_CLEAR: a write of SNS_FIN_POS_CLR (06 R183). -/
def execFinPosClear (r : HostReq) (v : Word) (s : State) : Out := .next (writeOne r 0x20580 v s)

/-- CAL_START: a write of FLW_CAL_CMD with START (07 R194). -/
def execCalStart (r : HostReq) (v : Word) (s : State) : Out := .next (writeOne r 0x30020 v s)

/-- CAL_STOP: a write of FLW_CAL_CMD with STOP (07 R194). -/
def execCalStop (r : HostReq) (v : Word) (s : State) : Out := .next (writeOne r 0x30020 v s)

/-- CAL_ENTER: a write of FLW_CAL_CMD with ENTER (07 R194). -/
def execCalEnter (r : HostReq) (v : Word) (s : State) : Out := .next (writeOne r 0x30020 v s)

/-- CAL_ABORT: a write of FLW_CAL_CMD with ABORT (07 R194). -/
def execCalAbort (r : HostReq) (v : Word) (s : State) : Out := .next (writeOne r 0x30020 v s)

/-- TARE: a write of FLW_CAL_CMD with TARE (07 R194). -/
def execTare (r : HostReq) (v : Word) (s : State) : Out := .next (writeOne r 0x30020 v s)

/-- LOSS_CNT_CLEAR: a write of FLW_LS_CNT_CLR (07 R212). -/
def execLossCntClear (r : HostReq) (v : Word) (s : State) : Out := .next (writeOne r 0x301C0 v s)

/-- LOOP_CNT_CLEAR: a write of LOP_CNT_CLR (08 R244). -/
def execLoopCntClear (r : HostReq) (i : Fin 4) (v : Word) (s : State) : Out := .next (writeOne r (0x40020 + 4 * i.val) v s)

/-- TEST_STALL: a write of LOP_TEST_STALL (08 R244). -/
def execTestStall (r : HostReq) (v : Word) (s : State) : Out := .next (writeOne r 0x40030 v s)

/-- MF_CNT_CLEAR: a write of PRF_MF_CNT_CLR (09 R268). -/
def execMfCntClear (r : HostReq) (i : Fin 2) (v : Word) (s : State) : Out := .next (writeOne r (0x52310 + 4 * i.val) v s)

/-- WHIPPET_REQUEST: a write of NAV_CTRL with REQ WHIPPET (10 R286). -/
def execWhippetRequest (r : HostReq) (v : Word) (s : State) : Out := .next (writeOne r 0x60000 v s)

/-- WHIPPET_NORMAL: a write of NAV_CTRL with REQ NORMAL (10 R286). -/
def execWhippetNormal (r : HostReq) (v : Word) (s : State) : Out := .next (writeOne r 0x60000 v s)

/-- COLD_RESTART: a write of NAV_CTRL with REQ COLD_RESTART (10 R293). -/
def execColdRestart (r : HostReq) (v : Word) (s : State) : Out := .next (writeOne r 0x60000 v s)

/-- NAV_CH_CNT_CLEAR: a write of NAV_CH_CNT_CLR (10 R293). -/
def execNavChCntClear (r : HostReq) (i : Fin 12) (v : Word) (s : State) : Out := .next (writeOne r (0x60240 + 4 * i.val) v s)

/-- CABLE_DELAY_WRITE: a write of TIM_PULSE_CFG (11 R306). -/
def execCableDelayWrite (r : HostReq) (v : Word) (s : State) : Out := .next (writeOne r 0x70040 v s)

/-- ENGAGE: a write of STR_CMD with ENGAGE (12 R331). -/
def execEngage (r : HostReq) (v : Word) (s : State) : Out := .next (writeOne r 0x80000 v s)

/-- DISENGAGE: a write of STR_CMD with DISENGAGE (12 R331). -/
def execDisengage (r : HostReq) (v : Word) (s : State) : Out := .next (writeOne r 0x80000 v s)

/-- FIELD_SELECT: a write of YLD_FIELD (13 R341). -/
def execFieldSelect (r : HostReq) (v : Word) (s : State) : Out := .next (writeOne r 0x9000C v s)

/-- CLEAR_RASTER: a write of YLD_CMD with CLEAR_RASTER (13 R342). -/
def execClearRaster (r : HostReq) (v : Word) (s : State) : Out := .next (writeOne r 0x90010 v s)

/-- RESET_TOTALS: a write of YLD_CMD with RESET_TOTALS (13 R365). -/
def execResetTotals (r : HostReq) (v : Word) (s : State) : Out := .next (writeOne r 0x90010 v s)

/-- LOG_TRIM: a write of YLD_LOG_TRIM (13 R365). -/
def execLogTrim (r : HostReq) (v : Word) (s : State) : Out := .next (writeOne r 0x90028 v s)

/-- TLG_TRIM: a write of YLD_TLG_TRIM (13 R365). -/
def execTlgTrim (r : HostReq) (v : Word) (s : State) : Out := .next (writeOne r 0x9002C v s)

/-- CAM_ENABLE: a write of VIS_CAM_EN (14 R370). -/
def execCamEnable (r : HostReq) (v : Word) (s : State) : Out := .next (writeOne r 0xA0000 v s)

/-- TAP_ARM: a write of VIS_TAP_CFG with ARM 1 (14 R373). -/
def execTapArm (r : HostReq) (pipe : Fin 2) (v : Word) (s : State) : Out := .next (writeOne r (0xA0340 + 4 * pipe.val) v s)

/-- TAP_DISARM: a write of VIS_TAP_CFG with ARM 0 (14 R373). -/
def execTapDisarm (r : HostReq) (pipe : Fin 2) (v : Word) (s : State) : Out := .next (writeOne r (0xA0340 + 4 * pipe.val) v s)

/-- VIS_WINDOW_LATCH: a write of VIS_WIN_SEL (14 R375). -/
def execVisWindowLatch (r : HostReq) (v : Word) (s : State) : Out := .next (writeOne r 0xA0400 v s)

/-- CAM_CNT_CLEAR: a write of VIS_CAM_CNT_CLR (14 R390). -/
def execCamCntClear (r : HostReq) (v : Word) (s : State) : Out := .next (writeOne r 0xA0200 v s)

/-- VALVE_RESTART: a write of VLV_CMD with RESTART (15 R394). -/
def execValveRestart (r : HostReq) (v : Word) (s : State) : Out := .next (writeOne r 0xB0010 v s)

/-- VALVE_CLEAR: a write of VLV_CMD with CLEAR (15 R409). -/
def execValveClear (r : HostReq) (v : Word) (s : State) : Out := .next (writeOne r 0xB0010 v s)

/-- VALVE_CLEAR_BANK: a write of VLV_CMD with CLEAR_BANK (15 R409). -/
def execValveClearBank (r : HostReq) (v : Word) (s : State) : Out := .next (writeOne r 0xB0010 v s)

/-- LEGACY_DUTY_WRITE: a write of VLV_LEGACY_DUTY (15 R407). -/
def execLegacyDutyWrite (r : HostReq) (ch : Fin 48) (v : Word) (s : State) : Out := .next (writeOne r (0xB0500 + 4 * ch.val) v s)

/-- VALVE_CNT_CLEAR: a write of VLV_CNT_CLR (15 R414). -/
def execValveCntClear (r : HostReq) (i : Fin 2) (v : Word) (s : State) : Out := .next (writeOne r (0xB0008 + 4 * i.val) v s)

/-- PSW_CLEAR: a write of PSW_CMD with CLEAR (16 R421). -/
def execPswClear (r : HostReq) (v : Word) (s : State) : Out := .next (writeOne r 0xC0010 v s)

/-- PSW_CLEAR_LATCH: a write of PSW_CMD with CLEAR_LATCH (16 R423). -/
def execPswClearLatch (r : HostReq) (v : Word) (s : State) : Out := .next (writeOne r 0xC0010 v s)

/-- PSW_RESTART: a write of PSW_CMD with RESTART (16 R421). -/
def execPswRestart (r : HostReq) (v : Word) (s : State) : Out := .next (writeOne r 0xC0010 v s)

/-- PSW_CNT_CLEAR: a write of PSW_CNT_CLR (16 R431). -/
def execPswCntClear (r : HostReq) (i : Fin 2) (v : Word) (s : State) : Out := .next (writeOne r (0xC0008 + 4 * i.val) v s)

/-- COOLING_CLEAR: a write of COL_CMD with CLEAR (17 R436). -/
def execCoolingClear (r : HostReq) (v : Word) (s : State) : Out := .next (writeOne r 0xD0008 v s)

/-- COOLING_CNT_CLEAR: a write of COL_CNT_CLR (17 R444). -/
def execCoolingCntClear (r : HostReq) (v : Word) (s : State) : Out := .next (writeOne r 0xD0004 v s)

/-- CAN_TXM_SEND: a write of CAN_TXM_CMD with SEND (18 R469). -/
def execCanTxmSend (r : HostReq) (v : Word) (s : State) : Out := .next (writeOne r 0xE0608 v s)

/-- CAN_RECOVER: a write of CAN_CMD with RECOVER (18 R462). -/
def execCanRecover (r : HostReq) (v : Word) (s : State) : Out := .next (writeOne r 0xE0008 v s)

/-- CAN_ABORT_ALL: a write of CAN_CMD with ABORT_ALL (18 R461). -/
def execCanAbortAll (r : HostReq) (v : Word) (s : State) : Out := .next (writeOne r 0xE0008 v s)

/-- CAN_ABORT_TAG: a write of CAN_CMD with ABORT_TAG (18 R473). -/
def execCanAbortTag (r : HostReq) (v : Word) (s : State) : Out := .next (writeOne r 0xE0008 v s)

/-- CAN_DETECT: a write of CAN_CMD with DETECT (18 R450). -/
def execCanDetect (r : HostReq) (v : Word) (s : State) : Out := .next (writeOne r 0xE0008 v s)

/-- CAN_ENABLE_WRITE: a write of CAN_EN (18 R473). -/
def execCanEnableWrite (r : HostReq) (v : Word) (s : State) : Out := .next (writeOne r 0xE0000 v s)

/-- CAN_WINDOW_LATCH: a write of CAN_WIN_POS (18 R473). -/
def execCanWindowLatch (r : HostReq) (v : Word) (s : State) : Out := .next (writeOne r 0xE0304 v s)

/-- CAN_CNT_CLEAR: a write of CAN_CNT_CLR (18 R473). -/
def execCanCntClear (r : HostReq) (v : Word) (s : State) : Out := .next (writeOne r 0xE0004 v s)

/-- PAIR_SWAP: a write of ETH_PAIR_CMD (19 R480). -/
def execPairSwap (r : HostReq) (v : Word) (s : State) : Out := .next (writeOne r 0xF0008 v s)

/-- PORT_ENABLE_WRITE: a write of ETH_EN (19 R492). -/
def execPortEnableWrite (r : HostReq) (v : Word) (s : State) : Out := .next (writeOne r 0xF0000 v s)

/-- ETH_CNT_CLEAR: a write of ETH_CNT_CLR (19 R492). -/
def execEthCntClear (r : HostReq) (v : Word) (s : State) : Out := .next (writeOne r 0xF0004 v s)

/-- REC_POINTER: a write of REC_PTR (20 R511). -/
def execRecPointer (r : HostReq) (v : Word) (s : State) : Out := .next (writeOne r 0x100100 v s)

/-- REC_CNT_CLEAR: a write of REC_CNT_CLR (20 R516). -/
def execRecCntClear (r : HostReq) (v : Word) (s : State) : Out := .next (writeOne r 0x100018 v s)

/-- UPD_CNT_CLEAR: a write of UPD_CNT_CLR (21 R537). -/
def execUpdCntClear (r : HostReq) (v : Word) (s : State) : Out := .next (writeOne r 0x110028 v s)

/-- TICK_LATCH: a read of LOP_TICK_LO (08 R244). -/
def execTickLatch (r : HostReq) (s : State) : Out := .next (readOne r 0x40000 s)

/-- TIM_OPT_LATCH: a read of TIM_OPT_LO (11 R322). -/
def execTimOptLatch (r : HostReq) (s : State) : Out := .next (readOne r 0x70008 s)

/-- CAN_TXS_SEND: one write that covers CAN_TXS_ID to CAN_TXS_CMD (18 R459). -/
def execCanTxsSend (r : HostReq) (id ctrl : Word) (data : List Word) (cmd : Word) (s : State) : Out :=
  let words := [id, ctrl] ++ (List.range 16).map (fun (k : Nat) => data.getD k 0) ++ [cmd]
  .next (hostOp r 0x0011 1 0 (writeOp r ((addrRun 0xE0500 19).zip words)) s)

end Sys2Proof.Machine
end

