-- ==== Sys2Proof/Machine/Tick.lean ====
section
/-! DEFINITION. The tick (08 R213, R214): the tick's instant, the supply monitor, the slot boundary, and the five steps of CTL with
what every channel takes from them. -/

namespace Sys2Proof.Machine

/-- The tick instant that this command is. -/
def State.tickInstant (s : State) : State := if s.clk.tickOpt = 0 then s.firstTick else s.advanceTick

/-- The supply monitor's measurement of this tick (02 R47, R49, R55). -/
def State.monitorTick (s : State) (m : SupplyIn) : State := (s.monitor m).supplyTick

/-- A measurement of the monitor without a tick (02 R47): 50 µs after the one before; in OFF the module's clock does not run. -/
def State.monitorOnly (s : State) (m : SupplyIn) : State :=
  if s.pwr.supply = .off then s.monitor m
  else
    let t := (s.reach (s.clk.opt + 50000)).monitorTick m
    if s.clk.running ∧ t.runs rSNS then t.notchTick else t

/-- The groups of the VLV and PSW blocks whose boundary this tick is (15 R410; 16 R427). -/
def State.channelGroups (s : State) : State :=
  ((s.grp.snaps.map Snap.group).filter fun g => g / 256 == 0x0B || g / 256 == 0x0C).foldl (fun t g => t.applyGroup g) s

/-- What the CAN fields gave the mailbox of CTL since the tick before (04 R115). -/
def State.takeCanMail (s : State) : State :=
  { s with can := { s.can with setv := s.prf.canMail.foldl (fun l p => bindN l p.1 p.2) s.can.setv }, prf := { s.prf with canMail := [] } }

/-- The enables of the power dies' channels that take effect at this tick (01 R17). -/
def State.channelEnables (s : State) : State :=
  let s1 := (List.range 40).foldl (fun t n => t.pswSetEnable n (t.psw.en.getLsbD n)) s
  let s2 := (List.range 48).foldl (fun t n => t.vlvSetEnable n (t.vlv.en.getLsbD n)) s1
  (List.range 8).foldl (fun t n => t.colSetEnable n (t.col.en.getLsbD n) t.clk.tickOpt) s2

/-- Step 3 (06 R163, R179; 01 R14): the mailbox entry, where a new one is there, becomes the latched image, and a frame's entry is read. -/
def State.latchImage (s : State) : State :=
  let q := s.sns
  let q1 := match q.mail with
    | some i => { q with latch := i, mail := none }
    | none => q
  { s with sns := { q1 with frameBox := q1.frameBox.take } }

/-- What the channels take from the tick (15 R392, R395; 16 R417; 17 R434, R436; 02 R59; 07 R186; 04 R127). -/
def State.channelTick (s : State) : State :=
  let s1 := s.wantTick
  let s2 := (List.range 40).foldl (fun t n => if t.pswUsed n then t.pswDuty n else t) s1
  let s3 := (List.range 48).foldl (fun t n => t.vlvTolerance n) s2
  let s4 := ((List.range 8).foldl (fun t n => t.colTimers n) s3).colEvalAll s3.clk.tickOpt
  s4.wakeTick.notchTick.rxTick

/-- The steps of CTL at a tick (08 R214), the channels' part, and the completions of the loop and function commands that took effect. -/
def State.ctlTick (s : State) : State :=
  let (s1, answers) := s.channelGroups.timTick.lopTickStart
  let s2 := s1.takeCanMail.mfTick.channelEnables.latchImage.relEval.lopTickSample
  let s3 := ((List.range 48).foldl (fun t m => t.mfStatus m) s2).channelTick
  (List.range 48).foldl (fun t m => t.mfComplete m) (answers.foldl (fun t a => t.loopAnswer a) s3)

/-- The safe states that are no start events begin at the first tick in NORMAL (03 R68). -/
def State.safeBegin (s : State) : State :=
  if s.boot.safeDue = false ∨ s.pwr.supply ≠ .normal then s
  else
    let o := s.clk.tickOpt
    let s0 : State := { s with boot := { s.boot with safeDue := false } }
    let s1 := (List.range 48).foldl (fun t n => if t.vlvMode n ≠ 0 ∧ (rd t.vlv.ch n).safe then t.vlvEnterSafe n o else t) s0
    (List.range 8).foldl (fun t n => if t.colUsed n ∧ (rd t.col.ch n).safe then t.colEnterSafe n o else t) s1

/-- A slot boundary is every tick whose number in the second is a multiple of 40 (02 R60). -/
def State.slotTick (s : State) : State := if s.clk.tickSec % 40 = 0 then s.slotBoundary else s

/-- A full freeze that comes before the next tick begins at its own instant (22 R545). -/
def State.freezeFirst (s : State) : State :=
  match s.dbg.pendingFull with
  | some t => if t ≤ s.nextTick.1 then (s.reach t).freezeDue else s
  | none => s

/-- TICK_START (08 R214): the next tick with the supply monitor's measurement at it.  Where no tick runs (before step 7, without
an image, with CTL stopped by a freeze) it is a measurement alone; in SHUTDOWN the tick passes without the steps of CTL. -/
def execTickStart (m : SupplyIn) (s : State) : Out :=
  let s := s.start.freezeFirst
  if s.clk.running = false ∨ s.region rCTL = .frozen ∨ s.pwr.supply = .off then .next (s.monitorOnly m)
  else
    let s1 := (s.tickInstant.monitorTick m).slotTick
    if s1.powered ∧ s1.runs rCTL then .next s1.safeBegin.ctlTick
    else .next (if s1.runs rSNS then s1.wakeTick.notchTick else s1.wakeTick)

end Sys2Proof.Machine
end

