-- ==== Sys2Proof/Machine/Dispatch.lean ====
section
/-! DEFINITION. The dispatch of a command to its meaning, one arm per constructor. -/

namespace Sys2Proof.Machine

def exec (i : Instr) (s : State) : Host.Outcome State Fault Refusal :=
  match i with
  | .ignOn p => Sys2Proof.Machine.execIgnOn p s
  | .powerupRetry p => Sys2Proof.Machine.execPowerupRetry p s
  | .powerupComplete o => Sys2Proof.Machine.execPowerupComplete o s
  | .powerupUndervolt o m => Sys2Proof.Machine.execPowerupUndervolt o m s
  | .crankEntry o => Sys2Proof.Machine.execCrankEntry o s
  | .crankExit o => Sys2Proof.Machine.execCrankExit o s
  | .crankTimeout o => Sys2Proof.Machine.execCrankTimeout o s
  | .crankUndervolt o => Sys2Proof.Machine.execCrankUndervolt o s
  | .overvoltEntry o => Sys2Proof.Machine.execOvervoltEntry o s
  | .overvoltExit o => Sys2Proof.Machine.execOvervoltExit o s
  | .ignOffDelayExpiry o => Sys2Proof.Machine.execIgnOffDelayExpiry o s
  | .shutdownComplete o => Sys2Proof.Machine.execShutdownComplete o s
  | .holdUpTakeover o m => Sys2Proof.Machine.execHoldUpTakeover o m s
  | .svcEnChange o strapped => Sys2Proof.Machine.execSvcEnChange o strapped s
  | .memoryUncorrectable o w => Sys2Proof.Machine.execMemoryUncorrectable o w s
  | .memoryCorrectable o region => Sys2Proof.Machine.execMemoryCorrectable o region s
  | .windowViolation o u => Sys2Proof.Machine.execWindowViolation o u s
  | .clusterReset r v => Sys2Proof.Machine.execClusterReset r v s
  | .dieSupervisorReset o die => Sys2Proof.Machine.execDieSupervisorReset o die s
  | .powerLinkCommandFrame die => Sys2Proof.Machine.execPowerLinkCommandFrame die s
  | .powerLinkStatusFrame die f => Sys2Proof.Machine.execPowerLinkStatusFrame die f s
  | .linkWatchdogExpiry o die => Sys2Proof.Machine.execLinkWatchdogExpiry o die s
  | .dieOvertemp o die temp => Sys2Proof.Machine.execDieOvertemp o die temp s
  | .dieTempRecovered o die temp => Sys2Proof.Machine.execDieTempRecovered o die temp s
  | .dieHot o die temp tj => Sys2Proof.Machine.execDieHot o die temp tj s
  | .admissionPass => Sys2Proof.Machine.execAdmissionPass s
  | .releaseGroup g => Sys2Proof.Machine.execReleaseGroup g s
  | .releaseFollowLapse g => Sys2Proof.Machine.execReleaseFollowLapse g s
  | .releaseCmd r v => Sys2Proof.Machine.execReleaseCmd r v s
  | .wakeCmd r v => Sys2Proof.Machine.execWakeCmd r v s
  | .wakeOutTrip o => Sys2Proof.Machine.execWakeOutTrip o s
  | .tickStart m => Sys2Proof.Machine.execTickStart m s
  | .tickAlignment => Sys2Proof.Machine.execTickAlignment s
  | .loopComputationDone o slot clocks => Sys2Proof.Machine.execLoopComputationDone o slot clocks s
  | .loopOverrun slot => Sys2Proof.Machine.execLoopOverrun slot s
  | .loopProcessorDown o proc => Sys2Proof.Machine.execLoopProcessorDown o proc s
  | .loopAuto r slot value => Sys2Proof.Machine.execLoopAuto r slot value s
  | .loopManual r slot value => Sys2Proof.Machine.execLoopManual r slot value s
  | .loopSetManual r slot value => Sys2Proof.Machine.execLoopSetManual r slot value s
  | .loopRestart r slot value => Sys2Proof.Machine.execLoopRestart r slot value s
  | .loopEnable r slot value => Sys2Proof.Machine.execLoopEnable r slot value s
  | .loopDisable r slot value => Sys2Proof.Machine.execLoopDisable r slot value s
  | .loopCntClear r k v => Sys2Proof.Machine.execLoopCntClear r k v s
  | .testStall r v => Sys2Proof.Machine.execTestStall r v s
  | .tickLatch r => Sys2Proof.Machine.execTickLatch r s
  | .mfSetMode r mf mode value => Sys2Proof.Machine.execMfSetMode r mf mode value s
  | .mfTarget r mf arg value => Sys2Proof.Machine.execMfTarget r mf arg value s
  | .mfManualValue r mf arg value => Sys2Proof.Machine.execMfManualValue r mf arg value s
  | .mfInterlockClear mf => Sys2Proof.Machine.execMfInterlockClear mf s
  | .mfCntClear r k v => Sys2Proof.Machine.execMfCntClear r k v s
  | .smStep o m late => Sys2Proof.Machine.execSmStep o m late s
  | .smTimerExpiry o m timer => Sys2Proof.Machine.execSmTimerExpiry o m timer s
  | .smEvent r v => Sys2Proof.Machine.execSmEvent r v s
  | .machineEvent r machine event => Sys2Proof.Machine.execMachineEvent r machine event s
  | .canTxBuild table => Sys2Proof.Machine.execCanTxBuild table s
  | .commit r group => Sys2Proof.Machine.execCommit r group s
  | .commitCheckDone o group => Sys2Proof.Machine.execCommitCheckDone o group s
  | .commitApply group => Sys2Proof.Machine.execCommitApply group s
  | .commitTimeout o group => Sys2Proof.Machine.execCommitTimeout o group s
  | .discard r group => Sys2Proof.Machine.execDiscard r group s
  | .shadowRead r group => Sys2Proof.Machine.execShadowRead r group s
  | .sessionHandshake h => Sys2Proof.Machine.execSessionHandshake h s
  | .handshakeTimeout o id => Sys2Proof.Machine.execHandshakeTimeout o id s
  | .dtlsClose o sess => Sys2Proof.Machine.execDtlsClose o sess s
  | .idleClose o sess => Sys2Proof.Machine.execIdleClose o sess s
  | .badMessage m => Sys2Proof.Machine.execBadMessage m s
  | .hello r features maxMsg => Sys2Proof.Machine.execHello r features maxMsg s
  | .bye r => Sys2Proof.Machine.execBye r s
  | .ping r => Sys2Proof.Machine.execPing r s
  | .ringOpen r ring mode limit => Sys2Proof.Machine.execRingOpen r ring mode limit s
  | .ringClose r ring => Sys2Proof.Machine.execRingClose r ring s
  | .regRead r addr count => Sys2Proof.Machine.execRegRead r addr count s
  | .regWrite r addr values => Sys2Proof.Machine.execRegWrite r addr values s
  | .regModify r addr mask value => Sys2Proof.Machine.execRegModify r addr mask value s
  | .regBatchRead r addrs => Sys2Proof.Machine.execRegBatchRead r addrs s
  | .regBatchWrite r pairs => Sys2Proof.Machine.execRegBatchWrite r pairs s
  | .tableDirRead r first count => Sys2Proof.Machine.execTableDirRead r first count s
  | .tableRead r table offset len => Sys2Proof.Machine.execTableRead r table offset len s
  | .subscribe r stream env decim inst => Sys2Proof.Machine.execSubscribe r stream env decim inst s
  | .unsubscribe r sub => Sys2Proof.Machine.execUnsubscribe r sub s
  | .tokenChallenge r => Sys2Proof.Machine.execTokenChallenge r s
  | .tokenPresent r token chainOk => Sys2Proof.Machine.execTokenPresent r token chainOk s
  | .nonceExpiry o sess => Sys2Proof.Machine.execNonceExpiry o sess s
  | .tokenGrantExpiry o sess => Sys2Proof.Machine.execTokenGrantExpiry o sess s
  | .rtcmIn r data => Sys2Proof.Machine.execRtcmIn r data s
  | .rtcmFrame o src => Sys2Proof.Machine.execRtcmFrame o src s
  | .timeSetCvtSet r value => Sys2Proof.Machine.execTimeSetCvtSet r value s
  | .timeSetCvtFollow r => Sys2Proof.Machine.execTimeSetCvtFollow r s
  | .timeSetAiding r value => Sys2Proof.Machine.execTimeSetAiding r value s
  | .timeSetLeap r leap => Sys2Proof.Machine.execTimeSetLeap r leap s
  | .hostSilenceExpiry o => Sys2Proof.Machine.execHostSilenceExpiry o s
  | .hostReturn o => Sys2Proof.Machine.execHostReturn o s
  | .inputImagePublish c => Sys2Proof.Machine.execInputImagePublish c s
  | .measFramePublish o => Sys2Proof.Machine.execMeasFramePublish o s
  | .shuntDisconnect o ch => Sys2Proof.Machine.execShuntDisconnect o ch s
  | .shuntReconnect o ch => Sys2Proof.Machine.execShuntReconnect o ch s
  | .finZeroTimeout o ch => Sys2Proof.Machine.execFinZeroTimeout o ch s
  | .finPosClear r v => Sys2Proof.Machine.execFinPosClear r v s
  | .sup5Trip o ch => Sys2Proof.Machine.execSup5Trip o ch s
  | .sup5Retry o ch => Sys2Proof.Machine.execSup5Retry o ch s
  | .imuTimeout o => Sys2Proof.Machine.execImuTimeout o s
  | .calStart r v => Sys2Proof.Machine.execCalStart r v s
  | .calStop r v => Sys2Proof.Machine.execCalStop r v s
  | .calEnter r v => Sys2Proof.Machine.execCalEnter r v s
  | .calAbort r v => Sys2Proof.Machine.execCalAbort r v s
  | .tare r v => Sys2Proof.Machine.execTare r v s
  | .tareComplete o => Sys2Proof.Machine.execTareComplete o s
  | .lossHit ch h => Sys2Proof.Machine.execLossHit ch h s
  | .lossInputFault o ch => Sys2Proof.Machine.execLossInputFault o ch s
  | .lossInputRecover o ch => Sys2Proof.Machine.execLossInputRecover o ch s
  | .lossCntClear r v => Sys2Proof.Machine.execLossCntClear r v s
  | .lossSpectrumPublish o => Sys2Proof.Machine.execLossSpectrumPublish o s
  | .navAllocator o sky => Sys2Proof.Machine.execNavAllocator o sky s
  | .measurementEpoch o ms rf antMa => Sys2Proof.Machine.execMeasurementEpoch o ms rf antMa s
  | .acqPassEnd o found => Sys2Proof.Machine.execAcqPassEnd o found s
  | .pullinLock o ch => Sys2Proof.Machine.execPullinLock o ch s
  | .pullinTimeout o ch => Sys2Proof.Machine.execPullinTimeout o ch s
  | .lossOfLock o ch => Sys2Proof.Machine.execLossOfLock o ch s
  | .coastSearch o ch => Sys2Proof.Machine.execCoastSearch o ch s
  | .coastTimeout o ch => Sys2Proof.Machine.execCoastTimeout o ch s
  | .solutionEpoch o sol => Sys2Proof.Machine.execSolutionEpoch o sol s
  | .whippetRequest r v => Sys2Proof.Machine.execWhippetRequest r v s
  | .whippetNormal r v => Sys2Proof.Machine.execWhippetNormal r v s
  | .coldRestart r v => Sys2Proof.Machine.execColdRestart r v s
  | .whippetBurst o => Sys2Proof.Machine.execWhippetBurst o s
  | .whippetHoldEnd o => Sys2Proof.Machine.execWhippetHoldEnd o s
  | .antennaShort o ant ma => Sys2Proof.Machine.execAntennaShort o ant ma s
  | .antennaRetry o ant ma => Sys2Proof.Machine.execAntennaRetry o ant ma s
  | .navChCntClear r k v => Sys2Proof.Machine.execNavChCntClear r k v s
  | .timebaseSecond o t => Sys2Proof.Machine.execTimebaseSecond o t s
  | .sourceLost o src => Sys2Proof.Machine.execSourceLost o src s
  | .holdoverLimitExpiry o => Sys2Proof.Machine.execHoldoverLimitExpiry o s
  | .leapSecond o => Sys2Proof.Machine.execLeapSecond o s
  | .timepulseEdge o => Sys2Proof.Machine.execTimepulseEdge o s
  | .timepulseInEdge o rising => Sys2Proof.Machine.execTimepulseInEdge o rising s
  | .ptpSync o p => Sys2Proof.Machine.execPtpSync o p s
  | .cableDelayWrite r v => Sys2Proof.Machine.execCableDelayWrite r v s
  | .timOptLatch r => Sys2Proof.Machine.execTimOptLatch r s
  | .poseEpoch o p => Sys2Proof.Machine.execPoseEpoch o p s
  | .guidanceEpoch o late => Sys2Proof.Machine.execGuidanceEpoch o late s
  | .steeringTargetApply => Sys2Proof.Machine.execSteeringTargetApply s
  | .steerLateDisengage o => Sys2Proof.Machine.execSteerLateDisengage o s
  | .steerCoastTimeout o => Sys2Proof.Machine.execSteerCoastTimeout o s
  | .steerTakeover o => Sys2Proof.Machine.execSteerTakeover o s
  | .engage r v => Sys2Proof.Machine.execEngage r v s
  | .disengage r v => Sys2Proof.Machine.execDisengage r v s
  | .yieldEntry o => Sys2Proof.Machine.execYieldEntry o s
  | .recordOpening o => Sys2Proof.Machine.execRecordOpening o s
  | .yieldRecordWrite o => Sys2Proof.Machine.execYieldRecordWrite o s
  | .tailEnd o => Sys2Proof.Machine.execTailEnd o s
  | .lagSample o => Sys2Proof.Machine.execLagSample o s
  | .rasterSave o => Sys2Proof.Machine.execRasterSave o s
  | .fieldSelect r v => Sys2Proof.Machine.execFieldSelect r v s
  | .clearRaster r v => Sys2Proof.Machine.execClearRaster r v s
  | .resetTotals r v => Sys2Proof.Machine.execResetTotals r v s
  | .logTrim r v => Sys2Proof.Machine.execLogTrim r v s
  | .tlgTrim r v => Sys2Proof.Machine.execTlgTrim r v s
  | .camEnable r v => Sys2Proof.Machine.execCamEnable r v s
  | .frameStart o cam => Sys2Proof.Machine.execFrameStart o cam s
  | .i2cBurstLate o cam => Sys2Proof.Machine.execI2cBurstLate o cam s
  | .frameEnd o cam f => Sys2Proof.Machine.execFrameEnd o cam f s
  | .cameraLinkLoss o cam => Sys2Proof.Machine.execCameraLinkLoss o cam s
  | .cameraLinkRetry o cam locked => Sys2Proof.Machine.execCameraLinkRetry o cam locked s
  | .pipelineTakeFrame o pipe => Sys2Proof.Machine.execPipelineTakeFrame o pipe s
  | .pipelineFrameDone o pipe memory => Sys2Proof.Machine.execPipelineFrameDone o pipe memory s
  | .tapArm r pipe v => Sys2Proof.Machine.execTapArm r pipe v s
  | .tapDisarm r pipe v => Sys2Proof.Machine.execTapDisarm r pipe v s
  | .visWindowLatch r v => Sys2Proof.Machine.execVisWindowLatch r v s
  | .visWindowRelease o => Sys2Proof.Machine.execVisWindowRelease o s
  | .camCntClear r v => Sys2Proof.Machine.execCamCntClear r v s
  | .grainSampleEval o g => Sys2Proof.Machine.execGrainSampleEval o g s
  | .microcodeAdvance o bank ma => Sys2Proof.Machine.execMicrocodeAdvance o bank ma s
  | .boostCut o ch => Sys2Proof.Machine.execBoostCut o ch s
  | .valveRefuseRetry o ch => Sys2Proof.Machine.execValveRefuseRetry o ch s
  | .valveShort o ch => Sys2Proof.Machine.execValveShort o ch s
  | .valveOpenLoad o ch => Sys2Proof.Machine.execValveOpenLoad o ch s
  | .valveClampOverload o ch => Sys2Proof.Machine.execValveClampOverload o ch s
  | .valveOvertemp o ch => Sys2Proof.Machine.execValveOvertemp o ch s
  | .bankSwitchOvercurrent o bank => Sys2Proof.Machine.execBankSwitchOvercurrent o bank s
  | .regShortfall o ch => Sys2Proof.Machine.execRegShortfall o ch s
  | .valveRunaway o ch => Sys2Proof.Machine.execValveRunaway o ch s
  | .safeHoldExpiry o ch => Sys2Proof.Machine.execSafeHoldExpiry o ch s
  | .valveRestart r v => Sys2Proof.Machine.execValveRestart r v s
  | .valveClear r v => Sys2Proof.Machine.execValveClear r v s
  | .valveClearBank r v => Sys2Proof.Machine.execValveClearBank r v s
  | .legacyDutyWrite r ch v => Sys2Proof.Machine.execLegacyDutyWrite r ch v s
  | .valveCntClear r k v => Sys2Proof.Machine.execValveCntClear r k v s
  | .inrushEnd o ch => Sys2Proof.Machine.execInrushEnd o ch s
  | .pswShortTrip o ch => Sys2Proof.Machine.execPswShortTrip o ch s
  | .pswOverloadTrip o ch => Sys2Proof.Machine.execPswOverloadTrip o ch s
  | .pswRetryExpiry o ch => Sys2Proof.Machine.execPswRetryExpiry o ch s
  | .pswRetryReset o ch => Sys2Proof.Machine.execPswRetryReset o ch s
  | .pswOpenLoad o ch => Sys2Proof.Machine.execPswOpenLoad o ch s
  | .pswOpenClear o ch => Sys2Proof.Machine.execPswOpenClear o ch s
  | .pswClampOverload o ch => Sys2Proof.Machine.execPswClampOverload o ch s
  | .thermalLatch o ch tj => Sys2Proof.Machine.execThermalLatch o ch tj s
  | .latchRelease o ch tj => Sys2Proof.Machine.execLatchRelease o ch tj s
  | .pswRefuseRetry o ch => Sys2Proof.Machine.execPswRefuseRetry o ch s
  | .pswClear r v => Sys2Proof.Machine.execPswClear r v s
  | .pswClearLatch r v => Sys2Proof.Machine.execPswClearLatch r v s
  | .pswRestart r v => Sys2Proof.Machine.execPswRestart r v s
  | .pswCntClear r k v => Sys2Proof.Machine.execPswCntClear r k v s
  | .safeStateTurnOn o die => Sys2Proof.Machine.execSafeStateTurnOn o die s
  | .coolingDemand o => Sys2Proof.Machine.execCoolingDemand o s
  | .spinTimeout o ch => Sys2Proof.Machine.execSpinTimeout o ch s
  | .spinReached o ch => Sys2Proof.Machine.execSpinReached o ch s
  | .pauseEnd o ch => Sys2Proof.Machine.execPauseEnd o ch s
  | .tachLoss o ch => Sys2Proof.Machine.execTachLoss o ch s
  | .tachRecovery o ch => Sys2Proof.Machine.execTachRecovery o ch s
  | .coolingRefuseRetry o ch => Sys2Proof.Machine.execCoolingRefuseRetry o ch s
  | .coolingClear r v => Sys2Proof.Machine.execCoolingClear r v s
  | .coolingCntClear r v => Sys2Proof.Machine.execCoolingCntClear r v s
  | .shdnComparatorTrip o ts15 => Sys2Proof.Machine.execShdnComparatorTrip o ts15 s
  | .shdnAsserted o => Sys2Proof.Machine.execShdnAsserted o s
  | .canFrame o ch sof f own competed loop bits => Sys2Proof.Machine.execCanFrame o ch sof f own competed loop bits s
  | .canError o ch e => Sys2Proof.Machine.execCanError o ch e s
  | .busoffDelayExpiry o ch => Sys2Proof.Machine.execBusoffDelayExpiry o ch s
  | .canRecoveryComplete o ch => Sys2Proof.Machine.execCanRecoveryComplete o ch s
  | .detectCandidateTimeout o ch byError => Sys2Proof.Machine.execDetectCandidateTimeout o ch byError s
  | .canDispatch o ch => Sys2Proof.Machine.execCanDispatch o ch s
  | .canRxTimeout o table => Sys2Proof.Machine.execCanRxTimeout o table s
  | .canTimeReference ch => Sys2Proof.Machine.execCanTimeReference ch s
  | .canTxsSend r id ctrl data cmd => Sys2Proof.Machine.execCanTxsSend r id ctrl data cmd s
  | .canTxmSend r v => Sys2Proof.Machine.execCanTxmSend r v s
  | .tpTimeout o ch conn => Sys2Proof.Machine.execTpTimeout o ch conn s
  | .addressClaimTimeout o ch => Sys2Proof.Machine.execAddressClaimTimeout o ch s
  | .canRecover r v => Sys2Proof.Machine.execCanRecover r v s
  | .canAbortAll r v => Sys2Proof.Machine.execCanAbortAll r v s
  | .canAbortTag r v => Sys2Proof.Machine.execCanAbortTag r v s
  | .canDetect r v => Sys2Proof.Machine.execCanDetect r v s
  | .canEnableWrite r v => Sys2Proof.Machine.execCanEnableWrite r v s
  | .canWindowLatch r v => Sys2Proof.Machine.execCanWindowLatch r v s
  | .canCntClear r v => Sys2Proof.Machine.execCanCntClear r v s
  | .pathLinkDown o port first => Sys2Proof.Machine.execPathLinkDown o port first s
  | .pathErrors o pair memberB fcs => Sys2Proof.Machine.execPathErrors o pair memberB fcs s
  | .pathSilence o pair memberB => Sys2Proof.Machine.execPathSilence o pair memberB s
  | .probeSend o memberB => Sys2Proof.Machine.execProbeSend o memberB s
  | .probeTimeout o memberB => Sys2Proof.Machine.execProbeTimeout o memberB s
  | .pathReady o pair memberB => Sys2Proof.Machine.execPathReady o pair memberB s
  | .mirrorCopyComplete o pair memberB => Sys2Proof.Machine.execMirrorCopyComplete o pair memberB s
  | .equinox o pair => Sys2Proof.Machine.execEquinox o pair s
  | .pairSwap r v => Sys2Proof.Machine.execPairSwap r v s
  | .portEnableWrite r v => Sys2Proof.Machine.execPortEnableWrite r v s
  | .ethCntClear r v => Sys2Proof.Machine.execEthCntClear r v s
  | .recordBoundary o => Sys2Proof.Machine.execRecordBoundary o s
  | .recordWriteComplete o good => Sys2Proof.Machine.execRecordWriteComplete o good s
  | .recInfo r => Sys2Proof.Machine.execRecInfo r s
  | .recRead r seq offset len => Sys2Proof.Machine.execRecRead r seq offset len s
  | .recFreeze r => Sys2Proof.Machine.execRecFreeze r s
  | .recThaw r => Sys2Proof.Machine.execRecThaw r s
  | .freezeMaxExpiry o sess => Sys2Proof.Machine.execFreezeMaxExpiry o sess s
  | .recClear r => Sys2Proof.Machine.execRecClear r s
  | .recClearComplete o => Sys2Proof.Machine.execRecClearComplete o s
  | .recPointer r v => Sys2Proof.Machine.execRecPointer r v s
  | .recCntClear r v => Sys2Proof.Machine.execRecCntClear r v s
  | .updBegin r manifest => Sys2Proof.Machine.execUpdBegin r manifest s
  | .updData r part kind offset data => Sys2Proof.Machine.execUpdData r part kind offset data s
  | .updStatus r => Sys2Proof.Machine.execUpdStatus r s
  | .updAbort r => Sys2Proof.Machine.execUpdAbort r s
  | .updConfirm r => Sys2Proof.Machine.execUpdConfirm r s
  | .updReject r p => Sys2Proof.Machine.execUpdReject r p s
  | .relayManifest m => Sys2Proof.Machine.execRelayManifest m s
  | .relayBtable m => Sys2Proof.Machine.execRelayBtable m s
  | .relayData m => Sys2Proof.Machine.execRelayData m s
  | .relayResend m => Sys2Proof.Machine.execRelayResend m s
  | .relayReady m => Sys2Proof.Machine.execRelayReady m s
  | .relayPrepare m => Sys2Proof.Machine.execRelayPrepare m s
  | .relayVote m => Sys2Proof.Machine.execRelayVote m s
  | .relayState m => Sys2Proof.Machine.execRelayState m s
  | .relayDecision m => Sys2Proof.Machine.execRelayDecision m s
  | .relayResult m => Sys2Proof.Machine.execRelayResult m s
  | .chainSessionRetry o upOk downOk => Sys2Proof.Machine.execChainSessionRetry o upOk downOk s
  | .verifyComplete o vendorOk => Sys2Proof.Machine.execVerifyComplete o vendorOk s
  | .prepareInstant o => Sys2Proof.Machine.execPrepareInstant o s
  | .voteDeadline o => Sys2Proof.Machine.execVoteDeadline o s
  | .stateSample o => Sys2Proof.Machine.execStateSample o s
  | .decisionInstant o => Sys2Proof.Machine.execDecisionInstant o s
  | .activation o p => Sys2Proof.Machine.execActivation o p s
  | .lateActivation o p => Sys2Proof.Machine.execLateActivation o p s
  | .trialConfirm o => Sys2Proof.Machine.execTrialConfirm o s
  | .freezeN o => Sys2Proof.Machine.execFreezeN o s
  | .freeze r mask => Sys2Proof.Machine.execFreeze r mask s
  | .freezeHoldExpiry o die => Sys2Proof.Machine.execFreezeHoldExpiry o die s
  | .thaw r => Sys2Proof.Machine.execThaw r s
  | .tapThaw o => Sys2Proof.Machine.execTapThaw o s
  | .tapReset o p => Sys2Proof.Machine.execTapReset o p s
  | .tapIdcode => Sys2Proof.Machine.execTapIdcode s
  | .tapSel v => Sys2Proof.Machine.execTapSel v s
  | .tapChain => Sys2Proof.Machine.execTapChain s
  | .tapMaddr v => Sys2Proof.Machine.execTapMaddr v s
  | .tapMdata => Sys2Proof.Machine.execTapMdata s
  | .tapBypass => Sys2Proof.Machine.execTapBypass s
  | .tapTrst => Sys2Proof.Machine.execTapTrst s
  | .freezeSupplyFail o m => Sys2Proof.Machine.execFreezeSupplyFail o m s
  | .updCntClear r v => Sys2Proof.Machine.execUpdCntClear r v s
  | .supplyConnect m => Sys2Proof.Machine.execSupplyConnect m s
  | .ignWakeChange o m => Sys2Proof.Machine.execIgnWakeChange o m s
  | .holdUpExhausted => Sys2Proof.Machine.execHoldUpExhausted s
  | .clusterResetComplete o region cluster => Sys2Proof.Machine.execClusterResetComplete o region cluster s
  | .dieConfigReloaded o die => Sys2Proof.Machine.execDieConfigReloaded o die s
  | .flowSample o a b => Sys2Proof.Machine.execFlowSample o a b s
  | .imuSample o v ok => Sys2Proof.Machine.execImuSample o v ok s
  | .finEdge o ch rising partnerEdge => Sys2Proof.Machine.execFinEdge o ch rising partnerEdge s
  | .ptpAnnounce o a => Sys2Proof.Machine.execPtpAnnounce o a s
  | .ptpMessageInterval o => Sys2Proof.Machine.execPtpMessageInterval o s
  | .frameTimeout o cam => Sys2Proof.Machine.execFrameTimeout o cam s
  | .dieHotClear o die temp => Sys2Proof.Machine.execDieHotClear o die temp s
  | .shdnComparatorReset o ts15 => Sys2Proof.Machine.execShdnComparatorReset o ts15 s
  | .canIntegrationComplete o ch => Sys2Proof.Machine.execCanIntegrationComplete o ch s
  | .pathConditionClear o pair memberB => Sys2Proof.Machine.execPathConditionClear o pair memberB s
  | .probeReply o memberB => Sys2Proof.Machine.execProbeReply o memberB s
  | .echoRequest o iface pathB v6 vlan toward payload => Sys2Proof.Machine.execEchoRequest o iface pathB v6 vlan toward payload s
  | .addressResolution o iface pathB v6 vlan target => Sys2Proof.Machine.execAddressResolution o iface pathB v6 vlan target s

end Sys2Proof.Machine
end

