-- ==== Sys2Proof/WellFormed.lean ====
section
/-! DEFINITION. Well-formed commands: what a message, a measurement or a line of the module can spell.  A command that is not
well formed stands for nothing that reaches the module. -/

namespace Sys2Proof
open Machine

/-- Whether field `[lo + w - 1 : lo]` of a register value spells `n`: a row of the table that is one command of a command register
(24 R564). -/
def spells (v : Word) (lo w n : Nat) : Bool := v.toNat / 2 ^ lo % 2 ^ w == n

/-- A request's session and ring fit their fields (05 R136). -/
def Machine.HostReq.wf (r : HostReq) : Bool := decide (r.ring < 65536)

/-- A status frame reports 10 switch channels, 12 valve channels and two banks (01 R28). -/
def Machine.DieStatus.wf (f : DieStatus) : Bool :=
  decide (f.psw.length = 10) && decide (f.vlv.length = 12) && decide (f.bank.length = 2) && decide (f.tj.length = 10)
    && decide (f.under.length = 12) && decide (f.tach.length = 2)

/-- A code of a 14-bit converter (07 R195). -/
def isCode (x : Int) : Bool := decide (-8192 ≤ x) && decide (x ≤ 8191)

/-- An input image holds 24 inputs of 4 conversions, 4 sensor supplies, 16 digital inputs of 5 samples, 16 temperature inputs
and 16 loss channels (06 R163, R164; 07 R195). -/
def Machine.ConvIn.wf (c : ConvIn) : Bool :=
  decide (c.ain.length = 24) && c.ain.all (fun l => decide (l.length = 4))
    && decide (c.sup.length = 4) && c.sup.all (fun l => decide (l.length = 4)) && decide (c.supMa.length = 4)
    && decide (c.din.length = 16) && c.din.all (fun l => decide (l.length = 5))
    && decide (c.ts.length = 16) && decide (c.codes.length = 16) && c.codes.all (fun l => l.all isCode)

/-- A hit has at least its first sample (07 R196). -/
def Machine.HitIn.wf (h : HitIn) : Bool := !h.codes.isEmpty && h.lead.all isCode && h.codes.all isCode

/-- A frame's identifier fits its format, and its data is a length that the format has (ISO 11898-1; 18 R453). -/
def Machine.CanFrame.wf (f : CanFrame) : Bool :=
  decide (f.id < if f.ide then 2 ^ 29 else 2 ^ 11)
    && (if f.fdf then [0, 1, 2, 3, 4, 5, 6, 7, 8, 12, 16, 20, 24, 32, 48, 64].contains f.data.length else decide (f.data.length ≤ 8))


/-- An address has 4 bytes in IPv4 and 16 in IPv6. -/
def addressFits (v6 : Bool) (a : List Byte) : Bool := decide (a.length = if v6 then 16 else 4)

/-- Whether a command is well formed. -/
def Instr.wf : Instr → Bool
  | .ignOn _ => true
  | .powerupRetry _ => true
  | .powerupComplete _ => true
  | .powerupUndervolt _ _ => true
  | .crankEntry _ => true
  | .crankExit _ => true
  | .crankTimeout _ => true
  | .crankUndervolt _ => true
  | .overvoltEntry _ => true
  | .overvoltExit _ => true
  | .ignOffDelayExpiry _ => true
  | .shutdownComplete _ => true
  | .holdUpTakeover _ _ => true
  | .svcEnChange _ _ => true
  | .memoryUncorrectable _ _ => true
  | .memoryCorrectable _ _ => true
  | .windowViolation _ _ => true
  | .clusterReset r _ => r.wf
  | .dieSupervisorReset _ _ => true
  | .powerLinkCommandFrame _ => true
  | .powerLinkStatusFrame _ f => f.wf
  | .linkWatchdogExpiry _ _ => true
  | .dieOvertemp _ _ _ => true
  | .dieTempRecovered _ _ _ => true
  | .dieHot _ _ _ tj => decide (tj.length = 10)
  | .admissionPass => true
  | .releaseGroup _ => true
  | .releaseFollowLapse _ => true
  | .releaseCmd r _ => r.wf
  | .wakeCmd r _ => r.wf
  | .wakeOutTrip _ => true
  | .tickStart _ => true
  | .tickAlignment => true
  | .loopComputationDone _ _ _ => true
  | .loopOverrun _ => true
  | .loopProcessorDown _ _ => true
  | .loopAuto r _ _ => r.wf
  | .loopManual r _ _ => r.wf
  | .loopSetManual r _ _ => r.wf
  | .loopRestart r _ _ => r.wf
  | .loopEnable r _ _ => r.wf
  | .loopDisable r _ _ => r.wf
  | .loopCntClear r _ _ => r.wf
  | .testStall r _ => r.wf
  | .tickLatch r => r.wf
  | .mfSetMode r _ _ _ => r.wf
  | .mfTarget r _ _ _ => r.wf
  | .mfManualValue r _ _ _ => r.wf
  | .mfInterlockClear _ => true
  | .mfCntClear r _ _ => r.wf
  | .smStep _ _ _ => true
  | .smTimerExpiry _ _ timer => decide (timer.toNat < 16)
  | .smEvent r _ => r.wf
  | .machineEvent r _ _ => r.wf
  | .canTxBuild _ => true
  | .commit r _ => r.wf
  | .commitCheckDone _ _ => true
  | .commitApply _ => true
  | .commitTimeout _ _ => true
  | .discard r _ => r.wf
  | .shadowRead r _ => r.wf
  | .sessionHandshake h => decide (h.level ≤ 2)
  | .handshakeTimeout _ _ => true
  | .dtlsClose _ _ => true
  | .idleClose _ _ => true
  | .badMessage _ => true
  | .hello r _ _ => r.wf
  | .bye r => r.wf
  | .ping r => r.wf
  | .ringOpen r _ _ _ => r.wf
  | .ringClose r _ => r.wf
  | .regRead r _ _ => r.wf
  | .regWrite r _ values => r.wf && decide (values.length < 65536)
  | .regModify r _ _ _ => r.wf
  | .regBatchRead r _ => r.wf
  | .regBatchWrite r _ => r.wf
  | .tableDirRead r _ _ => r.wf
  | .tableRead r _ _ _ => r.wf
  | .subscribe r _ _ _ _ => r.wf
  | .unsubscribe r _ => r.wf
  | .tokenChallenge r => r.wf
  | .tokenPresent r _ _ => r.wf
  | .nonceExpiry _ _ => true
  | .tokenGrantExpiry _ _ => true
  | .rtcmIn r _ => r.wf
  | .rtcmFrame _ _ => true
  | .timeSetCvtSet r _ => r.wf
  | .timeSetCvtFollow r => r.wf
  | .timeSetAiding r _ => r.wf
  | .timeSetLeap r _ => r.wf
  | .hostSilenceExpiry _ => true
  | .hostReturn _ => true
  | .inputImagePublish c => c.wf
  | .measFramePublish _ => true
  | .shuntDisconnect _ _ => true
  | .shuntReconnect _ _ => true
  | .finZeroTimeout _ _ => true
  | .finPosClear r _ => r.wf
  | .sup5Trip _ _ => true
  | .sup5Retry _ _ => true
  | .imuTimeout _ => true
  | .calStart r v => r.wf && spells v 0 3 1
  | .calStop r v => r.wf && spells v 0 3 2
  | .calEnter r v => r.wf && spells v 0 3 3
  | .calAbort r v => r.wf && spells v 0 3 4
  | .tare r v => r.wf && spells v 0 3 5
  | .tareComplete _ => true
  | .lossHit _ h => h.wf
  | .lossInputFault _ _ => true
  | .lossInputRecover _ _ => true
  | .lossCntClear r _ => r.wf
  | .lossSpectrumPublish _ => true
  | .navAllocator _ _ => true
  | .measurementEpoch _ ms rf antMa => ms.all (fun m => decide (m.ch < 384)) && decide (rf.length = 2) && decide (antMa.length = 2)
  | .acqPassEnd _ _ => true
  | .pullinLock _ _ => true
  | .pullinTimeout _ _ => true
  | .lossOfLock _ _ => true
  | .coastSearch _ _ => true
  | .coastTimeout _ _ => true
  | .solutionEpoch _ _ => true
  | .whippetRequest r v => r.wf && spells v 0 2 1
  | .whippetNormal r v => r.wf && spells v 0 2 2
  | .coldRestart r v => r.wf && spells v 0 2 3
  | .whippetBurst _ => true
  | .whippetHoldEnd _ => true
  | .antennaShort _ _ _ => true
  | .antennaRetry _ _ _ => true
  | .navChCntClear r _ _ => r.wf
  | .timebaseSecond _ _ => true
  | .sourceLost _ _ => true
  | .holdoverLimitExpiry _ => true
  | .leapSecond _ => true
  | .timepulseEdge _ => true
  | .timepulseInEdge _ _ => true
  | .ptpSync _ _ => true
  | .cableDelayWrite r _ => r.wf
  | .timOptLatch r => r.wf
  | .poseEpoch _ _ => true
  | .guidanceEpoch _ _ => true
  | .steeringTargetApply => true
  | .steerLateDisengage _ => true
  | .steerCoastTimeout _ => true
  | .steerTakeover _ => true
  | .engage r v => r.wf && spells v 0 2 1
  | .disengage r v => r.wf && spells v 0 2 2
  | .yieldEntry _ => true
  | .recordOpening _ => true
  | .yieldRecordWrite _ => true
  | .tailEnd _ => true
  | .lagSample _ => true
  | .rasterSave _ => true
  | .fieldSelect r _ => r.wf
  | .clearRaster r v => r.wf && spells v 0 2 1
  | .resetTotals r v => r.wf && spells v 0 2 2
  | .logTrim r _ => r.wf
  | .tlgTrim r _ => r.wf
  | .camEnable r _ => r.wf
  | .frameStart _ _ => true
  | .i2cBurstLate _ _ => true
  | .frameEnd _ _ _ => true
  | .cameraLinkLoss _ _ => true
  | .cameraLinkRetry _ _ _ => true
  | .pipelineTakeFrame _ _ => true
  | .pipelineFrameDone _ _ _ => true
  | .tapArm r _ v => r.wf && spells v 6 1 1
  | .tapDisarm r _ v => r.wf && spells v 6 1 0
  | .visWindowLatch r _ => r.wf
  | .visWindowRelease _ => true
  | .camCntClear r _ => r.wf
  | .grainSampleEval _ _ => true
  | .microcodeAdvance _ _ ma => decide (ma.length = 6)
  | .boostCut _ _ => true
  | .valveRefuseRetry _ _ => true
  | .valveShort _ _ => true
  | .valveOpenLoad _ _ => true
  | .valveClampOverload _ _ => true
  | .valveOvertemp _ _ => true
  | .bankSwitchOvercurrent _ _ => true
  | .regShortfall _ _ => true
  | .valveRunaway _ _ => true
  | .safeHoldExpiry _ _ => true
  | .valveRestart r v => r.wf && spells v 8 3 1
  | .valveClear r v => r.wf && spells v 8 3 2
  | .valveClearBank r v => r.wf && spells v 8 3 3
  | .legacyDutyWrite r _ _ => r.wf
  | .valveCntClear r _ _ => r.wf
  | .inrushEnd _ _ => true
  | .pswShortTrip _ _ => true
  | .pswOverloadTrip _ _ => true
  | .pswRetryExpiry _ _ => true
  | .pswRetryReset _ _ => true
  | .pswOpenLoad _ _ => true
  | .pswOpenClear _ _ => true
  | .pswClampOverload _ _ => true
  | .thermalLatch _ _ _ => true
  | .latchRelease _ _ _ => true
  | .pswRefuseRetry _ _ => true
  | .pswClear r v => r.wf && spells v 8 3 1
  | .pswClearLatch r v => r.wf && spells v 8 3 2
  | .pswRestart r v => r.wf && spells v 8 3 3
  | .pswCntClear r _ _ => r.wf
  | .safeStateTurnOn _ _ => true
  | .coolingDemand _ => true
  | .spinTimeout _ _ => true
  | .spinReached _ _ => true
  | .pauseEnd _ _ => true
  | .tachLoss _ _ => true
  | .tachRecovery _ _ => true
  | .coolingRefuseRetry _ _ => true
  | .coolingClear r v => r.wf && spells v 8 2 1
  | .coolingCntClear r _ => r.wf
  | .shdnComparatorTrip _ _ => true
  | .shdnAsserted _ => true
  | .canFrame _ _ _ f _ _ _ _ => f.wf
  | .canError _ _ e => decide (1 ≤ e.kind ∧ e.kind ≤ 5)
  | .busoffDelayExpiry _ _ => true
  | .canRecoveryComplete _ _ => true
  | .detectCandidateTimeout _ _ _ => true
  | .canDispatch _ _ => true
  | .canRxTimeout _ _ => true
  | .canTimeReference _ => true
  | .canTxsSend r _ _ data cmd => r.wf && decide (data.length = 16) && cmd.getLsbD 0
  | .canTxmSend r v => r.wf && spells v 0 1 1
  | .tpTimeout _ _ _ => true
  | .addressClaimTimeout _ _ => true
  | .canRecover r v => r.wf && spells v 4 3 1
  | .canAbortAll r v => r.wf && spells v 4 3 2
  | .canAbortTag r v => r.wf && spells v 4 3 3
  | .canDetect r v => r.wf && spells v 4 3 4
  | .canEnableWrite r _ => r.wf
  | .canWindowLatch r _ => r.wf
  | .canCntClear r _ => r.wf
  | .pathLinkDown _ _ _ => true
  | .pathErrors _ _ _ _ => true
  | .pathSilence _ _ _ => true
  | .probeSend _ _ => true
  | .probeTimeout _ _ => true
  | .pathReady _ _ _ => true
  | .mirrorCopyComplete _ _ _ => true
  | .equinox _ _ => true
  | .pairSwap r _ => r.wf
  | .portEnableWrite r _ => r.wf
  | .ethCntClear r _ => r.wf
  | .recordBoundary _ => true
  | .recordWriteComplete _ _ => true
  | .recInfo r => r.wf
  | .recRead r _ _ _ => r.wf
  | .recFreeze r => r.wf
  | .recThaw r => r.wf
  | .freezeMaxExpiry _ _ => true
  | .recClear r => r.wf
  | .recClearComplete _ => true
  | .recPointer r _ => r.wf
  | .recCntClear r _ => r.wf
  | .updBegin r _ => r.wf
  | .updData r _ _ _ _ => r.wf
  | .updStatus r => r.wf
  | .updAbort r => r.wf
  | .updConfirm r => r.wf
  | .updReject r _ => r.wf
  | .relayManifest _ => true
  | .relayBtable _ => true
  | .relayData _ => true
  | .relayResend _ => true
  | .relayReady _ => true
  | .relayPrepare _ => true
  | .relayVote _ => true
  | .relayState _ => true
  | .relayDecision _ => true
  | .relayResult _ => true
  | .chainSessionRetry _ _ _ => true
  | .verifyComplete _ _ => true
  | .prepareInstant _ => true
  | .voteDeadline _ => true
  | .stateSample _ => true
  | .decisionInstant _ => true
  | .activation _ _ => true
  | .lateActivation _ _ => true
  | .trialConfirm _ => true
  | .freezeN _ => true
  | .freeze r _ => r.wf
  | .freezeHoldExpiry _ _ => true
  | .thaw r => r.wf
  | .tapThaw _ => true
  | .tapReset _ _ => true
  | .tapIdcode => true
  | .tapSel _ => true
  | .tapChain => true
  | .tapMaddr _ => true
  | .tapMdata => true
  | .tapBypass => true
  | .tapTrst => true
  | .freezeSupplyFail _ _ => true
  | .updCntClear r _ => r.wf
  | .supplyConnect _ => true
  | .ignWakeChange _ _ => true
  | .holdUpExhausted => true
  | .clusterResetComplete _ _ _ => true
  | .dieConfigReloaded _ _ => true
  | .flowSample _ _ _ => true
  | .imuSample _ v _ => decide (v.length = 6)
  | .finEdge _ _ _ _ => true
  | .ptpAnnounce _ _ => true
  | .ptpMessageInterval _ => true
  | .frameTimeout _ _ => true
  | .dieHotClear _ _ _ => true
  | .shdnComparatorReset _ _ => true
  | .canIntegrationComplete _ _ => true
  | .pathConditionClear _ _ _ => true
  | .probeReply _ _ => true
  | .echoRequest _ _ _ v6 _ toward _ => addressFits v6 toward
  | .addressResolution _ _ _ v6 _ target => addressFits v6 target

end Sys2Proof
end

