-- ==== Sys2Proof/Safety.lean ====
section
/-! DEFINITION. What the statements about the module mean by a command that completes, a request that is ready to run, its reply, and
what a command leaves alone. -/

namespace Sys2Proof.Machine

/-- Command `c` on `s` completes: it answers a next state, and that state meets `P`. -/
def Completes (c : Instr) (s : State) (P : State → Prop) : Prop := ∃ t, exec c s = .next t ∧ P t

/-- The receipt of a request finds nothing that stops it (05 R137 to R139, 19 R477): NET runs, the message came in over the path in
use, its session is one of the eight and open, its SEQ is acceptable, and its ticket is neither remembered nor in flight. -/
def State.heard (s : State) (r : HostReq) : Bool :=
  s.netUp && !(s.standbyPath r) && !(s.hst.surplus.any fun k => k + 8 == r.sess) && decide (r.sess < 8)
    && (s.sess r.sess).isOpen && seqOk (s.sess r.sess) r.seq
    && ((s.sess r.sess).done.all fun d => !(d.ticket == r.ticket && d.ring == r.ring && decide (r.opt < d.opt + 2000000000)))
    && !(s.ticketFlies r.sess r.ticket)

/-- A request on a hardware ring is ready (05 R143 to R149): heard after its session's HELLO, on an open ring of its session with no
operation in flight, with a completion slot free, at a sufficient level, with the operation's feature agreed and a payload of
the operation's layout. -/
def State.ready (s : State) (r : HostReq) (level feature : Nat) : Bool :=
  s.heard r && (s.sess r.sess).hello && decide (r.ring < 256) && (rd s.hst.ring r.ring).isOpen
    && (rd s.hst.ring r.ring).sess == r.sess && (rd s.hst.ring r.ring).closing.isNone && decide (1 ≤ (rd s.hst.ring r.ring).limit)
    && (s.hst.ops.all fun f => f.req.ring != r.ring) && s.slotFree r.sess
    && decide (level ≤ (s.sess r.sess).level) && (s.sess r.sess).agreed.getLsbD feature && r.lenOk

/-- A request on the control channel is ready (05 R143): heard, none in flight there, with a payload of the operation's layout;
`hello` says whether the session's HELLO has been. -/
def State.ctrlReady (s : State) (r : HostReq) (hello : Bool) : Bool :=
  s.heard r && ((s.sess r.sess).hello == hello) && r.ring == controlRing && !(s.sess r.sess).control && r.lenOk

/-- The state in which a ready request's own checks run on a hardware ring: received and admitted. -/
def State.admitted (s : State) (r : HostReq) (op : Nat) : State :=
  let t := (s.begin r.opt).accept r
  let f : OpFlight := ⟨r, op, none, decide (t.guarantee ≤ t.sessFlight r.sess), false⟩
  { t with hst := { t.hst with ops := t.hst.ops ++ [f], highWater := max t.hst.highWater (t.hst.ops.length + 1) } }

/-- The step sent one message: the completion of `r` with the session's next SEQ (05 R136, R138). -/
def State.answers (s t : State) (r : HostReq) (op status : Nat) (payload : List Byte) : Prop :=
  t.out = [.completion r.sess r.ring r.ticket ((s.sess r.sess).txSeq + 1) op status false payload]

/-- The last message that the step sent is the completion of `r` with the session's next SEQ. -/
def State.answersLast (s t : State) (r : HostReq) (op status : Nat) (payload : List Byte) : Prop :=
  t.out.getLast? = some (.completion r.sess r.ring r.ticket ((s.sess r.sess).txSeq + 1) op status false payload)

/-- The step sent the completion of `r`; notices may have gone out with it, on its session too. -/
def State.replies (t : State) (r : HostReq) (op status : Nat) (payload : List Byte) : Prop :=
  ∃ q, .completion r.sess r.ring r.ticket q op status false payload ∈ t.out

/-- All that a request changes of the host block when its operation changes nothing there: the sequence numbers, the time of the last
message and the completions remembered of its own session, what host silence goes by, and the high-water mark (05 R134 to R139,
R145, R161). -/
def State.hostKeeps (s t : State) (r : HostReq) : Prop :=
  t.clk = { s.clk with opt := max s.clk.opt r.opt, past := t.clk.past } ∧
  t.hst = { s.hst with sess := t.hst.sess, heard := t.hst.heard, ever := t.hst.ever, tLast := t.hst.tLast,
                       tBefore := t.hst.tBefore, highWater := t.hst.highWater } ∧
  (∀ k, k ≠ r.sess → t.sess k = s.sess k) ∧
  t.sess r.sess = { s.sess r.sess with txSeq := (t.sess r.sess).txSeq, rxHigh := (t.sess r.sess).rxHigh,
                                       rxSeen := (t.sess r.sess).rxSeen, last := (t.sess r.sess).last,
                                       done := (t.sess r.sess).done }

/-- Loop command `cmd` of request `r` is admitted (08 R240): it waits in the list of slot `n` with its operation in flight; nothing is sent and
nothing else changes. -/
def State.loopQueued (s : State) (r : HostReq) (n cmd : Nat) (x : F32) (t : State) : Prop :=
  t = { s with clk := { s.clk with opt := max s.clk.opt r.opt, past := t.clk.past }, hst := t.hst, out := [],
               lop := { s.lop with slot := upd s.lop.slot n fun c => { c with cmds := c.cmds ++ [⟨cmd, x, r⟩] } } } ∧
  ∃ b, t.hst.ops = s.hst.ops ++ [⟨r, 0x0051, none, b, false⟩]

/-- Command `cmd` of request `r` for machine function `m` is admitted (09 R263): it waits for the next tick with its operation in flight;
nothing is sent and nothing else changes. -/
def State.mfQueued (s : State) (r : HostReq) (m cmd arg : Nat) (x : F32) (t : State) : Prop :=
  t = { s with clk := { s.clk with opt := max s.clk.opt r.opt, past := t.clk.past }, hst := t.hst, out := [],
               prf := { s.prf with mf := upd s.prf.mf m fun f => { f with cmds := f.cmds ++ [⟨cmd, arg, x, r⟩] } } } ∧
  ∃ b, t.hst.ops = s.hst.ops ++ [⟨r, 0x0050, none, b, false⟩]

/-- Member `b` of pair `p`, B where `b` holds, and how ACTIVE names it (19 R492). -/
def State.member (s : State) (p : Nat) (b : Bool) : Member := (s.pair p).mem b
def memberIx (b : Bool) : Nat := if b = true then 1 else 0

/-- Member `b` of pair `p` has met a condition (19 R478, R480): it is DOWN; another member's activity goes on, and its own goes to a READY
member, with the switch-over counted. -/
def State.fallen (s t : State) (p : Nat) (b : Bool) : Prop :=
  (t.member p b).health = .down ∧
  ((s.pair p).active ≠ memberIx b → (t.pair p).active = (s.pair p).active ∧ (t.pair p).faultCnt = (s.pair p).faultCnt) ∧
  ((s.pair p).active = memberIx b ∧ (s.member p b).health ≠ .down ∧ (s.member p (!b)).health = .ready →
    (t.pair p).active = memberIx (!b) ∧ (t.pair p).faultCnt = satInc (s.pair p).faultCnt ∧ (t.pair p).gapSince = none)

/-- Valve channel `n` has gone to FAULT with `code` (15 R409): no target, no current, no program, no request of its own in the budget; every other
channel is as it was. -/
def State.vlvGone (s t : State) (n : Nat) (code : Byte) : Prop :=
  (rd t.vlv.ch n).st = .fault ∧ (rd t.vlv.ch n).lastErr = code ∧ (rd t.vlv.ch n).tgt = 0 ∧ (rd t.vlv.ch n).iMeas = 0 ∧
  (rd t.vlv.ch n).active = false ∧ (rd t.vlv.ch n).boost = false ∧ (∀ q ∈ t.bud.reqs, q.src ≠ 40 + n) ∧
  ∀ k, k ≠ n → rd t.vlv.ch k = rd s.vlv.ch k

/-- Steering has switched off for reason `k` (12 R337): the function's reset target waits for its tick. -/
def State.steeredOff (s t : State) (k : Nat) : Prop :=
  t.str.st = .off ∧ t.str.reason = BitVec.ofNat 4 k ∧ t.str.pend = s.str.pend ++ [⟨s.clk.tick + 120, some (u8 s.img.guidance 4), none⟩]

/-- A message of the chain went to the subscribers of INSTANCE `inst` of UPDATE_RELAY (21 R523): here to a lone one, or to none. -/
def State.passedOn (s t : State) (inst : Nat) : Prop :=
  (∀ k, s.hst.subs = [k] ∧ k.stream = 6 ∧ k.inst = inst → t.hst.subs = [{ k with items := k.items + 1 }]) ∧
  ((∀ k ∈ s.hst.subs, k.stream ≠ 6) → t.hst = s.hst ∧ t.out = [])

/-- A list of keyed values in canonical form: its keys strictly rising. -/
abbrev Rising {α : Type} (l : List (Nat × α)) : Prop := (l.map Prod.fst).Pairwise (· < ·)

/-- What every step keeps: the keyed buffers in canonical form (03 R81, R82; 04 R117, R123; 18 R455), one snapshot for each group (03 R84),
the tick's number within its second (08 R213), and the slot's load as the sum of its bookings (02 R60). -/
def State.Kept (s : State) : Prop :=
  Rising s.grp.live ∧ Rising s.grp.shadow ∧ (s.grp.snaps.map Snap.group).Nodup ∧ Rising s.can.rx ∧ Rising s.can.setv ∧
  Rising s.prf.canMail ∧ Rising s.fmt ∧ s.clk.tickSec < 20000 ∧ s.bud.load = bookedLoad s.bud.bookings

end Sys2Proof.Machine
end

