-- ==== Sys2Proof/Certificates/Slice0/Obligations.lean ====
section
/-! DEFINITION. The statements about the module, for the provers. -/

open Sys2Proof Sys2Proof.Machine

/-- A step runs the command at the front of the queue (00_scope.md). For every command c and every state s, the step of s
with c in front of its queue is exec of c on s with the rest of the queue, and the step of a state with an empty queue
leaves the state as it is (the idle step is the model's own choice: log 1). -/
def Obligations.StepRunsTheFrontCommand : Prop :=
  (∀ (c : Instr) (s : State), step { s with pending := c :: s.pending } = exec c s) ∧
  (∀ s : State, s.pending = [] → step s = .next s)

/-- Every command answers a next state and leaves the rest of the queue alone (00_scope.md; 24_register_map.md). From
every state, reachable or not, every command answers a next state, never a fault and never a refusal, and the commands
still waiting after it are those that waited before it, in the same order. -/
def Obligations.EveryCommandCompletesAndLeavesTheQueue : Prop :=
  ∀ (c : Instr) (s : State), Completes c s fun t => t.pending = s.pending

/-- What reset leaves (R49; R54; R66; 05_ronrex_host.md; 24_register_map.md). Right after reset the supply state is OFF,
no output group is released, no session, ring or subscription is open, every region reads OFF, the start budget is
closed with no booking, no update is under way, nothing is sent and no command waits. The values of registers for
which the specification gives none are the model's choice (log 2) and are not stated here. -/
def Obligations.ResetValues : Prop :=
  State.reset.pwr.supply = .off ∧ State.reset.boot.released = 0 ∧
  (∀ k, (State.reset.sess k).isOpen = false) ∧ (∀ k, (rd State.reset.hst.ring k).isOpen = false) ∧ State.reset.hst.subs = [] ∧
  State.reset.hst.ops = [] ∧ (∀ n, State.reset.region n = .off) ∧ State.reset.bud.isOpen = false ∧
  State.reset.bud.bookings = [] ∧ State.reset.bud.reqs = [] ∧ State.reset.grp.snaps = [] ∧ State.reset.grp.live = [] ∧
  State.reset.grp.shadow = [] ∧ State.reset.clk.running = false ∧ State.reset.vis.en = 0 ∧ State.reset.can.en = 0 ∧
  State.reset.out = [] ∧ State.reset.pending = []

/-- The rows of the supply table that stay within power (R49; R51; R54; R55; R63). CRANK_ENTRY, CRANK_EXIT, OVERVOLT_ENTRY
and OVERVOLT_EXIT complete in every state. Where the row is the first of the state in force that holds, the supply
state, the crank timer, CRANKED or OVV, the crank counter and the admissions become what the table gives; otherwise
only OPT can have moved. Nothing outside the listed fields changes; notices go out to the recorder and the
subscriptions. -/
def Obligations.SupplyRows : Prop :=
  (∀ (s : State) (o : Opt), Completes (.crankEntry o) s fun t =>
    t = { s.begin o with
        pwr := t.pwr, bud := t.bud, hst := t.hst, rcd := t.rcd, nav := t.nav, free := t.free, out := t.out } ∧
    ((s.pwr.supply = .normal ∨ s.pwr.supply = .overvolt) ∧ s.vs < 6000 →
      t.pwr = { s.pwr with supply := .crank, crankTicks := 0, uvTicks := 0, okTicks := 0, cranked := true,
                           crankCnt := satInc s.pwr.crankCnt } ∧
      t.bud = { s.bud with isOpen := false, openNext := false } ∧ t.nav.whip = .normal) ∧
    (¬ ((s.pwr.supply = .normal ∨ s.pwr.supply = .overvolt) ∧ s.vs < 6000) → t = s.begin o)) ∧
  (∀ (s : State) (o : Opt), Completes (.crankExit o) s fun t =>
    t = { s.begin o with pwr := t.pwr, bud := t.bud } ∧
    (s.pwr.supply = .crank ∧ 200 < s.pwr.okTicks →
      t.pwr = { s.pwr with supply := .normal, crankTicks := 0, uvTicks := 0, okTicks := 0 } ∧
      t.bud = { s.bud with openNext := true }) ∧
    (¬ (s.pwr.supply = .crank ∧ 200 < s.pwr.okTicks) → t = s.begin o)) ∧
  (∀ (s : State) (o : Opt), Completes (.overvoltEntry o) s fun t =>
    t = { s.begin o with pwr := t.pwr, hst := t.hst, rcd := t.rcd, free := t.free, out := t.out } ∧
    (s.pwr.supply = .normal ∧ 36000 < s.vs → t.pwr = { s.pwr with supply := .overvolt, ovOkTicks := 0, ovv := true }) ∧
    (¬ (s.pwr.supply = .normal ∧ 36000 < s.vs) → t = s.begin o)) ∧
  (∀ (s : State) (o : Opt), Completes (.overvoltExit o) s fun t =>
    t = { s.begin o with pwr := t.pwr } ∧
    (s.pwr.supply = .overvolt ∧ 6000 ≤ s.vs ∧ 200 < s.pwr.ovOkTicks → t.pwr = { s.pwr with supply := .normal, ovOkTicks := 0 }) ∧
    (¬ (s.pwr.supply = .overvolt ∧ 6000 ≤ s.vs ∧ 200 < s.pwr.ovOkTicks) → t = s.begin o))

/-- The rows of the supply table that lead to SHUTDOWN and OFF (R49; R52; R54; R286). CRANK_UNDERVOLT, CRANK_TIMEOUT,
IGN_OFF_DELAY_EXPIRY and SHUTDOWN_COMPLETE complete in every state. In CRANK the reason UNDERVOLT comes before
CRANK_TIMEOUT; each row whose condition holds enters SHUTDOWN with its reason, turns WAKE_OUT off and leaves Whippet;
the end of the sequence writes the reason to flash and powers the logic down, keeping flash, firmware, settings and
stores. Where the state in force is another, only OPT can have moved. -/
def Obligations.ShutdownRows : Prop :=
  (∀ (s : State) (o : Opt), Completes (.crankUndervolt o) s fun t =>
    t = { s.begin o with
        pwr := t.pwr, bud := t.bud, wake := t.wake, store := t.store, hst := t.hst, rcd := t.rcd, psw := t.psw,
        vlv := t.vlv, col := t.col, flw := t.flw, lop := t.lop, nav := t.nav, yld := t.yld, fmt := t.fmt,
        free := t.free, out := t.out } ∧
    (s.pwr.supply = .crank ∧ s.pwr.okTicks ≤ 200 ∧ 2 ≤ s.pwr.uvTicks →
      t.pwr = { s.pwr with supply := .shutdown, shdnReason := 1 } ∧ t.wake.out = false ∧ t.nav.whip = .normal) ∧
    (s.pwr.supply ≠ .crank → t = s.begin o)) ∧
  (∀ (s : State) (o : Opt), Completes (.crankTimeout o) s fun t =>
    t = { s.begin o with
        pwr := t.pwr, bud := t.bud, wake := t.wake, store := t.store, hst := t.hst, rcd := t.rcd, psw := t.psw,
        vlv := t.vlv, col := t.col, flw := t.flw, lop := t.lop, nav := t.nav, yld := t.yld, fmt := t.fmt,
        free := t.free, out := t.out } ∧
    (s.pwr.supply = .crank ∧ s.pwr.okTicks ≤ 200 ∧ s.pwr.uvTicks < 2 ∧ 4000 ≤ s.pwr.crankTicks →
      t.pwr = { s.pwr with supply := .shutdown, shdnReason := 2 } ∧ t.wake.out = false ∧ t.nav.whip = .normal) ∧
    (s.pwr.supply = .crank ∧ 2 ≤ s.pwr.uvTicks → t = s.begin o) ∧
    (s.pwr.supply ≠ .crank → t = s.begin o)) ∧
  (∀ (s : State) (o : Opt), Completes (.ignOffDelayExpiry o) s fun t =>
    t = { s.begin o with
        pwr := t.pwr, bud := t.bud, wake := t.wake, store := t.store, hst := t.hst, rcd := t.rcd, psw := t.psw,
        vlv := t.vlv, col := t.col, flw := t.flw, lop := t.lop, nav := t.nav, yld := t.yld, fmt := t.fmt,
        free := t.free, out := t.out } ∧
    (∀ since, s.pwr.supply = .normal ∧ 6000 ≤ s.vs ∧ s.vs ≤ 36000 ∧ s.pwr.ignOffSince = some since ∧
        since + s.img.ignOffDelay ≤ o ∧ s.nav.whip = .normal ∧ s.img.holdS = 0 →
      t.pwr = { s.pwr with supply := .shutdown, shdnReason := 3 } ∧ t.wake.out = false) ∧
    (s.pwr.ignOffSince = none → t = s.begin o)) ∧
  (∀ (s : State) (o : Opt), Completes (.shutdownComplete o) s fun t =>
    (s.pwr.supply = .shutdown →
      t.pwr.supply = .off ∧ t.flash = { s.flash with shdn := .reason s.pwr.shdnReason } ∧ t.bootRec = s.bootRec ∧
      t.journal = s.journal ∧ t.fw = s.fw ∧ t.setSlots = s.setSlots ∧ t.store = s.store ∧ t.tim.epoch = s.tim.epoch ∧
      t.boot.released = 0 ∧ t.clk = State.reset.clk ∧ t.out = [] ∧ t.pending = s.pending) ∧
    (s.pwr.supply ≠ .shutdown → t = s.begin o))

/-- The supply monitor, the hold-up store and SVC_EN (R47; R48; R54; R70). SUPPLY_CONNECT, IGN_WAKE_CHANGE,
HOLD_UP_TAKEOVER, HOLD_UP_EXHAUSTED and SVC_EN_CHANGE complete in every state. A measurement is kept, and IGN and WAKE
follow it with the hysteresis of 5.0 V and 3.0 V; the store takes over when the higher of VLOG and VBAT falls below
3.0 V; when it is exhausted, which a store that was full is not before 120 ms, the logic powers down with the reason
in flash as it stood; the strap of SVC_EN is read in every state but OFF. -/
def Obligations.SupplyMonitor : Prop :=
  (∀ (s : State) (m : SupplyIn), Completes (.supplyConnect m) s fun t =>
    t = { s.start with pwr := t.pwr, nav := t.nav } ∧
    (s.pwr.supply = .off → t.pwr.mon = m ∧ t.pwr.supply = .off ∧
      t.pwr.ign = (if 5000 < m.ign then true else if m.ign < 3000 then false else s.pwr.ign) ∧
      t.pwr.wake = (if 5000 < m.wake then true else if m.wake < 3000 then false else s.pwr.wake)) ∧
    (s.pwr.supply ≠ .off → t = s.start)) ∧
  (∀ (s : State) (o : Opt) (m : SupplyIn), Completes (.ignWakeChange o m) s fun t =>
    t = { s.begin o with pwr := t.pwr, nav := t.nav } ∧
    (s.pwr.supply ≠ .off → t.pwr.mon = m ∧ t.pwr.supply = s.pwr.supply ∧
      t.pwr.ign = (if 5000 < m.ign then true else if m.ign < 3000 then false else s.pwr.ign) ∧
      t.pwr.wake = (if 5000 < m.wake then true else if m.wake < 3000 then false else s.pwr.wake)) ∧
    (s.pwr.supply = .off → t = s.begin o)) ∧
  (∀ (s : State) (o : Opt) (m : SupplyIn), Completes (.holdUpTakeover o m) s fun t =>
    t = { s.begin o with pwr := t.pwr, nav := t.nav } ∧ t.pwr.mon = m ∧ t.pwr.supply = s.pwr.supply ∧
    (s.pwr.supply ≠ .off ∧ max m.vlog (max (max m.vb1 m.vb2) (max m.vb3 m.vb4)) < 3000 →
      t.pwr.holdUp = some (s.pwr.holdUp.getD (max s.clk.opt o)))) ∧
  (∀ (s : State), Completes .holdUpExhausted s fun t =>
    (∀ u, s.pwr.holdUp = some u ∧ (s.storeWasFull u = false ∨ u + 120000000 ≤ s.clk.opt) →
      t.pwr.supply = .off ∧ t.flash = s.flash ∧ t.bootRec = s.bootRec ∧ t.fw = s.fw ∧
      t.setSlots = s.setSlots ∧ t.store = s.store ∧ t.boot.released = 0 ∧ t.pending = s.pending) ∧
    (∀ u, s.pwr.holdUp = some u ∧ s.storeWasFull u = true ∧ s.clk.opt < u + 120000000 → t = s.start) ∧
    (s.pwr.holdUp = none → t = s.start)) ∧
  (∀ (s : State) (o : Opt) (b : Bool), Completes (.svcEnChange o b) s fun t =>
    t = { s.begin o with boot := t.boot } ∧
    (s.pwr.supply ≠ .off → t.boot = { s.boot with svcEn := b }) ∧ (s.pwr.supply = .off → t = s.begin o))

/-- Power-up begins, is retried, is given up and completes (R49; R54; R67; R69; R27). IGN_ON, POWERUP_RETRY,
POWERUP_UNDERVOLT and POWERUP_COMPLETE complete in every state. From OFF, with IGN above 5.0 V, VS at 6.5 V or more
and 50 ms since the last entry into OFF, the supply state is POWERUP, with the firmware slots and stores as they were;
VS below 6.0 V in POWERUP, at 200 measurements in a row and at this one, leads back to OFF with flash as it stands;
the completed sequence makes the state NORMAL and, with an image, puts every region in RUN and starts the tick. Where
the condition does not hold nothing but OPT moves. -/
def Obligations.PowerUpStarts : Prop :=
  (∀ (s : State) (p : PowerIn), Completes (.ignOn p) s fun t =>
    (s.pwr.supply = .off ∧ 5000 < p.m.ign ∧ 6500 ≤ min (min p.m.vb1 p.m.vb2) (min p.m.vb3 p.m.vb4) ∧ 50000000 ≤ p.sinceOff →
      t.pwr.supply = .powerup ∧ t.boot.released = 0 ∧ t.fw = s.fw ∧ t.store = s.store ∧ t.pending = s.pending) ∧
    (s.pwr.supply ≠ .off ∨ p.sinceOff < 50000000 → t = s.start)) ∧
  (∀ (s : State) (p : PowerIn), Completes (.powerupRetry p) s fun t =>
    (s.pwr.supply = .powerup ∧ s.boot.failed2.isSome = true →
      t.pwr.supply = .powerup ∧ t.boot.released = 0 ∧ t.fw = s.fw ∧ t.store = s.store ∧ t.pending = s.pending) ∧
    (s.boot.failed2 = none → t = s.start)) ∧
  (∀ (s : State) (o : Opt) (m : SupplyIn), Completes (.powerupUndervolt o m) s fun t =>
    (s.pwr.supply = .powerup ∧ (∀ d, s.runs (6 + d) = false) ∧ 200 ≤ s.pwr.uvTicks ∧ min (min m.vb1 m.vb2) (min m.vb3 m.vb4) < 6000 →
      t.pwr.supply = .off ∧ t.flash = s.flash ∧ t.journal = s.journal ∧ t.setSlots = s.setSlots ∧ t.store = s.store ∧
      t.pending = s.pending) ∧
    (s.pwr.supply ≠ .powerup → t.pwr.supply = s.pwr.supply ∧ t.boot = s.boot ∧ t.flash = s.flash)) ∧
  (∀ (s : State) (o : Opt), Completes (.powerupComplete o) s fun t =>
    t = { s.begin o with
        clk := t.clk, pwr := t.pwr, regions := t.regions, bud := t.bud, wake := t.wake, boot := t.boot,
        store := t.store, sm := t.sm, hst := t.hst, rcd := t.rcd, psw := t.psw, vlv := t.vlv, col := t.col,
        sns := t.sns, flw := t.flw, lop := t.lop, prf := t.prf, nav := t.nav, tim := t.tim, str := t.str,
        yld := t.yld, vis := t.vis, can := t.can, eth := t.eth, updt := t.updt, free := t.free, out := t.out } ∧
    (s.pwr.supply = .powerup ∧ s.boot.failed2 = none →
      t.pwr = { s.pwr with supply := .normal } ∧ t.bud.openNext = true ∧
      (s.boot.noImage = false → t.clk.running = true ∧ ∀ n, n < 10 → t.region n = .run) ∧
      (s.boot.noImage = true → t.region rSVC = .run ∧ t.region rNET = .run ∧ t.region rCTL = .off ∧ t.region rSNS = .off ∧
        t.region rVIS = .off ∧ t.region rNAV = .off ∧ t.region 6 = .boot)) ∧
    (s.pwr.supply ≠ .powerup → t = s.begin o))

/-- Memory errors and window violations (R20; R21; R27). MEMORY_CORRECTABLE, MEMORY_UNCORRECTABLE and WINDOW_VIOLATION
complete in every state. A corrected error sets the region's ECC_CE alone. An uncorrectable one sets ECC_UE of the
region; in a word of no unit the region enters FAULT, which brings the orderly shutdown with reason UNCORRECTABLE
where the region is CTL, SNS or a power region, and elsewhere marks the dependent outputs invalid. A write outside its
window puts the writing unit in FAULT with LAST_ERR 0xF0, here stated for the loss channels, camera ports, CAN
controllers and Ethernet ports, each without touching any other unit of its kind. Where the region does not run only
OPT can move. -/
def Obligations.MemoryAndWindowFaults : Prop :=
  (∀ (s : State) (o : Opt) (n : Fin 10), Completes (.memoryCorrectable o n) s fun t =>
    t = { s.begin o with regions := t.regions } ∧
    (s.runs n.val = true → t.regions = upd s.regions n.val fun x => { x with eccCe := true }) ∧
    (s.runs n.val = false → t = s.begin o)) ∧
  (∀ (s : State) (o : Opt) (w : MemOwner), Completes (.memoryUncorrectable o w) s fun t =>
    t = { s.begin o with
        pwr := t.pwr, regions := t.regions, bud := t.bud, wake := t.wake, boot := t.boot, store := t.store,
        hst := t.hst, rcd := t.rcd, psw := t.psw, vlv := t.vlv, col := t.col, flw := t.flw, lop := t.lop,
        nav := t.nav, yld := t.yld, vis := t.vis, can := t.can, eth := t.eth, updt := t.updt, fmt := t.fmt,
        free := t.free, out := t.out } ∧
    (∀ u, w = .unit u ∧ s.runs u.region = true → t.regions = upd s.regions u.region fun x => { x with eccUe := true }) ∧
    (∀ (n : Fin 10) (l : List Nat), w = .region n l ∧ s.runs n.val = true →
      t.regions = upd s.regions n.val (fun x => { x with eccUe := true, st := .fault }) ∧
      ((n.val = 1 ∨ n.val = 2 ∨ 6 ≤ n.val) ∧ s.pwr.supply ≠ .off ∧ s.pwr.supply ≠ .shutdown →
        t.pwr = { s.pwr with supply := .shutdown, shdnReason := 5 } ∧ t.boot = s.boot) ∧
      (n.val = 0 ∨ n.val = 3 ∨ n.val = 4 ∨ n.val = 5 → t.pwr = s.pwr ∧ t.boot = { s.boot with bad := s.boot.bad ++ l }))) ∧
  (∀ (s : State) (o : Opt) (u : UnitRef), Completes (.windowViolation o u) s fun t =>
    t = { s.begin o with
        bud := t.bud, wake := t.wake, boot := t.boot, hst := t.hst, rcd := t.rcd, psw := t.psw, vlv := t.vlv,
        col := t.col, flw := t.flw, lop := t.lop, nav := t.nav, vis := t.vis, can := t.can, eth := t.eth,
        free := t.free, out := t.out } ∧
    (s.runs u.region = false → t = s.begin o) ∧
    (∀ n : Fin 16, u = .loss n ∧ s.runs rSNS = true → t.flw = { s.flw with ls := upd s.flw.ls n.val fun x =>
      { x with fault := true, lastErr := 0xF0, whole := false, counting := false, inState := none } }) ∧
    (∀ n : Fin 6, u = .cam n ∧ s.runs rVIS = true → (rd t.vis.cam n.val).fault = true ∧ (rd t.vis.cam n.val).lastErr = 0xF0 ∧
      (∀ k, k ≠ n.val → rd t.vis.cam k = rd s.vis.cam k)) ∧
    (∀ n : Fin 8, u = .can n ∧ s.runs rNET = true → t.can = { s.can with ch := upd s.can.ch n.val fun c =>
      { c with fault := true, lastErr := 0xF0, sending := none } }) ∧
    (∀ n : Fin 7, u = .eth n ∧ s.runs rNET = true → t.eth = { s.eth with port := upd s.eth.port n.val fun x =>
      { x with fault := true, lastErr := 0xF0 } }))

/-- What a power die does on its own logic (R26; R28; R29; R424; R571). LINK_WATCHDOG_EXPIRY, DIE_OVERTEMP,
DIE_TEMP_RECOVERED, DIE_SUPERVISOR_RESET, DIE_CONFIG_RELOADED, DIE_HOT and DIE_HOT_CLEAR complete in every state. An
armed watchdog whose time is over holds the die safe until it is armed again; 150 °C on a power die sets its limit,
which holds its channels until a command frame after its end, and is reported; 125 °C on D0 to D2 brings the orderly
shutdown with reason DIE_OVERTEMP; 130 °C or less ends the limit and DIE_HOT; a supervisor reset makes the region
SUPERVISOR RESET with the watchdog not armed, until its configuration is reloaded and the region runs. -/
def Obligations.DieEvents : Prop :=
  (∀ (s : State) (o : Opt) (d : Fin 4), Completes (.linkWatchdogExpiry o d) s fun t =>
    t = { s.begin o with
        bud := t.bud, wake := t.wake, hst := t.hst, rcd := t.rcd, die := t.die, psw := t.psw, vlv := t.vlv,
        col := t.col, free := t.free, out := t.out } ∧
    ((rd s.die d.val).armed = true ∧ s.region (6 + d.val) = .run ∧ (rd s.die d.val).lastFrame + s.img.watchdog d.val * 50000 ≤ o →
      t.die = upd s.die d.val fun x => { x with linkSafe := true, armed := false }) ∧
    ((rd s.die d.val).armed = false → t = s.begin o)) ∧
  (∀ (s : State) (o : Opt) (d : Fin 7) (temp : Int), Completes (.dieOvertemp o d temp) s fun t =>
    t = { s.begin o with
        pwr := t.pwr, bud := t.bud, wake := t.wake, store := t.store, hst := t.hst, rcd := t.rcd, die := t.die,
        psw := t.psw, vlv := t.vlv, col := t.col, flw := t.flw, lop := t.lop, nav := t.nav, yld := t.yld,
        fmt := t.fmt, free := t.free, out := t.out } ∧
    (s.pwr.supply = .off → t = s.begin o) ∧
    (d.val < 3 ∧ temp < 125 → t = s.begin o) ∧
    (d.val < 3 ∧ 125 ≤ temp ∧ s.pwr.supply ≠ .off ∧ s.pwr.supply ≠ .shutdown →
      t.pwr = { s.pwr with supply := .shutdown, shdnReason := 4 } ∧ t.die = s.die) ∧
    (3 ≤ d.val ∧ 150 ≤ temp ∧ s.pwr.supply ≠ .off ∧ s.region (6 + (d.val - 3)) ≠ .off →
      t.die = upd s.die (d.val - 3) (fun x => { x with dieT := temp, overTemp := true, tempHold := true }) ∧ t.pwr = s.pwr ∧
      .dieOvertemp (d.val - 3) ∈ t.out)) ∧
  (∀ (s : State) (o : Opt) (d : Fin 4) (temp : Int), Completes (.dieTempRecovered o d temp) s fun t =>
    t = { s.begin o with die := t.die } ∧
    (temp ≤ 130 → rd t.die d.val = { rd s.die d.val with dieT := temp, overTemp := false }) ∧
    (130 < temp → rd t.die d.val = { rd s.die d.val with dieT := temp }) ∧ (∀ k, k ≠ d.val → rd t.die k = rd s.die k)) ∧
  (∀ (s : State) (o : Opt) (d : Fin 4), Completes (.dieSupervisorReset o d) s fun t =>
    t = { s.begin o with
        pwr := t.pwr, regions := t.regions, bud := t.bud, wake := t.wake, hst := t.hst, rcd := t.rcd, die := t.die,
        psw := t.psw, vlv := t.vlv, col := t.col, free := t.free, out := t.out } ∧
    (s.region (6 + d.val) ≠ .off ∧ s.region (6 + d.val) ≠ .boot → t.region (6 + d.val) = .supervisor ∧
      rd t.die d.val = { rd s.die d.val with armed := false, linkSafe := false, loading := true, vHist := [] }) ∧
    (s.region (6 + d.val) = .off ∨ s.region (6 + d.val) = .boot → t = s.begin o)) ∧
  (∀ (s : State) (o : Opt) (d : Fin 4), Completes (.dieConfigReloaded o d) s fun t =>
    t = { s.begin o with regions := t.regions, die := t.die } ∧
    (s.region (6 + d.val) = .supervisor → t.region (6 + d.val) = .run ∧ rd t.die d.val = { rd s.die d.val with loading := false }) ∧
    (s.region (6 + d.val) ≠ .supervisor → t = s.begin o)) ∧
  (∀ (s : State) (o : Opt) (d : Fin 4) (temp : Int) (tj : List Int), Completes (.dieHot o d temp tj) s fun t =>
    t = { s.begin o with bud := t.bud, die := t.die, psw := t.psw } ∧
    (135 ≤ temp → rd t.die d.val = { rd s.die d.val with dieT := temp, dieHot := true }) ∧
    (temp < 135 → rd t.die d.val = { rd s.die d.val with dieT := temp } ∧ t.psw = s.psw)) ∧
  (∀ (s : State) (o : Opt) (d : Fin 4) (temp : Int), Completes (.dieHotClear o d temp) s fun t =>
    t = { s.begin o with die := t.die } ∧
    (temp ≤ 130 → rd t.die d.val = { rd s.die d.val with dieT := temp, dieHot := false }) ∧
    (130 < temp → rd t.die d.val = { rd s.die d.val with dieT := temp }) ∧ (∀ k, k ≠ d.val → rd t.die k = rd s.die k))

/-- After a watchdog expiry every switch channel of the die is in its safe state (R28; R33; R426). Where an armed link
watchdog of a running die expires, every used switch channel of that die that is not in a freeze state is in its safe
state afterwards, whatever D0 does. -/
def Obligations.WatchdogSafeStates : Prop :=
  ∀ (s : State) (o : Opt) (d : Fin 4), (rd s.die d.val).armed = true → s.region (6 + d.val) = .run →
    (rd s.die d.val).lastFrame + s.img.watchdog d.val * 50000 ≤ o →
    Completes (.linkWatchdogExpiry o d) s fun t => ∀ n, n ∈ diePsw d.val → s.pswUsed n = true → (rd s.psw.ch n).frz = .none →
      (rd t.psw.ch n).safe = true

/-- The frames of a power link, and the end of a cluster reset (R22; R28; R32; R47; R25). POWER_LINK_COMMAND_FRAME,
POWER_LINK_STATUS_FRAME and CLUSTER_RESET_COMPLETE complete in every state, CLUSTER_RESET in every state ready for it
at SERVICE whose check of the value finds nothing. A command frame that reaches a die in RUN or FROZEN while CTL runs
arms its watchdog, ends the safe states of an expiry, and leaves the region in RUN. A status frame of a die that runs
brings its VBAT sample, its temperature and its last 20 samples, unless CTL is frozen. A cluster reset is listed as in
progress, withdraws the snapshots of its groups and starts the valves of its cluster afresh but for their counters and
ERR; a completed one is no longer listed. -/
def Obligations.PowerLinkFrames : Prop :=
  (∀ (s : State) (d : Fin 4), Completes (.powerLinkCommandFrame d) s fun t =>
    t = { s.start with
        regions := t.regions, bud := t.bud, wake := t.wake, hst := t.hst, rcd := t.rcd, die := t.die, psw := t.psw,
        vlv := t.vlv, col := t.col, free := t.free, out := t.out } ∧
    (s.clk.running = true ∧ s.region rCTL = .run ∧ s.pwr.supply ≠ .off ∧ s.pwr.supply ≠ .powerup ∧
        (s.region (6 + d.val) = .run ∨ s.region (6 + d.val) = .frozen) →
      rd t.die d.val = { rd s.die d.val with armed := true, lastFrame := s.clk.opt, linkSafe := false,
                                                  tempHold := (rd s.die d.val).overTemp } ∧
      t.region (6 + d.val) = .run) ∧
    (s.clk.running = false ∨ s.region rCTL ≠ .run → t = s.start)) ∧
  (∀ (s : State) (d : Fin 4) (f : DieStatus), Completes (.powerLinkStatusFrame d f) s fun t =>
    t = { s.start with
        pwr := t.pwr, hst := t.hst, rcd := t.rcd, die := t.die, psw := t.psw, vlv := t.vlv, col := t.col,
        free := t.free, out := t.out } ∧
    (s.runs (6 + d.val) = true ∧ s.region rCTL ≠ .frozen →
      t.pwr = { s.pwr with die := put s.pwr.die d.val (some f.vbat) } ∧
      rd t.die d.val = { rd s.die d.val with dieT := f.temp, vHist := (f.vbat :: (rd s.die d.val).vHist).take 20 }) ∧
    (s.runs (6 + d.val) = false ∨ s.region rCTL = .frozen → t = s.start)) ∧
  (∀ (s : State) (o : Opt) (n : Fin 10) (c : Byte), Completes (.clusterResetComplete o n c) s fun t =>
    t = { s.begin o with clRst := t.clRst } ∧
    (s.inReset n.val c.toNat = true → t.clRst = s.clRst.filter (fun p => p != (n.val, c.toNat)) ∧ t.inReset n.val c.toNat = false) ∧
    (s.inReset n.val c.toNat = false → t = s.begin o)) ∧
  (∀ (s : State) (r : HostReq) (v : Word), s.ready r (writeLevel [0x140]) 0 = true → s.blockShut 0 = false → v &&& 0xFFFFF000 = 0 →
        2 ≤ (s.sess r.sess).level ∧ s.clusterCheck v = none →
      Completes (.clusterReset r v) s fun t => t.replies r 0x0011 stOK [] ∧ t.clk = { s.clk with opt := max s.clk.opt r.opt, past := t.clk.past } ∧
        t = { s with clk := t.clk, hst := t.hst, out := t.out, clRst := s.clRst ++ [(v.toNat / 256 % 16, v.toNat % 256)], grp := t.grp, psw := t.psw, vlv := t.vlv, col := t.col, flw := t.flw,
                     lop := t.lop, prf := t.prf, nav := t.nav, vis := t.vis, can := t.can, eth := t.eth } ∧
        t.grp = { s.grp with
          snaps := s.grp.snaps.filter fun q => !((clusterGroups (v.toNat / 256 % 16) (v.toNat % 256)).contains q.group) } ∧
        (∀ n, n < 48 → 6 ≤ v.toNat / 256 % 16 ∧ v.toNat % 256 = n / 6 % 2 ∧ v.toNat / 256 % 16 = 6 + n / 12 →
          rd t.vlv.ch n = { VlvCh.reset with
            err := (rd s.vlv.ch n).err, safe := (rd s.vlv.ch n).safe, tgt := (rd s.vlv.ch n).tgt, legApp := (rd s.vlv.ch n).legApp,
            shortCnt := (rd s.vlv.ch n).shortCnt, openCnt := (rd s.vlv.ch n).openCnt, refuseCnt := (rd s.vlv.ch n).refuseCnt,
            cutCnt := (rd s.vlv.ch n).cutCnt, regCnt := (rd s.vlv.ch n).regCnt, want := (rd s.vlv.ch n).want,
            cmd := (rd s.vlv.ch n).cmd }))

/-- The phase table of a switch channel (R418; R419; R420; R421; R423; R424). INRUSH_END, PSW_SHORT_TRIP,
PSW_OVERLOAD_TRIP, PSW_RETRY_EXPIRY, PSW_RETRY_RESET, PSW_OPEN_LOAD and PSW_OPEN_CLEAR complete in every state for
every channel. Under the row's condition the phase, the flags, RETRIES, the counters and LAST_ERR become what the
table gives; a trip beyond RETRY_N leads to FAULT. Otherwise nothing but OPT moves, and no other channel changes. -/
def Obligations.SwitchChannelEvents : Prop :=
  (∀ (s : State) (o : Opt) (n : Fin 40), Completes (.inrushEnd o n) s fun t =>
    t = { s.begin o with psw := t.psw } ∧
    ((rd s.psw.ch n.val).phase = .inrush ∧ (rd s.psw.ch n.val).inrushEnd ≤ o →
      t.psw = { s.psw with ch := upd s.psw.ch n.val fun c => { c with phase := .on, onSince := o } }) ∧
    ((rd s.psw.ch n.val).phase ≠ .inrush → t = s.begin o)) ∧
  (∀ (s : State) (o : Opt) (n : Fin 40), Completes (.pswShortTrip o n) s fun t =>
    t = { s.begin o with bud := t.bud, hst := t.hst, rcd := t.rcd, psw := t.psw, free := t.free, out := t.out } ∧
    (((rd s.psw.ch n.val).phase = .inrush ∨ (rd s.psw.ch n.val).phase = .on) →
      (rd t.psw.ch n.val).tripCnt = satInc (rd s.psw.ch n.val).tripCnt ∧ (rd t.psw.ch n.val).lastErr = 0x01 ∧
      (rd t.psw.ch n.val).err = true ∧
      ((rd s.psw.ch n.val).safe = false →
        (rd t.psw.ch n.val).retries = satInc (rd s.psw.ch n.val).retries ∧
        (rd t.psw.ch n.val).phase = (if s.pswRetryN n.val < (rd s.psw.ch n.val).retries.toNat + 1 then .fault else .tripped))) ∧
    ((rd s.psw.ch n.val).phase ≠ .inrush ∧ (rd s.psw.ch n.val).phase ≠ .on → t = s.begin o) ∧
    (∀ k, k ≠ n.val → rd t.psw.ch k = rd s.psw.ch k)) ∧
  (∀ (s : State) (o : Opt) (n : Fin 40), Completes (.pswOverloadTrip o n) s fun t =>
    t = { s.begin o with bud := t.bud, hst := t.hst, rcd := t.rcd, psw := t.psw, free := t.free, out := t.out } ∧
    ((rd s.psw.ch n.val).phase = .on →
      (rd t.psw.ch n.val).tripCnt = satInc (rd s.psw.ch n.val).tripCnt ∧ (rd t.psw.ch n.val).lastErr = 0x02 ∧
      (rd t.psw.ch n.val).err = true ∧
      ((rd s.psw.ch n.val).safe = false →
        (rd t.psw.ch n.val).retries = satInc (rd s.psw.ch n.val).retries ∧
        (rd t.psw.ch n.val).phase = (if s.pswRetryN n.val < (rd s.psw.ch n.val).retries.toNat + 1 then .fault else .tripped))) ∧
    ((rd s.psw.ch n.val).phase ≠ .on → t = s.begin o) ∧
    (∀ k, k ≠ n.val → rd t.psw.ch k = rd s.psw.ch k)) ∧
  (∀ (s : State) (o : Opt) (n : Fin 40), Completes (.pswRetryExpiry o n) s fun t =>
    t = { s.begin o with
        bud := t.bud, wake := t.wake, hst := t.hst, rcd := t.rcd, psw := t.psw, vlv := t.vlv, col := t.col,
        free := t.free, out := t.out } ∧
    (∀ e, (rd s.psw.ch n.val).phase = .tripped ∧ (rd s.psw.ch n.val).retryEnd = some e ∧ e ≤ o ∧ s.pswEff n.val ≠ 0 ∧
        s.pwr.supply ≠ .shutdown → (rd t.psw.ch n.val).phase = .wait ∧ (rd t.psw.ch n.val).retryEnd = none ∧
        ∃ q ∈ t.bud.reqs, q.src = n.val) ∧
    ((rd s.psw.ch n.val).phase ≠ .tripped → t = s.begin o)) ∧
  (∀ (s : State) (o : Opt) (n : Fin 40), Completes (.pswRetryReset o n) s fun t =>
    t = { s.begin o with psw := t.psw } ∧
    ((rd s.psw.ch n.val).phase = .on ∧ (rd s.psw.ch n.val).onSince + u16 (s.pswRec n.val) 22 * 1000000000 ≤ o →
      t.psw = { s.psw with ch := upd s.psw.ch n.val fun c => { c with retries := 0 } }) ∧
    ((rd s.psw.ch n.val).phase ≠ .on → t = s.begin o)) ∧
  (∀ (s : State) (o : Opt) (n : Fin 40), Completes (.pswOpenLoad o n) s fun t =>
    t = { s.begin o with psw := t.psw } ∧
    ((rd s.psw.ch n.val).phase = .on ∧ (rd s.psw.ch n.val).openLoad = false ∧ u16 (s.pswRec n.val) 10 ≠ 0 ∧ s.pwr.supply ≠ .crank →
      t.psw = { s.psw with ch := upd s.psw.ch n.val fun c =>
        { c with openLoad := true, openCnt := satInc c.openCnt, err := true, lastErr := 0x06 } }) ∧
    (s.pwr.supply = .crank ∨ (rd s.psw.ch n.val).phase ≠ .on → t = s.begin o)) ∧
  (∀ (s : State) (o : Opt) (n : Fin 40), Completes (.pswOpenClear o n) s fun t =>
    t = { s.begin o with psw := t.psw } ∧
    ((rd s.psw.ch n.val).phase = .on → t.psw = { s.psw with ch := upd s.psw.ch n.val fun c => { c with openLoad := false } }) ∧
    ((rd s.psw.ch n.val).phase ≠ .on → t = s.begin o))

/-- Clamp overload, thermal latch, refusal retry and safe-state turn-on of switch channels (R57; R61; R418; R420; R421;
R423; R424; R426). PSW_CLAMP_OVERLOAD, THERMAL_LATCH, LATCH_RELEASE, PSW_REFUSE_RETRY and SAFE_STATE_TURN_ON complete
in every state. A clamp overload puts a used channel in FAULT with LAST_ERR 0x03 and RETRIES unchanged; at 170 °C the
latch of a used channel sets with LAST_ERR 0x04 and is counted once; at or below TJ_REL a cleared latch is released; a
refused channel whose time is over waits with a request again; a die turns on at most one safe-state channel per 2 ms. -/
def Obligations.SwitchChannelLatchEvents : Prop :=
  (∀ (s : State) (o : Opt) (n : Fin 40), Completes (.pswClampOverload o n) s fun t =>
    t = { s.begin o with bud := t.bud, hst := t.hst, rcd := t.rcd, psw := t.psw, free := t.free, out := t.out } ∧
    (s.pswUsed n.val = true → rd t.psw.ch n.val =
      { rd s.psw.ch n.val with phase := .fault, lastErr := 0x03, retryEnd := none, retryLeft := none }) ∧
    (s.pswUsed n.val = false → t = s.begin o) ∧ (∀ k, k ≠ n.val → rd t.psw.ch k = rd s.psw.ch k)) ∧
  (∀ (s : State) (o : Opt) (n : Fin 40) (tj : Int), Completes (.thermalLatch o n tj) s fun t =>
    t = { s.begin o with bud := t.bud, psw := t.psw } ∧
    (1700 ≤ tj ∧ s.pswUsed n.val = true ∧ (rd s.psw.ch n.val).latch = false →
      (rd t.psw.ch n.val).latch = true ∧ (rd t.psw.ch n.val).lastErr = 0x04 ∧ (rd t.psw.ch n.val).clrPend = false ∧
      (rd t.psw.ch n.val).latchCnt = satInc (rd s.psw.ch n.val).latchCnt ∧
      ((rd s.psw.ch n.val).enF = true ∧ (rd s.psw.ch n.val).phase ≠ .fault → (rd t.psw.ch n.val).phase = .latched)) ∧
    ((rd s.psw.ch n.val).latch = true → rd t.psw.ch n.val = { rd s.psw.ch n.val with tj := tj }) ∧
    (∀ k, k ≠ n.val → rd t.psw.ch k = rd s.psw.ch k)) ∧
  (∀ (s : State) (o : Opt) (n : Fin 40) (tj : Int), Completes (.latchRelease o n tj) s fun t =>
    t = { s.begin o with
        bud := t.bud, wake := t.wake, hst := t.hst, rcd := t.rcd, psw := t.psw, vlv := t.vlv, col := t.col,
        free := t.free, out := t.out } ∧
    ((rd s.psw.ch n.val).latch = true ∧ (rd s.psw.ch n.val).clrPend = true ∧ tj ≤ 10 * (u8 (s.pswRec n.val) 19 : Int) ∧
        (rd s.psw.ch n.val).phase ≠ .latched →
      rd t.psw.ch n.val = { rd s.psw.ch n.val with tj := tj, latch := false, clrPend := false }) ∧
    (10 * (u8 (s.pswRec n.val) 19 : Int) < tj → rd t.psw.ch n.val = { rd s.psw.ch n.val with tj := tj })) ∧
  (∀ (s : State) (o : Opt) (n : Fin 40), Completes (.pswRefuseRetry o n) s fun t =>
    t = { s.begin o with
        bud := t.bud, wake := t.wake, hst := t.hst, rcd := t.rcd, psw := t.psw, vlv := t.vlv, col := t.col,
        free := t.free, out := t.out } ∧
    ((rd s.psw.ch n.val).phase = .refused ∧ u16 (s.pswRec n.val) 28 ≠ 0 ∧
        (rd s.psw.ch n.val).refusedSince + u16 (s.pswRec n.val) 28 * 1000000 ≤ o ∧ s.pswEff n.val ≠ 0 ∧ s.pwr.supply ≠ .shutdown →
      (rd t.psw.ch n.val).phase = .wait ∧ ∃ q ∈ t.bud.reqs, q.src = n.val) ∧
    (u16 (s.pswRec n.val) 28 = 0 ∨ (rd s.psw.ch n.val).phase ≠ .refused → t = s.begin o)) ∧
  (∀ (s : State) (o : Opt) (d : Fin 4), Completes (.safeStateTurnOn o d) s fun t =>
    t = { s.begin o with die := t.die, psw := t.psw } ∧
    (∀ n, s.dieOwn d.val = true ∧ (rd s.die d.val).safeTurnOn + 2000000 ≤ o ∧
        (diePsw d.val).find? (fun n => (rd s.psw.ch n).enF && (rd s.psw.ch n).safe && (rd s.psw.ch n).phase == .idle &&
          !(rd s.psw.ch n).latch && s.pswSafeDuty n != 0 && s.pswUsed n && (rd s.psw.ch n).frz == .none) = some n →
      (rd t.psw.ch n).phase = .inrush ∧ (rd t.psw.ch n).inrushEnd = o + s.pswInrush n ∧ (rd t.die d.val).safeTurnOn = o) ∧
    (o < (rd s.die d.val).safeTurnOn + 2000000 → t = s.begin o))

/-- The admission pass and the wake output (R56; R59; R61; R64; R66). ADMISSION_PASS, WAKE_OUT_TRIP and WAKE_CMD complete.
Where admissions are closed, or the pass of the latest slot boundary has run, nothing changes. A pass admits a lone
request raised before the boundary, whose charge keeps the slot's load within P and within Q of the slot before: the
request goes, its booking is made, the load grows by its charge, and its source starts (here a switch channel's inrush
or the wake output). 10 ms in the current limit turn WAKE_OUT off and set TRIP. A write of SYS_WAKE is answered OK and
takes the command bit and clears the flags written with 1, where the output has no command source. -/
def Obligations.AdmissionPassAndWake : Prop :=
  (∀ s : State, Completes .admissionPass s fun t =>
    t = { s.start with
        bud := t.bud, wake := t.wake, hst := t.hst, rcd := t.rcd, psw := t.psw, vlv := t.vlv, col := t.col,
        free := t.free, out := t.out } ∧
    (s.bud.isOpen = false ∨ s.bud.passTick ≠ some s.clk.tick → t = s.start) ∧
    (∀ q, s.bud.isOpen = true ∧ s.bud.passTick = some s.clk.tick ∧ s.bud.reqs = [q] ∧ q.opt < s.clk.tickOpt ∧ q.waited < q.maxDefer ∧
        s.bud.load + q.charge ≤ s.budPeak ∧ s.bud.load + q.charge ≤ s.budRise + s.bud.prevLoad →
      (q.src < 40 ∨ q.src = 96 →
        t.bud = { s.bud with reqs := [], bookings := s.bud.bookings ++ [⟨q.charge, q.slots⟩], load := s.bud.load + q.charge,
                             maxWait := t.bud.maxWait, passTick := none }) ∧
      (q.src < 40 → (rd t.psw.ch q.src).phase = .inrush ∧ (rd t.psw.ch q.src).inrushEnd = s.clk.tickOpt + s.pswInrush q.src) ∧
      (q.src = 96 → t.wake = { s.wake with out := true, wait := false })) ∧
    (∀ q, s.bud.isOpen = true ∧ s.bud.passTick = some s.clk.tick ∧ s.bud.reqs = [q] ∧ q.src < 40 ∧ q.opt < s.clk.tickOpt ∧
        q.waited < q.maxDefer ∧ s.budPeak < s.bud.load + q.charge →
      t.bud = { s.bud with reqs := [{ q with waited := q.waited + 1 }], passTick := none } ∧ t.psw = s.psw)) ∧
  (∀ (s : State) (o : Opt), Completes (.wakeOutTrip o) s fun t =>
    t = { s.begin o with wake := t.wake } ∧
    (s.wake.out = true → t.wake = { s.wake with out := false, trip := true }) ∧ (s.wake.out = false → t = s.begin o)) ∧
  (∀ (s : State) (r : HostReq) (v : Word), s.ready r (writeLevel [0x250]) 0 = true → s.blockShut 0 = false → v &&& 0xFFFFFFE0 = 0 →
        s.img.wakeSrc = noRef →
      Completes (.wakeCmd r v) s fun t => s.answers t r 0x0011 stOK [] ∧ s.hostKeeps t r ∧
        t = { s with clk := t.clk, hst := t.hst, out := t.out, wake := { s.wake with
          reg := v.getLsbD 0, refused := s.wake.refused && !v.getLsbD 3, trip := s.wake.trip && !v.getLsbD 4 } })

/-- Release groups leave and take their safe states (R78; R79; R80; R94). RELEASE_GROUP and RELEASE_FOLLOW_LAPSE complete
in every state, RELEASE_CMD in every state that is ready for it. At a tick, a group whose release is due since the
tick before (R79), with every die checked, becomes released, and every used switch channel that may then follow its
command is out of its safe state; a FOLLOW group whose condition the tick before found not to hold is released no
longer, and every used switch channel that may no longer follow its command is in its safe state. No other group
changes. A write of SYS_RELEASE_CMD holds for each group named whose condition is RONREX. -/
def Obligations.ReleaseOfOutputs : Prop :=
  (∀ (s : State) (g : Fin 16), Completes (.releaseGroup g) s fun t =>
    t = { s.start with
        bud := t.bud, wake := t.wake, boot := t.boot, hst := t.hst, rcd := t.rcd, psw := t.psw, vlv := t.vlv,
        col := t.col, free := t.free, out := t.out } ∧
    (s.powered = true ∧ s.diesOk = true ∧ s.atTick = true ∧ s.boot.due.getLsbD g.val = true ∧
        s.boot.released.getLsbD g.val = false →
      t.boot = { s.boot with released := s.boot.released ||| BitVec.ofNat 16 (2 ^ g.val) } ∧
      (∀ n, n < 40 ∧ s.pswUsed n = true ∧ (rd s.psw.ch n).frz = .none ∧ t.pswRuns n = true → (rd t.psw.ch n).safe = false)) ∧
    (s.powered = false ∨ s.diesOk = false ∨ s.atTick = false ∨ s.boot.due.getLsbD g.val = false ∨
        s.boot.released.getLsbD g.val = true → t = s.start)) ∧
  (∀ (s : State) (g : Fin 16), Completes (.releaseFollowLapse g) s fun t =>
    t = { s.start with
        bud := t.bud, wake := t.wake, boot := t.boot, hst := t.hst, rcd := t.rcd, psw := t.psw, vlv := t.vlv,
        col := t.col, free := t.free, out := t.out } ∧
    (s.powered = true ∧ s.atTick = true ∧ s.boot.lapse.getLsbD g.val = true ∧ s.boot.released.getLsbD g.val = true →
      t.boot = { s.boot with released := s.boot.released &&& ~~~ BitVec.ofNat 16 (2 ^ g.val) } ∧
      (∀ n, n < 40 ∧ s.pswUsed n = true ∧ (rd s.psw.ch n).frz = .none ∧ t.pswRuns n = false → (rd t.psw.ch n).safe = true)) ∧
    (s.powered = false ∨ s.atTick = false ∨ s.boot.lapse.getLsbD g.val = false ∨ s.boot.released.getLsbD g.val = false →
      t = s.start)) ∧
  (∀ (s : State) (r : HostReq) (v : Word), s.ready r (writeLevel [0x344]) 0 = true → s.blockShut 0 = false → v &&& 0xFFFF0000 = 0 →
      Completes (.releaseCmd r v) s fun t => s.answers t r 0x0011 stOK [] ∧ s.hostKeeps t r ∧
        t = { s with clk := t.clk, hst := t.hst, out := t.out, boot := { s.boot with rxCond := t.boot.rxCond, svcRel := t.boot.svcRel } } ∧
        (s.boot.svcHold = false → t.boot.svcRel = s.boot.svcRel) ∧
        (∀ g, g < 16 → t.boot.rxCond.getLsbD g =
          (s.boot.rxCond.getLsbD g || (v.getLsbD g && decide (g < s.img.relCount) && s.img.relCond g == 2))))

/-- A tick, and its alignment to DVT (R47; R94; R213; R214; R163; R304). TICK_START and TICK_ALIGNMENT complete in every
state. A tick of the running loop engine (here one that is not the first, before DVT is set, with no full freeze
waiting) comes 50 µs after the one before, raises TICK by one and TICK_SEC by one modulo 20,000, takes the supply
monitor's measurement, latches the input image that is new in the mailbox, and finds the condition of a RONREX release
group held where RELEASE_CMD named it. Where no tick runs it is the supply monitor's measurement alone. At the first
tick on the grid TICK_SEC is renumbered and ALIGNED set. -/
def Obligations.TickStart : Prop :=
  (∀ (s : State) (m : SupplyIn), Completes (.tickStart m) s fun t =>
    t = { s.start with
        clk := t.clk, pwr := t.pwr, regions := t.regions, bud := t.bud, wake := t.wake, boot := t.boot, grp := t.grp,
        hst := t.hst, rcd := t.rcd, psw := t.psw, vlv := t.vlv, col := t.col, sns := t.sns, flw := t.flw,
        lop := t.lop, prf := t.prf, nav := t.nav, tim := t.tim, yld := t.yld, can := t.can, dbg := t.dbg,
        free := t.free, out := t.out } ∧
    (s.clk.running = true ∧ s.region rCTL = .run ∧ s.powered = true ∧ s.clk.tickOpt ≠ 0 ∧ s.dbg.pendingFull = none ∧
        s.clk.aligned = false ∧ s.tim.align = none ∧ s.tim.dvtSet = false →
      t.clk.tick = s.clk.tick + 1 ∧ t.clk.tickSec = (s.clk.tickSec + 1) % 20000 ∧ t.clk.tickOpt = s.clk.tickOpt + 50000 ∧
      t.pwr.mon = m ∧ t.pwr.supply = s.pwr.supply ∧
      (∀ i, s.sns.mail = some i → t.sns.latch = i) ∧ (s.sns.mail = none → t.sns.latch = s.sns.latch) ∧ t.sns.mail = none ∧
      (∀ g, g < s.img.relCount ∧ g < 16 ∧ s.img.relCond g = 2 ∧ s.boot.svcHold = false →
        t.boot.held.getLsbD g = (s.boot.rxCond.getLsbD g || s.boot.svcRel.getLsbD g))) ∧
    (s.clk.running = false ∧ s.dbg.pendingFull = none →
      t.clk.tick = s.clk.tick ∧ t.pwr.mon = m ∧ t.sns = s.sns ∧ t.lop = s.lop ∧ t.boot = s.boot ∧
      t.clk.opt = if s.pwr.supply = .off then s.clk.opt else s.clk.opt + 50000)) ∧
  (∀ s : State, Completes .tickAlignment s fun t =>
    t = { s.start with clk := t.clk } ∧
    (s.clk.running = true ∧ s.clk.aligned = false ∧ s.tim.align.isSome = true ∧ s.onDvtGrid = true →
      t.clk = { s.clk with aligned := true, tickSec := s.gridNo s.clk.tickOpt % 20000 }) ∧
    (s.clk.running = false ∨ s.clk.aligned = true ∨ s.tim.align = none ∨ s.onDvtGrid = false → t = s.start))

/-- A loop result posted, an overrun, a processor that goes down (R218; R221; R222; R223; R244). LOOP_COMPUTATION_DONE,
LOOP_OVERRUN and LOOP_PROCESSOR_DOWN complete in every state. A result posted by its deadline, 15 µs before its output
instant, in the running order of its processor, is the slot's output register, waits for that instant and clears
CONSEC and OVR_LAST; one after it leaves the slots alone. A computation unfinished at its deadline is dropped and
counted, and the slot enters FAULT with LAST_ERR 0x01 when N_OVR in a row have been. A processor that leaves RUN takes
each of its enabled slots to FAULT with LAST_ERR 0x03, its action due at the next tick. No other slot changes. -/
def Obligations.LoopComputations : Prop :=
  (∀ (s : State) (o : Opt) (n : Fin 128) (c : Nat), Completes (.loopComputationDone o n c) s fun t =>
    t = { s.begin o with hst := t.hst, rcd := t.rcd, lop := t.lop, free := t.free, out := t.out } ∧
    (∀ j, (s.slot n.val).job = some j ∧ j.posted = false ∧ j.select = false ∧ j.stalled = false ∧ s.runs rCTL = true ∧
        (rd s.lop.proc (n.val / 16)).run = true ∧ s.runsLater n.val j = false →
      (o ≤ s.jobDeadline j →
        (t.slot n.val).job = some { j with posted := true } ∧ (t.slot n.val).outReg = j.u ∧ (t.slot n.val).consec = 0 ∧
        (t.slot n.val).ovrLast = false ∧ (t.slot n.val).cycles = satNat 16 c ∧ (t.slot n.val).v = j.v ∧
        (∀ k, k ≠ n.val → t.slot k = s.slot k) ∧
        rd t.lop.proc (n.val / 16) = (rd s.lop.proc (n.val / 16)).spend c) ∧
      (s.jobDeadline j < o → t.lop.slot = s.lop.slot)) ∧
    ((s.slot n.val).job = none ∨ s.runs rCTL = false → t = s.begin o)) ∧
  (∀ (s : State) (n : Fin 128), Completes (.loopOverrun n) s fun t =>
    t = { s.start with clk := t.clk, hst := t.hst, rcd := t.rcd, lop := t.lop, free := t.free, out := t.out } ∧
    (∀ j, (s.slot n.val).job = some j ∧ j.posted = false ∧ j.select = false ∧ s.runs rCTL = true →
      (t.slot n.val).job = none ∧ (t.slot n.val).ovrLast = true ∧ (t.slot n.val).err = true ∧
      (t.slot n.val).consec = satInc (s.slot n.val).consec ∧ (t.slot n.val).ovrCnt = satInc (s.slot n.val).ovrCnt ∧
      (∀ k, k ≠ n.val → t.slot k = s.slot k) ∧
      ((s.slot n.val).enF = true ∧ (s.slot n.val).fault = false ∧ recNOvr (s.slotB n.val) ≤ (satInc (s.slot n.val).consec).toNat →
        (t.slot n.val).fault = true ∧ (t.slot n.val).lastErr = 0x01 ∧ (t.slot n.val).faultAt = some j.outTick) ∧
      ((satInc (s.slot n.val).consec).toNat < recNOvr (s.slotB n.val) → (t.slot n.val).fault = (s.slot n.val).fault)) ∧
    ((s.slot n.val).job = none ∨ s.runs rCTL = false → t = s.start)) ∧
  (∀ (s : State) (o : Opt) (p : Fin 8), Completes (.loopProcessorDown o p) s fun t =>
    t = { s.begin o with hst := t.hst, rcd := t.rcd, lop := t.lop, free := t.free, out := t.out } ∧
    ((rd s.lop.proc p.val).run = true →
      rd t.lop.proc p.val = { rd s.lop.proc p.val with run := false } ∧
      (∀ k, k < 16 ∧ (s.slot (16 * p.val + k)).enF = true ∧ (s.slot (16 * p.val + k)).fault = false →
        (t.slot (16 * p.val + k)).fault = true ∧ (t.slot (16 * p.val + k)).lastErr = 0x03 ∧
        (t.slot (16 * p.val + k)).faultAt = some (s.clk.tick + 1)) ∧
      (∀ k, k / 16 ≠ p.val → t.slot k = s.slot k)) ∧
    ((rd s.lop.proc p.val).run = false → t = s.begin o))

/-- LOOP_COMMAND is admitted, and what each command does at its instant (R240; R237; R241). Each of the six LOOP_COMMANDs,
ready and naming a configured slot (AUTO, MANUAL and SET_MANUAL one that no machine function owns), is admitted: it
waits in the slot's list with its operation in flight, nothing is sent, and nothing else changes. At its instant AUTO
and MANUAL set the mode asked for and the manual value, SET_MANUAL the value of a slot in MANUAL, RESTART clears a
fault, ENABLE sets the enable bit and enables the slot, DISABLE clears both; a disabled slot refuses all but ENABLE
with NOT_ENABLED. -/
def Obligations.LoopCommands : Prop :=
  (∀ (s : State) (r : HostReq) (n : W16) (x : F32), s.ready r 1 10 = true → n.toNat < 128 → s.slotUsed n.toNat = true →
    (s.img.mfOfSlot n.toNat = none →
      (fIsFin x = true → Completes (.loopAuto r n x) s (s.loopQueued r n.toNat 1 x)) ∧
      (fIsFin x = true ∨ fIsNaN x = true → Completes (.loopManual r n x) s (s.loopQueued r n.toNat 2 x)) ∧
      (fIsFin x = true → Completes (.loopSetManual r n x) s (s.loopQueued r n.toNat 3 x))) ∧
    (fIsFin x = true → Completes (.loopRestart r n x) s (s.loopQueued r n.toNat 4 x) ∧
      Completes (.loopEnable r n x) s (s.loopQueued r n.toNat 5 x) ∧ Completes (.loopDisable r n x) s (s.loopQueued r n.toNat 6 x))) ∧
  (∀ (s : State) (n : Nat) (r : HostReq) (x : F32), n < 128 →
    ((s.slot n).enF = false → ∀ cmd, cmd ≠ 5 → s.loopCommand n ⟨cmd, x, r⟩ = (s, 0x8405)) ∧
    ((s.slot n).enF = true ∧ (s.slot n).fault = false →
      (s.loopCommand n ⟨1, x, r⟩).2 = stOK ∧ ((s.loopCommand n ⟨1, x, r⟩).1.slot n).remManual = false ∧
      (s.loopCommand n ⟨2, x, r⟩).2 = stOK ∧ ((s.loopCommand n ⟨2, x, r⟩).1.slot n).remManual = true ∧
      (fIsNaN x = false → ((s.loopCommand n ⟨2, x, r⟩).1.slot n).man = x) ∧
      ((s.slot n).remManual = true →
        (s.loopCommand n ⟨3, x, r⟩).2 = stOK ∧ ((s.loopCommand n ⟨3, x, r⟩).1.slot n).man = x) ∧
      s.loopCommand n ⟨4, x, r⟩ = (s, 0x8404)) ∧
    ((s.slot n).enF = true ∧ (s.slot n).fault = true →
      (s.loopCommand n ⟨4, x, r⟩).2 = stOK ∧ ((s.loopCommand n ⟨4, x, r⟩).1.slot n).fault = false ∧
      ((s.loopCommand n ⟨4, x, r⟩).1.slot n).mode = .auto ∧ s.loopCommand n ⟨1, x, r⟩ = (s, 0x8402) ∧
      s.loopCommand n ⟨2, x, r⟩ = (s, 0x8402)) ∧
    ((s.loopCommand n ⟨5, x, r⟩).2 = stOK ∧ ((s.loopCommand n ⟨5, x, r⟩).1.slot n).enF = true ∧
      (s.loopCommand n ⟨5, x, r⟩).1.lop.en.getLsbD n = true) ∧
    ((s.slot n).enF = true → (s.loopCommand n ⟨6, x, r⟩).2 = stOK ∧ ((s.loopCommand n ⟨6, x, r⟩).1.slot n).enF = false ∧
      (s.loopCommand n ⟨6, x, r⟩).1.lop.en.getLsbD n = false))

/-- The command registers of the loop block and the latch of LOP_TICK (R244; R213; R8; R150). LOOP_CNT_CLEAR clears the
counters of exactly the slots named, TEST_STALL sets the stall injection for a SERVICE session, TICK_LATCH answers the
low word of TICK and latches its high word; each is answered OK, and nothing else of the module changes. -/
def Obligations.LoopRegisters : Prop :=
  (∀ (s : State) (r : HostReq) (k : Fin 4) (v : Word), s.ready r (writeLevel [0x40020 + 4 * k.val]) 0 = true → s.blockShut 4 = false →
      Completes (.loopCntClear r k v) s fun t => s.answers t r 0x0011 stOK [] ∧ s.hostKeeps t r ∧
        t = { s with clk := t.clk, hst := t.hst, out := t.out, lop := { s.lop with slot := t.lop.slot } } ∧
        (∀ n, n < 128 → t.slot n = if n / 32 = k.val ∧ v.getLsbD (n % 32) = true then { s.slot n with ovrCnt := 0, invCnt := 0 } else s.slot n)) ∧
  (∀ (s : State) (r : HostReq) (v : Word), s.ready r (writeLevel [0x40030]) 0 = true → s.blockShut 4 = false → v &&& 0x80 = 0 →
        2 ≤ (s.sess r.sess).level ∧ (field v 8 8 = 0 ∨ 1 ≤ field v 16 16) →
      Completes (.testStall r v) s fun t => s.answers t r 0x0011 stOK [] ∧ s.hostKeeps t r ∧
        t = { s with clk := t.clk, hst := t.hst, out := t.out, lop := { s.lop with
          stall := { slot := field v 0 7, count := field v 8 8, delayUs := field v 16 16 } } }) ∧
  (∀ (s : State) (r : HostReq), s.ready r 0 0 = true → s.blockShut 4 = false →
      Completes (.tickLatch r) s fun t => s.answers t r 0x0010 stOK (leBytes 4 (lo32 s.clk.tick).toNat) ∧ s.hostKeeps t r ∧
        t = { s with clk := t.clk, hst := t.hst, out := t.out, lop := { s.lop with tickHi := hi32 s.clk.tick } })

/-- Commands of machine functions (R256; R258; R263; R268). MF_SET_MODE, MF_TARGET and MF_MANUAL_VALUE, ready and naming a
configured function with a mode and value it admits, are admitted: the command waits for the next tick with its
operation in flight, nothing is sent and nothing else changes. MF_INTERLOCK_CLEAR rearms a function whose interlock
has held for ILK_CLEAR_MS and whose override is not active, to NORMAL, and is nothing before. MF_CNT_CLEAR clears the
counters of exactly the functions named. -/
def Obligations.MachineFunctionCommands : Prop :=
  (∀ (s : State) (r : HostReq) (m mode : Byte) (x : F32), s.ready r 1 10 = true → m.toNat < 48 → s.mfUsed m.toNat = true →
    fIsFin x = true →
    (mode.toNat ≤ 3 ∨ (mode = 4 ∧ s.img.mfAuto m.toNat = true) →
      Completes (.mfSetMode r m mode x) s (s.mfQueued r m.toNat 1 mode.toNat x)) ∧
    (mode.toNat ≤ 4 → Completes (.mfTarget r m mode x) s (s.mfQueued r m.toNat 2 mode.toNat x) ∧
      Completes (.mfManualValue r m mode x) s (s.mfQueued r m.toNat 3 mode.toNat x))) ∧
  (∀ (s : State) (m : Fin 48), Completes (.mfInterlockClear m) s fun t =>
    t = { s.start with prf := t.prf } ∧
    (s.mfUsed m.val = true ∧ (rd s.prf.mf m.val).st = .interlock ∧ 20 * u16 (s.mfB m.val) 56 < (rd s.prf.mf m.val).ilkTicks →
      (s.mfOvr m.val = false → (rd t.prf.mf m.val).st = .normal ∧ ((u8 (s.mfB m.val) 5).testBit 0 = false →
        (rd t.prf.mf m.val).tgt = fclamp (f32At (s.mfB m.val) 20) (f32At (s.mfB m.val) 24) (s.pgR (s.mfSlot m.val)))) ∧
      (s.mfOvr m.val = true → (rd t.prf.mf m.val).st = .override ∧ (rd t.prf.mf m.val).ovrSeen = true)) ∧
    (s.mfUsed m.val = false ∨ (rd s.prf.mf m.val).st ≠ .interlock ∨ (rd s.prf.mf m.val).ilkTicks ≤ 20 * u16 (s.mfB m.val) 56 →
      t = s.start) ∧
    (∀ k, k ≠ m.val → rd t.prf.mf k = rd s.prf.mf k)) ∧
  (∀ (s : State) (r : HostReq) (k : Fin 2) (v : Word), s.ready r (writeLevel [0x52310 + 4 * k.val]) 0 = true → s.blockShut 5 = false →
      (k.val = 1 → v &&& 0xFFFF0000 = 0) →
      Completes (.mfCntClear r k v) s fun t => s.answers t r 0x0011 stOK [] ∧ s.hostKeeps t r ∧
        t = { s with clk := t.clk, hst := t.hst, out := t.out, prf := { s.prf with mf := t.prf.mf } } ∧
        (∀ n, n < 48 → rd t.prf.mf n = if n / 32 = k.val ∧ v.getLsbD (n % 32) = true
          then { rd s.prf.mf n with ilkCnt := 0, clampCnt := 0 } else rd s.prf.mf n))

/-- Steps, timers and events of state machines (R112; R113; R115; R118; R119). SM_STEP, SM_TIMER_EXPIRY, SM_EVENT and
MACHINE_EVENT complete. A step that is due, or late and then counted, leaves the machine running; a machine that has
run, with no event waiting and no signal watched, fires the transition that its step event finds, counted, into the
state it names, and otherwise keeps its state; where no step is due nothing changes. An expired timer leaves the
timers and its event joins the queue with the timer's OPT. A COMMAND event of a ready request joins the named
machine's queue, and the request is answered OK. -/
def Obligations.StateMachines : Prop :=
  (∀ (s : State) (o : Opt) (m : Fin 64) (late : Bool), Completes (.smStep o m late) s fun t =>
    t = { s.begin o with
        sm := t.sm, hst := t.hst, rcd := t.rcd, prf := t.prf, can := t.can, fmt := t.fmt, free := t.free,
        out := t.out } ∧
    (s.runs rSVC = false ∨ s.img.machines.length ≤ m.val ∨ (late = false ∧ s.clk.tickSec % max 1 (smStepTicks (s.img.smBody m.val)) ≠ 0) →
      t = s.begin o) ∧
    (s.runs rSVC = true ∧ m.val < s.img.machines.length ∧ (late = true ∨ s.clk.tickSec % max 1 (smStepTicks (s.img.smBody m.val)) = 0) →
      let x := rd s.sm m.val
      let y := rd t.sm m.val
      let b := s.img.smBody m.val
      let u := (s.begin o).updSm m.val fun y => { y with prev := [], late := y.late || late, lateCnt := if late then satInc y.lateCnt else y.lateCnt }
      y.run = true ∧ y.late = (x.late || late) ∧ y.lateCnt = (if late then satInc x.lateCnt else x.lateCnt) ∧
      (x.run = true ∧ x.queue = [] ∧ smWatched b = [] →
        (smFind (s.begin o) u m.val b 0 0 = none → y.state = x.state ∧ y.transCnt = x.transCnt) ∧
        (∀ tr, smFind (s.begin o) u m.val b 0 0 = some tr → y.transCnt = satInc x.transCnt ∧
          (u8 b (tr + 1) = 0xFF → y.state = x.state) ∧ (u8 b (tr + 1) ≠ 0xFF → y.state = BitVec.ofNat 8 (u8 b (tr + 1))))))) ∧
  (∀ (s : State) (o : Opt) (m : Fin 64) (k : Byte), Completes (.smTimerExpiry o m k) s fun t =>
    t = { s.begin o with sm := t.sm } ∧
    (∀ e, lookupN (rd s.sm m.val).timers k.toNat = some e ∧ e ≤ o ∧ s.runs rSVC = true ∧ m.val < s.img.machines.length →
      t.sm = upd s.sm m.val fun x => { x with timers := dropN x.timers k.toNat, queue := x.queue ++ [⟨e, 1, k.toNat, none⟩] }) ∧
    (lookupN (rd s.sm m.val).timers k.toNat = none ∨ s.runs rSVC = false → t = s.begin o)) ∧
  (∀ (s : State) (r : HostReq) (v : Word), s.ready r (writeLevel [0x600]) 0 = true → s.blockShut 0 = false → v &&& 0xFFC00000 = 0 →
        field v 16 6 < s.img.machines.length →
      Completes (.smEvent r v) s fun t => s.answers t r 0x0011 stOK [] ∧ s.hostKeeps t r ∧
        t = { s with clk := t.clk, hst := t.hst, out := t.out, sm := upd s.sm (field v 16 6) fun x => { x with
          queue := x.queue ++ [⟨max s.clk.opt r.opt, 4, field v 0 16, none⟩] } }) ∧
  (∀ (s : State) (r : HostReq) (m : Byte) (e : W16), s.ready r 1 11 = true → m.toNat < s.img.machines.length → m.toNat < 64 →
      Completes (.machineEvent r m e) s fun t => s.answers t r 0x0052 stOK [] ∧ s.hostKeeps t r ∧
        t = { s with clk := t.clk, hst := t.hst, out := t.out,
                     sm := upd s.sm m.toNat fun x => { x with queue := x.queue ++ [⟨max s.clk.opt r.opt, 4, e.toNat, none⟩] } })

/-- COMMIT takes a snapshot, and its check, its boundary and its deadline (R81; R82; R84; R85; R153; R568). COMMIT,
COMMIT_CHECK_DONE, COMMIT_APPLY and COMMIT_TIMEOUT complete. A ready COMMIT of a configured group with no snapshot
pending keeps the group's shadow words as its snapshot, with its operation in flight, and nothing else changes. A
check that ends within 1 ms drops a snapshot that breaks a rule, makes a good one live at once where the group's units
are idle, and otherwise leaves it to wait for its boundary. At the boundary (of the supply, loop, profile, valve and
switch groups: a tick start, for the supply group one that is a slot boundary) a snapshot checked before it becomes
live, word for word, and is pending no longer. Past the commit deadline it is dropped and its operation answered
TIMEOUT. -/
def Obligations.CommitOperations : Prop :=
  (∀ (s : State) (r : HostReq) (g : W16), s.ready r 1 4 = true → s.groupStatus g.toNat = none → s.commitBarred g.toNat = none →
      (∀ p ∈ s.grp.snaps, p.group ≠ g.toNat) →
      Completes (.commit r g) s fun t =>
        t = { s with clk := { s.clk with opt := max s.clk.opt r.opt, past := t.clk.past }, hst := t.hst, out := [],
                     grp := { s.grp with snaps := s.grp.snaps ++
                       [⟨g.toNat, s.shadowWords g.toNat, max s.clk.opt r.opt, none, some r⟩] } } ∧
        ∃ b, t.hst.ops = s.hst.ops ++ [⟨r, 0x0021, none, b, false⟩]) ∧
  (∀ (s : State) (o : Opt) (g : W16), Completes (.commitCheckDone o g) s fun t =>
    t = { s.begin o with grp := t.grp, hst := t.hst, out := t.out } ∧
    (∀ p, s.grp.snaps.find? (fun p => p.group == g.toNat) = some p →
      let rest := s.grp.snaps.filter fun q => q.group != g.toNat;
      (p.checkedAt.isSome = true ∨ o < p.accepted ∨ p.accepted + 1000000 < o → t = s.begin o) ∧
      (p.checkedAt = none ∧ p.accepted ≤ o ∧ o ≤ p.accepted + 1000000 →
        (∀ rule, s.img.ruleBroken s.flw.lsEn.toNat g.toNat p.word = some rule → t.grp = { s.grp with snaps := rest }) ∧
        (s.img.ruleBroken s.flw.lsEn.toNat g.toNat p.word = none →
          (s.groupIdle g.toNat = true →
            t.grp = { s.grp with snaps := rest, live := p.words.foldl (fun l w => bindN l w.1 w.2) s.grp.live }) ∧
          (s.groupIdle g.toNat = false → t = { s.begin o with grp := { s.grp with snaps := s.grp.snaps.map fun (q : Snap) =>
            if q.group == g.toNat then { q with checkedAt := some o } else q } })))) ∧
    (s.grp.snaps.find? (fun p => p.group == g.toNat) = none → t = s.begin o)) ∧
  (∀ (s : State) (g : W16), Completes (.commitApply g) s fun t =>
    t = { s.start with
        setSlots := t.setSlots, grp := t.grp, hst := t.hst, flw := t.flw, nav := t.nav, yld := t.yld, vis := t.vis,
        can := t.can, out := t.out } ∧
    (s.boundaryNow g.toNat = false → t = s.start) ∧
    (g.toNat / 256 ∈ [0x00, 0x04, 0x05, 0x0B, 0x0C] ∧ s.clk.running = true ∧ s.clk.opt = s.clk.tickOpt ∧
        (g.toNat / 256 = 0x00 → s.clk.tickSec % 40 = 0) →
      (s.snapReady g.toNat = none → t = s.start) ∧
      (∀ p, s.snapReady g.toNat = some p →
        t.grp = { s.grp with snaps := s.grp.snaps.filter (fun q => q.group != g.toNat),
                             live := p.words.foldl (fun l w => bindN l w.1 w.2) s.grp.live } ∧
        t = { s with grp := t.grp, hst := t.hst, out := t.out }))) ∧
  (∀ (s : State) (o : Opt) (g : W16), Completes (.commitTimeout o g) s fun t =>
    t = { s.begin o with grp := t.grp, hst := t.hst, out := t.out } ∧
    (∀ p, s.grp.snaps.find? (fun p => p.group == g.toNat) = some p →
      (o < p.accepted + s.img.commitDeadline → t = s.begin o) ∧
      (p.accepted + s.img.commitDeadline ≤ o →
        t.grp = { s.grp with snaps := s.grp.snaps.filter fun q => q.group != g.toNat } ∧
        (∀ r b, p.req = some r ∧ r.sess < 8 ∧ (s.sess r.sess).hello = true ∧ s.hst.ops = [⟨r, 0x0021, none, b, false⟩] ∧
            (rd s.hst.ring r.ring).closing = none →
          s.answers t r 0x0021 stTIMEOUT (commitReply 0 0) ∧ t.hst.ops = []))) ∧
    (s.grp.snaps.find? (fun p => p.group == g.toNat) = none → t = s.begin o))

/-- DISCARD restores the shadow, SHADOW_READ reads it (R84; R153; R568). A ready DISCARD of a configured group is answered
OK and copies the group's live values into its shadow; no other shadow word, no live word, no pending snapshot and
nothing else of the module changes. A ready SHADOW_READ answers PENDING, COUNT and for each register of the group its
address, shadow and live word, and changes nothing. -/
def Obligations.ShadowAndDiscard : Prop :=
  (∀ (s : State) (r : HostReq) (g : W16), s.ready r 1 4 = true → s.groupStatus g.toNat = none →
      Completes (.discard r g) s fun t => s.answers t r 0x0022 stOK [] ∧ s.hostKeeps t r ∧
        t = { s with clk := t.clk, hst := t.hst, out := t.out, grp := { s.grp with shadow := t.grp.shadow } } ∧
        (∀ a, t.shadow a = if a ∈ (groupWords g.toNat).getD [] then s.live a else s.shadow a)) ∧
  (∀ (s : State) (r : HostReq) (g : W16), s.ready r 0 4 = true → s.groupStatus g.toNat = none →
      4 + 12 * ((groupWords g.toNat).getD []).length + 24 ≤ (s.sess r.sess).maxMsg →
      Completes (.shadowRead r g) s fun t => s.hostKeeps t r ∧ t = { s with clk := t.clk, hst := t.hst, out := t.out } ∧
        s.answers t r 0x0020 stOK (leBytes 1 (if s.grp.snaps.any fun p => p.group == g.toNat then 1 else 0) ++ leBytes 1 0 ++
          leBytes 2 ((groupWords g.toNat).getD []).length ++
          ((groupWords g.toNat).getD []).flatMap fun a => leBytes 4 a ++ leBytes 4 (s.shadow a).toNat ++ leBytes 4 (s.live a).toNat))

/-- Each group holds at most one pending snapshot (R84). Every command keeps at most one pending snapshot for each group.
A ready COMMIT of a group that has one is refused with COMMIT_PENDING and changes no group. The check of a register
write does not look at the snapshots, a write leaves them as they are, and DISCARD copies the live values into the
shadow and leaves them too. -/
def Obligations.OnePendingSnapshot : Prop :=
  (∀ (c : Instr) (s t : State), (s.grp.snaps.map Snap.group).Nodup → exec c s = .next t → (t.grp.snaps.map Snap.group).Nodup) ∧
  (∀ (s : State) (r : HostReq) (g : W16), s.ready r 1 4 = true → s.groupStatus g.toNat = none → s.commitBarred g.toNat = none →
      (∃ p ∈ s.grp.snaps, p.group = g.toNat) →
      Completes (.commit r g) s fun t => s.answers t r 0x0021 stPENDING (commitReply 0 0) ∧ t.grp = s.grp) ∧
  (∀ (s : State) (r : HostReq) (a : Nat) (v : Word) (l : List Snap),
      ({ s with grp := { s.grp with snaps := l } } : State).writeStatus r a v = s.writeStatus r a v) ∧
  (∀ (s : State) (r : HostReq) (a : Nat) (v : Word) (h : RegHit), findAddr a = some h → h.id.isSH = true →
      (s.writeAt r a v).grp.snaps = s.grp.snaps) ∧
  (∀ (s : State) (r : HostReq) (g : W16), s.ready r 1 4 = true → s.groupStatus g.toNat = none →
      Completes (.discard r g) s fun t => t.grp.snaps = s.grp.snaps ∧
        ∀ a ∈ (groupWords g.toNat).getD [], t.shadow a = s.live a)

/-- Sessions open, are abandoned, close, and discard bad messages (R131; R132; R133; R134; R135; R137). SESSION_HANDSHAKE,
HANDSHAKE_TIMEOUT, DTLS_CLOSE, IDLE_CLOSE and BAD_MESSAGE complete in every state. A complete handshake that comes to
an accepted interface and the image's UDP port, offers the module's cipher suite, group and signature scheme and
presents a certificate that chains opens the lowest free session at that certificate's level, before any HELLO; one
not complete is remembered, and abandoned after 5 s; a session that is closed by its host or idle for IDLE_CLOSE ends,
with its rings and subscriptions, and the other sessions stay as they were. A record that fails authentication, and a
message whose MAGIC, LENGTH or SEQ is bad, is discarded and counted; an authenticated one of these still counts
against IDLE_CLOSE; a message with another fault of its header or an operation that is not listed is answered with its
status. -/
def Obligations.SessionEvents : Prop :=
  (∀ (s : State) (h : HandshakeIn), Completes (.sessionHandshake h) s fun t =>
    t = { s.begin h.opt with hst := t.hst, out := t.out } ∧
    (s.netUp = false ∨ s.portOpen h.port = false ∨ h.udpPort ≠ s.img.udpPort ∨ CipherSuite.aes256GcmSha384 ∉ h.suites ∨
        KeyGroup.secp384r1 ∉ h.groups ∨ SigScheme.ecdsaSecp384r1Sha384 ∉ h.schemes ∨ h.hasCert = false ∨ h.chains = false →
      t = s.begin h.opt) ∧
    (s.netUp = true ∧ s.portOpen h.port = true ∧ h.udpPort = s.img.udpPort ∧ CipherSuite.aes256GcmSha384 ∈ h.suites ∧
        KeyGroup.secp384r1 ∈ h.groups ∧ SigScheme.ecdsaSecp384r1Sha384 ∈ h.schemes ∧ h.hasCert = true ∧ h.chains = true →
      (h.complete = false ∧ lookupN s.hst.shakes h.id = none → t.hst = { s.hst with shakes := s.hst.shakes ++ [(h.id, h.opt)] }) ∧
      (∀ k, h.complete = true ∧ lookupN s.hst.shakes h.id = none ∧ s.freeSess = some k →
        t.sess k = { Sess.reset with isOpen := true, level := min h.level 2, port := h.port, last := h.opt } ∧
        (∀ j, j ≠ k → t.sess j = s.sess j) ∧ t.hst.ring = s.hst.ring ∧ t.hst.subs = s.hst.subs) ∧
      (h.complete = true ∧ lookupN s.hst.shakes h.id = none ∧ s.freeSess = none →
        t.hst.sess = s.hst.sess ∧ h.id ∈ t.hst.surplus))) ∧
  (∀ (s : State) (o : Opt) (id : Nat), Completes (.handshakeTimeout o id) s fun t =>
    t = { s.begin o with hst := t.hst } ∧
    (∀ e, lookupN s.hst.shakes id = some e → t.hst = if e + 5000000000 ≤ o then { s.hst with shakes := dropN s.hst.shakes id } else s.hst) ∧
    (lookupN s.hst.shakes id = none → t = s.begin o)) ∧
  (∀ (s : State) (o : Opt) (k : Fin 8), Completes (.dtlsClose o k) s fun t =>
    t = { s.begin o with hst := t.hst, rcd := t.rcd, out := t.out } ∧
    (s.netUp = true ∧ (s.sess k.val).isOpen = true →
      t.sess k.val = Sess.reset ∧ (∀ j, j ≠ k.val → t.sess j = s.sess j) ∧ t.hst.subs = s.hst.subs.filter (fun x => x.sess != k.val) ∧
      (∀ n, n < 256 ∧ (rd s.hst.ring n).isOpen = true ∧ (rd s.hst.ring n).sess = k.val → rd t.hst.ring n = Ring.reset) ∧
      Msg.closed k.val ∈ t.out) ∧
    (s.netUp = false ∨ (s.sess k.val).isOpen = false → t = s.begin o)) ∧
  (∀ (s : State) (o : Opt) (k : Fin 8), Completes (.idleClose o k) s fun t =>
    t = { s.begin o with hst := t.hst, rcd := t.rcd, out := t.out } ∧
    (s.netUp = true ∧ (s.sess k.val).isOpen = true ∧ (s.sess k.val).last + s.img.idleClose ≤ o →
      t.sess k.val = Sess.reset ∧ (∀ j, j ≠ k.val → t.sess j = s.sess j) ∧ t.hst.subs = s.hst.subs.filter (fun x => x.sess != k.val)) ∧
    (o < (s.sess k.val).last + s.img.idleClose → t = s.begin o)) ∧
  (∀ (s : State) (o : Opt), s.netUp = true →
    Completes (.badMessage (.dtls o)) s fun t => t = { s.begin o with hst := { s.hst with badMsg := satInc s.hst.badMsg } }) ∧
  (∀ (s : State) (o : Opt) (k : Fin 8) (b : Bool) (l : List Byte), s.netUp = true → (s.sess k.val).isOpen = true →
    s.standbyPath ⟨k.val, b, 0, 0, 0, true, o⟩ = false →
    ((Header.ofBytes l).matches l = false ∨ seqOk (s.sess k.val) (Header.ofBytes l).seq = false) →
    Completes (.badMessage (.message o k b l)) s fun t => t = { s.begin o with hst := { s.hst with
      badMsg := satInc s.hst.badMsg, sess := upd s.hst.sess k.val fun x => { x with last := o } } }) ∧
  (∀ (s : State) (o : Opt) (k : Fin 8) (b : Bool) (l : List Byte) (st : Nat), s.netUp = true → (s.sess k.val).isOpen = true →
    (s.sess k.val).hello = true → s.standbyPath ⟨k.val, b, 0, 0, 0, true, o⟩ = false → (Header.ofBytes l).matches l = true →
    seqOk (s.sess k.val) (Header.ofBytes l).seq = true → (Header.ofBytes l).fault = some st →
    Completes (.badMessage (.message o k b l)) s fun t => t = { s.begin o with hst := t.hst, out := t.out } ∧
      t.out = [.completion k.val (Header.ofBytes l).ring (Header.ofBytes l).ticket ((s.sess k.val).txSeq + 1) (Header.ofBytes l).op st false []] ∧
      t.hst = { s.hst with sess := t.hst.sess } ∧ (t.sess k.val).last = o ∧ ∀ j, j ≠ k.val → t.sess j = s.sess j) ∧
  (∀ (s : State) (o : Opt) (k : Fin 8) (b : Bool) (l : List Byte), (s.sess k.val).hello = true →
    s.heard ⟨k.val, b, (Header.ofBytes l).ring, (Header.ofBytes l).ticket, (Header.ofBytes l).seq, true, o⟩ = true →
    (Header.ofBytes l).matches l = true → (Header.ofBytes l).fault = none → listedOps.contains (Header.ofBytes l).op = false →
    Completes (.badMessage (.message o k b l)) s fun t => t = { s.begin o with hst := t.hst, out := t.out } ∧
      t.out = [.completion k.val (Header.ofBytes l).ring (Header.ofBytes l).ticket ((s.sess k.val).txSeq + 1) (Header.ofBytes l).op
        stBADOPCODE false []] ∧ t.hst.ops = s.hst.ops ∧ t.hst.badMsg = s.hst.badMsg)

/-- HELLO, BYE, PING, RING_OPEN and RING_CLOSE (R138; R140; R141; R142; R143; R144; R149). On the control channel of an
open session a ready HELLO that asks for feature 0 and a message of at least 1,200 bytes agrees on the features and
the size and is answered OK; PING is answered with OPT and DVT and changes nothing; RING_OPEN of a free ring opens it
for the session in the mode and with the limit asked for; RING_CLOSE of an own ring with no operation in flight resets
it; BYE is answered and the session ends. Other sessions, rings and subscriptions stay as they were. -/
def Obligations.ControlChannel : Prop :=
  (∀ (s : State) (r : HostReq) (f : BitVec 256) (n : W16), s.ctrlReady r false = true → f.getLsbD 0 = true → 1200 ≤ n.toNat →
      Completes (.hello r f n) s fun t => (∃ pl, s.answers t r 0x0001 stOK pl) ∧
        t = { s with clk := { s.clk with opt := max s.clk.opt r.opt, past := t.clk.past }, hst := t.hst, out := t.out } ∧
        (t.sess r.sess).hello = true ∧ (t.sess r.sess).agreed = BitVec.ofNat 16 f.toNat ∧
        (t.sess r.sess).maxMsg = (if f.getLsbD 15 then min n.toNat 8960 else 1200) ∧ (t.sess r.sess).level = (s.sess r.sess).level ∧
        (∀ k, k ≠ r.sess → t.sess k = s.sess k) ∧ t.hst.ring = s.hst.ring ∧ t.hst.subs = s.hst.subs ∧ t.hst.ops = s.hst.ops) ∧
  (∀ (s : State) (r : HostReq), s.ctrlReady r true = true →
      Completes (.ping r) s fun t =>
        s.answers t r 0x0003 stOK (leBytes 8 (max s.clk.opt r.opt) ++ leBytes 8 (s.begin r.opt).dvt) ∧ s.hostKeeps t r ∧
        t = { s with clk := t.clk, hst := t.hst, out := t.out }) ∧
  (∀ (s : State) (r : HostReq) (n : W16) (mode : Byte) (limit : W16) (k : Nat), s.ctrlReady r true = true →
      mode.toNat ≤ 1 → (mode = 1 → (s.sess r.sess).agreed.getLsbD 1 = true) → 1 ≤ limit.toNat → limit.toNat ≤ 512 →
      s.ringWanted n.toNat = some k →
      Completes (.ringOpen r n mode limit) s fun t => s.answers t r 0x0004 stOK (leBytes 2 k ++ leBytes 2 0) ∧
        t = { s with clk := { s.clk with opt := max s.clk.opt r.opt, past := t.clk.past }, hst := t.hst, out := t.out } ∧
        t.hst.ring = put s.hst.ring k { isOpen := true, ordered := mode == 1, sess := r.sess, limit := limit.toNat, closing := none } ∧
        (∀ j, j ≠ r.sess → t.sess j = s.sess j) ∧ t.hst.subs = s.hst.subs ∧ t.hst.ops = s.hst.ops) ∧
  (∀ (s : State) (r : HostReq) (n : W16), s.ctrlReady r true = true → n.toNat < 256 → (rd s.hst.ring n.toNat).isOpen = true →
      (rd s.hst.ring n.toNat).sess = r.sess → (rd s.hst.ring n.toNat).closing = none → (∀ f ∈ s.hst.ops, f.req.ring ≠ n.toNat) →
      Completes (.ringClose r n) s fun t => s.answers t r 0x0005 stOK [] ∧
        t = { s with clk := { s.clk with opt := max s.clk.opt r.opt, past := t.clk.past }, hst := t.hst, out := t.out } ∧
        t.hst.ring = put s.hst.ring n.toNat Ring.reset ∧ (∀ j, j ≠ r.sess → t.sess j = s.sess j) ∧ t.hst.subs = s.hst.subs ∧
        t.hst.ops = s.hst.ops) ∧
  (∀ (s : State) (r : HostReq), s.ctrlReady r true = true → (∀ f ∈ s.rcd.freezers, f.1 ≠ r.sess) →
      Completes (.bye r) s fun t =>
        t.out = [.completion r.sess r.ring r.ticket ((s.sess r.sess).txSeq + 1) 0x0002 stOK false [], .closed r.sess] ∧
        t = { s with clk := { s.clk with opt := max s.clk.opt r.opt, past := t.clk.past }, hst := t.hst, out := t.out } ∧
        t.sess r.sess = Sess.reset ∧ (∀ j, j ≠ r.sess → t.sess j = s.sess j) ∧ t.hst.subs = s.hst.subs.filter (fun x => x.sess != r.sess) ∧
        (∀ n, n < 256 ∧ (rd s.hst.ring n).isOpen = true → rd t.hst.ring n =
          if (rd s.hst.ring n).sess = r.sess then Ring.reset else rd s.hst.ring n))

/-- Register reads and writes: all of them or none (R6; R7; R150; R151; R152; R81). A ready REG_READ or REG_BATCH_READ
whose registers can all be read answers their values in order. A ready REG_WRITE or REG_BATCH_WRITE whose registers
all pass their checks writes every one of them, in order, and is answered OK; where one does not, none is written and
the reply names the first that failed, with its status. A write to commit-group registers changes their shadow words
alone. REG_MODIFY writes the merge of the old value and VALUE under MASK and answers the old value. -/
def Obligations.RegisterOperations : Prop :=
  (∀ (s : State) (r : HostReq) (a : Word) (n : W16), s.ready r 0 0 = true → 1 ≤ n.toNat → n.toNat ≤ 256 →
      (∀ x ∈ addrRun a.toNat n.toNat, s.readStatus x = none) →
      Completes (.regRead r a n) s fun t => s.hostKeeps t r ∧
        let x := readAll (s.admitted r 0x0010) (addrRun a.toNat n.toNat)
        s.answers t r 0x0010 stOK x.1 ∧ t = { x.2 with hst := t.hst, out := t.out }) ∧
  (∀ (s : State) (r : HostReq) (l : List Word), s.ready r 0 2 = true → 1 ≤ l.length → l.length ≤ 64 →
      (∀ x ∈ l, s.readStatus x.toNat = none) →
      Completes (.regBatchRead r l) s fun t => s.hostKeeps t r ∧
        let x := readAll (s.admitted r 0x0013) (l.map BitVec.toNat)
        s.answers t r 0x0013 stOK x.1 ∧ t = { x.2 with hst := t.hst, out := t.out }) ∧
  (∀ (s : State) (r : HostReq) (a : Word) (l : List Word), 1 ≤ l.length → l.length ≤ 256 →
      let w := (addrRun a.toNat l.length).zip l
      s.ready r (writeLevel (addrRun a.toNat l.length)) 0 = true →
      (checkWrites r (s.admitted r 0x0011) w = none →
        Completes (.regWrite r a l) s fun t => t = ((s.admitted r 0x0011).writeAll r w).complete r stOK [] ∧
          ((∀ p ∈ w, ∀ h, findAddr p.1 = some h → h.id.isSH = true) → s.answers t r 0x0011 stOK [] ∧ s.hostKeeps t r ∧
            t = { s with clk := t.clk, hst := t.hst, out := t.out, grp := { s.grp with
                  shadow := w.foldl (fun x p => bindN x p.1 p.2) s.grp.shadow } })) ∧
      (∀ st x, checkWrites r (s.admitted r 0x0011) w = some (st, x) →
        Completes (.regWrite r a l) s fun t => s.answers t r 0x0011 st (leBytes 4 x) ∧ s.hostKeeps t r ∧
          t = { s with clk := t.clk, hst := t.hst, out := t.out })) ∧
  (∀ (s : State) (r : HostReq) (l : List (Word × Word)), 1 ≤ l.length → l.length ≤ 64 →
      let w := l.map fun (p : Word × Word) => (p.1.toNat, p.2)
      s.ready r (writeLevel (w.map Prod.fst)) 2 = true →
      (checkWrites r (s.admitted r 0x0014) w = none →
        Completes (.regBatchWrite r l) s fun t => t = ((s.admitted r 0x0014).writeAll r w).complete r stOK []) ∧
      (∀ st x, checkWrites r (s.admitted r 0x0014) w = some (st, x) →
        Completes (.regBatchWrite r l) s fun t => s.answers t r 0x0014 st (leBytes 4 x) ∧ s.hostKeeps t r ∧
          t = { s with clk := t.clk, hst := t.hst, out := t.out })) ∧
  (∀ (s : State) (r : HostReq) (a mask v : Word) (h : RegHit), s.ready r (writeLevel [a.toNat]) 0 = true → findAddr a.toNat = some h →
      let u := s.admitted r 0x0012
      let old := u.regOld a.toNat h
      let w := ((old &&& ~~~h.id.w1c) &&& ~~~mask) ||| (v &&& mask)
      u.writeStatus r a.toNat w = none →
      Completes (.regModify r a mask v) s fun t => t = (u.writeAt r a.toNat w).complete r stOK (leBytes 4 old.toNat))

/-- Tables are read, streams subscribed (R154; R156; R160; R149). TABLE_DIR_READ, TABLE_READ, SUBSCRIBE and UNSUBSCRIBE
complete in every state that is ready for them. TABLE_DIR_READ of 1 to 64 entries answers the directory's count and
the entries asked for, TABLE_READ the bytes asked for of a table's body, both within the agreed message size and with
no effect. A SUBSCRIBE of a stream's instance adds one subscription under the next number and answers that number:
without envelopes at no cost, with envelopes (feature 6) where the 400 envelopes a second still hold. UNSUBSCRIBE of
an own subscription removes it and no other. -/
def Obligations.TablesAndSubscriptions : Prop :=
  (∀ (s : State) (r : HostReq) (f n : W16), s.ready r 0 3 = true → 1 ≤ n.toNat → n.toNat ≤ 64 →
      28 + 24 * min n.toNat (s.img.tables.length - f.toNat) ≤ (s.sess r.sess).maxMsg →
      Completes (.tableDirRead r f n) s fun t => s.hostKeeps t r ∧ t = { s with clk := t.clk, hst := t.hst, out := t.out } ∧
        s.answers t r 0x0030 stOK (leBytes 2 s.img.tables.length ++ leBytes 2 0 ++
          span s.slotBytes (128 + 24 * f.toNat) (24 * min n.toNat (s.img.tables.length - f.toNat)))) ∧
  (∀ (s : State) (r : HostReq) (id : W16) (o n : Word) (b : List Byte), s.ready r 0 3 = true → s.img.body id.toNat = some b →
      o.toNat + n.toNat ≤ b.length → 24 + n.toNat ≤ (s.sess r.sess).maxMsg →
      Completes (.tableRead r id o n) s fun t => s.hostKeeps t r ∧ t = { s with clk := t.clk, hst := t.hst, out := t.out } ∧
        s.answers t r 0x0031 stOK (span b o.toNat n.toNat)) ∧
  (∀ (s : State) (r : HostReq) (stream : Byte) (decim inst : W16), s.ready r 0 5 = true →
      1 ≤ stream.toNat → stream.toNat ≤ 6 → 1 ≤ decim.toNat → decim.toNat ≤ 1000 → instanceOk stream.toNat inst.toNat = true →
      (s.hst.subs.filter fun k => k.sess == r.sess).length < 32 → s.envRate ≤ 400 * 3600000 →
      Completes (.subscribe r stream 0 decim inst) s fun t =>
        s.answers t r 0x0040 stOK (leBytes 2 s.hst.nextSub ++ leBytes 2 0) ∧
        t = { s with clk := { s.clk with opt := max s.clk.opt r.opt, past := t.clk.past }, hst := t.hst, out := t.out } ∧
        t.hst.subs = s.hst.subs ++ [⟨s.hst.nextSub, r.sess, stream.toNat, false, decim.toNat, inst.toNat, 0, 0⟩] ∧
        t.hst.nextSub = s.hst.nextSub % 65535 + 1 ∧ t.hst.ring = s.hst.ring ∧ t.hst.ops = s.hst.ops ∧
        (∀ k, k ≠ r.sess → t.sess k = s.sess k)) ∧
  (∀ (s : State) (r : HostReq) (stream : Byte) (decim inst : W16), s.ready r 0 5 = true → (s.sess r.sess).agreed.getLsbD 6 = true →
      1 ≤ stream.toNat → stream.toNat ≤ 6 → 1 ≤ decim.toNat → decim.toNat ≤ 1000 → instanceOk stream.toNat inst.toNat = true →
      (s.hst.subs.filter fun k => k.sess == r.sess).length < 32 →
      s.envRate + 1000 * s.streamRate stream.toNat inst.toNat / decim.toNat ≤ 400 * 3600000 →
      Completes (.subscribe r stream 1 decim inst) s fun t =>
        s.answers t r 0x0040 stOK (leBytes 2 s.hst.nextSub ++ leBytes 2 0) ∧
        t = { s with clk := { s.clk with opt := max s.clk.opt r.opt, past := t.clk.past }, hst := t.hst, out := t.out } ∧
        t.hst.subs = s.hst.subs ++ [⟨s.hst.nextSub, r.sess, stream.toNat, true, decim.toNat, inst.toNat, 0,
          1000 * s.streamRate stream.toNat inst.toNat / decim.toNat⟩] ∧
        t.hst.nextSub = s.hst.nextSub % 65535 + 1 ∧ t.hst.ring = s.hst.ring ∧ t.hst.ops = s.hst.ops ∧
        (∀ k, k ≠ r.sess → t.sess k = s.sess k)) ∧
  (∀ (s : State) (r : HostReq) (n : W16), s.ready r 0 5 = true → (∃ k ∈ s.hst.subs, k.id = n.toNat ∧ k.sess = r.sess) →
      Completes (.unsubscribe r n) s fun t => s.answers t r 0x0041 stOK [] ∧
        t = { s with clk := { s.clk with opt := max s.clk.opt r.opt, past := t.clk.past }, hst := t.hst, out := t.out } ∧
        t.hst.subs = s.hst.subs.filter (fun k => k.id != n.toNat) ∧ t.hst.ring = s.hst.ring ∧ t.hst.ops = s.hst.ops ∧
        (∀ k, k ≠ r.sess → t.sess k = s.sess k))

/-- Challenges, tokens and what they grant (R89; R91; R92; R93). A ready TOKEN_CHALLENGE at SERVICE issues a nonce of 16
bytes, in the place of one outstanding, and answers it. A ready TOKEN_PRESENT of 224 bytes within 300 s of its nonce
consumes the nonce; an accepted token grants its actions for 300 s, and with OWNER_TRANSFER installs the new owner
certificate; a rejected one grants nothing and is answered TOKEN_REFUSED. A nonce and a grant expire after 300 s. No
other session changes. -/
def Obligations.TokensAndGrants : Prop :=
  (∀ (s : State) (r : HostReq), s.ready r 2 9 = true →
      Completes (.tokenChallenge r) s fun t =>
        t = { s with clk := { s.clk with opt := max s.clk.opt r.opt, past := t.clk.past }, hst := t.hst, out := t.out } ∧
        (∃ b : List Byte, b.length = 16 ∧ s.answers t r 0x0060 stOK b ∧
          (t.sess r.sess).nonce = some { bytes := b, issued := max s.clk.opt r.opt }) ∧
        (t.sess r.sess).grant = (s.sess r.sess).grant ∧ (∀ k, k ≠ r.sess → t.sess k = s.sess k) ∧ t.hst.subs = s.hst.subs) ∧
  (∀ (s : State) (r : HostReq) (tok : List Byte) (c : Bool) (n : NonceSt), s.ready r 2 9 = true → tok.length = 224 →
      (s.sess r.sess).nonce = some n → max s.clk.opt r.opt < n.issued + 300000000000 →
      Completes (.tokenPresent r tok c) s fun t => (t.sess r.sess).nonce = none ∧ (∀ k, k ≠ r.sess → t.sess k = s.sess k) ∧
        (s.tokenOk n.bytes tok c = true →
          s.answers t r 0x0061 stOK (leBytes 2 (u16 tok 6) ++ leBytes 2 0) ∧
          (t.sess r.sess).grant = (s.sess r.sess).grant ++
            [{ actions := BitVec.ofNat 3 (u16 tok 6 % 4), until_ := max s.clk.opt r.opt + 300000000000 }] ∧
          t = { s with clk := t.clk, hst := t.hst, out := t.out, flash := { s.flash with
                  ownerCert := if (u16 tok 6).testBit 2 then some (span tok 32 48) else s.flash.ownerCert } }) ∧
        (s.tokenOk n.bytes tok c = false →
          s.answers t r 0x0061 stTOKEN [] ∧ (t.sess r.sess).grant = (s.sess r.sess).grant ∧
          t = { s with clk := t.clk, hst := t.hst, out := t.out })) ∧
  (∀ (s : State) (o : Opt) (k : Fin 8), Completes (.nonceExpiry o k) s fun t =>
    t = { s.begin o with hst := t.hst } ∧ (∀ j, j ≠ k.val → t.sess j = s.sess j) ∧
    (∀ n, (s.sess k.val).nonce = some n →
      t.sess k.val = { s.sess k.val with nonce := if n.issued + 300000000000 ≤ o then none else some n })) ∧
  (∀ (s : State) (o : Opt) (k : Fin 8), Completes (.tokenGrantExpiry o k) s fun t =>
    t = { s.begin o with hst := t.hst } ∧ (∀ j, j ≠ k.val → t.sess j = s.sess j) ∧
    t.sess k.val = { s.sess k.val with grant := (s.sess k.val).grant.filter fun g => decide (o < g.until_) })

/-- TIME_SET, corrections in and host silence (R14; R161; R279; R283; R296; R308; R310; R312). Each ready TIME_SET that
its target admits, with the tick running, waits for the next tick with its operation in flight, and nothing else
changes. A ready RTCM_IN for a RONREX source appends the good frames of its payload to that source, whose channel may
be found full and is then counted (R14), and answers their number and that of the rejected ones; RTCM_FRAME takes the
oldest frame that waits. A tick that starts HOST_SILENCE or more after the last qualifying message before it makes the
host ABSENT once, counted, and a tick after the next qualifying message makes it PRESENT again. -/
def Obligations.TimeCorrectionsAndSilence : Prop :=
  (∀ (s : State) (r : HostReq) (x : BitVec 64) (l : Byte), s.ready r 1 13 = true → s.clk.running = true →
    let q (target leap value : Nat) (t : State) : Prop :=
      t = { s with clk := { s.clk with opt := max s.clk.opt r.opt, past := t.clk.past }, hst := t.hst, out := [],
                   tim := { s.tim with cmds := s.tim.cmds ++ [⟨target, leap, value, r⟩] } } ∧
      ∃ b, t.hst.ops = s.hst.ops ++ [⟨r, 0x00A0, none, b, false⟩]
    Completes (.timeSetCvtSet r x) s (q 1 0 x.toNat) ∧
    (s.tim.dvtSet = true → Completes (.timeSetCvtFollow r) s (q 2 0 0)) ∧
    (s.tim.dvtSet = false → Completes (.timeSetAiding r x) s (q 3 0 x.toNat)) ∧
    (s.tim.leapGnss = none ∧ s.tim.ptp.utcOffset = none → Completes (.timeSetLeap r l) s (q 4 l.toNat 0))) ∧
  (∀ (s : State) (r : HostReq) (data : List Byte) (k : Nat), s.ready r 1 12 = true →
      (List.range 2).find? (fun i => s.img.corrKind i == 1) = some k → s.region rNAV ≠ .frozen →
      let d := deframe data.length data
      d.frames ≠ [] ∨ d.bad ≠ 0 →
      Completes (.rtcmIn r data) s fun t => s.hostKeeps t r ∧
        s.answers t r 0x0053 stOK (leBytes 2 d.frames.length ++ leBytes 2 (d.bad + (if d.cut then 1 else 0))) ∧
        t = { s with clk := t.clk, hst := t.hst, out := t.out, free := t.free, regions := t.regions,
                     nav := { s.nav with rtcm := upd s.nav.rtcm k fun x => { x with good := satAdd x.good d.frames.length, crcErr := satAdd x.crcErr d.bad, waiting := x.waiting ++ d.frames, bytes := [] } } } ∧
        (t.regions = s.regions ∨ t.regions = upd s.regions rNET fun x => { x with hsFull := satInc x.hsFull })) ∧
  (∀ (s : State) (o : Opt) (k : Fin 2), Completes (.rtcmFrame o k) s fun t =>
    t = { s.begin o with nav := t.nav } ∧
    (∀ b l, (rd s.nav.rtcm k.val).waiting = b :: l ∧ s.runs rNAV = true → (rd t.nav.rtcm k.val).waiting = l ∧
      ((msmOf (msgBits b 0 12) = none ∧ msgBits b 0 12 ∉ [1005, 1006, 1033, 1230, 1019, 1020, 1042, 1044, 1046]) →
        (rd t.nav.rtcm k.val).unsup = satInc (rd s.nav.rtcm k.val).unsup)) ∧
    ((rd s.nav.rtcm k.val).waiting = [] ∨ s.runs rNAV = false → t = s.begin o)) ∧
  (∀ (s : State) (o : Opt), Completes (.hostSilenceExpiry o) s fun t =>
    t = { s.begin o with
        hst := t.hst, rcd := t.rcd, psw := t.psw, vlv := t.vlv, col := t.col, lop := t.lop, prf := t.prf,
        str := t.str, free := t.free, out := t.out } ∧
    (s.hst.present = true ∧ s.clk.running = true ∧ s.hst.tTick + s.img.hostSilence ≤ s.clk.tickOpt ∧ s.region rCTL ≠ .frozen ∧ s.netUp = true →
      t.hst.present = false ∧ t.hst.expired = true ∧ t.hst.expiryCnt = satInc s.hst.expiryCnt ∧ t.prf.absentEdge = true ∧
      (∀ n, n < 40 ∧ (s.boundSlots 2 n).isEmpty = true ∧ s.img.hostAbsence 0x0C01 n 0 = 1 → rd t.psw.duty n = 0) ∧
      (∀ n, n < 8 → (rd t.col.ch n).sheepdog = (s.colUsed n && s.colSource n == 1))) ∧
    (s.hst.present = false ∨ s.clk.tickOpt < s.hst.tTick + s.img.hostSilence → t = s.begin o)) ∧
  (∀ (s : State) (o : Opt), Completes (.hostReturn o) s fun t =>
    t = { s.begin o with hst := t.hst, col := t.col, prf := t.prf } ∧
    (∀ m, s.hst.present = false ∧ s.hst.heard = some m ∧ s.clk.running = true ∧ m < s.clk.tickOpt ∧ s.netUp = true →
      t.hst = { s.hst with present := true, heard := none } ∧ t.prf = { s.prf with returnEdge := true } ∧
      (∀ n, n < 8 → (rd t.col.ch n).sheepdog = false)) ∧
    (s.hst.present = true ∨ s.hst.heard = none → t = s.begin o))

/-- Input images, measurement frames, flow and IMU samples (R163; R165; R167; R175; R179; R181; R186).
INPUT_IMAGE_PUBLISH, MEAS_FRAME_PUBLISH, FLOW_SAMPLE, IMU_SAMPLE and IMU_TIMEOUT complete in every state. At a tick's
cut-off an image goes into the mailbox of CTL in the place of an unread one, which is counted as skipped; an analog
input that is not ratiometric and lies below LO_FAULT or above HI_FAULT is invalid, with NaN as its value. A frame
that waits is published under the next FRAME_SEQ, as one item of its stream. A flow sample counts in its window. A
good IMU sample is the one in force and is forwarded with its OPT, a bad one or 5 ms without any make it invalid.
Where SNS does not run only OPT moves. -/
def Obligations.SensorImages : Prop :=
  (∀ (s : State) (c : ConvIn), Completes (.inputImagePublish c) s fun t =>
    t = { s.begin c.opt with
        setSlots := t.setSlots, grp := t.grp, hst := t.hst, col := t.col, sns := t.sns, flw := t.flw, tim := t.tim,
        yld := t.yld, free := t.free, out := t.out } ∧
    (∀ k, s.cutTick c.opt = some k ∧ s.runs rSNS = true ∧ s.inReset rSNS 0 = false ∧ s.sns.cut ≠ some c.opt →
      t.sns.mail = some ((s.begin c.opt).convert c (decide (200 < s.clk.tick + k) && (s.clk.tick + k) % 200 == 1)).imageOf ∧
      t.sns.mailSeq = s.sns.mailSeq + 1 ∧ t.sns.cut = some c.opt ∧
      t.sns.mailSkip = (if s.sns.mail.isSome then s.sns.mailSkip + 1 else s.sns.mailSkip) ∧
      (∀ n, n < 24 → (rd t.sns.ain n).raw = BitVec.ofNat 16 ((c.ain.getD n []).getLastD 0)) ∧
      (∀ n, n < 24 ∧ s.ainMode n ≠ 0x11 ∧ (rd s.sns.ain n).shuntOff = none →
        let q := meanUnits (s.ainMode n) (c.ain.getD n []) (c.sup.getD (s.ainSupply n) []);
        (q.num < ((s.ainLimits n).1 : Int) * q.den ∨ ((s.ainLimits n).2 : Int) * q.den < q.num →
          (rd t.sns.ain n).valid = false ∧ (rd t.sns.ain n).eng = fNaN ∧ (rd t.sns.ain n).faultSeen = true))) ∧
    (s.cutTick c.opt = none ∨ s.runs rSNS = false ∨ s.sns.cut = some c.opt → t = s.begin c.opt)) ∧
  (∀ (s : State) (o : Opt), Completes (.measFramePublish o) s fun t =>
    t = { s.begin o with
        regions := t.regions, sm := t.sm, hst := t.hst, rcd := t.rcd, sns := t.sns, flw := t.flw, yld := t.yld,
        fmt := t.fmt, free := t.free, out := t.out } ∧
    (∀ b, s.sns.next = some b ∧ s.runs rSNS = true →
      (s.sns.haveFrame = true → t.sns = { s.sns with
          next := none
          frame := leBytes 4 (s.sns.frameSeq + 1).toNat ++ b
          frameSeq := s.sns.frameSeq + 1
          frameBox := s.sns.frameBox.write o }) ∧
      (s.sns.haveFrame = false → t.sns = { s.sns with
          next := none
          frame := leBytes 4 0 ++ b
          frameSeq := 0
          haveFrame := true
          frameBox := s.sns.frameBox.write o }) ∧
      (∀ k, s.hst.subs = [k] ∧ k.stream = 1 → t.hst.subs = [{ k with items := k.items + 1 }])) ∧
    (s.sns.next = none ∨ s.runs rSNS = false → t = s.begin o)) ∧
  (∀ (s : State) (o : Opt) (a b : BridgeIn), Completes (.flowSample o a b) s fun t =>
    t = { s.begin o with flw := t.flw } ∧
    (s.runs rSNS = true ∧ s.inReset rSNS 3 = false → t.flw.samples = s.flw.samples + 1 ∧ t.flw.ls = s.flw.ls ∧ t.flw.calState = s.flw.calState ∧
      (s.flw.calState ≠ .taring → t.flw.tareA = s.flw.tareA) ∧
      (s.flw.calState = .taring → t.flw.tareA.length = s.flw.tareA.length + 1)) ∧
    (s.runs rSNS = false → t = s.begin o)) ∧
  (∀ (s : State) (o : Opt) (v : List F32) (ok : Bool), Completes (.imuSample o v ok) s fun t =>
    t = { s.begin o with regions := t.regions, sns := t.sns, free := t.free } ∧
    (s.runs rSNS = true → t.sns.imu.valid = ok ∧ t.sns.imu.last = o ∧
      (ok = true → ∀ k, k < 6 → rd t.sns.imu.v k = v.getD k 0) ∧ (ok = false → t.sns.imu.v = s.sns.imu.v) ∧
      t.sns = { s.sns with imu := t.sns.imu, imuFifo := t.sns.imuFifo } ∧
      (ok = true → t.sns.imuFifo = s.sns.imuFifo ++ [(o, t.sns.imu.v)]) ∧ (ok = false → t.sns.imuFifo = s.sns.imuFifo)) ∧
    (s.runs rSNS = false → t = s.begin o)) ∧
  (∀ (s : State) (o : Opt), Completes (.imuTimeout o) s fun t =>
    t = { s.begin o with sns := t.sns } ∧
    (s.runs rSNS = true ∧ max s.sns.imu.last s.sns.start + 5000000 ≤ o → t.sns = { s.sns with imu := { s.sns.imu with valid := false } }) ∧
    (s.runs rSNS = false ∨ o < max s.sns.imu.last s.sns.start + 5000000 → t = s.begin o))

/-- Shunts, frequency inputs and sensor supplies (R168; R169; R170; R176; R183). SHUNT_DISCONNECT, SHUNT_RECONNECT,
FIN_ZERO_TIMEOUT, FIN_EDGE, SUP5_TRIP and SUP5_RETRY complete in every state, FIN_POS_CLEAR in every state ready for
it. A 4 mA to 20 mA input above 25 mA loses its shunt for 1 s. With no counted edge for ZERO_MS a frequency input
forgets its edges and the next image reads zero. A counted edge is remembered; in quadrature an edge of A or B alone
moves the count by one, and both together are an error. A supply 2 ms in its limit trips, which the next image counts,
and is on again 1 s later. No other channel changes. -/
def Obligations.SensorChannelEvents : Prop :=
  (∀ (s : State) (o : Opt) (n : Fin 24), Completes (.shuntDisconnect o n) s fun t =>
    t = { s.begin o with sns := t.sns } ∧
    (s.runs rSNS = true ∧ s.ainMode n.val = 0x12 ∧ (rd s.sns.ain n.val).shuntOff = none →
      t.sns = { s.sns with ain := upd s.sns.ain n.val fun c => { c with shuntOff := some o } }) ∧
    (s.runs rSNS = false ∨ s.ainMode n.val ≠ 0x12 ∨ (rd s.sns.ain n.val).shuntOff.isSome = true → t = s.begin o)) ∧
  (∀ (s : State) (o : Opt) (n : Fin 24), Completes (.shuntReconnect o n) s fun t =>
    t = { s.begin o with sns := t.sns } ∧
    (∀ e, (rd s.sns.ain n.val).shuntOff = some e →
      (e + 1000000000 ≤ o → t.sns = { s.sns with ain := upd s.sns.ain n.val fun c => { c with shuntOff := none } }) ∧
      (o < e + 1000000000 → t = s.begin o)) ∧
    ((rd s.sns.ain n.val).shuntOff = none → t = s.begin o)) ∧
  (∀ (s : State) (o : Opt) (n : Fin 24), Completes (.finZeroTimeout o n) s fun t =>
    t = { s.begin o with sns := t.sns } ∧
    (∀ lim, lim = (if (rd s.sns.fin n.val).last = 0 then s.sns.start else (rd s.sns.fin n.val).last) +
        s.snsField 2 12 n.val (fun b => u16 b 2) 2000 * 1000000 →
      (s.runs rSNS = true ∧ lim ≤ o → t.sns = { s.sns with fin := upd s.sns.fin n.val fun x => { x with timedOut := true, edges := [] } }) ∧
      (s.runs rSNS = false ∨ o < lim → t = s.begin o))) ∧
  (∀ (s : State) (o : Opt) (n : Fin 24) (up other : Bool), Completes (.finEdge o n up other) s fun t =>
    t = { s.begin o with sns := t.sns } ∧
    (s.runs rSNS = false → t = s.begin o) ∧
    (s.runs rSNS = true →
      (rd t.sns.fin n.val).level = up ∧
      (up = true → (rd t.sns.fin n.val).edges = (o :: (rd s.sns.fin n.val).edges).take 80 ∧ (rd t.sns.fin n.val).last = o) ∧
      (∀ k, k / 2 ≠ n.val / 2 → rd t.sns.fin k = rd s.sns.fin k) ∧
      (s.finQuad (n.val / 2 * 2) = true →
        (other = true → (rd t.sns.fin (n.val / 2 * 2)).errs = (rd s.sns.fin (n.val / 2 * 2)).errs + 1 ∧
          (rd t.sns.fin (n.val / 2 * 2)).count = (rd s.sns.fin (n.val / 2 * 2)).count) ∧
        (other = false → (rd t.sns.fin (n.val / 2 * 2)).errs = (rd s.sns.fin (n.val / 2 * 2)).errs ∧
          (rd t.sns.fin (n.val / 2 * 2)).count = (rd s.sns.fin (n.val / 2 * 2)).count +
            (if (if n.val = n.val / 2 * 2 then up != (rd s.sns.fin (n.val / 2 * 2 + 1)).level
            else up == (rd s.sns.fin (n.val / 2 * 2)).level) = true then 1 else -1))))) ∧
  (∀ (s : State) (r : HostReq) (v : Word), s.ready r (writeLevel [0x20580]) 0 = true → s.blockShut 2 = false → v &&& 0xFF000000 = 0 →
      Completes (.finPosClear r v) s fun t => s.answers t r 0x0011 stOK [] ∧ s.hostKeeps t r ∧
        t = { s with clk := t.clk, hst := t.hst, out := t.out, sns := { s.sns with fin := t.sns.fin } } ∧
        (∀ n, n < 24 → rd t.sns.fin n = if s.finQuad n = true ∧ v.getLsbD n = true then { rd s.sns.fin n with posClr := true }
          else rd s.sns.fin n)) ∧
  (∀ (s : State) (o : Opt) (n : Fin 4), Completes (.sup5Trip o n) s fun t =>
    t = { s.begin o with sns := t.sns } ∧
    (∀ e, s.runs rSNS = true ∧ s.inReset rSNS 0 = false ∧ s.sns.cut.isSome = true ∧ (rd s.sns.sup n.val).live = .limit ∧
        (rd s.sns.sup n.val).limitAt = some e ∧ e + 2000000 ≤ o →
      t.sns = { s.sns with sup := upd s.sns.sup n.val fun c =>
                  { c with live := .tripped, limitAt := none, trips := c.trips + 1, tripAt := o } }) ∧
    ((rd s.sns.sup n.val).live = .off ∨ (rd s.sns.sup n.val).live = .tripped → t = s.begin o)) ∧
  (∀ (s : State) (o : Opt) (n : Fin 4), Completes (.sup5Retry o n) s fun t =>
    t = { s.begin o with sns := t.sns } ∧
    ((rd s.sns.sup n.val).live = .tripped ∧ (rd s.sns.sup n.val).tripAt + 1000000000 ≤ o →
      t.sns = { s.sns with sup := upd s.sns.sup n.val fun x => { x with live := .on } }) ∧
    ((rd s.sns.sup n.val).live ≠ .tripped ∨ o < (rd s.sns.sup n.val).tripAt + 1000000000 → t = s.begin o))

/-- Calibration commands and loss channels (R194; R195; R196; R198; R199; R207; R212). CAL_START, CAL_STOP, CAL_ENTER,
CAL_ABORT and TARE complete as ready writes of FLW_CAL_CMD: each is answered OK and waits for the window boundary,
where it acts in the state that admits it and otherwise gives RESULT 0x08. TARE_COMPLETE at a window boundary, TARE_S
after the tare began, ends it with RESULT 0x06, 0x07 or 0x09. A hit of a running channel is counted in its class; 100
ms outside its window put a channel in FAULT with LAST_ERR 0x01 and no counts; 1 s inside ask for its return;
LOSS_CNT_CLEAR clears the channels named; a due spectrum is published, one body for each channel, and starts afresh. -/
def Obligations.CalibrationAndLoss : Prop :=
  (∀ (s : State) (r : HostReq) (v : Word), s.ready r (writeLevel [0x30020]) 0 = true → s.blockShut 3 = false → v &&& 0xFFFFFFF8 = 0 →
        field v 0 3 = 1 →
      Completes (.calStart r v) s fun t => s.answers t r 0x0011 stOK [] ∧ s.hostKeeps t r ∧
        t = { s with clk := t.clk, hst := t.hst, out := t.out, flw := { s.flw with calCmds := s.flw.calCmds ++ [.start] } }) ∧
  (∀ (s : State) (r : HostReq) (v : Word), s.ready r (writeLevel [0x30020]) 0 = true → s.blockShut 3 = false → v &&& 0xFFFFFFF8 = 0 →
        field v 0 3 = 2 →
      Completes (.calStop r v) s fun t => s.answers t r 0x0011 stOK [] ∧ s.hostKeeps t r ∧
        t = { s with clk := t.clk, hst := t.hst, out := t.out, flw := { s.flw with calCmds := s.flw.calCmds ++ [.stop] } }) ∧
  (∀ (s : State) (r : HostReq) (v : Word), s.ready r (writeLevel [0x30020]) 0 = true → s.blockShut 3 = false → v &&& 0xFFFFFFF8 = 0 →
        field v 0 3 = 3 →
      Completes (.calEnter r v) s fun t => s.answers t r 0x0011 stOK [] ∧ s.hostKeeps t r ∧
        t = { s with clk := t.clk, hst := t.hst, out := t.out, flw := { s.flw with calCmds := s.flw.calCmds ++ [.enter] } }) ∧
  (∀ (s : State) (r : HostReq) (v : Word), s.ready r (writeLevel [0x30020]) 0 = true → s.blockShut 3 = false → v &&& 0xFFFFFFF8 = 0 →
        field v 0 3 = 4 →
      Completes (.calAbort r v) s fun t => s.answers t r 0x0011 stOK [] ∧ s.hostKeeps t r ∧
        t = { s with clk := t.clk, hst := t.hst, out := t.out, flw := { s.flw with calCmds := s.flw.calCmds ++ [.abort] } }) ∧
  (∀ (s : State) (r : HostReq) (v : Word), s.ready r (writeLevel [0x30020]) 0 = true → s.blockShut 3 = false → v &&& 0xFFFFFFF8 = 0 →
        field v 0 3 = 5 →
      Completes (.tare r v) s fun t => s.answers t r 0x0011 stOK [] ∧ s.hostKeeps t r ∧
        t = { s with clk := t.clk, hst := t.hst, out := t.out, flw := { s.flw with calCmds := s.flw.calCmds ++ [.tare] } }) ∧
  (∀ s : State,
    (s.flw.calState = .idle → (s.calCommand .start).flw.calState = .running ∧ (s.calCommand .tare).flw.calState = .taring ∧
      (s.calCommand .stop).flw.result = 0x08 ∧ (s.calCommand .enter).flw.result = 0x08) ∧
    (s.flw.calState = .running → (s.calCommand .stop).flw.calState = .stopped ∧ (s.calCommand .abort).flw.calState = .idle ∧
      (s.calCommand .abort).flw.result = 0x05 ∧ (s.calCommand .start).flw.result = 0x08) ∧
    (s.flw.calState = .stopped → (s.calCommand .enter).flw.calState = .idle)) ∧
  (∀ (s : State) (c : CalCmd), s.flw.calCmds = [c] → s.snapReady 0x0300 = none → s.snapReady 0x0301 = none →
      s.flowBoundary.flw.calCmds = [] ∧ s.flowBoundary.flw.calState = (s.calCommand c).flw.calState ∧
      s.flowBoundary.flw.result = (s.calCommand c).flw.result) ∧
  (∀ (s : State) (o : Opt), Completes (.tareComplete o) s fun t =>
    t = { s.begin o with setSlots := t.setSlots, flw := t.flw, free := t.free } ∧
    (s.flw.calState = .taring ∧ s.sns.frameOpt = o ∧ s.flw.tareAt + s.flowField (fun b => u16 b 24) 5 * 1000000000 ≤ o →
      t.flw.calState = .idle ∧ (t.flw.result = 0x06 ∨ t.flw.result = 0x07 ∨ t.flw.result = 0x09) ∧
      (s.flw.tareBad = true → t.flw.result = 0x07) ∧ (t.flw.result ≠ 0x06 → t.setSlots = s.setSlots)) ∧
    (s.flw.calState ≠ .taring ∨ s.sns.frameOpt ≠ o → t = s.begin o)) ∧
  (∀ (s : State) (n : Fin 16) (h : HitIn), Completes (.lossHit n h) s fun t =>
    (∀ m, s.runs rSNS = true ∧ s.inReset rSNS (1 + n.val / 8) = false ∧ s.hitStarts n.val h = true ∧
        (rd s.flw.ls n.val).counting = true ∧ (rd s.flw.ls n.val).fault = false ∧ s.classMap n.val = some m →
      (rd t.flw.ls n.val).cnt =
        upd (rd s.flw.ls n.val).cnt (hitClass m (s.hitWalk n.val h).feat (s.hitPile n.val h)) satInc ∧
      (rd t.flw.ls n.val).deadEnd = s.hitStop n.val h ∧
      (s.hitSat n.val h = true → (rd t.flw.ls n.val).satCnt = satInc (rd s.flw.ls n.val).satCnt ∧ (rd t.flw.ls n.val).lastErr = 0x03)) ∧
    (s.runs rSNS = false ∨ s.hitStarts n.val h = false → t.flw = s.flw) ∧
    ((rd s.flw.ls n.val).counting = false ∨ (rd s.flw.ls n.val).fault = true → (rd t.flw.ls n.val).cnt = (rd s.flw.ls n.val).cnt) ∧
    (∀ k, k ≠ n.val → rd t.flw.ls k = rd s.flw.ls k) ∧ t = { s with clk := t.clk, flw := { s.flw with ls := t.flw.ls }, out := [] }) ∧
  (∀ (s : State) (o : Opt) (n : Fin 16), Completes (.lossInputFault o n) s fun t =>
    t = { s.begin o with hst := t.hst, rcd := t.rcd, flw := t.flw, free := t.free, out := t.out } ∧
    (s.runs rSNS = true ∧ (rd s.flw.ls n.val).fault = false →
      (rd t.flw.ls n.val).fault = true ∧ (rd t.flw.ls n.val).lastErr = 0x01 ∧ (rd t.flw.ls n.val).counting = false ∧
      (rd t.flw.ls n.val).cnt = Vector.replicate 4 0) ∧
    (s.runs rSNS = true ∧ (rd s.flw.ls n.val).fault = true → (rd t.flw.ls n.val).inState = none) ∧
    (s.runs rSNS = false → t = s.begin o) ∧ (∀ k, k ≠ n.val → rd t.flw.ls k = rd s.flw.ls k)) ∧
  (∀ (s : State) (o : Opt) (n : Fin 16), Completes (.lossInputRecover o n) s fun t =>
    t = { s.begin o with flw := t.flw } ∧
    ((rd s.flw.ls n.val).fault = true ∧ (rd s.flw.ls n.val).lastErr = 0x01 →
      t.flw = { s.flw with ls := upd s.flw.ls n.val fun x => { x with inState := some o } }) ∧
    ((rd s.flw.ls n.val).fault = false ∨ (rd s.flw.ls n.val).lastErr ≠ 0x01 → t = s.begin o)) ∧
  (∀ (s : State) (r : HostReq) (v : Word), s.ready r (writeLevel [0x301C0]) 0 = true → s.blockShut 3 = false → v &&& 0xFFFF0000 = 0 →
      Completes (.lossCntClear r v) s fun t => s.answers t r 0x0011 stOK [] ∧ s.hostKeeps t r ∧
        t = { s with clk := t.clk, hst := t.hst, out := t.out, flw := { s.flw with
          ls := mapIdxV s.flw.ls fun k x => if v.toNat.testBit k then { x with overlong := 0, satCnt := 0 } else x } }) ∧
  (∀ (s : State) (o : Opt), Completes (.lossSpectrumPublish o) s fun t =>
    t = { s.begin o with hst := t.hst, flw := t.flw, free := t.free, out := t.out } ∧
    (s.flw.specWait = [] ∧ s.flw.specFrames ≠ 0 ∧ s.flw.specLast = true →
      t.flw.specFrames = 0 ∧ t.flw.specLast = false ∧
      (∀ n, n < 16 → rd t.flw.ls n =
        { rd s.flw.ls n with specCnt := Vector.replicate 4 0, specPeak := [], specEn := [], specInvalid := false }) ∧
      (∀ k, s.hst.subs = [k] ∧ k.stream = 4 →
        (k.inst = 0xFFFF → t.hst.subs = [{ k with items := k.items + 16 }]) ∧
        (k.inst < 16 → t.hst.subs = [{ k with items := k.items + 1 }]))) ∧
    (s.flw.specWait ≠ [] → t.flw = { s.flw with specWait := [] }) ∧
    (s.flw.specWait = [] ∧ (s.flw.specFrames = 0 ∨ s.flw.specLast = false) → t = s.begin o))

/-- Tracking channels: allocation, search, pull-in, tracking and coast (R272; R273; R274; R277; R293). NAV_ALLOCATOR,
MEASUREMENT_EPOCH, ACQ_PASS_END, PULLIN_LOCK, PULLIN_TIMEOUT, LOSS_OF_LOCK, COAST_SEARCH and COAST_TIMEOUT complete in
every state, and each takes its channel from state to state as the table of channel states gives it: a wanted triple
takes the lowest free channel, into search or pull-in; at an epoch a disabled channel is released and every other one
measures; at the end of its dwell a search that has found a cell goes to pull-in and one that has not releases its
channel; 20 epochs of lock begin tracking, 200 ms without release; a loss of lock coasts, with a search each 100 ms
and a release after 2 s. Other channels stay as they were. -/
def Obligations.NavChannels : Prop :=
  (∀ (s : State) (o : Opt) (i : SkyItem), s.runs rNAV = true → s.inReset rNAV 25 = false → (s.nav.allocDue = true ∨ s.onGrid o 1000000000 = true) →
    s.img.baseline = 0 → s.nav.whip = .normal → (s.begin o).skyWanted i = true → s.assigned ⟨i.sig, i.sv, false, i.elev, i.hot⟩ = false →
    Completes (.navAllocator o [i]) s fun t =>
      (∀ n, s.nav.freeCh = some n → (rd t.nav.ch n).sig = i.sig ∧ (rd t.nav.ch n).sv = i.sv ∧ (rd t.nav.ch n).ant = false ∧
        (rd t.nav.ch n).st = (if bloodhound i.sig then .search else .pullin) ∧
        (bloodhound i.sig = true → ∀ k, k ≠ n → { rd t.nav.ch k with elev := (rd s.nav.ch k).elev } = rd s.nav.ch k)) ∧
      (s.nav.freeCh = none → t.nav.chShort = true ∧ ∀ k, { rd t.nav.ch k with elev := (rd s.nav.ch k).elev } = rd s.nav.ch k)) ∧
  (∀ (s : State) (o : Opt) (l : List SkyItem), Completes (.navAllocator o l) s fun t =>
    t = { s.begin o with nav := t.nav } ∧ (s.runs rNAV = false → t = s.begin o)) ∧
  (∀ (s : State) (o : Opt) (ms : List MeasIn) (rf : List RfSt) (ma : List Nat), Completes (.measurementEpoch o ms rf ma) s fun t =>
    t = { s.begin o with nav := t.nav } ∧ (s.runs rNAV = false → t = s.begin o) ∧
    (s.runs rNAV = true ∧ s.nav.epochAt ≠ some o ∧
        (if s.tim.dvtSet then s.onGrid o 1000000 else s.clk.tick % 20 == 0 && o == s.clk.tickOpt) = true →
      t.nav.epochAt = some o ∧
      (∀ n, n < 384 → (rd t.nav.ch n).enF = s.nav.en.getLsbD n ∧ (s.nav.en.getLsbD n = false → (rd t.nav.ch n).st = .idle)) ∧
      (∀ n m, n < 384 ∧ (rd s.nav.ch n).st = .track ∧ s.nav.en.getLsbD n = true ∧ (rd s.nav.ch n).fault = false ∧
          s.constMask.testBit ((rd s.nav.ch n).sig / 16) = true ∧ ms.find? (fun x => x.ch == n) = some m →
        (rd t.nav.ch n).cn0 = min m.cn0 1023 ∧ (rd t.nav.ch n).sync = m.sync))) ∧
  (∀ (s : State) (o : Opt) (found : List (Nat × SearchCell)), Completes (.acqPassEnd o found) s fun t =>
    t = { s.begin o with nav := t.nav } ∧ (s.runs rNAV = false ∨ s.nav.pass = none → t = s.begin o) ∧
    (∀ q, s.runs rNAV = true ∧ s.inReset rNAV 24 = false ∧ s.nav.pass = some [q] ∧
        s.nav.passAt + 1000000 * searchDwell q.sig ≤ o ∧ q.left ≤ 8192 ∧ q.ch < 384 ∧ (rd s.nav.ch q.ch).st = .search →
      t.nav.passCnt = satInc s.nav.passCnt ∧ (∀ k, k ≠ q.ch → rd t.nav.ch k = rd s.nav.ch k) ∧
      (∀ b, s.passBest found q = some b →
        rd t.nav.ch q.ch = { rd s.nav.ch q.ch with st := .pullin, since := o, lockRun := 0, load := .cell b.code b.bin }) ∧
      (s.passBest found q = none → rd t.nav.ch q.ch = (rd s.nav.ch q.ch).release ∧ (satKey q.sig q.sv, o) ∈ t.nav.notWanted))) ∧
  (∀ (s : State) (o : Opt) (n : Fin 384),
    let c := rd s.nav.ch n.val
    Completes (.pullinLock o n) s (fun t =>
      t = { s.begin o with nav := t.nav } ∧ (s.runs rNAV = false ∨ c.st ≠ .pullin ∨ c.lockRun < 20 → t = s.begin o) ∧
      (s.runs rNAV = true ∧ c.st = .pullin ∧ 20 ≤ c.lockRun →
        rd t.nav.ch n.val = { c with st := .track, since := o, lowRun := 0, noPhase := 0 })) ∧
    Completes (.pullinTimeout o n) s (fun t =>
      t = { s.begin o with nav := t.nav } ∧ (s.runs rNAV = false ∨ c.st ≠ .pullin ∨ o < c.since + 200000000 → t = s.begin o) ∧
      (s.runs rNAV = true ∧ c.st = .pullin ∧ c.since + 200000000 ≤ o → rd t.nav.ch n.val = { c.release with lastErr := 2 }) ∧
      ∀ k, k ≠ n.val → rd t.nav.ch k = rd s.nav.ch k) ∧
    Completes (.lossOfLock o n) s (fun t =>
      t = { s.begin o with nav := t.nav } ∧ (s.runs rNAV = false ∨ c.st ≠ .track ∨ (c.lowRun < 200 ∧ c.noPhase < 50) → t = s.begin o) ∧
      (s.runs rNAV = true ∧ c.st = .track ∧ (200 ≤ c.lowRun ∨ 50 ≤ c.noPhase) →
        t.nav = { s.nav with ch := upd s.nav.ch n.val fun x => { x.coast o with lastErr := 1, err := true, lolCnt := satInc x.lolCnt } })) ∧
    Completes (.coastSearch o n) s (fun t =>
      t = { s.begin o with nav := t.nav } ∧ (∀ k, k ≠ n.val → rd t.nav.ch k = rd s.nav.ch k) ∧
      (s.runs rNAV = false ∨ c.st ≠ .coast ∨ c.searched = false ∨ o < c.since + 100000000 * (c.rounds + 1) → t = s.begin o) ∧
      (s.runs rNAV = true ∧ c.st = .coast ∧ c.searched = true ∧ s.nav.whip = .normal ∧ c.since + 100000000 * (c.rounds + 1) ≤ o →
        rd t.nav.ch n.val = { c with rounds := c.rounds + 1 } ∧ ∃ q, (q ∈ t.nav.queue ∨ q ∈ t.nav.pass.getD []) ∧ q.ch = n.val ∧ q.cls = .hot)) ∧
    Completes (.coastTimeout o n) s (fun t =>
      t = { s.begin o with nav := t.nav } ∧ (∀ k, k ≠ n.val → rd t.nav.ch k = rd s.nav.ch k) ∧
      (s.runs rNAV = false ∨ c.st ≠ .coast ∨ s.nav.whip ≠ .normal ∨ o < c.since + 2000000000 → t = s.begin o) ∧
      (s.runs rNAV = true ∧ c.st = .coast ∧ s.nav.whip = .normal ∧ c.since + 2000000000 ≤ o → rd t.nav.ch n.val = c.release)))

/-- Solutions, Whippet and the antenna ports (R271; R278; R284; R286; R287; R293). SOLUTION_EPOCH, WHIPPET_BURST,
WHIPPET_HOLD_END, ANTENNA_SHORT and ANTENNA_RETRY complete in every state; WHIPPET_REQUEST, WHIPPET_NORMAL,
COLD_RESTART and NAV_CH_CNT_CLEAR in every state ready for them. A due epoch takes its solution, with mode NONE below
four usable satellites and no heading without a baseline or a vector; one solution ends a burst. NAV_CTRL enters and
leaves Whippet, and a cold restart releases every channel and forgets almanac and position. The hold ends after
HOLD_S. An antenna above 100 mA loses its bias, counted, and is tried again after 1 s. -/
def Obligations.NavSolutionsAndWhippet : Prop :=
  (∀ (s : State) (o : Opt) (x : SolIn), Completes (.solutionEpoch o x) s fun t =>
    t = { s.begin o with grp := t.grp, hst := t.hst, nav := t.nav, tim := t.tim, out := t.out } ∧
    (∀ due, due = (if s.nav.whip = .normal then s.onGrid o s.solPeriod else s.nav.burst.isSome) →
      (s.runs rNAV = false ∨ due = false → t = s.begin o) ∧
      (s.runs rNAV = true ∧ s.inReset rNAV 25 = false ∧ due = true ∧ s.nav.solOpt ≠ o →
        t.nav.solOpt = o ∧ t.nav.svUsed ≤ x.sats.length ∧ (x.sats.length < 4 → t.nav.solMode = 0) ∧
        t.nav.lastPos = (if t.nav.solMode = 0 then s.nav.lastPos else some (x.lat, x.lon, x.height)) ∧
        (s.img.baseline = 0 → t.nav.hdgState = 0) ∧ (t.nav.hdgState = 0 → t.nav.hdg = fNaN ∧ t.nav.baseLen = fNaN) ∧
        (s.nav.whip ≠ .normal → t.nav.burst = none)))) ∧
  (∀ (s : State) (r : HostReq) (v : Word), s.ready r (writeLevel [0x60000]) 0 = true → s.blockShut 6 = false → v &&& 0xFFFFFFFC = 0 →
        field v 0 2 = 1 →
      Completes (.whippetRequest r v) s fun t => s.answers t r 0x0011 stOK [] ∧ s.hostKeeps t r ∧
        t = { s with clk := t.clk, hst := t.hst, out := t.out, nav := t.nav } ∧
        (s.nav.whip ≠ .normal → t.nav = s.nav) ∧
        (s.nav.whip = .normal → t.nav.whip = .whippet ∧ t.nav.ambiguity = false ∧ t.nav.hdgState = 0 ∧
          ∀ n, n < 384 → (rd t.nav.ch n).st ≠ .track)) ∧
  (∀ (s : State) (r : HostReq) (v : Word), s.ready r (writeLevel [0x60000]) 0 = true → s.blockShut 6 = false → v &&& 0xFFFFFFFC = 0 →
        field v 0 2 = 2 →
      Completes (.whippetNormal r v) s fun t => s.answers t r 0x0011 stOK [] ∧ s.hostKeeps t r ∧
        t = { s with clk := t.clk, hst := t.hst, out := t.out, nav := t.nav } ∧
        (s.nav.whip ≠ .whippet → t.nav = s.nav) ∧
        (s.nav.whip = .whippet → t.nav.whip = .normal ∧ t.nav.burst = none ∧ ∀ n, n < 384 → (rd t.nav.ch n).st = (rd s.nav.ch n).st)) ∧
  (∀ (s : State) (r : HostReq) (v : Word), s.ready r (writeLevel [0x60000]) 0 = true → s.blockShut 6 = false → v &&& 0xFFFFFFFC = 0 →
        field v 0 2 = 3 → 2 ≤ (s.sess r.sess).level →
      Completes (.coldRestart r v) s fun t => s.answers t r 0x0011 stOK [] ∧ s.hostKeeps t r ∧
        t = { s with clk := t.clk, hst := t.hst, out := t.out, nav := t.nav } ∧
        t.nav.almanac = false ∧
        t.nav.eph = [] ∧ t.nav.lastPos = none ∧ ∀ n, n < 384 → (rd t.nav.ch n).st = .idle) ∧
  (∀ (s : State) (o : Opt), Completes (.whippetBurst o) s fun t =>
    t = { s.begin o with nav := t.nav } ∧
    (s.runs rNAV = true ∧ s.nav.whip ≠ .normal ∧ s.nav.burst = none ∧ s.onGrid o 1000000000 = true ∧
        (s.nav.ch.toList.any fun c => c.st == .search || c.st == .pullin) = false →
      t.nav.burst = some (o + 1000000 * s.img.burstMs)) ∧
    (s.runs rNAV = false ∨ s.nav.whip = .normal ∨ s.nav.burst.isSome = true → t = s.begin o)) ∧
  (∀ (s : State) (o : Opt), Completes (.whippetHoldEnd o) s fun t =>
    t = { s.begin o with
        pwr := t.pwr, bud := t.bud, wake := t.wake, store := t.store, hst := t.hst, rcd := t.rcd, psw := t.psw,
        vlv := t.vlv, col := t.col, flw := t.flw, lop := t.lop, nav := t.nav, yld := t.yld, fmt := t.fmt,
        free := t.free, out := t.out } ∧
    (s.nav.whip = .hold ∧ s.nav.holdSince + s.img.holdS * 1000000000 ≤ o →
      t.nav.whip = .normal ∧ (s.pwr.ignOffSince = none → t.pwr = s.pwr)) ∧
    (s.nav.whip ≠ .hold → t = s.begin o)) ∧
  (∀ (s : State) (o : Opt) (a : Fin 2) (ma : Nat),
    let x := rd s.nav.ant a.val
    Completes (.antennaShort o a ma) s (fun t =>
      t = { s.begin o with nav := t.nav } ∧
      (s.runs rNAV = true ∧ x.bias ≠ 0 ∧ 100 < ma → t.nav = { s.nav with ant := upd s.nav.ant a.val fun x =>
        { x with bias := 0, short := true, isOpen := false, shortSeen := true, ma := 0, shortCnt := satInc x.shortCnt, shortAt := o } }) ∧
      (s.runs rNAV = false ∨ x.bias = 0 ∨ ma ≤ 100 → t = s.begin o)) ∧
    Completes (.antennaRetry o a ma) s (fun t =>
      t = { s.begin o with nav := t.nav } ∧
      (s.runs rNAV = true ∧ x.short = true ∧ x.shortAt + 1000000000 ≤ o →
        (ma ≤ 100 → rd t.nav.ant a.val = { x with bias := s.antBias a.val, short := false, isOpen := decide (ma < 2), ma := ma }) ∧
        (100 < ma → rd t.nav.ant a.val = { x with shortCnt := satInc x.shortCnt, shortAt := o })) ∧
      (s.runs rNAV = false ∨ x.short = false ∨ o < x.shortAt + 1000000000 → t = s.begin o))) ∧
  (∀ (s : State) (r : HostReq) (k : Fin 12) (v : Word), s.ready r (writeLevel [0x60240 + 4 * k.val]) 0 = true → s.blockShut 6 = false →
      Completes (.navChCntClear r k v) s fun t => s.answers t r 0x0011 stOK [] ∧ s.hostKeeps t r ∧
        t = { s with clk := t.clk, hst := t.hst, out := t.out, nav := { s.nav with
          ch := mapIdxV s.nav.ch fun n (c : NavCh) => if n / 32 = k.val ∧ v.getLsbD (n % 32) then { c with lolCnt := 0, slipCnt := 0 } else c } })

/-- Seconds, sources, holdover, leap seconds and time pulses (R298; R301; R302; R303; R306; R307; R308; R310; R322).
TIMEBASE_SECOND, SOURCE_LOST, HOLDOVER_LIMIT_EXPIRY, LEAP_SECOND, TIMEPULSE_EDGE and TIMEPULSE_IN_EDGE complete in
every state; CABLE_DELAY_WRITE and TIM_OPT_LATCH in every state ready for them. At a whole second of its own a source
sets DVT once, LOCKED; without one LOCKED becomes HOLDOVER; an error above 10 µs leads from FREE and HOLDOVER to
RECOVERING, one below to LOCKED, and RECOVERING ends below 100 ns. A source unheard for its limit is lost, counted
where it qualified. HOLDOVER past its limit is FREE. A leap second that falls due is in force. A pulse is counted
under its second; an edge of the input's own polarity is stamped in steps of 2.5 ns. The latch of TIM_OPT_LO takes all
clocks at one instant. -/
def Obligations.Timebase : Prop :=
  (∀ (s : State) (o : Opt) (x : SecondIn), Completes (.timebaseSecond o x) s fun t =>
    t = { s.begin o with
        hst := t.hst, rcd := t.rcd, tim := t.tim, yld := t.yld, fmt := t.fmt, free := t.free, out := t.out } ∧
    (∀ due c, c = s.chooseSrc → due = (s.onGrid o 1000000000 || (!s.tim.dvtSet && s.srcSecond c o x)) →
      (s.pwr.supply = .off ∨ due = false ∨ s.tim.secAt = some o → t = s.begin o) ∧
      (s.pwr.supply ≠ .off ∧ due = true ∧ s.tim.secAt ≠ some o ∧ s.dbg.phase = .run ∧ x.leap = none ∧ x.leapNext = none →
        (s.tim.dvtSet = false ∧ s.srcSecond c o x = true →
          t.tim.dvtSet = true ∧ t.tim.dvtBase = s.srcTime c o x ∧ t.tim.optBase = max s.clk.opt o ∧ t.tim.st = .locked ∧ t.tim.src = c) ∧
        (s.tim.dvtSet = false ∧ s.srcSecond c o x = false → t.tim = { s.tim with secAt := some o, src := c }) ∧
        (s.tim.dvtSet = true ∧ c = 0 ∧ s.tim.st = .locked →
          t.tim.st = .holdover ∧ t.tim.src = 0 ∧ t.tim.lossCnt = satInc s.tim.lossCnt ∧ t.tim.holdSince = max s.clk.opt o) ∧
        (s.tim.dvtSet = true ∧ c ≠ 0 → t.tim.src = c ∧ t.tim.err = s.srcErr c x ∧ t.tim.dvtBase = s.dvtAt (max s.clk.opt o) ∧
          (s.tim.st = .free ∨ s.tim.st = .holdover → t.tim.st = if 10000 < (s.srcErr c x).natAbs then .recovering else .locked) ∧
          (s.tim.st = .recovering → t.tim.st = if (s.srcErr c x).natAbs < 100 then .locked else .recovering) ∧
          (s.tim.st = .locked ∧ s.tim.src = c → t.tim.st = .locked))))) ∧
  (∀ (s : State) (o : Opt) (k : Fin 3), Completes (.sourceLost o k) s fun t =>
    t = { s.begin o with tim := t.tim } ∧
    (∀ x, x = rd s.tim.srcs k.val → s.dbg.phase = .run →
      ((k.val = 0 ∧ x.last + 2000000000 ≤ o) ∨ (k.val = 1 ∧ x.last + 1500000000 ≤ o) ∨
          (k.val = 2 ∧ (s.tim.ptp.port ≠ 9 ∨ x.last + 3000000000 ≤ o)) →
        t.tim = { s.tim with srcs := upd s.tim.srcs k.val fun y =>
          { y with qual := false, run := 0, lossCnt := if y.qual then satInc y.lossCnt else y.lossCnt } }) ∧
      ((k.val = 0 ∧ o < x.last + 2000000000) ∨ (k.val = 1 ∧ o < x.last + 1500000000) ∨
          (k.val = 2 ∧ s.tim.ptp.port = 9 ∧ o < x.last + 3000000000) → t = s.begin o)) ∧
    (s.dbg.phase ≠ .run → t = s.begin o)) ∧
  (∀ (s : State) (o : Opt), Completes (.holdoverLimitExpiry o) s fun t =>
    t = { s.begin o with tim := t.tim } ∧
    (s.tim.st = .holdover ∧ s.dbg.phase = .run ∧ s.tim.holdSince + s.img.holdLimit ≤ o → t.tim.st = .free ∧ t.tim.freq = 0 ∧ t.tim.slew = 0) ∧
    (s.tim.st ≠ .holdover ∨ o < s.tim.holdSince + s.img.holdLimit → t = s.begin o)) ∧
  (∀ (s : State) (o : Opt), Completes (.leapSecond o) s fun t =>
    t = { s.begin o with hst := t.hst, rcd := t.rcd, tim := t.tim, yld := t.yld, free := t.free, out := t.out } ∧
    (∀ l, s.leapDue o = some l → t.tim.leapGnss = some l ∧ t.tim.leapNext = none) ∧ (s.leapDue o = none → t = s.begin o)) ∧
  (∀ (s : State) (o : Opt), Completes (.timepulseEdge o) s fun t =>
    t = { s.begin o with tim := t.tim } ∧
    (∀ delay, delay = (if s.tim.pulseCnt = 0 then s.tim.delayWant else walkDelay s.tim.delay s.tim.delayWant) → ∀ at_ : Nat,
      at_ = ((s.dvtAt o : Int) + delay / 2).toNat → ∀ sec, sec = (at_ + 500000000) / 1000000000 →
      (s.pwr.supply ≠ .off ∧ s.tim.dvtSet = true ∧ ((at_ : Int) - sec * 1000000000).natAbs ≤ 20 ∧
          (s.tim.pulseCnt = 0 → s.tim.setSec < sec) ∧ (s.tim.pulseCnt ≠ 0 → s.tim.pulseSec.toNat < sec) →
        t.tim.pulseCnt = satInc s.tim.pulseCnt ∧ t.tim.pulseSec = lo32 sec ∧ t.tim.delay = delay ∧
        t.tim.pulseFirst = (s.tim.pulseCnt == 0) ∧ t.tim.pulseWalk = (s.tim.delay != s.tim.delayWant)) ∧
      (s.pwr.supply = .off ∨ s.tim.dvtSet = false → t = s.begin o))) ∧
  (∀ (s : State) (o : Opt) (up : Bool), Completes (.timepulseInEdge o up) s fun t =>
    t = { s.begin o with tim := t.tim } ∧
    (∀ x, x = rd s.tim.srcs 1 → ∀ y, y = rd t.tim.srcs 1 → ∀ e, e = 2 * o / 5 * 5 / 2 →
      s.pwr.supply ≠ .off ∧ s.dbg.phase = .run ∧ up = s.img.pulseInRises →
      y.last = e ∧ y.labelled = (s.edgeLabel e).isSome ∧ y.lastDvt = ((s.edgeLabel e).getD 0) * 1000000000 ∧
      y.run = (if x.last ≠ 0 ∧ x.last + 999900000 ≤ e ∧ e ≤ x.last + 1000100000 then x.run + 1 else 0) ∧
      (y.qual = true ↔ x.qual = true ∨ (5 ≤ y.run ∧ y.labelled = true))) ∧
    (s.pwr.supply = .off ∨ s.dbg.phase ≠ .run ∨ up ≠ s.img.pulseInRises → t = s.begin o)) ∧
  (∀ (s : State) (r : HostReq) (v : Word), s.ready r (writeLevel [0x70040]) 0 = true → s.blockShut 7 = false → v &&& 0xFFFF0000 = 0 →
        -20000 ≤ (BitVec.ofNat 16 v.toNat).toInt ∧ (BitVec.ofNat 16 v.toNat).toInt ≤ 20000 →
      Completes (.cableDelayWrite r v) s fun t => s.answers t r 0x0011 stOK [] ∧ s.hostKeeps t r ∧
        t = { s with clk := t.clk, hst := t.hst, out := t.out, tim := { s.tim with
          delayWant := (BitVec.ofNat 16 v.toNat).toInt } }) ∧
  (∀ (s : State) (r : HostReq), s.ready r 0 0 = true → s.blockShut 7 = false →
      Completes (.timOptLatch r) s fun t => ∀ o, o = max s.clk.opt r.opt → ∀ d : Nat, d = (if s.tim.dvtSet then s.dvtAt o else 0) → ∀ c, c = (s.cvtAt o).getD 0 →
        s.answers t r 0x0010 stOK (leBytes 4 (lo32 o).toNat) ∧ s.hostKeeps t r ∧
        t = { s with clk := t.clk, hst := t.hst, out := t.out, tim := { s.tim with latch := (hi32 o, lo32 d, hi32 d, lo32 c, hi32 c) } })

/-- PTP, the pose record and automatic steering (R313; R314; R316; R317; R318; R329; R331; R337). PTP_SYNC, PTP_ANNOUNCE,
PTP_MESSAGE_INTERVAL, POSE_EPOCH, GUIDANCE_EPOCH, STEERING_TARGET_APPLY, STEER_LATE_DISENGAGE, STEER_COAST_TIMEOUT and
STEER_TAKEOVER complete in every state, ENGAGE and DISENGAGE in every state ready for them. A Sync within the
tolerance counts, eight in a row qualify the source. An Announce makes the port SLAVE, PASSIVE or what an idle port is
by ROLE; a master sends its Sync. A due pose epoch publishes the next record, delivers it to SNS and SVC and empties
the IMU's FIFO. A late guidance epoch is counted; an epoch in OFF is READY once all conditions are met, and READY
engages on command. At an epoch, five late epochs, a coast past its limit and a takeover disengage, each with its
reason. -/
def Obligations.PtpPoseAndSteering : Prop :=
  (∀ (s : State) (o : Opt) (p : PtpSyncIn), Completes (.ptpSync o p) s fun t =>
    t = { s.begin o with tim := t.tim } ∧
    (∀ x, x = rd s.tim.srcs 2 → ∀ y, y = rd t.tim.srcs 2 → s.ptpUp = true ∧ s.tim.ptp.port = 9 →
      y.last = o ∧ y.run = (if p.offset.natAbs ≤ s.img.clientTol then x.run + 1 else 0) ∧ (y.qual = true ↔ x.qual = true ∨ 8 ≤ y.run) ∧
      t.tim.ptp.offset = p.offset) ∧
    (s.ptpUp = false ∨ s.tim.ptp.port ≠ 9 → t = s.begin o)) ∧
  (∀ (s : State) (o : Opt) (a : AnnounceIn), Completes (.ptpAnnounce o a) s fun t =>
    t = { s.begin o with hst := t.hst, rcd := t.rcd, tim := t.tim, yld := t.yld, free := t.free, out := t.out } ∧
    (s.ptpUp = true →
      (s.img.ptpRole = 2 → t.tim.ptp.port = 9) ∧
      (s.img.ptpRole = 1 → t.tim.ptp.port = if a.better then 7 else s.ptpIdle) ∧
      (s.img.ptpRole = 0 → t.tim.ptp.port = if a.better then 9 else s.ptpIdle) ∧
      (t.tim.ptp.port = 9 ∨ t.tim.ptp.port = 7 → t.tim.ptp.lastAnn = o ∧ t.tim.ptp.utcOffset = a.utcOffset) ∧
      (t.tim.ptp.port ≠ 9 → (rd t.tim.srcs 2).qual = false)) ∧
    (s.ptpUp = false → t = s.begin o)) ∧
  (∀ (s : State) (o : Opt), Completes (.ptpMessageInterval o) s fun t =>
    t = { s.begin o with hst := t.hst, rcd := t.rcd, tim := t.tim, yld := t.yld, free := t.free, out := t.out } ∧
    (s.runs rNET = true ∧ s.dbg.phase = .run →
      (s.img.ptpRole = 3 → t.tim.ptp.port = 3) ∧
      (s.img.ptpRole ≠ 3 ∧ (rd s.eth.pair 0).active ≠ 2 → t.tim.ptp.rounds = s.tim.ptp.rounds + 1) ∧
      (s.img.ptpRole ≠ 3 ∧ (rd s.eth.pair 0).active ≠ 2 ∧ s.tim.ptp.port = 6 ∧ s.tim.dvtSet = true ∧
          o < s.tim.ptp.lastAnn + 3000000000 ∧ s.tim.ptp.rounds % 8 ≠ 0 →
        t.out = [.net (rd s.eth.pair 0).active netSync none (leBytes 8 (s.dvtAt o + 315964819000000000))])) ∧
    (s.runs rNET = false ∨ s.dbg.phase ≠ .run → t = s.begin o)) ∧
  (∀ (s : State) (o : Opt) (p : PoseIn), Completes (.poseEpoch o p) s fun t =>
    t = { s.begin o with hst := t.hst, sns := t.sns, tim := t.tim, free := t.free, out := t.out } ∧
    (s.runs rNAV = true ∧ s.inReset rNAV 25 = false ∧ s.poseDue o = true ∧ (s.tim.pose.rcd = [] ∨ s.tim.pose.opt ≠ o) →
      t.tim.pose.mode = s.poseMode o ∧ t.tim.pose.hdgSrc = s.hdgSource o p ∧ t.tim.pose.opt = o ∧
      t.tim.pose.rcd = (s.begin o).poseRecord o p (s.poseMode o) (s.hdgSource o p)
        (if s.tim.pose.rcd.isEmpty then 0 else (s.tim.pose.seq + 1).toNat) ∧
      t.tim = { s.tim with pose := t.tim.pose, poseSns := s.tim.poseSns.write o, poseSvc := s.tim.poseSvc.write o } ∧
      t.sns = { s.sns with imuFifo := [] } ∧
      (∀ k, s.hst.subs = [k] ∧ k.stream = 2 → t.hst.subs = [{ k with items := k.items + 1 }])) ∧
    (s.runs rNAV = false ∨ s.poseDue o = false → t = s.begin o)) ∧
  (∀ (s : State) (o : Opt) (late : Bool), Completes (.guidanceEpoch o late) s fun t =>
    t = { s.begin o with grp := t.grp, hst := t.hst, tim := t.tim, str := t.str, out := t.out } ∧
    (s.runs rSVC = false ∨ s.img.steerMf = 0xFF ∨ s.poseDue o = false ∨ s.str.epochAt = some o → t = s.begin o) ∧
    (s.runs rSVC = true ∧ s.img.steerMf ≠ 0xFF ∧ s.poseDue o = true ∧ s.str.epochAt ≠ some o →
      (late = true ∨ s.tim.pose.opt ≠ o →
        t.str = { s.str with lateCnt := satInc s.str.lateCnt, lateRun := s.str.lateRun + 1, epochAt := some o,
                             lineNew := ((s.begin o).snapReady 0x0800).isSome || s.str.lineNew }) ∧
      (late = false ∧ s.tim.pose.opt = o →
        t.str.lateRun = 0 ∧ t.str.cmd = none ∧ t.str.epochAt = some o ∧ t.str.lineNew = false ∧
        (s.str.st = .off → t.str.st = if t.str.met = BitVec.allOnes 10 then .ready else .off) ∧
        (s.str.st = .ready ∧ s.str.cmd = some true ∧ t.str.met = BitVec.allOnes 10 →
          t.str.st = .engaged ∧ t.str.engageCnt = satInc s.str.engageCnt) ∧
        (s.str.st = .ready ∧ t.str.met ≠ BitVec.allOnes 10 → t.str.st = .off)))) ∧
  (∀ (s : State), Completes .steeringTargetApply s fun t =>
    t = { s.start with prf := t.prf, str := t.str } ∧
    (s.runs rCTL = true →
      (∀ p ∈ t.str.pend, s.clk.tick + 1 < p.tick) ∧
      ((∀ p ∈ s.str.pend, s.clk.tick + 1 < p.tick) → t = s.start) ∧
      (∀ k x, s.str.pend = [⟨k, none, some x⟩] ∧ k ≤ s.clk.tick + 1 → t.prf = (s.mfTake s.img.steerMf 4 x).prf)) ∧
    (s.runs rCTL = false → t = s.start)) ∧
  (∀ (s : State) (o : Opt), Completes (.steerLateDisengage o) s fun t => t = { s.begin o with str := t.str } ∧
    (s.runs rSVC = true ∧ s.poseDue o = true ∧ s.str.on = true ∧ 5 ≤ s.str.lateRun → s.steeredOff t 3) ∧
    (s.runs rSVC = false ∨ s.poseDue o = false ∨ s.str.on = false ∨ s.str.lateRun < 5 → t = s.begin o)) ∧
  (∀ (s : State) (o : Opt), Completes (.steerCoastTimeout o) s fun t => t = { s.begin o with str := t.str } ∧
    (s.runs rSVC = true ∧ s.poseDue o = true ∧ s.str.st = .coast ∧ s.str.coastSince + 1000000 * u16 s.img.guidance 60 ≤ o →
      s.steeredOff t 9) ∧
    (s.runs rSVC = false ∨ s.poseDue o = false ∨ s.str.st ≠ .coast ∨ o < s.str.coastSince + 1000000 * u16 s.img.guidance 60 →
      t = s.begin o)) ∧
  (∀ (s : State) (o : Opt), Completes (.steerTakeover o) s fun t => t = { s.begin o with str := t.str } ∧
    (s.runs rSVC = true ∧ s.poseDue o = true ∧ s.str.on = true ∧ s.takeOver = true → s.steeredOff t 1) ∧
    (s.runs rSVC = false ∨ s.poseDue o = false ∨ s.str.on = false ∨ s.takeOver = false → t = s.begin o)) ∧
  (∀ (s : State) (r : HostReq) (v : Word), s.ready r (writeLevel [0x80000]) 0 = true → s.blockShut 8 = false → v &&& 0xFFFFFFFC = 0 →
        field v 0 2 = 1 →
      Completes (.engage r v) s fun t => s.answers t r 0x0011 stOK [] ∧ s.hostKeeps t r ∧
        t = { s with clk := t.clk, hst := t.hst, out := t.out, str := { s.str with cmd := some true } }) ∧
  (∀ (s : State) (r : HostReq) (v : Word), s.ready r (writeLevel [0x80000]) 0 = true → s.blockShut 8 = false → v &&& 0xFFFFFFFC = 0 →
        field v 0 2 = 2 →
      Completes (.disengage r v) s fun t => s.answers t r 0x0011 stOK [] ∧ s.hostKeeps t r ∧
        t = { s with clk := t.clk, hst := t.hst, out := t.out, str := { s.str with cmd := some false } })

/-- The yield mapper: entries, records, tails, lag samples and its registers (R341; R342; R343; R345; R347; R348; R350;
R357; R365). YIELD_ENTRY, RECORD_OPENING, YIELD_RECORD_WRITE, TAIL_END, LAG_SAMPLE and RASTER_SAVE complete in every
state; FIELD_SELECT, CLEAR_RASTER, RESET_TOTALS, LOG_TRIM and TLG_TRIM in every state ready for them. A due entry is
the latest, and lowering or raising the header makes a boundary; at a boundary's time the open record closes at it and
the next opens; a complete record of no pass (here with no mark before it) is written under the next SEQ, published
and held no longer; a tail's window is marked when it ends; a lag sample without its edge or a quiet span before it is
rejected, one within the bounds moves the estimate; 10 s after the last save the raster of a field is stored. The
trims delete what lies below, never the open file. -/
def Obligations.YieldMapper : Prop :=
  (∀ (s : State) (o : Opt), Completes (.yieldEntry o) s fun t =>
    t = { s.begin o with store := t.store, tim := t.tim, yld := t.yld } ∧
    (s.runs rSVC = false ∨ s.boot.noImage = true ∨ s.entryDue = false → t = s.begin o) ∧
    (s.runs rSVC = true ∧ s.boot.noImage = false ∧ s.entryDue = true →
      ∃ e, t.yld.prev = some e ∧ e.opt = u64 s.tim.pose.rcd 8 ∧ e.working = t.yld.working ∧ t.yld.clearWanted = none ∧
        t.yld.started = true ∧ (s.yld.field = s.yld.fieldInForce ∧ t.yld.working ≠ s.yld.working ∧
            s.mapper (fun b => u32 b 0) noRef ≠ noRef →
          ∃ b, t.yld.bounds = s.yld.bounds ++ [b] ∧ b.opt = e.opt ∧ b.lower = t.yld.working ∧ b.raised = s.yld.working))) ∧
  (∀ (s : State) (o : Opt), Completes (.recordOpening o) s fun t =>
    t = { s.begin o with
        setSlots := t.setSlots, store := t.store, grp := t.grp, hst := t.hst, yld := t.yld, out := t.out } ∧ (s.runs rSVC = false ∨ s.yld.bounds = [] → t = s.begin o) ∧
    (∀ b rest, s.yld.bounds = b :: rest →
      (o < b.opt + s.yld.lag * tenMs → t = s.begin o) ∧
      (s.runs rSVC = true ∧ b.opt + s.yld.lag * tenMs ≤ o → t.yld.bounds = rest ∧ (∃ r, t.yld.openRec = some r ∧ r.h0 = b.opt ∧ r.field = b.field) ∧
        (s.yld.openRec = none → t.yld.held = s.yld.held) ∧
        (∀ r0, s.yld.openRec = some r0 → ∃ r1, t.yld.held = s.yld.held ++ [r1] ∧ r1.h0 = r0.h0 ∧ r1.h1 = some b.opt)))) ∧
  (∀ (s : State) (o : Opt), Completes (.yieldRecordWrite o) s fun t =>
    t = { s.begin o with
        store := t.store, hst := t.hst, yld := t.yld, fmt := t.fmt, free := t.free, out := t.out } ∧
    (s.yld.frames = [] ∧ s.yld.held = [] → t.yld = s.yld ∧ t.store = s.store) ∧
    (∀ r rest, s.yld.held = r :: rest ∧ s.yld.frames = [] ∧ r.pass = none →
      (s.yld.isComplete o r = false → t.yld = s.yld ∧ t.store = s.store) ∧
      (s.runs rSVC = true ∧ s.yld.isComplete o r = true ∧ s.yld.marks = [] ∧ r.changes = [] ∧ s.store.full = false →
        t.yld.held = rest ∧ t.yld.firstRec = false ∧ t.store.lastSeq = s.store.lastSeq + 1 ∧
        t.store.log = s.store.log ++
          [(s.store.lastSeq + 1, withCrc (r.body (s.store.lastSeq + 1) s.yld.firstRec false s.fillS))] ∧
        (∀ k, s.hst.subs = [k] ∧ k.stream = 3 ∧ k.inst = 0xFFFF → t.hst.subs = [{ k with items := k.items + 1 }])))) ∧
  (∀ (s : State) (o : Opt), Completes (.tailEnd o) s fun t =>
    t = { s.begin o with yld := t.yld } ∧ (s.yld.frames = [] ∧ s.yld.tails = [] → t = s.begin o) ∧
    (∀ x rest, s.yld.tails = x :: rest ∧ s.yld.frames = [] →
      (o < x.stop ∨ s.yld.lastFrame < x.stop → t = s.begin o) ∧
      (s.runs rSVC = true ∧ x.stop ≤ o ∧ x.stop ≤ s.yld.lastFrame → t.yld.tails = rest ∧
        ∀ r ∈ t.yld.held, r.pass = some x.pass ∧ x.raiseAt ≤ r.h0 + s.emptyS → r.tailed = true))) ∧
  (∀ (s : State) (o : Opt), Completes (.lagSample o) s fun t =>
    t = { s.begin o with setSlots := t.setSlots, yld := t.yld } ∧ (s.runs rSVC = false ∨ s.yld.samples = [] → t = s.begin o) ∧
    (∀ x rest, s.yld.samples = x :: rest →
      (s.lagEdge x = none ∧ x.bad = false ∧ s.lagQuiet x = true ∧ s.yld.lastFrame < x.opt + s.lagMax * tenMs → t = s.begin o) ∧
      (s.runs rSVC = true ∧ s.lagEdge x = none ∧ (x.bad = true ∨ s.lagQuiet x = false ∨ x.opt + s.lagMax * tenMs ≤ s.yld.lastFrame) →
        t.yld = { s.yld with samples := rest, reject := satInc s.yld.reject } ∧ t.setSlots = s.setSlots) ∧
      (∀ f, s.lagEdge x = some f ∧ s.runs rSVC = true ∧ x.bad = false ∧ s.lagQuiet x = true → ∀ v : Int, v = (f.opt : Int) - x.opt -
          (if x.lower then s.mapper (fun b => u16 b 24) 50 else s.mapper (fun b => u16 b 26) 50 : Nat) * tenMs →
        (v < s.lagMin * tenMs ∨ s.lagMax * tenMs < v →
          t.yld = { s.yld with samples := rest, reject := satInc s.yld.reject } ∧ t.setSlots = s.setSlots) ∧
        (s.lagMin * tenMs ≤ v ∧ v ≤ s.lagMax * tenMs →
          t.yld = { s.yld with samples := rest, accept := satInc s.yld.accept,
                               est := newEst s.yld.est v.toNat (s.mapper (fun b => u8 b 28) 3) s.lagMin s.lagMax })))) ∧
  (∀ (s : State) (o : Opt), Completes (.rasterSave o) s fun t => t = { s.begin o with store := t.store, yld := t.yld } ∧
    (s.runs rSVC = true ∧ s.boot.noImage = false ∧ s.yld.rasterAt + 10000000000 ≤ o → t.yld.rasterAt = max s.clk.opt o ∧
      (s.yld.fieldInForce ≠ 0 → (∀ x ∈ t.yld.raster.tiles, x.dirty = false) ∧
        ∀ p ∈ t.store.rasters, p.1 = s.yld.fieldInForce.toNat → p.2 = t.yld.raster)) ∧
    (s.runs rSVC = false ∨ s.boot.noImage = true ∨ o < s.yld.rasterAt + 10000000000 → t = s.begin o)) ∧
  (∀ (s : State) (r : HostReq) (v : Word), s.ready r (writeLevel [0x9000C]) 0 = true → s.blockShut 9 = false →
      Completes (.fieldSelect r v) s fun t => s.answers t r 0x0011 stOK [] ∧ s.hostKeeps t r ∧
        t = { s with clk := t.clk, hst := t.hst, out := t.out, yld := { s.yld with field := v } }) ∧
  (∀ (s : State) (r : HostReq) (v : Word), s.ready r (writeLevel [0x90010]) 0 = true → s.blockShut 9 = false → v &&& 0xFFFFFFFC = 0 →
        field v 0 2 = 1 →
      Completes (.clearRaster r v) s fun t => s.answers t r 0x0011 stOK [] ∧ s.hostKeeps t r ∧
        t = { s with clk := t.clk, hst := t.hst, out := t.out, yld := { s.yld with clearWanted := some s.yld.fieldInForce } }) ∧
  (∀ (s : State) (r : HostReq) (v : Word), s.ready r (writeLevel [0x90010]) 0 = true → s.blockShut 9 = false → v &&& 0xFFFFFFFC = 0 →
        field v 0 2 = 2 →
      Completes (.resetTotals r v) s fun t => s.answers t r 0x0011 stOK [] ∧ s.hostKeeps t r ∧
        t = { s with clk := t.clk, hst := t.hst, out := t.out, yld := { s.yld with totalWet := 0, totalArea := 0 } }) ∧
  (∀ (s : State) (r : HostReq) (v : Word), s.ready r (writeLevel [0x90028]) 0 = true → s.blockShut 9 = false →
      Completes (.logTrim r v) s fun t => s.answers t r 0x0011 stOK [] ∧ s.hostKeeps t r ∧
        t = { s with clk := t.clk, hst := t.hst, out := t.out, store := { s.store with log := s.store.log.filter fun p => decide (v.toNat ≤ p.1) } }) ∧
  (∀ (s : State) (r : HostReq) (v : Word), s.ready r (writeLevel [0x9002C]) 0 = true → s.blockShut 9 = false →
      Completes (.tlgTrim r v) s fun t => s.answers t r 0x0011 stOK [] ∧ s.hostKeeps t r ∧
        t = { s with clk := t.clk, hst := t.hst, out := t.out, store := { s.store with
          files := s.store.files.filter fun f => decide (v.toNat ≤ f.num) || (s.yld.fileOpen && f.num == s.store.lastFile) } })

/-- Camera ports: enable, frame start and end, time-outs and the link (R366; R368; R369; R370; R380; R381; R382; R390).
FRAME_START, FRAME_END, FRAME_TIMEOUT, CAMERA_LINK_LOSS, CAMERA_LINK_RETRY and I2C_BURST_LATE complete in every state,
CAM_ENABLE and CAM_CNT_CLEAR in every state ready for them. A port newly enabled begins its INIT, whose writes go to
the sensor; one disabled is off at once, or from its next frame start where frames start; the memory fault of a port
stays. Each frame start of a port that takes frames counts, drops a frame that has not ended, and turns a disabled
port off; before the port's INIT is done the frame is dropped for 0x06; else it is in progress, or dropped for want of
a buffer. A frame ends dropped (0x02 for a bad CRC, 0x03 for its geometry, 0x04 when late, 0x05 for its exposures) or
goes, with the set that governs it, to its camera's pipeline; past 2 x FRAME_US it is dropped for 0x04. A lost lock or
2 s without one put the port in FAULT with 0x01; the retry comes each second. A late burst is counted. No other camera
changes. -/
def Obligations.Cameras : Prop :=
  (∀ (s : State) (r : HostReq) (v : Word), s.ready r (writeLevel [0xA0000]) 0 = true → s.blockShut 0xA = false → v &&& 0xFFFFFFC0 = 0 →
        (v = 0 ∨ (s.img.sect 0x0A01 0x0001).isSome = true) →
      Completes (.camEnable r v) s fun t => s.answersLast t r 0x0011 stOK [] ∧ s.hostKeeps t r ∧
        t = { s with clk := t.clk, hst := t.hst, out := t.out, vis := t.vis } ∧
        t.vis = { s.vis with en := BitVec.ofNat 6 v.toNat, cam := t.vis.cam, pipe := t.vis.pipe } ∧
        (∀ p, rd t.vis.pipe p = { rd s.vis.pipe p with run := (rd t.vis.pipe p).run }) ∧
        ∀ n, n < 6 →
          (v.getLsbD n = true ∧ (rd s.vis.pipe (camPipe (s.camRec n))).lastErr = 0 → (rd t.vis.pipe (camPipe (s.camRec n))).run = true) ∧
          (v.getLsbD n = true ∧ s.vis.en.getLsbD n = false ∧ memFault (rd s.vis.cam n) = false → ∃ l, .i2c n l ∈ t.out ∧
            rd t.vis.cam n = { rd s.vis.cam n with starting := true, lastLock := t.clk.opt,
                                                   initAt := t.clk.opt + i2cTime (u8 (s.camRec n) 23) l }) ∧
          (v.getLsbD n = false ∧ s.vis.en.getLsbD n = true ∧ (rd s.vis.cam n).enF = true ∧ (rd s.vis.cam n).link = true ∧
            (rd s.vis.cam n).fault = false → rd t.vis.cam n = { rd s.vis.cam n with starting := false }) ∧
          (v.getLsbD n = false ∧ s.vis.en.getLsbD n = true ∧ ((rd s.vis.cam n).enF = false ∨ (rd s.vis.cam n).link = false ∨
            (rd s.vis.cam n).fault = true) → rd t.vis.cam n = { rd s.vis.cam n with
              enF := false, starting := false, link := false, fault := memFault (rd s.vis.cam n) }) ∧
          (v.getLsbD n = s.vis.en.getLsbD n ∨ (v.getLsbD n = true ∧ memFault (rd s.vis.cam n) = true) → rd t.vis.cam n = rd s.vis.cam n)) ∧
  (∀ (s : State) (r : HostReq) (v : Word), s.ready r (writeLevel [0xA0200]) 0 = true → s.blockShut 0xA = false → v &&& 0xFFFFFFC0 = 0 →
      Completes (.camCntClear r v) s fun t => s.answers t r 0x0011 stOK [] ∧ s.hostKeeps t r ∧
        t = { s with clk := t.clk, hst := t.hst, out := t.out, vis := { s.vis with
          cam := mapIdxV s.vis.cam fun n c =>
            if v.toNat.testBit n then { c with dropBuf := 0, dropErr := 0, tagErr := 0, lateCnt := 0 } else c } }) ∧
  (∀ (s : State) (o : Opt) (n : Fin 6), Completes (.frameStart o n) s fun t =>
    t = { s.begin o with grp := t.grp, hst := t.hst, vis := t.vis, out := t.out } ∧
    (∀ c, c = rd s.vis.cam n.val →
      (s.runs rVIS = false ∨ c.fault = true ∨ (s.vis.en.getLsbD n.val = false ∧ c.enF = false) → t = s.begin o) ∧
      (s.runs rVIS = true ∧ c.fault = false ∧ (s.vis.en.getLsbD n.val = true ∨ c.enF = true) →
        (rd t.vis.cam n.val).frameCnt = c.frameCnt + 1 ∧ (rd t.vis.cam n.val).lastLock = o ∧
        (s.vis.en.getLsbD n.val = false → (rd t.vis.cam n.val).enF = false ∧ (rd t.vis.cam n.val).link = false ∧
          (rd t.vis.cam n.val).cur = none) ∧
        (s.vis.en.getLsbD n.val = true → (rd t.vis.cam n.val).link = true) ∧
        (s.vis.en.getLsbD n.val = true ∧ o < c.initAt → (rd t.vis.cam n.val).lastErr = 0x06 ∧ (rd t.vis.cam n.val).cur = none ∧
          (c.cur = none → (rd t.vis.cam n.val).dropErr = satInc c.dropErr)) ∧
        (s.vis.en.getLsbD n.val = true ∧ c.initAt ≤ o → (rd t.vis.cam n.val).enF = true ∧
          ((∃ j, (rd t.vis.cam n.val).cur = some j ∧ j.fs = o ∧ j.cnt = c.frameCnt + 1 ∧ j.cam = n.val) ∨
            ((rd t.vis.cam n.val).cur = none ∧ (rd t.vis.cam n.val).dropBuf = satInc c.dropBuf)) ∧
          (c.cur ≠ none → (rd t.vis.cam n.val).dropErr = satInc c.dropErr) ∧
          (c.cur = none ∧ camMemory (s.camRec n.val) = true ∧ c.rawUsed < u8 (s.camRec n.val) 14 →
            (rd t.vis.cam n.val).cur ≠ none ∧ (rd t.vis.cam n.val).rawUsed = c.rawUsed + 1)))) ∧
    (∀ k, k ≠ n.val → rd t.vis.cam k = rd s.vis.cam k)) ∧
  (∀ (s : State) (o : Opt) (n : Fin 6) (f : CamFrame), Completes (.frameEnd o n f) s fun t =>
    t = { s.begin o with vis := t.vis } ∧
    ((rd s.vis.cam n.val).cur = none ∨ s.runs rVIS = false → t = s.begin o) ∧
    (∀ j, (rd s.vis.cam n.val).cur = some j ∧ j.cam = n.val ∧ s.runs rVIS = true →
      ∀ c, c = rd s.vis.cam n.val → ∀ d, d = rd t.vis.cam n.val → ∀ e, e = (s.frameSet j f.embedded).1 →
        ∀ lost, lost = satAdd c.dropErr f.otherPackets →
      d.cur = none ∧
      (f.crcBad = true → d.lastErr = 0x02 ∧ d.dropErr = satInc lost) ∧
      (f.crcBad = false ∧ f.fits (camW (s.camRec n.val)) (camH (s.camRec n.val)) = false → d.lastErr = 0x03 ∧ d.dropErr = satInc lost) ∧
      (f.crcBad = false ∧ f.fits (camW (s.camRec n.val)) (camH (s.camRec n.val)) = true ∧ j.fs + 2000 * camUs (s.camRec n.val) < o →
        d.lastErr = 0x04 ∧ d.dropErr = satInc lost) ∧
      (f.crcBad = false ∧ f.fits (camW (s.camRec n.val)) (camH (s.camRec n.val)) = true ∧ o ≤ j.fs + 2000 * camUs (s.camRec n.val) →
        ((s.frameSet j f.embedded).2.2 = true → d.tagErr = satInc c.tagErr) ∧ ((s.frameSet j f.embedded).2.2 = false → d.tagErr = c.tagErr) ∧
        (f.exposures ≠ modeExposures (setMode e.words) → d.lastErr = 0x05 ∧ d.dropErr = satInc lost) ∧
        (f.exposures = modeExposures (setMode e.words) → d.dropErr = lost ∧ d.tag = BitVec.ofNat 8 e.tag ∧
          (j.memory = true → ∃ k, (rd t.vis.pipe (camPipe (s.camRec n.val))).ready =
            (rd s.vis.pipe (camPipe (s.camRec n.val))).ready ++ [k] ∧ k.fs = j.fs ∧ k.settings = some e ∧ k.data = f) ∧
          (j.memory = false → ∃ k, (rd t.vis.pipe (camPipe (s.camRec n.val))).inl = some k ∧ k.fs = j.fs ∧ k.settings = some e ∧
            k.data = f)))) ∧
    (∀ k, k ≠ n.val → rd t.vis.cam k = rd s.vis.cam k)) ∧
  (∀ (s : State) (o : Opt) (n : Fin 6), Completes (.frameTimeout o n) s fun t =>
    t = { s.begin o with vis := t.vis } ∧
    (∀ j, (rd s.vis.cam n.val).cur = some j →
      (s.runs rVIS = true ∧ j.fs + 2000 * camUs (s.camRec n.val) < o → (rd t.vis.cam n.val).cur = none ∧ (rd t.vis.cam n.val).lastErr = 0x04 ∧
        (rd t.vis.cam n.val).dropErr = satInc (rd s.vis.cam n.val).dropErr) ∧
      (s.runs rVIS = false ∨ o ≤ j.fs + 2000 * camUs (s.camRec n.val) → t = s.begin o)) ∧
    ((rd s.vis.cam n.val).cur = none → t = s.begin o)) ∧
  (∀ (s : State) (o : Opt) (n : Fin 6), Completes (.cameraLinkLoss o n) s fun t =>
    t = { s.begin o with hst := t.hst, rcd := t.rcd, vis := t.vis, free := t.free, out := t.out } ∧
    (∀ c, c = rd s.vis.cam n.val →
      (s.runs rVIS = false ∨ s.vis.en.getLsbD n.val = false ∨ c.fault = true ∨ (c.link = false ∧ o < c.lastLock + 2000000000) →
        t = s.begin o) ∧
      (s.runs rVIS = true ∧ s.vis.en.getLsbD n.val = true ∧ c.fault = false ∧ (c.link = true ∨ c.lastLock + 2000000000 ≤ o) → (rd t.vis.cam n.val).fault = true ∧ (rd t.vis.cam n.val).link = false ∧ (rd t.vis.cam n.val).lastErr = 0x01 ∧
        (rd t.vis.cam n.val).cur = none))) ∧
  (∀ (s : State) (o : Opt) (n : Fin 6) (locked : Bool), Completes (.cameraLinkRetry o n locked) s fun t =>
    t = { s.begin o with vis := t.vis } ∧
    (∀ c, c = rd s.vis.cam n.val →
      (s.runs rVIS = false ∨ s.vis.en.getLsbD n.val = false ∨ c.fault = false ∨ memFault c = true ∨ c.link = true ∨
        o < c.lastLock + 1000000000 → t = s.begin o) ∧
      (s.runs rVIS = true ∧ s.vis.en.getLsbD n.val = true ∧ c.fault = true ∧ memFault c = false ∧ c.link = false ∧
          c.lastLock + 1000000000 ≤ o →
        (locked = true → t.vis = { s.vis with cam := upd s.vis.cam n.val fun x =>
        { x with fault := false, link := true, lastLock := o } }) ∧
        (locked = false → t.vis = { s.vis with cam := upd s.vis.cam n.val fun x => { x with lastLock := o } })))) ∧
  (∀ (s : State) (o : Opt) (n : Fin 6), Completes (.i2cBurstLate o n) s fun t =>
    t = { s.begin o with vis := t.vis } ∧
    (∀ b, (rd s.vis.cam n.val).burst = some b →
      (s.runs rVIS = true ∧ b + 1000 * u16 (s.camRec n.val) 28 ≤ o → t.vis = { s.vis with cam := upd s.vis.cam n.val fun c =>
        { c with burst := none, lateCnt := satInc c.lateCnt, err := true } }) ∧
      (s.runs rVIS = false ∨ o < b + 1000 * u16 (s.camRec n.val) 28 → t = s.begin o)) ∧
    ((rd s.vis.cam n.val).burst = none → t = s.begin o))

/-- Image pipelines, raw taps, the read window and the grain-sample service (R373; R374; R375; R376; R377; R378; R385;
R386; R390). PIPELINE_TAKE_FRAME, PIPELINE_FRAME_DONE, VIS_WINDOW_RELEASE and GRAIN_SAMPLE_EVAL complete in every
state, TAP_ARM, TAP_DISARM and VIS_WINDOW_LATCH in every state ready for them. A free pipeline takes the ready frame
with the earliest OPT_FS, or drops it where no output buffer is free. A finished frame leaves its pipeline, its
statistics record is the camera's, its output is the newest buffer, and a tap of it is done. A tap is refused where
its DRAM channel would exceed 20 Gbit/s. The window latches the statistics, the tap or the newest output that it
names, and lets go of it 10 s after its last read. The grain-sample service keeps its last 300 frames. -/
def Obligations.Pipelines : Prop :=
  (∀ (last : Nat) (l : List FrameJob) (j : FrameJob), firstReady last l = some j → j ∈ l ∧ ∀ k ∈ l, j.fs ≤ k.fs) ∧
  (∀ (s : State) (o : Opt) (p : Fin 2), Completes (.pipelineTakeFrame o p) s fun t =>
    t = { s.begin o with vis := t.vis } ∧
    (∀ q, q = rd s.vis.pipe p.val →
      (s.runs rVIS = false ∨ q.run = false ∨ q.mem ≠ none ∨ q.ready = [] → t = s.begin o) ∧
      (∀ j, firstReady q.lastServed q.ready = some j ∧ s.runs rVIS = true ∧ q.run = true ∧ q.mem = none →
        (rd t.vis.pipe p.val).ready = q.ready.filter (fun k => k != j) ∧
        (s.outFree j.cam 0 = true → (rd t.vis.pipe p.val).lastServed = j.cam ∧
          (q.tap = .armed ∧ q.tapCam = j.cam → (rd t.vis.pipe p.val).mem = some { j with tapped := true } ∧ (rd t.vis.pipe p.val).tap = .writing) ∧
          (q.tap ≠ .armed ∨ q.tapCam ≠ j.cam → (rd t.vis.pipe p.val).mem = some { j with tapped := false } ∧
            (rd t.vis.pipe p.val).tap = q.tap) ∧
          t.vis.cam = upd s.vis.cam j.cam fun c => c.takeBuf (camOutBufs (s.camRec j.cam)) 0) ∧
        (s.outFree j.cam 0 = false → (rd t.vis.pipe p.val).mem = none ∧
          t.vis.cam = upd s.vis.cam j.cam fun c => { c with dropBuf := satInc c.dropBuf, err := true, rawUsed := c.rawUsed - 1 })))) ∧
  (∀ (s : State) (o : Opt) (p : Fin 2) (mem : Bool), Completes (.pipelineFrameDone o p mem) s fun t =>
    t = { s.begin o with grp := t.grp, vis := t.vis } ∧
    (∀ q, q = rd s.vis.pipe p.val → ∀ job, job = (if mem then q.mem else q.inl) →
      (job = none ∨ s.runs rVIS = false ∨ q.run = false → t = s.begin o) ∧
      (∀ j, job = some j ∧ s.runs rVIS = true ∧ q.run = true ∧ j.cam < 6 →
        (mem = true → (rd t.vis.pipe p.val).mem = none ∧ (rd t.vis.pipe p.val).inl = q.inl ∧
          (rd t.vis.cam j.cam).rawUsed = (rd s.vis.cam j.cam).rawUsed - 1) ∧
        (mem = false → (rd t.vis.pipe p.val).inl = none ∧ (rd t.vis.pipe p.val).mem = q.mem ∧
          (rd t.vis.cam j.cam).rawUsed = (rd s.vis.cam j.cam).rawUsed) ∧
        (j.tapped = true → (rd t.vis.pipe p.val).tap = .done) ∧ (j.tapped = false → (rd t.vis.pipe p.val).tap = q.tap) ∧
        (∃ b, (rd t.vis.cam j.cam).outBufs.getLast? = some b ∧ b.cnt = j.cnt ∧ b.tag = j.tag ∧ b.endOpt = o) ∧
        (rd t.vis.cam j.cam).stats = some ((s.begin o).statRecord j (s.stages j).shaded
          (zonesOf (u8 (s.camRec j.cam) 58) (camW (s.camRec j.cam)) (camH (s.camRec j.cam)) (s.stages j).shaded)) ∧
        ∀ k, k ≠ j.cam → rd t.vis.cam k = rd s.vis.cam k))) ∧
  (∀ (s : State) (r : HostReq) (p : Fin 2) (v : Word), s.ready r (writeLevel [0xA0340 + 4 * p.val]) 0 = true → s.blockShut 0xA = false → v &&& 0xFFFFFF80 = 0 →
        (bit v 6 = true ∧ field v 0 3 < 6 ∧ field v 3 3 < 6 ∧ (s.img.sect 0x0A01 0x0001).isSome = true ∧ camPipe (s.camRec (field v 3 3)) = p.val) →
      Completes (.tapArm r p v) s fun t => s.answers t r 0x0011 stOK [] ∧ s.hostKeeps t r ∧
        t = { s with clk := t.clk, hst := t.hst, out := t.out, vis := { s.vis with pipe := t.vis.pipe } } ∧
        t.vis.pipe = (upd s.vis.pipe p.val fun q =>
          if ((s.img.visRate p.val fun k => s.vis.en.getLsbD k).add (tapRate (field v 0 3) (s.camRec (field v 3 3)))).above 20000 = true then { q with refused := true }
          else { q with tap := .armed, tapPoint := field v 0 3, tapCam := field v 3 3, tapData := [] })) ∧
  (∀ (s : State) (r : HostReq) (p : Fin 2) (v : Word), s.ready r (writeLevel [0xA0340 + 4 * p.val]) 0 = true → s.blockShut 0xA = false → v &&& 0xFFFFFF80 = 0 →
        (bit v 6 = false ∧ field v 0 3 < 6 ∧ field v 3 3 < 6 ∧ (s.img.sect 0x0A01 0x0001).isSome = true ∧ camPipe (s.camRec (field v 3 3)) = p.val) →
      Completes (.tapDisarm r p v) s fun t => s.answers t r 0x0011 stOK [] ∧ s.hostKeeps t r ∧
        t = { s with clk := t.clk, hst := t.hst, out := t.out, vis := { s.vis with pipe := t.vis.pipe, cam := t.vis.cam } } ∧
        (rd t.vis.pipe p.val).tap = (if (rd s.vis.pipe p.val).tap = .done then .done else .idle) ∧
        (rd t.vis.pipe p.val).tapData = (rd s.vis.pipe p.val).tapData ∧ (∀ k, k ≠ p.val → rd t.vis.pipe k = rd s.vis.pipe k) ∧
        (∀ j, (rd t.vis.pipe p.val).mem = some j → j.tapped = false) ∧ (∀ j, (rd t.vis.pipe p.val).inl = some j → j.tapped = false) ∧
        (∀ j ∈ (rd t.vis.pipe p.val).ready, j.tapped = false) ∧
        ∀ n, n < 6 → (camPipe (s.camRec n) = p.val → ∀ j, (rd t.vis.cam n).cur = some j → j.tapped = false) ∧
          (camPipe (s.camRec n) ≠ p.val → rd t.vis.cam n = rd s.vis.cam n)) ∧
  (∀ (s : State) (r : HostReq) (v : Word), s.ready r (writeLevel [0xA0400]) 0 = true → s.blockShut 0xA = false → v &&& 0xFFFFFFE0 = 0 →
        (field v 0 2 ≠ 3 ∧ field v 2 3 < (if field v 0 2 = 1 then 2 else 6)) →
      Completes (.visWindowLatch r v) s fun t => s.answers t r 0x0011 stOK [] ∧ s.hostKeeps t r ∧
        t = { s with clk := t.clk, hst := t.hst, out := t.out, vis := { s.vis with winSel := v, winBuf := t.vis.winBuf, winRead := t.clk.opt, winHeld := t.vis.winHeld, cam := t.vis.cam } } ∧
        t.vis.winHeld = (if field v 0 2 = 2 then some (field v 2 3) else none) ∧
        t.vis.winBuf = (match field v 0 2 with | 0 => (rd s.vis.cam (field v 2 3)).stats.getD [] | 1 => (rd s.vis.pipe (field v 2 3)).tapData | _ => ((rd s.vis.cam (field v 2 3)).outBufs.getLast?.map OutBuf.bytes).getD [])) ∧
  (∀ (s : State) (o : Opt), Completes (.visWindowRelease o) s fun t =>
    t = { s.begin o with vis := t.vis } ∧
    (o < s.vis.winRead + 10000000000 → t = s.begin o) ∧
    (s.vis.winRead + 10000000000 ≤ o → t.vis.winBuf = [] ∧ t.vis.winHeld = none ∧
      (s.vis.winHeld = none → t.vis = { s.vis with winBuf := [] }))) ∧
  (∀ (s : State) (o : Opt) (g : GrainEval), Completes (.grainSampleEval o g) s fun t =>
    t = { s.begin o with vis := t.vis } ∧
    (∀ n, n = u8 ((s.img.sect 0x0A01 0x0005).getD []) 0 →
      (s.runs rSVC = false ∨ (rd s.vis.cam n).outBufs.find? OutBuf.grain = none → t = s.begin o) ∧
      (∀ b, (rd s.vis.cam n).outBufs.find? OutBuf.grain = some b ∧ s.runs rSVC = true →
        t.vis.gsRun = false ∧ t.vis.gsFrame = b.cnt ∧ t.vis.gsTag = b.tag ∧ t.vis.gsHist.length ≤ 300 ∧
        (b.unknown = true → t.vis.gsValid = false) ∧
        (∃ e rest, t.vis.gsHist = e :: rest ∧ e.valid = t.vis.gsValid ∧ rest = s.vis.gsHist.take 299) ∧
        (n < 6 → (rd t.vis.cam n).outBufs = (rd s.vis.cam n).outBufs.map fun x => { x with grain := false }))))

/-- What single instructions of a valve's microcode do (R393; R396; R400; R401; R402). SETI loads its source and goes on,
and without BOOST it ends a boost phase; a BOOST instruction outside a boost phase and outside the OFF sequence stalls
and changes nothing. WAIT 0 goes on, WAIT n waits n periods. A BRANCH that is taken goes to its target, any other to
the next word. LOOP 0 goes back for ever; a LOOP of n is passed n times and then left. CALL pushes the next word and
goes to its target, and a third nested CALL overflows. END returns to the word pushed last, or ends the program and a
boost phase. No instruction changes the command or the faults and counters of the channel, and an advance executes at
most 8. -/
def Obligations.MicrocodeInstructions : Prop :=
  (∀ (e : MicroEnv) (c : VlvCh), field (microWord e.store c.pc) 28 4 = 1 →
    let w := microWord e.store c.pc;
    (bit w 27 = true ∧ c.offSeq = false ∧ c.inBoost = false → microExec e c = (c, .stall)) ∧
    (bit w 27 = false → microExec e c = ({ c with boost := false, boostLeft := 0, pc := c.pc + 1, src := microSrc w }, .next)) ∧
    (bit w 27 = true ∧ c.offSeq = false ∧ c.inBoost = true → microExec e c = ({ c with pc := c.pc + 1, src := microSrc w }, .next))) ∧
  (∀ (e : MicroEnv) (c : VlvCh), field (microWord e.store c.pc) 28 4 = 3 ∧ field (microWord e.store c.pc) 24 4 = 0 →
    let n := field (microWord e.store c.pc) 0 24;
    (n = 0 → microExec e c = ({ c with pc := c.pc + 1 }, .next)) ∧
    (n ≠ 0 → microExec e c = ({ c with pc := c.pc + 1, wait := .time n }, .stop)) ∧
    (n ≠ 0 → ∀ k, microResume e { c with wait := .time (k + 2) } = ({ c with wait := .time (k + 1) }, false)) ∧
    microResume e { c with wait := .time 1 } = ({ c with wait := .none }, true)) ∧
  (∀ (e : MicroEnv) (c : VlvCh), field (microWord e.store c.pc) 28 4 = 6 →
    let w := microWord e.store c.pc;
    microExec e c = ({ c with pc := if microTaken w e c = true then field w 13 11 else c.pc + 1 }, .next) ∧
    (field w 24 4 = 0 → microTaken w e c = true) ∧ (field w 24 4 = 1 → microTaken w e c = e.in0) ∧
    (field w 24 4 = 2 → microTaken w e c = e.in1) ∧ (field w 24 4 = 7 → microTaken w e c = c.tflag) ∧
    (field w 24 4 = 5 → (microTaken w e c = true ↔ field w 0 13 ≤ e.cur)) ∧
    (field w 24 4 = 9 → (microTaken w e c = true ↔ c.cmd < field w 0 13))) ∧
  (∀ (e : MicroEnv) (c : VlvCh), field (microWord e.store c.pc) 28 4 = 7 →
    let w := microWord e.store c.pc;
    (field w 0 13 = 0 → microExec e c = ({ c with pc := field w 13 11 }, .next)) ∧
    (∀ n, field w 0 13 = n + 1 ∧ rd c.loops c.stack.length = none →
      microExec e c = ({ c with pc := field w 13 11, loops := put c.loops c.stack.length (some n) }, .next)) ∧
    (field w 0 13 ≠ 0 ∧ rd c.loops c.stack.length = some 0 →
      microExec e c = ({ c with pc := c.pc + 1, loops := put c.loops c.stack.length none }, .next))) ∧
  (∀ (e : MicroEnv) (c : VlvCh), field (microWord e.store c.pc) 28 4 = 8 →
    let w := microWord e.store c.pc;
    (c.stack.length < 2 → microExec e c =
      ({ c with pc := field w 13 11, stack := (c.pc + 1) :: c.stack, loops := put c.loops (c.stack.length + 1) none }, .next)) ∧
    (2 ≤ c.stack.length → microExec e c = (c, .overflow))) ∧
  (∀ (e : MicroEnv) (c : VlvCh), field (microWord e.store c.pc) 28 4 = 0 →
    (∀ r rest, c.stack = r :: rest → microExec e c = ({ c with pc := r, stack := rest }, .next)) ∧
    (c.stack = [] → microExec e c = ({ c with ended := true, boost := false, boostLeft := 0 }, .stop))) ∧
  (∀ (e : MicroEnv) (c : VlvCh) (k : Nat),
    let d := (microRun e k c).1;
    d.cmd = c.cmd ∧ d.want = c.want ∧ d.enF = c.enF ∧ d.st = c.st ∧ d.safe = c.safe ∧ d.err = c.err ∧ d.lastErr = c.lastErr ∧
    d.shortCnt = c.shortCnt ∧ d.openCnt = c.openCnt ∧ d.refuseCnt = c.refuseCnt ∧ d.cutCnt = c.cutCnt ∧ d.regCnt = c.regCnt ∧
    d.tgt = c.tgt ∧ d.prog = c.prog)

/-- The microcode engine's advance, boost cuts, retries and the end of the safe hold (R393; R396; R398; R399; R401; R402;
R404; R408). MICROCODE_ADVANCE, BOOST_CUT, VALVE_REFUSE_RETRY, REG_SHORTFALL, VALVE_RUNAWAY and SAFE_HOLD_EXPIRY
complete in every state. The engine of a bank advances once in 20 µs while its die runs and changes no channel of
another bank; of its own it leaves a channel that is in a safe or freeze state, disabled or not in RUN as it was, its
hold tolerance apart; a program that reaches END outside a call ends and its target is its source's value within 0 to
IMAX. A boost phase whose slots are used up is cut and counted. A refused channel with a command starts its program at
START after REFUSE_RETRY_MS, never with 0. A shortfall of 100 ms outside CRANK is counted once. 64 advances in a row
on the limit put the channel in FAULT with 0x09. A CURRENT safe state becomes OFF after SAFE_HOLD_S. -/
def Obligations.ValveEngineAndRetries : Prop :=
  (∀ (s : State) (o : Opt) (b : Fin 8) (ma : List Nat), Completes (.microcodeAdvance o b ma) s fun t =>
    t = { s.begin o with
        bud := t.bud, wake := t.wake, hst := t.hst, rcd := t.rcd, psw := t.psw, vlv := t.vlv, col := t.col,
        free := t.free, out := t.out } ∧
    (∀ n, n / 6 ≠ b.val → rd t.vlv.ch n = rd s.vlv.ch n) ∧
    (s.runs (6 + b.val / 2) = false ∨ (∃ a, (rd s.vlv.bank b.val).advAt = some a ∧ o < a + 20000) → t = s.begin o) ∧
    (s.runs (6 + b.val / 2) = true ∧ (∀ a, (rd s.vlv.bank b.val).advAt = some a → a + 20000 ≤ o) →
      (rd t.vlv.bank b.val).advAt = some o ∧ ∀ n, n / 6 = b.val → ∀ c, c = rd s.vlv.ch n → (c.boost = false ∨ c.boostLeft ≠ 0) →
      (c.safe = true ∨ c.st ≠ .run ∨ c.enF = false ∨ s.vlvFrz n ≠ .none →
        rd t.vlv.ch n = { c with holdTol := (rd t.vlv.ch n).holdTol }) ∧
      (c.safe = false ∧ c.st = .run ∧ c.enF = true ∧ s.vlvFrz n = .none ∧ s.vlvMode n = 1 ∧ c.active = true ∧ c.bankWait = false ∧
          c.ended = false ∧ c.wait = .none ∧ c.offSeq = false ∧ c.stall = none ∧ c.stack = [] ∧ field (microWord (s.img.micro b.val) c.pc) 28 4 = 0 →
        rd t.vlv.ch n = { c with ended := true, boost := false, boostLeft := 0, runaway := 0, holdTol := (rd t.vlv.ch n).holdTol,
                                 tgt := (clampInt 0 (s.vlvImax n) (tgtGoal c.src c.cmd)).toNat }))) ∧
  (∀ (s : State) (o : Opt) (n : Fin 48), Completes (.boostCut o n) s fun t =>
    t = { s.begin o with vlv := t.vlv } ∧
    (∀ c, c = rd s.vlv.ch n.val →
      (c.boost = true ∧ c.boostLeft = 0 → t.vlv.ch = upd s.vlv.ch n.val fun c =>
        { c with boost := false, boostCut := true, cutCnt := satInc c.cutCnt, err := true }) ∧
      (c.boost = false ∨ c.boostLeft ≠ 0 → t = s.begin o))) ∧
  (∀ (s : State) (o : Opt) (n : Fin 48), Completes (.valveRefuseRetry o n) s fun t =>
    t = { s.begin o with vlv := t.vlv } ∧
    (∀ c, c = rd s.vlv.ch n.val → ∀ ms, ms = u16 (s.vlvRec n.val) 32 →
      (c.st = .hold ∧ ms ≠ 0 ∧ c.refusedSince + ms * 1000000 ≤ o ∧ c.cmd ≠ 0 ∧ s.vlvFrz n.val = .none →
        (rd t.vlv.ch n.val).st = .run ∧ (rd t.vlv.ch n.val).active = true ∧ (rd t.vlv.ch n.val).stack = [] ∧
        (rd t.vlv.ch n.val).ended = false ∧
        (rd t.vlv.ch n.val).pc = microStart (s.img.micro (n.val / 6)) (s.vlvProg n.val) ∧
        ∀ k, k ≠ n.val → rd t.vlv.ch k = rd s.vlv.ch k) ∧
      (c.st ≠ .hold ∨ ms = 0 ∨ o < c.refusedSince + ms * 1000000 ∨ c.cmd = 0 ∨ s.vlvFrz n.val ≠ .none → t = s.begin o))) ∧
  (∀ (s : State) (o : Opt) (n : Fin 48), Completes (.regShortfall o n) s fun t =>
    t = { s.begin o with vlv := t.vlv } ∧
    (∀ c, c = rd s.vlv.ch n.val →
      (c.undersupply = true ∧ 2000 ≤ c.underTicks ∧ c.underTicks < 10000 ∧ s.pwr.supply ≠ .crank → t.vlv = { s.vlv with ch := upd s.vlv.ch n.val fun c =>
        { c with underTicks := 10000, regCnt := satInc c.regCnt, err := true, lastErr := 0x06 } }) ∧
      (c.undersupply = false ∨ c.underTicks < 2000 ∨ 10000 ≤ c.underTicks ∨ s.pwr.supply = .crank → t = s.begin o))) ∧
  (∀ (s : State) (o : Opt) (n : Fin 48), Completes (.valveRunaway o n) s fun t =>
    t = { s.begin o with bud := t.bud, hst := t.hst, rcd := t.rcd, vlv := t.vlv, free := t.free, out := t.out } ∧
    (64 ≤ (rd s.vlv.ch n.val).runaway ∧ s.vlvMode n.val ≠ 0 ∧ (rd s.vlv.ch n.val).st ≠ .fault →
      (rd t.vlv.ch n.val).st = .fault ∧ (rd t.vlv.ch n.val).lastErr = 0x09 ∧ (rd t.vlv.ch n.val).tgt = 0 ∧
      (rd t.vlv.ch n.val).active = false) ∧
    ((rd s.vlv.ch n.val).runaway < 64 → t = s.begin o)) ∧
  (∀ (s : State) (o : Opt) (n : Fin 48), Completes (.safeHoldExpiry o n) s fun t =>
    t = { s.begin o with vlv := t.vlv } ∧
    ((rd s.vlv.ch n.val).safeSince = none → t = s.begin o) ∧
    (∀ e, (rd s.vlv.ch n.val).safeSince = some e →
      (e + u16 (s.vlvRec n.val) 10 * 1000000000 ≤ o → t.vlv.ch = upd s.vlv.ch n.val fun c => { c with tgt := 0, safeSince := none }) ∧
      (o < e + u16 (s.vlvRec n.val) 10 * 1000000000 → t = s.begin o)))

/-- Valve faults, and the commands and registers of the valve block (R394; R399; R407; R409; R414). VALVE_SHORT,
VALVE_OPEN_LOAD, VALVE_CLAMP_OVERLOAD, VALVE_OVERTEMP and BANK_SWITCH_OVERCURRENT complete in every state,
VALVE_RESTART, VALVE_CLEAR, VALVE_CLEAR_BANK, LEGACY_DUTY_WRITE and VALVE_CNT_CLEAR in every state ready for them. A
short, a clamp overload and an overtemperature put a used channel that is not in FAULT there, with codes 0x01, 0x03
and 0x04, no current and no target; an open load is reported with 0x02 and the channel goes on. A bank switch fault
takes its whole bank. CLEAR of a channel outside FAULT changes nothing of it, and in FAULT it leaves FAULT unless its
bank's switch is in FAULT; CLEAR_BANK clears the switch. RESTART starts a held channel's program at START and a
running one at its BOOST entry. No other channel changes. -/
def Obligations.ValveFaultsAndCommands : Prop :=
  (∀ (s : State) (o : Opt) (n : Fin 48), Completes (.valveShort o n) s fun t => t = { s.begin o with bud := t.bud, hst := t.hst, rcd := t.rcd, vlv := t.vlv, free := t.free, out := t.out } ∧
    (s.vlvMode n.val = 0 ∨ (rd s.vlv.ch n.val).st = .fault → t = s.begin o) ∧
    (s.vlvMode n.val ≠ 0 ∧ (rd s.vlv.ch n.val).st ≠ .fault → s.vlvGone t n.val 0x01 ∧
      (rd t.vlv.ch n.val).shortCnt = satInc (rd s.vlv.ch n.val).shortCnt)) ∧
  (∀ (s : State) (o : Opt) (n : Fin 48), Completes (.valveClampOverload o n) s fun t => t = { s.begin o with bud := t.bud, hst := t.hst, rcd := t.rcd, vlv := t.vlv, free := t.free, out := t.out } ∧
    (s.vlvMode n.val = 0 ∨ (rd s.vlv.ch n.val).st = .fault → t = s.begin o) ∧
    (s.vlvMode n.val ≠ 0 ∧ (rd s.vlv.ch n.val).st ≠ .fault → s.vlvGone t n.val 0x03)) ∧
  (∀ (s : State) (o : Opt) (n : Fin 48), Completes (.valveOvertemp o n) s fun t => t = { s.begin o with bud := t.bud, hst := t.hst, rcd := t.rcd, vlv := t.vlv, free := t.free, out := t.out } ∧
    (s.vlvMode n.val = 0 ∨ (rd s.vlv.ch n.val).st = .fault → t = s.begin o) ∧
    (s.vlvMode n.val ≠ 0 ∧ (rd s.vlv.ch n.val).st ≠ .fault → s.vlvGone t n.val 0x04)) ∧
  (∀ (s : State) (o : Opt) (n : Fin 48), Completes (.valveOpenLoad o n) s fun t => t = { s.begin o with vlv := t.vlv } ∧
    (s.vlvMode n.val = 0 ∨ (rd s.vlv.ch n.val).st = .fault ∨ (rd s.vlv.ch n.val).openLoad = true ∨ s.pwr.supply = .crank ∨
        (s.vlvMode n.val = 2 ∧ (rd s.vlv.ch n.val).legApp ≠ 1000) ∨ (s.vlvMode n.val ≠ 2 ∧ (rd s.vlv.ch n.val).tgt = 0) → t = s.begin o) ∧
    (s.vlvMode n.val ≠ 0 ∧ (rd s.vlv.ch n.val).st ≠ .fault ∧ (rd s.vlv.ch n.val).openLoad = false ∧ s.pwr.supply ≠ .crank ∧
        (s.vlvMode n.val = 2 → (rd s.vlv.ch n.val).legApp = 1000) ∧ (s.vlvMode n.val ≠ 2 → (rd s.vlv.ch n.val).tgt ≠ 0) →
      t.vlv = { s.vlv with ch := upd s.vlv.ch n.val fun c =>
        { c with openLoad := true, openCnt := satInc c.openCnt, err := true, lastErr := 0x02 } })) ∧
  (∀ (s : State) (o : Opt) (b : Fin 8), Completes (.bankSwitchOvercurrent o b) s fun t =>
    t = { s.begin o with bud := t.bud, hst := t.hst, rcd := t.rcd, vlv := t.vlv, free := t.free, out := t.out } ∧
    ((rd s.vlv.bank b.val).bhs = .fault ∨ (rd s.vlv.bank b.val).bhs = .off → t = s.begin o) ∧
    ((rd s.vlv.bank b.val).bhs = .battery ∨ (rd s.vlv.bank b.val).bhs = .boost →
      (rd t.vlv.bank b.val).bhs = .fault ∧
      ∀ n, n / 6 = b.val ∧ s.vlvMode n ≠ 0 → (rd t.vlv.ch n).st = .fault ∧
        ((rd s.vlv.ch n).st ≠ .fault → (rd t.vlv.ch n).lastErr = 0x05)) ∧
    (∀ n, n / 6 ≠ b.val → rd t.vlv.ch n = rd s.vlv.ch n)) ∧
  (∀ (s : State) (r : HostReq) (v : Word), s.ready r (writeLevel [0xB0010]) 0 = true → s.blockShut 0xB = false → v &&& 0xFFFFF8C0 = 0 →
        (field v 0 6 < 48 ∧ field v 8 3 = 1) →
      Completes (.valveRestart r v) s fun t => s.answers t r 0x0011 stOK [] ∧ s.hostKeeps t r ∧
        t = { s with clk := t.clk, hst := t.hst, out := t.out, vlv := t.vlv } ∧
        (let n := field v 0 6;
        let c := rd s.vlv.ch n;
        let d := rd t.vlv.ch n;
        (s.vlvMode n ≠ 1 ∨ c.enF = false ∨ c.safe = true ∨ c.st = .fault ∨ s.vlvFrz n ≠ .none → t.vlv = s.vlv) ∧
        (s.vlvMode n = 1 ∧ c.enF = true ∧ c.safe = false ∧ s.vlvFrz n = .none →
          (c.st = .hold ∧ c.cmd ≠ 0 → d.st = .run ∧ d.active = true ∧ d.ended = false ∧
            d.pc = microStart (s.img.micro (n / 6)) (s.vlvProg n)) ∧
          (c.st = .run ∧ c.active = true ∧ c.bankWait = false → d.st = .run ∧ d.ended = false ∧ d.stack = [] ∧ d.boost = c.boost ∧
            d.pc = microBoost (s.img.micro (n / 6)) c.prog)) ∧
        ∀ k, k ≠ n → rd t.vlv.ch k = rd s.vlv.ch k)) ∧
  (∀ (s : State) (r : HostReq) (v : Word), s.ready r (writeLevel [0xB0010]) 0 = true → s.blockShut 0xB = false → v &&& 0xFFFFF8C0 = 0 →
        (field v 0 6 < 48 ∧ field v 8 3 = 2) →
      Completes (.valveClear r v) s fun t => s.answers t r 0x0011 stOK [] ∧ s.hostKeeps t r ∧
        t = { s with clk := t.clk, hst := t.hst, out := t.out, vlv := t.vlv, bud := t.bud } ∧
        (let n := field v 0 6;
        ((rd s.vlv.ch n).st ≠ .fault ∨ (rd s.vlv.bank (n / 6)).bhs = .fault → t.vlv = s.vlv ∧ t.bud = s.bud) ∧
        ((rd s.vlv.ch n).st = .fault ∧ (rd s.vlv.bank (n / 6)).bhs ≠ .fault → (rd t.vlv.ch n).st = .run) ∧
        ∀ k, k ≠ n → rd t.vlv.ch k = rd s.vlv.ch k)) ∧
  (∀ (s : State) (r : HostReq) (v : Word), s.ready r (writeLevel [0xB0010]) 0 = true → s.blockShut 0xB = false → v &&& 0xFFFFF8C0 = 0 →
        (field v 0 6 < 48 ∧ field v 8 3 = 3) →
      Completes (.valveClearBank r v) s fun t => s.answers t r 0x0011 stOK [] ∧ s.hostKeeps t r ∧
        t = { s with clk := t.clk, hst := t.hst, out := t.out, vlv := t.vlv, bud := t.bud } ∧
        (rd t.vlv.bank (field v 0 6 / 6)).bhs ≠ .fault ∧
        (∀ k, k / 6 = field v 0 6 / 6 → (rd t.vlv.ch k).st ≠ .fault) ∧
        ∀ k, k / 6 ≠ field v 0 6 / 6 → rd t.vlv.ch k = rd s.vlv.ch k) ∧
  (∀ (s : State) (r : HostReq) (n : Fin 48) (v : Word), s.ready r (writeLevel [0xB0500 + 4 * n.val]) 0 = true → s.blockShut 0xB = false → v &&& 0xFFFFFC00 = 0 →
        (field v 0 10 ≤ 1000 ∧ s.vlvMode n.val = 2) →
      Completes (.legacyDutyWrite r n v) s fun t => s.answers t r 0x0011 stOK [] ∧ s.hostKeeps t r ∧
        t = { s with clk := t.clk, hst := t.hst, out := t.out, vlv := { s.vlv with legDuty := put s.vlv.legDuty n.val (field v 0 10) } }) ∧
  (∀ (s : State) (r : HostReq) (j : Fin 2) (v : Word), s.ready r (writeLevel [0xB0008 + 4 * j.val]) 0 = true → s.blockShut 0xB = false →
        (j.val = 1 → v &&& 0xFFFF0000 = 0) →
      Completes (.valveCntClear r j v) s fun t => s.answers t r 0x0011 stOK [] ∧ s.hostKeeps t r ∧
        t = { s with clk := t.clk, hst := t.hst, out := t.out, vlv := { s.vlv with ch := t.vlv.ch } } ∧
        ∀ n, n < 48 → rd t.vlv.ch n =
          if n / 32 = j.val ∧ v.getLsbD (n % 32) = true then
            { rd s.vlv.ch n with shortCnt := 0, openCnt := 0, refuseCnt := 0, cutCnt := 0, regCnt := 0 }
          else rd s.vlv.ch n)

/-- Commands of the switch and cooling blocks, and the shutdown comparators (R421; R423; R431; R436; R439; R440; R444).
PSW_CLEAR, PSW_CLEAR_LATCH, PSW_RESTART, PSW_CNT_CLEAR, COOLING_CLEAR and COOLING_CNT_CLEAR complete in every state
ready for them, SHDN_COMPARATOR_TRIP, SHDN_COMPARATOR_RESET and SHDN_ASSERTED in every state. CLEAR of a switch
channel in FAULT leads to LATCHED or IDLE with RETRIES 0; a latch is released at once at or below TJ_REL and
remembered above it; RESTART of a refused channel raises its request. CLEAR of a failed fan ends the failure. A
comparator that trips sets SHDN, which its reset leaves set; notice SHDN_ASSERTED goes out once. The clears touch the
counters of the channels named and nothing else. -/
def Obligations.SwitchAndFanCommands : Prop :=
  (∀ (s : State) (r : HostReq) (v : Word), s.ready r (writeLevel [0xC0010]) 0 = true → s.blockShut 0xC = false → v &&& 0xFFFFF8C0 = 0 →
        (field v 0 6 < 40 ∧ field v 8 3 = 1) →
      Completes (.pswClear r v) s fun t => s.answers t r 0x0011 stOK [] ∧ s.hostKeeps t r ∧
        t = { s with clk := t.clk, hst := t.hst, out := t.out, psw := { s.psw with ch := upd s.psw.ch (field v 0 6) fun c =>
          if c.phase = .fault then { c with phase := if c.latch = true then .latched else .idle, retries := 0 } else c } }) ∧
  (∀ (s : State) (r : HostReq) (v : Word), s.ready r (writeLevel [0xC0010]) 0 = true → s.blockShut 0xC = false → v &&& 0xFFFFF8C0 = 0 →
        (field v 0 6 < 40 ∧ field v 8 3 = 2) →
      Completes (.pswClearLatch r v) s fun t => t.replies r 0x0011 stOK [] ∧ t.clk = { s.clk with opt := max s.clk.opt r.opt, past := t.clk.past } ∧
        t = { s with clk := t.clk, hst := t.hst, out := t.out, bud := t.bud, wake := t.wake, rcd := t.rcd, psw := t.psw, vlv := t.vlv, col := t.col, free := t.free } ∧
        (let n := field v 0 6;
        let c := rd s.psw.ch n;
        (c.latch = false → t.psw = s.psw ∧ t.bud = s.bud) ∧
        (c.latch = true ∧ 10 * (u8 (s.pswRec n) 19 : Int) < c.tj →
          t.psw = { s.psw with ch := upd s.psw.ch n fun c => { c with clrPend := true } } ∧ t.bud = s.bud) ∧
        (c.latch = true ∧ c.tj ≤ 10 * (u8 (s.pswRec n) 19 : Int) →
          (rd t.psw.ch n).latch = false ∧ (rd t.psw.ch n).clrPend = false ∧ (rd t.psw.ch n).phase ≠ .latched) ∧
        ∀ k, k ≠ n → rd t.psw.ch k = rd s.psw.ch k)) ∧
  (∀ (s : State) (r : HostReq) (v : Word), s.ready r (writeLevel [0xC0010]) 0 = true → s.blockShut 0xC = false → v &&& 0xFFFFF8C0 = 0 →
        (field v 0 6 < 40 ∧ field v 8 3 = 3) →
      Completes (.pswRestart r v) s fun t => t.replies r 0x0011 stOK [] ∧ t.clk = { s.clk with opt := max s.clk.opt r.opt, past := t.clk.past } ∧
        t = { s with clk := t.clk, hst := t.hst, out := t.out, bud := t.bud, wake := t.wake, rcd := t.rcd, psw := t.psw, vlv := t.vlv, col := t.col, free := t.free } ∧
        (let n := field v 0 6;
        ((rd s.psw.ch n).phase ≠ .refused ∨ s.pswEff n = 0 → t.psw = s.psw ∧ t.bud = s.bud) ∧
        ((rd s.psw.ch n).phase = .refused ∧ s.pswEff n ≠ 0 ∧ s.pwr.supply ≠ .shutdown →
          t.psw = { s.psw with ch := upd s.psw.ch n fun c => { c with phase := .wait } } ∧
          (∃ q ∈ t.bud.reqs, q.src = n ∧ q.opt = t.clk.opt)) ∧
        ∀ k, k ≠ n → rd t.psw.ch k = rd s.psw.ch k)) ∧
  (∀ (s : State) (r : HostReq) (j : Fin 2) (v : Word), s.ready r (writeLevel [0xC0008 + 4 * j.val]) 0 = true → s.blockShut 0xC = false →
        (j.val = 1 → v &&& 0xFFFFFF00 = 0) →
      Completes (.pswCntClear r j v) s fun t => s.answers t r 0x0011 stOK [] ∧ s.hostKeeps t r ∧
        t = { s with clk := t.clk, hst := t.hst, out := t.out, psw := { s.psw with ch := t.psw.ch } } ∧
        ∀ n, n < 40 → rd t.psw.ch n =
          if n / 32 = j.val ∧ v.getLsbD (n % 32) = true then
            { rd s.psw.ch n with tripCnt := 0, openCnt := 0, refuseCnt := 0, latchCnt := 0 }
          else rd s.psw.ch n) ∧
  (∀ (s : State) (r : HostReq) (v : Word), s.ready r (writeLevel [0xD0008]) 0 = true → s.blockShut 0xD = false → v &&& 0xFFFFFCF8 = 0 →
        field v 8 2 = 1 →
      Completes (.coolingClear r v) s fun t => t.replies r 0x0011 stOK [] ∧ t.clk = { s.clk with opt := max s.clk.opt r.opt, past := t.clk.past } ∧
        t = { s with clk := t.clk, hst := t.hst, out := t.out, bud := t.bud, wake := t.wake, rcd := t.rcd, psw := t.psw, vlv := t.vlv, col := t.col, free := t.free } ∧
        ((rd s.col.ch (field v 0 3)).phase.failed = false → t.col = s.col ∧ t.psw = s.psw ∧ t.bud = s.bud) ∧
        ((rd s.col.ch (field v 0 3)).phase.failed = true → t.col = { s.col with
          ch := upd s.col.ch (field v 0 3) fun c => { c with phase := .stopped, attempt := 0, dutyApp := 0 } })) ∧
  (∀ (s : State) (r : HostReq) (v : Word), s.ready r (writeLevel [0xD0004]) 0 = true → s.blockShut 0xD = false → v &&& 0xFFFFFF00 = 0 →
      Completes (.coolingCntClear r v) s fun t => s.answers t r 0x0011 stOK [] ∧ s.hostKeeps t r ∧
        t = { s with clk := t.clk, hst := t.hst, out := t.out, col := { s.col with ch := t.col.ch } } ∧
        ∀ n, n < 8 → rd t.col.ch n = if v.getLsbD n = true then { rd s.col.ch n with spinFailCnt := 0, tachLossCnt := 0 } else rd s.col.ch n) ∧
  (∀ (s : State) (o : Opt) (b : Bool), Completes (.shdnComparatorTrip o b) s fun t =>
    t = { s.begin o with col := t.col } ∧
    (s.pwr.supply = .off ∨ (b = true ∧ s.col.shdn.fault15 = true) ∨ (b = false ∧ s.col.shdn.fault14 = true) → t = s.begin o) ∧
    (s.pwr.supply ≠ .off →
      (b = true ∧ s.col.shdn.fault15 = false → t.col = { s.col with shdn := { s.col.shdn with cmp15 := true, shdn := true } }) ∧
      (b = false ∧ s.col.shdn.fault14 = false → t.col = { s.col with shdn := { s.col.shdn with cmp14 := true, shdn := true } }))) ∧
  (∀ (s : State) (o : Opt) (b : Bool), Completes (.shdnComparatorReset o b) s fun t =>
    t = { s.begin o with col := t.col } ∧
    (s.pwr.supply = .off → t = s.begin o) ∧
    (s.pwr.supply ≠ .off → t.col = { s.col with
      shdn := (if b = true then { s.col.shdn with cmp15 := false } else { s.col.shdn with cmp14 := false }) })) ∧
  (∀ (s : State) (o : Opt), Completes (.shdnAsserted o) s fun t =>
    t = { s.begin o with hst := t.hst, rcd := t.rcd, col := t.col, free := t.free, out := t.out } ∧
    (s.col.shdn.shdn = true ∧ s.col.shdn.noticed = false ∧ s.clk.running = true ∧ max s.clk.opt o = s.clk.tickOpt →
      t.col = { s.col with shdn := { s.col.shdn with noticed := true } }) ∧
    (s.col.shdn.shdn = false ∨ s.col.shdn.noticed = true ∨ s.clk.running = false ∨ max s.clk.opt o ≠ s.clk.tickOpt → t = s.begin o))

/-- Cooling channels: the demand at each 10 ms boundary and the events of the phase table (R432; R433; R434; R436; R437;
R441). COOLING_DEMAND, SPIN_TIMEOUT, SPIN_REACHED, PAUSE_END, TACH_LOSS, TACH_RECOVERY and COOLING_REFUSE_RETRY
complete in every state. Each boundary takes each channel's table demand on the image of its tick; a channel in its
safe state changes in nothing else, and a running one runs its demand or stops. The spin timer leads to RUNNING at
speed, to PAUSE before the third attempt, and else to FAILED_BLOCKED, from which every other used channel runs full
from the next tick on; 2 s of lost speed lead to FAILED_TACH at full duty, 10 s at speed lead back. A pause or a
refusal ends with a new spin-up request where there is demand. No other channel's phase timers or counters change. -/
def Obligations.CoolingPhases : Prop :=
  (∀ (s : State) (o : Opt), Completes (.coolingDemand o) s fun t =>
    t = { s.begin o with
        bud := t.bud, wake := t.wake, hst := t.hst, rcd := t.rcd, psw := t.psw, vlv := t.vlv, col := t.col,
        free := t.free, out := t.out } ∧
    (s.runs rCTL = false ∨ s.clk.running = false ∨ max s.clk.opt o ≠ s.clk.tickOpt ∨ s.clk.tickSec % 200 ≠ 0 → t = s.begin o) ∧
    (∀ n, s.runs rCTL = true ∧ s.clk.running = true ∧ max s.clk.opt o = s.clk.tickOpt ∧ s.clk.tickSec % 200 = 0 ∧ n < 8 →
      ∀ c, c = rd s.col.ch n → ∀ d, d = rd t.col.ch n →
      d.rpm = c.rpm ∧ d.dem = (s.begin o).colTable n ∧ d.spinFailCnt = c.spinFailCnt ∧
      d.tachLossCnt = c.tachLossCnt ∧ d.enF = c.enF ∧ d.safe = c.safe ∧
      (s.colUsed n = false ∨ c.safe = true ∨ c.frz ≠ .none ∨ c.enF = false → d = { c with dem := d.dem }) ∧
      (s.colUsed n = true ∧ c.safe = false ∧ c.frz = .none ∧ c.enF = true →
        (c.phase = .running → (d.phase = .running ∧ d.dutyApp = d.demand ∧ 0 < d.demand) ∨
          (d.phase = .stopped ∧ d.dutyApp = 0 ∧ d.demand = 0)) ∧
        (c.phase = .stopped ∧ s.pwr.supply ≠ .shutdown → d.phase = (if 0 < d.demand then .wait else .stopped) ∧ d.dutyApp = 0)))) ∧
  (∀ (s : State) (o : Opt) (n : Fin 8), Completes (.spinTimeout o n) s fun t =>
    t = { s.begin o with
        bud := t.bud, wake := t.wake, hst := t.hst, rcd := t.rcd, psw := t.psw, vlv := t.vlv, col := t.col,
        free := t.free, out := t.out } ∧
    (∀ c, c = rd s.col.ch n.val → ∀ d, d = rd t.col.ch n.val →
      (c.phase ≠ .spinup ∨ c.spin < 60000 → t = s.begin o) ∧
      (c.phase = .spinup ∧ 60000 ≤ c.spin →
        (s.colPpr n.val = 0 ∨ s.colSpinRpm n.val ≤ c.rpm.toNat → (d.phase = .running ∨ d.phase = .stopped) ∧ d.attempt = 0 ∧ d.spinFailCnt = c.spinFailCnt) ∧
        (0 < s.colPpr n.val ∧ c.rpm.toNat < s.colSpinRpm n.val ∧ c.attempt < 3 → d = { c with spinFailCnt := satInc c.spinFailCnt, err := true, phase := .pause, since := o, dutyApp := 0 }) ∧
        (0 < s.colPpr n.val ∧ c.rpm.toNat < s.colSpinRpm n.val ∧ 3 ≤ c.attempt → d.phase = .failedBlocked ∧ d.lastErr = 0x01 ∧ d.failSeen = true ∧ d.dutyApp = 0 ∧
          d.spinFailCnt = satInc c.spinFailCnt ∧
          (max s.clk.opt o ≠ s.clk.tickOpt → ∀ k, k ≠ n.val → rd t.col.ch k = rd s.col.ch k) ∧
          (max s.clk.opt o = s.clk.tickOpt ∧ s.colUsed n.val = true ∧ c.enF = true ∧ c.safe = false → ∀ k, k < 8 ∧ k ≠ n.val ∧ s.colUsed k = true ∧
            (rd s.col.ch k).enF = true ∧ (rd s.col.ch k).safe = false ∧ (rd s.col.ch k).frz = .none ∧
            (rd s.col.ch k).phase.failed = false → (rd t.col.ch k).allFull = true ∧ (rd t.col.ch k).demand = 1000))))) ∧
  (∀ (s : State) (o : Opt) (n : Fin 8), Completes (.spinReached o n) s fun t =>
    t = { s.begin o with
        bud := t.bud, wake := t.wake, hst := t.hst, rcd := t.rcd, psw := t.psw, vlv := t.vlv, col := t.col,
        free := t.free, out := t.out } ∧
    (∀ c, c = rd s.col.ch n.val →
      (c.phase = .spinup ∧ max s.clk.opt o = s.clk.tickOpt ∧ 0 < s.colPpr n.val ∧ s.colSpinRpm n.val ≤ c.rpm.toNat → ((rd t.col.ch n.val).phase = .running ∨ (rd t.col.ch n.val).phase = .stopped) ∧ (rd t.col.ch n.val).attempt = 0) ∧
      (c.phase ≠ .spinup ∨ max s.clk.opt o ≠ s.clk.tickOpt ∨ s.colPpr n.val = 0 ∨ c.rpm.toNat < s.colSpinRpm n.val → t = s.begin o)) ∧
    (∀ k, k ≠ n.val → rd t.col.ch k = rd s.col.ch k)) ∧
  (∀ (s : State) (o : Opt) (n : Fin 8), Completes (.pauseEnd o n) s fun t =>
    t = { s.begin o with
        bud := t.bud, wake := t.wake, hst := t.hst, rcd := t.rcd, psw := t.psw, vlv := t.vlv, col := t.col,
        free := t.free, out := t.out } ∧
    (∀ c, c = rd s.col.ch n.val →
      (c.phase = .pause ∧ c.since + 5000000000 ≤ o ∧ 0 < (s.colDemand n.val).1 ∧ s.pwr.supply ≠ .shutdown → (rd t.col.ch n.val).phase = .wait ∧
        (∃ q ∈ t.bud.reqs, q.src = 88 + n.val ∧ q.opt = o) ∧ (rd t.col.ch n.val).attempt = c.attempt) ∧
      (c.phase = .pause ∧ c.since + 5000000000 ≤ o ∧ (s.colDemand n.val).1 = 0 → (rd t.col.ch n.val).phase = .stopped ∧
        (rd t.col.ch n.val).attempt = 0) ∧
      (c.phase ≠ .pause ∨ o < c.since + 5000000000 → t = s.begin o)) ∧
    (∀ k, k ≠ n.val → rd t.col.ch k = rd s.col.ch k)) ∧
  (∀ (s : State) (o : Opt) (n : Fin 8), Completes (.tachLoss o n) s fun t =>
    t = { s.begin o with
        bud := t.bud, wake := t.wake, hst := t.hst, rcd := t.rcd, psw := t.psw, vlv := t.vlv, col := t.col,
        free := t.free, out := t.out } ∧
    (∀ c, c = rd s.col.ch n.val →
      (c.phase = .running ∧ 40000 ≤ c.loss → (rd t.col.ch n.val).phase = .failedTach ∧ (rd t.col.ch n.val).lastErr = 0x02 ∧ (rd t.col.ch n.val).failSeen = true ∧
        (rd t.col.ch n.val).tachLossCnt = satInc c.tachLossCnt ∧ (rd t.col.ch n.val).dutyApp = 1000) ∧
      (c.phase ≠ .running ∨ c.loss < 40000 → t = s.begin o))) ∧
  (∀ (s : State) (o : Opt) (n : Fin 8), Completes (.tachRecovery o n) s fun t =>
    t = { s.begin o with
        bud := t.bud, wake := t.wake, hst := t.hst, rcd := t.rcd, psw := t.psw, vlv := t.vlv, col := t.col,
        free := t.free, out := t.out } ∧
    (∀ c, c = rd s.col.ch n.val →
      (c.phase = .failedTach ∧ 200000 ≤ c.recov →
        ((rd t.col.ch n.val).phase = .running ∨ (rd t.col.ch n.val).phase = .stopped) ∧ (rd t.col.ch n.val).failSeen = c.failSeen ∧
        (max s.clk.opt o ≠ s.clk.tickOpt → t.col = { s.col with ch := upd s.col.ch n.val fun c =>
          { c with phase := .running, loss := 0, recov := 0, dutyApp := c.demand } })) ∧
      (c.phase ≠ .failedTach ∨ c.recov < 200000 → t = s.begin o))) ∧
  (∀ (s : State) (o : Opt) (n : Fin 8), Completes (.coolingRefuseRetry o n) s fun t =>
    t = { s.begin o with
        bud := t.bud, wake := t.wake, hst := t.hst, rcd := t.rcd, psw := t.psw, vlv := t.vlv, col := t.col,
        free := t.free, out := t.out } ∧
    (∀ c, c = rd s.col.ch n.val →
      (c.phase = .refused ∧ c.since + u8 (s.colRec n.val) 15 * 100000000 ≤ o ∧ 0 < (s.colDemand n.val).1 ∧ s.pwr.supply ≠ .shutdown → t.col = { s.col with ch := upd s.col.ch n.val fun c => { c with phase := .wait } } ∧
        (∃ q ∈ t.bud.reqs, q.src = 88 + n.val ∧ q.opt = o)) ∧
      (c.phase ≠ .refused ∨ o < c.since + u8 (s.colRec n.val) 15 * 100000000 ∨ (s.colDemand n.val).1 = 0 → t = s.begin o)))

/-- CAN controllers: frames, errors, bus-off and recovery, and bit-rate detection (R447; R450; R451; R452; R453; R460;
R461; R462; R463). CAN_FRAME, CAN_ERROR, BUSOFF_DELAY_EXPIRY, CAN_RECOVERY_COMPLETE, CAN_INTEGRATION_COMPLETE and
DETECT_CANDIDATE_TIMEOUT complete in every state. A disabled, faulted, bus-off or integrating controller takes no
frame and no error. A frame received by an idle controller that has lost nothing before it is the newest entry of its
ring and lowers REC by one, unless it only listens; an own frame has its TX_OK entry and lowers TEC by one. An error
counts in ERR_FRAME_CNT; where the controller does not only listen, TEC goes up by 8 for a frame sent and REC by 1 for
one received, unless the standard spares them, and either by 8 for each further run of dominant bits; its bus state is
the one they give, a new bus-off being counted. A recovery begins after BUSOFF_DELAY and ends with both counters 0;
the controller then integrates, and after 11 recessive bits it is on the bus unless a checked group takes force there;
detection goes on with the next candidate. -/
def Obligations.CanFramesAndErrors : Prop :=
  (∀ (s : State) (o : Opt) (n : Fin 8) (sof : Opt) (f : CanFrame) (own comp : Bool) (loop : Nat) (bits : List Bool),
    Completes (.canFrame o n sof f own comp loop bits) s fun t =>
    t = { s.begin o with
        grp := t.grp, hst := t.hst, rcd := t.rcd, can := t.can, eth := t.eth, free := t.free, out := t.out } ∧
    (∀ c, c = s.cc n.val → ∀ d, d = t.cc n.val →
      (s.runs rNET = false ∨ c.enF = false ∨ c.fault = true ∨ c.bus = .busOff ∨ c.bus = .integrating → t = s.begin o) ∧
      (s.runs rNET = true ∧ c.enF = true ∧ c.fault = false ∧ c.bus ≠ .busOff ∧ c.bus ≠ .integrating ∧ own = false ∧ c.offWait = false ∧ c.sending = none ∧ c.detect = none ∧ c.broken = none ∧ c.recv ≤ 127 ∧ c.bus = busOf c.tec c.recv →
        (∃ e, d.ring = (e :: c.ring).take 4096 ∧ e.seq = c.seq + 1 ∧ e.kind = 0 ∧ e.id = f.id ∧ e.data = f.data ∧
          e.len = f.data.length ∧ e.opt = sof) ∧ d.seq = c.seq + 1 ∧ d.tec = c.tec ∧ d.bus = c.bus ∧
        d.recv = (if s.canMode n.val 1 = true then c.recv else c.recv - 1)) ∧
      (s.runs rNET = true ∧ c.enF = true ∧ c.fault = false ∧ c.bus ≠ .busOff ∧ c.bus ≠ .integrating ∧ own = true → (c.sending = none → t = s.begin o) ∧
        ∀ k, c.sending = some k ∧ k < 3 ∧ c.offWait = false → ∀ x, rd c.txb k = some x ∧ c.broken = none ∧ c.bus = busOf (c.tec - 1) c.recv →
          (∃ e, d.ring = (e :: c.ring).take 4096 ∧ e.kind = 1 ∧ e.id = x.frame.id ∧ e.data = x.frame.data ∧ e.tag = txTag x.src ∧
            e.opt = sof) ∧ d.tec = c.tec - 1 ∧ d.recv = c.recv ∧ d.bus = c.bus)) ∧
    (∀ k, k ≠ n.val → (t.cc k).bus = (s.cc k).bus ∧ (t.cc k).tec = (s.cc k).tec)) ∧
  (∀ (s : State) (o : Opt) (n : Fin 8) (e : CanErrIn), Completes (.canError o n e) s fun t =>
    t = { s.begin o with hst := t.hst, rcd := t.rcd, can := t.can, eth := t.eth, free := t.free, out := t.out } ∧
    (∀ c, c = s.cc n.val → ∀ d, d = t.cc n.val →
      (s.runs rNET = false ∨ c.enF = false ∨ c.fault = true ∨ c.bus = .busOff ∨ c.bus = .integrating → t = s.begin o) ∧
      (s.runs rNET = true ∧ c.enF = true ∧ c.fault = false ∧ c.bus ≠ .busOff ∧ c.bus ≠ .integrating ∧ c.offWait = false → d.errFrameCnt = satInc c.errFrameCnt ∧ d.err = true ∧
        (s.canListen n.val = true → d.tec = c.tec ∧ d.recv = c.recv ∧ d.bus = c.bus) ∧
        (s.canListen n.val = false →
          d.tec = (if e.sending = true then c.tec + (if e.spared = true then 0 else 8) + 8 * e.dom else c.tec) ∧
          d.recv = (if e.sending = true then c.recv else min 255 (c.recv + (if e.spared = true then 0 else 1) + 8 * e.dom)) ∧
          d.bus = busOf d.tec d.recv ∧ d.busoffCnt = (if 256 ≤ d.tec then satInc c.busoffCnt else c.busoffCnt)))) ∧
    (∀ k, k ≠ n.val → (t.cc k).bus = (s.cc k).bus ∧ (t.cc k).tec = (s.cc k).tec)) ∧
  (∀ (s : State) (o : Opt) (n : Fin 8), Completes (.busoffDelayExpiry o n) s fun t =>
    t = { s.begin o with can := t.can } ∧
    (∀ c, c = s.cc n.val →
      (s.runs rNET = true ∧ c.bus = .busOff ∧ c.fault = false ∧ c.recovering = false ∧ s.img.recovery n.val = 1 ∧
        c.offSince + s.img.busoffDelay n.val ≤ o → (t.cc n.val).recovering = true ∧ (t.cc n.val).bus = .busOff ∧
        ∃ e, (t.cc n.val).ring = (e :: c.ring).take 4096 ∧ e.kind = 4 ∧ e.reason = 3) ∧
      (s.runs rNET = false ∨ c.bus ≠ .busOff ∨ c.fault = true ∨ c.recovering = true ∨ s.img.recovery n.val ≠ 1 ∨
        o < c.offSince + s.img.busoffDelay n.val → t = s.begin o)) ∧
    (∀ k, k ≠ n.val → t.cc k = s.cc k)) ∧
  (∀ (s : State) (o : Opt) (n : Fin 8), Completes (.canRecoveryComplete o n) s fun t =>
    t = { s.begin o with grp := t.grp, hst := t.hst, can := t.can, out := t.out } ∧
    (∀ c, c = s.cc n.val →
      (s.runs rNET = true ∧ c.bus = .busOff ∧ c.recovering = true → (t.cc n.val).tec = 0 ∧ (t.cc n.val).recv = 0 ∧ (t.cc n.val).recovering = false ∧ (t.cc n.val).bus = .integrating ∧
        ∃ e, (t.cc n.val).ring = (e :: c.ring).take 4096 ∧ e.kind = 4 ∧ e.reason = 0) ∧
      (s.runs rNET = false ∨ c.bus ≠ .busOff ∨ c.recovering = false → t = s.begin o)) ∧
    (∀ k, k ≠ n.val → t.cc k = s.cc k)) ∧
  (∀ (s : State) (o : Opt) (n : Fin 8), Completes (.canIntegrationComplete o n) s fun t =>
    t = { s.begin o with grp := t.grp, hst := t.hst, can := t.can, out := t.out } ∧
    (∀ c, c = s.cc n.val →
      (s.runs rNET = true ∧ c.enF = true ∧ c.fault = false ∧ c.bus = .integrating →
        (t.cc n.val).bus = (if (s.snapReady (0x0E00 + n.val)).isSome = true then .integrating else busOf c.tec c.recv) ∧
        (t.cc n.val).tec = c.tec ∧ (t.cc n.val).recv = c.recv ∧ (t.cc n.val).ring = c.ring) ∧
      (s.runs rNET = false ∨ c.enF = false ∨ c.fault = true ∨ c.bus ≠ .integrating → t = s.begin o)) ∧
    (∀ k, k ≠ n.val → t.cc k = s.cc k)) ∧
  (∀ (s : State) (o : Opt) (n : Fin 8) (byErr : Bool), Completes (.detectCandidateTimeout o n byErr) s fun t =>
    t = { s.begin o with can := t.can } ∧
    ((s.cc n.val).detect = none → t = s.begin o) ∧
    (∀ d, (s.cc n.val).detect = some d →
      (s.runs rNET = true ∧ (s.cc n.val).enF = true ∧ (s.cc n.val).fault = false ∧
          (if byErr = true then d.failed = true else d.since + s.img.detListen n.val ≤ o) → t.can = { s.can with ch := upd s.can.ch n.val fun c =>
        { c with detect := some ⟨(d.cand + 1) % max 1 s.img.candidates, o, 0, false⟩, bus := .integrating, sending := none } }) ∧
      (s.runs rNET = false ∨ (s.cc n.val).enF = false ∨ (s.cc n.val).fault = true ∨
          (if byErr = true then d.failed = false else o < d.since + s.img.detListen n.val) → t = s.begin o)))

/-- CAN dispatch, cyclic frames, the time reference, and the services' time-outs (R123; R127; R454; R455; R456; R458;
R465; R466; R468). CAN_DISPATCH, CAN_RX_TIMEOUT, CAN_TX_BUILD, CAN_TIME_REFERENCE, TP_TIMEOUT and
ADDRESS_CLAIM_TIMEOUT complete in every state. The dispatcher reads the oldest entry it has not read, and one written
more than 1 ms before is counted as late; an entry that is no frame goes no further. A FORMAT not received for its
period loses the values of its destinations. A cyclic frame due at a tick and not waiting enters the queue of the
sending controller. A due time reference is in TXB0, one still there being counted as stale, and CYCLE goes up modulo
64. A connection past its time is dropped and counted; 250 ms after its claim an address is claimed. -/
def Obligations.CanServices : Prop :=
  (∀ (s : State) (o : Opt) (n : Fin 8), Completes (.canDispatch o n) s fun t =>
    t = { s.begin o with sm := t.sm, nav := t.nav, can := t.can } ∧
    ((s.cc n.val).nextEntry = none ∨ s.runs rSVC = false → t = s.begin o) ∧
    (∀ e, (s.cc n.val).nextEntry = some e ∧ s.runs rSVC = true →
      (t.cc n.val).dispatched = e.seq ∧
      (o ≤ e.wrote + 1000000 → (t.cc n.val).lateCnt = (s.cc n.val).lateCnt ∧ (t.cc n.val).dispLate = (s.cc n.val).dispLate) ∧
      (e.wrote + 1000000 < o → (t.cc n.val).lateCnt = satInc (s.cc n.val).lateCnt ∧ (t.cc n.val).dispLate = true) ∧
      ((e.kind ≠ 0 ∧ e.kind ≠ 1) ∨ e.active = false → t.sm = s.sm ∧ t.nav = s.nav ∧ t.can.rx = s.can.rx ∧ t.can.rxTimers = s.can.rxTimers ∧
        ∀ k, k ≠ n.val → t.cc k = s.cc k))) ∧
  (∀ (s : State) (o : Opt) (id : W16), Completes (.canRxTimeout o id) s fun t =>
    t = { s.begin o with can := t.can } ∧
    (s.runs rSVC = false ∨ s.img.tableOf kFormat id.toNat = none → t = s.begin o) ∧
    (∀ b, s.img.tableOf kFormat id.toNat = some b → ∀ k, lookupN s.can.rxTimers id.toNat = some (some k) ∧ s.runs rSVC = true →
      (u8 b 0 = 4 ∧ u16 b 14 ≠ 0 ∧ u16 b 14 ≤ k → lookupN t.can.rxTimers id.toNat = some none ∧
        (∀ j, j < u16 b 2 → lookupN t.can.rx (u32 b (24 + 24 * j) % 65536) = none) ∧ t.can.ch = s.can.ch) ∧
      (u8 b 0 ≠ 4 ∨ u16 b 14 = 0 ∨ k < u16 b 14 → t = s.begin o))) ∧
  (∀ (s : State) (id : W16), Completes (.canTxBuild id) s fun t =>
    t = { s.start with can := t.can, fmt := t.fmt } ∧
    (s.img.tableOf kFormat id.toNat = none ∨ s.runs rNET = false ∨ s.runs rSVC = false → t = s.start) ∧
    (∀ b, s.img.tableOf kFormat id.toNat = some b →
      (u8 b 0 ≠ 3 ∨ u16 b 14 = 0 ∨ (s.clk.tickSec + 20000 - u16 b 16) % u16 b 14 ≠ 0 → t = s.start) ∧
      (u8 b 0 = 3 ∧ u16 b 14 ≠ 0 ∧ (s.clk.tickSec + 20000 - u16 b 16) % u16 b 14 = 0 ∧ s.runs rNET = true ∧ s.runs rSVC = true →
        ∀ n, n = s.canSender (u8 b 12) →
        ((s.cc n).enF = false ∨ s.canListen n = true → t = s.start) ∧
        ((s.cc n).enF = true ∧ s.canListen n = false ∧ s.img.saSubst id.toNat = false ∧ n < 8 ∧ (s.cc n).txq.length < 64 ∧
            (s.cc n).waits (fun x => x.src == .format id.toNat) = false →
          ∃ x ∈ (t.cc n).waiting, x.src = .format id.toNat ∧ x.frame.id = field (lo32 (u32 b 8)) 0 29 ∧
            x.frame.data = (s.start.packTable id.toNat b).1 ∧ x.opt = s.clk.opt)))) ∧
  (∀ (s : State) (l : Fin 8), Completes (.canTimeReference l) s fun t =>
    t = { s.start with can := t.can } ∧
    (s.img.timeRec l.val = none → t = s.start) ∧
    (∀ b, s.img.timeRec l.val = some b →
      ∀ n, n = s.canSender l.val →
      (s.runs rNET = true ∧ (s.cc n).enF = true ∧ s.canListen n = false ∧ u16 b 2 ≠ 0 ∧
        (s.clk.tickSec + 20000 - u16 b 4) % u16 b 2 = 0 ∧ s.canLead n = l.val ∧ n < 8 →
        (t.cc n).cycle = ((s.cc n).cycle + 1) % 64 ∧
        (t.cc n).staleCnt = (if (rd (s.cc n).txb 0).isSome = true then satInc (s.cc n).staleCnt else (s.cc n).staleCnt) ∧
        ∃ x, rd (t.cc n).txb 0 = some x ∧ x.src = .reference ∧ x.oneShot = false ∧ x.frame.id = field (lo32 (u32 b 8)) 0 29 ∧
          x.frame.data.length = 8 ∧ x.frame.data.head? = some (BitVec.ofNat 8 ((s.cc n).cycle % 64))) ∧
      (s.runs rNET = false ∨ (s.cc n).enF = false ∨ s.canListen n = true ∨ u16 b 2 = 0 ∨
        (s.clk.tickSec + 20000 - u16 b 4) % u16 b 2 ≠ 0 → t = s.start))) ∧
  (∀ (s : State) (o : Opt) (n : Fin 8) (conn : Option Nat), Completes (.tpTimeout o n conn) s fun t =>
    t = { s.begin o with can := t.can } ∧
    (∀ l, l = s.canLead n.val →
      (s.runs rSVC = false → t = s.begin o) ∧
      (∀ j, conn = some j → ∀ c, (s.cc l).rxConn[j]? = some c ∧ s.runs rSVC = true →
        (o < c.last + (if c.cts = true then 1250000000 else 750000000) → t = s.begin o) ∧
        (c.last + (if c.cts = true then 1250000000 else 750000000) ≤ o →
          (∀ y ∈ (t.cc l).rxConn, y.sa = c.sa → ((y.kind = 0) ↔ (c.kind ≠ 0)) ∨ 2 < y.kind) ∧
          (t.cc l).tpAbortCnt = satInc (s.cc l).tpAbortCnt)) ∧
      (∀ c, (s.cc l).txConn = some c ∧ s.runs rSVC = true ∧ conn = none →
        (o < c.last + 1250000000 → t = s.begin o) ∧
        (c.last + 1250000000 ≤ o → (t.cc l).txConn = none ∧ t.can.txmState = 3 ∧ t.can.txmFail = 1 ∧
          (t.cc l).tpAbortCnt = satInc (s.cc l).tpAbortCnt)))) ∧
  (∀ (s : State) (o : Opt) (n : Fin 8), Completes (.addressClaimTimeout o n) s fun t =>
    t = { s.begin o with can := t.can } ∧
    (∀ l, l = s.canLead n.val →
      (s.runs rSVC = true ∧ (s.cc l).claim = .claiming ∧ (s.cc l).claimSince + 250000000 ≤ o → t.can = { s.can with ch := upd s.can.ch l fun x => { x with claim := .claimed, addrLost := false } }) ∧
      (s.runs rSVC = false ∨ (s.cc l).claim ≠ .claiming ∨ o < (s.cc l).claimSince + 250000000 → t = s.begin o)))

/-- The CAN block's registers: host frames, host messages, commands, enables, the window and the counters (R450; R459;
R461; R462; R467; R469; R473). CAN_TXS_SEND, CAN_TXM_SEND, CAN_RECOVER, CAN_ABORT_ALL, CAN_ABORT_TAG, CAN_DETECT,
CAN_ENABLE_WRITE, CAN_WINDOW_LATCH and CAN_CNT_CLEAR complete in every state ready for them. One write fills the
staging registers and, with SEND, the staged frame waits on the sending controller. A host message without a claimed
address fails with 0x03; with one its connection opens. RECOVER, in bus-off, ends FAULT and begins a recovery; it does
nothing else. ABORT_ALL leaves no frame waiting but one in transmission, ABORT_TAG none of the host frames with its
TAG. DETECT begins with candidate 0. A newly enabled controller integrates with both counters 0; one disabled while it
sends goes off when its frame has ended, one that does not, outside a pair, at once. The window holds the entry of the
SEQ written. -/
def Obligations.CanCommands : Prop :=
  (∀ (s : State) (r : HostReq) (id ctrl : Word) (data : List Word) (cmd : Word),
    s.ready r 1 0 = true → s.blockShut 0xE = false → ctrl &&& 0x0000E008 = 0 → cmd &&& 0xFFFFFFFE = 0 →
    (bit cmd 0 = true → s.stagedBad id ctrl = false) →
      Completes (.canTxsSend r id ctrl data cmd) s fun t => s.answers t r 0x0011 stOK [] ∧ s.hostKeeps t r ∧
        t = { s with clk := t.clk, hst := t.hst, out := t.out, can := t.can } ∧
        t.can.txsId = id ∧ t.can.txsCtrl = ctrl ∧ (∀ k, k < 16 → rd t.can.txsData k = data.getD k 0) ∧
        (bit cmd 0 = false → t.can.ch = s.can.ch) ∧
        (∀ n, n = s.canSender (field ctrl 0 3) →
          bit cmd 0 = true ∧ s.canListen n = false ∧ (s.cc n).txq.length < 64 ∧ s.img.claimRec (field ctrl 0 3) = none →
            ∃ x ∈ (t.cc n).waiting, x.src = .host (field ctrl 16 16) ∧ x.frame.id = field id 0 29 ∧ x.frame.ide = bit id 29 ∧
              x.frame.fdf = bit id 30 ∧ x.oneShot = bit ctrl 11 ∧ x.opt = t.clk.opt)) ∧
  (∀ (s : State) (r : HostReq) (v : Word), s.ready r (writeLevel [0xE0608]) 0 = true → s.blockShut 0xE = false → v &&& 0xFFFFFFFE = 0 →
        (bit v 0 = true ∧ s.can.txmState ≠ 1 ∧ (s.img.claimRec (s.canLead (field s.can.txmCtrl 0 3))).isSome = true ∧ txmLenOk s.can.txmCtrl = true) →
      Completes (.canTxmSend r v) s fun t => s.answers t r 0x0011 stOK [] ∧ s.hostKeeps t r ∧
        t = { s with clk := t.clk, hst := t.hst, out := t.out, can := t.can } ∧
        (∀ l, l = s.canLead (field s.can.txmCtrl 0 3) →
        (s.canAddr l = none → t.can = { s.can with txmState := 3, txmFail := 3 }) ∧
        (∀ a, s.canAddr l = some a → t.can.txmState = 1 ∧ t.can.txmFail = 0 ∧
          ∃ c, (t.cc l).txConn = some c ∧ c.sa = a ∧ c.da = field s.can.txmCtrl 8 8 ∧ c.pgn = field s.can.txmPgn 0 18 ∧
            c.total = field s.can.txmCtrl 16 11 ∧ c.kind = (if field s.can.txmCtrl 8 8 = 255 then 0 else 1)))) ∧
  (∀ (s : State) (r : HostReq) (v : Word), s.ready r (writeLevel [0xE0008]) 0 = true → s.blockShut 0xE = false → v &&& 0x0000FF88 = 0 →
        field v 4 3 = 1 →
      Completes (.canRecover r v) s fun t => s.answers t r 0x0011 stOK [] ∧ s.hostKeeps t r ∧
        t = { s with clk := t.clk, hst := t.hst, out := t.out, can := t.can } ∧
        (∀ n, n = field v 0 3 →
        ((s.cc n).bus = .busOff ∧ (s.cc n).enF = true ∧ (s.cc n).recovering = false → (t.cc n).recovering = true ∧ (t.cc n).fault = false ∧
          ∃ e, (t.cc n).ring = (e :: (s.cc n).ring).take 4096 ∧ e.kind = 4 ∧ e.reason = 3) ∧
        ((s.cc n).bus ≠ .busOff ∨ (s.cc n).enF = false ∨ (s.cc n).recovering = true → t.can = s.can) ∧
        ∀ k, k ≠ n → t.cc k = s.cc k)) ∧
  (∀ (s : State) (r : HostReq) (v : Word), s.ready r (writeLevel [0xE0008]) 0 = true → s.blockShut 0xE = false → v &&& 0x0000FF88 = 0 →
        field v 4 3 = 2 →
      Completes (.canAbortAll r v) s fun t => s.answers t r 0x0011 stOK [] ∧ s.hostKeeps t r ∧
        t = { s with clk := t.clk, hst := t.hst, out := t.out, can := t.can } ∧
        (∀ n, n = s.canSender (field v 0 3) →
        (∀ k, (s.cc n).sending = some k → rd (s.cc n).txb k ≠ none → (t.cc n).abortNow = true) ∧ (t.cc n).txq = [] ∧ (t.cc n).txFailCnt = (s.cc n).txFailCnt ∧
        (∀ k, k < 3 → rd (t.cc n).txb k ≠ none → (s.cc n).sending = some k) ∧ ∀ k, k ≠ n → t.cc k = s.cc k)) ∧
  (∀ (s : State) (r : HostReq) (v : Word), s.ready r (writeLevel [0xE0008]) 0 = true → s.blockShut 0xE = false → v &&& 0x0000FF88 = 0 →
        field v 4 3 = 3 →
      Completes (.canAbortTag r v) s fun t => s.answers t r 0x0011 stOK [] ∧ s.hostKeeps t r ∧
        t = { s with clk := t.clk, hst := t.hst, out := t.out, can := t.can } ∧
        (∀ n, n = s.canSender (field v 0 3) →
        (∀ f ∈ (t.cc n).txq, f.src ≠ .host (field v 16 16)) ∧ (t.cc n).txFailCnt = (s.cc n).txFailCnt ∧
        (∀ k, k < 3 → ∀ f, rd (t.cc n).txb k = some f → f.src = .host (field v 16 16) → (s.cc n).sending = some k) ∧
        ∀ k, k ≠ n → t.cc k = s.cc k)) ∧
  (∀ (s : State) (r : HostReq) (v : Word), s.ready r (writeLevel [0xE0008]) 0 = true → s.blockShut 0xE = false → v &&& 0x0000FF88 = 0 →
        field v 4 3 = 4 →
      Completes (.canDetect r v) s fun t => s.answers t r 0x0011 stOK [] ∧ s.hostKeeps t r ∧
        t = { s with clk := t.clk, hst := t.hst, out := t.out, can := t.can } ∧
        (∀ n, n = field v 0 3 →
        ((s.cc n).enF = true ∧ s.canMode n 5 = true ∧ s.img.candidates ≠ 0 → t.can = { s.can with ch := upd s.can.ch n fun c =>
          { c with detect := some ⟨0, t.clk.opt, 0, false⟩, bus := .integrating, sending := none } }) ∧
        ((s.cc n).enF = false ∨ s.canMode n 5 = false ∨ s.img.candidates = 0 → t.can = s.can))) ∧
  (∀ (s : State) (r : HostReq) (v : Word), s.ready r (writeLevel [0xE0000]) 0 = true → s.blockShut 0xE = false → v &&& 0xFFFFFF00 = 0 →
      Completes (.canEnableWrite r v) s fun t => t.replies r 0x0011 stOK [] ∧ t.clk = { s.clk with opt := max s.clk.opt r.opt, past := t.clk.past } ∧
        t = { s with clk := t.clk, hst := t.hst, out := t.out, rcd := t.rcd, can := t.can, eth := t.eth, free := t.free } ∧
        t.can.en = BitVec.ofNat 8 v.toNat ∧
        ∀ n, n < 8 →
          (v.getLsbD n = true → (t.cc n).enF = true ∧ (t.cc n).offWait = false) ∧
          (v.getLsbD n = true ∧ (s.cc n).enF = false → (t.cc n).tec = 0 ∧ (t.cc n).recv = 0 ∧ (t.cc n).fault = false ∧
            (t.cc n).bus = .integrating) ∧
          (v.getLsbD n = false ∧ (s.cc n).enF = true ∧ (s.cc n).sending ≠ none → (t.cc n).enF = true ∧ (t.cc n).offWait = true) ∧
          (v.getLsbD n = false ∧ (s.cc n).enF = true ∧ (s.cc n).sending = none ∧ s.canPair n = none → (t.cc n).enF = false ∧ (t.cc n).bus = .errorActive ∧ (t.cc n).claim = .none ∧ (t.cc n).addr = 0xFE) ∧
          (v.getLsbD n = (s.cc n).enF → (t.cc n).tec = (s.cc n).tec ∧ (t.cc n).bus = (s.cc n).bus)) ∧
  (∀ (s : State) (r : HostReq) (v : Word), s.ready r (writeLevel [0xE0304]) 0 = true → s.blockShut 0xE = false →
      Completes (.canWindowLatch r v) s fun t => s.answers t r 0x0011 stOK [] ∧ s.hostKeeps t r ∧
        t = { s with clk := t.clk, hst := t.hst, out := t.out, can := { s.can with winPos := v, winValid := t.can.winValid, winBuf := t.can.winBuf } } ∧
        (bit s.can.winSel 3 = false →
          ((s.cc (field s.can.winSel 0 3)).ring.find? (fun e => e.seq == v) = none → t.can.winValid = false ∧ t.can.winBuf = []) ∧
          ∀ e, (s.cc (field s.can.winSel 0 3)).ring.find? (fun e => e.seq == v) = some e → t.can.winValid = true ∧ t.can.winBuf = e.bytes)) ∧
  (∀ (s : State) (r : HostReq) (v : Word), s.ready r (writeLevel [0xE0004]) 0 = true → s.blockShut 0xE = false → v &&& 0xFFFFFF00 = 0 →
      Completes (.canCntClear r v) s fun t => s.answers t r 0x0011 stOK [] ∧ s.hostKeeps t r ∧
        t = { s with clk := t.clk, hst := t.hst, out := t.out, can := { s.can with
          ch := mapIdxV s.can.ch fun n c => if v.toNat.testBit n = true then
              { c with busoffCnt := 0, txFailCnt := 0, txqFullCnt := 0, tpAbortCnt := 0, errFrameCnt := 0, dupCnt := 0, staleCnt := 0,
                       lateCnt := 0 }
            else c } })

/-- Path pairs: conditions, probes, qualification and the switch-over (R478; R479; R480; R481; R482; R485).
PATH_LINK_DOWN, PATH_ERRORS, PATH_SILENCE, PROBE_SEND, PROBE_TIMEOUT, PROBE_REPLY, PATH_CONDITION_CLEAR,
MIRROR_COPY_COMPLETE and PATH_READY complete in every state. A member at which a condition begins is DOWN. Where it
was the active one, the other takes over if it is READY and the switch-over is counted; else a lost link leaves the
pair in NONE from the first failure on, unless the other is CHECKING and takes over, and errors or silence leave it
DEGRADED on its active path. A backbone frame with an FCS error counts in its port's counter. A probe goes out where
none is under way and PROBE_MS have passed since the last; one unanswered for PROBE_MS is lost, one answered ends the
row of losses. A member whose conditions have ended is CHECKING, and the active one where there was none; after
RETURN_S, its probes answered and its mirror copied, it is READY. -/
def Obligations.PathConditions : Prop :=
  (∀ (s : State) (o : Opt) (n : Fin 7) (first : Opt), Completes (.pathLinkDown o n first) s fun t =>
    t = { s.begin o with hst := t.hst, rcd := t.rcd, can := t.can, eth := t.eth, free := t.free, out := t.out } ∧
    (∀ c, c = rd s.eth.port n.val → ∀ w, w = (if n.val < 2 then 1000000 * s.img.downMs 0 else 0) →
      (s.runs rNET = false ∨ c.enF = false ∨ c.link = false ∨ o < first + w → t = s.begin o) ∧
      (s.runs rNET = true ∧ c.enF = true ∧ c.link = true ∧ first + w ≤ o →
        rd t.eth.port n.val = { c with link := false, lastErr := 1 } ∧
        (2 ≤ n.val ∨ s.pairOn 0 = false → t.eth.pair = s.eth.pair) ∧
        (n.val < 2 ∧ s.pairOn 0 = true → (t.member 0 (n.val == 1)).cLink = true ∧ s.fallen t 0 (n.val == 1) ∧
          ((s.pair 0).active = n.val ∧ (s.member 0 (n.val != 1)).health = .ready →
            ∃ us, (max s.clk.opt o - first) / 1000 ≤ us ∧ (t.pair 0).gapUntil = first + 1000 * us ∧ (t.pair 0).lastGap = satNat 16 us) ∧
          ((s.pair 0).active = n.val ∧ (s.member 0 (n.val != 1)).health = .down →
            (t.pair 0).active = 2 ∧ (t.pair 0).gapSince = some first) ∧
          ((s.pair 0).active = n.val ∧ (s.member 0 (n.val != 1)).health = .checking →
            (t.pair 0).active = memberIx (n.val != 1) ∧ (t.pair 0).gapSince = none))))) ∧
  (∀ (s : State) (o : Opt) (p : Fin 3) (b : Bool) (errs : List Opt), Completes (.pathErrors o p b errs) s fun t =>
    t = { s.begin o with hst := t.hst, rcd := t.rcd, can := t.can, eth := t.eth, free := t.free, out := t.out } ∧
    (s.runs rNET = false ∨ (p.val = 0 ∧ (rd s.eth.port (memberIx b)).enF = false) → t = s.begin o) ∧
    (∀ k, k = (if p.val = 0 then ((errs ++ (s.member 0 b).fcsAt).filter fun a =>
          decide (a ≤ max s.clk.opt o) && decide (max s.clk.opt o ≤ a + 100000000)).length else s.errEntries (memberUnit p.val b) o) →
      s.runs rNET = true ∧ (p.val = 0 → (rd s.eth.port (memberIx b)).enF = true) →
      (p.val = 0 → (rd t.eth.port (memberIx b)).fcs = satAdd (rd s.eth.port (memberIx b)).fcs errs.length) ∧
      (s.pairOn p.val = false ∨ k ≤ s.img.errMax p.val → (p.val ≠ 0 → t = s.begin o) ∧
        (t.member p.val b).health = (s.member p.val b).health ∧ (t.member p.val b).cErr = (s.member p.val b).cErr ∧
        (t.pair p.val).active = (s.pair p.val).active) ∧
      (s.pairOn p.val = true ∧ s.img.errMax p.val < k → (t.member p.val b).cErr = true ∧ s.fallen t p.val b ∧
        ((s.pair p.val).active = memberIx b ∧ (s.member p.val b).health ≠ .down ∧ (s.member p.val (!b)).health ≠ .ready →
          (t.pair p.val).active = memberIx b ∧ (t.pair p.val).degraded = true)))) ∧
  (∀ (s : State) (o : Opt) (p : Fin 2) (b : Bool), Completes (.pathSilence o p b) s fun t =>
    t = { s.begin o with hst := t.hst, rcd := t.rcd, can := t.can, eth := t.eth, free := t.free, out := t.out } ∧
    (∀ w, w = 1000000 * s.img.probeMs (p.val + 1) →
      (s.runs rNET = false ∨ s.pairOn (p.val + 1) = false ∨ s.canHeard (memberUnit (p.val + 1) b) o w = true ∨
        s.canHeard (memberUnit (p.val + 1) (!b)) o w = false → t = s.begin o) ∧
      (s.runs rNET = true ∧ s.pairOn (p.val + 1) = true ∧ s.canHeard (memberUnit (p.val + 1) b) o w = false ∧
          s.canHeard (memberUnit (p.val + 1) (!b)) o w = true →
        (t.member (p.val + 1) b).cSil = true ∧ s.fallen t (p.val + 1) b))) ∧
  (∀ (s : State) (o : Opt) (b : Bool), Completes (.probeSend o b) s fun t =>
    t = { s.begin o with eth := t.eth, out := t.out } ∧
    (∀ m, m = s.member 0 b →
      (s.runs rNET = true ∧ s.pairOn 0 = true ∧ s.img.probes = true ∧ (rd s.eth.port (memberIx b)).enF = true ∧ m.probe = none ∧
          (∀ a, m.sent = some a → a + 1000000 * s.img.probeMs 0 ≤ o) →
        t.eth = { s.eth with pair := upd s.eth.pair 0 fun q => q.updMem b fun m => { m with probe := some o, sent := some o } } ∧
        t.out = [s.probeMsg (memberIx b)]) ∧
      (s.runs rNET = false ∨ s.pairOn 0 = false ∨ s.img.probes = false ∨ (rd s.eth.port (memberIx b)).enF = false ∨ m.probe ≠ none ∨
          (∃ a, m.sent = some a ∧ o < a + 1000000 * s.img.probeMs 0) → t = s.begin o))) ∧
  (∀ (s : State) (o : Opt) (b : Bool), Completes (.probeTimeout o b) s fun t =>
    t = { s.begin o with hst := t.hst, rcd := t.rcd, can := t.can, eth := t.eth, free := t.free, out := t.out } ∧
    ((s.member 0 b).probe = none ∨ s.runs rNET = false → t = s.begin o) ∧
    (∀ a, (s.member 0 b).probe = some a ∧ s.runs rNET = true →
      (o < a + 1000000 * s.img.probeMs 0 → t = s.begin o) ∧
      (a + 1000000 * s.img.probeMs 0 ≤ o →
        (rd t.eth.port (memberIx b)).lost = satInc (rd s.eth.port (memberIx b)).lost ∧ (t.member 0 b).probe = none ∧
        (t.member 0 b).lostRun = (s.member 0 b).lostRun + 1 ∧
        ((s.member 0 b).lostRun + 1 < s.img.probeLoss →
          (t.member 0 b).health = (s.member 0 b).health ∧ (t.pair 0).active = (s.pair 0).active) ∧
        (s.img.probeLoss ≤ (s.member 0 b).lostRun + 1 ∧ s.img.probeLoss ≤ (s.member 0 (!b)).lostRun →
          (t.member 0 (!b)).cSil = false ∧ (t.member 0 b).health = (s.member 0 b).health) ∧
        (s.img.probeLoss ≤ (s.member 0 b).lostRun + 1 ∧ (s.member 0 (!b)).lostRun < s.img.probeLoss ∧ s.pairOn 0 = true →
          (t.member 0 b).cSil = true ∧ s.fallen t 0 b)))) ∧
  (∀ (s : State) (o : Opt) (b : Bool), Completes (.probeReply o b) s fun t =>
    t = { s.begin o with eth := t.eth } ∧
    ((s.member 0 b).probe = none ∨ s.runs rNET = false → t = s.begin o) ∧
    (∀ a, (s.member 0 b).probe = some a ∧ s.runs rNET = true →
      (a + 1000000 * s.img.probeMs 0 < o → t = s.begin o) ∧
      (o ≤ a + 1000000 * s.img.probeMs 0 → t.eth.port = s.eth.port ∧
        t.member 0 b = { s.member 0 b with probe := none, lostRun := 0, cSil := false,
                                           answered := (s.member 0 b).answered || (s.member 0 b).health == .checking }))) ∧
  (∀ (s : State) (o : Opt) (p : Fin 3) (b : Bool), Completes (.pathConditionClear o p b) s fun t =>
    t = { s.begin o with can := t.can, eth := t.eth, out := t.out } ∧
    (s.runs rNET = false ∨ s.pairOn p.val = false ∨ (s.member p.val b).health ≠ .down ∨
      (p.val = 0 ∧ s.img.errMax 0 < ((s.member 0 b).fcsErrors o).length) → t = s.begin o) ∧
    (p.val = 0 ∧ s.runs rNET = true ∧ s.pairOn 0 = true ∧ (s.member 0 b).health = .down ∧ (rd s.eth.port (memberIx b)).enF = true ∧
        (s.img.probes = false ∨ (s.member 0 b).cSil = false) ∧ ((s.member 0 b).fcsErrors o).length ≤ s.img.errMax 0 →
      (t.member 0 b).health = .checking ∧ (t.member 0 b).bad = false ∧ (t.member 0 b).since = t.clk.opt ∧
      (rd t.eth.port (memberIx b)).link = true ∧
      ((s.pair 0).active = 2 → (t.pair 0).active = memberIx b ∧ (t.pair 0).gapSince = none) ∧
      ((s.pair 0).active ≠ 2 ∧ (s.pair 0).takeAt ≠ t.clk.opt → (t.pair 0).active = (s.pair 0).active))) ∧
  (∀ (s : State) (o : Opt) (p : Fin 3) (b : Bool), Completes (.mirrorCopyComplete o p b) s fun t =>
    t = { s.begin o with eth := t.eth } ∧
    (s.runs rNET = true ∧ s.pairOn p.val = true ∧ (s.pair p.val).active ≠ 2 ∧ (s.member p.val b).health = .checking →
      t.eth = { s.eth with pair := upd s.eth.pair p.val fun q => q.updMem b fun m => { m with mirror := true } }) ∧
    (s.runs rNET = false ∨ s.pairOn p.val = false ∨ (s.pair p.val).active = 2 ∨ (s.member p.val b).health ≠ .checking → t = s.begin o)) ∧
  (∀ (s : State) (o : Opt) (p : Fin 3) (b : Bool), Completes (.pathReady o p b) s fun t =>
    t = { s.begin o with eth := t.eth } ∧
    (∀ m, m = s.member p.val b →
      (s.runs rNET = true ∧ s.pairOn p.val = true ∧ m.health = .checking ∧ m.since + 1000000000 * s.img.returnS p.val ≤ o ∧
          (p.val = 0 ∧ s.img.probes = true → m.answered = true) ∧ m.mirror = true →
        t.member p.val b = { m with health := .ready } ∧ (t.pair p.val).degraded = false ∧ (t.pair p.val).active = (s.pair p.val).active) ∧
      (s.runs rNET = false ∨ s.pairOn p.val = false ∨ m.health ≠ .checking ∨ o < m.since + 1000000000 * s.img.returnS p.val ∨
          (p.val = 0 ∧ s.img.probes = true ∧ m.answered = false) ∨ m.mirror = false → t = s.begin o)))

/-- Equinox, planned swaps, port enables, counters, and what an interface answers (R475; R477; R480; R483; R492). EQUINOX,
ECHO_REQUEST and ADDRESS_RESOLUTION complete in every state, PAIR_SWAP, PORT_ENABLE_WRITE and ETH_CNT_CLEAR in every
state ready for them. At an Equinox instant outside a gap the paths of the pair swap where the standby is READY and no
activation is near, and the swap is counted; else it is deferred and counted. A commanded swap needs the level SERVICE
and a READY standby. A port's enable is the bit written. An enabled port answers an echo request for one of its
addresses that came with its VLAN ID, under its tag, with the payload and an address resolution with the MAC address
of its interface; on the standby path a request is discarded and counted. The clears touch the counters named and
nothing else. -/
def Obligations.SwapsAndInterfaces : Prop :=
  (∀ (s : State) (o : Opt) (p : Fin 3), Completes (.equinox o p) s fun t =>
    t = { s.begin o with hst := t.hst, rcd := t.rcd, can := t.can, eth := t.eth, free := t.free, out := t.out } ∧
    (∀ q, q = s.pair p.val → ∀ u, u = t.pair p.val →
      (s.runs rNET = false ∨ s.pairOn p.val = false ∨ (s.begin o).equinoxAt p.val o = false ∨ q.active = 2 ∨ q.inGap o = true → t = s.begin o) ∧
      (s.runs rNET = true ∧ s.pairOn p.val = true ∧ (s.begin o).equinoxAt p.val o = true ∧ q.active ≠ 2 ∧ q.inGap o = false ∧ s.standbyReady p.val = true ∧ (s.begin o).actSoon = false → u.active = (if q.active = 0 then 1 else 0) ∧
        u.swapCnt = satInc q.swapCnt ∧ u.swapAt = some t.clk.opt ∧ u.lastGap.toNat ≤ 2000 ∧ u.deferCnt = q.deferCnt) ∧
      (s.runs rNET = true ∧ s.pairOn p.val = true ∧ (s.begin o).equinoxAt p.val o = true ∧ q.active ≠ 2 ∧ q.inGap o = false ∧
          (s.standbyReady p.val = false ∨ (s.begin o).actSoon = true) →
        t.eth = { s.eth with pair := upd s.eth.pair p.val fun q => { q with eqxDefer := true, deferCnt := satInc q.deferCnt } } ∧
        t.can = s.can))) ∧
  (∀ (s : State) (r : HostReq) (v : Word), s.ready r (writeLevel [0xF0008]) 0 = true → s.blockShut 0xF = false → v &&& 0xFFFFFFF0 = 0 →
        (2 ≤ (s.sess r.sess).level ∧ field v 0 2 ≠ 3 ∧ field v 2 2 = 1 ∧ s.pairOn (field v 0 2) = true ∧ s.standbyReady (field v 0 2) = true) →
      Completes (.pairSwap r v) s fun t => s.answersLast t r 0x0011 stOK [] ∧ s.hostKeeps t r ∧
        t = { s with clk := t.clk, hst := t.hst, out := t.out, can := t.can, eth := t.eth, free := t.free } ∧
        (∀ p, p = field v 0 2 →
        (t.pair p).active = (if (s.pair p).active = 0 then 1 else 0) ∧ (t.pair p).swapCnt = satInc (s.pair p).swapCnt ∧
        (t.pair p).swapAt = some t.clk.opt ∧ (t.pair p).lastGap.toNat ≤ 2000 ∧ t.eth.port = s.eth.port ∧
        ∀ k, k ≠ p → t.pair k = s.pair k)) ∧
  (∀ (s : State) (r : HostReq) (v : Word), s.ready r (writeLevel [0xF0000]) 0 = true → s.blockShut 0xF = false → v &&& 0xFFFFFF80 = 0 →
        (v.getLsbD 6 = true ∨ (s.sess r.sess).port ≠ 5) →
      Completes (.portEnableWrite r v) s fun t => t.replies r 0x0011 stOK [] ∧ t.clk = { s.clk with opt := max s.clk.opt r.opt, past := t.clk.past } ∧
        t = { s with clk := t.clk, hst := t.hst, out := t.out, rcd := t.rcd, can := t.can, eth := t.eth, free := t.free } ∧
        t.eth.en = BitVec.ofNat 7 v.toNat ∧
        ∀ n, n < 7 → (rd t.eth.port n).enF = v.getLsbD n ∧
          (v.getLsbD n = (rd s.eth.port n).enF → rd t.eth.port n = rd s.eth.port n) ∧
          (v.getLsbD n = true ∧ (rd s.eth.port n).enF = false → (rd t.eth.port n).link = (decide (2 ≤ n) || !s.pairOn 0)) ∧
          (v.getLsbD n = false ∧ (rd s.eth.port n).enF = true → (rd t.eth.port n).link = false ∧ (rd t.eth.port n).fault = false)) ∧
  (∀ (s : State) (r : HostReq) (v : Word), s.ready r (writeLevel [0xF0000]) 0 = true → s.blockShut 0xF = false → v &&& 0xFFFFFF80 = 0 →
    Completes (.portEnableWrite r v) s fun t => t.eth.en = BitVec.ofNat 7 v.toNat ∧
      (v.getLsbD 6 = false ∧ (rd s.eth.port 6).enF = true → ∀ k, k < 8 ∧ (s.sess k).port = 5 → (t.sess k).isOpen = false)) ∧
  (∀ (s : State) (r : HostReq) (v : Word), s.ready r (writeLevel [0xF0004]) 0 = true → s.blockShut 0xF = false → v &&& 0xFFFFF880 = 0 →
      Completes (.ethCntClear r v) s fun t => s.answers t r 0x0011 stOK [] ∧ s.hostKeeps t r ∧
        t = { s with clk := t.clk, hst := t.hst, out := t.out, eth := { s.eth with port := t.eth.port, pair := t.eth.pair } } ∧
        (∀ n, n < 7 → rd t.eth.port n = if v.getLsbD n = true then { rd s.eth.port n with fcs := 0, lost := 0 } else rd s.eth.port n) ∧
        ∀ p, p < 3 → t.pair p = if v.getLsbD (8 + p) = true then
          { s.pair p with swapCnt := 0, faultCnt := 0, deferCnt := 0, failCnt := 0, maxGap := 0 } else s.pair p) ∧
  (∀ (s : State) (o : Opt) (f : Fin 6) (pathB v6 : Bool) (vlan : Option Nat) (a pl : List Byte), Completes (.echoRequest o f pathB v6 vlan a pl) s fun t =>
    t = { s.begin o with eth := t.eth, out := t.out } ∧
    (∀ q, q = s.ifacePort f.val pathB →
      (s.runs rNET = false ∨ ((s.begin o).onStandby f.val pathB = true ∧ ((s.pair 0).active = 2 ∨ (s.pair 0).active = memberIx pathB)) ∨
          ((s.begin o).onStandby f.val pathB = false ∧ ((rd s.eth.port q.1).enF = false ∨
            vlan ≠ (s.netTag f.val).map (fun x => x % 4096) ∨ s.ownAddr f.val q.2 v6 a = false)) → t = s.begin o) ∧
      (s.runs rNET = true ∧ (s.begin o).onStandby f.val pathB = true ∧ (s.pair 0).active ≠ 2 ∧ (s.pair 0).active ≠ memberIx pathB →
        t = { s.begin o with eth := { s.eth with stbyDisc := satInc s.eth.stbyDisc } }) ∧
      (s.runs rNET = true ∧ (s.begin o).onStandby f.val pathB = false ∧ (rd s.eth.port q.1).enF = true ∧
          vlan = (s.netTag f.val).map (fun x => x % 4096) ∧ s.ownAddr f.val q.2 v6 a = true →
        t.eth = { s.eth with port := upd s.eth.port q.1 fun x => { x with link := true } } ∧
        t.out = [.net q.1 netEcho (s.netTag f.val) pl]))) ∧
  (∀ (s : State) (o : Opt) (f : Fin 6) (pathB v6 : Bool) (vlan : Option Nat) (a : List Byte), Completes (.addressResolution o f pathB v6 vlan a) s fun t =>
    t = { s.begin o with eth := t.eth, out := t.out } ∧
    (∀ q, q = s.ifacePort f.val pathB →
      (s.runs rNET = false ∨ ((s.begin o).onStandby f.val pathB = true ∧ ((s.pair 0).active = 2 ∨ (s.pair 0).active = memberIx pathB)) ∨
          ((s.begin o).onStandby f.val pathB = false ∧ ((rd s.eth.port q.1).enF = false ∨
            vlan ≠ (s.netTag f.val).map (fun x => x % 4096) ∨ s.ownAddr f.val q.2 v6 a = false)) → t = s.begin o) ∧
      (s.runs rNET = true ∧ (s.begin o).onStandby f.val pathB = true ∧ (s.pair 0).active ≠ 2 ∧ (s.pair 0).active ≠ memberIx pathB →
        t = { s.begin o with eth := { s.eth with stbyDisc := satInc s.eth.stbyDisc } }) ∧
      (s.runs rNET = true ∧ (s.begin o).onStandby f.val pathB = false ∧ (rd s.eth.port q.1).enF = true ∧
          vlan = (s.netTag f.val).map (fun x => x % 4096) ∧ s.ownAddr f.val q.2 v6 a = true →
        t.eth = { s.eth with port := upd s.eth.port q.1 fun x => { x with link := true } } ∧
        t.out = [.net q.1 netResolve (s.netTag f.val) (s.mac q.2)])))

/-- The recorder: boundaries, writes, the end of a freeze, and the end of a clear (R503; R504; R505; R506; R507; R508;
R509; R512; R514). RECORD_BOUNDARY, RECORD_WRITE_COMPLETE, FREEZE_MAX_EXPIRY and REC_CLEAR_COMPLETE complete in every
state. At a new boundary the open set closes and an empty one opens there, unless a record waits, a session holds a
freeze or a clear runs: then the boundary is passed. A record with no slot left is discarded and counted in
UNRECORDED. A good write stores the record under the next SEQ and lets waiting freezes begin; a failed one makes its
slot unusable, is counted, and leaves the record waiting where a slot is left. FREEZE_MAX_S after it was taken a
session's freeze ends, and at the last one a set with a passed boundary closes. A clear empties every slot and
UNRECORDED and keeps the next SEQ. -/
def Obligations.RecorderEvents : Prop :=
  (∀ (s : State) (o : Opt), Completes (.recordBoundary o) s fun t =>
    t = { s.begin o with rcd := t.rcd } ∧
    ((s.begin o).recDue = false → t = s.begin o) ∧
    (∀ j, (s.begin o).recDue = true → j = (s.begin o).gridAt (max s.clk.opt o) / (s.recInterval * 1000000000) →
      (s.rcd.closed.isSome = true ∨ s.rcd.freezers ≠ [] ∨ s.rcd.isClearing = true → t.rcd = { s.rcd with bound := j, passed := true }) ∧
      (s.rcd.closed = none ∧ s.rcd.freezers = [] ∧ s.rcd.isClearing = false →
        t.rcd.bound = j ∧ t.rcd.openSet = { RecSet.empty with start := t.clk.opt, startDvt := (s.begin o).dvt } ∧ t.rcd.passed = false ∧
        t.rcd.atBound = true ∧ t.rcd.slots = s.rcd.slots ∧
        (s.rcd.slots.length < 16384 → t.rcd.closed.isSome = true ∧ t.rcd.unrecorded = s.rcd.unrecorded) ∧
        (16384 ≤ s.rcd.slots.length → t.rcd.closed = none ∧ t.rcd.unrecorded = satInc s.rcd.unrecorded)))) ∧
  (∀ (s : State) (o : Opt) (good : Bool), Completes (.recordWriteComplete o good) s fun t =>
    t = { s.begin o with hst := t.hst, rcd := t.rcd, free := t.free, out := t.out } ∧
    (s.rcd.isClearing = true ∨ s.rcd.closed = none → t = s.begin o) ∧
    (∀ b, s.rcd.closed = some b ∧ s.rcd.isClearing = false →
      (good = true →
        t.rcd.slots = s.rcd.slots ++ [⟨s.rcd.nextSeq, true, storedRecord b s.rcd.nextSeq s.rcd.clearedNext⟩] ∧
        t.rcd.nextSeq = s.rcd.nextSeq + 1 ∧ ((s.begin o).recDue = false → t.rcd.closed = none) ∧ t.rcd.clearedNext = false ∧ t.rcd.waitFreeze = [] ∧
        t.rcd.freezers = s.rcd.freezers ++ s.rcd.waitFreeze.map fun r => (r.sess, t.clk.opt)) ∧
      (good = false →
        t.rcd.slots = s.rcd.slots ++ [⟨s.rcd.nextSeq, false, []⟩] ∧ t.rcd.writeErrCnt = satInc s.rcd.writeErrCnt ∧
        t.rcd.writeErrSeen = true ∧ t.rcd.nextSeq = s.rcd.nextSeq ∧
        (s.rcd.slots.length + 1 < 16384 → t.rcd.closed = some b ∧ t.rcd.unrecorded = s.rcd.unrecorded ∧ t.out = []) ∧
        (16384 ≤ s.rcd.slots.length + 1 → t.rcd.closed = none ∧
          ((s.begin o).recDue = false → t.rcd.unrecorded = satInc s.rcd.unrecorded))))) ∧
  (∀ (s : State) (o : Opt) (k : Fin 8), Completes (.freezeMaxExpiry o k) s fun t =>
    t = { s.begin o with rcd := t.rcd } ∧
    (∀ lim, lim = s.img.fieldOr 0x1001 0x0001 (fun b => u16 b 0) 600 * 1000000000 →
      ((∀ f ∈ s.rcd.freezers, f.1 = k.val → o < f.2 + lim) → t = s.begin o) ∧
      ((∃ f ∈ s.rcd.freezers, f.1 = k.val ∧ f.2 + lim ≤ o) → t.rcd.freezers = s.rcd.freezers.filter (fun f => f.1 != k.val) ∧ t.rcd.slots = s.rcd.slots ∧
        (t.rcd.freezers ≠ [] ∨ s.rcd.passed = false ∨ s.rcd.isClearing = true → t.rcd = { s.rcd with
          freezers := t.rcd.freezers
          waitFreeze := s.rcd.waitFreeze.filter fun q => q.sess != k.val }) ∧
        (t.rcd.freezers = [] ∧ s.rcd.passed = true ∧ s.rcd.isClearing = false → t.rcd.passed = false ∧ t.rcd.atBound = false ∧
          t.rcd.openSet = { RecSet.empty with start := t.clk.opt, startDvt := (s.begin o).dvt })))) ∧
  (∀ (s : State) (o : Opt), Completes (.recClearComplete o) s fun t =>
    t = { s.begin o with hst := t.hst, rcd := t.rcd, free := t.free, out := t.out } ∧
    (s.rcd.isClearing = false → t = s.begin o) ∧
    (s.rcd.isClearing = true → t.rcd.slots = [] ∧ t.rcd.unrecorded = 0 ∧ t.rcd.isClearing = false ∧ t.rcd.clearedNext = true ∧
      t.rcd.nextSeq = s.rcd.nextSeq ∧ ((s.begin o).recDue = false → t.rcd.closed = s.rcd.closed)))

/-- The recorder's operations and registers (R506; R511; R512; R513; R516). A ready REC_INFO answers what the recorder
holds, REC_READ the bytes of a stored record, NO_RECORD for a SEQ not stored and CLEARING during a clear, and neither
changes anything. A ready REC_FREEZE of a session without one takes effect at once, or waits for the write under way;
REC_THAW ends it. A ready REC_CLEAR at SERVICE with a granted action or the strap begins the clear and waits, and
without either is answered NOT_GRANTED. REC_PTR, at OBSERVE, latches a stored record into the window, or clears VALID.
REC_CNT_CLR clears the two counters. -/
def Obligations.RecorderOperations : Prop :=
  (∀ (s : State) (r : HostReq), s.ready r 0 7 = true →
      Completes (.recInfo r) s fun t => s.hostKeeps t r ∧ t = { s with clk := t.clk, hst := t.hst, out := t.out } ∧
        s.answers t r 0x0070 stOK (leBytes 4 ((s.rcd.stored.head?.map fun x => x.seq.toNat).getD 0) ++
          leBytes 4 ((s.rcd.stored.getLast?.map fun x => x.seq.toNat).getD 0) ++ leBytes 2 s.rcd.stored.length ++
          leBytes 1 s.rcd.state ++ leBytes 1 s.rcd.freezers.length ++ leBytes 4 s.rcd.unrecorded.toNat ++
          leBytes 8 (s.begin r.opt).nextBoundary)) ∧
  (∀ (s : State) (r : HostReq) (seq : Word) (ofs n : W16), s.ready r 0 7 = true →
      let q (st : Nat) (pl : List Byte) (t : State) : Prop :=
        s.answers t r 0x0071 st pl ∧ s.hostKeeps t r ∧ t = { s with clk := t.clk, hst := t.hst, out := t.out };
      (s.rcd.isClearing = true → Completes (.recRead r seq ofs n) s (q 0x9002 [])) ∧
      (s.rcd.isClearing = false ∧ s.rcd.stored.find? (fun x => x.seq == seq) = none → Completes (.recRead r seq ofs n) s (q 0x9001 [])) ∧
      (∀ x, s.rcd.isClearing = false ∧ s.rcd.stored.find? (fun x => x.seq == seq) = some x →
        (ofs.toNat + n.toNat ≤ 4096 ∧ 24 + n.toNat ≤ (s.sess r.sess).maxMsg →
          Completes (.recRead r seq ofs n) s (q stOK (span x.data ofs.toNat n.toNat))) ∧
        (4096 < ofs.toNat + n.toNat ∨ (s.sess r.sess).maxMsg < 24 + n.toNat → Completes (.recRead r seq ofs n) s (q stRANGE [])))) ∧
  (∀ (s : State) (r : HostReq), s.ready r 0 7 = true → s.rcd.isClearing = false →
      (∀ f ∈ s.rcd.freezers, f.1 ≠ r.sess) → (∀ q ∈ s.rcd.waitFreeze, q.sess ≠ r.sess) →
      (s.rcd.closed = none → Completes (.recFreeze r) s fun t => s.answers t r 0x0072 stOK (leBytes 8 (max s.clk.opt r.opt)) ∧
        s.hostKeeps t r ∧ t = { s with clk := t.clk, hst := t.hst, out := t.out, rcd := { s.rcd with freezers := s.rcd.freezers ++ [(r.sess, max s.clk.opt r.opt)] } }) ∧
      (s.rcd.closed.isSome = true → Completes (.recFreeze r) s fun t =>
        t = { s with clk := { s.clk with opt := max s.clk.opt r.opt, past := t.clk.past }, hst := t.hst, out := [],
                     rcd := { s.rcd with waitFreeze := s.rcd.waitFreeze ++ [r] } } ∧
        ∃ b, t.hst.ops = s.hst.ops ++ [⟨r, 0x0072, none, b, false⟩])) ∧
  (∀ (s : State) (r : HostReq), s.ready r 0 7 = true →
      ((∃ f ∈ s.rcd.freezers, f.1 = r.sess) → Completes (.recThaw r) s fun t => (∃ pl, s.answers t r 0x0073 stOK pl) ∧ s.hostKeeps t r ∧
        t = { s with clk := t.clk, hst := t.hst, out := t.out, rcd := t.rcd } ∧
        t.rcd.freezers = s.rcd.freezers.filter (fun f => f.1 != r.sess) ∧
        (t.rcd.freezers ≠ [] ∨ s.rcd.passed = false ∨ s.rcd.isClearing = true → t.rcd = { s.rcd with
          freezers := t.rcd.freezers
          waitFreeze := s.rcd.waitFreeze.filter fun q => q.sess != r.sess })) ∧
      ((∀ f ∈ s.rcd.freezers, f.1 ≠ r.sess) → Completes (.recThaw r) s fun t => s.answers t r 0x0073 stSTATE [] ∧ s.hostKeeps t r ∧
        t = { s with clk := t.clk, hst := t.hst, out := t.out })) ∧
  (∀ (s : State) (r : HostReq), s.ready r 2 7 = true → s.rcd.isClearing = false →
      ((s.begin r.opt).granted r.sess 0 = true ∨ s.boot.svcEn = true → Completes (.recClear r) s fun t =>
        t = { s with clk := { s.clk with opt := max s.clk.opt r.opt, past := t.clk.past }, hst := t.hst, out := [],
                     rcd := { s.rcd with isClearing := true, clearing := some r } } ∧
        (∃ b, t.hst.ops = s.hst.ops ++ [⟨r, 0x0074, none, b, false⟩]) ∧ (∀ k, k ≠ r.sess → t.sess k = s.sess k) ∧
        (s.boot.svcEn = false → (t.sess r.sess).grant = dropUse 0 ((s.sess r.sess).grant.filter fun g => decide (max s.clk.opt r.opt < g.until_)))) ∧
      ((s.begin r.opt).granted r.sess 0 = false ∧ s.boot.svcEn = false → Completes (.recClear r) s fun t =>
        s.answers t r 0x0074 0x9003 [] ∧ s.hostKeeps t r ∧ t = { s with clk := t.clk, hst := t.hst, out := t.out })) ∧
  (∀ (s : State) (r : HostReq) (v : Word), s.ready r (writeLevel [0x100100]) 0 = true → s.blockShut 0x10 = false →
      Completes (.recPointer r v) s fun t => s.answers t r 0x0011 stOK [] ∧ s.hostKeeps t r ∧
        t = { s with clk := t.clk, hst := t.hst, out := t.out, rcd := { s.rcd with ptr := v, ptrValid := t.rcd.ptrValid, win := t.rcd.win } } ∧
        (s.rcd.isClearing = true ∨ s.rcd.stored.find? (fun x => x.seq == v) = none → t.rcd.ptrValid = false ∧ t.rcd.win = []) ∧
        (∀ x, s.rcd.isClearing = false ∧ s.rcd.stored.find? (fun x => x.seq == v) = some x → t.rcd.ptrValid = true ∧ t.rcd.win = x.data)) ∧
  (∀ (s : State) (r : HostReq) (v : Word), s.ready r (writeLevel [0x100018]) 0 = true → s.blockShut 0x10 = false → v &&& 0xFFFFFFFE = 0 →
        bit v 0 = true →
      Completes (.recCntClear r v) s fun t => s.answers t r 0x0011 stOK [] ∧ s.hostKeeps t r ∧
        t = { s with clk := t.clk, hst := t.hst, out := t.out, rcd := { s.rcd with writeErrCnt := 0, supprCnt := 0 } })

/-- The update operations of a SERVICE session (R520; R522; R525; R527; R533; R535; R537). A ready UPD_BEGIN is answered
with the code of the first check that fails, which ERR then shows, with NOT_HEAD at a member that is not the head, and
else stages the manifest. A ready UPD_DATA at the head while receiving keeps a chunk whose block table is not there
yet; a block complete in one chunk is accepted where its digest agrees, and else discarded and counted. UPD_STATUS
answers and changes nothing. UPD_ABORT at the head abandons a manifest that is not committed, one that failed its
verification too, and after COMMIT is refused. UPD_CONFIRM is kept on a trial boot that asks for it. UPD_REJECT of a
trial boot answers, resets the module and falls back. UPD_CNT_CLR clears the three counters. -/
def Obligations.UpdateOperations : Prop :=
  (∀ (s : State) (r : HostReq) (b : List Byte), s.ready r 2 8 = true →
      ∀ c, c = (s.begin r.opt).mfCheck b →
      let q (st : Nat) (pl : List Byte) (t : State) : Prop :=
        s.answers t r 0x0080 st pl ∧ s.hostKeeps t r ∧ t = { s with clk := t.clk, hst := t.hst, out := t.out };
      (c = 8 → Completes (.updBegin r b) s (q 0x9102 [0x08])) ∧
      (c ≠ 0 ∧ c ≠ 8 → Completes (.updBegin r b) s fun t => s.answers t r 0x0080 0x9101 (leBytes 1 c) ∧ s.hostKeeps t r ∧
        t = { s with clk := t.clk, hst := t.hst, out := t.out, updt := { s.updt with err := BitVec.ofNat 8 c, cfgErr := 0 } }) ∧
      (c = 0 ∧ mfOwners b s.boot.serial.toNat ≠ [0] → Completes (.updBegin r b) s (q 0x9103 [])) ∧
      (c = 0 ∧ mfOwners b s.boot.serial.toNat = [0] → Completes (.updBegin r b) s fun t => t.replies r 0x0080 stOK [] ∧
        t = { s with clk := { s.clk with opt := max s.clk.opt r.opt, past := t.clk.past }, hst := t.hst, out := t.out, free := t.free, journal := t.journal,
                     updt := t.updt } ∧
        t.journal.state = .receiving ∧ t.journal.manifest = b ∧ t.journal.committed = none ∧ t.updt.err = 0 ∧
        t.journal.parts.length = mfParts b ∧ t.updt.members.length = mfMembers b ∧ t.updt.prepared = none)) ∧
  (∀ (s : State) (r : HostReq) (part kind : Byte) (ofs : Word) (d : List Byte) (n : Nat), s.ready r 2 8 = true →
      (s.sess r.sess).agreed.getLsbD 15 = true → s.isHead = true → s.journal.state = .receiving → n = part.toNat →
      n < mfParts s.journal.manifest → n < s.journal.parts.length → kind = 1 → ofs.toNat % 8192 = 0 → ofs.toNat < (s.part n).length →
      d.length = min 8192 ((s.part n).length - ofs.toNat) → lookupN (s.partRx n).blocks (ofs.toNat / 65536) = none →
      Completes (.updData r part kind ofs d) s fun t => (∃ pl, t.replies r 0x0081 stOK pl) ∧
        t = { s with clk := { s.clk with opt := max s.clk.opt r.opt, past := t.clk.past }, hst := t.hst, out := t.out, free := t.free, journal := t.journal,
                     updt := t.updt, flash := t.flash, fw := t.fw, rcd := t.rcd } ∧
        ((s.partRx n).table = none → t.flash = s.flash ∧ t.fw = s.fw ∧ t.updt = s.updt ∧
          lookupN (t.partRx n).chunks (ofs.toNat / 8192) = some d ∧ (t.partRx n).blocks = (s.partRx n).blocks) ∧
        (∀ tb, (s.partRx n).table = some tb ∧ (s.part n).blockLen (ofs.toNat / 65536) ≤ 8192 →
          (Config.sha384 d = span tb (48 * (ofs.toNat / 65536)) 48 → lookupN (t.partRx n).blocks (ofs.toNat / 65536) = some d ∧
            t.updt.blockErr = s.updt.blockErr) ∧
          (Config.sha384 d ≠ span tb (48 * (ofs.toNat / 65536)) 48 → lookupN (t.partRx n).blocks (ofs.toNat / 65536) = none ∧
            t.updt.blockErr = satInc s.updt.blockErr ∧ t.flash = s.flash ∧ t.fw = s.fw))) ∧
  (∀ (s : State) (r : HostReq), s.ready r 2 8 = true → Completes (.updStatus r) s fun t => s.hostKeeps t r ∧
      t = { s with clk := t.clk, hst := t.hst, out := t.out } ∧
      ∃ pl, s.answers t r 0x0082 stOK pl ∧ pl.take 2 = leBytes 1 s.journal.state.code ++ leBytes 1 s.updt.err.toNat) ∧
  (∀ (s : State) (r : HostReq), s.ready r 2 8 = true →
      let q (st : Nat) (t : State) : Prop :=
        s.answers t r 0x0083 st [] ∧ s.hostKeeps t r ∧ t = { s with clk := t.clk, hst := t.hst, out := t.out };
      (s.journal.state = .committed → Completes (.updAbort r) s (q 0x9104)) ∧
      (s.journal.state ∈ [.idle, .trial, .confirmed, .fallback, .abandoned] → Completes (.updAbort r) s (q stSTATE)) ∧
      (s.journal.state ∈ [.receiving, .verifying, .ready, .failed] →
        (s.isHead = false → Completes (.updAbort r) s (q 0x9103)) ∧
        (s.isHead = true → Completes (.updAbort r) s fun t => t.replies r 0x0083 stOK [] ∧
          t = { s with clk := { s.clk with opt := max s.clk.opt r.opt, past := t.clk.past }, hst := t.hst, out := t.out, free := t.free, rcd := t.rcd,
                       journal := { s.journal with state := .abandoned, committed := none } }))) ∧
  (∀ (s : State) (r : HostReq), s.ready r 2 8 = true →
      (s.updt.trialBoot = true ∧ mfHostConfirm s.journal.manifest = true → Completes (.updConfirm r) s fun t =>
        s.answers t r 0x0084 stOK [] ∧ s.hostKeeps t r ∧
        t = { s with clk := t.clk, hst := t.hst, out := t.out, updt := { s.updt with hostConfirm := true } }) ∧
      (s.updt.trialBoot = false ∨ mfHostConfirm s.journal.manifest = false → Completes (.updConfirm r) s fun t =>
        s.answers t r 0x0084 0x9105 [] ∧ s.hostKeeps t r ∧ t = { s with clk := t.clk, hst := t.hst, out := t.out })) ∧
  (∀ (s : State) (r : HostReq) (p : PowerIn), s.ready r 2 8 = true →
      (s.updt.trialBoot = false → Completes (.updReject r p) s fun t =>
        s.answers t r 0x0085 0x9105 [] ∧ s.hostKeeps t r ∧ t = { s with clk := t.clk, hst := t.hst, out := t.out }) ∧
      (s.updt.trialBoot = true ∧ s.bootRec.migrateFail = false → Completes (.updReject r p) s fun t =>
        Msg.completion r.sess r.ring r.ticket ((s.sess r.sess).txSeq + 1) 0x0085 stOK false [] ∈ t.out ∧ Msg.moduleReset ∈ t.out ∧
        t.pwr.supply = .powerup ∧ t.clk.opt = 0 ∧ t.journal.state = .fallback ∧ t.bootRec.lastResult = 4 ∧ t.bootRec.reject = false ∧
        t.bootRec.fwTrial = false ∧ t.bootRec.cfgTrial = false ∧ t.bootRec.fwActive = s.bootRec.fwActive ∧
        t.bootRec.cfgActive = s.bootRec.cfgActive)) ∧
  (∀ (s : State) (r : HostReq) (v : Word), s.ready r (writeLevel [0x110028]) 0 = true → s.blockShut 0x11 = false → v &&& 0xFFFFFFFE = 0 →
        bit v 0 = true →
      Completes (.updCntClear r v) s fun t => s.answers t r 0x0011 stOK [] ∧ s.hostKeeps t r ∧
        t = { s with clk := t.clk, hst := t.hst, out := t.out, updt := { s.updt with blockErr := 0, deferCnt := 0, lateCnt := 0 } })

/-- The chain's messages at a member (R159; R522; R523; R524; R525; R526; R527; R533). The ten RELAY commands and
CHAIN_SESSION_RETRY complete in every state. An arrived message is discarded unless the service runs, its body has the
layout and the KIND, and, but for block tables and data, which come plain, its envelope's signature and certificate
verify and its (BOOT, SEQ) lies above the last taken from its SERIAL, which it then becomes. A message taken changes
nothing further for a manifest that is not the staged one or from a sender that R524 does not let send it. A manifest
that passes the checks is staged and passed on, one staged already is left alone, one that fails leaves its code. A
chunk is kept until its block can be checked; an accepted block asked for again is sent. A READY, VOTE, STATE or
RESULT report is passed on upstream and entered for its member, VOTE and STATE only for the window prepared; a PREPARE
is passed on and voted on; COMMIT for the window prepared commits a READY member, DEFER and ABANDON move an undecided
one. -/
def Obligations.UpdateRelay : Prop :=
  (∀ (s : State) (m : RelayIn) (k : Nat),
    (s.updOn = false ∨ m.read = none ∨ m.env = (k == 2 || k == 3) → s.takeRelay m k = none) ∧
    (∀ x, m.read = some x →
      (x.kind ≠ k ∨ x.formOk = false ∨ (m.env = true ∧ (m.envelopeOk = false ∨ s.pairNewer m.raw = false)) → s.takeRelay m k = none) ∧
      (s.updOn = true ∧ x.kind = k ∧ x.formOk = true →
        (m.env = false ∧ (k = 2 ∨ k = 3) → s.takeRelay m k = some (s, x)) ∧
        (m.env = true ∧ k ≠ 2 ∧ k ≠ 3 ∧ m.envelopeOk = true ∧ s.pairNewer m.raw = true → s.takeRelay m k =
          some ({ s with flash := { s.flash with taken := bindN s.flash.taken (u64 m.raw 8) (u32 m.raw 16, u32 m.raw 20) } }, x))))) ∧
  (∀ (s : State) (m : RelayIn),
    ((s.begin m.opt).takeRelay m 0x01 = none → Completes (.relayManifest m) s fun t => t = s.begin m.opt) ∧
    ((s.begin m.opt).takeRelay m 0x02 = none → Completes (.relayBtable m) s fun t => t = s.begin m.opt) ∧
    ((s.begin m.opt).takeRelay m 0x03 = none → Completes (.relayData m) s fun t => t = s.begin m.opt) ∧
    ((s.begin m.opt).takeRelay m 0x04 = none → Completes (.relayResend m) s fun t => t = s.begin m.opt) ∧
    ((s.begin m.opt).takeRelay m 0x05 = none → Completes (.relayReady m) s fun t => t = s.begin m.opt) ∧
    ((s.begin m.opt).takeRelay m 0x06 = none → Completes (.relayPrepare m) s fun t => t = s.begin m.opt) ∧
    ((s.begin m.opt).takeRelay m 0x07 = none → Completes (.relayVote m) s fun t => t = s.begin m.opt) ∧
    ((s.begin m.opt).takeRelay m 0x08 = none → Completes (.relayState m) s fun t => t = s.begin m.opt) ∧
    ((s.begin m.opt).takeRelay m 0x09 = none → Completes (.relayDecision m) s fun t => t = s.begin m.opt) ∧
    ((s.begin m.opt).takeRelay m 0x0A = none → Completes (.relayResult m) s fun t => t = s.begin m.opt)) ∧
  (∀ (s : State) (m : RelayIn) (u : State) (x : RelayMsg), (s.begin m.opt).takeRelay m 0x01 = some (u, x) →
    ∀ c, c = u.mfCheck x.payload → Completes (.relayManifest m) s fun t =>
    t = { s.begin m.opt with
        clk := t.clk, flash := t.flash, journal := t.journal, hst := t.hst, updt := t.updt, free := t.free,
        out := t.out } ∧
    (c = 8 ∨ (s.journal.state ≠ .idle ∧ s.journal.state ≠ .abandoned ∧ s.journal.manifest = x.payload) → t = u) ∧
    (c ≠ 8 ∧ (s.journal.state = .idle ∨ s.journal.state = .abandoned ∨ s.journal.manifest ≠ x.payload) →
      (c ≠ 0 → t = { u with updt := { s.updt with err := BitVec.ofNat 8 c, cfgErr := 0 } }) ∧
      (c = 0 → t.journal.state = .receiving ∧ t.journal.manifest = x.payload ∧ t.journal.committed = none ∧
        t.journal.parts.length = mfParts x.payload ∧ t.updt.err = 0 ∧ s.passedOn t 1))) ∧
  (∀ (s : State) (m : RelayIn) (u : State) (x : RelayMsg), (s.begin m.opt).takeRelay m 0x02 = some (u, x) →
    Completes (.relayBtable m) s fun t => t = { s.begin m.opt with
        clk := t.clk, flash := t.flash, journal := t.journal, fw := t.fw, hst := t.hst, rcd := t.rcd, updt := t.updt,
        free := t.free, out := t.out } ∧
    (s.staged x = false ∨ s.journal.state ≠ .receiving → t = s.begin m.opt) ∧
    (s.staged x = true ∧ s.journal.state = .receiving ∧ x.part < mfParts s.journal.manifest ∧ x.part < s.journal.parts.length ∧
        (s.partRx x.part).table = none ∧ chunksOf (48 * (s.part x.part).blocks) = 1 ∧ x.block = 0 ∧ x.chunk = 0 →
      (Config.sha384 x.payload = (s.part x.part).btDigest → (t.partRx x.part).table = some x.payload) ∧
      (Config.sha384 x.payload ≠ (s.part x.part).btDigest → (t.partRx x.part).table = none ∧ (t.partRx x.part).tablePieces = []))) ∧
  (∀ (s : State) (m : RelayIn) (u : State) (x : RelayMsg), (s.begin m.opt).takeRelay m 0x03 = some (u, x) →
    Completes (.relayData m) s fun t => t = { s.begin m.opt with
        clk := t.clk, flash := t.flash, journal := t.journal, fw := t.fw, hst := t.hst, rcd := t.rcd, updt := t.updt,
        free := t.free, out := t.out } ∧
    (s.staged x = false ∨ s.journal.state ≠ .receiving → t = s.begin m.opt) ∧
    (s.staged x = true ∧ s.journal.state = .receiving ∧ x.part < mfParts s.journal.manifest ∧ x.part < s.journal.parts.length ∧
        x.block < (s.part x.part).blocks ∧ x.chunk < chunksOf ((s.part x.part).blockLen x.block) ∧
        lookupN (s.partRx x.part).blocks x.block = none ∧ (s.partRx x.part).table = none →
      lookupN (t.partRx x.part).chunks (8 * x.block + x.chunk) = some x.payload ∧ (t.partRx x.part).blocks = (s.partRx x.part).blocks ∧
      t.flash = s.flash ∧ t.fw = s.fw ∧ t.updt = s.updt)) ∧
  (∀ (s : State) (m : RelayIn) (u : State) (x : RelayMsg), (s.begin m.opt).takeRelay m 0x04 = some (u, x) →
    Completes (.relayResend m) s fun t => t = { s.begin m.opt with clk := t.clk, flash := t.flash, hst := t.hst, free := t.free, out := t.out } ∧
    (s.staged x = false ∨ s.fromMember x = false ∨ lookupN (s.partRx x.part).blocks x.block = none → t = u) ∧
    (∀ d, s.staged x = true ∧ s.fromMember x = true ∧ lookupN (s.partRx x.part).blocks x.block = some d →
      ∀ k, s.hst.subs = [k] ∧ k.stream = 6 ∧ k.inst = 0 → t.hst.subs = [{ k with items := k.items + chunksOf d.length }])) ∧
  (∀ (s : State) (m : RelayIn) (u : State) (x : RelayMsg), (s.begin m.opt).takeRelay m 0x05 = some (u, x) →
    Completes (.relayReady m) s fun t => t = { s.begin m.opt with
        clk := t.clk, flash := t.flash, hst := t.hst, updt := t.updt, free := t.free, out := t.out } ∧
    (s.staged x = false ∨ s.fromMember x = false → t = u) ∧
    (s.staged x = true ∧ s.fromMember x = true → s.passedOn t 2 ∧
      t.updt = { s.updt with members := s.updt.members.modify x.member fun y => { y with ready := true } })) ∧
  (∀ (s : State) (m : RelayIn) (u : State) (x : RelayMsg), (s.begin m.opt).takeRelay m 0x06 = some (u, x) →
    Completes (.relayPrepare m) s fun t => t = { s.begin m.opt with
        clk := t.clk, flash := t.flash, hst := t.hst, updt := t.updt, free := t.free, out := t.out } ∧
    (s.staged x = false ∨ s.fromHead x = false ∨ s.isHead = true → t = u) ∧
    (s.staged x = true ∧ s.fromHead x = true ∧ s.isHead = false → s.passedOn t 1 ∧
      t.updt = { s.updt with
        prepared := some x.window
        members := (s.updt.members.map fun y => { y with vote := 0xFF, state := none }).modify s.ownMember fun y =>
          { y with vote := if s.journal.state = .ready then 0 else 1 } })) ∧
  (∀ (s : State) (m : RelayIn) (u : State) (x : RelayMsg), (s.begin m.opt).takeRelay m 0x07 = some (u, x) →
    Completes (.relayVote m) s fun t => t = { s.begin m.opt with
        clk := t.clk, flash := t.flash, hst := t.hst, updt := t.updt, free := t.free, out := t.out } ∧
    (s.staged x = false ∨ s.fromMember x = false → t = u) ∧
    (s.staged x = true ∧ s.fromMember x = true → s.passedOn t 2 ∧ t.updt = if s.updt.prepared = some x.window then
      { s.updt with members := s.updt.members.modify x.member fun y => { y with vote := u8 x.payload 0 } } else s.updt)) ∧
  (∀ (s : State) (m : RelayIn) (u : State) (x : RelayMsg), (s.begin m.opt).takeRelay m 0x08 = some (u, x) →
    Completes (.relayState m) s fun t => t = { s.begin m.opt with
        clk := t.clk, flash := t.flash, hst := t.hst, updt := t.updt, free := t.free, out := t.out } ∧
    (s.staged x = false ∨ s.fromMember x = false → t = u) ∧
    (s.staged x = true ∧ s.fromMember x = true → s.passedOn t 2 ∧ t.updt = if s.updt.prepared = some x.window then
      { s.updt with members := s.updt.members.modify x.member fun y => { y with state := some (u8 x.payload 0) } } else s.updt)) ∧
  (∀ (s : State) (m : RelayIn) (u : State) (x : RelayMsg), (s.begin m.opt).takeRelay m 0x09 = some (u, x) →
    Completes (.relayDecision m) s fun t => t = { s.begin m.opt with
        clk := t.clk, flash := t.flash, journal := t.journal, hst := t.hst, rcd := t.rcd, updt := t.updt,
        free := t.free, out := t.out } ∧
    (s.staged x = false ∨ s.fromHead x = false ∨ s.isHead = true → t = u) ∧
    (s.staged x = true ∧ s.fromHead x = true ∧ s.isHead = false →
      (u8 x.payload 0 = 0 → s.passedOn t 1 ∧ t.updt = s.updt ∧ t.journal =
        if s.updt.prepared = some x.window ∧ s.journal.state = .ready then
          { s.journal with state := .committed, committed := some x.window } else s.journal) ∧
      (s.journal.state.undecided = false ∧ u8 x.payload 0 ≠ 0 → t.journal = s.journal ∧ t.updt = s.updt) ∧
      (s.journal.state.undecided = true ∧ u8 x.payload 0 = 1 → t.journal = s.journal ∧ t.updt.deferCnt = satInc s.updt.deferCnt ∧
        t.updt.prepared = none ∧ t.updt.passed = some x.window) ∧
      (s.journal.state.undecided = true ∧ 2 ≤ u8 x.payload 0 → t.updt = s.updt ∧
        t.journal = { s.journal with state := .abandoned, committed := none }))) ∧
  (∀ (s : State) (m : RelayIn) (u : State) (x : RelayMsg), (s.begin m.opt).takeRelay m 0x0A = some (u, x) →
    Completes (.relayResult m) s fun t => t = { s.begin m.opt with
        clk := t.clk, flash := t.flash, hst := t.hst, updt := t.updt, free := t.free, out := t.out } ∧
    (s.staged x = false ∨ s.fromMember x = false → t = u) ∧
    (s.staged x = true ∧ s.fromMember x = true → s.passedOn t 2 ∧
      t.updt = { s.updt with members := s.updt.members.modify x.member fun y => { y with result := u8 x.payload 0 } })) ∧
  (∀ (s : State) (o : Opt) (up down : Bool), Completes (.chainSessionRetry o up down) s fun t =>
    t = { s.begin o with hst := t.hst, updt := t.updt, free := t.free, out := t.out } ∧ (s.updOn = false ∨ s.journal.state = .idle → t = s.begin o) ∧
    (s.updOn = true ∧ s.journal.state ≠ .idle → t.updt = { s.updt with sessUp := up, sessDown := down } ∧ t.journal = s.journal ∧
      (s.updt.sessUp = up ∧ s.updt.sessDown = down → t = s.begin o) ∧
      (up = true ∧ s.updt.sessUp = false ∧ s.updt.sessDown = down ∧ s.journal.state = .ready → s.passedOn t 2)))

/-- Verification, the windows, activation and confirmation (R526; R527; R528; R529; R531; R533). VERIFY_COMPLETE,
PREPARE_INSTANT, VOTE_DEADLINE, STATE_SAMPLE, DECISION_INSTANT, ACTIVATION, LATE_ACTIVATION and TRIAL_CONFIRM complete
in every state. A verification that finds nothing makes the member READY, any other FAILED with its code. The head
prepares a window 120 s before it where it is READY, defers it 60 s before without every GO, and 0.5 s before commits
where every STATE report is free of reasons and else defers; a READY member samples the permitted state 2 s before. A
committed member in the permitted state activates at its window, or later with a count: it writes the boot record for
its parts and the manifest and resets. A trial that has run CONFIRM_S without a fault is confirmed. -/
def Obligations.UpdateDecisions : Prop :=
  (∀ (s : State) (o : Opt) (v : Bool), Completes (.verifyComplete o v) s fun t =>
    t = { s.begin o with
        journal := t.journal, hst := t.hst, rcd := t.rcd, updt := t.updt, free := t.free, out := t.out } ∧
    (s.updOn = false ∨ s.journal.state ≠ .verifying → t = s.begin o) ∧
    (s.updOn = true ∧ s.journal.state = .verifying →
      ∀ e, e = (s.begin o).verify v →
      (e.1 = 0 → t.journal = { s.journal with state := .ready } ∧ t.updt.err = 0 ∧ t.updt.cfgErr = 0 ∧
        t.updt.members = s.updt.members.modify s.ownMember fun x => { x with ready := true }) ∧
      (e.1 ≠ 0 → t = { s.begin o with
        journal := { s.journal with state := .failed }
        updt := { s.updt with err := BitVec.ofNat 8 e.1, cfgErr := BitVec.ofNat 8 e.2 } }))) ∧
  (∀ (s : State) (o : Opt), Completes (.prepareInstant o) s fun t =>
    t = { s.begin o with
        journal := t.journal, hst := t.hst, rcd := t.rcd, updt := t.updt, free := t.free, out := t.out } ∧
    ((s.begin o).headWindow = none → t = s.begin o) ∧
    (∀ w, (s.begin o).headWindow = some w →
      (s.updOn = false ∨ (s.begin o).before w 120000000000 = false → t = s.begin o) ∧
      (s.updOn = true ∧ (s.begin o).before w 120000000000 = true ∧ s.journal.state = .ready → t.journal = s.journal ∧ t.updt.prepared = some w ∧ t.updt.deferCnt = s.updt.deferCnt) ∧
      (s.updOn = true ∧ (s.begin o).before w 120000000000 = true ∧ s.journal.state ≠ .ready → t.updt.prepared = none ∧ t.updt.decided = some w ∧ t.updt.passed = some w ∧
        t.updt.deferCnt = satInc s.updt.deferCnt))) ∧
  (∀ (s : State) (o : Opt), Completes (.voteDeadline o) s fun t =>
    t = { s.begin o with
        journal := t.journal, hst := t.hst, rcd := t.rcd, updt := t.updt, free := t.free, out := t.out } ∧
    (s.updt.prepared = none → t = s.begin o) ∧
    (∀ w, s.updt.prepared = some w →
      (s.updOn = false ∨ s.isHead = false ∨ (s.begin o).before w 60000000000 = false ∨ s.updt.decided = some w ∨
        (∀ m ∈ s.updt.members, m.vote = 0) → t = s.begin o) ∧
      (s.updOn = true ∧ s.isHead = true ∧ (s.begin o).before w 60000000000 = true ∧ s.updt.decided ≠ some w ∧
          (∃ m ∈ s.updt.members, m.vote ≠ 0) → t.updt.prepared = none ∧ t.updt.decided = some w ∧ t.updt.deferCnt = satInc s.updt.deferCnt ∧
        (t.journal = s.journal ∨ t.journal = { s.journal with state := .abandoned, committed := none })))) ∧
  (∀ (s : State) (o : Opt), Completes (.stateSample o) s fun t =>
    t = { s.begin o with hst := t.hst, updt := t.updt, free := t.free, out := t.out } ∧
    (s.updt.prepared = none → t = s.begin o) ∧
    (∀ w, s.updt.prepared = some w →
      (s.updOn = false ∨ (s.begin o).before w 2000000000 = false ∨ s.updt.sampled = some w ∨ s.journal.state ≠ .ready → t = s.begin o) ∧
      (s.updOn = true ∧ (s.begin o).before w 2000000000 = true ∧ s.updt.sampled ≠ some w ∧ s.journal.state = .ready → t.updt = { s.updt with sampled := some w, members := s.updt.members.modify s.ownMember fun x => { x with state := some (s.begin o).reasons } }))) ∧
  (∀ (s : State) (o : Opt), Completes (.decisionInstant o) s fun t =>
    t = { s.begin o with
        journal := t.journal, hst := t.hst, rcd := t.rcd, updt := t.updt, free := t.free, out := t.out } ∧
    (s.updt.prepared = none → t = s.begin o) ∧
    (∀ w, s.updt.prepared = some w →
      (s.updOn = false ∨ s.isHead = false ∨ (s.begin o).before w 500000000 = false ∨ s.updt.decided = some w ∨ s.journal.state ≠ .ready →
        t = s.begin o) ∧
      (s.updOn = true ∧ s.isHead = true ∧ (s.begin o).before w 500000000 = true ∧ s.updt.decided ≠ some w ∧ s.journal.state = .ready ∧
          (∀ m ∈ s.updt.members, m.state = some 0) → t.journal = { s.journal with state := .committed, committed := some w } ∧
        t.updt = { s.updt with decided := some w }) ∧
      (s.updOn = true ∧ s.isHead = true ∧ (s.begin o).before w 500000000 = true ∧ s.updt.decided ≠ some w ∧ s.journal.state = .ready ∧
          (∃ m ∈ s.updt.members, m.state ≠ some 0) → t.updt.decided = some w ∧ t.updt.deferCnt = satInc s.updt.deferCnt ∧
        t.journal.state ≠ .committed))) ∧
  (∀ (s : State) (o : Opt) (p : PowerIn) (u : State), u = s.begin o →
    let gone (t : State) : Prop := Msg.moduleReset ∈ t.out ∧ t.pwr.supply = .powerup ∧ t.clk.opt = 0 ∧ t.journal.committed = none ∧
      t.bootRec.manifestId = mfId s.journal.manifest ∧ t.bootRec.lastId = mfId s.journal.manifest ∧
      ∀ k, (t.sess k).isOpen = false;
    Completes (.activation o p) s (fun t => t = { u with
        clk := t.clk, pwr := t.pwr, regions := t.regions, clRst := t.clRst, bud := t.bud, wake := t.wake,
        boot := t.boot, flash := t.flash, bootRec := t.bootRec, journal := t.journal, setSlots := t.setSlots,
        store := t.store, img := t.img, grp := t.grp, sm := t.sm, hst := t.hst, rcd := t.rcd, die := t.die,
        psw := t.psw, vlv := t.vlv, col := t.col, sns := t.sns, flw := t.flw, lop := t.lop, prf := t.prf,
        nav := t.nav, tim := t.tim, str := t.str, yld := t.yld, vis := t.vis, can := t.can, eth := t.eth,
        updt := t.updt, dbg := t.dbg, fmt := t.fmt, free := t.free, out := t.out } ∧
      (s.journal.state ≠ .committed ∨ s.journal.committed = none → t = u) ∧
      (∀ w, s.journal.state = .committed ∧ s.journal.committed = some w →
        (s.updOn = true ∧ u.before w 0 = true ∧ u.reasons = 0 → gone t) ∧
        (s.updOn = false ∨ u.before w 0 = false ∨ u.reasons ≠ 0 → t = u))) ∧
    Completes (.lateActivation o p) s (fun t => t = { u with
        clk := t.clk, pwr := t.pwr, regions := t.regions, clRst := t.clRst, bud := t.bud, wake := t.wake,
        boot := t.boot, flash := t.flash, bootRec := t.bootRec, journal := t.journal, setSlots := t.setSlots,
        store := t.store, img := t.img, grp := t.grp, sm := t.sm, hst := t.hst, rcd := t.rcd, die := t.die,
        psw := t.psw, vlv := t.vlv, col := t.col, sns := t.sns, flw := t.flw, lop := t.lop, prf := t.prf,
        nav := t.nav, tim := t.tim, str := t.str, yld := t.yld, vis := t.vis, can := t.can, eth := t.eth,
        updt := t.updt, dbg := t.dbg, fmt := t.fmt, free := t.free, out := t.out } ∧
      (s.journal.state ≠ .committed ∨ s.journal.committed = none → t = u) ∧
      (∀ w, s.journal.state = .committed ∧ s.journal.committed = some w →
        (s.updOn = false ∨ u.atTick = false ∨ u.reasons ≠ 0 ∨ (s.tim.dvtSet = true ∧ u.dvt < w + 1000) ∨
          (s.tim.dvtSet = false ∧ ∀ a, s.updt.normalSince = some a → o < a + 60000000000) → t = u) ∧
        (s.updOn = true ∧ u.atTick = true ∧ u.reasons = 0 ∧ ((s.tim.dvtSet = true ∧ w + 1000 ≤ u.dvt) ∨
          (s.tim.dvtSet = false ∧ ∃ a, s.updt.normalSince = some a ∧ a + 60000000000 ≤ o)) → gone t)))) ∧
  (∀ (s : State) (o : Opt), Completes (.trialConfirm o) s fun t =>
    t = { s.begin o with
        boot := t.boot, bootRec := t.bootRec, journal := t.journal, hst := t.hst, rcd := t.rcd, updt := t.updt,
        free := t.free, out := t.out } ∧
    (s.updOn = true ∧ s.updt.trialBoot = true ∧ s.boot.fallback = false ∧ s.updt.settingsOk = true ∧
        (∃ a, s.updt.normalSince = some a ∧ a + mfConfirm s.journal.manifest ≤ o) ∧ s.updt.regionFault = false ∧
        (∀ n, n < 10 → s.region n ≠ .fault) ∧ (mfHostConfirm s.journal.manifest = true → s.updt.hostConfirm = true) → t.journal = { s.journal with state := .confirmed } ∧ t.updt = { s.updt with trialBoot := false } ∧
        t.boot = { s.boot with trial := false } ∧ t.bootRec.fwTrial = false ∧ t.bootRec.cfgTrial = false ∧ t.bootRec.trialCnt = 0 ∧
        t.bootRec.lastResult = 1 ∧ t.bootRec.gen = s.bootRec.gen + 1 ∧ t.bootRec.setActive = s.updt.setUsed ∧
        t.bootRec.fwActive = (s.bootRec.fwActive != s.bootRec.fwTrial) ∧ t.bootRec.cfgActive = (s.bootRec.cfgActive != s.bootRec.cfgTrial)) ∧
    (s.updOn = false ∨ s.updt.trialBoot = false ∨ s.boot.fallback = true ∨ s.updt.settingsOk = false ∨
        (∀ a, s.updt.normalSince = some a → o < a + mfConfirm s.journal.manifest) ∨ s.updt.regionFault = true ∨
        (∃ n, n < 10 ∧ s.region n = .fault) ∨ (mfHostConfirm s.journal.manifest = true ∧ s.updt.hostConfirm = false) → t = s.begin o))

/-- Freezes: their request, their entry, the hold limit, and the supply that fails in one (R538; R539; R540; R541; R542;
R544; R545; R93; R49). FREEZE_N, FREEZE_HOLD_EXPIRY and FREEZE_SUPPLY_FAIL complete in every state, FREEZE in every
state ready for it. FREEZE_N is taken while the controller is armed, the supply is NORMAL, CRANK or OVERVOLT and no
freeze is in force, or into a partial freeze; otherwise it is counted as ignored and changes nothing else. A freeze
sends its marker on the four power links, stops the regions of its mask that run and every power die, closes
admissions and records its instant, its mask and whether it is full; the other regions of D0 stay as they are. FREEZE
answers STATE in a freeze, NOT_ARMED where the controller is not armed, and otherwise the OPT at which the freeze
begins: at once for a partial one, 1 ms later for a full one (a mask with SVC or NET). 2 s after it took its freeze
states, by an oscillator within 1 %, a frozen die sets HOLD_EXPIRED and no channel of it holds any longer. A row of
the supply table that leads to SHUTDOWN thaws the module and shuts it down with that row's reason. -/
def Obligations.Freezes : Prop :=
  (∀ (s : State) (o : Opt), Completes (.freezeN o) s fun t =>
    t = { s.begin o with
        regions := t.regions, bud := t.bud, hst := t.hst, psw := t.psw, vlv := t.vlv, col := t.col, flw := t.flw,
        tim := t.tim, dbg := t.dbg, free := t.free, out := t.out } ∧
    (∀ fresh, fresh = decide (s.dbg.phase = .run ∧ (s.begin o).armed = true ∧ s.powered = true) →
        ∀ more, more = decide (s.dbg.phase = .frozen ∧ s.dbg.full = false) →
      (s.pwr.supply = .off → t = s.begin o) ∧
      (s.pwr.supply ≠ .off ∧ fresh = false ∧ more = false →
        t = { s.begin o with dbg := { s.dbg with ignored := satInc s.dbg.ignored } }) ∧
      (s.pwr.supply ≠ .off ∧ (fresh = true ∨ more = true) →
        t.dbg.phase = .frozen ∧ t.dbg.full = true ∧ t.dbg.mask = 63 ∧ t.dbg.pendingFull = none ∧ t.dbg.ignored = s.dbg.ignored ∧
        (∀ n, n < 10 → s.region n = .run → t.region n = .frozen) ∧
        t.bud.isOpen = false ∧ t.bud.openNext = false) ∧
      (s.pwr.supply ≠ .off ∧ fresh = true → t.dbg.frzCnt = satInc s.dbg.frzCnt ∧ t.dbg.began = some (max s.clk.opt o) ∧
        t.dbg.holdExpired = false ∧ ∀ d, d < 4 → Msg.freezeMarker d ∈ t.out) ∧
      (s.pwr.supply ≠ .off ∧ more = true → t.dbg.frzCnt = s.dbg.frzCnt ∧ t.dbg.began = s.dbg.began))) ∧
  (∀ (s : State) (r : HostReq) (mask : Byte), s.ready r 2 14 = true →
    (∀ m : BitVec 6, m = BitVec.ofNat 6 (mask.toNat ||| 2) →
      (s.dbg.phase ≠ .run ∨ s.dbg.pendingFull.isSome = true ∨ ((s.begin r.opt).armed = true ∧ s.powered = false) → Completes (.freeze r mask) s fun t =>
        s.answers t r 0x0090 stSTATE [] ∧ s.hostKeeps t r ∧ t = { s with clk := t.clk, hst := t.hst, out := t.out }) ∧
      (s.dbg.phase = .run ∧ s.dbg.pendingFull = none ∧ (s.begin r.opt).armed = false → Completes (.freeze r mask) s fun t =>
        s.answers t r 0x0090 0x9201 [] ∧ s.hostKeeps t r ∧ t = { s with clk := t.clk, hst := t.hst, out := t.out }) ∧
      (s.dbg.phase = .run ∧ s.dbg.pendingFull = none ∧ (s.begin r.opt).armed = true ∧ s.powered = true ∧ (m.getLsbD rSVC = true ∨ m.getLsbD rNET = true) →
        Completes (.freeze r mask) s fun t =>
          s.answers t r 0x0090 stOK (leBytes 8 (max s.clk.opt r.opt + 1000000)) ∧ s.hostKeeps t r ∧
          t = { s with clk := t.clk, hst := t.hst, out := t.out,
                       dbg := { s.dbg with pendingFull := some (max s.clk.opt r.opt + 1000000) } }) ∧
      (s.dbg.phase = .run ∧ s.dbg.pendingFull = none ∧ (s.begin r.opt).armed = true ∧ s.powered = true ∧ m.getLsbD rSVC = false ∧ m.getLsbD rNET = false →
        Completes (.freeze r mask) s fun t =>
          t.replies r 0x0090 stOK (leBytes 8 (max s.clk.opt r.opt)) ∧
          t.dbg.phase = .frozen ∧ t.dbg.full = false ∧ t.dbg.mask = m ∧ t.dbg.frzCnt = satInc s.dbg.frzCnt ∧
          t.dbg.began = some (max s.clk.opt r.opt) ∧
          (∀ n, n < 6 → s.region n = .run → t.region n = if m.getLsbD n then .frozen else .run) ∧
          (∀ d, d < 4 → s.region (6 + d) = .run → t.region (6 + d) = .frozen) ∧
          t.bud.isOpen = false ∧ t.bud.openNext = false ∧ t.grp = s.grp ∧ t.store = s.store ∧ t.wake = s.wake ∧ t.pwr = s.pwr))) ∧
  (∀ (s : State) (o : Opt) (die : Fin 4), Completes (.freezeHoldExpiry o die) s fun t =>
    t = { s.begin o with bud := t.bud, psw := t.psw, vlv := t.vlv, col := t.col, dbg := t.dbg } ∧
    (s.region (6 + die.val) ≠ .frozen ∨ (∀ b, s.dbg.since = some b → o < b + 1980000000) → t = s.begin o) ∧
    (s.region (6 + die.val) = .frozen ∧ (∃ b, s.dbg.since = some b ∧ b + 1980000000 ≤ o) → t.dbg = { s.dbg with holdExpired := true } ∧
      (∀ n, n < 12 → t.vlvFrz (12 * die.val + n) ≠ .hold) ∧ (∀ n ∈ diePsw die.val, (rd t.psw.ch n).frz ≠ .hold) ∧
      ∀ n, n < 2 → (rd t.col.ch (2 * die.val + n)).frz ≠ .hold)) ∧
  (∀ (s : State) (o : Opt) (m : SupplyIn), Completes (.freezeSupplyFail o m) s fun t =>
    t = { s.begin o with
        clk := t.clk, pwr := t.pwr, regions := t.regions, bud := t.bud, wake := t.wake, store := t.store,
        hst := t.hst, rcd := t.rcd, psw := t.psw, vlv := t.vlv, col := t.col, flw := t.flw, lop := t.lop,
        nav := t.nav, yld := t.yld, dbg := t.dbg, fmt := t.fmt, free := t.free, out := t.out } ∧
    (∀ u, u = (s.begin o).monitor m →
      let ends (reason : BitVec 4) : Prop := t.pwr.supply = .shutdown ∧ t.pwr.shdnReason = reason ∧ t.dbg.phase = .run ∧
        t.dbg.mask = 0 ∧ t.wake.out = false ∧ t.bud.isOpen = false;
      (s.dbg.phase = .frozen ∧ u.supplyRow o = .undervolt → ends 1) ∧
      (s.dbg.phase = .frozen ∧ u.supplyRow o = .timeout → ends 2) ∧
      (s.dbg.phase = .frozen ∧ u.supplyRow o = .ignOff → ends 3) ∧
      (s.dbg.phase ≠ .frozen → t = u)))

/-- Thaws, and the instructions of the test access port (R543; R544; R545; R54; R213). THAW completes in every state ready
for it, TAP_THAW, TAP_RESET, TAP_IDCODE, TAP_SEL, TAP_CHAIN, TAP_MADDR, TAP_MDATA, TAP_BYPASS and TAP_TRST in every
state. A thaw puts the stopped regions back in RUN (one that had a fault in FAULT), ends the freeze, lets admissions
open at the next slot in NORMAL or OVERVOLT, counts the grid instants that passed with CTL stopped, and gives up the
computations whose output instant passed in it; the dies keep their freeze states. THAW answers STATE where no partial
freeze is in force. A module reset sends its notice and is in POWERUP. IDCODE shifts out 0x188409A7; SEL and MADDR
keep what is written (MADDR a multiple of 8); MDATA advances MADDR by 8 and reads 8 bytes, or zero with ERR where the
target is not frozen or ends before the address; CHAIN shifts out the directory or the chain selected, zero where the
target is not frozen; MDATA otherwise reads contents the manual does not give; BYPASS is one bit; TRST loads IDCODE.
Without power only TRST has an effect on the controller. -/
def Obligations.ThawsAndTap : Prop :=
  (∀ (s : State) (r : HostReq), s.ready r 2 14 = true →
    (s.dbg.phase ≠ .frozen ∨ s.dbg.full = true → Completes (.thaw r) s fun t =>
      s.answers t r 0x0091 stSTATE [] ∧ s.hostKeeps t r ∧ t = { s with clk := t.clk, hst := t.hst, out := t.out }) ∧
    (s.dbg.phase = .frozen ∧ s.dbg.full = false → Completes (.thaw r) s fun t =>
      s.answers t r 0x0091 stOK (leBytes 8 (max s.clk.opt r.opt)) ∧
      t = { s with clk := t.clk, hst := t.hst, out := t.out, regions := t.regions, bud := t.bud, rcd := t.rcd, lop := t.lop, free := t.free,
                   dbg := { s.dbg with phase := .run, full := false, mask := 0, began := none, faulty := 0 } } ∧
      (∀ n, n < 6 → s.region n = .frozen → t.region n = if s.dbg.faulty.getLsbD n then .fault else .run) ∧
      (∀ n, n < 10 → 6 ≤ n ∨ s.region n ≠ .frozen → t.region n = s.region n) ∧
      t.bud.openNext = (s.pwr.supply == .normal || s.pwr.supply == .overvolt) ∧
      (∀ k, k = (s.begin r.opt).missedTicks → s.region rCTL = .frozen ∧ s.clk.running = true ∧ s.clk.tickOpt ≠ 0 →
        t.clk.tick = s.clk.tick + k ∧ t.clk.tickSec = (s.clk.tickSec + k) % 20000 ∧
        t.lop.slot = s.lop.slot.map fun x => x.missed (s.clk.tick + k + 1)) ∧
      (s.region rSVC ≠ .frozen → t.rcd = s.rcd) ∧
      (s.region rCTL ≠ .frozen → t.lop = s.lop ∧ t.free = s.free ∧ t.clk = { s.clk with opt := max s.clk.opt r.opt, past := t.clk.past }))) ∧
  (∀ (s : State) (o : Opt), Completes (.tapThaw o) s fun t =>
    t = { s.begin o with
        clk := t.clk, regions := t.regions, bud := t.bud, rcd := t.rcd, lop := t.lop, dbg := t.dbg, free := t.free } ∧
    (s.dbg.phase ≠ .frozen → t = { s.begin o with dbg := { s.dbg with ir := 0x20 } }) ∧
    (s.dbg.phase = .frozen →
      t.dbg = { s.dbg with ir := 0x20, phase := .run, full := false, mask := 0, began := none, faulty := 0 } ∧
      (∀ n, n < 6 → s.region n = .frozen → t.region n = if s.dbg.faulty.getLsbD n then .fault else .run) ∧
      (∀ n, n < 10 → 6 ≤ n ∨ s.region n ≠ .frozen → t.region n = s.region n) ∧
      t.bud.openNext = (s.pwr.supply == .normal || s.pwr.supply == .overvolt) ∧
      (∀ k, k = (s.begin o).missedTicks → s.region rCTL = .frozen ∧ s.clk.running = true ∧ s.clk.tickOpt ≠ 0 →
        t.clk.tick = s.clk.tick + k ∧ t.clk.tickSec = (s.clk.tickSec + k) % 20000 ∧
        t.lop.slot = s.lop.slot.map fun x => x.missed (s.clk.tick + k + 1)))) ∧
  (∀ (s : State) (o : Opt) (p : PowerIn), Completes (.tapReset o p) s fun t =>
    (s.pwr.supply = .off → t = { s.begin o with dbg := { s.dbg with ir := 0x21 } }) ∧
    (s.pwr.supply ≠ .off → Msg.moduleReset ∈ t.out ∧ t.pwr.supply = .powerup ∧ t.boot.released = 0 ∧ t.fw = s.fw ∧
      t.store = s.store ∧ t.pending = s.pending)) ∧
  (∀ (s : State), Completes .tapIdcode s fun t =>
    (s.pwr.supply ≠ .off → t = { s with dbg := { s.dbg with ir := 0x01 }, out := [.tdo 32 0x188409A7] }) ∧
    (s.pwr.supply = .off → t = s.start)) ∧
  (∀ (s : State) (v : Word), Completes (.tapSel v) s fun t =>
    (s.pwr.supply ≠ .off →
      t = { s.start with dbg := { s.dbg with ir := 0x10, selTarget := v.toNat % 16, selChain := v.toNat / 256 % 256 } }) ∧
    (s.pwr.supply = .off → t = s.start)) ∧
  (∀ (s : State), Completes .tapChain s fun t =>
    (∀ stopped, stopped = (decide (s.dbg.selTarget < 10 ∧ s.region s.dbg.selTarget = .frozen) ||
        decide (12 ≤ s.dbg.selTarget ∧ s.dbg.phase = .frozen ∧ s.dbg.full = true)) →
      (s.pwr.supply = .off → t = s.start) ∧
      (s.pwr.supply ≠ .off ∧ stopped = false → t = { s with
          dbg := { s.dbg with ir := 0x11 }
          out := [.tdo (tapBits s.dbg.snap s.dbg.selTarget s.dbg.selChain).1 0] }) ∧
      (s.pwr.supply ≠ .off ∧ stopped = true → t = { s with
          dbg := { s.dbg with ir := 0x11 }
          out := [.tdo (tapBits s.dbg.snap s.dbg.selTarget s.dbg.selChain).1 (tapBits s.dbg.snap s.dbg.selTarget s.dbg.selChain).2] }))) ∧
  (∀ (s : State) (v : Word), Completes (.tapMaddr v) s fun t =>
    (s.pwr.supply ≠ .off → t = { s.start with dbg := { s.dbg with ir := 0x12, maddr := t.dbg.maddr } } ∧
      t.dbg.maddr.toNat = v.toNat / 8 * 8) ∧
    (s.pwr.supply = .off → t = s.start)) ∧
  (∀ (s : State), Completes .tapMdata s fun t =>
    (∀ stopped, stopped = (decide (s.dbg.selTarget < 10 ∧ s.region s.dbg.selTarget = .frozen) ||
        decide (12 ≤ s.dbg.selTarget ∧ s.dbg.phase = .frozen ∧ s.dbg.full = true)) →
        ∀ inside, inside = decide (s.dbg.maddr.toNat + 8 ≤ tapSize s.dbg.selTarget) →
      (s.pwr.supply = .off → t = s.start) ∧
      (s.pwr.supply ≠ .off ∧ (stopped = false ∨ inside = false) →
        t = { s with dbg := { s.dbg with ir := 0x13, maddr := s.dbg.maddr + 8 }, out := [.tdo 72 (2 ^ 64)] }) ∧
      (s.pwr.supply ≠ .off ∧ stopped = true ∧ inside = true →
        t = { s with
          dbg := { s.dbg with ir := 0x13, maddr := s.dbg.maddr + 8 }
          out := [.tdo 72 (Config.memWord s.dbg.snap s.dbg.selTarget s.dbg.maddr.toNat).toNat] }))) ∧
  (∀ (s : State), Completes .tapBypass s fun t =>
    (s.pwr.supply ≠ .off → t = { s with dbg := { s.dbg with ir := 0xFF }, out := [.tdo 1 0] }) ∧
    (s.pwr.supply = .off → t = s.start)) ∧
  (∀ (s : State), Completes .tapTrst s fun t => t = { s.start with dbg := { s.dbg with ir := 0x01 } })

/-- What travels on the control channel and what on a hardware ring (R143). HELLO, BYE, PING, RING_OPEN and RING_CLOSE put
no operation in flight on a ring and so take no completion slot, in any state; while a session has one control
operation in flight, each of them on its control channel is answered with BUSY, and only BUSY_CNT of the counters
moves. Every other operation that a session which has sent its HELLO sends anywhere but on an open hardware ring of
its own is answered with BAD_RING, and changes nothing but OPT and what every message changes. -/
def Obligations.ControlAndHardwareRings : Prop :=
  (∀ (s : State) (r : HostReq),
    let noSlot (c : Instr) : Prop := Completes c s fun t => ∀ f ∈ t.hst.ops, ∃ g ∈ s.hst.ops, g.req = f.req
    (∀ f n, noSlot (.hello r f n)) ∧ noSlot (.bye r) ∧ noSlot (.ping r) ∧ (∀ n m l, noSlot (.ringOpen r n m l)) ∧
    (∀ n, noSlot (.ringClose r n))) ∧
  (∀ (s : State) (r : HostReq), s.heard r = true → (s.sess r.sess).hello = true → r.ring = controlRing →
      (s.sess r.sess).control = true →
    let busy (c : Instr) (op : Nat) : Prop := Completes c s fun t => s.answers t r op stBUSY [] ∧
      t = { s with clk := { s.clk with opt := max s.clk.opt r.opt, past := t.clk.past }, hst := t.hst, out := t.out } ∧
      t.hst.ops = s.hst.ops ∧ t.hst.ring = s.hst.ring ∧ t.hst.subs = s.hst.subs ∧ t.hst.busyCnt = satInc s.hst.busyCnt ∧
      t.hst.badMsg = s.hst.badMsg ∧ (∀ k, k ≠ r.sess → t.sess k = s.sess k) ∧ (t.sess r.sess).control = true
    (∀ f n, busy (.hello r f n) 0x0001) ∧ busy (.bye r) 0x0002 ∧ busy (.ping r) 0x0003 ∧ (∀ n m l, busy (.ringOpen r n m l) 0x0004) ∧
    (∀ n, busy (.ringClose r n) 0x0005)) ∧
  (∀ (s : State) (r : HostReq), s.heard r = true → (s.sess r.sess).hello = true →
      256 ≤ r.ring ∨ (rd s.hst.ring r.ring).isOpen = false ∨ (rd s.hst.ring r.ring).sess ≠ r.sess →
    let bad (c : Instr) (op : Nat) : Prop := Completes c s fun t => s.answers t r op stBADRING [] ∧ s.hostKeeps t r ∧
      t = { s with clk := t.clk, hst := t.hst, out := t.out }
    (∀ a n, bad (.regRead r a n) 0x0010) ∧ (∀ a l, bad (.regWrite r a l) 0x0011) ∧ (∀ a m v, bad (.regModify r a m v) 0x0012) ∧
    (∀ l, bad (.regBatchRead r l) 0x0013) ∧ (∀ l, bad (.regBatchWrite r l) 0x0014) ∧ (∀ g, bad (.shadowRead r g) 0x0020) ∧
    (∀ g, bad (.commit r g) 0x0021) ∧ (∀ g, bad (.discard r g) 0x0022) ∧ (∀ f n, bad (.tableDirRead r f n) 0x0030) ∧
    (∀ t o n, bad (.tableRead r t o n) 0x0031) ∧ (∀ k e d n, bad (.subscribe r k e d n) 0x0040) ∧
    (∀ n, bad (.unsubscribe r n) 0x0041) ∧ (∀ m k x, bad (.mfSetMode r m k x) 0x0050) ∧ (∀ m a x, bad (.mfTarget r m a x) 0x0050) ∧
    (∀ m a x, bad (.mfManualValue r m a x) 0x0050) ∧ (∀ k x, bad (.loopAuto r k x) 0x0051) ∧ (∀ k x, bad (.loopManual r k x) 0x0051) ∧
    (∀ k x, bad (.loopSetManual r k x) 0x0051) ∧ (∀ k x, bad (.loopRestart r k x) 0x0051) ∧ (∀ k x, bad (.loopEnable r k x) 0x0051) ∧
    (∀ k x, bad (.loopDisable r k x) 0x0051) ∧ (∀ m e, bad (.machineEvent r m e) 0x0052) ∧ (∀ d, bad (.rtcmIn r d) 0x0053) ∧
    bad (.tokenChallenge r) 0x0060 ∧ (∀ k b, bad (.tokenPresent r k b) 0x0061) ∧ bad (.recInfo r) 0x0070 ∧
    (∀ q o n, bad (.recRead r q o n) 0x0071) ∧ bad (.recFreeze r) 0x0072 ∧ bad (.recThaw r) 0x0073 ∧ bad (.recClear r) 0x0074 ∧
    (∀ m, bad (.updBegin r m) 0x0080) ∧ (∀ p k o d, bad (.updData r p k o d) 0x0081) ∧ bad (.updStatus r) 0x0082 ∧
    bad (.updAbort r) 0x0083 ∧ bad (.updConfirm r) 0x0084 ∧ (∀ p, bad (.updReject r p) 0x0085) ∧ (∀ m, bad (.freeze r m) 0x0090) ∧
    bad (.thaw r) 0x0091 ∧ (∀ v, bad (.timeSetCvtSet r v) 0x00A0) ∧ bad (.timeSetCvtFollow r) 0x00A0 ∧
    (∀ v, bad (.timeSetAiding r v) 0x00A0) ∧ (∀ l, bad (.timeSetLeap r l) 0x00A0))

/-- Reset is in canonical form (00_scope.md; 24_register_map.md). The state right after reset meets the invariant that
every step keeps (StepsKeepTheState): it lists no live or shadow word, no snapshot and no received or set CAN value,
its tick is 0 and its load is that of no booking. -/
def Obligations.ResetIsKept : Prop :=
  State.reset.Kept

/-- Every step keeps the module's buffers in canonical form, its tick in its second and its load that of its bookings
(R60; R61; R81; R82; R84; R117; R123; R213; R455). For every state, reachable or not, that meets the invariant and
whose step answers a next state, the next state meets it too. The invariant: the live words and the shadow words of
the commit groups, the received CAN values, the CAN values that state machines set and those waiting for the tick, and
the last values packed each stand in strictly rising order of their keys, so that each has one value and equal
contents are equal data; each group has at most one pending snapshot; the tick's number in its second is below 20,000;
and the load of the present slot is the sum of the charges booked in it. -/
def Obligations.StepsKeepTheState : Prop :=
  ∀ s t : State, s.Kept → step s = .next t → t.Kept
end

