-- ==== Sys2Proof/Laws/Same.lean ====
section
/-! SUPPORT. The frame relation: two states that agree on every field outside a set of fields, given as a mask with one bit for each
field of the state in its order.  One frame lemma for each operation says once which fields it can change. -/

namespace Sys2Proof.Machine

/-- `t` agrees with `s` on every field whose bit of `m` is clear. -/
structure Same (m : Nat) (s t : State) : Prop where
  clk : m.testBit 0 = false → t.clk = s.clk
  pwr : m.testBit 1 = false → t.pwr = s.pwr
  regions : m.testBit 2 = false → t.regions = s.regions
  clRst : m.testBit 3 = false → t.clRst = s.clRst
  bud : m.testBit 4 = false → t.bud = s.bud
  wake : m.testBit 5 = false → t.wake = s.wake
  boot : m.testBit 6 = false → t.boot = s.boot
  flash : m.testBit 7 = false → t.flash = s.flash
  bootRec : m.testBit 8 = false → t.bootRec = s.bootRec
  journal : m.testBit 9 = false → t.journal = s.journal
  fw : m.testBit 10 = false → t.fw = s.fw
  setSlots : m.testBit 11 = false → t.setSlots = s.setSlots
  store : m.testBit 12 = false → t.store = s.store
  img : m.testBit 13 = false → t.img = s.img
  grp : m.testBit 14 = false → t.grp = s.grp
  sm : m.testBit 15 = false → t.sm = s.sm
  hst : m.testBit 16 = false → t.hst = s.hst
  rcd : m.testBit 17 = false → t.rcd = s.rcd
  die : m.testBit 18 = false → t.die = s.die
  psw : m.testBit 19 = false → t.psw = s.psw
  vlv : m.testBit 20 = false → t.vlv = s.vlv
  col : m.testBit 21 = false → t.col = s.col
  sns : m.testBit 22 = false → t.sns = s.sns
  flw : m.testBit 23 = false → t.flw = s.flw
  lop : m.testBit 24 = false → t.lop = s.lop
  prf : m.testBit 25 = false → t.prf = s.prf
  nav : m.testBit 26 = false → t.nav = s.nav
  tim : m.testBit 27 = false → t.tim = s.tim
  str : m.testBit 28 = false → t.str = s.str
  yld : m.testBit 29 = false → t.yld = s.yld
  vis : m.testBit 30 = false → t.vis = s.vis
  can : m.testBit 31 = false → t.can = s.can
  eth : m.testBit 32 = false → t.eth = s.eth
  updt : m.testBit 33 = false → t.updt = s.updt
  dbg : m.testBit 34 = false → t.dbg = s.dbg
  fmt : m.testBit 35 = false → t.fmt = s.fmt
  free : m.testBit 36 = false → t.free = s.free
  out : m.testBit 37 = false → t.out = s.out
  pending : m.testBit 38 = false → t.pending = s.pending

theorem Same.refl (m : Nat) (s : State) : Same m s s := by
  constructor <;> exact fun _ => rfl

theorem testBit_of_land {j m i : Nat} (h : j &&& m = j) (hm : m.testBit i = false) : j.testBit i = false := by
  rw [← h, Nat.testBit_and, hm, Bool.and_false]

/-- One more operation, whose own changes lie within the mask. -/
theorem Same.next {j m : Nat} {s t u : State} (h : Same m s t) (k : Same j t u) (hj : j &&& m = j) : Same m s u := by
  constructor
  · exact fun a => (k.clk (testBit_of_land hj a)).trans (h.clk a)
  · exact fun a => (k.pwr (testBit_of_land hj a)).trans (h.pwr a)
  · exact fun a => (k.regions (testBit_of_land hj a)).trans (h.regions a)
  · exact fun a => (k.clRst (testBit_of_land hj a)).trans (h.clRst a)
  · exact fun a => (k.bud (testBit_of_land hj a)).trans (h.bud a)
  · exact fun a => (k.wake (testBit_of_land hj a)).trans (h.wake a)
  · exact fun a => (k.boot (testBit_of_land hj a)).trans (h.boot a)
  · exact fun a => (k.flash (testBit_of_land hj a)).trans (h.flash a)
  · exact fun a => (k.bootRec (testBit_of_land hj a)).trans (h.bootRec a)
  · exact fun a => (k.journal (testBit_of_land hj a)).trans (h.journal a)
  · exact fun a => (k.fw (testBit_of_land hj a)).trans (h.fw a)
  · exact fun a => (k.setSlots (testBit_of_land hj a)).trans (h.setSlots a)
  · exact fun a => (k.store (testBit_of_land hj a)).trans (h.store a)
  · exact fun a => (k.img (testBit_of_land hj a)).trans (h.img a)
  · exact fun a => (k.grp (testBit_of_land hj a)).trans (h.grp a)
  · exact fun a => (k.sm (testBit_of_land hj a)).trans (h.sm a)
  · exact fun a => (k.hst (testBit_of_land hj a)).trans (h.hst a)
  · exact fun a => (k.rcd (testBit_of_land hj a)).trans (h.rcd a)
  · exact fun a => (k.die (testBit_of_land hj a)).trans (h.die a)
  · exact fun a => (k.psw (testBit_of_land hj a)).trans (h.psw a)
  · exact fun a => (k.vlv (testBit_of_land hj a)).trans (h.vlv a)
  · exact fun a => (k.col (testBit_of_land hj a)).trans (h.col a)
  · exact fun a => (k.sns (testBit_of_land hj a)).trans (h.sns a)
  · exact fun a => (k.flw (testBit_of_land hj a)).trans (h.flw a)
  · exact fun a => (k.lop (testBit_of_land hj a)).trans (h.lop a)
  · exact fun a => (k.prf (testBit_of_land hj a)).trans (h.prf a)
  · exact fun a => (k.nav (testBit_of_land hj a)).trans (h.nav a)
  · exact fun a => (k.tim (testBit_of_land hj a)).trans (h.tim a)
  · exact fun a => (k.str (testBit_of_land hj a)).trans (h.str a)
  · exact fun a => (k.yld (testBit_of_land hj a)).trans (h.yld a)
  · exact fun a => (k.vis (testBit_of_land hj a)).trans (h.vis a)
  · exact fun a => (k.can (testBit_of_land hj a)).trans (h.can a)
  · exact fun a => (k.eth (testBit_of_land hj a)).trans (h.eth a)
  · exact fun a => (k.updt (testBit_of_land hj a)).trans (h.updt a)
  · exact fun a => (k.dbg (testBit_of_land hj a)).trans (h.dbg a)
  · exact fun a => (k.fmt (testBit_of_land hj a)).trans (h.fmt a)
  · exact fun a => (k.free (testBit_of_land hj a)).trans (h.free a)
  · exact fun a => (k.out (testBit_of_land hj a)).trans (h.out a)
  · exact fun a => (k.pending (testBit_of_land hj a)).trans (h.pending a)

theorem Same.mono {j m : Nat} {s t : State} (k : Same j s t) (hj : j &&& m = j) : Same m s t := (Same.refl m s).next k hj

/-- A fold over a list keeps what each of its steps keeps. -/
theorem Same.fold {α : Type} {m : Nat} {s t : State} {f : State → α → State} (l : List α) (h : Same m s t)
    (k : ∀ u a, Same m s u → Same m s (f u a)) : Same m s (l.foldl f t) := by
  induction l generalizing t with
  | nil => exact h
  | cons a l ih => exact ih (k t a h)

theorem Same.ite {m : Nat} {s a b : State} {c : Prop} [Decidable c] (ha : Same m s a) (hb : Same m s b) :
    Same m s (if c then a else b) := by
  split <;> assumption

theorem Same.ite1 {β : Type} {m : Nat} {s : State} {a b : State × β} {c : Prop} [Decidable c] (ha : Same m s a.1) (hb : Same m s b.1) :
    Same m s (if c then a else b).1 := by
  split <;> assumption

theorem Same.ite2 {β : Type} {m : Nat} {s : State} {a b : β × State} {c : Prop} [Decidable c] (ha : Same m s a.2) (hb : Same m s b.2) :
    Same m s (if c then a else b).2 := by
  split <;> assumption

theorem Same.pair1 {β : Type} {m : Nat} {s a : State} {b : β} (h : Same m s a) : Same m s (a, b).1 := h
theorem Same.pair2 {β : Type} {m : Nat} {s a : State} {b : β} (h : Same m s a) : Same m s (b, a).2 := h

/-- A meaning answers a next state that agrees with `s` outside the mask. -/
def Runs (m : Nat) (s : State) (o : Out) : Prop := ∃ t, o = .next t ∧ Same m s t

theorem Runs.next {m : Nat} {s t : State} (h : Same m s t) : Runs m s (.next t) := ⟨t, rfl, h⟩

theorem Runs.ite {m : Nat} {s : State} {a b : Out} {c : Prop} [Decidable c] (ha : Runs m s a) (hb : Runs m s b) :
    Runs m s (if c then a else b) := by
  split <;> assumption

/-- An operation's own part changes the masked fields alone. -/
def OpSame (m : Nat) (s : State) : OpRes → Prop
  | .refuse _ _ => True
  | .done t _ => Same m s t
  | .wait t => Same m s t

theorem OpSame.refuse {m : Nat} {s : State} {a : Nat} {b : List Byte} : OpSame m s (.refuse a b) := trivial
theorem OpSame.done {m : Nat} {s t : State} {b : List Byte} (h : Same m s t) : OpSame m s (.done t b) := h
theorem OpSame.wait {m : Nat} {s t : State} (h : Same m s t) : OpSame m s (.wait t) := h

theorem OpSame.ite {m : Nat} {s : State} {a b : OpRes} {c : Prop} [Decidable c] (ha : OpSame m s a) (hb : OpSame m s b) :
    OpSame m s (if c then a else b) := by
  split <;> assumption

theorem OpSame.next {j m : Nat} {s t : State} {o : OpRes} (h : Same m s t) (k : OpSame j t o) (hj : j &&& m = j) : OpSame m s o := by
  cases o
  · trivial
  · exact h.next k hj
  · exact h.next k hj

/-! Record updates. -/

theorem Same.set_boot {t : State} {x0} : Same 0x40 t { t with boot := x0 } := by
  constructor <;> intro h <;> first | rfl | cases h
theorem Same.set_bootRec {t : State} {x0} : Same 0x100 t { t with bootRec := x0 } := by
  constructor <;> intro h <;> first | rfl | cases h
theorem Same.set_bud {t : State} {x0} : Same 0x10 t { t with bud := x0 } := by
  constructor <;> intro h <;> first | rfl | cases h
theorem Same.set_can {t : State} {x0} : Same 0x80000000 t { t with can := x0 } := by
  constructor <;> intro h <;> first | rfl | cases h
theorem Same.set_clRst {t : State} {x0} : Same 0x8 t { t with clRst := x0 } := by
  constructor <;> intro h <;> first | rfl | cases h
theorem Same.set_clk {t : State} {x0} : Same 0x1 t { t with clk := x0 } := by
  constructor <;> intro h <;> first | rfl | cases h
theorem Same.set_col {t : State} {x0} : Same 0x200000 t { t with col := x0 } := by
  constructor <;> intro h <;> first | rfl | cases h
theorem Same.set_dbg {t : State} {x0} : Same 0x400000000 t { t with dbg := x0 } := by
  constructor <;> intro h <;> first | rfl | cases h
theorem Same.set_die {t : State} {x0} : Same 0x40000 t { t with die := x0 } := by
  constructor <;> intro h <;> first | rfl | cases h
theorem Same.set_eth {t : State} {x0} : Same 0x100000000 t { t with eth := x0 } := by
  constructor <;> intro h <;> first | rfl | cases h
theorem Same.set_flash {t : State} {x0} : Same 0x80 t { t with flash := x0 } := by
  constructor <;> intro h <;> first | rfl | cases h
theorem Same.set_flw {t : State} {x0} : Same 0x800000 t { t with flw := x0 } := by
  constructor <;> intro h <;> first | rfl | cases h
theorem Same.set_fmt {t : State} {x0} : Same 0x800000000 t { t with fmt := x0 } := by
  constructor <;> intro h <;> first | rfl | cases h
theorem Same.set_free {t : State} {x0} : Same 0x1000000000 t { t with free := x0 } := by
  constructor <;> intro h <;> first | rfl | cases h
theorem Same.set_fw {t : State} {x0} : Same 0x400 t { t with fw := x0 } := by
  constructor <;> intro h <;> first | rfl | cases h
theorem Same.set_grp {t : State} {x0} : Same 0x4000 t { t with grp := x0 } := by
  constructor <;> intro h <;> first | rfl | cases h
theorem Same.set_hst {t : State} {x0} : Same 0x10000 t { t with hst := x0 } := by
  constructor <;> intro h <;> first | rfl | cases h
theorem Same.set_journal {t : State} {x0} : Same 0x200 t { t with journal := x0 } := by
  constructor <;> intro h <;> first | rfl | cases h
theorem Same.set_lop {t : State} {x0} : Same 0x1000000 t { t with lop := x0 } := by
  constructor <;> intro h <;> first | rfl | cases h
theorem Same.set_nav {t : State} {x0} : Same 0x4000000 t { t with nav := x0 } := by
  constructor <;> intro h <;> first | rfl | cases h
theorem Same.set_out {t : State} {x0} : Same 0x2000000000 t { t with out := x0 } := by
  constructor <;> intro h <;> first | rfl | cases h
theorem Same.set_prf {t : State} {x0} : Same 0x2000000 t { t with prf := x0 } := by
  constructor <;> intro h <;> first | rfl | cases h
theorem Same.set_psw {t : State} {x0} : Same 0x80000 t { t with psw := x0 } := by
  constructor <;> intro h <;> first | rfl | cases h
theorem Same.set_pwr {t : State} {x0} : Same 0x2 t { t with pwr := x0 } := by
  constructor <;> intro h <;> first | rfl | cases h
theorem Same.set_rcd {t : State} {x0} : Same 0x20000 t { t with rcd := x0 } := by
  constructor <;> intro h <;> first | rfl | cases h
theorem Same.set_regions {t : State} {x0} : Same 0x4 t { t with regions := x0 } := by
  constructor <;> intro h <;> first | rfl | cases h
theorem Same.set_setSlots {t : State} {x0} : Same 0x800 t { t with setSlots := x0 } := by
  constructor <;> intro h <;> first | rfl | cases h
theorem Same.set_sm {t : State} {x0} : Same 0x8000 t { t with sm := x0 } := by
  constructor <;> intro h <;> first | rfl | cases h
theorem Same.set_sns {t : State} {x0} : Same 0x400000 t { t with sns := x0 } := by
  constructor <;> intro h <;> first | rfl | cases h
theorem Same.set_store {t : State} {x0} : Same 0x1000 t { t with store := x0 } := by
  constructor <;> intro h <;> first | rfl | cases h
theorem Same.set_str {t : State} {x0} : Same 0x10000000 t { t with str := x0 } := by
  constructor <;> intro h <;> first | rfl | cases h
theorem Same.set_tim {t : State} {x0} : Same 0x8000000 t { t with tim := x0 } := by
  constructor <;> intro h <;> first | rfl | cases h
theorem Same.set_updt {t : State} {x0} : Same 0x200000000 t { t with updt := x0 } := by
  constructor <;> intro h <;> first | rfl | cases h
theorem Same.set_vis {t : State} {x0} : Same 0x40000000 t { t with vis := x0 } := by
  constructor <;> intro h <;> first | rfl | cases h
theorem Same.set_vlv {t : State} {x0} : Same 0x100000 t { t with vlv := x0 } := by
  constructor <;> intro h <;> first | rfl | cases h
theorem Same.set_wake {t : State} {x0} : Same 0x20 t { t with wake := x0 } := by
  constructor <;> intro h <;> first | rfl | cases h
theorem Same.set_yld {t : State} {x0} : Same 0x20000000 t { t with yld := x0 } := by
  constructor <;> intro h <;> first | rfl | cases h
theorem Same.set_boot_img {t : State} {x0} {x1} : Same 0x2040 t { t with boot := x0, img := x1 } := by
  constructor <;> intro h <;> first | rfl | cases h
theorem Same.set_regions_boot {t : State} {x0} {x1} : Same 0x44 t { t with regions := x0, boot := x1 } := by
  constructor <;> intro h <;> first | rfl | cases h
theorem Same.set_bud_dbg {t : State} {x0} {x1} : Same 0x400000010 t { t with bud := x0, dbg := x1 } := by
  constructor <;> intro h <;> first | rfl | cases h
theorem Same.set_pwr_bud {t : State} {x0} {x1} : Same 0x12 t { t with pwr := x0, bud := x1 } := by
  constructor <;> intro h <;> first | rfl | cases h
theorem Same.set_bud_vlv {t : State} {x0} {x1} : Same 0x100010 t { t with bud := x0, vlv := x1 } := by
  constructor <;> intro h <;> first | rfl | cases h
theorem Same.set_prf_can {t : State} {x0} {x1} : Same 0x82000000 t { t with prf := x0, can := x1 } := by
  constructor <;> intro h <;> first | rfl | cases h
theorem Same.set_clk_free {t : State} {x0} {x1} : Same 0x1000000001 t { t with clk := x0, free := x1 } := by
  constructor <;> intro h <;> first | rfl | cases h
theorem Same.set_clk_hst {t : State} {x0} {x1} : Same 0x10001 t { t with clk := x0, hst := x1 } := by
  constructor <;> intro h <;> first | rfl | cases h
theorem Same.set_pwr_flash {t : State} {x0} {x1} : Same 0x82 t { t with pwr := x0, flash := x1 } := by
  constructor <;> intro h <;> first | rfl | cases h
theorem Same.set_journal_updt {t : State} {x0} {x1} : Same 0x200000200 t { t with journal := x0, updt := x1 } := by
  constructor <;> intro h <;> first | rfl | cases h
theorem Same.set_lop_prf {t : State} {x0} {x1} : Same 0x3000000 t { t with lop := x0, prf := x1 } := by
  constructor <;> intro h <;> first | rfl | cases h
theorem Same.set_pwr_nav {t : State} {x0} {x1} : Same 0x4000002 t { t with pwr := x0, nav := x1 } := by
  constructor <;> intro h <;> first | rfl | cases h
theorem Same.set_psw_vlv {t : State} {x0} {x1} : Same 0x180000 t { t with psw := x0, vlv := x1 } := by
  constructor <;> intro h <;> first | rfl | cases h
theorem Same.set_rcd_tim {t : State} {x0} {x1} : Same 0x8020000 t { t with rcd := x0, tim := x1 } := by
  constructor <;> intro h <;> first | rfl | cases h
theorem Same.set_store_yld {t : State} {x0} {x1} : Same 0x20001000 t { t with store := x0, yld := x1 } := by
  constructor <;> intro h <;> first | rfl | cases h
theorem Same.set_boot_journal_updt {t : State} {x0} {x1} {x2} : Same 0x200000240 t { t with boot := x0, journal := x1, updt := x2 } := by
  constructor <;> intro h <;> first | rfl | cases h
theorem Same.set_clk_bud_lop {t : State} {x0} {x1} {x2} : Same 0x1000011 t { t with clk := x0, bud := x1, lop := x2 } := by
  constructor <;> intro h <;> first | rfl | cases h
theorem Same.set_pwr_bud_updt {t : State} {x0} {x1} {x2} : Same 0x200000012 t { t with pwr := x0, bud := x1, updt := x2 } := by
  constructor <;> intro h <;> first | rfl | cases h
theorem Same.set_clk_sns_tim {t : State} {x0} {x1} {x2} : Same 0x8400001 t { t with clk := x0, sns := x1, tim := x2 } := by
  constructor <;> intro h <;> first | rfl | cases h
theorem Same.set_wake_psw_vlv_col_sns {t : State} {x0} {x1} {x2} {x3} {x4} : Same 0x780020 t { t with wake := x0, psw := x1, vlv := x2, col := x3, sns := x4 } := by
  constructor <;> intro h <;> first | rfl | cases h
theorem Same.set_pwr_regions_boot_journal_col_updt {t : State} {x0} {x1} {x2} {x3} {x4} {x5} : Same 0x200200246 t { t with pwr := x0, regions := x1, boot := x2, journal := x3, col := x4, updt := x5 } := by
  constructor <;> intro h <;> first | rfl | cases h
theorem Same.set_pwr_flash_bootRec_journal_fw_setSlots_store_hst_rcd_tim_free_out_pending {t : State} {x0} {x1} {x2} {x3} {x4} {x5} {x6} {x7} {x8} {x9} {x10} {x11} {x12} : Same 0x7008031f82 t { t with pwr := x0, flash := x1, bootRec := x2, journal := x3, fw := x4, setSlots := x5, store := x6, hst := x7, rcd := x8, tim := x9, free := x10, out := x11, pending := x12 } := by
  constructor <;> intro h <;> first | rfl | cases h
theorem Same.set_pwr_regions_wake_sm_hst_rcd_psw_vlv_col_sns_flw_lop_prf_nav_str_yld_vis_can_eth {t : State} {x0} {x1} {x2} {x3} {x4} {x5} {x6} {x7} {x8} {x9} {x10} {x11} {x12} {x13} {x14} {x15} {x16} {x17} {x18} : Same 0x1f7fb8026 t { t with pwr := x0, regions := x1, wake := x2, sm := x3, hst := x4, rcd := x5, psw := x6, vlv := x7, col := x8, sns := x9, flw := x10, lop := x11, prf := x12, nav := x13, str := x14, yld := x15, vis := x16, can := x17, eth := x18 } := by
  constructor <;> intro h <;> first | rfl | cases h

/-! A frame as an equation. -/

/-- `t` on the fields of the mask, `s` on the rest. -/
def State.mix (m : Nat) (s t : State) : State :=
  { clk := bif m.testBit 0 then t.clk else s.clk,
    pwr := bif m.testBit 1 then t.pwr else s.pwr,
    regions := bif m.testBit 2 then t.regions else s.regions,
    clRst := bif m.testBit 3 then t.clRst else s.clRst,
    bud := bif m.testBit 4 then t.bud else s.bud,
    wake := bif m.testBit 5 then t.wake else s.wake,
    boot := bif m.testBit 6 then t.boot else s.boot,
    flash := bif m.testBit 7 then t.flash else s.flash,
    bootRec := bif m.testBit 8 then t.bootRec else s.bootRec,
    journal := bif m.testBit 9 then t.journal else s.journal,
    fw := bif m.testBit 10 then t.fw else s.fw,
    setSlots := bif m.testBit 11 then t.setSlots else s.setSlots,
    store := bif m.testBit 12 then t.store else s.store,
    img := bif m.testBit 13 then t.img else s.img,
    grp := bif m.testBit 14 then t.grp else s.grp,
    sm := bif m.testBit 15 then t.sm else s.sm,
    hst := bif m.testBit 16 then t.hst else s.hst,
    rcd := bif m.testBit 17 then t.rcd else s.rcd,
    die := bif m.testBit 18 then t.die else s.die,
    psw := bif m.testBit 19 then t.psw else s.psw,
    vlv := bif m.testBit 20 then t.vlv else s.vlv,
    col := bif m.testBit 21 then t.col else s.col,
    sns := bif m.testBit 22 then t.sns else s.sns,
    flw := bif m.testBit 23 then t.flw else s.flw,
    lop := bif m.testBit 24 then t.lop else s.lop,
    prf := bif m.testBit 25 then t.prf else s.prf,
    nav := bif m.testBit 26 then t.nav else s.nav,
    tim := bif m.testBit 27 then t.tim else s.tim,
    str := bif m.testBit 28 then t.str else s.str,
    yld := bif m.testBit 29 then t.yld else s.yld,
    vis := bif m.testBit 30 then t.vis else s.vis,
    can := bif m.testBit 31 then t.can else s.can,
    eth := bif m.testBit 32 then t.eth else s.eth,
    updt := bif m.testBit 33 then t.updt else s.updt,
    dbg := bif m.testBit 34 then t.dbg else s.dbg,
    fmt := bif m.testBit 35 then t.fmt else s.fmt,
    free := bif m.testBit 36 then t.free else s.free,
    out := bif m.testBit 37 then t.out else s.out,
    pending := bif m.testBit 38 then t.pending else s.pending }

theorem Same.eq_mix {m : Nat} {s t : State} (h : Same m s t) : t = State.mix m s t := by
  have pick : ∀ {α : Type} {b : Bool} {x y : α}, (b = false → x = y) → x = bif b then x else y := by
    intro α b x y h
    cases b
    · exact h rfl
    · rfl
  cases t
  unfold State.mix
  congr 1
  · exact pick h.clk
  · exact pick h.pwr
  · exact pick h.regions
  · exact pick h.clRst
  · exact pick h.bud
  · exact pick h.wake
  · exact pick h.boot
  · exact pick h.flash
  · exact pick h.bootRec
  · exact pick h.journal
  · exact pick h.fw
  · exact pick h.setSlots
  · exact pick h.store
  · exact pick h.img
  · exact pick h.grp
  · exact pick h.sm
  · exact pick h.hst
  · exact pick h.rcd
  · exact pick h.die
  · exact pick h.psw
  · exact pick h.vlv
  · exact pick h.col
  · exact pick h.sns
  · exact pick h.flw
  · exact pick h.lop
  · exact pick h.prf
  · exact pick h.nav
  · exact pick h.tim
  · exact pick h.str
  · exact pick h.yld
  · exact pick h.vis
  · exact pick h.can
  · exact pick h.eth
  · exact pick h.updt
  · exact pick h.dbg
  · exact pick h.fmt
  · exact pick h.free
  · exact pick h.out
  · exact pick h.pending

end Sys2Proof.Machine
end

