-- ==== Sys2Proof/Laws/FramesShared.lean ====
section
/-! SUPPORT. Frame lemmas: which fields of the state each operation can change, and that each command answers a next state; here for
the shared operations (Bits, StSys, Image, Float, Real, StHst, StSns, StLop, StNav, StPwr, Resets, StCan, StNet, StVis, StYld, Resets2, StClk, State, Ops, Operands, Signals, Groups, Power, Psw, Cooling, Valve, Budget, Events, Geo, Recorder, Nav, CanOps, Manifest, Pairs). -/

namespace Sys2Proof.Machine

theorem State.dropItem_same (s : State) :
    Same 0x10000 s (State.dropItem s) := by
  unfold State.dropItem
  refine Same.next ?_ Same.set_hst (by decide)
  exact Same.refl _ _

theorem State.send_same (s : State) (m : Msg) :
    Same 0x2000000000 s (State.send s m) := by
  unfold State.send
  refine Same.next ?_ Same.set_out (by decide)
  exact Same.refl _ _

theorem State.updSess_same (s : State) (i : Nat) (f : Sess → Sess) :
    Same 0x10000 s (State.updSess s i f) := by
  unfold State.updSess
  refine Same.next ?_ Same.set_hst (by decide)
  exact Same.refl _ _

theorem State.sendPub_same (s : State) (k : Sub) (payload : List Byte) :
    Same 0x2000010000 s (State.sendPub s k payload) := by
  unfold State.sendPub
  refine Same.next ?_ (State.send_same _ _) (by decide)
  refine Same.next ?_ (State.updSess_same _ _ _) (by decide)
  exact Same.refl _ _

theorem State.sendEnvelope_same (s : State) (k : Sub) (body : List Byte) :
    Same 0x2000010000 s (State.sendEnvelope s k body) := by
  unfold State.sendEnvelope
  refine Same.ite ?_ ?_
  · refine Same.next ?_ (State.dropItem_same _) (by decide)
    exact Same.refl _ _
  · refine Same.next ?_ (State.sendPub_same _ _ _) (by decide)
    refine Same.next ?_ Same.set_hst (by decide)
    exact Same.refl _ _

theorem State.sendItem_same (s : State) (k : Sub) (i : Item) :
    Same 0x3000010000 s (State.sendItem s k i) := by
  unfold State.sendItem
  refine Same.ite ?_ ?_
  · refine Same.next ?_ (State.dropItem_same _) (by decide)
    refine Same.next ?_ Same.set_free (by decide)
    exact Same.refl _ _
  · refine Same.ite ?_ ?_
    · conv => zeta
      split
      · refine Same.next ?_ (State.sendPub_same _ _ _) (by decide)
        refine Same.next ?_ Same.set_free (by decide)
        exact Same.refl _ _
      · refine Same.next ?_ (State.sendEnvelope_same _ _ _) (by decide)
        refine Same.next ?_ Same.set_free (by decide)
        exact Same.refl _ _
    · refine Same.next ?_ (State.sendPub_same _ _ _) (by decide)
      refine Same.next ?_ Same.set_free (by decide)
      exact Same.refl _ _

theorem State.pubOne_same (s : State) (id : Nat) (i : Item) :
    Same 0x3000010000 s (State.pubOne s id i) := by
  unfold State.pubOne
  conv => zeta
  split
  · exact Same.refl _ _
  · refine Same.ite ?_ ?_
    · refine Same.next ?_ (State.sendItem_same _ _ _) (by decide)
      refine Same.next ?_ Same.set_hst (by decide)
      exact Same.refl _ _
    · refine Same.next ?_ Same.set_hst (by decide)
      exact Same.refl _ _

theorem State.publishItem_same (s : State) (stream : Nat) (sel : Nat → Bool) (i : Item) :
    Same 0x3000010000 s (State.publishItem s stream sel i) := by
  unfold State.publishItem
  refine Same.fold _ ?_ ?_
  · exact Same.refl _ _
  · intro u a hu
    refine Same.next ?_ (State.pubOne_same _ _ _) (by decide)
    assumption

theorem State.publish_same (s : State) (stream : Nat) (sel : Nat → Bool) (opt : Nat) (dvt : Nat) (body : List Byte) :
    Same 0x3000010000 s (State.publish s stream sel opt dvt body) := by
  unfold State.publish
  refine Same.next ?_ (State.publishItem_same _ _ _ _) (by decide)
  exact Same.refl _ _

theorem State.updRec_same (s : State) (f : RecSt → RecSt) :
    Same 0x20000 s (State.updRec s f) := by
  unfold State.updRec
  refine Same.next ?_ Same.set_rcd (by decide)
  exact Same.refl _ _

theorem State.closeSet_same (s : State) (shutdown : Bool) (atBoundary : Bool) :
    Same 0x20000 s (State.closeSet s shutdown atBoundary) := by
  unfold State.closeSet
  refine Same.next ?_ (State.updRec_same _ _) (by decide)
  exact Same.refl _ _

theorem State.recTurn_same (s : State) :
    Same 0x20000 s (State.recTurn s) := by
  unfold State.recTurn
  refine Same.ite ?_ ?_
  · exact Same.refl _ _
  · refine Same.ite ?_ ?_
    · refine Same.next ?_ (State.updRec_same _ _) (by decide)
      refine Same.next ?_ (State.updRec_same _ _) (by decide)
      exact Same.refl _ _
    · refine Same.next ?_ (State.closeSet_same _ _ _) (by decide)
      refine Same.next ?_ (State.updRec_same _ _) (by decide)
      exact Same.refl _ _

theorem State.notice_same (s : State) (code : Nat) (block : Nat) (unit : Nat) (value : F32) :
    Same 0x3000030000 s (State.notice s code block unit value) := by
  unfold State.notice
  refine Same.ite ?_ ?_
  · refine Same.next ?_ (State.publish_same _ _ _ _ _ _) (by decide)
    refine Same.next ?_ Same.set_rcd (by decide)
    refine Same.next ?_ (State.recTurn_same _) (by decide)
    exact Same.refl _ _
  · refine Same.next ?_ Same.set_rcd (by decide)
    refine Same.next ?_ (State.recTurn_same _) (by decide)
    exact Same.refl _ _

theorem State.accept_same (s : State) (r : HostReq) :
    Same 0x10000 s (State.accept s r) := by
  unfold State.accept
  refine Same.ite ?_ ?_
  · refine Same.next ?_ Same.set_hst (by decide)
    refine Same.next ?_ (State.updSess_same _ _ _) (by decide)
    exact Same.refl _ _
  · refine Same.next ?_ (State.updSess_same _ _ _) (by decide)
    exact Same.refl _ _

theorem State.storeRecord_same (s : State) (body : List Byte) :
    Same 0x3000030000 s (State.storeRecord s body) := by
  unfold State.storeRecord
  refine Same.ite ?_ ?_
  · refine Same.next ?_ (State.notice_same _ _ _ _ _) (by decide)
    refine Same.ite ?_ ?_
    · refine Same.next ?_ (State.notice_same _ _ _ _ _) (by decide)
      refine Same.next ?_ (State.updRec_same _ _) (by decide)
      exact Same.refl _ _
    · refine Same.next ?_ (State.updRec_same _ _) (by decide)
      exact Same.refl _ _
  · refine Same.ite ?_ ?_
    · refine Same.next ?_ (State.notice_same _ _ _ _ _) (by decide)
      refine Same.next ?_ (State.updRec_same _ _) (by decide)
      exact Same.refl _ _
    · refine Same.next ?_ (State.updRec_same _ _) (by decide)
      exact Same.refl _ _

theorem State.recShutdown_same (s : State) :
    Same 0x3000030000 s (State.recShutdown s) := by
  unfold State.recShutdown
  conv => zeta
  split
  · refine Same.next ?_ (State.storeRecord_same _ _) (by decide)
    refine Same.next ?_ (State.closeSet_same _ _ _) (by decide)
    conv => zeta
    split
    · refine Same.next ?_ (State.storeRecord_same _ _) (by decide)
      refine Same.next ?_ (State.updRec_same _ _) (by decide)
      exact Same.refl _ _
    · refine Same.next ?_ (State.updRec_same _ _) (by decide)
      exact Same.refl _ _
  · refine Same.next ?_ (State.closeSet_same _ _ _) (by decide)
    conv => zeta
    split
    · refine Same.next ?_ (State.storeRecord_same _ _) (by decide)
      refine Same.next ?_ (State.updRec_same _ _) (by decide)
      exact Same.refl _ _
    · refine Same.next ?_ (State.updRec_same _ _) (by decide)
      exact Same.refl _ _

theorem State.updCol_same (s : State) (n : Nat) (f : ColCh → ColCh) :
    Same 0x200000 s (State.updCol s n f) := by
  unfold State.updCol
  refine Same.next ?_ Same.set_col (by decide)
  exact Same.refl _ _

theorem State.updPsw_same (s : State) (n : Nat) (f : PswCh → PswCh) :
    Same 0x80000 s (State.updPsw s n f) := by
  unfold State.updPsw
  refine Same.next ?_ Same.set_psw (by decide)
  exact Same.refl _ _

theorem State.updVlv_same (s : State) (n : Nat) (f : VlvCh → VlvCh) :
    Same 0x100000 s (State.updVlv s n f) := by
  unfold State.updVlv
  refine Same.next ?_ Same.set_vlv (by decide)
  exact Same.refl _ _

theorem State.updBank_same (s : State) (b : Nat) (f : Bank → Bank) :
    Same 0x100000 s (State.updBank s b f) := by
  unfold State.updBank
  refine Same.next ?_ Same.set_vlv (by decide)
  exact Same.refl _ _

theorem State.giveBank_same (s : State) (n : Nat) :
    Same 0x100000 s (State.giveBank s n) := by
  unfold State.giveBank
  refine Same.next ?_ (State.updBank_same _ _ _) (by decide)
  exact Same.refl _ _

theorem State.withdraw_same (s : State) (src : Nat) :
    Same 0x10 s (State.withdraw s src) := by
  unfold State.withdraw
  refine Same.next ?_ Same.set_bud (by decide)
  exact Same.refl _ _

theorem State.vlvAbort_same (s : State) (n : Nat) :
    Same 0x100010 s (State.vlvAbort s n) := by
  unfold State.vlvAbort
  refine Same.next ?_ (State.updVlv_same _ _ _) (by decide)
  refine Same.next ?_ (State.giveBank_same _ _) (by decide)
  refine Same.next ?_ (State.withdraw_same _ _) (by decide)
  exact Same.refl _ _

theorem State.refuseSrc_same (s : State) (src : Nat) :
    Same 0x380030 s (State.refuseSrc s src) := by
  unfold State.refuseSrc
  refine Same.ite ?_ ?_
  · refine Same.next ?_ (State.updPsw_same _ _ _) (by decide)
    exact Same.refl _ _
  · refine Same.ite ?_ ?_
    · refine Same.next ?_ (State.updVlv_same _ _ _) (by decide)
      refine Same.next ?_ (State.vlvAbort_same _ _) (by decide)
      exact Same.refl _ _
    · refine Same.ite ?_ ?_
      · refine Same.next ?_ (State.updCol_same _ _ _) (by decide)
        exact Same.refl _ _
      · refine Same.next ?_ Same.set_wake (by decide)
        exact Same.refl _ _

theorem State.refuseReq_same (s : State) (src : Nat) :
    Same 0x30003b0030 s (State.refuseReq s src) := by
  unfold State.refuseReq
  refine Same.next ?_ (State.notice_same _ _ _ _ _) (by decide)
  refine Same.next ?_ Same.set_bud (by decide)
  refine Same.next ?_ (State.refuseSrc_same _ _) (by decide)
  refine Same.next ?_ (State.withdraw_same _ _) (by decide)
  exact Same.refl _ _

theorem State.raise_same (s : State) (src : Nat) (o : Opt) :
    Same 0x30003b0030 s (State.raise s src o) := by
  unfold State.raise
  refine Same.ite ?_ ?_
  · refine Same.next ?_ (State.refuseReq_same _ _) (by decide)
    exact Same.refl _ _
  · refine Same.next ?_ Same.set_bud (by decide)
    refine Same.next ?_ (State.withdraw_same _ _) (by decide)
    exact Same.refl _ _

theorem State.pswRequest_same (s : State) (n : Nat) (o : Opt) :
    Same 0x30003b0030 s (State.pswRequest s n o) := by
  unfold State.pswRequest
  refine Same.next ?_ (State.raise_same _ _ _) (by decide)
  refine Same.next ?_ (State.updPsw_same _ _ _) (by decide)
  exact Same.refl _ _

theorem State.pswApply_same (s : State) (n : Nat) (o : Opt) :
    Same 0x30003b0030 s (State.pswApply s n o) := by
  unfold State.pswApply
  refine Same.ite ?_ ?_
  · exact Same.refl _ _
  · refine Same.ite ?_ ?_
    · conv => zeta
      split
      · refine Same.next ?_ (State.updPsw_same _ _ _) (by decide)
        refine Same.next ?_ (State.withdraw_same _ _) (by decide)
        exact Same.refl _ _
      · refine Same.next ?_ (State.updPsw_same _ _ _) (by decide)
        exact Same.refl _ _
      · refine Same.next ?_ (State.updPsw_same _ _ _) (by decide)
        exact Same.refl _ _
      · refine Same.next ?_ (State.updPsw_same _ _ _) (by decide)
        exact Same.refl _ _
      · refine Same.next ?_ (State.updPsw_same _ _ _) (by decide)
        exact Same.refl _ _
      · exact Same.refl _ _
    · refine Same.ite ?_ ?_
      · refine Same.next ?_ (State.pswRequest_same _ _ _) (by decide)
        exact Same.refl _ _
      · exact Same.refl _ _

theorem State.pswDuty_same (s : State) (n : Nat) :
    Same 0x80000 s (State.pswDuty s n) := by
  unfold State.pswDuty
  refine Same.ite ?_ ?_
  · exact Same.refl _ _
  · refine Same.ite ?_ ?_
    · refine Same.next ?_ (State.updPsw_same _ _ _) (by decide)
      exact Same.refl _ _
    · refine Same.next ?_ (State.updPsw_same _ _ _) (by decide)
      exact Same.refl _ _

theorem State.pswFanOff_same (s : State) (n : Nat) (o : Opt) :
    Same 0x30003b0030 s (State.pswFanOff s n o) := by
  unfold State.pswFanOff
  refine Same.ite ?_ ?_
  · exact Same.refl _ _
  · refine Same.next ?_ (State.pswDuty_same _ _) (by decide)
    refine Same.next ?_ (State.pswApply_same _ _ _) (by decide)
    refine Same.next ?_ (State.updPsw_same _ _ _) (by decide)
    exact Same.refl _ _

theorem State.pswOn_same (s : State) (n : Nat) (o : Opt) :
    Same 0x80000 s (State.pswOn s n o) := by
  unfold State.pswOn
  refine Same.next ?_ (State.pswDuty_same _ _) (by decide)
  refine Same.next ?_ (State.updPsw_same _ _ _) (by decide)
  exact Same.refl _ _

theorem State.pswFanOn_same (s : State) (n : Nat) (fan : Nat) (o : Opt) :
    Same 0x80000 s (State.pswFanOn s n fan o) := by
  unfold State.pswFanOn
  refine Same.ite ?_ ?_
  · refine Same.next ?_ (State.pswOn_same _ _ _) (by decide)
    refine Same.next ?_ (State.updPsw_same _ _ _) (by decide)
    exact Same.refl _ _
  · refine Same.next ?_ (State.pswDuty_same _ _) (by decide)
    refine Same.next ?_ (State.updPsw_same _ _ _) (by decide)
    exact Same.refl _ _

theorem State.colFeed_same (s : State) (n : Nat) (on : Bool) (o : Opt) :
    Same 0x30003b0030 s (State.colFeed s n on o) := by
  unfold State.colFeed
  conv => zeta
  split
  · exact Same.refl _ _
  · refine Same.ite ?_ ?_
    · refine Same.next ?_ (State.pswFanOn_same _ _ _ _) (by decide)
      exact Same.refl _ _
    · refine Same.next ?_ (State.pswFanOff_same _ _ _) (by decide)
      exact Same.refl _ _

theorem State.colStop_same (s : State) (n : Nat) (reset : Bool) (o : Opt) :
    Same 0x30003b0030 s (State.colStop s n reset o) := by
  unfold State.colStop
  refine Same.next ?_ (State.colFeed_same _ _ _ _) (by decide)
  refine Same.next ?_ (State.updCol_same _ _ _) (by decide)
  refine Same.next ?_ (State.withdraw_same _ _) (by decide)
  exact Same.refl _ _

theorem State.colEnterSafe_same (s : State) (n : Nat) (o : Opt) :
    Same 0x30003b0030 s (State.colEnterSafe s n o) := by
  unfold State.colEnterSafe
  refine Same.next ?_ (State.updCol_same _ _ _) (by decide)
  refine Same.next ?_ (State.colStop_same _ _ _ _) (by decide)
  exact Same.refl _ _

theorem State.colRequest_same (s : State) (n : Nat) (o : Opt) :
    Same 0x30003b0030 s (State.colRequest s n o) := by
  unfold State.colRequest
  refine Same.next ?_ (State.raise_same _ _ _) (by decide)
  refine Same.next ?_ (State.updCol_same _ _ _) (by decide)
  exact Same.refl _ _

theorem State.colEval_same (s : State) (n : Nat) (o : Opt) :
    Same 0x30003b0030 s (State.colEval s n o) := by
  unfold State.colEval
  refine Same.ite ?_ ?_
  · exact Same.refl _ _
  · refine Same.next ?_ (State.updCol_same _ _ _) (by decide)
    conv => zeta
    split
    · refine Same.ite ?_ ?_
      · refine Same.next ?_ (State.colRequest_same _ _ _) (by decide)
        refine Same.next ?_ (State.updCol_same _ _ _) (by decide)
        exact Same.refl _ _
      · refine Same.next ?_ (State.updCol_same _ _ _) (by decide)
        exact Same.refl _ _
    · refine Same.ite ?_ ?_
      · refine Same.next ?_ (State.colStop_same _ _ _ _) (by decide)
        refine Same.next ?_ (State.updCol_same _ _ _) (by decide)
        exact Same.refl _ _
      · refine Same.next ?_ (State.updCol_same _ _ _) (by decide)
        exact Same.refl _ _
    · refine Same.ite ?_ ?_
      · refine Same.next ?_ (State.colStop_same _ _ _ _) (by decide)
        refine Same.next ?_ (State.updCol_same _ _ _) (by decide)
        exact Same.refl _ _
      · refine Same.next ?_ (State.updCol_same _ _ _) (by decide)
        exact Same.refl _ _
    · refine Same.ite ?_ ?_
      · refine Same.next ?_ (State.colStop_same _ _ _ _) (by decide)
        refine Same.next ?_ (State.updCol_same _ _ _) (by decide)
        exact Same.refl _ _
      · refine Same.next ?_ (State.updCol_same _ _ _) (by decide)
        exact Same.refl _ _
    · refine Same.ite ?_ ?_
      · refine Same.next ?_ (State.colStop_same _ _ _ _) (by decide)
        refine Same.next ?_ (State.updCol_same _ _ _) (by decide)
        exact Same.refl _ _
      · refine Same.next ?_ (State.updCol_same _ _ _) (by decide)
        exact Same.refl _ _
    · refine Same.next ?_ (State.updCol_same _ _ _) (by decide)
      exact Same.refl _ _

theorem State.colLeaveSafe_same (s : State) (n : Nat) (o : Opt) :
    Same 0x30003b0030 s (State.colLeaveSafe s n o) := by
  unfold State.colLeaveSafe
  refine Same.ite ?_ ?_
  · refine Same.next ?_ (State.colEval_same _ _ _) (by decide)
    refine Same.next ?_ (State.colFeed_same _ _ _ _) (by decide)
    refine Same.next ?_ (State.updCol_same _ _ _) (by decide)
    refine Same.next ?_ (State.updCol_same _ _ _) (by decide)
    exact Same.refl _ _
  · refine Same.next ?_ (State.colEval_same _ _ _) (by decide)
    refine Same.next ?_ (State.updCol_same _ _ _) (by decide)
    refine Same.next ?_ (State.updCol_same _ _ _) (by decide)
    exact Same.refl _ _

theorem State.colSettle_same (s : State) (n : Nat) (o : Opt) :
    Same 0x30003b0030 s (State.colSettle s n o) := by
  unfold State.colSettle
  refine Same.ite ?_ ?_
  · exact Same.refl _ _
  · refine Same.ite ?_ ?_
    · refine Same.ite ?_ ?_
      · refine Same.next ?_ (State.colLeaveSafe_same _ _ _) (by decide)
        exact Same.refl _ _
      · exact Same.refl _ _
    · refine Same.ite ?_ ?_
      · exact Same.refl _ _
      · refine Same.next ?_ (State.colEnterSafe_same _ _ _) (by decide)
        exact Same.refl _ _

theorem State.pswEnterSafe_same (s : State) (n : Nat) :
    Same 0x80010 s (State.pswEnterSafe s n) := by
  unfold State.pswEnterSafe
  refine Same.next ?_ (State.updPsw_same _ _ _) (by decide)
  refine Same.next ?_ (State.withdraw_same _ _) (by decide)
  exact Same.refl _ _

theorem State.pswSettle_same (s : State) (n : Nat) (o : Opt) :
    Same 0x30003b0030 s (State.pswSettle s n o) := by
  unfold State.pswSettle
  refine Same.ite ?_ ?_
  · exact Same.refl _ _
  · refine Same.ite ?_ ?_
    · refine Same.ite ?_ ?_
      · refine Same.next ?_ (State.pswDuty_same _ _) (by decide)
        refine Same.next ?_ (State.pswApply_same _ _ _) (by decide)
        refine Same.next ?_ (State.updPsw_same _ _ _) (by decide)
        exact Same.refl _ _
      · exact Same.refl _ _
    · refine Same.ite ?_ ?_
      · exact Same.refl _ _
      · refine Same.next ?_ (State.pswDuty_same _ _) (by decide)
        refine Same.next ?_ (State.pswApply_same _ _ _) (by decide)
        refine Same.next ?_ (State.pswEnterSafe_same _ _) (by decide)
        exact Same.refl _ _

theorem State.bankRefresh_same (s : State) (b : Nat) :
    Same 0x100000 s (State.bankRefresh s b) := by
  unfold State.bankRefresh
  refine Same.next ?_ (State.updBank_same _ _ _) (by decide)
  exact Same.refl _ _

theorem State.vlvActivate_same (s : State) (n : Nat) :
    Same 0x100000 s (State.vlvActivate s n) := by
  unfold State.vlvActivate
  refine Same.next ?_ (State.bankRefresh_same _ _) (by decide)
  refine Same.next ?_ (State.updVlv_same _ _ _) (by decide)
  exact Same.refl _ _

theorem State.vlvLegacy_same (s : State) (n : Nat) :
    Same 0x100000 s (State.vlvLegacy s n) := by
  unfold State.vlvLegacy
  refine Same.ite ?_ ?_
  · refine Same.next ?_ (State.updVlv_same _ _ _) (by decide)
    exact Same.refl _ _
  · refine Same.next ?_ (State.bankRefresh_same _ _) (by decide)
    refine Same.next ?_ (State.updVlv_same _ _ _) (by decide)
    exact Same.refl _ _

theorem State.vlvEnterRun_same (s : State) (n : Nat) :
    Same 0x100000 s (State.vlvEnterRun s n) := by
  unfold State.vlvEnterRun
  refine Same.ite ?_ ?_
  · refine Same.next ?_ (State.bankRefresh_same _ _) (by decide)
    refine Same.next ?_ (State.updVlv_same _ _ _) (by decide)
    refine Same.next ?_ (State.updVlv_same _ _ _) (by decide)
    exact Same.refl _ _
  · refine Same.ite ?_ ?_
    · refine Same.next ?_ (State.vlvLegacy_same _ _) (by decide)
      refine Same.next ?_ (State.updVlv_same _ _ _) (by decide)
      exact Same.refl _ _
    · refine Same.ite ?_ ?_
      · refine Same.next ?_ (State.vlvActivate_same _ _) (by decide)
        refine Same.next ?_ (State.updVlv_same _ _ _) (by decide)
        exact Same.refl _ _
      · refine Same.next ?_ (State.bankRefresh_same _ _) (by decide)
        refine Same.next ?_ (State.updVlv_same _ _ _) (by decide)
        refine Same.next ?_ (State.updVlv_same _ _ _) (by decide)
        exact Same.refl _ _

theorem State.vlvEnterSafe_same (s : State) (n : Nat) (o : Opt) :
    Same 0x100010 s (State.vlvEnterSafe s n o) := by
  unfold State.vlvEnterSafe
  refine Same.ite ?_ ?_
  · refine Same.next ?_ (State.updVlv_same _ _ _) (by decide)
    exact Same.refl _ _
  · refine Same.next ?_ (State.bankRefresh_same _ _) (by decide)
    refine Same.next ?_ (State.updVlv_same _ _ _) (by decide)
    refine Same.next ?_ (State.vlvAbort_same _ _) (by decide)
    exact Same.refl _ _

theorem State.vlvSettle_same (s : State) (n : Nat) (o : Opt) :
    Same 0x100010 s (State.vlvSettle s n o) := by
  unfold State.vlvSettle
  refine Same.ite ?_ ?_
  · exact Same.refl _ _
  · refine Same.ite ?_ ?_
    · refine Same.ite ?_ ?_
      · exact Same.refl _ _
      · refine Same.ite ?_ ?_
        · refine Same.next ?_ (State.updVlv_same _ _ _) (by decide)
          exact Same.refl _ _
        · refine Same.next ?_ (State.vlvEnterRun_same _ _) (by decide)
          exact Same.refl _ _
    · refine Same.ite ?_ ?_
      · exact Same.refl _ _
      · refine Same.next ?_ (State.vlvEnterSafe_same _ _ _) (by decide)
        exact Same.refl _ _

theorem State.settleDie_same (s : State) (d : Nat) (o : Opt) :
    Same 0x30003b0030 s (State.settleDie s d o) := by
  unfold State.settleDie
  refine Same.fold _ ?_ ?_
  · refine Same.fold _ ?_ ?_
    · refine Same.fold _ ?_ ?_
      · exact Same.refl _ _
      · intro u a hu
        refine Same.next ?_ (State.pswSettle_same _ _ _) (by decide)
        assumption
    · intro u a hu
      refine Same.next ?_ (State.vlvSettle_same _ _ _) (by decide)
      assumption
  · intro u a hu
    refine Same.next ?_ (State.colSettle_same _ _ _) (by decide)
    assumption

theorem State.settleAll_same (s : State) (o : Opt) :
    Same 0x30003b0030 s (State.settleAll s o) := by
  unfold State.settleAll
  refine Same.fold _ ?_ ?_
  · exact Same.refl _ _
  · intro u a hu
    refine Same.next ?_ (State.settleDie_same _ _ _) (by decide)
    assumption

theorem State.colAdmit_same (s : State) (n : Nat) (o : Opt) :
    Same 0x30003b0030 s (State.colAdmit s n o) := by
  unfold State.colAdmit
  refine Same.next ?_ (State.colFeed_same _ _ _ _) (by decide)
  refine Same.next ?_ (State.updCol_same _ _ _) (by decide)
  exact Same.refl _ _

theorem State.vlvAdmit_same (s : State) (n : Nat) (slots : Nat) :
    Same 0x100000 s (State.vlvAdmit s n slots) := by
  unfold State.vlvAdmit
  refine Same.next ?_ (State.bankRefresh_same _ _) (by decide)
  refine Same.next ?_ (State.giveBank_same _ _) (by decide)
  refine Same.next ?_ (State.updVlv_same _ _ _) (by decide)
  exact Same.refl _ _

theorem State.admitSrc_same (s : State) (r : StartReq) :
    Same 0x30003b0030 s (State.admitSrc s r) := by
  unfold State.admitSrc
  refine Same.ite ?_ ?_
  · refine Same.next ?_ (State.pswOn_same _ _ _) (by decide)
    exact Same.refl _ _
  · refine Same.ite ?_ ?_
    · refine Same.next ?_ (State.vlvAdmit_same _ _ _) (by decide)
      exact Same.refl _ _
    · refine Same.ite ?_ ?_
      · refine Same.next ?_ (State.colAdmit_same _ _ _) (by decide)
        exact Same.refl _ _
      · refine Same.next ?_ Same.set_wake (by decide)
        exact Same.refl _ _

theorem State.reach_same (s : State) (o : Opt) :
    Same 0x1 s (State.reach s o) := by
  unfold State.reach
  refine Same.next ?_ Same.set_clk (by decide)
  exact Same.refl _ _

theorem State.updNav_same (s : State) (f : NavSt → NavSt) :
    Same 0x4000000 s (State.updNav s f) := by
  unfold State.updNav
  refine Same.next ?_ Same.set_nav (by decide)
  exact Same.refl _ _

theorem State.ambReset_same (s : State) :
    Same 0x4000000 s (State.ambReset s) := by
  unfold State.ambReset
  refine Same.next ?_ (State.updNav_same _ _) (by decide)
  exact Same.refl _ _

theorem State.announce_same (s : State) (z : Nat) :
    Same 0x2000000000 s (State.announce s z) := by
  unfold State.announce
  refine Same.fold _ ?_ ?_
  · conv => zeta
    split
    · refine Same.next ?_ (State.send_same _ _) (by decide)
      exact Same.refl _ _
    · exact Same.refl _ _
  · intro u a hu
    refine Same.next ?_ (State.send_same _ _) (by decide)
    assumption

theorem State.updEth_same (s : State) (f : EthSt → EthSt) :
    Same 0x100000000 s (State.updEth s f) := by
  unfold State.updEth
  refine Same.next ?_ Same.set_eth (by decide)
  exact Same.refl _ _

theorem State.updPort_same (s : State) (n : Nat) (f : EthPort → EthPort) :
    Same 0x100000000 s (State.updPort s n f) := by
  unfold State.updPort
  refine Same.next ?_ (State.updEth_same _ _) (by decide)
  exact Same.refl _ _

theorem State.reply_same (s : State) (r : HostReq) (op : Nat) (status : Nat) (replay : Bool) (payload : List Byte) :
    Same 0x2000010000 s (State.reply s r op status replay payload) := by
  unfold State.reply
  refine Same.ite ?_ ?_
  · refine Same.next ?_ (State.send_same _ _) (by decide)
    exact Same.refl _ _
  · refine Same.next ?_ Same.set_out (by decide)
    refine Same.next ?_ (State.updSess_same _ _ _) (by decide)
    exact Same.refl _ _

theorem State.finish_same (s : State) (r : HostReq) (op : Nat) (status : Nat) (payload : List Byte) :
    Same 0x2000010000 s (State.finish s r op status payload) := by
  unfold State.finish
  refine Same.next ?_ (State.reply_same _ _ _ _ _ _) (by decide)
  refine Same.next ?_ (State.updSess_same _ _ _) (by decide)
  exact Same.refl _ _

theorem State.closeIfDone_same (s : State) (n : Nat) :
    Same 0x2000010000 s (State.closeIfDone s n) := by
  unfold State.closeIfDone
  conv => zeta
  split
  · exact Same.refl _ _
  · refine Same.ite ?_ ?_
    · refine Same.next ?_ (State.finish_same _ _ _ _ _) (by decide)
      refine Same.next ?_ (State.updSess_same _ _ _) (by decide)
      refine Same.next ?_ Same.set_hst (by decide)
      exact Same.refl _ _
    · exact Same.refl _ _

theorem releaseWalk_same (ordered : Bool) (n : Nat) (b : Bool) (l : List OpFlight) (s : State) :
    Same 0x2000010000 s (releaseWalk ordered n b l s).2 := by
  induction l generalizing b s with
  | nil => exact Same.refl _ _
  | cons f t ih =>
    unfold releaseWalk
    split
    · split
      · split
        · exact ih _ _
        · exact ((Same.refl _ _).next (State.finish_same _ _ _ _ _) (by decide)).next (ih _ _) (by decide)
      · exact ih _ _
    · exact ih _ _

theorem State.releaseRing_same (s : State) (n : Nat) :
    Same 0x2000010000 s (State.releaseRing s n) := by
  unfold State.releaseRing
  refine Same.next ?_ (State.closeIfDone_same _ _) (by decide)
  refine Same.next ?_ Same.set_hst (by decide)
  refine Same.next ?_ (releaseWalk_same _ _ _ _ _) (by decide)
  exact Same.refl _ _

theorem State.complete_same (s : State) (r : HostReq) (status : Nat) (payload : List Byte) :
    Same 0x2000010000 s (State.complete s r status payload) := by
  unfold State.complete
  conv => zeta
  split
  · exact Same.refl _ _
  · refine Same.ite ?_ ?_
    · refine Same.next ?_ Same.set_hst (by decide)
      exact Same.refl _ _
    · refine Same.next ?_ (State.releaseRing_same _ _) (by decide)
      refine Same.next ?_ Same.set_hst (by decide)
      exact Same.refl _ _

theorem State.applySnap_same (s : State) (p : Snap) :
    Same 0x2000014000 s (State.applySnap s p) := by
  unfold State.applySnap
  conv => zeta
  split
  · refine Same.next ?_ (State.complete_same _ _ _ _) (by decide)
    refine Same.next ?_ Same.set_grp (by decide)
    exact Same.refl _ _
  · refine Same.next ?_ Same.set_grp (by decide)
    exact Same.refl _ _

theorem State.applyGroup_same (s : State) (g : Nat) :
    Same 0x2000014000 s (State.applyGroup s g) := by
  unfold State.applyGroup
  conv => zeta
  split
  · refine Same.next ?_ (State.applySnap_same _ _) (by decide)
    exact Same.refl _ _
  · exact Same.refl _ _

theorem State.queueSearch_same (s : State) (n : Nat) (cls : SearchClass) :
    Same 0x4000000 s (State.queueSearch s n cls) := by
  unfold State.queueSearch
  refine Same.next ?_ (State.updNav_same _ _) (by decide)
  exact Same.refl _ _

theorem State.updNch_same (s : State) (n : Nat) (f : NavCh → NavCh) :
    Same 0x4000000 s (State.updNch s n f) := by
  unfold State.updNch
  refine Same.next ?_ (State.updNav_same _ _) (by decide)
  exact Same.refl _ _

theorem State.assign_same (s : State) (n : Nat) (t : Triple) :
    Same 0x4000000 s (State.assign s n t) := by
  unfold State.assign
  refine Same.ite ?_ ?_
  · refine Same.next ?_ (State.queueSearch_same _ _ _) (by decide)
    refine Same.next ?_ (State.updNch_same _ _ _) (by decide)
    exact Same.refl _ _
  · refine Same.next ?_ (State.updNav_same _ _) (by decide)
    refine Same.next ?_ (State.updNch_same _ _ _) (by decide)
    exact Same.refl _ _

theorem State.badMsg_same (s : State) :
    Same 0x10000 s (State.badMsg s) := by
  unfold State.badMsg
  refine Same.next ?_ Same.set_hst (by decide)
  exact Same.refl _ _

theorem State.begin_same (s : State) (o : Opt) :
    Same 0x2000000001 s (State.begin s o) := by
  unfold State.begin
  refine Same.next ?_ (State.reach_same _ _) (by decide)
  refine Same.next ?_ Same.set_out (by decide)
  exact Same.refl _ _

theorem State.seen_same (s : State) (i : Nat) (o : Opt) :
    Same 0x10000 s (State.seen s i o) := by
  unfold State.seen
  refine Same.next ?_ (State.updSess_same _ _ _) (by decide)
  exact Same.refl _ _

theorem State.standbyDiscard_same (s : State) (r : HostReq) :
    Same 0x100000000 s (State.standbyDiscard s r) := by
  unfold State.standbyDiscard
  refine Same.ite ?_ ?_
  · exact Same.refl _ _
  · refine Same.next ?_ Same.set_eth (by decide)
    exact Same.refl _ _

theorem State.surplusMsg_same (s : State) (r : HostReq) (op : Nat) :
    Same 0x2000010000 s (State.surplusMsg s r op) := by
  unfold State.surplusMsg
  refine Same.ite ?_ ?_
  · refine Same.next ?_ (State.send_same _ _) (by decide)
    refine Same.next ?_ (State.send_same _ _) (by decide)
    refine Same.next ?_ Same.set_hst (by decide)
    exact Same.refl _ _
  · refine Same.next ?_ (State.send_same _ _) (by decide)
    exact Same.refl _ _

theorem receive_same {r : HostReq} {op : Nat} {k : State → State} {s : State} {m : Nat} (hm : 0x2100010001 &&& m = 0x2100010001)
    (hk : ∀ u, Same m s u → Same m s (k u)) : Same m s (receive r op k s) := by
  have b : ∀ {t u : State}, Same m s t → Same 0x2100010001 t u → Same m s u := fun h k => h.next k hm
  have b0 := b (Same.refl _ _) ((State.begin_same s r.opt).mono (by decide))
  have ba := b b0 ((State.accept_same (s.begin r.opt) r).mono (by decide))
  unfold receive
  refine Same.ite b0 ?_
  refine Same.ite (b b0 ((State.standbyDiscard_same _ _).mono (by decide))) ?_
  refine Same.ite (b b0 ((State.surplusMsg_same _ _ _).mono (by decide))) ?_
  refine Same.ite (b b0 ((State.badMsg_same _).mono (by decide))) ?_
  refine Same.ite (b (b b0 ((State.seen_same _ _ _).mono (by decide))) ((State.badMsg_same _).mono (by decide))) ?_
  refine Same.ite (b ba ((State.reply_same _ _ _ _ _ _).mono (by decide))) ?_
  conv => zeta
  split
  · exact b ba ((State.reply_same _ _ _ _ _ _).mono (by decide))
  · exact Same.ite (b ba ((State.reply_same _ _ _ _ _ _).mono (by decide))) (hk _ ba)

theorem State.bankGrant_same (s : State) (b : Nat) :
    Same 0x100000 s (State.bankGrant s b) := by
  unfold State.bankGrant
  refine Same.ite ?_ ?_
  · exact Same.refl _ _
  · conv => zeta
    split
    · exact Same.refl _ _
    · refine Same.ite ?_ ?_
      · refine Same.next ?_ (State.updBank_same _ _ _) (by decide)
        exact Same.refl _ _
      · exact Same.refl _ _

theorem State.useStation_same (s : State) (st : Nat) :
    Same 0x4000000 s (State.useStation s st) := by
  unfold State.useStation
  refine Same.ite ?_ ?_
  · exact Same.refl _ _
  · refine Same.ite ?_ ?_
    · refine Same.next ?_ (State.updNav_same _ _) (by decide)
      exact Same.refl _ _
    · refine Same.next ?_ (State.ambReset_same _) (by decide)
      refine Same.next ?_ (State.updNav_same _ _) (by decide)
      exact Same.refl _ _

theorem State.baseEpoch_same (s : State) (i : Nat) (st : Nat) (tag : Option Nat) :
    Same 0x4000000 s (State.baseEpoch s i st tag) := by
  unfold State.baseEpoch
  refine Same.ite ?_ ?_
  · refine Same.next ?_ (State.useStation_same _ _) (by decide)
    refine Same.next ?_ (State.updNav_same _ _) (by decide)
    exact Same.refl _ _
  · refine Same.next ?_ (State.updNav_same _ _) (by decide)
    exact Same.refl _ _

theorem State.updCan_same (s : State) (f : CanSt → CanSt) :
    Same 0x80000000 s (State.updCan s f) := by
  unfold State.updCan
  refine Same.next ?_ Same.set_can (by decide)
  exact Same.refl _ _

theorem State.updCc_same (s : State) (n : Nat) (f : CanCh → CanCh) :
    Same 0x80000000 s (State.updCc s n f) := by
  unfold State.updCc
  refine Same.next ?_ (State.updCan_same _ _) (by decide)
  exact Same.refl _ _

theorem State.canEntry_same (s : State) (n : Nat) (kind : Nat) (flags : Nat) (reason : Nat) (id : Nat) (tag : Nat) (data : List Byte) (o : Opt) :
    Same 0x80000000 s (State.canEntry s n kind flags reason id tag data o) := by
  unfold State.canEntry
  refine Same.next ?_ (State.updCc_same _ _ _) (by decide)
  exact Same.refl _ _

theorem State.busEntry_same (s : State) (n : Nat) (reason : Nat) :
    Same 0x80000000 s (State.busEntry s n reason) := by
  unfold State.busEntry
  refine Same.next ?_ (State.canEntry_same _ _ _ _ _ _ _ _ _) (by decide)
  exact Same.refl _ _

theorem State.canLoad_same (s : State) (n : Nat) :
    Same 0x80000000 s (State.canLoad s n) := by
  unfold State.canLoad
  refine Same.next ?_ (State.updCc_same _ _ _) (by decide)
  exact Same.refl _ _

theorem State.canStart_same (s : State) (n : Nat) :
    Same 0x80000000 s (State.canStart s n) := by
  unfold State.canStart
  refine Same.ite ?_ ?_
  · refine Same.next ?_ (State.updCc_same _ _ _) (by decide)
    refine Same.next ?_ (State.canLoad_same _ _) (by decide)
    exact Same.refl _ _
  · refine Same.next ?_ (State.canLoad_same _ _) (by decide)
    exact Same.refl _ _

theorem State.canMove_same (s : State) (a : Nat) (b : Nat) :
    Same 0x80000000 s (State.canMove s a b) := by
  unfold State.canMove
  refine Same.next ?_ (State.canStart_same _ _) (by decide)
  refine Same.next ?_ (State.updCc_same _ _ _) (by decide)
  refine Same.next ?_ (State.updCc_same _ _ _) (by decide)
  exact Same.refl _ _

theorem State.updPair_same (s : State) (p : Nat) (f : Pair → Pair) :
    Same 0x100000000 s (State.updPair s p f) := by
  unfold State.updPair
  refine Same.next ?_ (State.updEth_same _ _) (by decide)
  exact Same.refl _ _

theorem State.takeover_same (s : State) (p : Nat) (z : Bool) :
    Same 0x2180000000 s (State.takeover s p z) := by
  unfold State.takeover
  refine Same.ite ?_ ?_
  · refine Same.next ?_ (State.announce_same _ _) (by decide)
    refine Same.next ?_ (State.updPair_same _ _ _) (by decide)
    exact Same.refl _ _
  · refine Same.ite ?_ ?_
    · refine Same.next ?_ (State.canMove_same _ _ _) (by decide)
      refine Same.next ?_ (State.updPair_same _ _ _) (by decide)
      exact Same.refl _ _
    · refine Same.next ?_ (State.canStart_same _ _) (by decide)
      refine Same.next ?_ (State.updPair_same _ _ _) (by decide)
      exact Same.refl _ _

theorem State.leaveNone_same (s : State) (p : Nat) (b : Bool) :
    Same 0x2180000000 s (State.leaveNone s p b) := by
  unfold State.leaveNone
  conv => zeta
  split
  · refine Same.next ?_ (State.updPair_same _ _ _) (by decide)
    refine Same.next ?_ (State.updPair_same _ _ _) (by decide)
    refine Same.next ?_ (State.takeover_same _ _ _) (by decide)
    exact Same.refl _ _
  · refine Same.next ?_ (State.updPair_same _ _ _) (by decide)
    refine Same.next ?_ (State.takeover_same _ _ _) (by decide)
    exact Same.refl _ _

theorem State.pathClear_same (s : State) (p : Nat) (b : Bool) :
    Same 0x2180000000 s (State.pathClear s p b) := by
  unfold State.pathClear
  refine Same.ite ?_ ?_
  · refine Same.next ?_ (State.leaveNone_same _ _ _) (by decide)
    refine Same.next ?_ (State.updPair_same _ _ _) (by decide)
    exact Same.refl _ _
  · refine Same.ite ?_ ?_
    · refine Same.next ?_ (State.leaveNone_same _ _ _) (by decide)
      refine Same.next ?_ (State.updPair_same _ _ _) (by decide)
      exact Same.refl _ _
    · refine Same.next ?_ (State.updPair_same _ _ _) (by decide)
      exact Same.refl _ _

theorem State.colSheepdog_same (s : State) (absent : Bool) :
    Same 0x200000 s (State.colSheepdog s absent) := by
  unfold State.colSheepdog
  refine Same.next ?_ Same.set_col (by decide)
  exact Same.refl _ _

theorem State.pswAbsent_same (s : State) :
    Same 0x80000 s (State.pswAbsent s) := by
  unfold State.pswAbsent
  refine Same.next ?_ Same.set_psw (by decide)
  exact Same.refl _ _

theorem State.vlvAbsent_same (s : State) :
    Same 0x100000 s (State.vlvAbsent s) := by
  unfold State.vlvAbsent
  refine Same.next ?_ Same.set_vlv (by decide)
  exact Same.refl _ _

theorem State.navStart_same (s : State) :
    Same 0x4000000 s (State.navStart s) := by
  unfold State.navStart
  refine Same.next ?_ (State.updNav_same _ _) (by decide)
  exact Same.refl _ _

theorem State.navRelease_same (s : State) (n : Nat) :
    Same 0x4000000 s (State.navRelease s n) := by
  unfold State.navRelease
  refine Same.next ?_ (State.updNav_same _ _) (by decide)
  refine Same.next ?_ (State.updNch_same _ _ _) (by decide)
  exact Same.refl _ _

theorem State.navGroupApplied_same (s : State) :
    Same 0x4000000 s (State.navGroupApplied s) := by
  unfold State.navGroupApplied
  refine Same.fold _ ?_ ?_
  · exact Same.refl _ _
  · intro u a hu
    refine Same.ite ?_ ?_
    · refine Same.next ?_ (State.navRelease_same _ _) (by decide)
      assumption
    · assumption

theorem State.navBoundary_same (s : State) :
    Same 0x2004014000 s (State.navBoundary s) := by
  unfold State.navBoundary
  conv => zeta
  split
  · refine Same.next ?_ (State.updNav_same _ _) (by decide)
    refine Same.next ?_ (State.navGroupApplied_same _) (by decide)
    refine Same.next ?_ (State.applySnap_same _ _) (by decide)
    exact Same.refl _ _
  · exact Same.refl _ _

theorem State.updSettings_same (s : State) (f : Settings → Settings) :
    Same 0x800 s (State.updSettings s f) := by
  unfold State.updSettings
  refine Same.next ?_ Same.set_setSlots (by decide)
  exact Same.refl _ _

theorem State.txFail_same (s : State) (n : Nat) (f : TxFrame) (reason : Nat) :
    Same 0x80000000 s (State.txFail s n f reason) := by
  unfold State.txFail
  refine Same.ite ?_ ?_
  · refine Same.next ?_ (State.canEntry_same _ _ _ _ _ _ _ _ _) (by decide)
    exact Same.refl _ _
  · refine Same.next ?_ (State.updCc_same _ _ _) (by decide)
    refine Same.next ?_ (State.canEntry_same _ _ _ _ _ _ _ _ _) (by decide)
    exact Same.refl _ _

theorem State.canFlush_same (s : State) (n : Nat) (reason : Nat) :
    Same 0x80000000 s (State.canFlush s n reason) := by
  unfold State.canFlush
  refine Same.fold _ ?_ ?_
  · refine Same.next ?_ (State.updCc_same _ _ _) (by decide)
    exact Same.refl _ _
  · intro u a hu
    refine Same.next ?_ (State.txFail_same _ _ _ _) (by decide)
    assumption

theorem State.draw_same (s : State) :
    Same 0x1000000000 s (State.draw s).2 := by
  unfold State.draw
  refine Same.pair2 ?_
  refine Same.next ?_ Same.set_free (by decide)
  exact Same.refl _ _

theorem State.drawGap_same (s : State) (least : Nat) (most : Nat) :
    Same 0x1000000000 s (State.drawGap s least most).2 := by
  unfold State.drawGap
  refine Same.pair2 ?_
  refine Same.next ?_ (State.draw_same _) (by decide)
  exact Same.refl _ _

theorem State.faultSwitch_same (s : State) (p : Nat) (toB : Bool) (first : Opt) (us : Nat) :
    Same 0x3180030000 s (State.faultSwitch s p toB first us) := by
  unfold State.faultSwitch
  refine Same.ite ?_ ?_
  · refine Same.next ?_ (State.notice_same _ _ _ _ _) (by decide)
    refine Same.next ?_ (State.updPair_same _ _ _) (by decide)
    refine Same.next ?_ (State.notice_same _ _ _ _ _) (by decide)
    refine Same.next ?_ (State.updPair_same _ _ _) (by decide)
    refine Same.next ?_ (State.takeover_same _ _ _) (by decide)
    exact Same.refl _ _
  · refine Same.next ?_ (State.notice_same _ _ _ _ _) (by decide)
    refine Same.next ?_ (State.updPair_same _ _ _) (by decide)
    refine Same.next ?_ (State.takeover_same _ _ _) (by decide)
    exact Same.refl _ _

theorem State.pathCond_same (s : State) (p : Nat) (b : Bool) (k : PathCond) (first : Opt) :
    Same 0x3180030000 s (State.pathCond s p b k first) := by
  unfold State.pathCond
  refine Same.ite ?_ ?_
  · exact Same.refl _ _
  · refine Same.ite ?_ ?_
    · refine Same.next ?_ (State.updPair_same _ _ _) (by decide)
      exact Same.refl _ _
    · refine Same.ite ?_ ?_
      · refine Same.next ?_ (State.faultSwitch_same _ _ _ _ _) (by decide)
        refine Same.next ?_ (State.drawGap_same _ 0 0) (by decide)
        refine Same.next ?_ (State.updPair_same _ _ _) (by decide)
        exact Same.refl _ _
      · refine Same.ite ?_ ?_
        · refine Same.ite ?_ ?_
          · refine Same.next ?_ (State.leaveNone_same _ _ _) (by decide)
            refine Same.next ?_ (State.notice_same _ _ _ _ _) (by decide)
            refine Same.next ?_ (State.updPair_same _ _ _) (by decide)
            refine Same.next ?_ (State.updPair_same _ _ _) (by decide)
            exact Same.refl _ _
          · refine Same.next ?_ (State.notice_same _ _ _ _ _) (by decide)
            refine Same.next ?_ (State.updPair_same _ _ _) (by decide)
            refine Same.next ?_ (State.updPair_same _ _ _) (by decide)
            exact Same.refl _ _
        · refine Same.next ?_ (State.updPair_same _ _ _) (by decide)
          refine Same.next ?_ (State.updPair_same _ _ _) (by decide)
          exact Same.refl _ _

theorem State.unitFault_same (s : State) (block : Nat) (unit : Nat) (lastErr : Nat) :
    Same 0x3000030000 s (State.unitFault s block unit lastErr) := by
  unfold State.unitFault
  refine Same.next ?_ (State.notice_same _ _ _ _ _) (by decide)
  exact Same.refl _ _

theorem State.busy_same (s : State) (r : HostReq) (op : Nat) (status : Nat) :
    Same 0x2000010000 s (State.busy s r op status) := by
  unfold State.busy
  refine Same.next ?_ (State.reply_same _ _ _ _ _ _) (by decide)
  refine Same.next ?_ Same.set_hst (by decide)
  exact Same.refl _ _

theorem State.canWithdraw_same (s : State) (n : Nat) (p : TxFrame → Bool) (reason : Nat) :
    Same 0x80000000 s (State.canWithdraw s n p reason) := by
  unfold State.canWithdraw
  refine Same.next ?_ (State.canStart_same _ _) (by decide)
  refine Same.fold _ ?_ ?_
  · refine Same.next ?_ (State.updCc_same _ _ _) (by decide)
    exact Same.refl _ _
  · intro u a hu
    refine Same.next ?_ (State.txFail_same _ _ _ _) (by decide)
    assumption

theorem State.canEnqueue_same (s : State) (n : Nat) (f : CanFrame) (src : TxSource) (oneShot : Bool) (sa : Option Nat) :
    Same 0x80000000 s (State.canEnqueue s n f src oneShot sa) := by
  unfold State.canEnqueue
  refine Same.ite ?_ ?_
  · refine Same.next ?_ (State.updCc_same _ _ _) (by decide)
    refine Same.next ?_ (State.txFail_same _ _ _ _) (by decide)
    refine Same.next ?_ (State.updCan_same _ _) (by decide)
    exact Same.refl _ _
  · refine Same.next ?_ (State.canStart_same _ _) (by decide)
    refine Same.next ?_ (State.updCc_same _ _ _) (by decide)
    refine Same.next ?_ (State.updCan_same _ _) (by decide)
    exact Same.refl _ _

theorem State.colSetEnable_same (s : State) (n : Nat) (on : Bool) (o : Opt) :
    Same 0x30003b0030 s (State.colSetEnable s n on o) := by
  unfold State.colSetEnable
  refine Same.ite ?_ ?_
  · exact Same.refl _ _
  · refine Same.ite ?_ ?_
    · refine Same.next ?_ (State.updCol_same _ _ _) (by decide)
      exact Same.refl _ _
    · refine Same.next ?_ (State.updCol_same _ _ _) (by decide)
      refine Same.next ?_ (State.colStop_same _ _ _ _) (by decide)
      exact Same.refl _ _

theorem State.pswSetEnable_same (s : State) (n : Nat) (on : Bool) :
    Same 0x80010 s (State.pswSetEnable s n on) := by
  unfold State.pswSetEnable
  refine Same.ite ?_ ?_
  · exact Same.refl _ _
  · refine Same.ite ?_ ?_
    · refine Same.next ?_ (State.updPsw_same _ _ _) (by decide)
      exact Same.refl _ _
    · refine Same.next ?_ (State.updPsw_same _ _ _) (by decide)
      refine Same.next ?_ (State.withdraw_same _ _) (by decide)
      exact Same.refl _ _

theorem State.vlvClear_same (s : State) (n : Nat) :
    Same 0x100010 s (State.vlvClear s n) := by
  unfold State.vlvClear
  refine Same.ite ?_ ?_
  · exact Same.refl _ _
  · refine Same.ite ?_ ?_
    · refine Same.next ?_ (State.updVlv_same _ _ _) (by decide)
      exact Same.refl _ _
    · refine Same.ite ?_ ?_
      · refine Same.next ?_ (State.vlvEnterRun_same _ _) (by decide)
        exact Same.refl _ _
      · refine Same.next ?_ (State.vlvEnterSafe_same _ _ _) (by decide)
        refine Same.next ?_ (State.updVlv_same _ _ _) (by decide)
        exact Same.refl _ _

theorem State.vlvSetEnable_same (s : State) (n : Nat) (on : Bool) :
    Same 0x100010 s (State.vlvSetEnable s n on) := by
  unfold State.vlvSetEnable
  refine Same.ite ?_ ?_
  · exact Same.refl _ _
  · refine Same.ite ?_ ?_
    · refine Same.ite ?_ ?_
      · refine Same.ite ?_ ?_
        · refine Same.next ?_ (State.updVlv_same _ _ _) (by decide)
          exact Same.refl _ _
        · refine Same.next ?_ (State.vlvClear_same _ _) (by decide)
          refine Same.next ?_ (State.updVlv_same _ _ _) (by decide)
          exact Same.refl _ _
      · refine Same.ite ?_ ?_
        · refine Same.next ?_ (State.updVlv_same _ _ _) (by decide)
          exact Same.refl _ _
        · refine Same.next ?_ (State.vlvEnterRun_same _ _) (by decide)
          refine Same.next ?_ (State.updVlv_same _ _ _) (by decide)
          exact Same.refl _ _
    · refine Same.next ?_ (State.bankRefresh_same _ _) (by decide)
      refine Same.next ?_ (State.updVlv_same _ _ _) (by decide)
      refine Same.ite ?_ ?_
      · exact Same.refl _ _
      · refine Same.next ?_ (State.vlvAbort_same _ _) (by decide)
        exact Same.refl _ _

theorem State.colEvalAll_same (s : State) (o : Opt) :
    Same 0x30003b0030 s (State.colEvalAll s o) := by
  unfold State.colEvalAll
  refine Same.fold _ ?_ ?_
  · exact Same.refl _ _
  · intro u a hu
    refine Same.next ?_ (State.colEval_same _ _ _) (by decide)
    assumption

theorem State.colTimers_same (s : State) (n : Nat) :
    Same 0x200000 s (State.colTimers s n) := by
  unfold State.colTimers
  refine Same.ite ?_ ?_
  · exact Same.refl _ _
  · refine Same.next ?_ (State.updCol_same _ _ _) (by decide)
    exact Same.refl _ _

theorem State.vlvTolerance_same (s : State) (n : Nat) :
    Same 0x100000 s (State.vlvTolerance s n) := by
  unfold State.vlvTolerance
  refine Same.next ?_ (State.updVlv_same _ _ _) (by decide)
  exact Same.refl _ _

theorem State.wakeTick_same (s : State) :
    Same 0x30003b0030 s (State.wakeTick s) := by
  unfold State.wakeTick
  refine Same.ite ?_ ?_
  · refine Same.next ?_ Same.set_wake (by decide)
    refine Same.next ?_ (State.withdraw_same _ _) (by decide)
    exact Same.refl _ _
  · refine Same.ite ?_ ?_
    · refine Same.next ?_ (State.raise_same _ _ _) (by decide)
      refine Same.next ?_ Same.set_wake (by decide)
      exact Same.refl _ _
    · refine Same.next ?_ Same.set_wake (by decide)
      exact Same.refl _ _

theorem State.choosePosAnt_same (s : State) (x : SolIn) (whip : Bool) :
    Same 0x4000000 s (State.choosePosAnt s x whip) := by
  unfold State.choosePosAnt
  refine Same.ite ?_ ?_
  · exact Same.refl _ _
  · refine Same.next ?_ (State.updNav_same _ _) (by decide)
    exact Same.refl _ _

theorem State.chooseSource_same (s : State) :
    Same 0x4000000 s (State.chooseSource s) := by
  unfold State.chooseSource
  refine Same.ite ?_ ?_
  · exact Same.refl _ _
  · refine Same.ite ?_ ?_
    · refine Same.next ?_ (State.updNav_same _ _) (by decide)
      exact Same.refl _ _
    · refine Same.next ?_ (State.ambReset_same _) (by decide)
      refine Same.next ?_ (State.updNav_same _ _) (by decide)
      exact Same.refl _ _

theorem State.colAtTick_same (s : State) :
    Same 0x30003b0030 s (State.colAtTick s) := by
  unfold State.colAtTick
  refine Same.ite ?_ ?_
  · refine Same.next ?_ (State.colEvalAll_same _ _) (by decide)
    exact Same.refl _ _
  · exact Same.refl _ _

theorem State.colClear_same (s : State) (n : Nat) :
    Same 0x30003b0030 s (State.colClear s n) := by
  unfold State.colClear
  refine Same.ite ?_ ?_
  · refine Same.next ?_ (State.updCol_same _ _ _) (by decide)
    refine Same.next ?_ (State.colStop_same _ _ _ _) (by decide)
    exact Same.refl _ _
  · exact Same.refl _ _

theorem State.colCntClear_same (s : State) (m : Word) :
    Same 0x200000 s (State.colCntClear s m) := by
  unfold State.colCntClear
  refine Same.next ?_ Same.set_col (by decide)
  exact Same.refl _ _

theorem State.colThaw_same (s : State) (n : Nat) (o : Opt) :
    Same 0x30003b0030 s (State.colThaw s n o) := by
  unfold State.colThaw
  conv => zeta
  split
  · exact Same.refl _ _
  · refine Same.next ?_ (State.updCol_same _ _ _) (by decide)
    exact Same.refl _ _
  · refine Same.next ?_ (State.updCol_same _ _ _) (by decide)
    refine Same.next ?_ (State.colStop_same _ _ _ _) (by decide)
    exact Same.refl _ _

theorem State.colCommand_same (s : State) (n : Nat) (o : Opt) :
    Same 0x30003b0030 s (State.colCommand s n o) := by
  unfold State.colCommand
  refine Same.ite ?_ ?_
  · exact Same.refl _ _
  · refine Same.ite ?_ ?_
    · refine Same.ite ?_ ?_
      · refine Same.next ?_ (State.colLeaveSafe_same _ _ _) (by decide)
        refine Same.next ?_ (State.colThaw_same _ _ _) (by decide)
        exact Same.refl _ _
      · refine Same.next ?_ (State.colEval_same _ _ _) (by decide)
        refine Same.next ?_ (State.colThaw_same _ _ _) (by decide)
        exact Same.refl _ _
    · refine Same.ite ?_ ?_
      · refine Same.next ?_ (State.colThaw_same _ _ _) (by decide)
        exact Same.refl _ _
      · refine Same.next ?_ (State.colEnterSafe_same _ _ _) (by decide)
        refine Same.next ?_ (State.colThaw_same _ _ _) (by decide)
        exact Same.refl _ _

theorem State.colFail_same (s : State) (n : Nat) (p : ColPhase) (code : Byte) (o : Opt) :
    Same 0x30003b0030 s (State.colFail s n p code o) := by
  unfold State.colFail
  refine Same.next ?_ (State.colAtTick_same _) (by decide)
  refine Same.next ?_ (State.unitFault_same _ _ _ _) (by decide)
  refine Same.next ?_ (State.updCol_same _ _ _) (by decide)
  refine Same.ite ?_ ?_
  · refine Same.next ?_ (State.colFeed_same _ _ _ _) (by decide)
    refine Same.next ?_ (State.updCol_same _ _ _) (by decide)
    exact Same.refl _ _
  · refine Same.next ?_ (State.updCol_same _ _ _) (by decide)
    exact Same.refl _ _

theorem State.coldRestart_same (s : State) :
    Same 0x4000000 s (State.coldRestart s) := by
  unfold State.coldRestart
  refine Same.fold _ ?_ ?_
  · refine Same.next ?_ (State.updNav_same _ _) (by decide)
    exact Same.refl _ _
  · intro u a hu
    refine Same.ite ?_ ?_
    · refine Same.next ?_ (State.navRelease_same _ _) (by decide)
      assumption
    · assumption

theorem State.relEval_same (s : State) :
    Same 0x40 s (State.relEval s) := by
  unfold State.relEval
  refine Same.next ?_ Same.set_boot (by decide)
  exact Same.refl _ _

theorem State.timeMark_same (s : State) (civil : Bool) :
    Same 0x20000000 s (State.timeMark s civil) := by
  unfold State.timeMark
  refine Same.next ?_ Same.set_yld (by decide)
  exact Same.refl _ _

theorem State.newEpoch_same (s : State) :
    Same 0x3028030000 s (State.newEpoch s) := by
  unfold State.newEpoch
  refine Same.next ?_ (State.notice_same _ _ _ _ _) (by decide)
  refine Same.next ?_ (State.timeMark_same _ _) (by decide)
  refine Same.next ?_ Same.set_rcd_tim (by decide)
  refine Same.next ?_ (State.recTurn_same _) (by decide)
  exact Same.refl _ _

theorem State.vlvFreeze_same (s : State) (n : Nat) (hold : Bool) :
    Same 0x100010 s (State.vlvFreeze s n hold) := by
  unfold State.vlvFreeze
  refine Same.next ?_ (State.bankRefresh_same _ _) (by decide)
  refine Same.next ?_ Same.set_vlv (by decide)
  refine Same.ite ?_ ?_
  · refine Same.next ?_ (State.updVlv_same _ _ _) (by decide)
    exact Same.refl _ _
  · refine Same.next ?_ (State.vlvAbort_same _ _) (by decide)
    exact Same.refl _ _

theorem State.rtcmBytes_same (s : State) (i : Nat) (data : List Byte) :
    Same 0x4000000 s (State.rtcmBytes s i data) := by
  unfold State.rtcmBytes
  refine Same.next ?_ (State.updNav_same _ _) (by decide)
  exact Same.refl _ _

theorem State.updSm_same (s : State) (m : Nat) (f : SmSt → SmSt) :
    Same 0x8000 s (State.updSm s m f) := by
  unfold State.updSm
  refine Same.next ?_ Same.set_sm (by decide)
  exact Same.refl _ _

theorem State.smPush_same (s : State) (m : Nat) (e : SmEvent) :
    Same 0x8000 s (State.smPush s m e) := by
  unfold State.smPush
  refine Same.ite ?_ ?_
  · refine Same.next ?_ (State.updSm_same _ _ _) (by decide)
    exact Same.refl _ _
  · exact Same.refl _ _

theorem State.smPushAll_same (s : State) (e : SmEvent) :
    Same 0x8000 s (State.smPushAll s e) := by
  unfold State.smPushAll
  refine Same.fold _ ?_ ?_
  · exact Same.refl _ _
  · intro u a hu
    refine Same.next ?_ (State.smPush_same _ _ _) (by decide)
    assumption

theorem State.dropSess_same (s : State) (i : Nat) :
    Same 0x2000010000 s (State.dropSess s i) := by
  unfold State.dropSess
  refine Same.next ?_ (State.send_same _ _) (by decide)
  refine Same.next ?_ Same.set_hst (by decide)
  exact Same.refl _ _

theorem State.endArming_same (s : State) (i : Nat) :
    Same 0x10000 s (State.endArming s i) := by
  unfold State.endArming
  refine Same.next ?_ (State.updSess_same _ _ _) (by decide)
  exact Same.refl _ _

theorem State.endBurst_same (s : State) :
    Same 0x4000000 s (State.endBurst s) := by
  unfold State.endBurst
  refine Same.next ?_ (State.updNav_same _ _) (by decide)
  exact Same.refl _ _

theorem State.endFreeze_same (s : State) (i : Nat) :
    Same 0x20000 s (State.endFreeze s i) := by
  unfold State.endFreeze
  refine Same.ite ?_ ?_
  · refine Same.ite ?_ ?_
    · refine Same.next ?_ (State.closeSet_same _ _ _) (by decide)
      refine Same.next ?_ (State.updRec_same _ _) (by decide)
      refine Same.next ?_ (State.updRec_same _ _) (by decide)
      exact Same.refl _ _
    · refine Same.next ?_ (State.updRec_same _ _) (by decide)
      refine Same.next ?_ (State.updRec_same _ _) (by decide)
      exact Same.refl _ _
  · refine Same.next ?_ (State.updRec_same _ _) (by decide)
    exact Same.refl _ _

theorem State.endSession_same (s : State) (i : Nat) :
    Same 0x2000030000 s (State.endSession s i) := by
  unfold State.endSession
  refine Same.next ?_ (State.endFreeze_same _ _) (by decide)
  refine Same.next ?_ (State.dropSess_same _ _) (by decide)
  exact Same.refl _ _

theorem State.enterWhippet_same (s : State) (w : WhipState) :
    Same 0x4000000 s (State.enterWhippet s w) := by
  unfold State.enterWhippet
  refine Same.next ?_ (State.updNav_same _ _) (by decide)
  refine Same.fold _ ?_ ?_
  · exact Same.refl _ _
  · intro u a hu
    refine Same.ite ?_ ?_
    · refine Same.next ?_ (State.navRelease_same _ _) (by decide)
      assumption
    · assumption

theorem State.plannedSwap_same (s : State) (p : Nat) :
    Same 0x3180000000 s (State.plannedSwap s p) := by
  unfold State.plannedSwap
  refine Same.next ?_ (State.updPair_same _ _ _) (by decide)
  refine Same.next ?_ (State.takeover_same _ _ _) (by decide)
  refine Same.next ?_ (State.drawGap_same _ 0 0) (by decide)
  exact Same.refl _ _

theorem State.pswFault_same (s : State) (n : Nat) :
    Same 0x30000b0010 s (State.pswFault s n) := by
  unfold State.pswFault
  refine Same.ite ?_ ?_
  · refine Same.next ?_ (State.updPsw_same _ _ _) (by decide)
    refine Same.next ?_ (State.withdraw_same _ _) (by decide)
    exact Same.refl _ _
  · refine Same.next ?_ (State.unitFault_same _ _ _ _) (by decide)
    refine Same.next ?_ (State.updPsw_same _ _ _) (by decide)
    refine Same.next ?_ (State.withdraw_same _ _) (by decide)
    exact Same.refl _ _

theorem State.vlvFault_same (s : State) (n : Nat) (code : Byte) :
    Same 0x3000130010 s (State.vlvFault s n code) := by
  unfold State.vlvFault
  refine Same.ite ?_ ?_
  · exact Same.refl _ _
  · refine Same.next ?_ (State.unitFault_same _ _ _ _) (by decide)
    refine Same.next ?_ (State.bankRefresh_same _ _) (by decide)
    refine Same.next ?_ (State.updVlv_same _ _ _) (by decide)
    refine Same.next ?_ (State.vlvAbort_same _ _) (by decide)
    exact Same.refl _ _

theorem State.fifoWrite_same (s : State) (r : Nat) :
    Same 0x1000000004 s (State.fifoWrite s r) := by
  unfold State.fifoWrite
  refine Same.ite ?_ ?_
  · refine Same.next ?_ Same.set_regions (by decide)
    refine Same.next ?_ Same.set_free (by decide)
    exact Same.refl _ _
  · refine Same.next ?_ Same.set_free (by decide)
    exact Same.refl _ _

theorem State.geometryFree_same (s : State) (x : SolIn) :
    Same 0x4000000 s (State.geometryFree s x) := by
  unfold State.geometryFree
  refine Same.next ?_ (State.updNav_same _ _) (by decide)
  refine Same.fold _ ?_ ?_
  · exact Same.refl _ _
  · intro u a hu
    refine Same.next ?_ (State.updNch_same _ _ _) (by decide)
    assumption

theorem State.gnssRun_same (s : State) (o : Opt) (mode : Nat) :
    Same 0x8000000 s (State.gnssRun s o mode) := by
  unfold State.gnssRun
  refine Same.next ?_ Same.set_tim (by decide)
  exact Same.refl _ _

theorem State.grantStart_same (s : State) (r : StartReq) :
    Same 0x30003b0030 s (State.grantStart s r) := by
  unfold State.grantStart
  refine Same.next ?_ (State.admitSrc_same _ _) (by decide)
  refine Same.next ?_ Same.set_bud (by decide)
  exact Same.refl _ _

theorem State.hotAll_same (s : State) :
    Same 0x4000000 s (State.hotAll s) := by
  unfold State.hotAll
  refine Same.fold _ ?_ ?_
  · exact Same.refl _ _
  · intro u a hu
    refine Same.ite ?_ ?_
    · refine Same.next ?_ (State.queueSearch_same _ _ _) (by decide)
      assumption
    · assumption

theorem State.leaveWhippet_same (s : State) (hot : Bool) :
    Same 0x4000000 s (State.leaveWhippet s hot) := by
  unfold State.leaveWhippet
  refine Same.ite ?_ ?_
  · exact Same.refl _ _
  · refine Same.ite ?_ ?_
    · refine Same.next ?_ (State.hotAll_same _) (by decide)
      refine Same.next ?_ (State.updNav_same _ _) (by decide)
      exact Same.refl _ _
    · refine Same.next ?_ (State.updNav_same _ _) (by decide)
      exact Same.refl _ _

theorem State.memberReady_same (s : State) (p : Nat) (b : Bool) :
    Same 0x100000000 s (State.memberReady s p b) := by
  unfold State.memberReady
  refine Same.next ?_ (State.updPair_same _ _ _) (by decide)
  exact Same.refl _ _

theorem State.navCntClear_same (s : State) (i : Nat) (m : Word) :
    Same 0x4000000 s (State.navCntClear s i m) := by
  unfold State.navCntClear
  refine Same.next ?_ (State.updNav_same _ _) (by decide)
  exact Same.refl _ _

theorem State.navCtrl_same (s : State) (req : Nat) :
    Same 0x4000000 s (State.navCtrl s req) := by
  unfold State.navCtrl
  conv => zeta
  split
  · refine Same.ite ?_ ?_
    · refine Same.next ?_ (State.enterWhippet_same _ _) (by decide)
      exact Same.refl _ _
    · exact Same.refl _ _
  · refine Same.ite ?_ ?_
    · refine Same.next ?_ (State.leaveWhippet_same _ _) (by decide)
      exact Same.refl _ _
    · exact Same.refl _ _
  · refine Same.next ?_ (State.coldRestart_same _) (by decide)
    exact Same.refl _ _
  · exact Same.refl _ _

theorem State.pswClear_same (s : State) (n : Nat) :
    Same 0x80000 s (State.pswClear s n) := by
  unfold State.pswClear
  refine Same.next ?_ (State.updPsw_same _ _ _) (by decide)
  exact Same.refl _ _

theorem State.pswRelease_same (s : State) (n : Nat) (o : Opt) :
    Same 0x30003b0030 s (State.pswRelease s n o) := by
  unfold State.pswRelease
  refine Same.ite ?_ ?_
  · refine Same.next ?_ (State.updPsw_same _ _ _) (by decide)
    exact Same.refl _ _
  · refine Same.ite ?_ ?_
    · refine Same.next ?_ (State.updPsw_same _ _ _) (by decide)
      refine Same.next ?_ (State.updPsw_same _ _ _) (by decide)
      exact Same.refl _ _
    · conv => zeta
      split
      · refine Same.next ?_ (State.updPsw_same _ _ _) (by decide)
        refine Same.next ?_ (State.updPsw_same _ _ _) (by decide)
        exact Same.refl _ _
      · refine Same.next ?_ (State.pswApply_same _ _ _) (by decide)
        refine Same.next ?_ (State.updPsw_same _ _ _) (by decide)
        refine Same.next ?_ (State.updPsw_same _ _ _) (by decide)
        exact Same.refl _ _

theorem State.pswClearLatch_same (s : State) (n : Nat) :
    Same 0x30003b0030 s (State.pswClearLatch s n) := by
  unfold State.pswClearLatch
  refine Same.ite ?_ ?_
  · exact Same.refl _ _
  · refine Same.ite ?_ ?_
    · refine Same.next ?_ (State.pswRelease_same _ _ _) (by decide)
      exact Same.refl _ _
    · refine Same.next ?_ (State.updPsw_same _ _ _) (by decide)
      exact Same.refl _ _

theorem State.pswCntClear_same (s : State) (base : Nat) (m : Word) :
    Same 0x80000 s (State.pswCntClear s base m) := by
  unfold State.pswCntClear
  refine Same.next ?_ Same.set_psw (by decide)
  exact Same.refl _ _

theorem State.pswCommand_same (s : State) (n : Nat) (o : Opt) :
    Same 0x30003b0030 s (State.pswCommand s n o) := by
  unfold State.pswCommand
  refine Same.ite ?_ ?_
  · exact Same.refl _ _
  · refine Same.next ?_ (State.pswDuty_same _ _) (by decide)
    refine Same.next ?_ (State.pswApply_same _ _ _) (by decide)
    refine Same.ite ?_ ?_
    · refine Same.ite ?_ ?_
      · refine Same.next ?_ (State.updPsw_same _ _ _) (by decide)
        refine Same.next ?_ (State.updPsw_same _ _ _) (by decide)
        exact Same.refl _ _
      · refine Same.next ?_ (State.updPsw_same _ _ _) (by decide)
        exact Same.refl _ _
    · refine Same.ite ?_ ?_
      · refine Same.next ?_ (State.updPsw_same _ _ _) (by decide)
        exact Same.refl _ _
      · refine Same.next ?_ (State.pswEnterSafe_same _ _) (by decide)
        refine Same.next ?_ (State.updPsw_same _ _ _) (by decide)
        exact Same.refl _ _

theorem State.pswLatch_same (s : State) (n : Nat) (code : Byte) (o : Opt) :
    Same 0x80010 s (State.pswLatch s n code o) := by
  unfold State.pswLatch
  refine Same.ite ?_ ?_
  · exact Same.refl _ _
  · refine Same.ite ?_ ?_
    · refine Same.next ?_ (State.updPsw_same _ _ _) (by decide)
      exact Same.refl _ _
    · refine Same.next ?_ (State.updPsw_same _ _ _) (by decide)
      refine Same.next ?_ (State.withdraw_same _ _) (by decide)
      refine Same.next ?_ (State.updPsw_same _ _ _) (by decide)
      exact Same.refl _ _

theorem State.pswRestart_same (s : State) (n : Nat) :
    Same 0x30003b0030 s (State.pswRestart s n) := by
  unfold State.pswRestart
  refine Same.ite ?_ ?_
  · refine Same.next ?_ (State.pswRequest_same _ _ _) (by decide)
    exact Same.refl _ _
  · exact Same.refl _ _

theorem State.pswTrip_same (s : State) (n : Nat) (code : Byte) (o : Opt) :
    Same 0x30000b0010 s (State.pswTrip s n code o) := by
  unfold State.pswTrip
  refine Same.ite ?_ ?_
  · refine Same.next ?_ (State.updPsw_same _ _ _) (by decide)
    refine Same.next ?_ (State.updPsw_same _ _ _) (by decide)
    exact Same.refl _ _
  · refine Same.ite ?_ ?_
    · refine Same.next ?_ (State.pswFault_same _ _) (by decide)
      refine Same.next ?_ (State.updPsw_same _ _ _) (by decide)
      refine Same.next ?_ (State.updPsw_same _ _ _) (by decide)
      exact Same.refl _ _
    · refine Same.next ?_ (State.updPsw_same _ _ _) (by decide)
      refine Same.next ?_ (State.updPsw_same _ _ _) (by decide)
      refine Same.next ?_ (State.updPsw_same _ _ _) (by decide)
      exact Same.refl _ _

theorem State.recPointer_same (s : State) (v : Word) :
    Same 0x20000 s (State.recPointer s v) := by
  unfold State.recPointer
  conv => zeta
  split
  · refine Same.next ?_ (State.updRec_same _ _) (by decide)
    exact Same.refl _ _
  · refine Same.next ?_ (State.updRec_same _ _) (by decide)
    exact Same.refl _ _

theorem State.recSample_same (s : State) (kind : Nat) :
    Same 0x800020000 s (State.recSample s kind) := by
  unfold State.recSample
  refine Same.ite ?_ ?_
  · refine Same.next ?_ (State.recTurn_same _) (by decide)
    exact Same.refl _ _
  · conv => zeta
    split
    · refine Same.next ?_ (State.recTurn_same _) (by decide)
      exact Same.refl _ _
    · refine Same.fold _ ?_ ?_
      · refine Same.next ?_ (State.recTurn_same _) (by decide)
        exact Same.refl _ _
      · intro u a hu
        refine Same.ite ?_ ?_
        · refine Same.ite ?_ ?_
          · refine Same.next ?_ (State.updRec_same _ _) (by decide)
            refine Same.ite ?_ ?_
            · refine Same.next ?_ Same.set_fmt (by decide)
              assumption
            · assumption
          · refine Same.ite ?_ ?_
            · refine Same.next ?_ (State.updRec_same _ _) (by decide)
              refine Same.ite ?_ ?_
              · refine Same.next ?_ Same.set_fmt (by decide)
                assumption
              · assumption
            · refine Same.ite ?_ ?_
              · refine Same.next ?_ Same.set_fmt (by decide)
                assumption
              · assumption
        · assumption

theorem State.vlvCmdClear_same (s : State) (n : Nat) :
    Same 0x100010 s (State.vlvCmdClear s n) := by
  unfold State.vlvCmdClear
  refine Same.ite ?_ ?_
  · exact Same.refl _ _
  · refine Same.next ?_ (State.vlvClear_same _ _) (by decide)
    exact Same.refl _ _

theorem State.vlvCmdClearBank_same (s : State) (b : Nat) :
    Same 0x100010 s (State.vlvCmdClearBank s b) := by
  unfold State.vlvCmdClearBank
  refine Same.next ?_ (State.bankRefresh_same _ _) (by decide)
  refine Same.fold _ ?_ ?_
  · refine Same.next ?_ (State.updBank_same _ _ _) (by decide)
    exact Same.refl _ _
  · intro u a hu
    refine Same.next ?_ (State.vlvClear_same _ _) (by decide)
    assumption

theorem State.vlvNewCommand_same (s : State) (n : Nat) :
    Same 0x100000 s (State.vlvNewCommand s n) := by
  unfold State.vlvNewCommand
  refine Same.next ?_ (State.updVlv_same _ _ _) (by decide)
  exact Same.refl _ _

theorem State.vlvCmdRestart_same (s : State) (n : Nat) :
    Same 0x100000 s (State.vlvCmdRestart s n) := by
  unfold State.vlvCmdRestart
  refine Same.ite ?_ ?_
  · exact Same.refl _ _
  · refine Same.ite ?_ ?_
    · refine Same.ite ?_ ?_
      · exact Same.refl _ _
      · refine Same.next ?_ (State.vlvActivate_same _ _) (by decide)
        refine Same.next ?_ (State.updVlv_same _ _ _) (by decide)
        exact Same.refl _ _
    · refine Same.ite ?_ ?_
      · refine Same.next ?_ (State.vlvNewCommand_same _ _) (by decide)
        exact Same.refl _ _
      · exact Same.refl _ _

theorem State.vlvCntClear_same (s : State) (base : Nat) (m : Word) :
    Same 0x100000 s (State.vlvCntClear s base m) := by
  unfold State.vlvCntClear
  refine Same.next ?_ Same.set_vlv (by decide)
  exact Same.refl _ _

theorem State.searchEnd_same (s : State) (o : Opt) (q : Search) (best : Option SearchCell) :
    Same 0x4000000 s (State.searchEnd s o q best) := by
  unfold State.searchEnd
  conv => zeta
  split
  · refine Same.next ?_ (State.updNch_same _ _ _) (by decide)
    exact Same.refl _ _
  · refine Same.next ?_ (State.updNav_same _ _) (by decide)
    refine Same.next ?_ (State.navRelease_same _ _) (by decide)
    exact Same.refl _ _
  · refine Same.ite ?_ ?_
    · refine Same.next ?_ (State.updNch_same _ _ _) (by decide)
      exact Same.refl _ _
    · exact Same.refl _ _
  · exact Same.refl _ _

theorem State.slotBoundary_same (s : State) :
    Same 0x2000114010 s (State.slotBoundary s) := by
  unfold State.slotBoundary
  refine Same.next ?_ (State.applyGroup_same _ _) (by decide)
  refine Same.fold _ ?_ ?_
  · refine Same.next ?_ Same.set_bud_vlv (by decide)
    exact Same.refl _ _
  · intro u a hu
    refine Same.next ?_ (State.bankRefresh_same _ _) (by decide)
    assumption

theorem State.start_same (s : State) :
    Same 0x2000000000 s (State.start s) := by
  unfold State.start
  refine Same.next ?_ Same.set_out (by decide)
  exact Same.refl _ _

theorem State.useRef_same (s : State) (i : Nat) (p : Int × Int × Int) :
    Same 0x4000000 s (State.useRef s i p) := by
  unfold State.useRef
  refine Same.ite ?_ ?_
  · conv => zeta
    split
    · refine Same.ite ?_ ?_
      · refine Same.next ?_ (State.ambReset_same _) (by decide)
        refine Same.next ?_ (State.updNav_same _ _) (by decide)
        refine Same.next ?_ (State.updNav_same _ _) (by decide)
        exact Same.refl _ _
      · refine Same.next ?_ (State.updNav_same _ _) (by decide)
        refine Same.next ?_ (State.updNav_same _ _) (by decide)
        exact Same.refl _ _
    · refine Same.next ?_ (State.updNav_same _ _) (by decide)
      refine Same.next ?_ (State.updNav_same _ _) (by decide)
      exact Same.refl _ _
  · refine Same.next ?_ (State.updNav_same _ _) (by decide)
    exact Same.refl _ _

theorem State.takeFrame_same (s : State) (i : Nat) (b : List Byte) :
    Same 0x4000000 s (State.takeFrame s i b) := by
  unfold State.takeFrame
  conv => zeta
  split
  · refine Same.ite ?_ ?_
    · exact Same.refl _ _
    · refine Same.ite ?_ ?_
      · refine Same.next ?_ (State.baseEpoch_same _ _ _ _) (by decide)
        refine Same.next ?_ (State.updNav_same _ _) (by decide)
        exact Same.refl _ _
      · refine Same.next ?_ (State.updNav_same _ _) (by decide)
        exact Same.refl _ _
  · refine Same.ite ?_ ?_
    · refine Same.ite ?_ ?_
      · exact Same.refl _ _
      · refine Same.next ?_ (State.useRef_same _ _ _) (by decide)
        exact Same.refl _ _
    · refine Same.ite ?_ ?_
      · exact Same.refl _ _
      · conv => zeta
        split
        · refine Same.next ?_ (State.updNav_same _ _) (by decide)
          exact Same.refl _ _
        · refine Same.next ?_ (State.updNav_same _ _) (by decide)
          exact Same.refl _ _

theorem State.takeFreezes_same (s : State) :
    Same 0x2000030000 s (State.takeFreezes s) := by
  unfold State.takeFreezes
  refine Same.fold _ ?_ ?_
  · refine Same.next ?_ (State.updRec_same _ _) (by decide)
    exact Same.refl _ _
  · intro u a hu
    refine Same.next ?_ (State.complete_same _ _ _ _) (by decide)
    refine Same.next ?_ (State.updRec_same _ _) (by decide)
    assumption

theorem State.takePose_same (s : State) :
    Same 0x8000000 s (State.takePose s) := by
  unfold State.takePose
  refine Same.next ?_ Same.set_tim (by decide)
  exact Same.refl _ _

theorem State.updDie_same (s : State) (d : Nat) (f : DieSt → DieSt) :
    Same 0x40000 s (State.updDie s d f) := by
  unfold State.updDie
  refine Same.next ?_ Same.set_die (by decide)
  exact Same.refl _ _

theorem State.useGrant_same (s : State) (i : Nat) (bit : Nat) :
    Same 0x10000 s (State.useGrant s i bit) := by
  unfold State.useGrant
  refine Same.next ?_ (State.updSess_same _ _ _) (by decide)
  exact Same.refl _ _

theorem State.vlvCut_same (s : State) (n : Nat) :
    Same 0x100000 s (State.vlvCut s n) := by
  unfold State.vlvCut
  refine Same.ite ?_ ?_
  · refine Same.next ?_ (State.bankRefresh_same _ _) (by decide)
    refine Same.next ?_ (State.updVlv_same _ _ _) (by decide)
    exact Same.refl _ _
  · exact Same.refl _ _

theorem State.vlvUnstall_same (s : State) (n : Nat) :
    Same 0x100010 s (State.vlvUnstall s n) := by
  unfold State.vlvUnstall
  refine Same.ite ?_ ?_
  · refine Same.next ?_ (State.updVlv_same _ _ _) (by decide)
    refine Same.next ?_ (State.giveBank_same _ _) (by decide)
    refine Same.next ?_ (State.withdraw_same _ _) (by decide)
    exact Same.refl _ _
  · exact Same.refl _ _

theorem State.vlvAdvance_same (s : State) (n cur : Nat) : Same 0x30003b0030 s (s.vlvAdvance n cur) := by
  unfold State.vlvAdvance
  have h := ((Same.refl 0x30003b0030 s).next (State.vlvCut_same s n) (by decide)).next (State.vlvTolerance_same (s.vlvCut n) n) (by decide)
  refine Same.ite h ?_
  refine Same.ite h ?_
  refine Same.ite (Same.ite (h.next (State.vlvLegacy_same _ _) (by decide)) h) ?_
  refine Same.ite h ?_
  conv => zeta
  split
  split
  split
  · exact (h.next (State.updVlv_same _ _ _) (by decide)).next (State.vlvFault_same _ _ _) (by decide)
  · exact Same.ite (h.next (State.updVlv_same _ _ _) (by decide))
      ((h.next (State.updVlv_same _ _ _) (by decide)).next (State.raise_same _ _ _) (by decide))
  · exact (h.next (State.updVlv_same _ _ _) (by decide)).next (State.vlvUnstall_same _ _) (by decide)

theorem State.vlvOff_same (s : State) (n : Nat) :
    Same 0x100010 s (State.vlvOff s n) := by
  unfold State.vlvOff
  refine Same.ite ?_ ?_
  · refine Same.next ?_ (State.updVlv_same _ _ _) (by decide)
    exact Same.refl _ _
  · refine Same.next ?_ (State.bankRefresh_same _ _) (by decide)
    conv => zeta
    split
    · refine Same.next ?_ (State.updVlv_same _ _ _) (by decide)
      refine Same.next ?_ (State.updVlv_same _ _ _) (by decide)
      refine Same.next ?_ (State.giveBank_same _ _) (by decide)
      refine Same.next ?_ (State.withdraw_same _ _) (by decide)
      exact Same.refl _ _
    · refine Same.next ?_ (State.updVlv_same _ _ _) (by decide)
      refine Same.next ?_ (State.updVlv_same _ _ _) (by decide)
      refine Same.next ?_ (State.giveBank_same _ _) (by decide)
      refine Same.next ?_ (State.withdraw_same _ _) (by decide)
      exact Same.refl _ _

theorem State.vlvChange_same (s : State) (n : Nat) (prev : Nat) :
    Same 0x100010 s (State.vlvChange s n prev) := by
  unfold State.vlvChange
  refine Same.ite ?_ ?_
  · exact Same.refl _ _
  · refine Same.ite ?_ ?_
    · refine Same.next ?_ (State.vlvLegacy_same _ _) (by decide)
      exact Same.refl _ _
    · refine Same.ite ?_ ?_
      · refine Same.ite ?_ ?_
        · refine Same.next ?_ (State.updVlv_same _ _ _) (by decide)
          exact Same.refl _ _
        · exact Same.refl _ _
      · refine Same.ite ?_ ?_
        · refine Same.ite ?_ ?_
          · refine Same.next ?_ (State.vlvNewCommand_same _ _) (by decide)
            refine Same.next ?_ (State.updVlv_same _ _ _) (by decide)
            exact Same.refl _ _
          · refine Same.next ?_ (State.vlvActivate_same _ _) (by decide)
            exact Same.refl _ _
        · refine Same.ite ?_ ?_
          · refine Same.next ?_ (State.vlvOff_same _ _) (by decide)
            exact Same.refl _ _
          · exact Same.refl _ _

theorem State.vlvCommand_same (s : State) (n : Nat) (o : Opt) :
    Same 0x100010 s (State.vlvCommand s n o) := by
  unfold State.vlvCommand
  refine Same.ite ?_ ?_
  · exact Same.refl _ _
  · refine Same.ite ?_ ?_
    · refine Same.ite ?_ ?_
      · refine Same.next ?_ (State.updVlv_same _ _ _) (by decide)
        refine Same.next ?_ Same.set_vlv (by decide)
        refine Same.next ?_ (State.updVlv_same _ _ _) (by decide)
        exact Same.refl _ _
      · refine Same.ite ?_ ?_
        · refine Same.next ?_ (State.vlvEnterRun_same _ _) (by decide)
          refine Same.next ?_ Same.set_vlv (by decide)
          refine Same.next ?_ (State.updVlv_same _ _ _) (by decide)
          exact Same.refl _ _
        · refine Same.next ?_ (State.vlvChange_same _ _ _) (by decide)
          refine Same.next ?_ Same.set_vlv (by decide)
          refine Same.next ?_ (State.updVlv_same _ _ _) (by decide)
          exact Same.refl _ _
    · refine Same.ite ?_ ?_
      · refine Same.next ?_ (State.vlvEnterSafe_same _ _ _) (by decide)
        refine Same.next ?_ Same.set_vlv (by decide)
        refine Same.next ?_ (State.updVlv_same _ _ _) (by decide)
        exact Same.refl _ _
      · refine Same.next ?_ Same.set_vlv (by decide)
        refine Same.next ?_ (State.updVlv_same _ _ _) (by decide)
        exact Same.refl _ _

theorem admitPass_same (l : List StartReq) (s : State) : Same 0x30003b0030 s (admitPass l s) := by
  induction l generalizing s with
  | nil => exact Same.refl _ _
  | cons f t ih =>
    unfold admitPass
    exact Same.ite (((Same.refl _ _).next (State.grantStart_same _ _) (by decide)).next (ih _) (by decide)) (Same.refl _ _)

theorem controlOp_same {r : HostReq} {op : Nat} {run : State → OpRes} {s : State} {m : Nat} (hm : 0x2100010001 &&& m = 0x2100010001)
    (hk : ∀ u, Same m s u → OpSame m s (run u)) : Same m s (controlOp r op run s) := by
  have b : ∀ {t u : State}, Same m s t → Same 0x2100010001 t u → Same m s u := fun h k => h.next k hm
  unfold controlOp
  refine receive_same hm ?_
  intro u hu
  refine Same.ite (b hu ((State.reply_same _ _ _ _ _ _).mono (by decide))) ?_
  refine Same.ite (b hu ((State.busy_same _ _ _ _).mono (by decide))) ?_
  refine Same.ite (b hu ((State.reply_same _ _ _ _ _ _).mono (by decide))) ?_
  have ha := hk u hu
  split
  · exact b hu ((State.reply_same _ _ _ _ _ _).mono (by decide))
  · rename_i t pl h
    rw [h] at ha
    exact b ha ((State.finish_same _ _ _ _ _).mono (by decide))
  · rename_i t h
    rw [h] at ha
    exact ha

theorem execAcqPassEnd_runs (o : Opt) (found : List (Nat × SearchCell)) (s : State) :
    Runs 0x4000000 (s.begin o) (execAcqPassEnd o found s) := by
  unfold execAcqPassEnd
  conv => zeta
  split
  · refine Runs.next ?_
    exact Same.refl _ _
  · refine Runs.ite ?_ ?_
    · refine Runs.next ?_
      exact Same.refl _ _
    · refine Runs.next ?_
      refine Same.next ?_ (State.updNav_same _ _) (by decide)
      refine Same.fold _ ?_ ?_
      · refine Same.next ?_ (State.updNav_same _ _) (by decide)
        exact Same.refl _ _
      · intro u a hu
        refine Same.ite ?_ ?_
        · refine Same.next ?_ (State.updNav_same _ _) (by decide)
          assumption
        · refine Same.next ?_ (State.searchEnd_same _ _ _ _) (by decide)
          assumption

theorem execAdmissionPass_runs (s : State) :
    Runs 0x30003b0030 s.start (execAdmissionPass s) := by
  unfold execAdmissionPass
  refine Runs.ite ?_ ?_
  · refine Runs.next ?_
    exact Same.refl _ _
  · refine Runs.next ?_
    refine Same.next ?_ Same.set_bud (by decide)
    refine Same.next ?_ (admitPass_same _ _) (by decide)
    refine Same.fold _ ?_ ?_
    · refine Same.fold _ ?_ ?_
      · exact Same.refl _ _
      · intro u a hu
        refine Same.next ?_ (State.refuseReq_same _ _) (by decide)
        assumption
    · intro u a hu
      refine Same.next ?_ (State.bankGrant_same _ _) (by decide)
      assumption

theorem execAntennaRetry_runs (o : Opt) (ant : Fin 2) (ma : Nat) (s : State) :
    Runs 0x4000000 (s.begin o) (execAntennaRetry o ant ma s) := by
  unfold execAntennaRetry
  refine Runs.ite ?_ ?_
  · refine Runs.next ?_
    exact Same.refl _ _
  · refine Runs.next ?_
    refine Same.next ?_ (State.updNav_same _ _) (by decide)
    exact Same.refl _ _

theorem execAntennaShort_runs (o : Opt) (ant : Fin 2) (ma : Nat) (s : State) :
    Runs 0x4000000 (s.begin o) (execAntennaShort o ant ma s) := by
  unfold execAntennaShort
  refine Runs.ite ?_ ?_
  · refine Runs.next ?_
    exact Same.refl _ _
  · refine Runs.next ?_
    refine Same.next ?_ (State.updNav_same _ _) (by decide)
    exact Same.refl _ _

theorem execBankSwitchOvercurrent_runs (o : Opt) (bank : Fin 8) (s : State) :
    Runs 0x3000130010 (s.begin o) (execBankSwitchOvercurrent o bank s) := by
  unfold execBankSwitchOvercurrent
  refine Runs.next ?_
  refine Same.ite ?_ ?_
  · exact Same.refl _ _
  · refine Same.fold _ ?_ ?_
    · refine Same.next ?_ (State.updBank_same _ _ _) (by decide)
      exact Same.refl _ _
    · intro u a hu
      refine Same.next ?_ (State.vlvFault_same _ _ _) (by decide)
      assumption

theorem execBoostCut_runs (o : Opt) (ch : Fin 48) (s : State) :
    Runs 0x100000 (s.begin o) (execBoostCut o ch s) := by
  unfold execBoostCut
  refine Runs.next ?_
  refine Same.next ?_ (State.vlvCut_same _ _) (by decide)
  exact Same.refl _ _

theorem hostOp_same {r : HostReq} {op level feature : Nat} {run : State → OpRes} {s : State} {m : Nat} (hm : 0x2100010001 &&& m = 0x2100010001)
    (hk : ∀ u, Same m s u → OpSame m s (run u)) : Same m s (hostOp r op level feature run s) := by
  have b : ∀ {t u : State}, Same m s t → Same 0x2100010001 t u → Same m s u := fun h k => h.next k hm
  unfold hostOp
  refine receive_same hm ?_
  intro u hu
  refine Same.ite (b hu ((State.reply_same _ _ _ _ _ _).mono (by decide))) ?_
  refine Same.ite (b hu ((State.busy_same _ _ _ _).mono (by decide))) ?_
  refine Same.ite (b hu ((State.busy_same _ _ _ _).mono (by decide))) ?_
  refine Same.ite (b hu ((State.reply_same _ _ _ _ _ _).mono (by decide))) ?_
  refine Same.ite (b hu ((State.reply_same _ _ _ _ _ _).mono (by decide))) ?_
  refine Same.ite (b hu ((State.reply_same _ _ _ _ _ _).mono (by decide))) ?_
  conv => zeta
  have ha := fun x => hk _ (b hu ((Same.set_hst (t := u) (x0 := x)).mono (by decide)))
  split
  · exact b hu ((State.reply_same _ _ _ _ _ _).mono (by decide))
  · rename_i t pl h
    have := ha { u.hst with ops := u.hst.ops ++ [⟨r, op, none, decide (u.guarantee ≤ u.sessFlight r.sess), false⟩], highWater := max u.hst.highWater (u.hst.ops.length + 1) }
    rw [h] at this
    exact b this ((State.complete_same _ _ _ _).mono (by decide))
  · rename_i t h
    have := ha { u.hst with ops := u.hst.ops ++ [⟨r, op, none, decide (u.guarantee ≤ u.sessFlight r.sess), false⟩], highWater := max u.hst.highWater (u.hst.ops.length + 1) }
    rw [h] at this
    exact this

theorem execCoastSearch_runs (o : Opt) (ch : Fin 384) (s : State) :
    Runs 0x4000000 (s.begin o) (execCoastSearch o ch s) := by
  unfold execCoastSearch
  refine Runs.ite ?_ ?_
  · refine Runs.next ?_
    exact Same.refl _ _
  · refine Runs.next ?_
    refine Same.next ?_ (State.queueSearch_same _ _ _) (by decide)
    refine Same.next ?_ (State.updNch_same _ _ _) (by decide)
    exact Same.refl _ _

theorem execCoastTimeout_runs (o : Opt) (ch : Fin 384) (s : State) :
    Runs 0x4000000 (s.begin o) (execCoastTimeout o ch s) := by
  unfold execCoastTimeout
  refine Runs.ite ?_ ?_
  · refine Runs.next ?_
    exact Same.refl _ _
  · refine Runs.next ?_
    refine Same.next ?_ (State.navRelease_same _ _) (by decide)
    exact Same.refl _ _

theorem execCoolingDemand_runs (o : Opt) (s : State) :
    Runs 0x30003b0030 (s.begin o) (execCoolingDemand o s) := by
  unfold execCoolingDemand
  refine Runs.next ?_
  refine Same.ite ?_ ?_
  · exact Same.refl _ _
  · refine Same.next ?_ (State.colEvalAll_same _ _) (by decide)
    refine Same.next ?_ Same.set_col (by decide)
    exact Same.refl _ _

theorem execCoolingRefuseRetry_runs (o : Opt) (ch : Fin 8) (s : State) :
    Runs 0x30003b0030 (s.begin o) (execCoolingRefuseRetry o ch s) := by
  unfold execCoolingRefuseRetry
  refine Runs.next ?_
  refine Same.ite ?_ ?_
  · refine Same.next ?_ (State.colRequest_same _ _ _) (by decide)
    exact Same.refl _ _
  · exact Same.refl _ _

theorem execDieHot_runs (o : Opt) (die : Fin 4) (temp : Int) (tj : List Int) (s : State) :
    Runs 0xc0010 (s.begin o) (execDieHot o die temp tj s) := by
  unfold execDieHot
  refine Runs.next ?_
  refine Same.ite ?_ ?_
  · refine Same.next ?_ (State.updDie_same _ _ _) (by decide)
    exact Same.refl _ _
  · refine Same.fold _ ?_ ?_
    · refine Same.next ?_ (State.updDie_same _ _ _) (by decide)
      refine Same.next ?_ (State.updDie_same _ _ _) (by decide)
      exact Same.refl _ _
    · intro u a hu
      refine Same.ite ?_ ?_
      · refine Same.next ?_ (State.pswLatch_same _ _ _ _) (by decide)
        refine Same.next ?_ (State.updPsw_same _ _ _) (by decide)
        assumption
      · refine Same.next ?_ (State.updPsw_same _ _ _) (by decide)
        assumption

theorem execDieHotClear_runs (o : Opt) (die : Fin 4) (temp : Int) (s : State) :
    Runs 0x40000 (s.begin o) (execDieHotClear o die temp s) := by
  unfold execDieHotClear
  refine Runs.next ?_
  refine Same.ite ?_ ?_
  · refine Same.next ?_ (State.updDie_same _ _ _) (by decide)
    refine Same.next ?_ (State.updDie_same _ _ _) (by decide)
    exact Same.refl _ _
  · refine Same.next ?_ (State.updDie_same _ _ _) (by decide)
    exact Same.refl _ _

theorem execFreezeMaxExpiry_runs (o : Opt) (sess : Fin 8) (s : State) :
    Runs 0x20000 (s.begin o) (execFreezeMaxExpiry o sess s) := by
  unfold execFreezeMaxExpiry
  refine Runs.ite ?_ ?_
  · refine Runs.next ?_
    refine Same.next ?_ (State.endFreeze_same _ _) (by decide)
    exact Same.refl _ _
  · refine Runs.next ?_
    exact Same.refl _ _

theorem execInrushEnd_runs (o : Opt) (ch : Fin 40) (s : State) :
    Runs 0x80000 (s.begin o) (execInrushEnd o ch s) := by
  unfold execInrushEnd
  refine Runs.next ?_
  refine Same.ite ?_ ?_
  · refine Same.next ?_ (State.updPsw_same _ _ _) (by decide)
    exact Same.refl _ _
  · exact Same.refl _ _

theorem execLatchRelease_runs (o : Opt) (ch : Fin 40) (tj : Int) (s : State) :
    Runs 0x30003b0030 (s.begin o) (execLatchRelease o ch tj s) := by
  unfold execLatchRelease
  refine Runs.next ?_
  refine Same.ite ?_ ?_
  · refine Same.next ?_ (State.pswRelease_same _ _ _) (by decide)
    refine Same.next ?_ (State.updPsw_same _ _ _) (by decide)
    exact Same.refl _ _
  · refine Same.next ?_ (State.updPsw_same _ _ _) (by decide)
    exact Same.refl _ _

theorem execLossOfLock_runs (o : Opt) (ch : Fin 384) (s : State) :
    Runs 0x4000000 (s.begin o) (execLossOfLock o ch s) := by
  unfold execLossOfLock
  refine Runs.ite ?_ ?_
  · refine Runs.next ?_
    exact Same.refl _ _
  · refine Runs.next ?_
    refine Same.next ?_ (State.updNch_same _ _ _) (by decide)
    exact Same.refl _ _

theorem execMeasurementEpoch_runs (o : Opt) (ms : List MeasIn) (rf : List RfSt) (antMa : List Nat) (s : State) :
    Runs 0x4000000 (s.begin o) (execMeasurementEpoch o ms rf antMa s) := by
  unfold execMeasurementEpoch
  refine Runs.ite ?_ ?_
  · refine Runs.next ?_
    exact Same.refl _ _
  · refine Runs.next ?_
    conv => zeta
    split
    · refine Same.ite ?_ ?_
      · refine Same.next ?_ (State.endBurst_same _) (by decide)
        refine Same.next ?_ (State.updNav_same _ _) (by decide)
        refine Same.next ?_ (State.updNav_same _ _) (by decide)
        refine Same.next ?_ (State.updNav_same _ _) (by decide)
        refine Same.fold _ ?_ ?_
        · exact Same.refl _ _
        · intro u a hu
          refine Same.ite ?_ ?_
          · refine Same.ite ?_ ?_
            · refine Same.next ?_ (State.navRelease_same _ _) (by decide)
              assumption
            · assumption
          · refine Same.next ?_ (State.updNch_same _ _ _) (by decide)
            refine Same.ite ?_ ?_
            · refine Same.next ?_ (State.navRelease_same _ _) (by decide)
              assumption
            · assumption
      · refine Same.next ?_ (State.updNav_same _ _) (by decide)
        refine Same.next ?_ (State.updNav_same _ _) (by decide)
        refine Same.next ?_ (State.updNav_same _ _) (by decide)
        refine Same.fold _ ?_ ?_
        · exact Same.refl _ _
        · intro u a hu
          refine Same.ite ?_ ?_
          · refine Same.ite ?_ ?_
            · refine Same.next ?_ (State.navRelease_same _ _) (by decide)
              assumption
            · assumption
          · refine Same.next ?_ (State.updNch_same _ _ _) (by decide)
            refine Same.ite ?_ ?_
            · refine Same.next ?_ (State.navRelease_same _ _) (by decide)
              assumption
            · assumption
    · refine Same.next ?_ (State.updNav_same _ _) (by decide)
      refine Same.next ?_ (State.updNav_same _ _) (by decide)
      refine Same.next ?_ (State.updNav_same _ _) (by decide)
      refine Same.fold _ ?_ ?_
      · exact Same.refl _ _
      · intro u a hu
        refine Same.ite ?_ ?_
        · refine Same.ite ?_ ?_
          · refine Same.next ?_ (State.navRelease_same _ _) (by decide)
            assumption
          · assumption
        · refine Same.next ?_ (State.updNch_same _ _ _) (by decide)
          refine Same.ite ?_ ?_
          · refine Same.next ?_ (State.navRelease_same _ _) (by decide)
            assumption
          · assumption

theorem execMicrocodeAdvance_runs (o : Opt) (bank : Fin 8) (ma : List Nat) (s : State) :
    Runs 0x30003b0030 (s.begin o) (execMicrocodeAdvance o bank ma s) := by
  unfold execMicrocodeAdvance
  refine Runs.ite ?_ ?_
  · refine Runs.next ?_
    exact Same.refl _ _
  · refine Runs.next ?_
    refine Same.next ?_ (State.bankRefresh_same _ _) (by decide)
    refine Same.fold _ ?_ ?_
    · refine Same.next ?_ (State.updBank_same _ _ _) (by decide)
      exact Same.refl _ _
    · intro u a hu
      refine Same.next ?_ (State.vlvAdvance_same _ _ _) (by decide)
      assumption

theorem execNavAllocator_runs (o : Opt) (sky : List SkyItem) (s : State) :
    Runs 0x4000000 (s.begin o) (execNavAllocator o sky s) := by
  unfold execNavAllocator
  refine Runs.ite ?_ ?_
  · refine Runs.next ?_
    exact Same.refl _ _
  · refine Runs.next ?_
    refine Same.fold _ ?_ ?_
    · refine Same.next ?_ (State.updNav_same _ _) (by decide)
      exact Same.refl _ _
    · intro u a hu
      refine Same.ite ?_ ?_
      · assumption
      · conv => zeta
        split
        · refine Same.next ?_ (State.assign_same _ _ _) (by decide)
          assumption
        · refine Same.next ?_ (State.updNav_same _ _) (by decide)
          assumption

theorem execPauseEnd_runs (o : Opt) (ch : Fin 8) (s : State) :
    Runs 0x30003b0030 (s.begin o) (execPauseEnd o ch s) := by
  unfold execPauseEnd
  refine Runs.next ?_
  refine Same.ite ?_ ?_
  · refine Same.ite ?_ ?_
    · refine Same.next ?_ (State.colRequest_same _ _ _) (by decide)
      exact Same.refl _ _
    · refine Same.next ?_ (State.colStop_same _ _ _ _) (by decide)
      exact Same.refl _ _
  · exact Same.refl _ _

theorem execPswClampOverload_runs (o : Opt) (ch : Fin 40) (s : State) :
    Runs 0x30000b0010 (s.begin o) (execPswClampOverload o ch s) := by
  unfold execPswClampOverload
  refine Runs.next ?_
  refine Same.ite ?_ ?_
  · refine Same.next ?_ (State.pswFault_same _ _) (by decide)
    refine Same.next ?_ (State.updPsw_same _ _ _) (by decide)
    exact Same.refl _ _
  · exact Same.refl _ _

theorem execPswOpenClear_runs (o : Opt) (ch : Fin 40) (s : State) :
    Runs 0x80000 (s.begin o) (execPswOpenClear o ch s) := by
  unfold execPswOpenClear
  refine Runs.next ?_
  refine Same.ite ?_ ?_
  · refine Same.next ?_ (State.updPsw_same _ _ _) (by decide)
    exact Same.refl _ _
  · exact Same.refl _ _

theorem execPswOpenLoad_runs (o : Opt) (ch : Fin 40) (s : State) :
    Runs 0x80000 (s.begin o) (execPswOpenLoad o ch s) := by
  unfold execPswOpenLoad
  refine Runs.next ?_
  refine Same.ite ?_ ?_
  · refine Same.next ?_ (State.updPsw_same _ _ _) (by decide)
    exact Same.refl _ _
  · exact Same.refl _ _

theorem execPswOverloadTrip_runs (o : Opt) (ch : Fin 40) (s : State) :
    Runs 0x30000b0010 (s.begin o) (execPswOverloadTrip o ch s) := by
  unfold execPswOverloadTrip
  refine Runs.next ?_
  refine Same.ite ?_ ?_
  · refine Same.next ?_ (State.pswTrip_same _ _ _ _) (by decide)
    exact Same.refl _ _
  · exact Same.refl _ _

theorem execPswRefuseRetry_runs (o : Opt) (ch : Fin 40) (s : State) :
    Runs 0x30003b0030 (s.begin o) (execPswRefuseRetry o ch s) := by
  unfold execPswRefuseRetry
  refine Runs.next ?_
  refine Same.ite ?_ ?_
  · refine Same.next ?_ (State.pswRequest_same _ _ _) (by decide)
    exact Same.refl _ _
  · exact Same.refl _ _

theorem execPswRetryExpiry_runs (o : Opt) (ch : Fin 40) (s : State) :
    Runs 0x30003b0030 (s.begin o) (execPswRetryExpiry o ch s) := by
  unfold execPswRetryExpiry
  refine Runs.next ?_
  conv => zeta
  split
  · refine Same.ite ?_ ?_
    · exact Same.refl _ _
    · refine Same.ite ?_ ?_
      · refine Same.next ?_ (State.updPsw_same _ _ _) (by decide)
        exact Same.refl _ _
      · refine Same.next ?_ (State.pswRequest_same _ _ _) (by decide)
        refine Same.next ?_ (State.updPsw_same _ _ _) (by decide)
        exact Same.refl _ _
  · exact Same.refl _ _

theorem execPswRetryReset_runs (o : Opt) (ch : Fin 40) (s : State) :
    Runs 0x80000 (s.begin o) (execPswRetryReset o ch s) := by
  unfold execPswRetryReset
  refine Runs.next ?_
  refine Same.ite ?_ ?_
  · refine Same.next ?_ (State.updPsw_same _ _ _) (by decide)
    exact Same.refl _ _
  · exact Same.refl _ _

theorem execPswShortTrip_runs (o : Opt) (ch : Fin 40) (s : State) :
    Runs 0x30000b0010 (s.begin o) (execPswShortTrip o ch s) := by
  unfold execPswShortTrip
  refine Runs.next ?_
  refine Same.ite ?_ ?_
  · refine Same.next ?_ (State.pswTrip_same _ _ _ _) (by decide)
    exact Same.refl _ _
  · exact Same.refl _ _

theorem execPullinLock_runs (o : Opt) (ch : Fin 384) (s : State) :
    Runs 0x4000000 (s.begin o) (execPullinLock o ch s) := by
  unfold execPullinLock
  refine Runs.ite ?_ ?_
  · refine Runs.next ?_
    exact Same.refl _ _
  · refine Runs.next ?_
    refine Same.ite ?_ ?_
    · refine Same.next ?_ (State.updNav_same _ _) (by decide)
      refine Same.next ?_ (State.updNch_same _ _ _) (by decide)
      exact Same.refl _ _
    · refine Same.next ?_ (State.updNch_same _ _ _) (by decide)
      exact Same.refl _ _

theorem execPullinTimeout_runs (o : Opt) (ch : Fin 384) (s : State) :
    Runs 0x4000000 (s.begin o) (execPullinTimeout o ch s) := by
  unfold execPullinTimeout
  refine Runs.ite ?_ ?_
  · refine Runs.next ?_
    exact Same.refl _ _
  · refine Runs.next ?_
    refine Same.next ?_ (State.updNch_same _ _ _) (by decide)
    refine Same.next ?_ (State.navRelease_same _ _) (by decide)
    exact Same.refl _ _

theorem execRecClear_same (r : HostReq) (s : State) :
    Runs 0x2100030001 s (execRecClear r s) := by
  unfold execRecClear
  refine Runs.next ?_
  refine hostOp_same (by decide) ?_
  intro u hu
  refine OpSame.ite ?_ ?_
  · exact OpSame.refuse
  · refine OpSame.ite ?_ ?_
    · exact OpSame.refuse
    · refine OpSame.wait ?_
      refine Same.next ?_ (State.updRec_same _ _) (by decide)
      refine Same.ite ?_ ?_
      · assumption
      · refine Same.next ?_ (State.useGrant_same _ _ _) (by decide)
        assumption

theorem execRecClearComplete_runs (o : Opt) (s : State) :
    Runs 0x3000030000 (s.begin o) (execRecClearComplete o s) := by
  unfold execRecClearComplete
  refine Runs.ite ?_ ?_
  · refine Runs.next ?_
    exact Same.refl _ _
  · conv => zeta
    split
    · refine Runs.next ?_
      refine Same.next ?_ (State.complete_same _ _ _ _) (by decide)
      refine Same.next ?_ (State.notice_same _ _ _ _ _) (by decide)
      refine Same.next ?_ (State.updRec_same _ _) (by decide)
      exact Same.refl _ _
    · refine Runs.next ?_
      refine Same.next ?_ (State.notice_same _ _ _ _ _) (by decide)
      refine Same.next ?_ (State.updRec_same _ _) (by decide)
      exact Same.refl _ _

theorem execRecFreeze_same (r : HostReq) (s : State) :
    Runs 0x2100030001 s (execRecFreeze r s) := by
  unfold execRecFreeze
  refine Runs.next ?_
  refine hostOp_same (by decide) ?_
  intro u hu
  refine OpSame.ite ?_ ?_
  · exact OpSame.refuse
  · refine OpSame.ite ?_ ?_
    · exact OpSame.refuse
    · refine OpSame.ite ?_ ?_
      · refine OpSame.wait ?_
        refine Same.next ?_ (State.updRec_same _ _) (by decide)
        assumption
      · refine OpSame.done ?_
        refine Same.next ?_ (State.updRec_same _ _) (by decide)
        assumption

theorem execRecInfo_same (r : HostReq) (s : State) :
    Runs 0x2100010001 s (execRecInfo r s) := by
  unfold execRecInfo
  refine Runs.next ?_
  refine hostOp_same (by decide) ?_
  intro u hu
  refine OpSame.done ?_
  assumption

theorem execRecRead_same (r : HostReq) (seq : Word) (offset : W16) (len : W16) (s : State) :
    Runs 0x2100010001 s (execRecRead r seq offset len s) := by
  unfold execRecRead
  refine Runs.next ?_
  refine hostOp_same (by decide) ?_
  intro u hu
  refine OpSame.ite ?_ ?_
  · exact OpSame.refuse
  · conv => zeta
    split
    · exact OpSame.refuse
    · refine OpSame.ite ?_ ?_
      · exact OpSame.refuse
      · refine OpSame.done ?_
        assumption

theorem execRecThaw_same (r : HostReq) (s : State) :
    Runs 0x2100030001 s (execRecThaw r s) := by
  unfold execRecThaw
  refine Runs.next ?_
  refine hostOp_same (by decide) ?_
  intro u hu
  refine OpSame.ite ?_ ?_
  · refine OpSame.done ?_
    refine Same.next ?_ (State.endFreeze_same _ _) (by decide)
    assumption
  · exact OpSame.refuse

theorem execRecordBoundary_runs (o : Opt) (s : State) :
    Runs 0x20000 (s.begin o) (execRecordBoundary o s) := by
  unfold execRecordBoundary
  refine Runs.next ?_
  refine Same.next ?_ (State.recTurn_same _) (by decide)
  exact Same.refl _ _

theorem execRecordWriteComplete_runs (o : Opt) (good : Bool) (s : State) :
    Runs 0x3000030000 (s.begin o) (execRecordWriteComplete o good s) := by
  unfold execRecordWriteComplete
  refine Runs.ite ?_ ?_
  · refine Runs.next ?_
    exact Same.refl _ _
  · conv => zeta
    split
    · refine Runs.next ?_
      exact Same.refl _ _
    · refine Runs.ite ?_ ?_
      · refine Runs.next ?_
        refine Same.next ?_ (State.takeFreezes_same _) (by decide)
        refine Same.next ?_ (State.storeRecord_same _ _) (by decide)
        exact Same.refl _ _
      · refine Runs.ite ?_ ?_
        · refine Runs.next ?_
          refine Same.next ?_ (State.takeFreezes_same _) (by decide)
          refine Same.next ?_ (State.notice_same _ _ _ _ _) (by decide)
          refine Same.next ?_ (State.updRec_same _ _) (by decide)
          refine Same.next ?_ (State.updRec_same _ _) (by decide)
          exact Same.refl _ _
        · refine Runs.next ?_
          refine Same.next ?_ (State.updRec_same _ _) (by decide)
          exact Same.refl _ _

theorem execRegShortfall_runs (o : Opt) (ch : Fin 48) (s : State) :
    Runs 0x100000 (s.begin o) (execRegShortfall o ch s) := by
  unfold execRegShortfall
  refine Runs.next ?_
  refine Same.ite ?_ ?_
  · refine Same.next ?_ (State.updVlv_same _ _ _) (by decide)
    exact Same.refl _ _
  · exact Same.refl _ _

theorem execReleaseFollowLapse_runs (g : Fin 16) (s : State) :
    Runs 0x30003b0070 s.start (execReleaseFollowLapse g s) := by
  unfold execReleaseFollowLapse
  refine Runs.ite ?_ ?_
  · refine Runs.next ?_
    refine Same.next ?_ (State.settleAll_same _ _) (by decide)
    refine Same.next ?_ Same.set_boot (by decide)
    exact Same.refl _ _
  · refine Runs.next ?_
    exact Same.refl _ _

theorem execReleaseGroup_runs (g : Fin 16) (s : State) :
    Runs 0x30003b0070 s.start (execReleaseGroup g s) := by
  unfold execReleaseGroup
  refine Runs.ite ?_ ?_
  · refine Runs.next ?_
    refine Same.next ?_ (State.settleAll_same _ _) (by decide)
    refine Same.next ?_ Same.set_boot (by decide)
    exact Same.refl _ _
  · refine Runs.next ?_
    exact Same.refl _ _

theorem execRtcmFrame_runs (o : Opt) (src : Fin 2) (s : State) :
    Runs 0x4000000 (s.begin o) (execRtcmFrame o src s) := by
  unfold execRtcmFrame
  conv => zeta
  split
  · refine Runs.next ?_
    exact Same.refl _ _
  · refine Runs.ite ?_ ?_
    · refine Runs.next ?_
      exact Same.refl _ _
    · refine Runs.next ?_
      refine Same.next ?_ (State.takeFrame_same _ _ _) (by decide)
      refine Same.next ?_ (State.updNav_same _ _) (by decide)
      exact Same.refl _ _

theorem execRtcmIn_same (r : HostReq) (data : List Byte) (s : State) :
    Runs 0x3104010005 s (execRtcmIn r data s) := by
  unfold execRtcmIn
  refine Runs.next ?_
  refine hostOp_same (by decide) ?_
  intro u hu
  conv => zeta
  split
  · exact OpSame.refuse
  · refine OpSame.ite ?_ ?_
    · exact OpSame.refuse
    · refine OpSame.ite ?_ ?_
      · exact OpSame.refuse
      · refine OpSame.done ?_
        refine Same.next ?_ (State.updNav_same _ _) (by decide)
        refine Same.next ?_ (State.fifoWrite_same _ _) (by decide)
        assumption

theorem execSafeHoldExpiry_runs (o : Opt) (ch : Fin 48) (s : State) :
    Runs 0x100000 (s.begin o) (execSafeHoldExpiry o ch s) := by
  unfold execSafeHoldExpiry
  refine Runs.next ?_
  conv => zeta
  split
  · refine Same.ite ?_ ?_
    · refine Same.next ?_ (State.bankRefresh_same _ _) (by decide)
      refine Same.next ?_ (State.updVlv_same _ _ _) (by decide)
      exact Same.refl _ _
    · exact Same.refl _ _
  · exact Same.refl _ _

theorem execSafeStateTurnOn_runs (o : Opt) (die : Fin 4) (s : State) :
    Runs 0xc0000 (s.begin o) (execSafeStateTurnOn o die s) := by
  unfold execSafeStateTurnOn
  refine Runs.next ?_
  refine Same.ite ?_ ?_
  · exact Same.refl _ _
  · conv => zeta
    split
    · exact Same.refl _ _
    · refine Same.next ?_ (State.pswOn_same _ _ _) (by decide)
      refine Same.next ?_ (State.updDie_same _ _ _) (by decide)
      exact Same.refl _ _

theorem execShdnAsserted_runs (o : Opt) (s : State) :
    Runs 0x3000230000 (s.begin o) (execShdnAsserted o s) := by
  unfold execShdnAsserted
  refine Runs.next ?_
  refine Same.ite ?_ ?_
  · refine Same.next ?_ (State.notice_same _ _ _ _ _) (by decide)
    refine Same.next ?_ Same.set_col (by decide)
    exact Same.refl _ _
  · exact Same.refl _ _

theorem execShdnComparatorReset_runs (o : Opt) (ts15 : Bool) (s : State) :
    Runs 0x200000 (s.begin o) (execShdnComparatorReset o ts15 s) := by
  unfold execShdnComparatorReset
  refine Runs.next ?_
  refine Same.ite ?_ ?_
  · exact Same.refl _ _
  · refine Same.next ?_ Same.set_col (by decide)
    exact Same.refl _ _

theorem execShdnComparatorTrip_runs (o : Opt) (ts15 : Bool) (s : State) :
    Runs 0x200000 (s.begin o) (execShdnComparatorTrip o ts15 s) := by
  unfold execShdnComparatorTrip
  refine Runs.next ?_
  refine Same.ite ?_ ?_
  · exact Same.refl _ _
  · refine Same.next ?_ Same.set_col (by decide)
    exact Same.refl _ _

theorem execSolutionEpoch_runs (o : Opt) (sol : SolIn) (s : State) :
    Runs 0x200c014000 (s.begin o) (execSolutionEpoch o sol s) := by
  unfold execSolutionEpoch
  refine Runs.ite ?_ ?_
  · refine Runs.next ?_
    exact Same.refl _ _
  · refine Runs.next ?_
    refine Same.ite ?_ ?_
    · refine Same.next ?_ (State.endBurst_same _) (by decide)
      refine Same.next ?_ (State.gnssRun_same _ _ _) (by decide)
      refine Same.next ?_ (State.updNav_same _ _) (by decide)
      refine Same.next ?_ (State.choosePosAnt_same _ _ _) (by decide)
      refine Same.next ?_ (State.geometryFree_same _ _) (by decide)
      refine Same.ite ?_ ?_
      · refine Same.next ?_ (State.navBoundary_same _) (by decide)
        exact Same.refl _ _
      · refine Same.next ?_ (State.chooseSource_same _) (by decide)
        refine Same.next ?_ (State.navBoundary_same _) (by decide)
        exact Same.refl _ _
    · refine Same.next ?_ (State.gnssRun_same _ _ _) (by decide)
      refine Same.next ?_ (State.updNav_same _ _) (by decide)
      refine Same.next ?_ (State.choosePosAnt_same _ _ _) (by decide)
      refine Same.next ?_ (State.geometryFree_same _ _) (by decide)
      refine Same.ite ?_ ?_
      · refine Same.next ?_ (State.navBoundary_same _) (by decide)
        exact Same.refl _ _
      · refine Same.next ?_ (State.chooseSource_same _) (by decide)
        refine Same.next ?_ (State.navBoundary_same _) (by decide)
        exact Same.refl _ _

theorem execSpinReached_runs (o : Opt) (ch : Fin 8) (s : State) :
    Runs 0x30003b0030 (s.begin o) (execSpinReached o ch s) := by
  unfold execSpinReached
  refine Runs.next ?_
  refine Same.ite ?_ ?_
  · refine Same.next ?_ (State.colEval_same _ _ _) (by decide)
    refine Same.next ?_ (State.updCol_same _ _ _) (by decide)
    exact Same.refl _ _
  · exact Same.refl _ _

theorem execSpinTimeout_runs (o : Opt) (ch : Fin 8) (s : State) :
    Runs 0x30003b0030 (s.begin o) (execSpinTimeout o ch s) := by
  unfold execSpinTimeout
  refine Runs.next ?_
  refine Same.ite ?_ ?_
  · exact Same.refl _ _
  · refine Same.ite ?_ ?_
    · refine Same.next ?_ (State.colEval_same _ _ _) (by decide)
      refine Same.next ?_ (State.updCol_same _ _ _) (by decide)
      exact Same.refl _ _
    · refine Same.ite ?_ ?_
      · refine Same.next ?_ (State.updCol_same _ _ _) (by decide)
        refine Same.next ?_ (State.updCol_same _ _ _) (by decide)
        exact Same.refl _ _
      · refine Same.next ?_ (State.colFail_same _ _ _ _ _) (by decide)
        refine Same.next ?_ (State.updCol_same _ _ _) (by decide)
        exact Same.refl _ _

theorem execTachLoss_runs (o : Opt) (ch : Fin 8) (s : State) :
    Runs 0x30003b0030 (s.begin o) (execTachLoss o ch s) := by
  unfold execTachLoss
  refine Runs.next ?_
  refine Same.ite ?_ ?_
  · refine Same.next ?_ (State.colFail_same _ _ _ _ _) (by decide)
    refine Same.next ?_ (State.updCol_same _ _ _) (by decide)
    exact Same.refl _ _
  · exact Same.refl _ _

theorem execTachRecovery_runs (o : Opt) (ch : Fin 8) (s : State) :
    Runs 0x30003b0030 (s.begin o) (execTachRecovery o ch s) := by
  unfold execTachRecovery
  refine Runs.next ?_
  refine Same.ite ?_ ?_
  · refine Same.next ?_ (State.colAtTick_same _) (by decide)
    refine Same.next ?_ (State.updCol_same _ _ _) (by decide)
    exact Same.refl _ _
  · exact Same.refl _ _

theorem execThermalLatch_runs (o : Opt) (ch : Fin 40) (tj : Int) (s : State) :
    Runs 0x80010 (s.begin o) (execThermalLatch o ch tj s) := by
  unfold execThermalLatch
  refine Runs.next ?_
  refine Same.ite ?_ ?_
  · refine Same.next ?_ (State.pswLatch_same _ _ _ _) (by decide)
    refine Same.next ?_ (State.updPsw_same _ _ _) (by decide)
    exact Same.refl _ _
  · refine Same.ite ?_ ?_
    · refine Same.next ?_ (State.pswLatch_same _ _ _ _) (by decide)
      refine Same.next ?_ (State.updPsw_same _ _ _) (by decide)
      exact Same.refl _ _
    · refine Same.next ?_ (State.updPsw_same _ _ _) (by decide)
      exact Same.refl _ _

theorem execValveClampOverload_runs (o : Opt) (ch : Fin 48) (s : State) :
    Runs 0x3000130010 (s.begin o) (execValveClampOverload o ch s) := by
  unfold execValveClampOverload
  refine Runs.next ?_
  refine Same.next ?_ (State.vlvFault_same _ _ _) (by decide)
  exact Same.refl _ _

theorem execValveOpenLoad_runs (o : Opt) (ch : Fin 48) (s : State) :
    Runs 0x100000 (s.begin o) (execValveOpenLoad o ch s) := by
  unfold execValveOpenLoad
  refine Runs.next ?_
  refine Same.ite ?_ ?_
  · exact Same.refl _ _
  · refine Same.next ?_ (State.updVlv_same _ _ _) (by decide)
    exact Same.refl _ _

theorem execValveOvertemp_runs (o : Opt) (ch : Fin 48) (s : State) :
    Runs 0x3000130010 (s.begin o) (execValveOvertemp o ch s) := by
  unfold execValveOvertemp
  refine Runs.next ?_
  refine Same.next ?_ (State.vlvFault_same _ _ _) (by decide)
  exact Same.refl _ _

theorem execValveRefuseRetry_runs (o : Opt) (ch : Fin 48) (s : State) :
    Runs 0x100000 (s.begin o) (execValveRefuseRetry o ch s) := by
  unfold execValveRefuseRetry
  refine Runs.next ?_
  refine Same.ite ?_ ?_
  · refine Same.next ?_ (State.vlvActivate_same _ _) (by decide)
    refine Same.next ?_ (State.updVlv_same _ _ _) (by decide)
    exact Same.refl _ _
  · exact Same.refl _ _

theorem execValveRunaway_runs (o : Opt) (ch : Fin 48) (s : State) :
    Runs 0x3000130010 (s.begin o) (execValveRunaway o ch s) := by
  unfold execValveRunaway
  refine Runs.next ?_
  refine Same.ite ?_ ?_
  · refine Same.next ?_ (State.vlvFault_same _ _ _) (by decide)
    exact Same.refl _ _
  · exact Same.refl _ _

theorem execValveShort_runs (o : Opt) (ch : Fin 48) (s : State) :
    Runs 0x3000130010 (s.begin o) (execValveShort o ch s) := by
  unfold execValveShort
  refine Runs.next ?_
  refine Same.ite ?_ ?_
  · exact Same.refl _ _
  · refine Same.next ?_ (State.vlvFault_same _ _ _) (by decide)
    refine Same.next ?_ (State.updVlv_same _ _ _) (by decide)
    exact Same.refl _ _

theorem execWakeOutTrip_runs (o : Opt) (s : State) :
    Runs 0x20 (s.begin o) (execWakeOutTrip o s) := by
  unfold execWakeOutTrip
  refine Runs.next ?_
  refine Same.ite ?_ ?_
  · refine Same.next ?_ Same.set_wake (by decide)
    exact Same.refl _ _
  · exact Same.refl _ _

theorem execWhippetBurst_runs (o : Opt) (s : State) :
    Runs 0x4000000 (s.begin o) (execWhippetBurst o s) := by
  unfold execWhippetBurst
  refine Runs.ite ?_ ?_
  · refine Runs.next ?_
    exact Same.refl _ _
  · refine Runs.next ?_
    refine Same.next ?_ (State.hotAll_same _) (by decide)
    refine Same.next ?_ (State.updNav_same _ _) (by decide)
    refine Same.fold _ ?_ ?_
    · exact Same.refl _ _
    · intro u a hu
      refine Same.next ?_ (State.updNch_same _ _ _) (by decide)
      assumption

end Sys2Proof.Machine
end

