-- ==== Sys2Proof/Laws/FramesUnits.lean ====
section
/-! SUPPORT. Frame lemmas: which fields of the state each operation can change, and that each command answers a next state; here for
the units (CanTp, Can, Flags, LoopLaw, Machines, Plan, Profile, Functions, Loop, Eth). -/

namespace Sys2Proof.Machine

theorem State.answer_same (s : State) (i : Nat) (pathB : Bool) (v6 : Bool) (vlan : Option Nat) (a : List Byte) (kind : Nat) (reply : List Byte → List Byte) :
    Same 0x2100000000 s (State.answer s i pathB v6 vlan a kind reply) := by
  unfold State.answer
  refine Same.ite ?_ ?_
  · exact Same.refl _ _
  · refine Same.ite ?_ ?_
    · refine Same.ite ?_ ?_
      · exact Same.refl _ _
      · refine Same.next ?_ (State.updEth_same _ _) (by decide)
        exact Same.refl _ _
    · refine Same.ite ?_ ?_
      · exact Same.refl _ _
      · refine Same.next ?_ (State.send_same _ _) (by decide)
        refine Same.next ?_ (State.updPort_same _ _ _) (by decide)
        exact Same.refl _ _

theorem State.beginDetect_same (s : State) (n : Nat) :
    Same 0x80000000 s (State.beginDetect s n) := by
  unfold State.beginDetect
  refine Same.ite ?_ ?_
  · exact Same.refl _ _
  · refine Same.next ?_ (State.updCc_same _ _ _) (by decide)
    exact Same.refl _ _

theorem State.beginRecovery_same (s : State) (n : Nat) :
    Same 0x80000000 s (State.beginRecovery s n) := by
  unfold State.beginRecovery
  refine Same.next ?_ (State.busEntry_same _ _ _) (by decide)
  refine Same.next ?_ (State.updCc_same _ _ _) (by decide)
  exact Same.refl _ _

theorem State.canPairsStart_same (s : State) :
    Same 0x2180000000 s (State.canPairsStart s) := by
  unfold State.canPairsStart
  refine Same.fold _ ?_ ?_
  · exact Same.refl _ _
  · intro u a hu
    refine Same.ite ?_ ?_
    · refine Same.ite ?_ ?_
      · refine Same.next ?_ (State.pathClear_same _ _ _) (by decide)
        refine Same.ite ?_ ?_
        · refine Same.next ?_ (State.pathClear_same _ _ _) (by decide)
          assumption
        · assumption
      · refine Same.ite ?_ ?_
        · refine Same.next ?_ (State.pathClear_same _ _ _) (by decide)
          assumption
        · assumption
    · assumption

theorem State.canStartup_same (s : State) :
    Same 0x80000000 s (State.canStartup s) := by
  unfold State.canStartup
  refine Same.fold _ ?_ ?_
  · refine Same.next ?_ (State.updCan_same _ _) (by decide)
    exact Same.refl _ _
  · intro u a hu
    refine Same.ite ?_ ?_
    · refine Same.next ?_ (State.beginDetect_same _ _) (by decide)
      assumption
    · assumption

theorem State.ethStart_same (s : State) :
    Same 0x100000000 s (State.ethStart s) := by
  unfold State.ethStart
  refine Same.next ?_ (State.updEth_same _ _) (by decide)
  exact Same.refl _ _

theorem State.updSlot_same (s : State) (n : Nat) (f : Slot → Slot) :
    Same 0x1000000 s (State.updSlot s n f) := by
  unfold State.updSlot
  refine Same.next ?_ Same.set_lop (by decide)
  exact Same.refl _ _

theorem State.lopAbsent_same (s : State) :
    Same 0x1000000 s (State.lopAbsent s) := by
  unfold State.lopAbsent
  refine Same.fold _ ?_ ?_
  · exact Same.refl _ _
  · intro u a hu
    refine Same.ite ?_ ?_
    · conv => zeta
      split
      · refine Same.next ?_ (State.updSlot_same _ _ _) (by decide)
        assumption
      · refine Same.next ?_ (State.updSlot_same _ _ _) (by decide)
        assumption
      · assumption
    · assumption

theorem State.lopStart_same (s : State) :
    Same 0x3000000 s (State.lopStart s) := by
  unfold State.lopStart
  refine Same.next ?_ Same.set_lop_prf (by decide)
  exact Same.refl _ _

theorem State.canGroupApplied_same (s : State) (n : Nat) :
    Same 0x80000000 s (State.canGroupApplied s n) := by
  unfold State.canGroupApplied
  refine Same.next ?_ (State.updCc_same _ _ _) (by decide)
  exact Same.refl _ _

theorem State.tpAborted_same (s : State) (l : Nat) :
    Same 0x80000000 s (State.tpAborted s l) := by
  unfold State.tpAborted
  refine Same.next ?_ (State.updCc_same _ _ _) (by decide)
  exact Same.refl _ _

theorem State.txmEnd_same (s : State) (l : Nat) (st : Nat) (fail : Nat) :
    Same 0x80000000 s (State.txmEnd s l st fail) := by
  unfold State.txmEnd
  refine Same.ite ?_ ?_
  · refine Same.next ?_ (State.tpAborted_same _ _) (by decide)
    refine Same.next ?_ (State.updCan_same _ _) (by decide)
    refine Same.next ?_ (State.updCc_same _ _ _) (by decide)
    exact Same.refl _ _
  · refine Same.next ?_ (State.updCan_same _ _) (by decide)
    refine Same.next ?_ (State.updCc_same _ _ _) (by decide)
    exact Same.refl _ _

theorem State.enterBusOff_same (s : State) (n : Nat) :
    Same 0x3180030000 s (State.enterBusOff s n) := by
  unfold State.enterBusOff
  conv => zeta
  split
  · refine Same.next ?_ (State.pathCond_same _ _ _ _ _) (by decide)
    refine Same.ite ?_ ?_
    · refine Same.next ?_ (State.unitFault_same _ _ _ _) (by decide)
      refine Same.next ?_ (State.updCc_same _ _ _) (by decide)
      refine Same.ite ?_ ?_
      · refine Same.next ?_ (State.canFlush_same _ _ _) (by decide)
        refine Same.ite ?_ ?_
        · refine Same.next ?_ (State.txmEnd_same _ _ _ _) (by decide)
          refine Same.next ?_ (State.busEntry_same _ _ _) (by decide)
          refine Same.next ?_ (State.updCc_same _ _ _) (by decide)
          exact Same.refl _ _
        · refine Same.next ?_ (State.busEntry_same _ _ _) (by decide)
          refine Same.next ?_ (State.updCc_same _ _ _) (by decide)
          exact Same.refl _ _
      · refine Same.ite ?_ ?_
        · refine Same.next ?_ (State.txmEnd_same _ _ _ _) (by decide)
          refine Same.next ?_ (State.busEntry_same _ _ _) (by decide)
          refine Same.next ?_ (State.updCc_same _ _ _) (by decide)
          exact Same.refl _ _
        · refine Same.next ?_ (State.busEntry_same _ _ _) (by decide)
          refine Same.next ?_ (State.updCc_same _ _ _) (by decide)
          exact Same.refl _ _
    · refine Same.ite ?_ ?_
      · refine Same.next ?_ (State.beginRecovery_same _ _) (by decide)
        refine Same.ite ?_ ?_
        · refine Same.next ?_ (State.canFlush_same _ _ _) (by decide)
          refine Same.ite ?_ ?_
          · refine Same.next ?_ (State.txmEnd_same _ _ _ _) (by decide)
            refine Same.next ?_ (State.busEntry_same _ _ _) (by decide)
            refine Same.next ?_ (State.updCc_same _ _ _) (by decide)
            exact Same.refl _ _
          · refine Same.next ?_ (State.busEntry_same _ _ _) (by decide)
            refine Same.next ?_ (State.updCc_same _ _ _) (by decide)
            exact Same.refl _ _
        · refine Same.ite ?_ ?_
          · refine Same.next ?_ (State.txmEnd_same _ _ _ _) (by decide)
            refine Same.next ?_ (State.busEntry_same _ _ _) (by decide)
            refine Same.next ?_ (State.updCc_same _ _ _) (by decide)
            exact Same.refl _ _
          · refine Same.next ?_ (State.busEntry_same _ _ _) (by decide)
            refine Same.next ?_ (State.updCc_same _ _ _) (by decide)
            exact Same.refl _ _
      · refine Same.ite ?_ ?_
        · refine Same.next ?_ (State.canFlush_same _ _ _) (by decide)
          refine Same.ite ?_ ?_
          · refine Same.next ?_ (State.txmEnd_same _ _ _ _) (by decide)
            refine Same.next ?_ (State.busEntry_same _ _ _) (by decide)
            refine Same.next ?_ (State.updCc_same _ _ _) (by decide)
            exact Same.refl _ _
          · refine Same.next ?_ (State.busEntry_same _ _ _) (by decide)
            refine Same.next ?_ (State.updCc_same _ _ _) (by decide)
            exact Same.refl _ _
        · refine Same.ite ?_ ?_
          · refine Same.next ?_ (State.txmEnd_same _ _ _ _) (by decide)
            refine Same.next ?_ (State.busEntry_same _ _ _) (by decide)
            refine Same.next ?_ (State.updCc_same _ _ _) (by decide)
            exact Same.refl _ _
          · refine Same.next ?_ (State.busEntry_same _ _ _) (by decide)
            refine Same.next ?_ (State.updCc_same _ _ _) (by decide)
            exact Same.refl _ _
  · refine Same.ite ?_ ?_
    · refine Same.next ?_ (State.unitFault_same _ _ _ _) (by decide)
      refine Same.next ?_ (State.updCc_same _ _ _) (by decide)
      refine Same.ite ?_ ?_
      · refine Same.next ?_ (State.canFlush_same _ _ _) (by decide)
        refine Same.ite ?_ ?_
        · refine Same.next ?_ (State.txmEnd_same _ _ _ _) (by decide)
          refine Same.next ?_ (State.busEntry_same _ _ _) (by decide)
          refine Same.next ?_ (State.updCc_same _ _ _) (by decide)
          exact Same.refl _ _
        · refine Same.next ?_ (State.busEntry_same _ _ _) (by decide)
          refine Same.next ?_ (State.updCc_same _ _ _) (by decide)
          exact Same.refl _ _
      · refine Same.ite ?_ ?_
        · refine Same.next ?_ (State.txmEnd_same _ _ _ _) (by decide)
          refine Same.next ?_ (State.busEntry_same _ _ _) (by decide)
          refine Same.next ?_ (State.updCc_same _ _ _) (by decide)
          exact Same.refl _ _
        · refine Same.next ?_ (State.busEntry_same _ _ _) (by decide)
          refine Same.next ?_ (State.updCc_same _ _ _) (by decide)
          exact Same.refl _ _
    · refine Same.ite ?_ ?_
      · refine Same.next ?_ (State.beginRecovery_same _ _) (by decide)
        refine Same.ite ?_ ?_
        · refine Same.next ?_ (State.canFlush_same _ _ _) (by decide)
          refine Same.ite ?_ ?_
          · refine Same.next ?_ (State.txmEnd_same _ _ _ _) (by decide)
            refine Same.next ?_ (State.busEntry_same _ _ _) (by decide)
            refine Same.next ?_ (State.updCc_same _ _ _) (by decide)
            exact Same.refl _ _
          · refine Same.next ?_ (State.busEntry_same _ _ _) (by decide)
            refine Same.next ?_ (State.updCc_same _ _ _) (by decide)
            exact Same.refl _ _
        · refine Same.ite ?_ ?_
          · refine Same.next ?_ (State.txmEnd_same _ _ _ _) (by decide)
            refine Same.next ?_ (State.busEntry_same _ _ _) (by decide)
            refine Same.next ?_ (State.updCc_same _ _ _) (by decide)
            exact Same.refl _ _
          · refine Same.next ?_ (State.busEntry_same _ _ _) (by decide)
            refine Same.next ?_ (State.updCc_same _ _ _) (by decide)
            exact Same.refl _ _
      · refine Same.ite ?_ ?_
        · refine Same.next ?_ (State.canFlush_same _ _ _) (by decide)
          refine Same.ite ?_ ?_
          · refine Same.next ?_ (State.txmEnd_same _ _ _ _) (by decide)
            refine Same.next ?_ (State.busEntry_same _ _ _) (by decide)
            refine Same.next ?_ (State.updCc_same _ _ _) (by decide)
            exact Same.refl _ _
          · refine Same.next ?_ (State.busEntry_same _ _ _) (by decide)
            refine Same.next ?_ (State.updCc_same _ _ _) (by decide)
            exact Same.refl _ _
        · refine Same.ite ?_ ?_
          · refine Same.next ?_ (State.txmEnd_same _ _ _ _) (by decide)
            refine Same.next ?_ (State.busEntry_same _ _ _) (by decide)
            refine Same.next ?_ (State.updCc_same _ _ _) (by decide)
            exact Same.refl _ _
          · refine Same.next ?_ (State.busEntry_same _ _ _) (by decide)
            refine Same.next ?_ (State.updCc_same _ _ _) (by decide)
            exact Same.refl _ _

theorem State.busUpdate_same (s : State) (n : Nat) :
    Same 0x3180030000 s (State.busUpdate s n) := by
  unfold State.busUpdate
  refine Same.ite ?_ ?_
  · exact Same.refl _ _
  · conv => zeta
    split
    · refine Same.next ?_ (State.enterBusOff_same _ _) (by decide)
      exact Same.refl _ _
    · refine Same.next ?_ (State.busEntry_same _ _ _) (by decide)
      refine Same.next ?_ (State.updCc_same _ _ _) (by decide)
      exact Same.refl _ _
    · refine Same.next ?_ (State.busEntry_same _ _ _) (by decide)
      refine Same.next ?_ (State.updCc_same _ _ _) (by decide)
      exact Same.refl _ _

theorem State.canAbort_same (s : State) (l : Nat) (p : TxFrame → Bool) :
    Same 0x80000000 s (State.canAbort s l p) := by
  unfold State.canAbort
  refine Same.next ?_ (State.canWithdraw_same _ _ _ _) (by decide)
  refine Same.next ?_ (State.updCc_same _ _ _) (by decide)
  exact Same.refl _ _

theorem State.packTable_same (s : State) (t : Nat) (b : List Byte) :
    Same 0x800000000 s (State.packTable s t b).2 := by
  unfold State.packTable
  refine Same.pair2 ?_
  refine Same.next ?_ Same.set_fmt (by decide)
  exact Same.refl _ _

theorem State.canBuild_same (s : State) (t : Nat) (cyclic : Bool) :
    Same 0x880000000 s (State.canBuild s t cyclic) := by
  unfold State.canBuild
  conv => zeta
  split
  · exact Same.refl _ _
  · refine Same.ite ?_ ?_
    · exact Same.refl _ _
    · refine Same.ite ?_ ?_
      · refine Same.next ?_ (State.updCc_same _ _ _) (by decide)
        refine Same.next ?_ (State.packTable_same _ _ _) (by decide)
        exact Same.refl _ _
      · refine Same.next ?_ (State.canEnqueue_same _ _ _ _ _ _) (by decide)
        refine Same.next ?_ (State.packTable_same _ _ _) (by decide)
        exact Same.refl _ _

theorem State.canRecover_same (s : State) (n : Nat) :
    Same 0x80000000 s (State.canRecover s n) := by
  unfold State.canRecover
  refine Same.ite ?_ ?_
  · refine Same.next ?_ (State.beginRecovery_same _ _) (by decide)
    refine Same.next ?_ (State.updCc_same _ _ _) (by decide)
    exact Same.refl _ _
  · exact Same.refl _ _

theorem State.canCmd_same (s : State) (v : Word) :
    Same 0x80000000 s (State.canCmd s v) := by
  unfold State.canCmd
  conv => zeta
  split
  · refine Same.next ?_ (State.canRecover_same _ _) (by decide)
    exact Same.refl _ _
  · refine Same.next ?_ (State.canAbort_same _ _ _) (by decide)
    exact Same.refl _ _
  · refine Same.next ?_ (State.canAbort_same _ _ _) (by decide)
    exact Same.refl _ _
  · refine Same.ite ?_ ?_
    · refine Same.next ?_ (State.beginDetect_same _ _) (by decide)
      exact Same.refl _ _
    · exact Same.refl _ _
  · exact Same.refl _ _

theorem State.canCntClear_same (s : State) (m : Nat) :
    Same 0x80000000 s (State.canCntClear s m) := by
  unfold State.canCntClear
  refine Same.next ?_ (State.updCan_same _ _) (by decide)
  exact Same.refl _ _

theorem State.canOff_same (s : State) (n : Nat) :
    Same 0x3180030000 s (State.canOff s n) := by
  unfold State.canOff
  refine Same.ite ?_ ?_
  · refine Same.next ?_ (State.updCc_same _ _ _) (by decide)
    refine Same.next ?_ (State.canFlush_same _ _ _) (by decide)
    conv => zeta
    split
    · refine Same.next ?_ (State.pathCond_same _ _ _ _ _) (by decide)
      refine Same.next ?_ (State.updCc_same _ _ _) (by decide)
      exact Same.refl _ _
    · refine Same.next ?_ (State.updCc_same _ _ _) (by decide)
      exact Same.refl _ _
  · refine Same.next ?_ (State.updCc_same _ _ _) (by decide)
    refine Same.next ?_ (State.updCc_same _ _ _) (by decide)
    refine Same.next ?_ (State.canFlush_same _ _ _) (by decide)
    conv => zeta
    split
    · refine Same.next ?_ (State.pathCond_same _ _ _ _ _) (by decide)
      refine Same.next ?_ (State.updCc_same _ _ _) (by decide)
      exact Same.refl _ _
    · refine Same.next ?_ (State.updCc_same _ _ _) (by decide)
      exact Same.refl _ _

theorem State.canOffDue_same (s : State) (n : Nat) :
    Same 0x3180030000 s (State.canOffDue s n) := by
  unfold State.canOffDue
  refine Same.ite ?_ ?_
  · refine Same.next ?_ (State.canOff_same _ _) (by decide)
    exact Same.refl _ _
  · exact Same.refl _ _

theorem State.canSetEnable_same (s : State) (n : Nat) (en : Bool) :
    Same 0x3180030000 s (State.canSetEnable s n en) := by
  unfold State.canSetEnable
  refine Same.ite ?_ ?_
  · refine Same.next ?_ (State.updCc_same _ _ _) (by decide)
    exact Same.refl _ _
  · refine Same.ite ?_ ?_
    · conv => zeta
      split
      · refine Same.next ?_ (State.updPair_same _ _ _) (by decide)
        refine Same.next ?_ (State.beginDetect_same _ _) (by decide)
        refine Same.next ?_ (State.updCc_same _ _ _) (by decide)
        exact Same.refl _ _
      · refine Same.next ?_ (State.beginDetect_same _ _) (by decide)
        refine Same.next ?_ (State.updCc_same _ _ _) (by decide)
        exact Same.refl _ _
    · refine Same.next ?_ (State.canOffDue_same _ _) (by decide)
      refine Same.next ?_ (State.updCc_same _ _ _) (by decide)
      exact Same.refl _ _

theorem State.canEnable_same (s : State) (v : Nat) :
    Same 0x3180030000 s (State.canEnable s v) := by
  unfold State.canEnable
  refine Same.next ?_ (State.updCan_same _ _) (by decide)
  refine Same.fold _ ?_ ?_
  · exact Same.refl _ _
  · intro u a hu
    refine Same.next ?_ (State.canSetEnable_same _ _ _) (by decide)
    assumption

theorem State.canLatch_same (s : State) (pos : Word) :
    Same 0x80000000 s (State.canLatch s pos) := by
  unfold State.canLatch
  refine Same.next ?_ (State.updCan_same _ _) (by decide)
  exact Same.refl _ _

theorem State.canNext_same (s : State) (n : Nat) :
    Same 0x3180030000 s (State.canNext s n) := by
  unfold State.canNext
  refine Same.next ?_ (State.canOffDue_same _ _) (by decide)
  refine Same.ite ?_ ?_
  · refine Same.next ?_ (State.canMove_same _ _ _) (by decide)
    exact Same.refl _ _
  · refine Same.next ?_ (State.canStart_same _ _) (by decide)
    exact Same.refl _ _

theorem State.canService_same (s : State) (l : Nat) (id : Nat) (data : List Byte) (sa : Option Nat) :
    Same 0x80000000 s (State.canService s l id data sa) := by
  unfold State.canService
  refine Same.ite ?_ ?_
  · exact Same.refl _ _
  · refine Same.next ?_ (State.canEnqueue_same _ _ _ _ _ _) (by decide)
    exact Same.refl _ _

theorem State.tpCm_same (s : State) (l : Nat) (etp : Bool) (prio : Nat) (da : Nat) (data : List Byte) :
    Same 0x80000000 s (State.tpCm s l etp prio da data) := by
  unfold State.tpCm
  refine Same.next ?_ (State.canService_same _ _ _ _ _) (by decide)
  exact Same.refl _ _

theorem State.canTxmSend_same (s : State) :
    Same 0x80000000 s (State.canTxmSend s) := by
  unfold State.canTxmSend
  conv => zeta
  split
  · refine Same.next ?_ (State.updCan_same _ _) (by decide)
    exact Same.refl _ _
  · refine Same.next ?_ (State.tpCm_same _ _ _ _ _ _) (by decide)
    refine Same.next ?_ (State.updCan_same _ _) (by decide)
    refine Same.next ?_ (State.updCc_same _ _ _) (by decide)
    exact Same.refl _ _

theorem State.canTxsSend_same (s : State) :
    Same 0x80000000 s (State.canTxsSend s) := by
  unfold State.canTxsSend
  refine Same.ite ?_ ?_
  · refine Same.next ?_ (State.txFail_same _ _ _ _) (by decide)
    exact Same.refl _ _
  · refine Same.next ?_ (State.canEnqueue_same _ _ _ _ _ _) (by decide)
    exact Same.refl _ _

theorem State.rxTick_same (s : State) :
    Same 0x80000000 s (State.rxTick s) := by
  unfold State.rxTick
  refine Same.next ?_ (State.updCan_same _ _) (by decide)
  exact Same.refl _ _

theorem State.wantTick_same (s : State) :
    Same 0x180000 s (State.wantTick s) := by
  unfold State.wantTick
  refine Same.next ?_ Same.set_psw_vlv (by decide)
  exact Same.refl _ _

theorem State.sendClaim_same (s : State) (l : Nat) (sa : Nat) :
    Same 0x80000000 s (State.sendClaim s l sa) := by
  unfold State.sendClaim
  refine Same.next ?_ (State.canService_same _ _ _ _ _) (by decide)
  exact Same.refl _ _

theorem State.claimAsked_same (s : State) (l : Nat) :
    Same 0x80000000 s (State.claimAsked s l) := by
  unfold State.claimAsked
  conv => zeta
  split
  · exact Same.refl _ _
  · refine Same.next ?_ (State.sendClaim_same _ _ _) (by decide)
    exact Same.refl _ _
  · refine Same.next ?_ (State.sendClaim_same _ _ _) (by decide)
    exact Same.refl _ _

theorem State.claimLost_same (s : State) (l : Nat) :
    Same 0x80000000 s (State.claimLost s l) := by
  unfold State.claimLost
  refine Same.ite ?_ ?_
  · refine Same.next ?_ (State.txmEnd_same _ _ _ _) (by decide)
    refine Same.next ?_ (State.canWithdraw_same _ _ _ _) (by decide)
    refine Same.next ?_ (State.updCc_same _ _ _) (by decide)
    exact Same.refl _ _
  · refine Same.next ?_ (State.canWithdraw_same _ _ _ _) (by decide)
    refine Same.next ?_ (State.updCc_same _ _ _) (by decide)
    exact Same.refl _ _

theorem State.claimFor_same (s : State) (l : Nat) (st : Nat) :
    Same 0x80000000 s (State.claimFor s l st) := by
  unfold State.claimFor
  conv => zeta
  split
  · refine Same.next ?_ (State.updCc_same _ _ _) (by decide)
    refine Same.next ?_ (State.updCc_same _ _ _) (by decide)
    exact Same.refl _ _
  · refine Same.ite ?_ ?_
    · refine Same.next ?_ (State.sendClaim_same _ _ _) (by decide)
      refine Same.next ?_ (State.updCc_same _ _ _) (by decide)
      refine Same.next ?_ (State.claimLost_same _ _) (by decide)
      refine Same.next ?_ (State.updCc_same _ _ _) (by decide)
      exact Same.refl _ _
    · refine Same.next ?_ (State.sendClaim_same _ _ _) (by decide)
      refine Same.next ?_ (State.updCc_same _ _ _) (by decide)
      refine Same.next ?_ (State.updCc_same _ _ _) (by decide)
      exact Same.refl _ _

theorem State.claimPoll_same (s : State) :
    Same 0x80000000 s (State.claimPoll s) := by
  unfold State.claimPoll
  refine Same.fold _ ?_ ?_
  · exact Same.refl _ _
  · intro u a hu
    conv => zeta
    split
    · assumption
    · conv => zeta
      split
      · assumption
      · refine Same.ite ?_ ?_
        · assumption
        · refine Same.next ?_ (State.claimFor_same _ _ _) (by decide)
          assumption

theorem State.claimSeen_same (s : State) (l : Nat) (sa : Nat) (name : Nat) :
    Same 0x80000000 s (State.claimSeen s l sa name) := by
  unfold State.claimSeen
  refine Same.ite ?_ ?_
  · exact Same.refl _ _
  · refine Same.ite ?_ ?_
    · refine Same.next ?_ (State.claimLost_same _ _) (by decide)
      exact Same.refl _ _
    · refine Same.ite ?_ ?_
      · refine Same.next ?_ (State.sendClaim_same _ _ _) (by decide)
        exact Same.refl _ _
      · exact Same.refl _ _

theorem State.loopAnswer_same (s : State) (a : LoopAnswer) :
    Same 0x2000010000 s (State.loopAnswer s a) := by
  unfold State.loopAnswer
  refine Same.next ?_ (State.complete_same _ _ _ _) (by decide)
  exact Same.refl _ _

theorem State.updPg_same (s : State) (n : Nat) (f : Pg → Pg) :
    Same 0x2000000 s (State.updPg s n f) := by
  unfold State.updPg
  refine Same.next ?_ Same.set_prf (by decide)
  exact Same.refl _ _

theorem State.slotGenerator_same (s : State) (n : Nat) :
    Same 0x2000000 s (State.slotGenerator s n) := by
  unfold State.slotGenerator
  refine Same.ite ?_ ?_
  · refine Same.next ?_ (State.updPg_same _ _ _) (by decide)
    exact Same.refl _ _
  · refine Same.next ?_ (State.updPg_same _ _ _) (by decide)
    exact Same.refl _ _

theorem State.updMf_same (s : State) (m : Nat) (f : Mf → Mf) :
    Same 0x2000000 s (State.updMf s m f) := by
  unfold State.updMf
  refine Same.next ?_ Same.set_prf (by decide)
  exact Same.refl _ _

theorem State.mfClamp_same (s : State) (m : Nat) (x : F32) :
    Same 0x2000000 s (State.mfClamp s m x).2 := by
  unfold State.mfClamp
  refine Same.ite2 ?_ ?_
  · refine Same.pair2 ?_
    exact Same.refl _ _
  · refine Same.pair2 ?_
    refine Same.next ?_ (State.updMf_same _ _ _) (by decide)
    exact Same.refl _ _

theorem State.mfHere_same (s : State) (m : Nat) :
    Same 0x2000000 s (State.mfHere s m) := by
  unfold State.mfHere
  refine Same.next ?_ (State.updMf_same _ _ _) (by decide)
  refine Same.next ?_ (State.mfClamp_same _ _ _) (by decide)
  exact Same.refl _ _

theorem State.slotModeStep_same (s : State) (n : Nat) :
    Same 0x3000000 s (State.slotModeStep s n) := by
  unfold State.slotModeStep
  refine Same.ite ?_ ?_
  · conv => zeta
    split
    · refine Same.ite ?_ ?_
      · refine Same.next ?_ (State.mfHere_same _ _) (by decide)
        refine Same.next ?_ (State.updSlot_same _ _ _) (by decide)
        exact Same.refl _ _
      · refine Same.next ?_ (State.updSlot_same _ _ _) (by decide)
        exact Same.refl _ _
    · refine Same.next ?_ (State.updSlot_same _ _ _) (by decide)
      refine Same.next ?_ (State.updPg_same _ _ _) (by decide)
      refine Same.next ?_ (State.updSlot_same _ _ _) (by decide)
      exact Same.refl _ _
  · refine Same.next ?_ (State.updSlot_same _ _ _) (by decide)
    exact Same.refl _ _

theorem State.stallOff_same (s : State) (n : Nat) :
    Same 0x1000000 s (State.stallOff s n) := by
  unfold State.stallOff
  refine Same.ite ?_ ?_
  · refine Same.next ?_ Same.set_lop (by decide)
    exact Same.refl _ _
  · exact Same.refl _ _

theorem State.slotFault_same (s : State) (n : Nat) (code : Byte) (at_ : Nat) :
    Same 0x3001030000 s (State.slotFault s n code at_) := by
  unfold State.slotFault
  refine Same.ite ?_ ?_
  · exact Same.refl _ _
  · refine Same.next ?_ (State.unitFault_same _ _ _ _) (by decide)
    refine Same.next ?_ (State.stallOff_same _ _) (by decide)
    refine Same.next ?_ (State.updSlot_same _ _ _) (by decide)
    exact Same.refl _ _

theorem State.slotProcCheck_same (s : State) (n : Nat) :
    Same 0x3001030000 s (State.slotProcCheck s n) := by
  unfold State.slotProcCheck
  refine Same.ite ?_ ?_
  · exact Same.refl _ _
  · refine Same.next ?_ (State.slotFault_same _ _ _ _) (by decide)
    exact Same.refl _ _

theorem State.slotInvalid_same (s : State) (n : Nat) (hold : Bool) (outTick : Nat) :
    Same 0x3001030000 s (State.slotInvalid s n hold outTick) := by
  unfold State.slotInvalid
  refine Same.ite ?_ ?_
  · refine Same.ite ?_ ?_
    · refine Same.next ?_ (State.slotFault_same _ _ _ _) (by decide)
      refine Same.next ?_ (State.updSlot_same _ _ _) (by decide)
      exact Same.refl _ _
    · refine Same.next ?_ (State.updSlot_same _ _ _) (by decide)
      exact Same.refl _ _
  · refine Same.next ?_ (State.slotFault_same _ _ _ _) (by decide)
    exact Same.refl _ _

theorem State.stallTake_same (s : State) (n : Nat) :
    Same 0x1000000 s (State.stallTake s n).2 := by
  unfold State.stallTake
  refine Same.ite2 ?_ ?_
  · refine Same.pair2 ?_
    refine Same.next ?_ Same.set_lop (by decide)
    exact Same.refl _ _
  · refine Same.pair2 ?_
    exact Same.refl _ _

theorem State.slotStart_same (s : State) (n : Nat) (j : LoopJob) :
    Same 0x1000000 s (State.slotStart s n j) := by
  unfold State.slotStart
  refine Same.next ?_ (State.updSlot_same _ _ _) (by decide)
  refine Same.next ?_ (State.stallTake_same _ _) (by decide)
  exact Same.refl _ _

theorem State.slotSample_same (s : State) (n : Nat) :
    Same 0x3001030000 s (State.slotSample s n) := by
  unfold State.slotSample
  conv => zeta
  split
  · refine Same.next ?_ (State.updSlot_same _ _ _) (by decide)
    refine Same.next ?_ (State.updSlot_same _ _ _) (by decide)
    exact Same.refl _ _
  · refine Same.next ?_ (State.slotStart_same _ _ _) (by decide)
    refine Same.next ?_ (State.updSlot_same _ _ _) (by decide)
    exact Same.refl _ _
  · refine Same.ite ?_ ?_
    · refine Same.ite ?_ ?_
      · refine Same.next ?_ (State.slotInvalid_same _ _ _ _) (by decide)
        refine Same.next ?_ (State.updSlot_same _ _ _) (by decide)
        exact Same.refl _ _
      · refine Same.next ?_ (State.slotStart_same _ _ _) (by decide)
        refine Same.next ?_ (State.updSlot_same _ _ _) (by decide)
        exact Same.refl _ _
    · refine Same.ite ?_ ?_
      · refine Same.next ?_ (State.slotInvalid_same _ _ _ _) (by decide)
        refine Same.next ?_ (State.updSlot_same _ _ _) (by decide)
        exact Same.refl _ _
      · refine Same.next ?_ (State.slotStart_same _ _ _) (by decide)
        refine Same.next ?_ (State.updSlot_same _ _ _) (by decide)
        exact Same.refl _ _

theorem State.lopSamples_same (s : State) (due : List Nat) :
    Same 0x3003030000 s (State.lopSamples s due) := by
  unfold State.lopSamples
  refine Same.fold _ ?_ ?_
  · refine Same.fold _ ?_ ?_
    · refine Same.fold _ ?_ ?_
      · refine Same.fold _ ?_ ?_
        · exact Same.refl _ _
        · intro u a hu
          refine Same.next ?_ (State.slotProcCheck_same _ _) (by decide)
          assumption
      · intro u a hu
        refine Same.next ?_ (State.slotModeStep_same _ _) (by decide)
        assumption
    · intro u a hu
      refine Same.next ?_ (State.slotGenerator_same _ _) (by decide)
      assumption
  · intro u a hu
    refine Same.next ?_ (State.slotSample_same _ _) (by decide)
    assumption

theorem State.lopTickSample_same (s : State) :
    Same 0x3003030000 s (State.lopTickSample s) := by
  unfold State.lopTickSample
  refine Same.next ?_ (State.lopSamples_same _ _) (by decide)
  exact Same.refl _ _

theorem State.updProc_same (s : State) (p : Nat) (f : Proc → Proc) :
    Same 0x1000000 s (State.updProc s p f) := by
  unfold State.updProc
  refine Same.next ?_ Same.set_lop (by decide)
  exact Same.refl _ _

theorem State.procStart_same (s : State) (p : Nat) :
    Same 0x1000000 s (State.procStart s p) := by
  unfold State.procStart
  refine Same.next ?_ (State.updProc_same _ _ _) (by decide)
  exact Same.refl _ _

theorem State.slotApply_same (s : State) (n : Nat) (u : F32) :
    Same 0x1000000 s (State.slotApply s n u) := by
  unfold State.slotApply
  refine Same.ite ?_ ?_
  · refine Same.next ?_ (State.updSlot_same _ _ _) (by decide)
    refine Same.next ?_ (State.updSlot_same _ _ _) (by decide)
    exact Same.refl _ _
  · refine Same.next ?_ (State.updSlot_same _ _ _) (by decide)
    exact Same.refl _ _

theorem State.slotFaultAct_same (s : State) (n : Nat) :
    Same 0x1000000 s (State.slotFaultAct s n) := by
  unfold State.slotFaultAct
  refine Same.ite ?_ ?_
  · refine Same.next ?_ (State.updSlot_same _ _ _) (by decide)
    refine Same.next ?_ (State.updSlot_same _ _ _) (by decide)
    exact Same.refl _ _
  · conv => zeta
    split
    · refine Same.next ?_ (State.slotApply_same _ _ _) (by decide)
      refine Same.next ?_ (State.updSlot_same _ _ _) (by decide)
      exact Same.refl _ _
    · refine Same.next ?_ (State.updSlot_same _ _ _) (by decide)
      refine Same.next ?_ (State.updSlot_same _ _ _) (by decide)
      exact Same.refl _ _
    · refine Same.next ?_ (State.updSlot_same _ _ _) (by decide)
      exact Same.refl _ _

theorem State.slotSetEnable_same (s : State) (n : Nat) (on : Bool) :
    Same 0x1000000 s (State.slotSetEnable s n on) := by
  unfold State.slotSetEnable
  refine Same.ite ?_ ?_
  · exact Same.refl _ _
  · refine Same.ite ?_ ?_
    · refine Same.next ?_ (State.updSlot_same _ _ _) (by decide)
      refine Same.next ?_ (State.procStart_same _ _) (by decide)
      exact Same.refl _ _
    · refine Same.ite ?_ ?_
      · refine Same.next ?_ (State.updSlot_same _ _ _) (by decide)
        refine Same.next ?_ (State.stallOff_same _ _) (by decide)
        refine Same.next ?_ (State.updSlot_same _ _ _) (by decide)
        exact Same.refl _ _
      · refine Same.next ?_ (State.slotFaultAct_same _ _) (by decide)
        refine Same.next ?_ (State.stallOff_same _ _) (by decide)
        refine Same.next ?_ (State.updSlot_same _ _ _) (by decide)
        exact Same.refl _ _

theorem State.loopCommand_same (s : State) (n : Nat) (k : LoopCmd) :
    Same 0x1000000 s (State.loopCommand s n k).1 := by
  unfold State.loopCommand
  refine Same.ite1 ?_ ?_
  · refine Same.pair1 ?_
    refine Same.next ?_ (State.slotSetEnable_same _ _ _) (by decide)
    refine Same.next ?_ Same.set_lop (by decide)
    exact Same.refl _ _
  · refine Same.ite1 ?_ ?_
    · refine Same.pair1 ?_
      exact Same.refl _ _
    · conv => zeta
      split
      · refine Same.ite1 ?_ ?_
        · refine Same.pair1 ?_
          exact Same.refl _ _
        · refine Same.pair1 ?_
          refine Same.next ?_ (State.updSlot_same _ _ _) (by decide)
          exact Same.refl _ _
      · refine Same.ite1 ?_ ?_
        · refine Same.pair1 ?_
          exact Same.refl _ _
        · refine Same.pair1 ?_
          refine Same.next ?_ (State.updSlot_same _ _ _) (by decide)
          exact Same.refl _ _
      · refine Same.ite1 ?_ ?_
        · refine Same.pair1 ?_
          exact Same.refl _ _
        · refine Same.pair1 ?_
          refine Same.next ?_ (State.updSlot_same _ _ _) (by decide)
          exact Same.refl _ _
      · refine Same.ite1 ?_ ?_
        · refine Same.pair1 ?_
          exact Same.refl _ _
        · refine Same.pair1 ?_
          refine Same.next ?_ (State.updSlot_same _ _ _) (by decide)
          exact Same.refl _ _
      · refine Same.pair1 ?_
        refine Same.next ?_ (State.slotSetEnable_same _ _ _) (by decide)
        refine Same.next ?_ Same.set_lop (by decide)
        exact Same.refl _ _

theorem State.slotCommands_same (s : State) (n : Nat) (due : Bool) :
    Same 0x1000000 s (s.slotCommands n due).1 := by
  unfold State.slotCommands
  conv => zeta
  generalize List.filter _ (s.slot n).cmds = l
  suffices h : ∀ (a : State × List LoopAnswer), Same 0x1000000 s a.1 → Same 0x1000000 s (l.foldl _ a).1 from
    h _ ((Same.refl _ _).next (State.updSlot_same _ _ _) (by decide))
  induction l with
  | nil => exact fun a h => h
  | cons i l ih => exact fun a h => ih _ (h.next (State.loopCommand_same _ _ _) (by decide))

theorem State.lopCommands_same (s : State) (ns : List Nat) : Same 0x1000000 s (s.lopCommands ns).1 := by
  unfold State.lopCommands
  suffices h : ∀ (a : State × List LoopAnswer), Same 0x1000000 s a.1 → Same 0x1000000 s (ns.foldl _ a).1 from h _ (Same.refl _ _)
  induction ns with
  | nil => exact fun a h => h
  | cons i l ih =>
    exact fun a h => ih _ ((h.next (State.slotCommands_same _ _ _) (by decide)).next (State.slotSetEnable_same _ _ _) (by decide))

theorem State.lopGroups_same (s : State) :
    Same 0x2000014000 s (State.lopGroups s) := by
  unfold State.lopGroups
  refine Same.fold _ ?_ ?_
  · exact Same.refl _ _
  · intro u a hu
    refine Same.next ?_ (State.applyGroup_same _ _) (by decide)
    assumption

theorem State.lawDone_same (s : State) (n : Nat) (j : LoopJob) (ua : F32) :
    Same 0x1000000 s (State.lawDone s n j ua) := by
  unfold State.lawDone
  refine Same.ite ?_ ?_
  · exact Same.refl _ _
  · refine Same.next ?_ (State.updSlot_same _ _ _) (by decide)
    exact Same.refl _ _

theorem State.finishCands_same (s : State) (j : LoopJob) (u : F32) :
    Same 0x1000000 s (State.finishCands s j u) := by
  unfold State.finishCands
  refine Same.fold _ ?_ ?_
  · exact Same.refl _ _
  · intro u a hu
    refine Same.next ?_ (State.lawDone_same _ _ _ _) (by decide)
    assumption

theorem State.overrun_same (s : State) (n : Nat) (j : LoopJob) :
    Same 0x3001030000 s (State.overrun s n j) := by
  unfold State.overrun
  refine Same.ite ?_ ?_
  · refine Same.next ?_ (State.slotFault_same _ _ _ _) (by decide)
    refine Same.next ?_ (State.updSlot_same _ _ _) (by decide)
    refine Same.ite ?_ ?_
    · refine Same.next ?_ (State.finishCands_same _ _ _) (by decide)
      exact Same.refl _ _
    · exact Same.refl _ _
  · refine Same.next ?_ (State.updSlot_same _ _ _) (by decide)
    refine Same.ite ?_ ?_
    · refine Same.next ?_ (State.finishCands_same _ _ _) (by decide)
      exact Same.refl _ _
    · exact Same.refl _ _

theorem State.slotOutputs_same (s : State) (n : Nat) :
    Same 0x3001030000 s (State.slotOutputs s n) := by
  unfold State.slotOutputs
  refine Same.ite ?_ ?_
  · refine Same.next ?_ (State.slotFaultAct_same _ _) (by decide)
    conv => zeta
    split
    · refine Same.ite ?_ ?_
      · exact Same.refl _ _
      · refine Same.ite ?_ ?_
        · refine Same.next ?_ (State.updSlot_same _ _ _) (by decide)
          refine Same.next ?_ (State.slotApply_same _ _ _) (by decide)
          exact Same.refl _ _
        · refine Same.next ?_ (State.overrun_same _ _ _) (by decide)
          exact Same.refl _ _
    · exact Same.refl _ _
  · conv => zeta
    split
    · refine Same.ite ?_ ?_
      · exact Same.refl _ _
      · refine Same.ite ?_ ?_
        · refine Same.next ?_ (State.updSlot_same _ _ _) (by decide)
          refine Same.next ?_ (State.slotApply_same _ _ _) (by decide)
          exact Same.refl _ _
        · refine Same.next ?_ (State.overrun_same _ _ _) (by decide)
          exact Same.refl _ _
    · exact Same.refl _ _

theorem State.lopTickStart_same (s : State) :
    Same 0x3001034000 s (State.lopTickStart s).1 := by
  unfold State.lopTickStart
  refine Same.next ?_ (State.lopCommands_same _ _) (by decide)
  refine Same.next ?_ (State.lopGroups_same _) (by decide)
  refine Same.fold _ ?_ ?_
  · refine Same.next ?_ Same.set_lop (by decide)
    exact Same.refl _ _
  · intro u a hu
    refine Same.next ?_ (State.slotOutputs_same _ _) (by decide)
    assumption

theorem State.mfComplete_same (s : State) (m : Nat) :
    Same 0x2002010000 s (State.mfComplete s m) := by
  unfold State.mfComplete
  refine Same.fold _ ?_ ?_
  · refine Same.next ?_ (State.updMf_same _ _ _) (by decide)
    exact Same.refl _ _
  · intro u a hu
    refine Same.next ?_ (State.complete_same _ _ _ _) (by decide)
    assumption

theorem State.mfStatus_same (s : State) (m : Nat) :
    Same 0x2000000 s (State.mfStatus s m) := by
  unfold State.mfStatus
  refine Same.ite ?_ ?_
  · exact Same.refl _ _
  · refine Same.next ?_ (State.updMf_same _ _ _) (by decide)
    exact Same.refl _ _

theorem State.mfEnter_same (s : State) (m : Nat) (md : Nat) :
    Same 0x2000000 s (State.mfEnter s m md) := by
  unfold State.mfEnter
  refine Same.ite ?_ ?_
  · exact Same.refl _ _
  · refine Same.ite ?_ ?_
    · refine Same.next ?_ (State.updMf_same _ _ _) (by decide)
      exact Same.refl _ _
    · refine Same.next ?_ (State.mfHere_same _ _) (by decide)
      refine Same.next ?_ (State.updMf_same _ _ _) (by decide)
      exact Same.refl _ _

theorem State.mfAbsent_same (s : State) (m : Nat) :
    Same 0x2000000 s (State.mfAbsent s m) := by
  unfold State.mfAbsent
  refine Same.ite ?_ ?_
  · exact Same.refl _ _
  · conv => zeta
    split
    · refine Same.next ?_ (State.mfEnter_same _ _ _) (by decide)
      refine Same.next ?_ (State.updMf_same _ _ _) (by decide)
      exact Same.refl _ _
    · refine Same.next ?_ (State.mfEnter_same _ _ _) (by decide)
      refine Same.next ?_ (State.updMf_same _ _ _) (by decide)
      exact Same.refl _ _
    · refine Same.next ?_ (State.updMf_same _ _ _) (by decide)
      exact Same.refl _ _

theorem State.mfSetMode_same (s : State) (m : Nat) (md : Nat) :
    Same 0x2000000 s (State.mfSetMode s m md) := by
  unfold State.mfSetMode
  refine Same.ite ?_ ?_
  · exact Same.refl _ _
  · refine Same.next ?_ (State.updMf_same _ _ _) (by decide)
    refine Same.next ?_ (State.mfEnter_same _ _ _) (by decide)
    exact Same.refl _ _

theorem State.mfTake_same (s : State) (m : Nat) (src : Nat) (x : F32) :
    Same 0x2000000 s (State.mfTake s m src x) := by
  unfold State.mfTake
  refine Same.ite ?_ ?_
  · exact Same.refl _ _
  · refine Same.next ?_ (State.updMf_same _ _ _) (by decide)
    refine Same.next ?_ (State.mfClamp_same _ _ _) (by decide)
    exact Same.refl _ _

theorem State.mfCommand_same (s : State) (m : Nat) (c : MfCmd) :
    Same 0x2000000 s (State.mfCommand s m c) := by
  unfold State.mfCommand
  conv => zeta
  split
  · refine Same.next ?_ (State.mfSetMode_same _ _ _) (by decide)
    exact Same.refl _ _
  · refine Same.next ?_ (State.mfTake_same _ _ _ _) (by decide)
    exact Same.refl _ _
  · refine Same.next ?_ (State.updMf_same _ _ _) (by decide)
    exact Same.refl _ _

theorem State.mfCommands_same (s : State) (m : Nat) :
    Same 0x2000000 s (State.mfCommands s m) := by
  unfold State.mfCommands
  refine Same.fold _ ?_ ?_
  · exact Same.refl _ _
  · intro u a hu
    refine Same.next ?_ (State.mfCommand_same _ _ _) (by decide)
    assumption

theorem State.mfIlkOpen_same (s : State) (m : Nat) (term : Nat) :
    Same 0x2000000 s (State.mfIlkOpen s m term) := by
  unfold State.mfIlkOpen
  refine Same.next ?_ (State.updMf_same _ _ _) (by decide)
  exact Same.refl _ _

theorem State.mfOvrValue_same (s : State) (m : Nat) :
    Same 0x2000000 s (State.mfOvrValue s m) := by
  unfold State.mfOvrValue
  refine Same.ite ?_ ?_
  · exact Same.refl _ _
  · refine Same.ite ?_ ?_
    · refine Same.next ?_ (State.updMf_same _ _ _) (by decide)
      refine Same.next ?_ (State.mfClamp_same _ _ _) (by decide)
      exact Same.refl _ _
    · refine Same.next ?_ (State.updMf_same _ _ _) (by decide)
      exact Same.refl _ _

theorem State.mfOvrOpen_same (s : State) (m : Nat) :
    Same 0x2000000 s (State.mfOvrOpen s m) := by
  unfold State.mfOvrOpen
  refine Same.next ?_ (State.mfOvrValue_same _ _) (by decide)
  refine Same.next ?_ (State.updMf_same _ _ _) (by decide)
  exact Same.refl _ _

theorem State.mfRearm_same (s : State) (m : Nat) (resume : Bool) :
    Same 0x2000000 s (State.mfRearm s m resume) := by
  unfold State.mfRearm
  conv => zeta
  split
  · refine Same.ite ?_ ?_
    · refine Same.next ?_ (State.updMf_same _ _ _) (by decide)
      refine Same.next ?_ (State.updMf_same _ _ _) (by decide)
      exact Same.refl _ _
    · refine Same.next ?_ (State.mfHere_same _ _) (by decide)
      refine Same.next ?_ (State.updMf_same _ _ _) (by decide)
      exact Same.refl _ _
  · refine Same.next ?_ (State.mfHere_same _ _) (by decide)
    refine Same.next ?_ (State.updMf_same _ _ _) (by decide)
    exact Same.refl _ _

theorem State.mfOverlay_same (s : State) (m : Nat) :
    Same 0x2000000 s (State.mfOverlay s m) := by
  unfold State.mfOverlay
  refine Same.ite ?_ ?_
  · exact Same.refl _ _
  · refine Same.ite ?_ ?_
    · refine Same.next ?_ (State.updMf_same _ _ _) (by decide)
      exact Same.refl _ _
    · conv => zeta
      split
      · refine Same.next ?_ (State.mfHere_same _ _) (by decide)
        refine Same.next ?_ (State.updMf_same _ _ _) (by decide)
        exact Same.refl _ _
      · conv => zeta
        split
        · refine Same.next ?_ (State.mfIlkOpen_same _ _ _) (by decide)
          exact Same.refl _ _
        · refine Same.ite ?_ ?_
          · refine Same.next ?_ (State.mfOvrOpen_same _ _) (by decide)
            exact Same.refl _ _
          · exact Same.refl _ _
      · conv => zeta
        split
        · refine Same.next ?_ (State.mfIlkOpen_same _ _ _) (by decide)
          exact Same.refl _ _
        · refine Same.ite ?_ ?_
          · refine Same.next ?_ (State.mfOvrValue_same _ _) (by decide)
            exact Same.refl _ _
          · refine Same.next ?_ (State.mfRearm_same _ _ _) (by decide)
            exact Same.refl _ _
      · conv => zeta
        split
        · refine Same.next ?_ (State.updMf_same _ _ _) (by decide)
          exact Same.refl _ _
        · refine Same.next ?_ (State.updMf_same _ _ _) (by decide)
          exact Same.refl _ _
      · exact Same.refl _ _

theorem State.mfReturn_same (s : State) (m : Nat) :
    Same 0x2000000 s (State.mfReturn s m) := by
  unfold State.mfReturn
  conv => zeta
  split
  · refine Same.ite ?_ ?_
    · refine Same.next ?_ (State.mfEnter_same _ _ _) (by decide)
      refine Same.next ?_ (State.updMf_same _ _ _) (by decide)
      exact Same.refl _ _
    · refine Same.next ?_ (State.updMf_same _ _ _) (by decide)
      exact Same.refl _ _
  · refine Same.next ?_ (State.updMf_same _ _ _) (by decide)
    exact Same.refl _ _

theorem State.mfTick_same (s : State) :
    Same 0x2000000 s (State.mfTick s) := by
  unfold State.mfTick
  refine Same.fold _ ?_ ?_
  · refine Same.next ?_ Same.set_prf (by decide)
    refine Same.ite ?_ ?_
    · refine Same.fold _ ?_ ?_
      · refine Same.ite ?_ ?_
        · refine Same.fold _ ?_ ?_
          · refine Same.fold _ ?_ ?_
            · refine Same.next ?_ Same.set_prf (by decide)
              refine Same.fold _ ?_ ?_
              · refine Same.fold _ ?_ ?_
                · exact Same.refl _ _
                · intro u a hu
                  conv => zeta
                  split
                  · refine Same.ite ?_ ?_
                    · refine Same.next ?_ (State.mfSetMode_same _ _ _) (by decide)
                      assumption
                    · assumption
                  · assumption
              · intro u a hu
                conv => zeta
                split
                · refine Same.ite ?_ ?_
                  · refine Same.next ?_ (State.mfTake_same _ _ _ _) (by decide)
                    assumption
                  · assumption
                · assumption
            · intro u a hu
              refine Same.next ?_ (State.mfCommands_same _ _) (by decide)
              assumption
          · intro u a hu
            refine Same.next ?_ (State.mfAbsent_same _ _) (by decide)
            assumption
        · refine Same.fold _ ?_ ?_
          · refine Same.next ?_ Same.set_prf (by decide)
            refine Same.fold _ ?_ ?_
            · refine Same.fold _ ?_ ?_
              · exact Same.refl _ _
              · intro u a hu
                conv => zeta
                split
                · refine Same.ite ?_ ?_
                  · refine Same.next ?_ (State.mfSetMode_same _ _ _) (by decide)
                    assumption
                  · assumption
                · assumption
            · intro u a hu
              conv => zeta
              split
              · refine Same.ite ?_ ?_
                · refine Same.next ?_ (State.mfTake_same _ _ _ _) (by decide)
                  assumption
                · assumption
              · assumption
          · intro u a hu
            refine Same.next ?_ (State.mfCommands_same _ _) (by decide)
            assumption
      · intro u a hu
        refine Same.next ?_ (State.mfReturn_same _ _) (by decide)
        assumption
    · refine Same.ite ?_ ?_
      · refine Same.fold _ ?_ ?_
        · refine Same.fold _ ?_ ?_
          · refine Same.next ?_ Same.set_prf (by decide)
            refine Same.fold _ ?_ ?_
            · refine Same.fold _ ?_ ?_
              · exact Same.refl _ _
              · intro u a hu
                conv => zeta
                split
                · refine Same.ite ?_ ?_
                  · refine Same.next ?_ (State.mfSetMode_same _ _ _) (by decide)
                    assumption
                  · assumption
                · assumption
            · intro u a hu
              conv => zeta
              split
              · refine Same.ite ?_ ?_
                · refine Same.next ?_ (State.mfTake_same _ _ _ _) (by decide)
                  assumption
                · assumption
              · assumption
          · intro u a hu
            refine Same.next ?_ (State.mfCommands_same _ _) (by decide)
            assumption
        · intro u a hu
          refine Same.next ?_ (State.mfAbsent_same _ _) (by decide)
          assumption
      · refine Same.fold _ ?_ ?_
        · refine Same.next ?_ Same.set_prf (by decide)
          refine Same.fold _ ?_ ?_
          · refine Same.fold _ ?_ ?_
            · exact Same.refl _ _
            · intro u a hu
              conv => zeta
              split
              · refine Same.ite ?_ ?_
                · refine Same.next ?_ (State.mfSetMode_same _ _ _) (by decide)
                  assumption
                · assumption
              · assumption
          · intro u a hu
            conv => zeta
            split
            · refine Same.ite ?_ ?_
              · refine Same.next ?_ (State.mfTake_same _ _ _ _) (by decide)
                assumption
              · assumption
            · assumption
        · intro u a hu
          refine Same.next ?_ (State.mfCommands_same _ _) (by decide)
          assumption
  · intro u a hu
    refine Same.next ?_ (State.mfOverlay_same _ _) (by decide)
    assumption

theorem State.rxDecode_same (s : State) (t : Table) (e : CanEntry) :
    Same 0x80008000 s (State.rxDecode s t e) := by
  unfold State.rxDecode
  refine Same.next ?_ (State.smPushAll_same _ _) (by decide)
  refine Same.next ?_ (State.updCan_same _ _) (by decide)
  exact Same.refl _ _

theorem State.tpComplete_same (s : State) (l : Nat) (c : TpConn) (o : Opt) :
    Same 0x80000000 s (State.tpComplete s l c o) := by
  unfold State.tpComplete
  refine Same.next ?_ (State.updCc_same _ _ _) (by decide)
  exact Same.refl _ _

theorem State.tpCts_same (s : State) (l : Nat) (c : TpConn) :
    Same 0x80000000 s (State.tpCts s l c).1 := by
  unfold State.tpCts
  refine Same.pair1 ?_
  refine Same.next ?_ (State.tpCm_same _ _ _ _ _ _) (by decide)
  exact Same.refl _ _

theorem State.tpData_same (s : State) (l : Nat) (c : TpConn) (seq : Nat) (data : List Byte) (o : Opt) :
    Same 0x80000000 s (State.tpData s l c seq data o) := by
  unfold State.tpData
  refine Same.ite ?_ ?_
  · refine Same.ite ?_ ?_
    · refine Same.next ?_ (State.tpAborted_same _ _) (by decide)
      refine Same.next ?_ (State.updCc_same _ _ _) (by decide)
      exact Same.refl _ _
    · refine Same.next ?_ (State.updCc_same _ _ _) (by decide)
      refine Same.next ?_ (State.tpCts_same _ _ _) (by decide)
      exact Same.refl _ _
  · refine Same.ite ?_ ?_
    · refine Same.next ?_ (State.tpComplete_same _ _ _ _) (by decide)
      refine Same.ite ?_ ?_
      · refine Same.next ?_ (State.tpCm_same _ _ _ _ _ _) (by decide)
        exact Same.refl _ _
      · refine Same.ite ?_ ?_
        · refine Same.next ?_ (State.tpCm_same _ _ _ _ _ _) (by decide)
          exact Same.refl _ _
        · exact Same.refl _ _
    · refine Same.ite ?_ ?_
      · refine Same.next ?_ (State.updCc_same _ _ _) (by decide)
        refine Same.next ?_ (State.tpCts_same _ _ _) (by decide)
        exact Same.refl _ _
      · refine Same.next ?_ (State.updCc_same _ _ _) (by decide)
        exact Same.refl _ _

theorem State.tpPacket_same (s : State) (l : Nat) (c : TpConn) (k : Nat) :
    Same 0x80000000 s (State.tpPacket s l c k) := by
  unfold State.tpPacket
  refine Same.next ?_ (State.canService_same _ _ _ _ _) (by decide)
  exact Same.refl _ _

theorem State.tpNext_same (s : State) (l : Nat) (c : TpConn) (k : Nat) (n : Nat) :
    Same 0x80000000 s (State.tpNext s l c k n) := by
  unfold State.tpNext
  refine Same.ite ?_ ?_
  · refine Same.next ?_ (State.updCc_same _ _ _) (by decide)
    exact Same.refl _ _
  · refine Same.next ?_ (State.tpPacket_same _ _ _ _) (by decide)
    refine Same.next ?_ (State.updCc_same _ _ _) (by decide)
    exact Same.refl _ _

theorem State.tpOpen_same (s : State) (l : Nat) (c : TpConn) :
    Same 0x80000000 s (State.tpOpen s l c) := by
  unfold State.tpOpen
  refine Same.ite ?_ ?_
  · refine Same.ite ?_ ?_
    · refine Same.next ?_ (State.updCc_same _ _ _) (by decide)
      exact Same.refl _ _
    · refine Same.next ?_ (State.tpAborted_same _ _) (by decide)
      refine Same.next ?_ (State.tpCm_same _ _ _ _ _ _) (by decide)
      refine Same.next ?_ (State.updCc_same _ _ _) (by decide)
      exact Same.refl _ _
  · refine Same.ite ?_ ?_
    · refine Same.next ?_ (State.updCc_same _ _ _) (by decide)
      refine Same.next ?_ (State.updCc_same _ _ _) (by decide)
      exact Same.refl _ _
    · refine Same.next ?_ (State.updCc_same _ _ _) (by decide)
      refine Same.next ?_ (State.tpCts_same _ _ _) (by decide)
      refine Same.next ?_ (State.updCc_same _ _ _) (by decide)
      exact Same.refl _ _

theorem State.tpManage_same (s : State) (l : Nat) (sa : Nat) (da : Nat) (own : Bool) (e : CanEntry) (etp : Bool) :
    Same 0x80000000 s (State.tpManage s l sa da own e etp) := by
  unfold State.tpManage
  conv => zeta
  split
  · refine Same.ite ?_ ?_
    · refine Same.next ?_ (State.tpOpen_same _ _ _) (by decide)
      exact Same.refl _ _
    · exact Same.refl _ _
  · refine Same.ite ?_ ?_
    · refine Same.next ?_ (State.tpOpen_same _ _ _) (by decide)
      exact Same.refl _ _
    · exact Same.refl _ _
  · refine Same.ite ?_ ?_
    · refine Same.next ?_ (State.tpOpen_same _ _ _) (by decide)
      exact Same.refl _ _
    · exact Same.refl _ _
  · refine Same.ite ?_ ?_
    · refine Same.next ?_ (State.updCc_same _ _ _) (by decide)
      exact Same.refl _ _
    · exact Same.refl _ _
  · conv => zeta
    split
    · refine Same.ite ?_ ?_
      · refine Same.ite ?_ ?_
        · refine Same.next ?_ (State.updCc_same _ _ _) (by decide)
          exact Same.refl _ _
        · refine Same.next ?_ (State.tpNext_same _ _ _ _ _) (by decide)
          refine Same.next ?_ (State.updCc_same _ _ _) (by decide)
          exact Same.refl _ _
      · exact Same.refl _ _
    · exact Same.refl _ _
  · conv => zeta
    split
    · refine Same.ite ?_ ?_
      · refine Same.next ?_ (State.txmEnd_same _ _ _ _) (by decide)
        exact Same.refl _ _
      · exact Same.refl _ _
    · exact Same.refl _ _
  · refine Same.ite ?_ ?_
    · exact Same.refl _ _
    · conv => zeta
      split
      · refine Same.ite ?_ ?_
        · refine Same.next ?_ (State.txmEnd_same _ _ _ _) (by decide)
          refine Same.ite ?_ ?_
          · refine Same.next ?_ (State.tpAborted_same _ _) (by decide)
            refine Same.next ?_ (State.updCc_same _ _ _) (by decide)
            exact Same.refl _ _
          · exact Same.refl _ _
        · refine Same.ite ?_ ?_
          · refine Same.next ?_ (State.tpAborted_same _ _) (by decide)
            refine Same.next ?_ (State.updCc_same _ _ _) (by decide)
            exact Same.refl _ _
          · exact Same.refl _ _
      · refine Same.ite ?_ ?_
        · refine Same.next ?_ (State.tpAborted_same _ _) (by decide)
          refine Same.next ?_ (State.updCc_same _ _ _) (by decide)
          exact Same.refl _ _
        · exact Same.refl _ _
  · exact Same.refl _ _

theorem State.serviceEntry_same (s : State) (l : Nat) (e : CanEntry) :
    Same 0x80000000 s (State.serviceEntry s l e) := by
  unfold State.serviceEntry
  refine Same.ite ?_ ?_
  · exact Same.refl _ _
  · refine Same.ite ?_ ?_
    · refine Same.ite ?_ ?_
      · refine Same.next ?_ (State.claimAsked_same _ _) (by decide)
        exact Same.refl _ _
      · exact Same.refl _ _
    · refine Same.ite ?_ ?_
      · conv => zeta
        split
        · exact Same.refl _ _
        · refine Same.ite ?_ ?_
          · exact Same.refl _ _
          · refine Same.ite ?_ ?_
            · refine Same.next ?_ (State.tpNext_same _ _ _ _ _) (by decide)
              exact Same.refl _ _
            · refine Same.ite ?_ ?_
              · refine Same.ite ?_ ?_
                · refine Same.next ?_ (State.txmEnd_same _ _ _ _) (by decide)
                  exact Same.refl _ _
                · refine Same.next ?_ (State.tpNext_same _ _ _ _ _) (by decide)
                  exact Same.refl _ _
              · exact Same.refl _ _
      · refine Same.ite ?_ ?_
        · refine Same.next ?_ (State.tpManage_same _ _ _ _ _ _ _) (by decide)
          exact Same.refl _ _
        · refine Same.ite ?_ ?_
          · refine Same.next ?_ (State.tpManage_same _ _ _ _ _ _ _) (by decide)
            exact Same.refl _ _
          · refine Same.ite ?_ ?_
            · conv => zeta
              split
              · refine Same.ite ?_ ?_
                · refine Same.next ?_ (State.tpData_same _ _ _ _ _ _) (by decide)
                  exact Same.refl _ _
                · exact Same.refl _ _
              · exact Same.refl _ _
            · refine Same.ite ?_ ?_
              · conv => zeta
                split
                · refine Same.ite ?_ ?_
                  · refine Same.next ?_ (State.tpData_same _ _ _ _ _ _) (by decide)
                    exact Same.refl _ _
                  · exact Same.refl _ _
                · exact Same.refl _ _
              · refine Same.ite ?_ ?_
                · refine Same.next ?_ (State.claimSeen_same _ _ _ _) (by decide)
                  exact Same.refl _ _
                · exact Same.refl _ _

theorem State.dispatchEntry_same (s : State) (l : Nat) (e : CanEntry) :
    Same 0x84008000 s (State.dispatchEntry s l e) := by
  unfold State.dispatchEntry
  refine Same.ite ?_ ?_
  · exact Same.refl _ _
  · refine Same.next ?_ (State.serviceEntry_same _ _ _) (by decide)
    refine Same.fold _ ?_ ?_
    · refine Same.fold _ ?_ ?_
      · exact Same.refl _ _
      · intro u a hu
        refine Same.ite ?_ ?_
        · refine Same.next ?_ (State.rxDecode_same _ _ _) (by decide)
          assumption
        · assumption
    · intro u a hu
      refine Same.ite ?_ ?_
      · refine Same.next ?_ (State.rtcmBytes_same _ _ _) (by decide)
        assumption
      · assumption

theorem State.dupCheck_same (s : State) (n : Nat) (f : CanFrame) (sof : Opt) (bits : List Bool) :
    Same 0x80000000 s (State.dupCheck s n f sof bits) := by
  unfold State.dupCheck
  conv => zeta
  split
  · exact Same.refl _ _
  · refine Same.ite ?_ ?_
    · conv => zeta
      split
      · refine Same.next ?_ (State.updCc_same _ _ _) (by decide)
        refine Same.next ?_ (State.canEntry_same _ _ _ _ _ _ _ _ _) (by decide)
        refine Same.next ?_ (State.updCc_same _ _ _) (by decide)
        exact Same.refl _ _
      · refine Same.next ?_ (State.updCc_same _ _ _) (by decide)
        exact Same.refl _ _
    · refine Same.next ?_ (State.updCc_same _ _ _) (by decide)
      exact Same.refl _ _

theorem State.ethCntClear_same (s : State) (v : Word) :
    Same 0x100000000 s (State.ethCntClear s v) := by
  unfold State.ethCntClear
  refine Same.next ?_ (State.updEth_same _ _) (by decide)
  exact Same.refl _ _

theorem State.ethEnable_same (s : State) (v : Nat) :
    Same 0x3180030000 s (State.ethEnable s v) := by
  unfold State.ethEnable
  refine Same.next ?_ (State.updEth_same _ _) (by decide)
  refine Same.fold _ ?_ ?_
  · exact Same.refl _ _
  · intro u a hu
    refine Same.ite ?_ ?_
    · assumption
    · refine Same.ite ?_ ?_
      · refine Same.ite ?_ ?_
        · refine Same.next ?_ (State.updPair_same _ _ _) (by decide)
          refine Same.next ?_ (State.updPort_same _ _ _) (by decide)
          assumption
        · refine Same.next ?_ (State.pathCond_same _ _ _ _ _) (by decide)
          refine Same.next ?_ (State.updPort_same _ _ _) (by decide)
          assumption
      · refine Same.ite ?_ ?_
        · refine Same.fold _ ?_ ?_
          · refine Same.next ?_ (State.updPort_same _ _ _) (by decide)
            assumption
          · intro u a hu
            refine Same.ite ?_ ?_
            · refine Same.next ?_ (State.endSession_same _ _) (by decide)
              assumption
            · assumption
        · refine Same.next ?_ (State.updPort_same _ _ _) (by decide)
          assumption

theorem State.procDown_same (s : State) (p : Nat) (code : Byte) :
    Same 0x3001030000 s (State.procDown s p code) := by
  unfold State.procDown
  refine Same.fold _ ?_ ?_
  · refine Same.next ?_ (State.updProc_same _ _ _) (by decide)
    exact Same.refl _ _
  · intro u a hu
    refine Same.next ?_ (State.slotFault_same _ _ _ _) (by decide)
    refine Same.next ?_ (State.updSlot_same _ _ _) (by decide)
    assumption

theorem State.fcsErrors_same (s : State) (memberB : Bool) (l : List Opt) :
    Same 0x100000000 s (State.fcsErrors s memberB l) := by
  unfold State.fcsErrors
  refine Same.next ?_ (State.updPair_same _ _ _) (by decide)
  refine Same.next ?_ (State.updPort_same _ _ _) (by decide)
  exact Same.refl _ _

theorem State.lockDetect_same (s : State) (n : Nat) (cand : Nat) :
    Same 0x80004000 s (State.lockDetect s n cand) := by
  unfold State.lockDetect
  refine Same.next ?_ (State.canStart_same _ _) (by decide)
  refine Same.next ?_ (State.canEntry_same _ _ _ _ _ _ _ _ _) (by decide)
  refine Same.next ?_ (State.updCc_same _ _ _) (by decide)
  refine Same.next ?_ Same.set_grp (by decide)
  exact Same.refl _ _

theorem State.lopCntClear_same (s : State) (i : Nat) (v : Word) :
    Same 0x1000000 s (State.lopCntClear s i v) := by
  unfold State.lopCntClear
  refine Same.fold _ ?_ ?_
  · exact Same.refl _ _
  · intro u a hu
    refine Same.ite ?_ ?_
    · refine Same.next ?_ (State.updSlot_same _ _ _) (by decide)
      assumption
    · assumption

theorem State.mfCntClear_same (s : State) (base : Nat) (n : Nat) (v : Word) :
    Same 0x2000000 s (State.mfCntClear s base n v) := by
  unfold State.mfCntClear
  refine Same.fold _ ?_ ?_
  · exact Same.refl _ _
  · intro u a hu
    refine Same.ite ?_ ?_
    · refine Same.next ?_ (State.updMf_same _ _ _) (by decide)
      assumption
    · assumption

theorem State.openMail_same (s : State) :
    Same 0x2000000 s (State.openMail s) := by
  unfold State.openMail
  refine Same.next ?_ Same.set_prf (by decide)
  exact Same.refl _ _

theorem State.postCan_same (s : State) (key : Nat) (v : F32) :
    Same 0x2000000 s (State.postCan s key v) := by
  unfold State.postCan
  refine Same.next ?_ Same.set_prf (by decide)
  refine Same.next ?_ (State.openMail_same _) (by decide)
  exact Same.refl _ _

theorem State.postMf_same (s : State) (w : MfWrite) :
    Same 0x2000000 s (State.postMf s w) := by
  unfold State.postMf
  refine Same.next ?_ Same.set_prf (by decide)
  refine Same.next ?_ (State.openMail_same _) (by decide)
  exact Same.refl _ _

theorem State.recDown_same (s : State) (n : Nat) :
    Same 0x1080000000 s (State.recDown s n) := by
  unfold State.recDown
  refine Same.ite ?_ ?_
  · refine Same.next ?_ (State.updCc_same _ _ _) (by decide)
    refine Same.next ?_ (State.draw_same _) (by decide)
    exact Same.refl _ _
  · refine Same.next ?_ (State.updCc_same _ _ _) (by decide)
    exact Same.refl _ _

theorem State.smCommand_same (s : State) (m : Nat) (ev : Nat) :
    Same 0x8000 s (State.smCommand s m ev) := by
  unfold State.smCommand
  refine Same.next ?_ (State.smPush_same _ _ _) (by decide)
  exact Same.refl _ _

theorem State.slotPost_same (s : State) (n : Nat) (j : LoopJob) (clocks : Nat) :
    Same 0x1000000 s (State.slotPost s n j clocks) := by
  unfold State.slotPost
  refine Same.next ?_ (State.updSlot_same _ _ _) (by decide)
  exact Same.refl _ _

theorem State.selectDone_same (s : State) (n : Nat) (j : LoopJob) (clocks : Nat) :
    Same 0x3001030000 s (State.selectDone s n j clocks) := by
  unfold State.selectDone
  conv => zeta
  split
  · refine Same.next ?_ (State.slotInvalid_same _ _ _ _) (by decide)
    exact Same.refl _ _
  · refine Same.next ?_ (State.updSlot_same _ _ _) (by decide)
    refine Same.next ?_ (State.slotPost_same _ _ _ _) (by decide)
    refine Same.next ?_ (State.lawDone_same _ _ _ _) (by decide)
    refine Same.next ?_ (State.finishCands_same _ _ _) (by decide)
    exact Same.refl _ _

theorem smAction_same (s0 : State) (m : Nat) (b : List Byte) (a : StepAcc) (k : Nat) {z : State} (h : Same 0x3882038000 z a.1) :
    Same 0x3882038000 z (smAction s0 m b a k).1 := by
  unfold smAction
  conv => zeta
  refine Same.ite1 (h.next (State.updSm_same _ _ _) (by decide)) ?_
  split
  · exact h.next (State.updSm_same _ _ _) (by decide)
  · exact h.next (State.updSm_same _ _ _) (by decide)
  · exact h.next (State.updSm_same _ _ _) (by decide)
  · exact h.next (State.updSm_same _ _ _) (by decide)
  · exact h.next Same.set_prf (by decide)
  · exact h.next Same.set_prf (by decide)
  · exact h.next (State.smPush_same _ _ _) (by decide)
  · exact h.next (State.notice_same _ _ _ _ _) (by decide)
  · exact h.next Same.set_prf (by decide)
  · exact h
  · exact h

theorem smActions_same (s0 : State) (m : Nat) (b : List Byte) (f n : Nat) (a : StepAcc) {z : State} (h : Same 0x3882038000 z a.1) :
    Same 0x3882038000 z (smActions s0 m b f n a).1 := by
  unfold smActions
  generalize List.range n = l
  induction l generalizing a with
  | nil => exact h
  | cons i l ih => exact ih _ (smAction_same _ _ _ _ _ h)

theorem smFire_same (s0 : State) (m : Nat) (b : List Byte) (t : Nat) (a : StepAcc) {z : State} (h : Same 0x3882038000 z a.1) :
    Same 0x3882038000 z (smFire s0 m b t a).1 := by
  unfold smFire
  have h0 : Same 0x3882038000 z (a.1.updSm m fun x => { x with transCnt := satInc x.transCnt }) := h.next (State.updSm_same _ _ _) (by decide)
  refine Same.ite1 (smActions_same _ _ _ _ _ _ h0) ?_
  refine smActions_same _ _ _ _ _ _ ?_
  exact (smActions_same _ _ _ _ _ _ (smActions_same _ _ _ _ _ _ h0)).next (State.updSm_same _ _ _) (by decide)

theorem smEventRun_same (s0 : State) (m : Nat) (b : List Byte) (c g : Nat) (a : StepAcc) {z : State} (h : Same 0x3882038000 z a.1) :
    Same 0x3882038000 z (smEventRun s0 m b c g a).1 := by
  unfold smEventRun
  split
  · exact smFire_same _ _ _ _ _ h
  · exact h

theorem smEvents_same (s0 : State) (m : Nat) (b : List Byte) (o : Opt) (n : Nat) (a : StepAcc) {z : State} (h : Same 0x3882038000 z a.1) :
    Same 0x3882038000 z (smEvents s0 m b o n a).1 := by
  induction n generalizing a with
  | zero => exact h
  | succ n ih =>
    unfold smEvents
    split
    · exact Same.ite1 (ih _ (smEventRun_same _ _ _ _ _ _ (h.next (State.updSm_same _ _ _) (by decide)))) h
    · exact h

theorem State.smStep_same (s : State) (m : Nat) (late : Bool) : Same 0x3882038000 s (s.smStep m late) := by
  unfold State.smStep
  refine Same.next ?_ (State.claimPoll_same _) (by decide)
  refine Same.fold _ ?_ (fun u a hu => hu.next (State.canBuild_same _ _ _) (by decide))
  refine Same.next ?_ (State.updSm_same _ _ _) (by decide)
  refine smEventRun_same _ _ _ _ _ _ ?_
  refine smEvents_same _ _ _ _ _ _ ?_
  refine Same.ite1 (smActions_same _ _ _ _ _ _ ?_) ?_ <;>
  · refine Same.next ?_ (State.updSm_same _ _ _) (by decide)
    exact Same.ite ((Same.refl _ _).next (State.updSm_same _ _ _) (by decide)) (Same.refl _ _)

theorem State.txMissed_same (s : State) (n : Nat) (k : Nat) (reason : Nat) :
    Same 0x80000000 s (State.txMissed s n k reason) := by
  unfold State.txMissed
  conv => zeta
  split
  · refine Same.next ?_ (State.updCc_same _ _ _) (by decide)
    exact Same.refl _ _
  · refine Same.ite ?_ ?_
    · refine Same.next ?_ (State.txFail_same _ _ _ _) (by decide)
      refine Same.next ?_ (State.updCc_same _ _ _) (by decide)
      exact Same.refl _ _
    · refine Same.ite ?_ ?_
      · refine Same.next ?_ (State.txFail_same _ _ _ _) (by decide)
        refine Same.next ?_ (State.updCc_same _ _ _) (by decide)
        exact Same.refl _ _
      · refine Same.next ?_ (State.updCc_same _ _ _) (by decide)
        exact Same.refl _ _

theorem execAddressClaimTimeout_runs (o : Opt) (ch : Fin 8) (s : State) :
    Runs 0x80000000 (s.begin o) (execAddressClaimTimeout o ch s) := by
  unfold execAddressClaimTimeout
  refine Runs.ite ?_ ?_
  · refine Runs.next ?_
    exact Same.refl _ _
  · refine Runs.next ?_
    refine Same.next ?_ (State.updCc_same _ _ _) (by decide)
    exact Same.refl _ _

theorem execAddressResolution_runs (o : Opt) (iface : Fin 6) (pathB : Bool) (v6 : Bool) (vlan : Option Nat) (target : List Byte) (s : State) :
    Runs 0x2100000000 (s.begin o) (execAddressResolution o iface pathB v6 vlan target s) := by
  unfold execAddressResolution
  refine Runs.next ?_
  refine Same.next ?_ (State.answer_same _ _ _ _ _ _ _ _) (by decide)
  exact Same.refl _ _

theorem execBusoffDelayExpiry_runs (o : Opt) (ch : Fin 8) (s : State) :
    Runs 0x80000000 (s.begin o) (execBusoffDelayExpiry o ch s) := by
  unfold execBusoffDelayExpiry
  refine Runs.ite ?_ ?_
  · refine Runs.next ?_
    exact Same.refl _ _
  · refine Runs.next ?_
    refine Same.next ?_ (State.beginRecovery_same _ _) (by decide)
    exact Same.refl _ _

theorem execCanDispatch_runs (o : Opt) (ch : Fin 8) (s : State) :
    Runs 0x84008000 (s.begin o) (execCanDispatch o ch s) := by
  unfold execCanDispatch
  conv => zeta
  split
  · refine Runs.next ?_
    exact Same.refl _ _
  · refine Runs.ite ?_ ?_
    · refine Runs.next ?_
      exact Same.refl _ _
    · refine Runs.next ?_
      refine Same.next ?_ (State.dispatchEntry_same _ _ _) (by decide)
      refine Same.next ?_ (State.updCc_same _ _ _) (by decide)
      exact Same.refl _ _

theorem execCanError_runs (o : Opt) (ch : Fin 8) (e : CanErrIn) (s : State) :
    Runs 0x3180030000 (s.begin o) (execCanError o ch e s) := by
  unfold execCanError
  refine Runs.ite ?_ ?_
  · refine Runs.next ?_
    exact Same.refl _ _
  · refine Runs.next ?_
    refine Same.next ?_ (State.canNext_same _ _) (by decide)
    refine Same.ite ?_ ?_
    · conv => zeta
      split
      · refine Same.next ?_ (State.txMissed_same _ _ _ _) (by decide)
        refine Same.next ?_ (State.canEntry_same _ _ _ _ _ _ _ _ _) (by decide)
        refine Same.next ?_ (State.updCc_same _ _ _) (by decide)
        exact Same.refl _ _
      · refine Same.next ?_ (State.canEntry_same _ _ _ _ _ _ _ _ _) (by decide)
        refine Same.next ?_ (State.updCc_same _ _ _) (by decide)
        exact Same.refl _ _
    · refine Same.next ?_ (State.busUpdate_same _ _) (by decide)
      conv => zeta
      split
      · refine Same.next ?_ (State.txMissed_same _ _ _ _) (by decide)
        refine Same.next ?_ (State.canEntry_same _ _ _ _ _ _ _ _ _) (by decide)
        refine Same.next ?_ (State.updCc_same _ _ _) (by decide)
        exact Same.refl _ _
      · refine Same.next ?_ (State.canEntry_same _ _ _ _ _ _ _ _ _) (by decide)
        refine Same.next ?_ (State.updCc_same _ _ _) (by decide)
        exact Same.refl _ _

theorem execCanFrame_runs (o : Opt) (ch : Fin 8) (sof : Opt) (f : CanFrame) (own : Bool) (competed : Bool) (loop : Nat) (bits : List Bool) (s : State) :
    Runs 0x3180034000 (s.begin o) (execCanFrame o ch sof f own competed loop bits s) := by
  unfold execCanFrame
  refine Runs.ite ?_ ?_
  · refine Runs.next ?_
    exact Same.refl _ _
  · refine Runs.ite ?_ ?_
    · conv => zeta
      split
      · refine Runs.next ?_
        exact Same.refl _ _
      · conv => zeta
        split
        · refine Runs.next ?_
          exact Same.refl _ _
        · refine Runs.next ?_
          refine Same.next ?_ (State.canNext_same _ _) (by decide)
          refine Same.next ?_ (State.busUpdate_same _ _) (by decide)
          refine Same.next ?_ (State.canEntry_same _ _ _ _ _ _ _ _ _) (by decide)
          refine Same.next ?_ (State.dupCheck_same _ _ _ _ _) (by decide)
          refine Same.next ?_ (State.updCc_same _ _ _) (by decide)
          exact Same.refl _ _
    · refine Runs.next ?_
      conv => zeta
      split
      · refine Same.ite ?_ ?_
        · refine Same.next ?_ (State.canOffDue_same _ _) (by decide)
          conv => zeta
          split
          · refine Same.next ?_ (State.updPair_same _ _ _) (by decide)
            conv => zeta
            split
            · refine Same.next ?_ (State.txMissed_same _ _ _ _) (by decide)
              refine Same.ite ?_ ?_
              · refine Same.next ?_ (State.canEntry_same _ _ _ _ _ _ _ _ _) (by decide)
                refine Same.next ?_ (State.dupCheck_same _ _ _ _ _) (by decide)
                refine Same.ite ?_ ?_
                · exact Same.refl _ _
                · refine Same.next ?_ (State.recDown_same _ _) (by decide)
                  exact Same.refl _ _
              · refine Same.next ?_ (State.busUpdate_same _ _) (by decide)
                refine Same.next ?_ (State.canEntry_same _ _ _ _ _ _ _ _ _) (by decide)
                refine Same.next ?_ (State.dupCheck_same _ _ _ _ _) (by decide)
                refine Same.ite ?_ ?_
                · exact Same.refl _ _
                · refine Same.next ?_ (State.recDown_same _ _) (by decide)
                  exact Same.refl _ _
            · refine Same.ite ?_ ?_
              · refine Same.next ?_ (State.canEntry_same _ _ _ _ _ _ _ _ _) (by decide)
                refine Same.next ?_ (State.dupCheck_same _ _ _ _ _) (by decide)
                refine Same.ite ?_ ?_
                · exact Same.refl _ _
                · refine Same.next ?_ (State.recDown_same _ _) (by decide)
                  exact Same.refl _ _
              · refine Same.next ?_ (State.busUpdate_same _ _) (by decide)
                refine Same.next ?_ (State.canEntry_same _ _ _ _ _ _ _ _ _) (by decide)
                refine Same.next ?_ (State.dupCheck_same _ _ _ _ _) (by decide)
                refine Same.ite ?_ ?_
                · exact Same.refl _ _
                · refine Same.next ?_ (State.recDown_same _ _) (by decide)
                  exact Same.refl _ _
          · conv => zeta
            split
            · refine Same.next ?_ (State.txMissed_same _ _ _ _) (by decide)
              refine Same.ite ?_ ?_
              · refine Same.next ?_ (State.canEntry_same _ _ _ _ _ _ _ _ _) (by decide)
                refine Same.next ?_ (State.dupCheck_same _ _ _ _ _) (by decide)
                refine Same.ite ?_ ?_
                · exact Same.refl _ _
                · refine Same.next ?_ (State.recDown_same _ _) (by decide)
                  exact Same.refl _ _
              · refine Same.next ?_ (State.busUpdate_same _ _) (by decide)
                refine Same.next ?_ (State.canEntry_same _ _ _ _ _ _ _ _ _) (by decide)
                refine Same.next ?_ (State.dupCheck_same _ _ _ _ _) (by decide)
                refine Same.ite ?_ ?_
                · exact Same.refl _ _
                · refine Same.next ?_ (State.recDown_same _ _) (by decide)
                  exact Same.refl _ _
            · refine Same.ite ?_ ?_
              · refine Same.next ?_ (State.canEntry_same _ _ _ _ _ _ _ _ _) (by decide)
                refine Same.next ?_ (State.dupCheck_same _ _ _ _ _) (by decide)
                refine Same.ite ?_ ?_
                · exact Same.refl _ _
                · refine Same.next ?_ (State.recDown_same _ _) (by decide)
                  exact Same.refl _ _
              · refine Same.next ?_ (State.busUpdate_same _ _) (by decide)
                refine Same.next ?_ (State.canEntry_same _ _ _ _ _ _ _ _ _) (by decide)
                refine Same.next ?_ (State.dupCheck_same _ _ _ _ _) (by decide)
                refine Same.ite ?_ ?_
                · exact Same.refl _ _
                · refine Same.next ?_ (State.recDown_same _ _) (by decide)
                  exact Same.refl _ _
        · refine Same.ite ?_ ?_
          · refine Same.next ?_ (State.lockDetect_same _ _ _) (by decide)
            conv => zeta
            split
            · refine Same.next ?_ (State.updPair_same _ _ _) (by decide)
              conv => zeta
              split
              · refine Same.next ?_ (State.txMissed_same _ _ _ _) (by decide)
                refine Same.ite ?_ ?_
                · refine Same.next ?_ (State.canEntry_same _ _ _ _ _ _ _ _ _) (by decide)
                  refine Same.next ?_ (State.dupCheck_same _ _ _ _ _) (by decide)
                  refine Same.ite ?_ ?_
                  · exact Same.refl _ _
                  · refine Same.next ?_ (State.recDown_same _ _) (by decide)
                    exact Same.refl _ _
                · refine Same.next ?_ (State.busUpdate_same _ _) (by decide)
                  refine Same.next ?_ (State.canEntry_same _ _ _ _ _ _ _ _ _) (by decide)
                  refine Same.next ?_ (State.dupCheck_same _ _ _ _ _) (by decide)
                  refine Same.ite ?_ ?_
                  · exact Same.refl _ _
                  · refine Same.next ?_ (State.recDown_same _ _) (by decide)
                    exact Same.refl _ _
              · refine Same.ite ?_ ?_
                · refine Same.next ?_ (State.canEntry_same _ _ _ _ _ _ _ _ _) (by decide)
                  refine Same.next ?_ (State.dupCheck_same _ _ _ _ _) (by decide)
                  refine Same.ite ?_ ?_
                  · exact Same.refl _ _
                  · refine Same.next ?_ (State.recDown_same _ _) (by decide)
                    exact Same.refl _ _
                · refine Same.next ?_ (State.busUpdate_same _ _) (by decide)
                  refine Same.next ?_ (State.canEntry_same _ _ _ _ _ _ _ _ _) (by decide)
                  refine Same.next ?_ (State.dupCheck_same _ _ _ _ _) (by decide)
                  refine Same.ite ?_ ?_
                  · exact Same.refl _ _
                  · refine Same.next ?_ (State.recDown_same _ _) (by decide)
                    exact Same.refl _ _
            · conv => zeta
              split
              · refine Same.next ?_ (State.txMissed_same _ _ _ _) (by decide)
                refine Same.ite ?_ ?_
                · refine Same.next ?_ (State.canEntry_same _ _ _ _ _ _ _ _ _) (by decide)
                  refine Same.next ?_ (State.dupCheck_same _ _ _ _ _) (by decide)
                  refine Same.ite ?_ ?_
                  · exact Same.refl _ _
                  · refine Same.next ?_ (State.recDown_same _ _) (by decide)
                    exact Same.refl _ _
                · refine Same.next ?_ (State.busUpdate_same _ _) (by decide)
                  refine Same.next ?_ (State.canEntry_same _ _ _ _ _ _ _ _ _) (by decide)
                  refine Same.next ?_ (State.dupCheck_same _ _ _ _ _) (by decide)
                  refine Same.ite ?_ ?_
                  · exact Same.refl _ _
                  · refine Same.next ?_ (State.recDown_same _ _) (by decide)
                    exact Same.refl _ _
              · refine Same.ite ?_ ?_
                · refine Same.next ?_ (State.canEntry_same _ _ _ _ _ _ _ _ _) (by decide)
                  refine Same.next ?_ (State.dupCheck_same _ _ _ _ _) (by decide)
                  refine Same.ite ?_ ?_
                  · exact Same.refl _ _
                  · refine Same.next ?_ (State.recDown_same _ _) (by decide)
                    exact Same.refl _ _
                · refine Same.next ?_ (State.busUpdate_same _ _) (by decide)
                  refine Same.next ?_ (State.canEntry_same _ _ _ _ _ _ _ _ _) (by decide)
                  refine Same.next ?_ (State.dupCheck_same _ _ _ _ _) (by decide)
                  refine Same.ite ?_ ?_
                  · exact Same.refl _ _
                  · refine Same.next ?_ (State.recDown_same _ _) (by decide)
                    exact Same.refl _ _
          · refine Same.next ?_ (State.updCc_same _ _ _) (by decide)
            conv => zeta
            split
            · refine Same.next ?_ (State.updPair_same _ _ _) (by decide)
              conv => zeta
              split
              · refine Same.next ?_ (State.txMissed_same _ _ _ _) (by decide)
                refine Same.ite ?_ ?_
                · refine Same.next ?_ (State.canEntry_same _ _ _ _ _ _ _ _ _) (by decide)
                  refine Same.next ?_ (State.dupCheck_same _ _ _ _ _) (by decide)
                  refine Same.ite ?_ ?_
                  · exact Same.refl _ _
                  · refine Same.next ?_ (State.recDown_same _ _) (by decide)
                    exact Same.refl _ _
                · refine Same.next ?_ (State.busUpdate_same _ _) (by decide)
                  refine Same.next ?_ (State.canEntry_same _ _ _ _ _ _ _ _ _) (by decide)
                  refine Same.next ?_ (State.dupCheck_same _ _ _ _ _) (by decide)
                  refine Same.ite ?_ ?_
                  · exact Same.refl _ _
                  · refine Same.next ?_ (State.recDown_same _ _) (by decide)
                    exact Same.refl _ _
              · refine Same.ite ?_ ?_
                · refine Same.next ?_ (State.canEntry_same _ _ _ _ _ _ _ _ _) (by decide)
                  refine Same.next ?_ (State.dupCheck_same _ _ _ _ _) (by decide)
                  refine Same.ite ?_ ?_
                  · exact Same.refl _ _
                  · refine Same.next ?_ (State.recDown_same _ _) (by decide)
                    exact Same.refl _ _
                · refine Same.next ?_ (State.busUpdate_same _ _) (by decide)
                  refine Same.next ?_ (State.canEntry_same _ _ _ _ _ _ _ _ _) (by decide)
                  refine Same.next ?_ (State.dupCheck_same _ _ _ _ _) (by decide)
                  refine Same.ite ?_ ?_
                  · exact Same.refl _ _
                  · refine Same.next ?_ (State.recDown_same _ _) (by decide)
                    exact Same.refl _ _
            · conv => zeta
              split
              · refine Same.next ?_ (State.txMissed_same _ _ _ _) (by decide)
                refine Same.ite ?_ ?_
                · refine Same.next ?_ (State.canEntry_same _ _ _ _ _ _ _ _ _) (by decide)
                  refine Same.next ?_ (State.dupCheck_same _ _ _ _ _) (by decide)
                  refine Same.ite ?_ ?_
                  · exact Same.refl _ _
                  · refine Same.next ?_ (State.recDown_same _ _) (by decide)
                    exact Same.refl _ _
                · refine Same.next ?_ (State.busUpdate_same _ _) (by decide)
                  refine Same.next ?_ (State.canEntry_same _ _ _ _ _ _ _ _ _) (by decide)
                  refine Same.next ?_ (State.dupCheck_same _ _ _ _ _) (by decide)
                  refine Same.ite ?_ ?_
                  · exact Same.refl _ _
                  · refine Same.next ?_ (State.recDown_same _ _) (by decide)
                    exact Same.refl _ _
              · refine Same.ite ?_ ?_
                · refine Same.next ?_ (State.canEntry_same _ _ _ _ _ _ _ _ _) (by decide)
                  refine Same.next ?_ (State.dupCheck_same _ _ _ _ _) (by decide)
                  refine Same.ite ?_ ?_
                  · exact Same.refl _ _
                  · refine Same.next ?_ (State.recDown_same _ _) (by decide)
                    exact Same.refl _ _
                · refine Same.next ?_ (State.busUpdate_same _ _) (by decide)
                  refine Same.next ?_ (State.canEntry_same _ _ _ _ _ _ _ _ _) (by decide)
                  refine Same.next ?_ (State.dupCheck_same _ _ _ _ _) (by decide)
                  refine Same.ite ?_ ?_
                  · exact Same.refl _ _
                  · refine Same.next ?_ (State.recDown_same _ _) (by decide)
                    exact Same.refl _ _
      · refine Same.next ?_ (State.canNext_same _ _) (by decide)
        conv => zeta
        split
        · refine Same.next ?_ (State.updPair_same _ _ _) (by decide)
          conv => zeta
          split
          · refine Same.next ?_ (State.txMissed_same _ _ _ _) (by decide)
            refine Same.ite ?_ ?_
            · refine Same.next ?_ (State.canEntry_same _ _ _ _ _ _ _ _ _) (by decide)
              refine Same.next ?_ (State.dupCheck_same _ _ _ _ _) (by decide)
              refine Same.ite ?_ ?_
              · exact Same.refl _ _
              · refine Same.next ?_ (State.recDown_same _ _) (by decide)
                exact Same.refl _ _
            · refine Same.next ?_ (State.busUpdate_same _ _) (by decide)
              refine Same.next ?_ (State.canEntry_same _ _ _ _ _ _ _ _ _) (by decide)
              refine Same.next ?_ (State.dupCheck_same _ _ _ _ _) (by decide)
              refine Same.ite ?_ ?_
              · exact Same.refl _ _
              · refine Same.next ?_ (State.recDown_same _ _) (by decide)
                exact Same.refl _ _
          · refine Same.ite ?_ ?_
            · refine Same.next ?_ (State.canEntry_same _ _ _ _ _ _ _ _ _) (by decide)
              refine Same.next ?_ (State.dupCheck_same _ _ _ _ _) (by decide)
              refine Same.ite ?_ ?_
              · exact Same.refl _ _
              · refine Same.next ?_ (State.recDown_same _ _) (by decide)
                exact Same.refl _ _
            · refine Same.next ?_ (State.busUpdate_same _ _) (by decide)
              refine Same.next ?_ (State.canEntry_same _ _ _ _ _ _ _ _ _) (by decide)
              refine Same.next ?_ (State.dupCheck_same _ _ _ _ _) (by decide)
              refine Same.ite ?_ ?_
              · exact Same.refl _ _
              · refine Same.next ?_ (State.recDown_same _ _) (by decide)
                exact Same.refl _ _
        · conv => zeta
          split
          · refine Same.next ?_ (State.txMissed_same _ _ _ _) (by decide)
            refine Same.ite ?_ ?_
            · refine Same.next ?_ (State.canEntry_same _ _ _ _ _ _ _ _ _) (by decide)
              refine Same.next ?_ (State.dupCheck_same _ _ _ _ _) (by decide)
              refine Same.ite ?_ ?_
              · exact Same.refl _ _
              · refine Same.next ?_ (State.recDown_same _ _) (by decide)
                exact Same.refl _ _
            · refine Same.next ?_ (State.busUpdate_same _ _) (by decide)
              refine Same.next ?_ (State.canEntry_same _ _ _ _ _ _ _ _ _) (by decide)
              refine Same.next ?_ (State.dupCheck_same _ _ _ _ _) (by decide)
              refine Same.ite ?_ ?_
              · exact Same.refl _ _
              · refine Same.next ?_ (State.recDown_same _ _) (by decide)
                exact Same.refl _ _
          · refine Same.ite ?_ ?_
            · refine Same.next ?_ (State.canEntry_same _ _ _ _ _ _ _ _ _) (by decide)
              refine Same.next ?_ (State.dupCheck_same _ _ _ _ _) (by decide)
              refine Same.ite ?_ ?_
              · exact Same.refl _ _
              · refine Same.next ?_ (State.recDown_same _ _) (by decide)
                exact Same.refl _ _
            · refine Same.next ?_ (State.busUpdate_same _ _) (by decide)
              refine Same.next ?_ (State.canEntry_same _ _ _ _ _ _ _ _ _) (by decide)
              refine Same.next ?_ (State.dupCheck_same _ _ _ _ _) (by decide)
              refine Same.ite ?_ ?_
              · exact Same.refl _ _
              · refine Same.next ?_ (State.recDown_same _ _) (by decide)
                exact Same.refl _ _

theorem execCanIntegrationComplete_runs (o : Opt) (ch : Fin 8) (s : State) :
    Runs 0x2080014000 (s.begin o) (execCanIntegrationComplete o ch s) := by
  unfold execCanIntegrationComplete
  refine Runs.ite ?_ ?_
  · refine Runs.next ?_
    exact Same.refl _ _
  · refine Runs.ite ?_ ?_
    · refine Runs.next ?_
      refine Same.next ?_ (State.canGroupApplied_same _ _) (by decide)
      refine Same.next ?_ (State.applyGroup_same _ _) (by decide)
      exact Same.refl _ _
    · refine Runs.next ?_
      refine Same.next ?_ (State.canStart_same _ _) (by decide)
      refine Same.next ?_ (State.updCc_same _ _ _) (by decide)
      exact Same.refl _ _

theorem execCanRecoveryComplete_runs (o : Opt) (ch : Fin 8) (s : State) :
    Runs 0x2080014000 (s.begin o) (execCanRecoveryComplete o ch s) := by
  unfold execCanRecoveryComplete
  refine Runs.ite ?_ ?_
  · refine Runs.next ?_
    exact Same.refl _ _
  · refine Runs.next ?_
    refine Same.next ?_ (State.applyGroup_same _ _) (by decide)
    refine Same.next ?_ (State.busEntry_same _ _ _) (by decide)
    refine Same.next ?_ (State.updCc_same _ _ _) (by decide)
    exact Same.refl _ _

theorem execCanRxTimeout_runs (o : Opt) (table : W16) (s : State) :
    Runs 0x80000000 (s.begin o) (execCanRxTimeout o table s) := by
  unfold execCanRxTimeout
  conv => zeta
  split
  · refine Runs.ite ?_ ?_
    · refine Runs.next ?_
      exact Same.refl _ _
    · refine Runs.next ?_
      refine Same.next ?_ (State.updCan_same _ _) (by decide)
      exact Same.refl _ _
  · refine Runs.next ?_
    exact Same.refl _ _

theorem execCanTimeReference_runs (ch : Fin 8) (s : State) :
    Runs 0x80000000 s.start (execCanTimeReference ch s) := by
  unfold execCanTimeReference
  conv => zeta
  split
  · refine Runs.next ?_
    exact Same.refl _ _
  · refine Runs.ite ?_ ?_
    · refine Runs.next ?_
      exact Same.refl _ _
    · refine Runs.next ?_
      refine Same.next ?_ (State.canStart_same _ _) (by decide)
      refine Same.next ?_ (State.updCc_same _ _ _) (by decide)
      refine Same.next ?_ (State.updCan_same _ _) (by decide)
      exact Same.refl _ _

theorem execCanTxBuild_runs (table : W16) (s : State) :
    Runs 0x880000000 s.start (execCanTxBuild table s) := by
  unfold execCanTxBuild
  conv => zeta
  split
  · refine Runs.next ?_
    exact Same.refl _ _
  · refine Runs.ite ?_ ?_
    · refine Runs.next ?_
      exact Same.refl _ _
    · refine Runs.next ?_
      refine Same.next ?_ (State.canBuild_same _ _ _) (by decide)
      exact Same.refl _ _

theorem execDetectCandidateTimeout_runs (o : Opt) (ch : Fin 8) (byError : Bool) (s : State) :
    Runs 0x80000000 (s.begin o) (execDetectCandidateTimeout o ch byError s) := by
  unfold execDetectCandidateTimeout
  conv => zeta
  split
  · refine Runs.next ?_
    exact Same.refl _ _
  · refine Runs.ite ?_ ?_
    · refine Runs.next ?_
      exact Same.refl _ _
    · refine Runs.next ?_
      refine Same.next ?_ (State.updCc_same _ _ _) (by decide)
      exact Same.refl _ _

theorem execEchoRequest_runs (o : Opt) (iface : Fin 6) (pathB : Bool) (v6 : Bool) (vlan : Option Nat) (toward : List Byte) (payload : List Byte) (s : State) :
    Runs 0x2100000000 (s.begin o) (execEchoRequest o iface pathB v6 vlan toward payload s) := by
  unfold execEchoRequest
  refine Runs.next ?_
  refine Same.next ?_ (State.answer_same _ _ _ _ _ _ _ _) (by decide)
  exact Same.refl _ _

theorem execEquinox_runs (o : Opt) (pair : Fin 3) (s : State) :
    Runs 0x3180030000 (s.begin o) (execEquinox o pair s) := by
  unfold execEquinox
  refine Runs.ite ?_ ?_
  · refine Runs.next ?_
    exact Same.refl _ _
  · refine Runs.ite ?_ ?_
    · refine Runs.next ?_
      refine Same.next ?_ (State.plannedSwap_same _ _) (by decide)
      exact Same.refl _ _
    · refine Runs.next ?_
      refine Same.next ?_ (State.notice_same _ _ _ _ _) (by decide)
      refine Same.next ?_ (State.updPair_same _ _ _) (by decide)
      exact Same.refl _ _

theorem loopOp_same (r : HostReq) (cmd : Nat) (slot : W16) (value : F32) (s : State) :
    OpSame 0x1000000 s (loopOp r cmd slot value s) := by
  unfold loopOp
  refine OpSame.ite ?_ ?_
  · exact OpSame.refuse
  · refine OpSame.ite ?_ ?_
    · exact OpSame.refuse
    · refine OpSame.wait ?_
      refine Same.next ?_ (State.updSlot_same _ _ _) (by decide)
      exact Same.refl _ _

theorem execLoopAuto_same (r : HostReq) (slot : W16) (value : F32) (s : State) :
    Runs 0x2101010001 s (execLoopAuto r slot value s) := by
  unfold execLoopAuto
  refine Runs.next ?_
  refine hostOp_same (by decide) ?_
  intro u hu
  refine OpSame.next ?_ (loopOp_same _ _ _ _ _) (by decide)
  assumption

theorem execLoopComputationDone_runs (o : Opt) (slot : Fin 128) (clocks : Nat) (s : State) :
    Runs 0x3001030000 (s.begin o) (execLoopComputationDone o slot clocks s) := by
  unfold execLoopComputationDone
  conv => zeta
  split
  · refine Runs.next ?_
    exact Same.refl _ _
  · refine Runs.ite ?_ ?_
    · refine Runs.next ?_
      exact Same.refl _ _
    · refine Runs.ite ?_ ?_
      · refine Runs.next ?_
        refine Same.next ?_ (State.updProc_same _ _ _) (by decide)
        exact Same.refl _ _
      · refine Runs.ite ?_ ?_
        · refine Runs.next ?_
          refine Same.next ?_ (State.selectDone_same _ _ _ _) (by decide)
          refine Same.next ?_ (State.updProc_same _ _ _) (by decide)
          exact Same.refl _ _
        · refine Runs.next ?_
          refine Same.next ?_ (State.slotPost_same _ _ _ _) (by decide)
          refine Same.ite ?_ ?_
          · refine Same.next ?_ (State.updSlot_same _ _ _) (by decide)
            refine Same.next ?_ (State.updProc_same _ _ _) (by decide)
            exact Same.refl _ _
          · refine Same.next ?_ (State.lawDone_same _ _ _ _) (by decide)
            refine Same.next ?_ (State.updProc_same _ _ _) (by decide)
            exact Same.refl _ _

theorem execLoopDisable_same (r : HostReq) (slot : W16) (value : F32) (s : State) :
    Runs 0x2101010001 s (execLoopDisable r slot value s) := by
  unfold execLoopDisable
  refine Runs.next ?_
  refine hostOp_same (by decide) ?_
  intro u hu
  refine OpSame.next ?_ (loopOp_same _ _ _ _ _) (by decide)
  assumption

theorem execLoopEnable_same (r : HostReq) (slot : W16) (value : F32) (s : State) :
    Runs 0x2101010001 s (execLoopEnable r slot value s) := by
  unfold execLoopEnable
  refine Runs.next ?_
  refine hostOp_same (by decide) ?_
  intro u hu
  refine OpSame.next ?_ (loopOp_same _ _ _ _ _) (by decide)
  assumption

theorem execLoopManual_same (r : HostReq) (slot : W16) (value : F32) (s : State) :
    Runs 0x2101010001 s (execLoopManual r slot value s) := by
  unfold execLoopManual
  refine Runs.next ?_
  refine hostOp_same (by decide) ?_
  intro u hu
  refine OpSame.next ?_ (loopOp_same _ _ _ _ _) (by decide)
  assumption

theorem execLoopOverrun_runs (slot : Fin 128) (s : State) :
    Runs 0x3001030001 s.start (execLoopOverrun slot s) := by
  unfold execLoopOverrun
  conv => zeta
  split
  · refine Runs.ite ?_ ?_
    · refine Runs.next ?_
      exact Same.refl _ _
    · refine Runs.next ?_
      refine Same.next ?_ (State.overrun_same _ _ _) (by decide)
      refine Same.next ?_ (State.reach_same _ _) (by decide)
      exact Same.refl _ _
  · refine Runs.next ?_
    exact Same.refl _ _

theorem execLoopProcessorDown_runs (o : Opt) (proc : Fin 8) (s : State) :
    Runs 0x3001030000 (s.begin o) (execLoopProcessorDown o proc s) := by
  unfold execLoopProcessorDown
  refine Runs.next ?_
  refine Same.ite ?_ ?_
  · refine Same.next ?_ (State.procDown_same _ _ _) (by decide)
    exact Same.refl _ _
  · exact Same.refl _ _

theorem execLoopRestart_same (r : HostReq) (slot : W16) (value : F32) (s : State) :
    Runs 0x2101010001 s (execLoopRestart r slot value s) := by
  unfold execLoopRestart
  refine Runs.next ?_
  refine hostOp_same (by decide) ?_
  intro u hu
  refine OpSame.next ?_ (loopOp_same _ _ _ _ _) (by decide)
  assumption

theorem execLoopSetManual_same (r : HostReq) (slot : W16) (value : F32) (s : State) :
    Runs 0x2101010001 s (execLoopSetManual r slot value s) := by
  unfold execLoopSetManual
  refine Runs.next ?_
  refine hostOp_same (by decide) ?_
  intro u hu
  refine OpSame.next ?_ (loopOp_same _ _ _ _ _) (by decide)
  assumption

theorem execMachineEvent_same (r : HostReq) (machine : Byte) (event : W16) (s : State) :
    Runs 0x2100018001 s (execMachineEvent r machine event s) := by
  unfold execMachineEvent
  refine Runs.next ?_
  refine hostOp_same (by decide) ?_
  intro u hu
  refine OpSame.ite ?_ ?_
  · exact OpSame.refuse
  · refine OpSame.done ?_
    refine Same.next ?_ (State.smCommand_same _ _ _) (by decide)
    assumption

theorem execMfInterlockClear_runs (m : Fin 48) (s : State) :
    Runs 0x2000000 s.start (execMfInterlockClear m s) := by
  unfold execMfInterlockClear
  refine Runs.ite ?_ ?_
  · refine Runs.next ?_
    refine Same.ite ?_ ?_
    · refine Same.next ?_ (State.mfOvrOpen_same _ _) (by decide)
      exact Same.refl _ _
    · refine Same.next ?_ (State.mfRearm_same _ _ _) (by decide)
      exact Same.refl _ _
  · refine Runs.next ?_
    exact Same.refl _ _

theorem mfOp_same (r : HostReq) (cmd : Nat) (mf : Nat) (arg : Nat) (value : F32) (s : State) :
    OpSame 0x2000000 s (mfOp r cmd mf arg value s) := by
  unfold mfOp
  refine OpSame.ite ?_ ?_
  · exact OpSame.refuse
  · refine OpSame.ite ?_ ?_
    · exact OpSame.refuse
    · refine OpSame.ite ?_ ?_
      · exact OpSame.refuse
      · refine OpSame.wait ?_
        refine Same.next ?_ (State.updMf_same _ _ _) (by decide)
        exact Same.refl _ _

theorem execMfManualValue_same (r : HostReq) (mf : Byte) (arg : Byte) (value : F32) (s : State) :
    Runs 0x2102010001 s (execMfManualValue r mf arg value s) := by
  unfold execMfManualValue
  refine Runs.next ?_
  refine hostOp_same (by decide) ?_
  intro u hu
  refine OpSame.next ?_ (mfOp_same _ _ _ _ _ _) (by decide)
  assumption

theorem execMfSetMode_same (r : HostReq) (mf : Byte) (mode : Byte) (value : F32) (s : State) :
    Runs 0x2102010001 s (execMfSetMode r mf mode value s) := by
  unfold execMfSetMode
  refine Runs.next ?_
  refine hostOp_same (by decide) ?_
  intro u hu
  refine OpSame.next ?_ (mfOp_same _ _ _ _ _ _) (by decide)
  assumption

theorem execMfTarget_same (r : HostReq) (mf : Byte) (arg : Byte) (value : F32) (s : State) :
    Runs 0x2102010001 s (execMfTarget r mf arg value s) := by
  unfold execMfTarget
  refine Runs.next ?_
  refine hostOp_same (by decide) ?_
  intro u hu
  refine OpSame.next ?_ (mfOp_same _ _ _ _ _ _) (by decide)
  assumption

theorem execMirrorCopyComplete_runs (o : Opt) (pair : Fin 3) (memberB : Bool) (s : State) :
    Runs 0x100000000 (s.begin o) (execMirrorCopyComplete o pair memberB s) := by
  unfold execMirrorCopyComplete
  refine Runs.ite ?_ ?_
  · refine Runs.next ?_
    exact Same.refl _ _
  · refine Runs.next ?_
    refine Same.next ?_ (State.updPair_same _ _ _) (by decide)
    exact Same.refl _ _

theorem execPathConditionClear_runs (o : Opt) (pair : Fin 3) (memberB : Bool) (s : State) :
    Runs 0x2180000000 (s.begin o) (execPathConditionClear o pair memberB s) := by
  unfold execPathConditionClear
  refine Runs.ite ?_ ?_
  · refine Runs.next ?_
    exact Same.refl _ _
  · refine Runs.next ?_
    refine Same.next ?_ (State.pathClear_same _ _ _) (by decide)
    refine Same.next ?_ (State.updPair_same _ _ _) (by decide)
    refine Same.ite ?_ ?_
    · refine Same.next ?_ (State.updPort_same _ _ _) (by decide)
      exact Same.refl _ _
    · exact Same.refl _ _

theorem execPathErrors_runs (o : Opt) (pair : Fin 3) (memberB : Bool) (fcs : List Opt) (s : State) :
    Runs 0x3180030000 (s.begin o) (execPathErrors o pair memberB fcs s) := by
  unfold execPathErrors
  refine Runs.ite ?_ ?_
  · refine Runs.next ?_
    exact Same.refl _ _
  · refine Runs.ite ?_ ?_
    · refine Runs.next ?_
      refine Same.ite ?_ ?_
      · refine Same.next ?_ (State.fcsErrors_same _ _ _) (by decide)
        exact Same.refl _ _
      · exact Same.refl _ _
    · refine Runs.next ?_
      refine Same.next ?_ (State.pathCond_same _ _ _ _ _) (by decide)
      refine Same.ite ?_ ?_
      · refine Same.next ?_ (State.updPort_same _ _ _) (by decide)
        refine Same.ite ?_ ?_
        · refine Same.next ?_ (State.fcsErrors_same _ _ _) (by decide)
          exact Same.refl _ _
        · exact Same.refl _ _
      · refine Same.ite ?_ ?_
        · refine Same.next ?_ (State.fcsErrors_same _ _ _) (by decide)
          exact Same.refl _ _
        · exact Same.refl _ _

theorem execPathLinkDown_runs (o : Opt) (port : Fin 7) (first : Opt) (s : State) :
    Runs 0x3180030000 (s.begin o) (execPathLinkDown o port first s) := by
  unfold execPathLinkDown
  refine Runs.ite ?_ ?_
  · refine Runs.next ?_
    exact Same.refl _ _
  · refine Runs.next ?_
    refine Same.ite ?_ ?_
    · refine Same.next ?_ (State.pathCond_same _ _ _ _ _) (by decide)
      refine Same.next ?_ (State.updPort_same _ _ _) (by decide)
      exact Same.refl _ _
    · refine Same.next ?_ (State.updPort_same _ _ _) (by decide)
      exact Same.refl _ _

theorem execPathReady_runs (o : Opt) (pair : Fin 3) (memberB : Bool) (s : State) :
    Runs 0x100000000 (s.begin o) (execPathReady o pair memberB s) := by
  unfold execPathReady
  refine Runs.ite ?_ ?_
  · refine Runs.next ?_
    exact Same.refl _ _
  · refine Runs.next ?_
    refine Same.next ?_ (State.memberReady_same _ _ _) (by decide)
    exact Same.refl _ _

theorem execPathSilence_runs (o : Opt) (pair : Fin 2) (memberB : Bool) (s : State) :
    Runs 0x3180030000 (s.begin o) (execPathSilence o pair memberB s) := by
  unfold execPathSilence
  refine Runs.ite ?_ ?_
  · refine Runs.next ?_
    exact Same.refl _ _
  · refine Runs.next ?_
    refine Same.next ?_ (State.pathCond_same _ _ _ _ _) (by decide)
    exact Same.refl _ _

theorem execProbeReply_runs (o : Opt) (memberB : Bool) (s : State) :
    Runs 0x100000000 (s.begin o) (execProbeReply o memberB s) := by
  unfold execProbeReply
  conv => zeta
  split
  · refine Runs.next ?_
    exact Same.refl _ _
  · refine Runs.ite ?_ ?_
    · refine Runs.next ?_
      exact Same.refl _ _
    · refine Runs.next ?_
      refine Same.next ?_ (State.updPair_same _ _ _) (by decide)
      exact Same.refl _ _

theorem execProbeSend_runs (o : Opt) (memberB : Bool) (s : State) :
    Runs 0x2100000000 (s.begin o) (execProbeSend o memberB s) := by
  unfold execProbeSend
  refine Runs.ite ?_ ?_
  · refine Runs.next ?_
    exact Same.refl _ _
  · refine Runs.next ?_
    refine Same.next ?_ (State.send_same _ _) (by decide)
    refine Same.next ?_ (State.updPair_same _ _ _) (by decide)
    exact Same.refl _ _

theorem execProbeTimeout_runs (o : Opt) (memberB : Bool) (s : State) :
    Runs 0x3180030000 (s.begin o) (execProbeTimeout o memberB s) := by
  unfold execProbeTimeout
  conv => zeta
  split
  · refine Runs.next ?_
    exact Same.refl _ _
  · refine Runs.ite ?_ ?_
    · refine Runs.next ?_
      exact Same.refl _ _
    · refine Runs.ite ?_ ?_
      · refine Runs.next ?_
        refine Same.next ?_ (State.updPort_same _ _ _) (by decide)
        refine Same.next ?_ (State.updPair_same _ _ _) (by decide)
        exact Same.refl _ _
      · refine Runs.ite ?_ ?_
        · refine Runs.next ?_
          refine Same.next ?_ (State.updPair_same _ _ _) (by decide)
          refine Same.next ?_ (State.updPort_same _ _ _) (by decide)
          refine Same.next ?_ (State.updPair_same _ _ _) (by decide)
          exact Same.refl _ _
        · refine Runs.next ?_
          refine Same.next ?_ (State.pathCond_same _ _ _ _ _) (by decide)
          refine Same.next ?_ (State.updPort_same _ _ _) (by decide)
          refine Same.next ?_ (State.updPort_same _ _ _) (by decide)
          refine Same.next ?_ (State.updPair_same _ _ _) (by decide)
          exact Same.refl _ _

theorem execSmStep_runs (o : Opt) (m : Fin 64) (late : Bool) (s : State) :
    Runs 0x3882038000 (s.begin o) (execSmStep o m late s) := by
  unfold execSmStep
  refine Runs.ite ?_ ?_
  · refine Runs.next ?_
    exact Same.refl _ _
  · refine Runs.next ?_
    refine Same.next ?_ (State.smStep_same _ _ _) (by decide)
    exact Same.refl _ _

theorem execSmTimerExpiry_runs (o : Opt) (m : Fin 64) (timer : Byte) (s : State) :
    Runs 0x8000 (s.begin o) (execSmTimerExpiry o m timer s) := by
  unfold execSmTimerExpiry
  conv => zeta
  split
  · refine Runs.next ?_
    exact Same.refl _ _
  · refine Runs.ite ?_ ?_
    · refine Runs.next ?_
      exact Same.refl _ _
    · refine Runs.next ?_
      refine Same.next ?_ (State.smPush_same _ _ _) (by decide)
      refine Same.next ?_ (State.updSm_same _ _ _) (by decide)
      exact Same.refl _ _

theorem execTpTimeout_runs (o : Opt) (ch : Fin 8) (conn : Option Nat) (s : State) :
    Runs 0x80000000 (s.begin o) (execTpTimeout o ch conn s) := by
  unfold execTpTimeout
  refine Runs.ite ?_ ?_
  · refine Runs.next ?_
    exact Same.refl _ _
  · conv => zeta
    split
    · conv => zeta
      split
      · refine Runs.next ?_
        exact Same.refl _ _
      · refine Runs.ite ?_ ?_
        · refine Runs.next ?_
          exact Same.refl _ _
        · refine Runs.next ?_
          refine Same.ite ?_ ?_
          · refine Same.next ?_ (State.tpAborted_same _ _) (by decide)
            refine Same.next ?_ (State.updCc_same _ _ _) (by decide)
            exact Same.refl _ _
          · refine Same.next ?_ (State.tpCm_same _ _ _ _ _ _) (by decide)
            refine Same.next ?_ (State.tpAborted_same _ _) (by decide)
            refine Same.next ?_ (State.updCc_same _ _ _) (by decide)
            exact Same.refl _ _
    · conv => zeta
      split
      · refine Runs.next ?_
        exact Same.refl _ _
      · refine Runs.ite ?_ ?_
        · refine Runs.next ?_
          exact Same.refl _ _
        · refine Runs.next ?_
          refine Same.ite ?_ ?_
          · refine Same.next ?_ (State.txmEnd_same _ _ _ _) (by decide)
            exact Same.refl _ _
          · refine Same.next ?_ (State.tpCm_same _ _ _ _ _ _) (by decide)
            refine Same.next ?_ (State.txmEnd_same _ _ _ _) (by decide)
            exact Same.refl _ _

end Sys2Proof.Machine
end

