-- ==== Sys2Proof/Laws/FramesBlocks.lean ====
section
/-! SUPPORT. Frame lemmas: which fields of the state each operation can change, and that each command answers a next state; here for
the blocks (Yield, Flow, Lines, Vision, Rules, ImgTables, Time, Steer, ImgPolicy, ImgCheck, Supply, PowerUp, Update). -/

namespace Sys2Proof.Machine

theorem State.updJournal_same (s : State) (f : Journal → Journal) :
    Same 0x200 s (State.updJournal s f) := by
  unfold State.updJournal
  refine Same.next ?_ Same.set_journal (by decide)
  exact Same.refl _ _

theorem State.abandoned_same (s : State) :
    Same 0x3000030200 s (State.abandoned s) := by
  unfold State.abandoned
  refine Same.next ?_ (State.notice_same _ _ _ _ _) (by decide)
  refine Same.next ?_ (State.updJournal_same _ _) (by decide)
  exact Same.refl _ _

theorem State.chooseSettings_same (s : State) (p : PowerIn) :
    Same 0x200000800 s (State.chooseSettings s p).2 := by
  unfold State.chooseSettings
  refine Same.ite2 ?_ ?_
  · refine Same.pair2 ?_
    refine Same.next ?_ Same.set_updt (by decide)
    exact Same.refl _ _
  · refine Same.ite2 ?_ ?_
    · refine Same.pair2 ?_
      refine Same.next ?_ Same.set_updt (by decide)
      exact Same.refl _ _
    · refine Same.ite2 ?_ ?_
      · refine Same.pair2 ?_
        exact Same.refl _ _
      · refine Same.ite2 ?_ ?_
        · refine Same.pair2 ?_
          refine Same.next ?_ Same.set_updt (by decide)
          exact Same.refl _ _
        · refine Same.ite2 ?_ ?_
          · refine Same.pair2 ?_
            refine Same.next ?_ Same.set_updt (by decide)
            refine Same.next ?_ Same.set_setSlots (by decide)
            exact Same.refl _ _
          · refine Same.pair2 ?_
            exact Same.refl _ _

theorem State.slotRefused_same (s : State) (e : SlotErr) :
    Same 0x40 s (State.slotRefused s e) := by
  unfold State.slotRefused
  refine Same.next ?_ Same.set_boot (by decide)
  exact Same.refl _ _

theorem State.loadChannels_same (s : State) :
    Same 0x780020 s (State.loadChannels s) := by
  unfold State.loadChannels
  refine Same.next ?_ Same.set_wake_psw_vlv_col_sns (by decide)
  exact Same.refl _ _

theorem State.slotTaken_same (s : State) (k : Bool) (trial : Bool) (fallback : Bool) (im : Image) :
    Same 0x782060 s (State.slotTaken s k trial fallback im) := by
  unfold State.slotTaken
  refine Same.next ?_ (State.loadChannels_same _) (by decide)
  refine Same.next ?_ Same.set_boot_img (by decide)
  exact Same.refl _ _

theorem State.chooseSlot_same (s : State) :
    Same 0x782060 s (State.chooseSlot s) := by
  unfold State.chooseSlot
  conv => zeta
  split
  · refine Same.next ?_ (State.slotTaken_same _ _ _ _ _) (by decide)
    exact Same.refl _ _
  · refine Same.ite ?_ ?_
    · conv => zeta
      split
      · refine Same.next ?_ (State.slotTaken_same _ _ _ _ _) (by decide)
        refine Same.next ?_ (State.slotRefused_same _ _) (by decide)
        exact Same.refl _ _
      · refine Same.next ?_ Same.set_boot (by decide)
        refine Same.next ?_ (State.slotRefused_same _ _) (by decide)
        refine Same.next ?_ (State.slotRefused_same _ _) (by decide)
        exact Same.refl _ _
    · refine Same.next ?_ Same.set_boot (by decide)
      refine Same.next ?_ (State.slotRefused_same _ _) (by decide)
      exact Same.refl _ _

theorem State.off_same (s : State) : Same 0xfffffe07f s (s.off) := by
  constructor <;> intro h <;> first | rfl | cases h

theorem State.powerStep1_same (s : State) (p : PowerIn) :
    Same 0xfffffe27f s (State.powerStep1 s p) := by
  unfold State.powerStep1
  refine Same.next ?_ Same.set_pwr_regions_boot_journal_col_updt (by decide)
  refine Same.next ?_ (State.off_same _) (by decide)
  exact Same.refl _ _

theorem State.writeBoot_same (s : State) (f : BootRec → BootRec) :
    Same 0x100 s (State.writeBoot s f) := by
  unfold State.writeBoot
  refine Same.next ?_ Same.set_bootRec (by decide)
  exact Same.refl _ _

theorem State.bootDecide_same (s : State) (trialOk : Bool) :
    Same 0x200000300 s (State.bootDecide s trialOk) := by
  unfold State.bootDecide
  refine Same.ite ?_ ?_
  · refine Same.next ?_ Same.set_journal_updt (by decide)
    refine Same.next ?_ (State.writeBoot_same _ _) (by decide)
    exact Same.refl _ _
  · refine Same.ite ?_ ?_
    · refine Same.next ?_ Same.set_journal_updt (by decide)
      refine Same.next ?_ (State.writeBoot_same _ _) (by decide)
      exact Same.refl _ _
    · exact Same.refl _ _

theorem State.powerStep2_same (s : State) (p : PowerIn) :
    Same 0x2000003c2 s (State.powerStep2 s p).2 := by
  unfold State.powerStep2
  refine Same.ite2 ?_ ?_
  · refine Same.pair2 ?_
    refine Same.next ?_ Same.set_boot (by decide)
    refine Same.next ?_ (State.bootDecide_same _ _) (by decide)
    refine Same.next ?_ Same.set_boot (by decide)
    exact Same.refl _ _
  · refine Same.pair2 ?_
    refine Same.next ?_ Same.set_pwr_flash (by decide)
    refine Same.next ?_ (State.bootDecide_same _ _) (by decide)
    refine Same.next ?_ Same.set_boot (by decide)
    exact Same.refl _ _

theorem State.powerStep3_same (s : State) (p : PowerIn) :
    Same 0x40 s (State.powerStep3 s p) := by
  unfold State.powerStep3
  refine Same.next ?_ Same.set_boot (by decide)
  exact Same.refl _ _

theorem State.writeReason_same (s : State) (reason : BitVec 4) :
    Same 0x80 s (State.writeReason s reason) := by
  unfold State.writeReason
  refine Same.next ?_ Same.set_flash (by decide)
  exact Same.refl _ _

theorem State.powerRun_same (s : State) (p : PowerIn) :
    Same 0x3fffffebff s (State.powerRun s p).2 := by
  unfold State.powerRun
  refine Same.ite2 ?_ ?_
  · refine Same.pair2 ?_
    refine Same.next ?_ (State.powerStep2_same _ _) (by decide)
    refine Same.next ?_ (State.powerStep1_same _ _) (by decide)
    exact Same.refl _ _
  · refine Same.ite2 ?_ ?_
    · refine Same.pair2 ?_
      refine Same.next ?_ (State.chooseSlot_same _) (by decide)
      refine Same.next ?_ (State.chooseSettings_same _ _) (by decide)
      refine Same.next ?_ (State.powerStep3_same _ _) (by decide)
      refine Same.next ?_ (State.powerStep2_same _ _) (by decide)
      refine Same.next ?_ (State.powerStep1_same _ _) (by decide)
      exact Same.refl _ _
    · refine Same.pair2 ?_
      refine Same.next ?_ (State.send_same _ _) (by decide)
      refine Same.next ?_ (State.writeReason_same _ _) (by decide)
      refine Same.next ?_ (State.writeBoot_same _ _) (by decide)
      refine Same.next ?_ (State.notice_same _ _ _ _ _) (by decide)
      refine Same.next ?_ (State.chooseSettings_same _ _) (by decide)
      refine Same.next ?_ (State.powerStep3_same _ _) (by decide)
      refine Same.next ?_ (State.powerStep2_same _ _) (by decide)
      refine Same.next ?_ (State.powerStep1_same _ _) (by decide)
      exact Same.refl _ _

theorem State.powerUp_same (s : State) (p : PowerIn) :
    Same 0x3fffffebff s (State.powerUp s p) := by
  unfold State.powerUp
  refine Same.ite ?_ ?_
  · refine Same.next ?_ (State.powerRun_same _ _) (by decide)
    refine Same.next ?_ (State.powerRun_same _ _) (by decide)
    exact Same.refl _ _
  · refine Same.next ?_ (State.powerRun_same _ _) (by decide)
    exact Same.refl _ _

theorem State.updFlw_same (s : State) (f : FlwSt → FlwSt) :
    Same 0x800000 s (State.updFlw s f) := by
  unfold State.updFlw
  refine Same.next ?_ Same.set_flw (by decide)
  exact Same.refl _ _

theorem State.calResult_same (s : State) (st : CalState) (r : Nat) :
    Same 0x800000 s (State.calResult s st r) := by
  unfold State.calResult
  refine Same.next ?_ (State.updFlw_same _ _) (by decide)
  exact Same.refl _ _

theorem State.calAbort_same (s : State) :
    Same 0x800000 s (State.calAbort s) := by
  unfold State.calAbort
  conv => zeta
  split
  · refine Same.next ?_ (State.calResult_same _ _ _) (by decide)
    exact Same.refl _ _
  · refine Same.next ?_ (State.calResult_same _ _ _) (by decide)
    exact Same.refl _ _
  · exact Same.refl _ _

theorem State.loopsStop_same (s : State) :
    Same 0x1000000 s (State.loopsStop s) := by
  unfold State.loopsStop
  refine Same.next ?_ Same.set_lop (by decide)
  exact Same.refl _ _

theorem State.updYld_same (s : State) (f : YldSt → YldSt) :
    Same 0x20000000 s (State.updYld s f) := by
  unfold State.updYld
  refine Same.next ?_ Same.set_yld (by decide)
  exact Same.refl _ _

theorem State.saveRaster_same (s : State) :
    Same 0x20001000 s (State.saveRaster s) := by
  unfold State.saveRaster
  refine Same.ite ?_ ?_
  · refine Same.next ?_ (State.updYld_same _ _) (by decide)
    exact Same.refl _ _
  · refine Same.next ?_ Same.set_store_yld (by decide)
    exact Same.refl _ _

theorem State.takeEntries_same (s : State) (limit : Opt) :
    Same 0x20000000 s (State.takeEntries s limit) := by
  unfold State.takeEntries
  refine Same.next ?_ (State.updYld_same _ _) (by decide)
  exact Same.refl _ _

theorem State.takeDue_same (s : State) :
    Same 0x20000000 s (State.takeDue s) := by
  unfold State.takeDue
  conv => zeta
  split
  · refine Same.next ?_ (State.takeEntries_same _ _) (by decide)
    exact Same.refl _ _
  · refine Same.next ?_ (State.takeEntries_same _ _) (by decide)
    exact Same.refl _ _

theorem State.writeRec_same (s : State) (kind : Nat) (opt : Nat) (dvt : Nat) (body : Nat → List Byte) :
    Same 0x3020011000 s (State.writeRec s kind opt dvt body) := by
  unfold State.writeRec
  refine Same.next ?_ (State.publish_same _ _ _ _ _ _) (by decide)
  refine Same.ite ?_ ?_
  · refine Same.next ?_ (State.updYld_same _ _) (by decide)
    refine Same.next ?_ Same.set_store_yld (by decide)
    exact Same.refl _ _
  · refine Same.next ?_ Same.set_store (by decide)
    refine Same.next ?_ Same.set_store_yld (by decide)
    exact Same.refl _ _

theorem State.writeMarks_same (s : State) (h1 : Opt) (gen : Nat) :
    Same 0x3020011000 s (State.writeMarks s h1 gen) := by
  unfold State.writeMarks
  refine Same.fold _ ?_ ?_
  · refine Same.next ?_ (State.updYld_same _ _) (by decide)
    exact Same.refl _ _
  · intro u a hu
    refine Same.next ?_ (State.updYld_same _ _) (by decide)
    refine Same.next ?_ (State.writeRec_same _ _ _ _ _) (by decide)
    assumption

theorem State.tlgRaws_same (s : State) (id : Nat) (b : List Byte) :
    Same 0x800000000 s (s.tlgRaws id b).2 := by
  unfold State.tlgRaws
  generalize List.range (u16 b 2) = l
  suffices h : ∀ (a : List Nat × State), Same 0x800000000 s a.2 → Same 0x800000000 s (l.foldl _ a).2 from h _ (Same.refl _ _)
  induction l with
  | nil => exact fun a h => h
  | cons i l ih =>
    intro a h
    refine ih _ ?_
    exact Same.ite (h.next Same.set_fmt (by decide)) h

theorem State.writeTlg_same (s : State) (r : YldRec) :
    Same 0x820001000 s (State.writeTlg s r) := by
  unfold State.writeTlg
  conv => zeta
  split
  · exact Same.refl _ _
  · conv => zeta
    split
    · refine Same.next ?_ (State.updYld_same _ _) (by decide)
      exact Same.refl _ _
    · refine Same.ite ?_ ?_
      · refine Same.ite ?_ ?_
        · refine Same.next ?_ (State.updYld_same _ _) (by decide)
          refine Same.next ?_ (State.tlgRaws_same _ _ _) (by decide)
          exact Same.refl _ _
        · refine Same.next ?_ Same.set_store (by decide)
          refine Same.next ?_ (State.tlgRaws_same _ _ _) (by decide)
          exact Same.refl _ _
      · refine Same.ite ?_ ?_
        · refine Same.next ?_ (State.updYld_same _ _) (by decide)
          refine Same.next ?_ (State.tlgRaws_same _ _ _) (by decide)
          exact Same.refl _ _
        · refine Same.next ?_ Same.set_store_yld (by decide)
          refine Same.next ?_ (State.tlgRaws_same _ _ _) (by decide)
          exact Same.refl _ _

theorem State.writeData_same (s : State) (r : YldRec) (trunc : Bool) :
    Same 0x3820011000 s (State.writeData s r trunc) := by
  unfold State.writeData
  refine Same.next ?_ (State.writeTlg_same _ _) (by decide)
  refine Same.next ?_ (State.updYld_same _ _) (by decide)
  refine Same.next ?_ (State.writeRec_same _ _ _ _ _) (by decide)
  refine Same.next ?_ (State.writeMarks_same _ _ _) (by decide)
  refine Same.fold _ ?_ ?_
  · exact Same.refl _ _
  · intro u a hu
    refine Same.next ?_ (State.writeRec_same _ _ _ _ _) (by decide)
    assumption

theorem State.yieldShutdown_same (s : State) :
    Same 0x3820011000 s (State.yieldShutdown s) := by
  unfold State.yieldShutdown
  refine Same.next ?_ (State.saveRaster_same _) (by decide)
  refine Same.fold _ ?_ ?_
  · refine Same.next ?_ (State.updYld_same _ _) (by decide)
    refine Same.next ?_ (State.updYld_same _ _) (by decide)
    conv => zeta
    split
    · conv => zeta
      split
      · refine Same.next ?_ (State.updYld_same _ _) (by decide)
        refine Same.next ?_ (State.takeDue_same _) (by decide)
        exact Same.refl _ _
      · refine Same.next ?_ (State.updYld_same _ _) (by decide)
        refine Same.next ?_ (State.takeDue_same _) (by decide)
        exact Same.refl _ _
    · refine Same.next ?_ (State.takeDue_same _) (by decide)
      exact Same.refl _ _
  · intro u a hu
    refine Same.next ?_ (State.writeData_same _ _ _) (by decide)
    assumption

theorem State.shutdownSteps_same (s : State) :
    Same 0x3821bb1030 s (State.shutdownSteps s) := by
  unfold State.shutdownSteps
  refine Same.next ?_ (State.recShutdown_same _) (by decide)
  refine Same.next ?_ (State.yieldShutdown_same _) (by decide)
  refine Same.next ?_ (State.calAbort_same _) (by decide)
  refine Same.next ?_ (State.loopsStop_same _) (by decide)
  refine Same.next ?_ Same.set_wake (by decide)
  refine Same.next ?_ (State.settleAll_same _ _) (by decide)
  refine Same.fold _ ?_ ?_
  · refine Same.next ?_ Same.set_bud (by decide)
    exact Same.refl _ _
  · intro u a hu
    refine Same.next ?_ (State.refuseReq_same _ _) (by decide)
    assumption

theorem State.activate_same (s : State) (p : PowerIn) :
    Same 0x3ffffffbff s (State.activate s p) := by
  unfold State.activate
  refine Same.next ?_ (State.powerUp_same _ _) (by decide)
  refine Same.next ?_ (State.send_same _ _) (by decide)
  refine Same.next ?_ (State.writeReason_same _ _) (by decide)
  refine Same.next ?_ (State.writeBoot_same _ _) (by decide)
  refine Same.next ?_ (State.updJournal_same _ _) (by decide)
  refine Same.next ?_ (State.shutdownSteps_same _) (by decide)
  exact Same.refl _ _

theorem State.updTim_same (s : State) (f : TimSt → TimSt) :
    Same 0x8000000 s (State.updTim s f) := by
  unfold State.updTim
  refine Same.next ?_ Same.set_tim (by decide)
  exact Same.refl _ _

theorem State.advanceTick_same (s : State) :
    Same 0x8010001 s (State.advanceTick s) := by
  unfold State.advanceTick
  refine Same.ite ?_ ?_
  · refine Same.next ?_ (State.updTim_same _ _) (by decide)
    refine Same.next ?_ (State.reach_same _ _) (by decide)
    refine Same.next ?_ Same.set_clk_hst (by decide)
    exact Same.refl _ _
  · refine Same.next ?_ (State.reach_same _ _) (by decide)
    refine Same.next ?_ Same.set_clk_hst (by decide)
    exact Same.refl _ _

theorem State.updVis_same (s : State) (f : VisSt → VisSt) :
    Same 0x40000000 s (State.updVis s f) := by
  unfold State.updVis
  refine Same.next ?_ Same.set_vis (by decide)
  exact Same.refl _ _

theorem State.updCam_same (s : State) (n : Nat) (f : Cam → Cam) :
    Same 0x40000000 s (State.updCam s n f) := by
  unfold State.updCam
  refine Same.next ?_ (State.updVis_same _ _) (by decide)
  exact Same.refl _ _

theorem State.autoExpose_same (s : State) (j : FrameJob) (m : Q) :
    Same 0x40004000 s (State.autoExpose s j m) := by
  unfold State.autoExpose
  refine Same.ite ?_ ?_
  · exact Same.refl _ _
  · refine Same.ite ?_ ?_
    · exact Same.refl _ _
    · refine Same.next ?_ (State.updCam_same _ _ _) (by decide)
      refine Same.next ?_ Same.set_grp (by decide)
      exact Same.refl _ _

theorem State.channelsStart_same (s : State) :
    Same 0x30003b0070 s (State.channelsStart s) := by
  unfold State.channelsStart
  refine Same.next ?_ Same.set_boot (by decide)
  refine Same.fold _ ?_ ?_
  · exact Same.refl _ _
  · intro u a hu
    refine Same.ite ?_ ?_
    · refine Same.next ?_ (State.pswApply_same _ _ _) (by decide)
      assumption
    · assumption

theorem State.updStr_same (s : State) (f : StrSt → StrSt) :
    Same 0x10000000 s (State.updStr s f) := by
  unfold State.updStr
  refine Same.next ?_ Same.set_str (by decide)
  exact Same.refl _ _

theorem State.hostAbsent_same (s : State) :
    Same 0x13380000 s (State.hostAbsent s) := by
  unfold State.hostAbsent
  refine Same.next ?_ Same.set_prf (by decide)
  refine Same.ite ?_ ?_
  · refine Same.next ?_ (State.updStr_same _ _) (by decide)
    refine Same.next ?_ (State.colSheepdog_same _ _) (by decide)
    refine Same.next ?_ (State.vlvAbsent_same _) (by decide)
    refine Same.next ?_ (State.pswAbsent_same _) (by decide)
    refine Same.next ?_ (State.lopAbsent_same _) (by decide)
    exact Same.refl _ _
  · refine Same.next ?_ (State.colSheepdog_same _ _) (by decide)
    refine Same.next ?_ (State.vlvAbsent_same _) (by decide)
    refine Same.next ?_ (State.pswAbsent_same _) (by decide)
    refine Same.next ?_ (State.lopAbsent_same _) (by decide)
    exact Same.refl _ _

theorem State.lossStart_same (s : State) :
    Same 0x800000 s (State.lossStart s) := by
  unfold State.lossStart
  refine Same.next ?_ Same.set_flw (by decide)
  exact Same.refl _ _

theorem State.smStart_same (s : State) :
    Same 0x8000 s (State.smStart s) := by
  unfold State.smStart
  refine Same.next ?_ Same.set_sm (by decide)
  exact Same.refl _ _

theorem State.updPipe_same (s : State) (p : Nat) (f : Pipe → Pipe) :
    Same 0x40000000 s (State.updPipe s p f) := by
  unfold State.updPipe
  refine Same.next ?_ (State.updVis_same _ _) (by decide)
  exact Same.refl _ _

theorem State.pipeEnable_same (s : State) (n : Nat) :
    Same 0x40000000 s (State.pipeEnable s n) := by
  unfold State.pipeEnable
  refine Same.next ?_ (State.updPipe_same _ _ _) (by decide)
  exact Same.refl _ _

theorem State.camEnable_same (s : State) (m : BitVec 6) :
    Same 0x2040000000 s (State.camEnable s m) := by
  unfold State.camEnable
  refine Same.fold _ ?_ ?_
  · refine Same.next ?_ (State.updVis_same _ _) (by decide)
    exact Same.refl _ _
  · intro u a hu
    refine Same.ite ?_ ?_
    · refine Same.ite ?_ ?_
      · refine Same.next ?_ (State.pipeEnable_same _ _) (by decide)
        assumption
      · assumption
    · refine Same.ite ?_ ?_
      · refine Same.next ?_ (State.send_same _ _) (by decide)
        refine Same.next ?_ (State.updCam_same _ _ _) (by decide)
        refine Same.ite ?_ ?_
        · refine Same.next ?_ (State.pipeEnable_same _ _) (by decide)
          assumption
        · assumption
      · refine Same.ite ?_ ?_
        · refine Same.next ?_ (State.updCam_same _ _ _) (by decide)
          refine Same.ite ?_ ?_
          · refine Same.next ?_ (State.pipeEnable_same _ _) (by decide)
            assumption
          · assumption
        · refine Same.ite ?_ ?_
          · refine Same.next ?_ (State.pipeEnable_same _ _) (by decide)
            assumption
          · assumption

theorem State.visStart_same (s : State) :
    Same 0x2040000000 s (State.visStart s) := by
  unfold State.visStart
  refine Same.next ?_ (State.camEnable_same _ _) (by decide)
  refine Same.next ?_ (State.updVis_same _ _) (by decide)
  exact Same.refl _ _

theorem State.yieldCrop_same (s : State) :
    Same 0x20000000 s (State.yieldCrop s) := by
  unfold State.yieldCrop
  refine Same.next ?_ (State.updYld_same _ _) (by decide)
  exact Same.refl _ _

theorem State.yieldStart_same (s : State) :
    Same 0x20001000 s (State.yieldStart s) := by
  unfold State.yieldStart
  refine Same.next ?_ Same.set_store (by decide)
  refine Same.next ?_ (State.updYld_same _ _) (by decide)
  refine Same.next ?_ (State.yieldCrop_same _) (by decide)
  exact Same.refl _ _

theorem State.blocksStart_same (s : State) :
    Same 0x31fffb9071 s (State.blocksStart s) := by
  unfold State.blocksStart
  refine Same.next ?_ (State.channelsStart_same _) (by decide)
  refine Same.next ?_ (State.hostAbsent_same _) (by decide)
  refine Same.next ?_ (State.canPairsStart_same _) (by decide)
  refine Same.next ?_ (State.ethStart_same _) (by decide)
  refine Same.next ?_ (State.canStartup_same _) (by decide)
  refine Same.next ?_ (State.visStart_same _) (by decide)
  refine Same.next ?_ Same.set_clk_sns_tim (by decide)
  refine Same.next ?_ (State.yieldStart_same _) (by decide)
  refine Same.next ?_ (State.navStart_same _) (by decide)
  refine Same.next ?_ (State.lopStart_same _) (by decide)
  refine Same.next ?_ (State.lossStart_same _) (by decide)
  refine Same.next ?_ (State.smStart_same _) (by decide)
  exact Same.refl _ _

theorem State.camCutoff_same (s : State) (n : Nat) :
    Same 0x2040014000 s (State.camCutoff s n) := by
  unfold State.camCutoff
  conv => zeta
  split
  · exact Same.refl _ _
  · refine Same.ite ?_ ?_
    · refine Same.next ?_ (State.send_same _ _) (by decide)
      refine Same.next ?_ (State.updCam_same _ _ _) (by decide)
      refine Same.next ?_ (State.updCam_same _ _ _) (by decide)
      refine Same.next ?_ (State.applySnap_same _ _) (by decide)
      exact Same.refl _ _
    · refine Same.next ?_ (State.updCam_same _ _ _) (by decide)
      refine Same.next ?_ (State.applySnap_same _ _) (by decide)
      exact Same.refl _ _

theorem State.flwBoundary_same (s : State) :
    Same 0x2020814000 s (State.flwBoundary s) := by
  unfold State.flwBoundary
  refine Same.ite ?_ ?_
  · refine Same.next ?_ (State.applyGroup_same _ _) (by decide)
    refine Same.next ?_ (State.applyGroup_same _ _) (by decide)
    exact Same.refl _ _
  · refine Same.next ?_ (State.yieldCrop_same _) (by decide)
    refine Same.next ?_ (State.updFlw_same _ _) (by decide)
    refine Same.next ?_ (State.calAbort_same _) (by decide)
    refine Same.next ?_ (State.applyGroup_same _ _) (by decide)
    refine Same.next ?_ (State.applyGroup_same _ _) (by decide)
    exact Same.refl _ _

theorem State.clampEst_same (s : State) :
    Same 0x20000800 s (State.clampEst s) := by
  unfold State.clampEst
  refine Same.next ?_ (State.updSettings_same _ _) (by decide)
  refine Same.next ?_ (State.updYld_same _ _) (by decide)
  exact Same.refl _ _

theorem State.yldBoundary_same (s : State) :
    Same 0x2020014800 s (State.yldBoundary s) := by
  unfold State.yldBoundary
  refine Same.ite ?_ ?_
  · refine Same.next ?_ (State.updYld_same _ _) (by decide)
    refine Same.next ?_ (State.clampEst_same _) (by decide)
    refine Same.next ?_ (State.applyGroup_same _ _) (by decide)
    exact Same.refl _ _
  · exact Same.refl _ _

theorem State.trySettings_same (s : State) (f : Settings → Settings) :
    Same 0x1000000800 s (s.trySettings f).2 := by
  unfold State.trySettings
  refine Same.ite2 ?_ ?_
  · exact (Same.refl _ _).next Same.set_free (by decide)
  · exact (Same.refl _ _).next Same.set_free (by decide)

theorem State.trySettings_some (s : State) (f : Settings → Settings) {t u : State} (h : s.trySettings f = (some t, u)) :
    Same 0x1000000800 s t := by
  unfold State.trySettings at h
  split at h
  · cases h
  · injection h with h _
    injection h with h
    subst h
    exact ((Same.refl _ _).next Same.set_free (by decide)).next (State.updSettings_same _ _) (by decide)

theorem State.calEnter_same (s : State) : Same 0x1000800800 s s.calEnter := by
  unfold State.calEnter
  refine Same.ite ((Same.refl _ _).next (State.calResult_same _ _ _) (by decide)) ?_
  refine Same.ite ((Same.refl _ _).next (State.calResult_same _ _ _) (by decide)) ?_
  refine Same.ite ((Same.refl _ _).next (State.calResult_same _ _ _) (by decide)) ?_
  conv => zeta
  split
  · rename_i t u h
    exact ((((Same.refl _ _).next (State.trySettings_some _ _ h) (by decide)).next (State.updFlw_same _ _) (by decide))).next
      (State.calResult_same _ _ _) (by decide)
  · rename_i t h
    have k := State.trySettings_same s (fun t => { t with cal := bindN t.cal s.crop (fmul s.calFactor (fdiv (fRat s.flw.mass.toNat 10) s.flw.mm)), calGen := t.calGen + 1 })
    rw [h] at k
    exact ((Same.refl _ _).next k (by decide)).next (State.calResult_same _ _ _) (by decide)

theorem State.calCommand_same (s : State) (c : CalCmd) :
    Same 0x1000800800 s (State.calCommand s c) := by
  unfold State.calCommand
  conv => zeta
  split
  · refine Same.next ?_ (State.updFlw_same _ _) (by decide)
    exact Same.refl _ _
  · refine Same.next ?_ (State.updFlw_same _ _) (by decide)
    exact Same.refl _ _
  · refine Same.next ?_ (State.calEnter_same _) (by decide)
    exact Same.refl _ _
  · refine Same.next ?_ (State.calResult_same _ _ _) (by decide)
    exact Same.refl _ _
  · refine Same.next ?_ (State.calResult_same _ _ _) (by decide)
    exact Same.refl _ _
  · refine Same.next ?_ (State.updFlw_same _ _) (by decide)
    exact Same.refl _ _
  · refine Same.next ?_ (State.calResult_same _ _ _) (by decide)
    exact Same.refl _ _

theorem State.calQueue_same (s : State) (c : CalCmd) :
    Same 0x800000 s (State.calQueue s c) := by
  unfold State.calQueue
  refine Same.next ?_ (State.updFlw_same _ _) (by decide)
  exact Same.refl _ _

theorem State.camCntClear_same (s : State) (m : Nat) :
    Same 0x40000000 s (State.camCntClear s m) := by
  unfold State.camCntClear
  refine Same.next ?_ (State.updVis_same _ _) (by decide)
  exact Same.refl _ _

theorem State.notchTick_same (s : State) :
    Same 0x800000 s (State.notchTick s) := by
  unfold State.notchTick
  refine Same.next ?_ (State.updFlw_same _ _) (by decide)
  exact Same.refl _ _

theorem State.chooseLag_same (s : State) (b : YldBound) :
    Same 0x20000000 s (State.chooseLag s b) := by
  unfold State.chooseLag
  refine Same.ite ?_ ?_
  · refine Same.next ?_ (State.updYld_same _ _) (by decide)
    exact Same.refl _ _
  · refine Same.ite ?_ ?_
    · refine Same.next ?_ (State.updYld_same _ _) (by decide)
      exact Same.refl _ _
    · exact Same.refl _ _

theorem State.clearRaster_same (s : State) (k : Word) :
    Same 0x20001000 s (State.clearRaster s k) := by
  unfold State.clearRaster
  refine Same.ite ?_ ?_
  · refine Same.next ?_ (State.updYld_same _ _) (by decide)
    exact Same.refl _ _
  · refine Same.next ?_ Same.set_store (by decide)
    exact Same.refl _ _

theorem State.closeRec_same (s : State) (b : YldBound) :
    Same 0x20000000 s (State.closeRec s b) := by
  unfold State.closeRec
  conv => zeta
  split
  · exact Same.refl _ _
  · refine Same.next ?_ (State.updYld_same _ _) (by decide)
    exact Same.refl _ _

theorem State.committedTo_same (s : State) (w : Nat) :
    Same 0x200 s (State.committedTo s w) := by
  unfold State.committedTo
  refine Same.next ?_ (State.updJournal_same _ _) (by decide)
  exact Same.refl _ _

theorem State.leapStep_same (s : State) (f : TimSt → TimSt) :
    Same 0x3028030000 s (State.leapStep s f) := by
  unfold State.leapStep
  refine Same.ite ?_ ?_
  · refine Same.next ?_ (State.newEpoch_same _) (by decide)
    refine Same.next ?_ (State.updTim_same _ _) (by decide)
    exact Same.refl _ _
  · refine Same.next ?_ (State.updTim_same _ _) (by decide)
    exact Same.refl _ _

theorem State.timeCmd_same (s : State) (c : TimeCmd) :
    Same 0x3028030000 s (State.timeCmd s c) := by
  unfold State.timeCmd
  refine Same.next ?_ (State.complete_same _ _ _ _) (by decide)
  conv => zeta
  split
  · refine Same.next ?_ (State.newEpoch_same _) (by decide)
    refine Same.next ?_ (State.updTim_same _ _) (by decide)
    exact Same.refl _ _
  · refine Same.ite ?_ ?_
    · refine Same.next ?_ (State.newEpoch_same _) (by decide)
      refine Same.next ?_ (State.updTim_same _ _) (by decide)
      exact Same.refl _ _
    · exact Same.refl _ _
  · refine Same.next ?_ (State.updTim_same _ _) (by decide)
    exact Same.refl _ _
  · refine Same.next ?_ (State.leapStep_same _ _) (by decide)
    exact Same.refl _ _

theorem State.timTick_same (s : State) :
    Same 0x3028030000 s (State.timTick s) := by
  unfold State.timTick
  refine Same.fold _ ?_ ?_
  · refine Same.next ?_ (State.updTim_same _ _) (by decide)
    exact Same.refl _ _
  · intro u a hu
    refine Same.next ?_ (State.timeCmd_same _ _) (by decide)
    assumption

theorem State.updUpd_same (s : State) (f : UpdSt → UpdSt) :
    Same 0x200000000 s (State.updUpd s f) := by
  unfold State.updUpd
  refine Same.next ?_ Same.set_updt (by decide)
  exact Same.refl _ _

theorem State.deferred_same (s : State) (w : Nat) :
    Same 0x3200030000 s (State.deferred s w) := by
  unfold State.deferred
  refine Same.next ?_ (State.notice_same _ _ _ _ _) (by decide)
  refine Same.next ?_ (State.updUpd_same _ _) (by decide)
  exact Same.refl _ _

theorem State.disengage_same (s : State) (reason : Nat) :
    Same 0x10000000 s (State.disengage s reason) := by
  unfold State.disengage
  refine Same.next ?_ (State.updStr_same _ _) (by decide)
  exact Same.refl _ _

theorem State.dropFrame_same (s : State) (n : Nat) (r : Nat) :
    Same 0x40000000 s (State.dropFrame s n r) := by
  unfold State.dropFrame
  conv => zeta
  split
  · exact Same.refl _ _
  · refine Same.ite ?_ ?_
    · refine Same.next ?_ (State.updPipe_same _ _ _) (by decide)
      refine Same.next ?_ (State.updCam_same _ _ _) (by decide)
      exact Same.refl _ _
    · refine Same.next ?_ (State.updCam_same _ _ _) (by decide)
      exact Same.refl _ _

theorem State.learnFreq_same (s : State) :
    Same 0x1008000000 s (State.learnFreq s) := by
  unfold State.learnFreq
  refine Same.ite ?_ ?_
  · refine Same.next ?_ (State.updTim_same _ _) (by decide)
    refine Same.next ?_ (State.draw_same _) (by decide)
    exact Same.refl _ _
  · exact Same.refl _ _

theorem State.reSlew_same (s : State) (o : Opt) (w : Int) :
    Same 0x8000000 s (State.reSlew s o w) := by
  unfold State.reSlew
  refine Same.next ?_ (State.updTim_same _ _) (by decide)
  exact Same.refl _ _

theorem State.enterHoldover_same (s : State) :
    Same 0x3008030000 s (State.enterHoldover s) := by
  unfold State.enterHoldover
  refine Same.next ?_ (State.notice_same _ _ _ _ _) (by decide)
  refine Same.next ?_ (State.updTim_same _ _) (by decide)
  refine Same.next ?_ (State.reSlew_same _ _ _) (by decide)
  refine Same.next ?_ (State.learnFreq_same _) (by decide)
  exact Same.refl _ _

theorem State.updLs_same (s : State) (c : Nat) (f : LossCh → LossCh) :
    Same 0x800000 s (State.updLs s c f) := by
  unfold State.updLs
  refine Same.next ?_ (State.updFlw_same _ _) (by decide)
  exact Same.refl _ _

theorem State.lossBoundary_same (s : State) :
    Same 0x800000 s (State.lossBoundary s) := by
  unfold State.lossBoundary
  refine Same.next ?_ (State.updFlw_same _ _) (by decide)
  exact Same.refl _ _

theorem State.flowBoundary_same (s : State) :
    Same 0x3020814800 s (State.flowBoundary s) := by
  unfold State.flowBoundary
  refine Same.next ?_ (State.lossBoundary_same _) (by decide)
  refine Same.fold _ ?_ ?_
  · refine Same.next ?_ (State.updFlw_same _ _) (by decide)
    refine Same.next ?_ (State.flwBoundary_same _) (by decide)
    exact Same.refl _ _
  · intro u a hu
    refine Same.next ?_ (State.calCommand_same _ _) (by decide)
    assumption

theorem State.lossClose_same (s : State) :
    Same 0x800000 s (State.lossClose s) := by
  unfold State.lossClose
  refine Same.next ?_ (State.updFlw_same _ _) (by decide)
  exact Same.refl _ _

theorem State.lossDrop_same (s : State) :
    Same 0x800000 s (State.lossDrop s) := by
  unfold State.lossDrop
  refine Same.next ?_ (State.updFlw_same _ _) (by decide)
  exact Same.refl _ _

theorem State.lossGroups_same (s : State) (ticks : Nat) (wet : Sig) :
    Same 0x800000 s (State.lossGroups s ticks wet) := by
  unfold State.lossGroups
  refine Same.next ?_ (State.updFlw_same _ _) (by decide)
  exact Same.refl _ _

theorem State.flowClose_same (s : State) (ticks : Nat) (whole : Bool) :
    Same 0x3020814800 s (State.flowClose s ticks whole).2 := by
  unfold State.flowClose
  refine Same.ite2 ?_ ?_
  · refine Same.pair2 ?_
    refine Same.next ?_ (State.flowBoundary_same _) (by decide)
    refine Same.next ?_ (State.updFlw_same _ _) (by decide)
    refine Same.next ?_ (State.lossDrop_same _) (by decide)
    exact Same.refl _ _
  · refine Same.pair2 ?_
    refine Same.next ?_ (State.flowBoundary_same _) (by decide)
    refine Same.next ?_ (State.updFlw_same _ _) (by decide)
    refine Same.next ?_ (State.updFlw_same _ _) (by decide)
    refine Same.next ?_ (State.lossGroups_same _ _ _) (by decide)
    refine Same.next ?_ (State.lossClose_same _) (by decide)
    exact Same.refl _ _

theorem State.yieldFrame_same (s : State) (f : YldFrame) :
    Same 0x20000000 s (State.yieldFrame s f) := by
  unfold State.yieldFrame
  refine Same.ite ?_ ?_
  · exact Same.refl _ _
  · refine Same.next ?_ (State.updYld_same _ _) (by decide)
    exact Same.refl _ _

theorem State.flowPublish_same (s : State) :
    Same 0x20800000 s (State.flowPublish s) := by
  unfold State.flowPublish
  conv => zeta
  split
  · refine Same.next ?_ (State.yieldFrame_same _ _) (by decide)
    refine Same.next ?_ (State.updYld_same _ _) (by decide)
    refine Same.next ?_ (State.updFlw_same _ _) (by decide)
    exact Same.refl _ _
  · refine Same.next ?_ (State.updFlw_same _ _) (by decide)
    exact Same.refl _ _

theorem State.lossCntClear_same (s : State) (m : Nat) :
    Same 0x800000 s (State.lossCntClear s m) := by
  unfold State.lossCntClear
  refine Same.next ?_ (State.updFlw_same _ _) (by decide)
  exact Same.refl _ _

theorem State.forward_same (s : State) (inst : Nat) (m : RelayIn) :
    Same 0x3000010000 s (State.forward s inst m) := by
  unfold State.forward
  refine Same.next ?_ (State.publishItem_same _ _ _ _) (by decide)
  exact Same.refl _ _

theorem State.guide_same (s : State) (e : Option LineErr) (engage : Bool) :
    Same 0x10000000 s (State.guide s e engage) := by
  unfold State.guide
  conv => zeta
  split
  · exact Same.refl _ _
  · refine Same.next ?_ (State.updStr_same _ _) (by decide)
    exact Same.refl _ _

theorem State.relay_same (s : State) (inst : Nat) (kind : Nat) (part : Nat) (chunk : Nat) (block : Nat) (window : Nat) (payload : List Byte) :
    Same 0x3000010000 s (State.relay s inst kind part chunk block window payload) := by
  unfold State.relay
  refine Same.next ?_ (State.publish_same _ _ _ _ _ _) (by decide)
  exact Same.refl _ _

theorem State.headDefer_same (s : State) (w : Nat) :
    Same 0x3200030200 s (State.headDefer s w) := by
  unfold State.headDefer
  refine Same.ite ?_ ?_
  · refine Same.next ?_ (State.abandoned_same _) (by decide)
    refine Same.next ?_ (State.relay_same _ _ _ _ _ _ _ _) (by decide)
    refine Same.next ?_ (State.deferred_same _ _) (by decide)
    refine Same.next ?_ (State.relay_same _ _ _ _ _ _ _ _) (by decide)
    refine Same.next ?_ (State.updUpd_same _ _) (by decide)
    exact Same.refl _ _
  · refine Same.next ?_ (State.deferred_same _ _) (by decide)
    refine Same.next ?_ (State.relay_same _ _ _ _ _ _ _ _) (by decide)
    refine Same.next ?_ (State.updUpd_same _ _) (by decide)
    exact Same.refl _ _

theorem State.updSrc_same (s : State) (k : Nat) (f : SrcSt → SrcSt) :
    Same 0x8000000 s (State.updSrc s k f) := by
  unfold State.updSrc
  refine Same.next ?_ (State.updTim_same _ _) (by decide)
  exact Same.refl _ _

theorem State.loseSrc_same (s : State) (k : Nat) :
    Same 0x8000000 s (State.loseSrc s k) := by
  unfold State.loseSrc
  refine Same.next ?_ (State.updSrc_same _ _ _) (by decide)
  exact Same.refl _ _

theorem State.maybeVerify_same (s : State) :
    Same 0x200 s (State.maybeVerify s) := by
  unfold State.maybeVerify
  refine Same.ite ?_ ?_
  · refine Same.next ?_ (State.updJournal_same _ _) (by decide)
    exact Same.refl _ _
  · exact Same.refl _ _

theorem State.mfRefused_same (s : State) (c : Nat) :
    Same 0x200000000 s (State.mfRefused s c) := by
  unfold State.mfRefused
  refine Same.next ?_ (State.updUpd_same _ _) (by decide)
  exact Same.refl _ _

theorem State.monitor_same (s : State) (m : SupplyIn) :
    Same 0x4000002 s (State.monitor s m) := by
  unfold State.monitor
  refine Same.ite ?_ ?_
  · refine Same.next ?_ (State.leaveWhippet_same _ _) (by decide)
    refine Same.next ?_ Same.set_pwr (by decide)
    exact Same.refl _ _
  · refine Same.next ?_ Same.set_pwr (by decide)
    exact Same.refl _ _

theorem State.supplyTick_same (s : State) :
    Same 0x4000002 s (State.supplyTick s) := by
  unfold State.supplyTick
  refine Same.next ?_ Same.set_pwr_nav (by decide)
  exact Same.refl _ _

theorem State.takeRelay_some {s t : State} {r : RelayIn} {n : Nat} {x : RelayMsg} (h : s.takeRelay r n = some (t, x)) :
    Same 0x2000000081 s t := by
  unfold State.takeRelay at h
  split at h
  · cases h
  · dsimp only at h
    split at h
    · cases h
    · split at h
      · injection h with h
        injection h with h _
        subst h
        exact Same.refl _ _
      · split at h
        · cases h
        · injection h with h
          injection h with h _
          subst h
          exact (Same.refl _ _).next Same.set_flash (by decide)

theorem State.onRelay_same {s : State} {r : RelayIn} {n : Nat} {k : RelayMsg → State → State} {m : Nat} (hm : 0x2000000081 &&& m = 0x2000000081)
    (hk : ∀ x u, Same m s u → Same m s (k x u)) : Same m s (s.onRelay r n k) := by
  have b : ∀ {t u : State}, Same m s t → Same 0x2000000081 t u → Same m s u := fun h k => h.next k hm
  have b0 := b (Same.refl _ _) ((State.begin_same s r.opt).mono (by decide))
  unfold State.onRelay
  split
  · exact b0
  · rename_i t x h
    exact hk x t (b b0 (State.takeRelay_some h))

theorem State.poolFill_same (s : State) (p : Opt) :
    Same 0x20000000 s (State.poolFill s p) := by
  unfold State.poolFill
  conv => zeta
  split
  · exact Same.refl _ _
  · refine Same.ite ?_ ?_
    · refine Same.ite ?_ ?_
      · refine Same.next ?_ (State.updYld_same _ _) (by decide)
        exact Same.refl _ _
      · refine Same.next ?_ (State.updYld_same _ _) (by decide)
        exact Same.refl _ _
    · exact Same.refl _ _

theorem State.prepare_same (s : State) (w : Nat) :
    Same 0x200000000 s (State.prepare s w) := by
  unfold State.prepare
  refine Same.next ?_ (State.updUpd_same _ _) (by decide)
  exact Same.refl _ _

theorem State.ptpPort_same (s : State) (p : Nat) :
    Same 0x8000000 s (State.ptpPort s p) := by
  unfold State.ptpPort
  refine Same.ite ?_ ?_
  · refine Same.next ?_ (State.updTim_same _ _) (by decide)
    exact Same.refl _ _
  · refine Same.next ?_ (State.loseSrc_same _ _) (by decide)
    refine Same.next ?_ (State.updTim_same _ _) (by decide)
    exact Same.refl _ _

theorem State.recStart_same (s : State) :
    Same 0x20000 s (State.recStart s) := by
  unfold State.recStart
  refine Same.next ?_ Same.set_rcd (by decide)
  exact Same.refl _ _

theorem State.tapArm_same (s : State) (p : Nat) (t : Nat) (n : Nat) :
    Same 0x40000000 s (State.tapArm s p t n) := by
  unfold State.tapArm
  refine Same.ite ?_ ?_
  · refine Same.next ?_ (State.updPipe_same _ _ _) (by decide)
    exact Same.refl _ _
  · refine Same.next ?_ (State.updPipe_same _ _ _) (by decide)
    exact Same.refl _ _

theorem State.tapDisarm_same (s : State) (p : Nat) :
    Same 0x40000000 s (State.tapDisarm s p) := by
  unfold State.tapDisarm
  refine Same.fold _ ?_ ?_
  · refine Same.next ?_ (State.updPipe_same _ _ _) (by decide)
    exact Same.refl _ _
  · intro u a hu
    refine Same.ite ?_ ?_
    · refine Same.next ?_ (State.updCam_same _ _ _) (by decide)
      assumption
    · assumption

theorem State.windowFree_same (s : State) :
    Same 0x40000000 s (State.windowFree s) := by
  unfold State.windowFree
  conv => zeta
  split
  · exact Same.refl _ _
  · refine Same.next ?_ (State.updVis_same _ _) (by decide)
    refine Same.next ?_ (State.updCam_same _ _ _) (by decide)
    exact Same.refl _ _

theorem State.windowLatch_same (s : State) (v : Word) :
    Same 0x40000000 s (State.windowLatch s v) := by
  unfold State.windowLatch
  refine Same.ite ?_ ?_
  · refine Same.next ?_ (State.updVis_same _ _) (by decide)
    refine Same.next ?_ (State.updCam_same _ _ _) (by decide)
    refine Same.next ?_ (State.updVis_same _ _) (by decide)
    refine Same.next ?_ (State.windowFree_same _) (by decide)
    exact Same.refl _ _
  · refine Same.next ?_ (State.updVis_same _ _) (by decide)
    refine Same.next ?_ (State.windowFree_same _) (by decide)
    exact Same.refl _ _

theorem State.regionsStart_same (s : State) :
    Same 0x44 s (State.regionsStart s) := by
  unfold State.regionsStart
  refine Same.next ?_ Same.set_regions_boot (by decide)
  exact Same.refl _ _

theorem State.sendBlock_same (s : State) (i : Nat) (k : Nat) (d : List Byte) :
    Same 0x3000010000 s (State.sendBlock s i k d) := by
  unfold State.sendBlock
  refine Same.fold _ ?_ ?_
  · exact Same.refl _ _
  · intro u a hu
    refine Same.next ?_ (State.relay_same _ _ _ _ _ _ _ _) (by decide)
    assumption

theorem State.relayHeld_same (s : State) :
    Same 0x3000010000 s (State.relayHeld s) := by
  unfold State.relayHeld
  refine Same.fold _ ?_ ?_
  · refine Same.next ?_ (State.relay_same _ _ _ _ _ _ _ _) (by decide)
    exact Same.refl _ _
  · intro u a hu
    conv => zeta
    split
    · assumption
    · refine Same.fold _ ?_ ?_
      · refine Same.fold _ ?_ ?_
        · assumption
        · intro u a hu
          refine Same.next ?_ (State.relay_same _ _ _ _ _ _ _ _) (by decide)
          assumption
      · intro u a hu
        refine Same.next ?_ (State.sendBlock_same _ _ _ _) (by decide)
        assumption

theorem State.selectField_same (s : State) :
    Same 0x20001000 s (State.selectField s) := by
  unfold State.selectField
  refine Same.next ?_ (State.updYld_same _ _) (by decide)
  refine Same.ite ?_ ?_
  · refine Same.next ?_ (State.saveRaster_same _) (by decide)
    exact Same.refl _ _
  · refine Same.next ?_ Same.set_store (by decide)
    refine Same.next ?_ (State.saveRaster_same _) (by decide)
    exact Same.refl _ _

theorem State.sendResult_same (s : State) :
    Same 0x3000010000 s (State.sendResult s) := by
  unfold State.sendResult
  refine Same.next ?_ (State.relay_same _ _ _ _ _ _ _ _) (by decide)
  exact Same.refl _ _

theorem State.setDvt_same (s : State) (d : Nat) (c : Nat) :
    Same 0x3028030000 s (State.setDvt s d c) := by
  unfold State.setDvt
  refine Same.next ?_ (State.notice_same _ _ _ _ _) (by decide)
  refine Same.ite ?_ ?_
  · refine Same.next ?_ (State.timeMark_same _ _) (by decide)
    refine Same.next ?_ Same.set_rcd_tim (by decide)
    refine Same.next ?_ (State.recTurn_same _) (by decide)
    exact Same.refl _ _
  · refine Same.next ?_ (State.newEpoch_same _) (by decide)
    refine Same.next ?_ Same.set_rcd_tim (by decide)
    refine Same.next ?_ (State.recTurn_same _) (by decide)
    exact Same.refl _ _

theorem State.shutdown_same (s : State) (reason : Nat) :
    Same 0x3825bb1032 s (State.shutdown s reason) := by
  unfold State.shutdown
  refine Same.ite ?_ ?_
  · exact Same.refl _ _
  · refine Same.fold _ ?_ ?_
    · refine Same.next ?_ (State.shutdownSteps_same _) (by decide)
      refine Same.next ?_ (State.leaveWhippet_same _ _) (by decide)
      refine Same.next ?_ Same.set_pwr (by decide)
      exact Same.refl _ _
    · intro u a hu
      refine Same.ite ?_ ?_
      · refine Same.next ?_ (State.endSession_same _ _) (by decide)
        assumption
      · assumption

theorem State.spectrumClear_same (s : State) :
    Same 0x800000 s (State.spectrumClear s) := by
  unfold State.spectrumClear
  refine Same.next ?_ (State.updFlw_same _ _) (by decide)
  exact Same.refl _ _

theorem State.spectrumFrame_same (s : State) (key : Bool × Nat) (isLast : Bool) (seq : Word) :
    Same 0x800000 s (State.spectrumFrame s key isLast seq) := by
  unfold State.spectrumFrame
  refine Same.next ?_ (State.updFlw_same _ _) (by decide)
  refine Same.ite ?_ ?_
  · refine Same.next ?_ (State.spectrumClear_same _) (by decide)
    refine Same.next ?_ (State.updFlw_same _ _) (by decide)
    exact Same.refl _ _
  · exact Same.refl _ _

theorem State.stage_same (s : State) (b : List Byte) :
    Same 0x200000200 s (State.stage s b) := by
  unfold State.stage
  refine Same.next ?_ Same.set_journal_updt (by decide)
  exact Same.refl _ _

theorem State.startMark_same (s : State) (e : YldEntry) :
    Same 0x20000000 s (State.startMark s e) := by
  unfold State.startMark
  refine Same.next ?_ (State.updYld_same _ _) (by decide)
  exact Same.refl _ _

theorem State.steerRow_same (s : State) (l : Line) (e : Option LineErr) (newLine : Bool) (rise : Bool) (o : Opt) :
    Same 0x10000000 s (State.steerRow s l e newLine rise o) := by
  unfold State.steerRow
  conv => zeta
  split
  · refine Same.next ?_ (State.updStr_same _ _) (by decide)
    exact Same.refl _ _
  · refine Same.ite ?_ ?_
    · refine Same.next ?_ (State.updStr_same _ _) (by decide)
      exact Same.refl _ _
    · refine Same.ite ?_ ?_
      · refine Same.next ?_ (State.guide_same _ _ _) (by decide)
        refine Same.next ?_ (State.updStr_same _ _) (by decide)
        exact Same.refl _ _
      · refine Same.next ?_ (State.updStr_same _ _) (by decide)
        exact Same.refl _ _
  · refine Same.ite ?_ ?_
    · exact Same.refl _ _
    · conv => zeta
      split
      · refine Same.next ?_ (State.disengage_same _ _) (by decide)
        exact Same.refl _ _
      · refine Same.next ?_ (State.guide_same _ _ _) (by decide)
        refine Same.ite ?_ ?_
        · refine Same.next ?_ (State.updStr_same _ _) (by decide)
          refine Same.ite ?_ ?_
          · refine Same.next ?_ (State.updStr_same _ _) (by decide)
            exact Same.refl _ _
          · exact Same.refl _ _
        · refine Same.ite ?_ ?_
          · refine Same.next ?_ (State.updStr_same _ _) (by decide)
            refine Same.ite ?_ ?_
            · refine Same.next ?_ (State.updStr_same _ _) (by decide)
              exact Same.refl _ _
            · exact Same.refl _ _
          · refine Same.ite ?_ ?_
            · refine Same.next ?_ (State.updStr_same _ _) (by decide)
              exact Same.refl _ _
            · exact Same.refl _ _

theorem State.steerWrite_same (s : State) (p : StrPend) :
    Same 0x12000000 s (State.steerWrite s p) := by
  unfold State.steerWrite
  conv => zeta
  split
  · refine Same.next ?_ (State.mfTake_same _ _ _ _) (by decide)
    conv => zeta
    split
    · refine Same.next ?_ (State.updStr_same _ _) (by decide)
      refine Same.next ?_ (State.mfSetMode_same _ _ _) (by decide)
      exact Same.refl _ _
    · refine Same.ite ?_ ?_
      · refine Same.next ?_ (State.mfSetMode_same _ _ _) (by decide)
        exact Same.refl _ _
      · exact Same.refl _ _
    · exact Same.refl _ _
  · conv => zeta
    split
    · refine Same.next ?_ (State.updStr_same _ _) (by decide)
      refine Same.next ?_ (State.mfSetMode_same _ _ _) (by decide)
      exact Same.refl _ _
    · refine Same.ite ?_ ?_
      · refine Same.next ?_ (State.mfSetMode_same _ _ _) (by decide)
        exact Same.refl _ _
      · exact Same.refl _ _
    · exact Same.refl _ _

theorem State.stepEntry_same (s : State) (e0 : YldEntry) :
    Same 0x20000000 s (State.stepEntry s e0).2 := by
  unfold State.stepEntry
  conv => zeta
  split
  · refine Same.ite2 ?_ ?_
    · refine Same.pair2 ?_
      refine Same.next ?_ (State.updYld_same _ _) (by decide)
      exact Same.refl _ _
    · refine Same.ite2 ?_ ?_
      · refine Same.pair2 ?_
        refine Same.next ?_ (State.updYld_same _ _) (by decide)
        refine Same.next ?_ (State.updYld_same _ _) (by decide)
        exact Same.refl _ _
      · refine Same.pair2 ?_
        refine Same.next ?_ (State.updYld_same _ _) (by decide)
        exact Same.refl _ _
  · refine Same.pair2 ?_
    refine Same.next ?_ (State.updYld_same _ _) (by decide)
    exact Same.refl _ _
  · refine Same.pair2 ?_
    refine Same.next ?_ (State.updYld_same _ _) (by decide)
    exact Same.refl _ _

theorem State.storeBlock_same (s : State) (p : Part) (k : Nat) (d : List Byte) :
    Same 0x480 s (State.storeBlock s p k d) := by
  unfold State.storeBlock
  refine Same.ite ?_ ?_
  · exact Same.refl _ _
  · refine Same.ite ?_ ?_
    · refine Same.ite ?_ ?_
      · refine Same.next ?_ Same.set_flash (by decide)
        exact Same.refl _ _
      · refine Same.next ?_ Same.set_flash (by decide)
        exact Same.refl _ _
    · refine Same.ite ?_ ?_
      · refine Same.next ?_ Same.set_fw (by decide)
        exact Same.refl _ _
      · exact Same.refl _ _

theorem State.updPart_same (s : State) (i : Nat) (f : PartRx → PartRx) :
    Same 0x200 s (State.updPart s i f) := by
  unfold State.updPart
  refine Same.next ?_ (State.updJournal_same _ _) (by decide)
  exact Same.refl _ _

theorem State.tryBlock_same (s : State) (i : Nat) (k : Nat) :
    Same 0x3200030680 s (State.tryBlock s i k) := by
  unfold State.tryBlock
  conv => zeta
  split
  · exact Same.refl _ _
  · refine Same.ite ?_ ?_
    · exact Same.refl _ _
    · refine Same.ite ?_ ?_
      · refine Same.next ?_ (State.maybeVerify_same _) (by decide)
        refine Same.next ?_ (State.sendBlock_same _ _ _ _) (by decide)
        refine Same.next ?_ (State.storeBlock_same _ _ _ _) (by decide)
        refine Same.next ?_ (State.updPart_same _ _ _) (by decide)
        refine Same.next ?_ (State.updPart_same _ _ _) (by decide)
        exact Same.refl _ _
      · refine Same.next ?_ (State.relay_same _ _ _ _ _ _ _ _) (by decide)
        refine Same.next ?_ (State.notice_same _ _ _ _ _) (by decide)
        refine Same.next ?_ (State.updUpd_same _ _) (by decide)
        refine Same.next ?_ (State.updPart_same _ _ _) (by decide)
        exact Same.refl _ _

theorem State.takeChunk_same (s : State) (i : Nat) (k : Nat) (c : Nat) (d : List Byte) :
    Same 0x3200030680 s (State.takeChunk s i k c d) := by
  unfold State.takeChunk
  refine Same.ite ?_ ?_
  · exact Same.refl _ _
  · refine Same.next ?_ (State.tryBlock_same _ _ _) (by decide)
    refine Same.next ?_ (State.updPart_same _ _ _) (by decide)
    exact Same.refl _ _

theorem State.takeTable_same (s : State) (i : Nat) (piece : Nat) (d : List Byte) :
    Same 0x3200030680 s (State.takeTable s i piece d) := by
  unfold State.takeTable
  refine Same.ite ?_ ?_
  · exact Same.refl _ _
  · refine Same.ite ?_ ?_
    · refine Same.next ?_ (State.updPart_same _ _ _) (by decide)
      exact Same.refl _ _
    · refine Same.ite ?_ ?_
      · refine Same.fold _ ?_ ?_
        · refine Same.fold _ ?_ ?_
          · refine Same.next ?_ (State.updPart_same _ _ _) (by decide)
            refine Same.next ?_ (State.updPart_same _ _ _) (by decide)
            exact Same.refl _ _
          · intro u a hu
            refine Same.next ?_ (State.relay_same _ _ _ _ _ _ _ _) (by decide)
            assumption
        · intro u a hu
          refine Same.next ?_ (State.tryBlock_same _ _ _) (by decide)
          assumption
      · refine Same.next ?_ (State.updPart_same _ _ _) (by decide)
        refine Same.next ?_ (State.updPart_same _ _ _) (by decide)
        exact Same.refl _ _

theorem State.timeWait_same (s : State) (r : HostReq) (target : Nat) (leap : Nat) (value : Nat) :
    OpSame 0x8000000 s (State.timeWait s r target leap value) := by
  unfold State.timeWait
  refine OpSame.ite ?_ ?_
  · exact OpSame.refuse
  · refine OpSame.wait ?_
    refine Same.next ?_ (State.updTim_same _ _) (by decide)
    exact Same.refl _ _

theorem State.timebaseRow_same (s : State) (c : Nat) (e : Int) :
    Same 0x3008030000 s (State.timebaseRow s c e) := by
  unfold State.timebaseRow
  refine Same.ite ?_ ?_
  · conv => zeta
    split
    · refine Same.next ?_ (State.enterHoldover_same _) (by decide)
      exact Same.refl _ _
    · refine Same.next ?_ (State.enterHoldover_same _) (by decide)
      exact Same.refl _ _
    · refine Same.next ?_ (State.updTim_same _ _) (by decide)
      refine Same.next ?_ (State.reSlew_same _ _ _) (by decide)
      exact Same.refl _ _
    · refine Same.next ?_ (State.updTim_same _ _) (by decide)
      refine Same.next ?_ (State.reSlew_same _ _ _) (by decide)
      exact Same.refl _ _
  · refine Same.next ?_ (State.updTim_same _ _) (by decide)
    refine Same.next ?_ (State.reSlew_same _ _ _) (by decide)
    exact Same.refl _ _

theorem execActivation_runs (o : Opt) (p : PowerIn) (s : State) :
    Runs 0x3ffffffbff (s.begin o) (execActivation o p s) := by
  unfold execActivation
  conv => zeta
  split
  · refine Runs.next ?_
    refine Same.ite ?_ ?_
    · refine Same.next ?_ (State.activate_same _ _) (by decide)
      exact Same.refl _ _
    · exact Same.refl _ _
  · refine Runs.next ?_
    exact Same.refl _ _

theorem execCameraLinkLoss_runs (o : Opt) (cam : Fin 6) (s : State) :
    Runs 0x3040030000 (s.begin o) (execCameraLinkLoss o cam s) := by
  unfold execCameraLinkLoss
  refine Runs.ite ?_ ?_
  · refine Runs.next ?_
    exact Same.refl _ _
  · refine Runs.next ?_
    refine Same.next ?_ (State.unitFault_same _ _ _ _) (by decide)
    refine Same.next ?_ (State.updCam_same _ _ _) (by decide)
    refine Same.next ?_ (State.dropFrame_same _ _ _) (by decide)
    exact Same.refl _ _

theorem execCameraLinkRetry_runs (o : Opt) (cam : Fin 6) (locked : Bool) (s : State) :
    Runs 0x40000000 (s.begin o) (execCameraLinkRetry o cam locked s) := by
  unfold execCameraLinkRetry
  refine Runs.ite ?_ ?_
  · refine Runs.next ?_
    exact Same.refl _ _
  · refine Runs.ite ?_ ?_
    · refine Runs.next ?_
      refine Same.next ?_ (State.updCam_same _ _ _) (by decide)
      exact Same.refl _ _
    · refine Runs.next ?_
      refine Same.next ?_ (State.updCam_same _ _ _) (by decide)
      exact Same.refl _ _

theorem execChainSessionRetry_runs (o : Opt) (upOk : Bool) (downOk : Bool) (s : State) :
    Runs 0x3200010000 (s.begin o) (execChainSessionRetry o upOk downOk s) := by
  unfold execChainSessionRetry
  refine Runs.ite ?_ ?_
  · refine Runs.next ?_
    exact Same.refl _ _
  · refine Runs.next ?_
    refine Same.ite ?_ ?_
    · conv => zeta
      split
      · refine Same.fold _ ?_ ?_
        · refine Same.ite ?_ ?_
          · refine Same.next ?_ (State.relayHeld_same _) (by decide)
            refine Same.next ?_ (State.updUpd_same _ _) (by decide)
            exact Same.refl _ _
          · refine Same.next ?_ (State.updUpd_same _ _) (by decide)
            exact Same.refl _ _
        · intro u a hu
          refine Same.fold _ ?_ ?_
          · assumption
          · intro u a hu
            refine Same.ite ?_ ?_
            · refine Same.next ?_ (State.relay_same _ _ _ _ _ _ _ _) (by decide)
              assumption
            · assumption
      · refine Same.next ?_ (State.relay_same _ _ _ _ _ _ _ _) (by decide)
        refine Same.ite ?_ ?_
        · refine Same.next ?_ (State.relayHeld_same _) (by decide)
          refine Same.next ?_ (State.updUpd_same _ _) (by decide)
          exact Same.refl _ _
        · refine Same.next ?_ (State.updUpd_same _ _) (by decide)
          exact Same.refl _ _
      · refine Same.next ?_ (State.sendResult_same _) (by decide)
        refine Same.ite ?_ ?_
        · refine Same.next ?_ (State.relayHeld_same _) (by decide)
          refine Same.next ?_ (State.updUpd_same _ _) (by decide)
          exact Same.refl _ _
        · refine Same.next ?_ (State.updUpd_same _ _) (by decide)
          exact Same.refl _ _
      · refine Same.next ?_ (State.sendResult_same _) (by decide)
        refine Same.ite ?_ ?_
        · refine Same.next ?_ (State.relayHeld_same _) (by decide)
          refine Same.next ?_ (State.updUpd_same _ _) (by decide)
          exact Same.refl _ _
        · refine Same.next ?_ (State.updUpd_same _ _) (by decide)
          exact Same.refl _ _
      · refine Same.ite ?_ ?_
        · refine Same.next ?_ (State.relayHeld_same _) (by decide)
          refine Same.next ?_ (State.updUpd_same _ _) (by decide)
          exact Same.refl _ _
        · refine Same.next ?_ (State.updUpd_same _ _) (by decide)
          exact Same.refl _ _
    · refine Same.ite ?_ ?_
      · refine Same.next ?_ (State.relayHeld_same _) (by decide)
        refine Same.next ?_ (State.updUpd_same _ _) (by decide)
        exact Same.refl _ _
      · refine Same.next ?_ (State.updUpd_same _ _) (by decide)
        exact Same.refl _ _

theorem execCrankEntry_runs (o : Opt) (s : State) :
    Runs 0x3004030012 (s.begin o) (execCrankEntry o s) := by
  unfold execCrankEntry
  refine Runs.next ?_
  refine Same.ite ?_ ?_
  · refine Same.next ?_ (State.notice_same _ _ _ _ _) (by decide)
    refine Same.next ?_ (State.leaveWhippet_same _ _) (by decide)
    refine Same.next ?_ Same.set_pwr_bud (by decide)
    exact Same.refl _ _
  · exact Same.refl _ _

theorem execCrankExit_runs (o : Opt) (s : State) :
    Runs 0x12 (s.begin o) (execCrankExit o s) := by
  unfold execCrankExit
  refine Runs.next ?_
  refine Same.ite ?_ ?_
  · refine Same.next ?_ Same.set_pwr_bud (by decide)
    exact Same.refl _ _
  · exact Same.refl _ _

theorem execCrankTimeout_runs (o : Opt) (s : State) :
    Runs 0x3825bb1032 (s.begin o) (execCrankTimeout o s) := by
  unfold execCrankTimeout
  refine Runs.next ?_
  refine Same.ite ?_ ?_
  · refine Same.next ?_ (State.shutdown_same _ _) (by decide)
    exact Same.refl _ _
  · exact Same.refl _ _

theorem execCrankUndervolt_runs (o : Opt) (s : State) :
    Runs 0x3825bb1032 (s.begin o) (execCrankUndervolt o s) := by
  unfold execCrankUndervolt
  refine Runs.next ?_
  refine Same.ite ?_ ?_
  · refine Same.next ?_ (State.shutdown_same _ _) (by decide)
    exact Same.refl _ _
  · exact Same.refl _ _

theorem execDecisionInstant_runs (o : Opt) (s : State) :
    Runs 0x3200030200 (s.begin o) (execDecisionInstant o s) := by
  unfold execDecisionInstant
  conv => zeta
  split
  · refine Runs.next ?_
    exact Same.refl _ _
  · refine Runs.next ?_
    refine Same.ite ?_ ?_
    · exact Same.refl _ _
    · refine Same.ite ?_ ?_
      · refine Same.next ?_ (State.committedTo_same _ _) (by decide)
        refine Same.next ?_ (State.relay_same _ _ _ _ _ _ _ _) (by decide)
        refine Same.next ?_ (State.updUpd_same _ _) (by decide)
        exact Same.refl _ _
      · refine Same.next ?_ (State.headDefer_same _ _) (by decide)
        exact Same.refl _ _

theorem execFlowSample_runs (o : Opt) (a : BridgeIn) (b : BridgeIn) (s : State) :
    Runs 0x800000 (s.begin o) (execFlowSample o a b s) := by
  unfold execFlowSample
  refine Runs.ite ?_ ?_
  · refine Runs.next ?_
    exact Same.refl _ _
  · refine Runs.next ?_
    refine Same.next ?_ (State.updFlw_same _ _) (by decide)
    exact Same.refl _ _

theorem execFrameEnd_runs (o : Opt) (cam : Fin 6) (f : CamFrame) (s : State) :
    Runs 0x40000000 (s.begin o) (execFrameEnd o cam f s) := by
  unfold execFrameEnd
  conv => zeta
  split
  · refine Runs.next ?_
    exact Same.refl _ _
  · refine Runs.ite ?_ ?_
    · refine Runs.next ?_
      exact Same.refl _ _
    · refine Runs.ite ?_ ?_
      · refine Runs.next ?_
        refine Same.next ?_ (State.dropFrame_same _ _ _) (by decide)
        refine Same.next ?_ (State.updCam_same _ _ _) (by decide)
        exact Same.refl _ _
      · refine Runs.ite ?_ ?_
        · refine Runs.next ?_
          refine Same.next ?_ (State.dropFrame_same _ _ _) (by decide)
          refine Same.next ?_ (State.updCam_same _ _ _) (by decide)
          exact Same.refl _ _
        · refine Runs.ite ?_ ?_
          · refine Runs.next ?_
            refine Same.next ?_ (State.dropFrame_same _ _ _) (by decide)
            refine Same.next ?_ (State.updCam_same _ _ _) (by decide)
            exact Same.refl _ _
          · refine Runs.ite ?_ ?_
            · refine Runs.next ?_
              refine Same.next ?_ (State.dropFrame_same _ _ _) (by decide)
              refine Same.ite ?_ ?_
              · refine Same.next ?_ (State.updCam_same _ _ _) (by decide)
                refine Same.next ?_ (State.updCam_same _ _ _) (by decide)
                exact Same.refl _ _
              · refine Same.next ?_ (State.updCam_same _ _ _) (by decide)
                exact Same.refl _ _
            · refine Runs.next ?_
              refine Same.next ?_ (State.updPipe_same _ _ _) (by decide)
              refine Same.next ?_ (State.updCam_same _ _ _) (by decide)
              refine Same.ite ?_ ?_
              · refine Same.next ?_ (State.updCam_same _ _ _) (by decide)
                refine Same.next ?_ (State.updCam_same _ _ _) (by decide)
                exact Same.refl _ _
              · refine Same.next ?_ (State.updCam_same _ _ _) (by decide)
                exact Same.refl _ _

theorem execFrameStart_runs (o : Opt) (cam : Fin 6) (s : State) :
    Runs 0x2040014000 (s.begin o) (execFrameStart o cam s) := by
  unfold execFrameStart
  refine Runs.ite ?_ ?_
  · refine Runs.next ?_
    exact Same.refl _ _
  · refine Runs.ite ?_ ?_
    · refine Runs.next ?_
      refine Same.next ?_ (State.updCam_same _ _ _) (by decide)
      refine Same.next ?_ (State.camCutoff_same _ _) (by decide)
      refine Same.next ?_ (State.updCam_same _ _ _) (by decide)
      refine Same.next ?_ (State.dropFrame_same _ _ _) (by decide)
      exact Same.refl _ _
    · refine Runs.ite ?_ ?_
      · refine Runs.next ?_
        refine Same.next ?_ (State.updCam_same _ _ _) (by decide)
        refine Same.next ?_ (State.camCutoff_same _ _) (by decide)
        refine Same.next ?_ (State.updCam_same _ _ _) (by decide)
        refine Same.next ?_ (State.dropFrame_same _ _ _) (by decide)
        exact Same.refl _ _
      · refine Runs.ite ?_ ?_
        · refine Runs.next ?_
          refine Same.next ?_ (State.updCam_same _ _ _) (by decide)
          refine Same.next ?_ (State.updCam_same _ _ _) (by decide)
          refine Same.next ?_ (State.camCutoff_same _ _) (by decide)
          refine Same.next ?_ (State.updCam_same _ _ _) (by decide)
          refine Same.next ?_ (State.dropFrame_same _ _ _) (by decide)
          exact Same.refl _ _
        · refine Runs.next ?_
          refine Same.ite ?_ ?_
          · refine Same.next ?_ (State.updPipe_same _ _ _) (by decide)
            refine Same.next ?_ (State.updCam_same _ _ _) (by decide)
            refine Same.next ?_ (State.updCam_same _ _ _) (by decide)
            refine Same.next ?_ (State.camCutoff_same _ _) (by decide)
            refine Same.next ?_ (State.updCam_same _ _ _) (by decide)
            refine Same.next ?_ (State.dropFrame_same _ _ _) (by decide)
            exact Same.refl _ _
          · refine Same.next ?_ (State.updCam_same _ _ _) (by decide)
            refine Same.next ?_ (State.updCam_same _ _ _) (by decide)
            refine Same.next ?_ (State.camCutoff_same _ _) (by decide)
            refine Same.next ?_ (State.updCam_same _ _ _) (by decide)
            refine Same.next ?_ (State.dropFrame_same _ _ _) (by decide)
            exact Same.refl _ _

theorem execFrameTimeout_runs (o : Opt) (cam : Fin 6) (s : State) :
    Runs 0x40000000 (s.begin o) (execFrameTimeout o cam s) := by
  unfold execFrameTimeout
  conv => zeta
  split
  · refine Runs.ite ?_ ?_
    · refine Runs.next ?_
      refine Same.next ?_ (State.dropFrame_same _ _ _) (by decide)
      exact Same.refl _ _
    · refine Runs.next ?_
      exact Same.refl _ _
  · refine Runs.next ?_
    exact Same.refl _ _

theorem execGrainSampleEval_runs (o : Opt) (g : GrainEval) (s : State) :
    Runs 0x40000000 (s.begin o) (execGrainSampleEval o g s) := by
  unfold execGrainSampleEval
  conv => zeta
  split
  · refine Runs.next ?_
    exact Same.refl _ _
  · refine Runs.ite ?_ ?_
    · refine Runs.next ?_
      exact Same.refl _ _
    · refine Runs.next ?_
      refine Same.next ?_ (State.updVis_same _ _) (by decide)
      refine Same.next ?_ (State.updCam_same _ _ _) (by decide)
      exact Same.refl _ _

theorem execGuidanceEpoch_runs (o : Opt) (late : Bool) (s : State) :
    Runs 0x2018014000 (s.begin o) (execGuidanceEpoch o late s) := by
  unfold execGuidanceEpoch
  refine Runs.ite ?_ ?_
  · refine Runs.next ?_
    exact Same.refl _ _
  · refine Runs.ite ?_ ?_
    · refine Runs.next ?_
      refine Same.next ?_ (State.updStr_same _ _) (by decide)
      refine Same.next ?_ (State.updStr_same _ _) (by decide)
      refine Same.next ?_ (State.takePose_same _) (by decide)
      refine Same.next ?_ (State.applyGroup_same _ _) (by decide)
      exact Same.refl _ _
    · refine Runs.next ?_
      refine Same.next ?_ (State.updStr_same _ _) (by decide)
      refine Same.next ?_ (State.steerRow_same _ _ _ _ _ _) (by decide)
      refine Same.next ?_ (State.updStr_same _ _) (by decide)
      refine Same.next ?_ (State.updStr_same _ _) (by decide)
      refine Same.next ?_ (State.updStr_same _ _) (by decide)
      refine Same.next ?_ (State.takePose_same _) (by decide)
      refine Same.next ?_ (State.applyGroup_same _ _) (by decide)
      exact Same.refl _ _

theorem execHoldUpExhausted_runs (s : State) :
    Runs 0xfffffe07f s.start (execHoldUpExhausted s) := by
  unfold execHoldUpExhausted
  conv => zeta
  split
  · refine Runs.next ?_
    exact Same.refl _ _
  · refine Runs.next ?_
    refine Same.ite ?_ ?_
    · exact Same.refl _ _
    · refine Same.next ?_ (State.off_same _) (by decide)
      exact Same.refl _ _

theorem execHoldUpTakeover_runs (o : Opt) (m : SupplyIn) (s : State) :
    Runs 0x4000002 (s.begin o) (execHoldUpTakeover o m s) := by
  unfold execHoldUpTakeover
  refine Runs.next ?_
  refine Same.ite ?_ ?_
  · refine Same.next ?_ Same.set_pwr (by decide)
    refine Same.next ?_ (State.monitor_same _ _) (by decide)
    exact Same.refl _ _
  · refine Same.next ?_ (State.monitor_same _ _) (by decide)
    exact Same.refl _ _

theorem execHoldoverLimitExpiry_runs (o : Opt) (s : State) :
    Runs 0x8000000 (s.begin o) (execHoldoverLimitExpiry o s) := by
  unfold execHoldoverLimitExpiry
  refine Runs.next ?_
  refine Same.ite ?_ ?_
  · refine Same.next ?_ (State.updTim_same _ _) (by decide)
    refine Same.next ?_ (State.reSlew_same _ _ _) (by decide)
    exact Same.refl _ _
  · exact Same.refl _ _

theorem execI2cBurstLate_runs (o : Opt) (cam : Fin 6) (s : State) :
    Runs 0x40000000 (s.begin o) (execI2cBurstLate o cam s) := by
  unfold execI2cBurstLate
  conv => zeta
  split
  · refine Runs.ite ?_ ?_
    · refine Runs.next ?_
      refine Same.next ?_ (State.updCam_same _ _ _) (by decide)
      exact Same.refl _ _
    · refine Runs.next ?_
      exact Same.refl _ _
  · refine Runs.next ?_
    exact Same.refl _ _

theorem execIgnOffDelayExpiry_runs (o : Opt) (s : State) :
    Runs 0x3825bb1032 (s.begin o) (execIgnOffDelayExpiry o s) := by
  unfold execIgnOffDelayExpiry
  refine Runs.next ?_
  refine Same.ite ?_ ?_
  · exact Same.refl _ _
  · refine Same.ite ?_ ?_
    · refine Same.next ?_ (State.enterWhippet_same _ _) (by decide)
      exact Same.refl _ _
    · refine Same.next ?_ (State.shutdown_same _ _) (by decide)
      exact Same.refl _ _

theorem execIgnOn_runs (p : PowerIn) (s : State) :
    Runs 0x3fffffebff s.start (execIgnOn p s) := by
  unfold execIgnOn
  refine Runs.next ?_
  refine Same.ite ?_ ?_
  · refine Same.next ?_ (State.powerUp_same _ _) (by decide)
    exact Same.refl _ _
  · exact Same.refl _ _

theorem execIgnWakeChange_runs (o : Opt) (m : SupplyIn) (s : State) :
    Runs 0x4000002 (s.begin o) (execIgnWakeChange o m s) := by
  unfold execIgnWakeChange
  refine Runs.next ?_
  refine Same.ite ?_ ?_
  · exact Same.refl _ _
  · refine Same.next ?_ (State.monitor_same _ _) (by decide)
    exact Same.refl _ _

theorem execLagSample_runs (o : Opt) (s : State) :
    Runs 0x20000800 (s.begin o) (execLagSample o s) := by
  unfold execLagSample
  refine Runs.ite ?_ ?_
  · refine Runs.next ?_
    exact Same.refl _ _
  · conv => zeta
    split
    · refine Runs.next ?_
      exact Same.refl _ _
    · conv => zeta
      split
      · refine Runs.ite ?_ ?_
        · refine Runs.next ?_
          refine Same.next ?_ (State.updYld_same _ _) (by decide)
          refine Same.next ?_ (State.updYld_same _ _) (by decide)
          exact Same.refl _ _
        · refine Runs.next ?_
          exact Same.refl _ _
      · refine Runs.ite ?_ ?_
        · refine Runs.next ?_
          refine Same.next ?_ (State.updYld_same _ _) (by decide)
          refine Same.next ?_ (State.updYld_same _ _) (by decide)
          exact Same.refl _ _
        · refine Runs.next ?_
          refine Same.next ?_ (State.updSettings_same _ _) (by decide)
          refine Same.next ?_ (State.updYld_same _ _) (by decide)
          refine Same.next ?_ (State.updYld_same _ _) (by decide)
          exact Same.refl _ _

theorem execLateActivation_runs (o : Opt) (p : PowerIn) (s : State) :
    Runs 0x3ffffffbff (s.begin o) (execLateActivation o p s) := by
  unfold execLateActivation
  conv => zeta
  split
  · refine Runs.next ?_
    refine Same.ite ?_ ?_
    · refine Same.next ?_ (State.activate_same _ _) (by decide)
      refine Same.next ?_ (State.notice_same _ _ _ _ _) (by decide)
      refine Same.next ?_ (State.updUpd_same _ _) (by decide)
      exact Same.refl _ _
    · exact Same.refl _ _
  · refine Runs.next ?_
    exact Same.refl _ _

theorem execLeapSecond_runs (o : Opt) (s : State) :
    Runs 0x3028030000 (s.begin o) (execLeapSecond o s) := by
  unfold execLeapSecond
  conv => zeta
  split
  · refine Runs.next ?_
    exact Same.refl _ _
  · refine Runs.next ?_
    refine Same.next ?_ (State.leapStep_same _ _) (by decide)
    exact Same.refl _ _

theorem execLossHit_same (ch : Fin 16) (h : HitIn) (s : State) :
    Runs 0x2000800001 s (execLossHit ch h s) := by
  unfold execLossHit
  refine Runs.ite ?_ ?_
  · refine Runs.next ?_
    refine Same.next ?_ (State.begin_same _ _) (by decide)
    exact Same.refl _ _
  · conv => zeta
    split
    · refine Runs.next ?_
      refine Same.next ?_ (State.updLs_same _ _ _) (by decide)
      refine Same.next ?_ (State.begin_same _ _) (by decide)
      exact Same.refl _ _
    · refine Runs.ite ?_ ?_
      · refine Runs.next ?_
        refine Same.next ?_ (State.updLs_same _ _ _) (by decide)
        refine Same.next ?_ (State.begin_same _ _) (by decide)
        exact Same.refl _ _
      · refine Runs.next ?_
        refine Same.next ?_ (State.updLs_same _ _ _) (by decide)
        refine Same.next ?_ (State.updLs_same _ _ _) (by decide)
        refine Same.next ?_ (State.begin_same _ _) (by decide)
        exact Same.refl _ _

theorem execLossInputFault_runs (o : Opt) (ch : Fin 16) (s : State) :
    Runs 0x3000830000 (s.begin o) (execLossInputFault o ch s) := by
  unfold execLossInputFault
  refine Runs.ite ?_ ?_
  · refine Runs.next ?_
    exact Same.refl _ _
  · refine Runs.ite ?_ ?_
    · refine Runs.next ?_
      refine Same.next ?_ (State.updLs_same _ _ _) (by decide)
      exact Same.refl _ _
    · refine Runs.next ?_
      refine Same.next ?_ (State.unitFault_same _ _ _ _) (by decide)
      refine Same.next ?_ (State.updLs_same _ _ _) (by decide)
      exact Same.refl _ _

theorem execLossInputRecover_runs (o : Opt) (ch : Fin 16) (s : State) :
    Runs 0x800000 (s.begin o) (execLossInputRecover o ch s) := by
  unfold execLossInputRecover
  refine Runs.ite ?_ ?_
  · refine Runs.next ?_
    refine Same.next ?_ (State.updLs_same _ _ _) (by decide)
    exact Same.refl _ _
  · refine Runs.next ?_
    exact Same.refl _ _

theorem execLossSpectrumPublish_runs (o : Opt) (s : State) :
    Runs 0x3000810000 (s.begin o) (execLossSpectrumPublish o s) := by
  unfold execLossSpectrumPublish
  refine Runs.ite ?_ ?_
  · refine Runs.next ?_
    refine Same.next ?_ (State.updFlw_same _ _) (by decide)
    refine Same.fold _ ?_ ?_
    · exact Same.refl _ _
    · intro u a hu
      refine Same.next ?_ (State.publish_same _ _ _ _ _ _) (by decide)
      assumption
  · refine Runs.ite ?_ ?_
    · refine Runs.next ?_
      exact Same.refl _ _
    · refine Runs.next ?_
      refine Same.next ?_ (State.spectrumClear_same _) (by decide)
      refine Same.fold _ ?_ ?_
      · exact Same.refl _ _
      · intro u a hu
        refine Same.next ?_ (State.publish_same _ _ _ _ _ _) (by decide)
        assumption

theorem execOvervoltEntry_runs (o : Opt) (s : State) :
    Runs 0x3000030002 (s.begin o) (execOvervoltEntry o s) := by
  unfold execOvervoltEntry
  refine Runs.next ?_
  refine Same.ite ?_ ?_
  · refine Same.next ?_ (State.notice_same _ _ _ _ _) (by decide)
    refine Same.next ?_ Same.set_pwr (by decide)
    exact Same.refl _ _
  · exact Same.refl _ _

theorem execOvervoltExit_runs (o : Opt) (s : State) :
    Runs 0x2 (s.begin o) (execOvervoltExit o s) := by
  unfold execOvervoltExit
  refine Runs.next ?_
  refine Same.ite ?_ ?_
  · refine Same.next ?_ Same.set_pwr (by decide)
    exact Same.refl _ _
  · exact Same.refl _ _

theorem execPipelineFrameDone_runs (o : Opt) (pipe : Fin 2) (memory : Bool) (s : State) :
    Runs 0x40004000 (s.begin o) (execPipelineFrameDone o pipe memory s) := by
  unfold execPipelineFrameDone
  conv => zeta
  split
  · refine Runs.next ?_
    exact Same.refl _ _
  · refine Runs.ite ?_ ?_
    · refine Runs.next ?_
      exact Same.refl _ _
    · refine Runs.next ?_
      refine Same.next ?_ (State.autoExpose_same _ _ _) (by decide)
      refine Same.next ?_ (State.updVis_same _ _) (by decide)
      refine Same.next ?_ (State.updPipe_same _ _ _) (by decide)
      refine Same.next ?_ (State.updCam_same _ _ _) (by decide)
      exact Same.refl _ _

theorem execPipelineTakeFrame_runs (o : Opt) (pipe : Fin 2) (s : State) :
    Runs 0x40000000 (s.begin o) (execPipelineTakeFrame o pipe s) := by
  unfold execPipelineTakeFrame
  refine Runs.ite ?_ ?_
  · refine Runs.next ?_
    exact Same.refl _ _
  · conv => zeta
    split
    · refine Runs.next ?_
      exact Same.refl _ _
    · refine Runs.ite ?_ ?_
      · refine Runs.next ?_
        refine Same.next ?_ (State.updCam_same _ _ _) (by decide)
        refine Same.next ?_ (State.updPipe_same _ _ _) (by decide)
        exact Same.refl _ _
      · refine Runs.next ?_
        refine Same.next ?_ (State.updCam_same _ _ _) (by decide)
        refine Same.next ?_ (State.updPipe_same _ _ _) (by decide)
        exact Same.refl _ _

theorem execPoseEpoch_runs (o : Opt) (p : PoseIn) (s : State) :
    Runs 0x3008410000 (s.begin o) (execPoseEpoch o p s) := by
  unfold execPoseEpoch
  refine Runs.ite ?_ ?_
  · refine Runs.next ?_
    exact Same.refl _ _
  · refine Runs.next ?_
    refine Same.next ?_ (State.publish_same _ _ _ _ _ _) (by decide)
    refine Same.next ?_ (State.updTim_same _ _) (by decide)
    refine Same.next ?_ Same.set_sns (by decide)
    exact Same.refl _ _

theorem execPowerupComplete_runs (o : Opt) (s : State) :
    Runs 0x33fffb9077 (s.begin o) (execPowerupComplete o s) := by
  unfold execPowerupComplete
  refine Runs.ite ?_ ?_
  · refine Runs.next ?_
    exact Same.refl _ _
  · refine Runs.next ?_
    conv => zeta
    split
    · refine Same.next ?_ (State.notice_same _ _ _ _ _) (by decide)
      refine Same.next ?_ Same.set_updt (by decide)
      refine Same.ite ?_ ?_
      · refine Same.next ?_ (State.ethStart_same _) (by decide)
        refine Same.next ?_ (State.recStart_same _) (by decide)
        refine Same.next ?_ (State.regionsStart_same _) (by decide)
        refine Same.next ?_ Same.set_pwr_bud_updt (by decide)
        exact Same.refl _ _
      · refine Same.next ?_ (State.blocksStart_same _) (by decide)
        refine Same.next ?_ (State.recStart_same _) (by decide)
        refine Same.next ?_ (State.regionsStart_same _) (by decide)
        refine Same.next ?_ Same.set_pwr_bud_updt (by decide)
        exact Same.refl _ _
    · refine Same.ite ?_ ?_
      · refine Same.next ?_ (State.ethStart_same _) (by decide)
        refine Same.next ?_ (State.recStart_same _) (by decide)
        refine Same.next ?_ (State.regionsStart_same _) (by decide)
        refine Same.next ?_ Same.set_pwr_bud_updt (by decide)
        exact Same.refl _ _
      · refine Same.next ?_ (State.blocksStart_same _) (by decide)
        refine Same.next ?_ (State.recStart_same _) (by decide)
        refine Same.next ?_ (State.regionsStart_same _) (by decide)
        refine Same.next ?_ Same.set_pwr_bud_updt (by decide)
        exact Same.refl _ _

theorem execPowerupRetry_runs (p : PowerIn) (s : State) :
    Runs 0x3fffffebff s.start (execPowerupRetry p s) := by
  unfold execPowerupRetry
  refine Runs.next ?_
  refine Same.ite ?_ ?_
  · refine Same.next ?_ (State.powerUp_same _ _) (by decide)
    exact Same.refl _ _
  · exact Same.refl _ _

theorem execPowerupUndervolt_runs (o : Opt) (m : SupplyIn) (s : State) :
    Runs 0xfffffe07f (s.begin o) (execPowerupUndervolt o m s) := by
  unfold execPowerupUndervolt
  refine Runs.next ?_
  refine Same.ite ?_ ?_
  · refine Same.next ?_ (State.off_same _) (by decide)
    refine Same.next ?_ (State.monitor_same _ _) (by decide)
    exact Same.refl _ _
  · refine Same.next ?_ (State.monitor_same _ _) (by decide)
    exact Same.refl _ _

theorem execPrepareInstant_runs (o : Opt) (s : State) :
    Runs 0x3200030200 (s.begin o) (execPrepareInstant o s) := by
  unfold execPrepareInstant
  conv => zeta
  split
  · refine Runs.next ?_
    exact Same.refl _ _
  · refine Runs.next ?_
    refine Same.ite ?_ ?_
    · exact Same.refl _ _
    · refine Same.ite ?_ ?_
      · refine Same.next ?_ (State.relay_same _ _ _ _ _ _ _ _) (by decide)
        refine Same.next ?_ (State.prepare_same _ _) (by decide)
        exact Same.refl _ _
      · refine Same.next ?_ (State.headDefer_same _ _) (by decide)
        exact Same.refl _ _

theorem execPtpAnnounce_runs (o : Opt) (a : AnnounceIn) (s : State) :
    Runs 0x3028030000 (s.begin o) (execPtpAnnounce o a s) := by
  unfold execPtpAnnounce
  refine Runs.ite ?_ ?_
  · refine Runs.next ?_
    exact Same.refl _ _
  · refine Runs.next ?_
    refine Same.ite ?_ ?_
    · refine Same.next ?_ (State.leapStep_same _ _) (by decide)
      refine Same.next ?_ (State.ptpPort_same _ _) (by decide)
      exact Same.refl _ _
    · refine Same.next ?_ (State.ptpPort_same _ _) (by decide)
      exact Same.refl _ _

theorem execPtpMessageInterval_runs (o : Opt) (s : State) :
    Runs 0x3028030000 (s.begin o) (execPtpMessageInterval o s) := by
  unfold execPtpMessageInterval
  refine Runs.ite ?_ ?_
  · refine Runs.next ?_
    exact Same.refl _ _
  · refine Runs.ite ?_ ?_
    · refine Runs.next ?_
      refine Same.next ?_ (State.ptpPort_same _ _) (by decide)
      exact Same.refl _ _
    · refine Runs.ite ?_ ?_
      · refine Runs.next ?_
        exact Same.refl _ _
      · refine Runs.next ?_
        refine Same.next ?_ (State.updTim_same _ _) (by decide)
        refine Same.ite ?_ ?_
        · refine Same.next ?_ (State.send_same _ _) (by decide)
          refine Same.ite ?_ ?_
          · refine Same.next ?_ (State.send_same _ _) (by decide)
            refine Same.ite ?_ ?_
            · refine Same.next ?_ (State.send_same _ _) (by decide)
              refine Same.ite ?_ ?_
              · refine Same.next ?_ (State.ptpPort_same _ _) (by decide)
                exact Same.refl _ _
              · refine Same.ite ?_ ?_
                · refine Same.next ?_ (State.leapStep_same _ _) (by decide)
                  refine Same.next ?_ (State.ptpPort_same _ _) (by decide)
                  exact Same.refl _ _
                · exact Same.refl _ _
            · refine Same.ite ?_ ?_
              · refine Same.next ?_ (State.ptpPort_same _ _) (by decide)
                exact Same.refl _ _
              · refine Same.ite ?_ ?_
                · refine Same.next ?_ (State.leapStep_same _ _) (by decide)
                  refine Same.next ?_ (State.ptpPort_same _ _) (by decide)
                  exact Same.refl _ _
                · exact Same.refl _ _
          · refine Same.ite ?_ ?_
            · refine Same.next ?_ (State.send_same _ _) (by decide)
              refine Same.ite ?_ ?_
              · refine Same.next ?_ (State.ptpPort_same _ _) (by decide)
                exact Same.refl _ _
              · refine Same.ite ?_ ?_
                · refine Same.next ?_ (State.leapStep_same _ _) (by decide)
                  refine Same.next ?_ (State.ptpPort_same _ _) (by decide)
                  exact Same.refl _ _
                · exact Same.refl _ _
            · refine Same.ite ?_ ?_
              · refine Same.next ?_ (State.ptpPort_same _ _) (by decide)
                exact Same.refl _ _
              · refine Same.ite ?_ ?_
                · refine Same.next ?_ (State.leapStep_same _ _) (by decide)
                  refine Same.next ?_ (State.ptpPort_same _ _) (by decide)
                  exact Same.refl _ _
                · exact Same.refl _ _
        · refine Same.ite ?_ ?_
          · refine Same.next ?_ (State.send_same _ _) (by decide)
            refine Same.ite ?_ ?_
            · refine Same.next ?_ (State.send_same _ _) (by decide)
              refine Same.ite ?_ ?_
              · refine Same.next ?_ (State.ptpPort_same _ _) (by decide)
                exact Same.refl _ _
              · refine Same.ite ?_ ?_
                · refine Same.next ?_ (State.leapStep_same _ _) (by decide)
                  refine Same.next ?_ (State.ptpPort_same _ _) (by decide)
                  exact Same.refl _ _
                · exact Same.refl _ _
            · refine Same.ite ?_ ?_
              · refine Same.next ?_ (State.ptpPort_same _ _) (by decide)
                exact Same.refl _ _
              · refine Same.ite ?_ ?_
                · refine Same.next ?_ (State.leapStep_same _ _) (by decide)
                  refine Same.next ?_ (State.ptpPort_same _ _) (by decide)
                  exact Same.refl _ _
                · exact Same.refl _ _
          · refine Same.ite ?_ ?_
            · refine Same.next ?_ (State.send_same _ _) (by decide)
              refine Same.ite ?_ ?_
              · refine Same.next ?_ (State.ptpPort_same _ _) (by decide)
                exact Same.refl _ _
              · refine Same.ite ?_ ?_
                · refine Same.next ?_ (State.leapStep_same _ _) (by decide)
                  refine Same.next ?_ (State.ptpPort_same _ _) (by decide)
                  exact Same.refl _ _
                · exact Same.refl _ _
            · refine Same.ite ?_ ?_
              · refine Same.next ?_ (State.ptpPort_same _ _) (by decide)
                exact Same.refl _ _
              · refine Same.ite ?_ ?_
                · refine Same.next ?_ (State.leapStep_same _ _) (by decide)
                  refine Same.next ?_ (State.ptpPort_same _ _) (by decide)
                  exact Same.refl _ _
                · exact Same.refl _ _

theorem execPtpSync_runs (o : Opt) (p : PtpSyncIn) (s : State) :
    Runs 0x8000000 (s.begin o) (execPtpSync o p s) := by
  unfold execPtpSync
  refine Runs.ite ?_ ?_
  · refine Runs.next ?_
    exact Same.refl _ _
  · refine Runs.next ?_
    refine Same.next ?_ (State.updTim_same _ _) (by decide)
    refine Same.next ?_ (State.updSrc_same _ _ _) (by decide)
    exact Same.refl _ _

theorem execRasterSave_runs (o : Opt) (s : State) :
    Runs 0x20001000 (s.begin o) (execRasterSave o s) := by
  unfold execRasterSave
  refine Runs.ite ?_ ?_
  · refine Runs.next ?_
    exact Same.refl _ _
  · refine Runs.next ?_
    refine Same.next ?_ (State.saveRaster_same _) (by decide)
    exact Same.refl _ _

theorem execRecordOpening_runs (o : Opt) (s : State) :
    Runs 0x2020015800 (s.begin o) (execRecordOpening o s) := by
  unfold execRecordOpening
  conv => zeta
  split
  · refine Runs.next ?_
    exact Same.refl _ _
  · refine Runs.ite ?_ ?_
    · refine Runs.next ?_
      exact Same.refl _ _
    · refine Runs.next ?_
      refine Same.next ?_ (State.takeDue_same _) (by decide)
      refine Same.next ?_ (State.updYld_same _ _) (by decide)
      conv => zeta
      split
      · refine Same.next ?_ (State.clearRaster_same _ _) (by decide)
        refine Same.next ?_ (State.chooseLag_same _ _) (by decide)
        refine Same.next ?_ (State.yldBoundary_same _) (by decide)
        refine Same.next ?_ (State.updYld_same _ _) (by decide)
        refine Same.ite ?_ ?_
        · refine Same.next ?_ (State.updYld_same _ _) (by decide)
          refine Same.ite ?_ ?_
          · refine Same.next ?_ (State.updYld_same _ _) (by decide)
            refine Same.next ?_ (State.closeRec_same _ _) (by decide)
            refine Same.next ?_ (State.takeEntries_same _ _) (by decide)
            exact Same.refl _ _
          · refine Same.next ?_ (State.closeRec_same _ _) (by decide)
            refine Same.next ?_ (State.takeEntries_same _ _) (by decide)
            exact Same.refl _ _
        · refine Same.ite ?_ ?_
          · refine Same.next ?_ (State.updYld_same _ _) (by decide)
            refine Same.next ?_ (State.closeRec_same _ _) (by decide)
            refine Same.next ?_ (State.takeEntries_same _ _) (by decide)
            exact Same.refl _ _
          · refine Same.next ?_ (State.closeRec_same _ _) (by decide)
            refine Same.next ?_ (State.takeEntries_same _ _) (by decide)
            exact Same.refl _ _
      · refine Same.next ?_ (State.chooseLag_same _ _) (by decide)
        refine Same.next ?_ (State.yldBoundary_same _) (by decide)
        refine Same.next ?_ (State.updYld_same _ _) (by decide)
        refine Same.ite ?_ ?_
        · refine Same.next ?_ (State.updYld_same _ _) (by decide)
          refine Same.ite ?_ ?_
          · refine Same.next ?_ (State.updYld_same _ _) (by decide)
            refine Same.next ?_ (State.closeRec_same _ _) (by decide)
            refine Same.next ?_ (State.takeEntries_same _ _) (by decide)
            exact Same.refl _ _
          · refine Same.next ?_ (State.closeRec_same _ _) (by decide)
            refine Same.next ?_ (State.takeEntries_same _ _) (by decide)
            exact Same.refl _ _
        · refine Same.ite ?_ ?_
          · refine Same.next ?_ (State.updYld_same _ _) (by decide)
            refine Same.next ?_ (State.closeRec_same _ _) (by decide)
            refine Same.next ?_ (State.takeEntries_same _ _) (by decide)
            exact Same.refl _ _
          · refine Same.next ?_ (State.closeRec_same _ _) (by decide)
            refine Same.next ?_ (State.takeEntries_same _ _) (by decide)
            exact Same.refl _ _

theorem execRelayBtable_same (m : RelayIn) (s : State) :
    Runs 0x3200030681 s (execRelayBtable m s) := by
  unfold execRelayBtable
  refine Runs.next ?_
  refine State.onRelay_same (by decide) ?_
  intro x u hu
  refine Same.ite ?_ ?_
  · refine Same.next ?_ (State.takeTable_same _ _ _ _) (by decide)
    assumption
  · assumption

theorem execRelayData_same (m : RelayIn) (s : State) :
    Runs 0x3200030681 s (execRelayData m s) := by
  unfold execRelayData
  refine Runs.next ?_
  refine State.onRelay_same (by decide) ?_
  intro x u hu
  refine Same.ite ?_ ?_
  · refine Same.next ?_ (State.takeChunk_same _ _ _ _ _) (by decide)
    assumption
  · assumption

theorem execRelayDecision_same (m : RelayIn) (s : State) :
    Runs 0x3200030281 s (execRelayDecision m s) := by
  unfold execRelayDecision
  refine Runs.next ?_
  refine State.onRelay_same (by decide) ?_
  intro x u hu
  refine Same.ite ?_ ?_
  · conv => zeta
    split
    · refine Same.ite ?_ ?_
      · refine Same.next ?_ (State.committedTo_same _ _) (by decide)
        refine Same.next ?_ (State.forward_same _ _ _) (by decide)
        assumption
      · refine Same.next ?_ (State.forward_same _ _ _) (by decide)
        assumption
    · refine Same.ite ?_ ?_
      · refine Same.next ?_ (State.deferred_same _ _) (by decide)
        refine Same.next ?_ (State.forward_same _ _ _) (by decide)
        assumption
      · refine Same.next ?_ (State.forward_same _ _ _) (by decide)
        assumption
    · refine Same.ite ?_ ?_
      · refine Same.next ?_ (State.abandoned_same _) (by decide)
        refine Same.next ?_ (State.forward_same _ _ _) (by decide)
        assumption
      · refine Same.next ?_ (State.forward_same _ _ _) (by decide)
        assumption
  · assumption

theorem execRelayManifest_same (m : RelayIn) (s : State) :
    Runs 0x3200010281 s (execRelayManifest m s) := by
  unfold execRelayManifest
  refine Runs.next ?_
  refine State.onRelay_same (by decide) ?_
  intro x u hu
  refine Same.ite ?_ ?_
  · assumption
  · refine Same.ite ?_ ?_
    · refine Same.next ?_ (State.mfRefused_same _ _) (by decide)
      assumption
    · refine Same.next ?_ (State.forward_same _ _ _) (by decide)
      refine Same.next ?_ (State.stage_same _ _) (by decide)
      assumption

theorem execRelayPrepare_same (m : RelayIn) (s : State) :
    Runs 0x3200010081 s (execRelayPrepare m s) := by
  unfold execRelayPrepare
  refine Runs.next ?_
  refine State.onRelay_same (by decide) ?_
  intro x u hu
  refine Same.ite ?_ ?_
  · refine Same.next ?_ (State.relay_same _ _ _ _ _ _ _ _) (by decide)
    refine Same.next ?_ (State.prepare_same _ _) (by decide)
    refine Same.next ?_ (State.forward_same _ _ _) (by decide)
    assumption
  · assumption

theorem execRelayReady_same (m : RelayIn) (s : State) :
    Runs 0x3200010081 s (execRelayReady m s) := by
  unfold execRelayReady
  refine Runs.next ?_
  refine State.onRelay_same (by decide) ?_
  intro x u hu
  refine Same.ite ?_ ?_
  · refine Same.next ?_ (State.updUpd_same _ _) (by decide)
    refine Same.next ?_ (State.forward_same _ _ _) (by decide)
    assumption
  · assumption

theorem execRelayResend_same (m : RelayIn) (s : State) :
    Runs 0x3000010081 s (execRelayResend m s) := by
  unfold execRelayResend
  refine Runs.next ?_
  refine State.onRelay_same (by decide) ?_
  intro x u hu
  refine Same.ite ?_ ?_
  · assumption
  · conv => zeta
    split
    · refine Same.next ?_ (State.sendBlock_same _ _ _ _) (by decide)
      assumption
    · assumption

theorem execRelayResult_same (m : RelayIn) (s : State) :
    Runs 0x3200010081 s (execRelayResult m s) := by
  unfold execRelayResult
  refine Runs.next ?_
  refine State.onRelay_same (by decide) ?_
  intro x u hu
  refine Same.ite ?_ ?_
  · refine Same.next ?_ (State.updUpd_same _ _) (by decide)
    refine Same.next ?_ (State.forward_same _ _ _) (by decide)
    assumption
  · assumption

theorem execRelayState_same (m : RelayIn) (s : State) :
    Runs 0x3200010081 s (execRelayState m s) := by
  unfold execRelayState
  refine Runs.next ?_
  refine State.onRelay_same (by decide) ?_
  intro x u hu
  refine Same.ite ?_ ?_
  · refine Same.ite ?_ ?_
    · refine Same.next ?_ (State.updUpd_same _ _) (by decide)
      refine Same.next ?_ (State.forward_same _ _ _) (by decide)
      assumption
    · refine Same.next ?_ (State.forward_same _ _ _) (by decide)
      assumption
  · assumption

theorem execRelayVote_same (m : RelayIn) (s : State) :
    Runs 0x3200010081 s (execRelayVote m s) := by
  unfold execRelayVote
  refine Runs.next ?_
  refine State.onRelay_same (by decide) ?_
  intro x u hu
  refine Same.ite ?_ ?_
  · refine Same.ite ?_ ?_
    · refine Same.next ?_ (State.updUpd_same _ _) (by decide)
      refine Same.next ?_ (State.forward_same _ _ _) (by decide)
      assumption
    · refine Same.next ?_ (State.forward_same _ _ _) (by decide)
      assumption
  · assumption

theorem execShutdownComplete_runs (o : Opt) (s : State) :
    Runs 0xfffffe0ff (s.begin o) (execShutdownComplete o s) := by
  unfold execShutdownComplete
  refine Runs.next ?_
  refine Same.ite ?_ ?_
  · refine Same.next ?_ (State.off_same _) (by decide)
    refine Same.next ?_ (State.writeReason_same _ _) (by decide)
    exact Same.refl _ _
  · exact Same.refl _ _

theorem execSourceLost_runs (o : Opt) (src : Fin 3) (s : State) :
    Runs 0x8000000 (s.begin o) (execSourceLost o src s) := by
  unfold execSourceLost
  refine Runs.next ?_
  refine Same.ite ?_ ?_
  · refine Same.next ?_ (State.loseSrc_same _ _) (by decide)
    exact Same.refl _ _
  · exact Same.refl _ _

theorem execStateSample_runs (o : Opt) (s : State) :
    Runs 0x3200010000 (s.begin o) (execStateSample o s) := by
  unfold execStateSample
  conv => zeta
  split
  · refine Runs.next ?_
    exact Same.refl _ _
  · refine Runs.next ?_
    refine Same.ite ?_ ?_
    · exact Same.refl _ _
    · refine Same.next ?_ (State.relay_same _ _ _ _ _ _ _ _) (by decide)
      refine Same.next ?_ (State.updUpd_same _ _) (by decide)
      exact Same.refl _ _

theorem execSteerCoastTimeout_runs (o : Opt) (s : State) :
    Runs 0x10000000 (s.begin o) (execSteerCoastTimeout o s) := by
  unfold execSteerCoastTimeout
  refine Runs.next ?_
  refine Same.ite ?_ ?_
  · refine Same.next ?_ (State.disengage_same _ _) (by decide)
    exact Same.refl _ _
  · exact Same.refl _ _

theorem execSteerLateDisengage_runs (o : Opt) (s : State) :
    Runs 0x10000000 (s.begin o) (execSteerLateDisengage o s) := by
  unfold execSteerLateDisengage
  refine Runs.next ?_
  refine Same.ite ?_ ?_
  · refine Same.next ?_ (State.disengage_same _ _) (by decide)
    exact Same.refl _ _
  · exact Same.refl _ _

theorem execSteerTakeover_runs (o : Opt) (s : State) :
    Runs 0x10000000 (s.begin o) (execSteerTakeover o s) := by
  unfold execSteerTakeover
  refine Runs.next ?_
  refine Same.ite ?_ ?_
  · refine Same.next ?_ (State.disengage_same _ _) (by decide)
    exact Same.refl _ _
  · exact Same.refl _ _

theorem execSteeringTargetApply_runs (s : State) :
    Runs 0x12000000 s.start (execSteeringTargetApply s) := by
  unfold execSteeringTargetApply
  refine Runs.ite ?_ ?_
  · refine Runs.next ?_
    exact Same.refl _ _
  · refine Runs.next ?_
    refine Same.fold _ ?_ ?_
    · refine Same.next ?_ (State.updStr_same _ _) (by decide)
      exact Same.refl _ _
    · intro u a hu
      refine Same.next ?_ (State.steerWrite_same _ _) (by decide)
      assumption

theorem execSupplyConnect_runs (m : SupplyIn) (s : State) :
    Runs 0x4000002 s.start (execSupplyConnect m s) := by
  unfold execSupplyConnect
  refine Runs.next ?_
  refine Same.ite ?_ ?_
  · refine Same.next ?_ (State.monitor_same _ _) (by decide)
    exact Same.refl _ _
  · exact Same.refl _ _

theorem execSvcEnChange_runs (o : Opt) (strapped : Bool) (s : State) :
    Runs 0x40 (s.begin o) (execSvcEnChange o strapped s) := by
  unfold execSvcEnChange
  refine Runs.next ?_
  refine Same.ite ?_ ?_
  · exact Same.refl _ _
  · refine Same.next ?_ Same.set_boot (by decide)
    exact Same.refl _ _

theorem execTailEnd_runs (o : Opt) (s : State) :
    Runs 0x20000000 (s.begin o) (execTailEnd o s) := by
  unfold execTailEnd
  conv => zeta
  split
  · refine Runs.next ?_
    refine Same.next ?_ (State.updYld_same _ _) (by decide)
    exact Same.refl _ _
  · refine Runs.ite ?_ ?_
    · refine Runs.next ?_
      refine Same.next ?_ (State.updYld_same _ _) (by decide)
      exact Same.refl _ _
    · refine Runs.next ?_
      refine Same.next ?_ (State.updYld_same _ _) (by decide)
      refine Same.next ?_ (State.poolFill_same _ _) (by decide)
      refine Same.next ?_ (State.updYld_same _ _) (by decide)
      exact Same.refl _ _

theorem execTareComplete_runs (o : Opt) (s : State) : Runs 0x1000800800 (s.begin o) (execTareComplete o s) := by
  unfold execTareComplete
  refine Runs.ite (Runs.next (Same.refl _ _)) ?_
  refine Runs.ite ?_ (Runs.next ((Same.refl _ _).next (State.calResult_same _ _ _) (by decide)))
  conv => zeta
  split
  · rename_i t u h
    exact Runs.next (((Same.refl _ _).next (State.trySettings_some _ _ h) (by decide)).next (State.calResult_same _ _ _) (by decide))
  · rename_i t h
    have k := congrArg Prod.snd h
    refine Runs.next (Same.next ?_ (State.calResult_same _ _ _) (by decide))
    rw [← show _ = t from k]
    exact (Same.refl _ _).next (State.trySettings_same _ _) (by decide)

theorem execTickAlignment_runs (s : State) :
    Runs 0x1 s.start (execTickAlignment s) := by
  unfold execTickAlignment
  refine Runs.next ?_
  refine Same.ite ?_ ?_
  · refine Same.next ?_ Same.set_clk (by decide)
    exact Same.refl _ _
  · exact Same.refl _ _

theorem execTimeSetAiding_same (r : HostReq) (value : BitVec 64) (s : State) :
    Runs 0x2108010001 s (execTimeSetAiding r value s) := by
  unfold execTimeSetAiding
  refine Runs.next ?_
  refine hostOp_same (by decide) ?_
  intro u hu
  refine OpSame.ite ?_ ?_
  · exact OpSame.refuse
  · refine OpSame.next ?_ (State.timeWait_same _ _ _ _ _) (by decide)
    assumption

theorem execTimeSetCvtFollow_same (r : HostReq) (s : State) :
    Runs 0x2108010001 s (execTimeSetCvtFollow r s) := by
  unfold execTimeSetCvtFollow
  refine Runs.next ?_
  refine hostOp_same (by decide) ?_
  intro u hu
  refine OpSame.ite ?_ ?_
  · refine OpSame.next ?_ (State.timeWait_same _ _ _ _ _) (by decide)
    assumption
  · exact OpSame.refuse

theorem execTimeSetCvtSet_same (r : HostReq) (value : BitVec 64) (s : State) :
    Runs 0x2108010001 s (execTimeSetCvtSet r value s) := by
  unfold execTimeSetCvtSet
  refine Runs.next ?_
  refine hostOp_same (by decide) ?_
  intro u hu
  refine OpSame.next ?_ (State.timeWait_same _ _ _ _ _) (by decide)
  assumption

theorem execTimeSetLeap_same (r : HostReq) (leap : Byte) (s : State) :
    Runs 0x2108010001 s (execTimeSetLeap r leap s) := by
  unfold execTimeSetLeap
  refine Runs.next ?_
  refine hostOp_same (by decide) ?_
  intro u hu
  refine OpSame.ite ?_ ?_
  · exact OpSame.refuse
  · refine OpSame.next ?_ (State.timeWait_same _ _ _ _ _) (by decide)
    assumption

theorem execTimebaseSecond_runs (o : Opt) (t : SecondIn) (s : State) :
    Runs 0x3828030000 (s.begin o) (execTimebaseSecond o t s) := by
  unfold execTimebaseSecond
  refine Runs.ite ?_ ?_
  · refine Runs.next ?_
    exact Same.refl _ _
  · refine Runs.ite ?_ ?_
    · refine Runs.next ?_
      refine Same.ite ?_ ?_
      · refine Same.next ?_ (State.recSample_same _ _) (by decide)
        exact Same.refl _ _
      · exact Same.refl _ _
    · refine Runs.next ?_
      refine Same.next ?_ (State.recSample_same _ _) (by decide)
      refine Same.ite ?_ ?_
      · refine Same.next ?_ (State.timebaseRow_same _ _ _) (by decide)
        refine Same.next ?_ (State.leapStep_same _ _) (by decide)
        exact Same.refl _ _
      · refine Same.ite ?_ ?_
        · refine Same.next ?_ (State.setDvt_same _ _ _) (by decide)
          refine Same.next ?_ (State.leapStep_same _ _) (by decide)
          exact Same.refl _ _
        · refine Same.next ?_ (State.updTim_same _ _) (by decide)
          refine Same.next ?_ (State.leapStep_same _ _) (by decide)
          exact Same.refl _ _

theorem execTimepulseEdge_runs (o : Opt) (s : State) :
    Runs 0x8000000 (s.begin o) (execTimepulseEdge o s) := by
  unfold execTimepulseEdge
  refine Runs.ite ?_ ?_
  · refine Runs.next ?_
    exact Same.refl _ _
  · refine Runs.next ?_
    refine Same.next ?_ (State.updTim_same _ _) (by decide)
    exact Same.refl _ _

theorem execTimepulseInEdge_runs (at_ : Opt) (rising : Bool) (s : State) :
    Runs 0x8000000 (s.begin at_) (execTimepulseInEdge at_ rising s) := by
  unfold execTimepulseInEdge
  refine Runs.ite ?_ ?_
  · refine Runs.next ?_
    exact Same.refl _ _
  · refine Runs.next ?_
    refine Same.next ?_ (State.updSrc_same _ _ _) (by decide)
    exact Same.refl _ _

theorem execTrialConfirm_runs (o : Opt) (s : State) :
    Runs 0x3200030340 (s.begin o) (execTrialConfirm o s) := by
  unfold execTrialConfirm
  refine Runs.next ?_
  refine Same.ite ?_ ?_
  · exact Same.refl _ _
  · refine Same.next ?_ (State.sendResult_same _) (by decide)
    refine Same.next ?_ (State.notice_same _ _ _ _ _) (by decide)
    refine Same.next ?_ Same.set_boot_journal_updt (by decide)
    refine Same.next ?_ (State.writeBoot_same _ _) (by decide)
    exact Same.refl _ _

theorem execUpdAbort_same (r : HostReq) (s : State) :
    Runs 0x3100030201 s (execUpdAbort r s) := by
  unfold execUpdAbort
  refine Runs.next ?_
  refine hostOp_same (by decide) ?_
  intro u hu
  conv => zeta
  split
  · exact OpSame.refuse
  · refine OpSame.ite ?_ ?_
    · refine OpSame.done ?_
      refine Same.next ?_ (State.abandoned_same _) (by decide)
      refine Same.next ?_ (State.relay_same _ _ _ _ _ _ _ _) (by decide)
      assumption
    · exact OpSame.refuse
  · refine OpSame.ite ?_ ?_
    · refine OpSame.done ?_
      refine Same.next ?_ (State.abandoned_same _) (by decide)
      refine Same.next ?_ (State.relay_same _ _ _ _ _ _ _ _) (by decide)
      assumption
    · exact OpSame.refuse
  · refine OpSame.ite ?_ ?_
    · refine OpSame.done ?_
      refine Same.next ?_ (State.abandoned_same _) (by decide)
      refine Same.next ?_ (State.relay_same _ _ _ _ _ _ _ _) (by decide)
      assumption
    · exact OpSame.refuse
  · refine OpSame.ite ?_ ?_
    · refine OpSame.done ?_
      refine Same.next ?_ (State.abandoned_same _) (by decide)
      refine Same.next ?_ (State.relay_same _ _ _ _ _ _ _ _) (by decide)
      assumption
    · exact OpSame.refuse
  · exact OpSame.refuse

theorem execUpdBegin_same (r : HostReq) (manifest : List Byte) (s : State) :
    Runs 0x3300010201 s (execUpdBegin r manifest s) := by
  unfold execUpdBegin
  refine Runs.next ?_
  refine hostOp_same (by decide) ?_
  intro u hu
  refine OpSame.ite ?_ ?_
  · exact OpSame.refuse
  · refine OpSame.ite ?_ ?_
    · refine OpSame.wait ?_
      refine Same.next ?_ (State.complete_same _ _ _ _) (by decide)
      refine Same.next ?_ (State.mfRefused_same _ _) (by decide)
      assumption
    · refine OpSame.ite ?_ ?_
      · exact OpSame.refuse
      · refine OpSame.done ?_
        refine Same.next ?_ (State.relay_same _ _ _ _ _ _ _ _) (by decide)
        refine Same.next ?_ (State.stage_same _ _) (by decide)
        assumption

theorem execUpdConfirm_same (r : HostReq) (s : State) :
    Runs 0x2300010001 s (execUpdConfirm r s) := by
  unfold execUpdConfirm
  refine Runs.next ?_
  refine hostOp_same (by decide) ?_
  intro u hu
  refine OpSame.ite ?_ ?_
  · refine OpSame.done ?_
    refine Same.next ?_ (State.updUpd_same _ _) (by decide)
    assumption
  · exact OpSame.refuse

theorem execUpdData_same (r : HostReq) (part : Byte) (kind : Byte) (offset : Word) (data : List Byte) (s : State) :
    Runs 0x3300030681 s (execUpdData r part kind offset data s) := by
  unfold execUpdData
  refine Runs.next ?_
  refine hostOp_same (by decide) ?_
  intro u hu
  refine OpSame.ite ?_ ?_
  · exact OpSame.refuse
  · refine OpSame.ite ?_ ?_
    · exact OpSame.refuse
    · refine OpSame.ite ?_ ?_
      · exact OpSame.refuse
      · refine OpSame.ite ?_ ?_
        · exact OpSame.refuse
        · refine OpSame.done ?_
          refine Same.ite ?_ ?_
          · refine Same.next ?_ (State.takeTable_same _ _ _ _) (by decide)
            assumption
          · refine Same.next ?_ (State.takeChunk_same _ _ _ _ _) (by decide)
            assumption

theorem execUpdReject_same (r : HostReq) (p : PowerIn) (s : State) :
    Runs 0x3ffffffbff s (execUpdReject r p s) := by
  unfold execUpdReject
  refine Runs.next ?_
  refine hostOp_same (by decide) ?_
  intro u hu
  refine OpSame.ite ?_ ?_
  · exact OpSame.refuse
  · refine OpSame.wait ?_
    refine Same.next ?_ (State.powerUp_same _ _) (by decide)
    refine Same.next ?_ (State.send_same _ _) (by decide)
    refine Same.next ?_ (State.writeReason_same _ _) (by decide)
    refine Same.next ?_ (State.writeBoot_same _ _) (by decide)
    refine Same.next ?_ (State.shutdownSteps_same _) (by decide)
    refine Same.next ?_ (State.complete_same _ _ _ _) (by decide)
    assumption

theorem execUpdStatus_same (r : HostReq) (s : State) :
    Runs 0x2100010001 s (execUpdStatus r s) := by
  unfold execUpdStatus
  refine Runs.next ?_
  refine hostOp_same (by decide) ?_
  intro u hu
  refine OpSame.done ?_
  assumption

theorem execVerifyComplete_runs (o : Opt) (vendorOk : Bool) (s : State) :
    Runs 0x3200030200 (s.begin o) (execVerifyComplete o vendorOk s) := by
  unfold execVerifyComplete
  refine Runs.next ?_
  refine Same.ite ?_ ?_
  · exact Same.refl _ _
  · refine Same.ite ?_ ?_
    · refine Same.next ?_ (State.notice_same _ _ _ _ _) (by decide)
      refine Same.next ?_ (State.relay_same _ _ _ _ _ _ _ _) (by decide)
      refine Same.next ?_ (State.updUpd_same _ _) (by decide)
      refine Same.next ?_ (State.updJournal_same _ _) (by decide)
      exact Same.refl _ _
    · refine Same.next ?_ (State.updUpd_same _ _) (by decide)
      refine Same.next ?_ (State.updJournal_same _ _) (by decide)
      exact Same.refl _ _

theorem execVisWindowRelease_runs (o : Opt) (s : State) :
    Runs 0x40000000 (s.begin o) (execVisWindowRelease o s) := by
  unfold execVisWindowRelease
  refine Runs.ite ?_ ?_
  · refine Runs.next ?_
    exact Same.refl _ _
  · refine Runs.next ?_
    refine Same.next ?_ (State.updVis_same _ _) (by decide)
    refine Same.next ?_ (State.windowFree_same _) (by decide)
    exact Same.refl _ _

theorem execVoteDeadline_runs (o : Opt) (s : State) :
    Runs 0x3200030200 (s.begin o) (execVoteDeadline o s) := by
  unfold execVoteDeadline
  conv => zeta
  split
  · refine Runs.next ?_
    exact Same.refl _ _
  · refine Runs.next ?_
    refine Same.ite ?_ ?_
    · exact Same.refl _ _
    · refine Same.next ?_ (State.headDefer_same _ _) (by decide)
      exact Same.refl _ _

theorem execWhippetHoldEnd_runs (o : Opt) (s : State) :
    Runs 0x3825bb1032 (s.begin o) (execWhippetHoldEnd o s) := by
  unfold execWhippetHoldEnd
  refine Runs.next ?_
  refine Same.ite ?_ ?_
  · refine Same.ite ?_ ?_
    · refine Same.next ?_ (State.shutdown_same _ _) (by decide)
      refine Same.next ?_ (State.leaveWhippet_same _ _) (by decide)
      exact Same.refl _ _
    · refine Same.next ?_ (State.leaveWhippet_same _ _) (by decide)
      exact Same.refl _ _
  · exact Same.refl _ _

theorem execYieldEntry_runs (o : Opt) (s : State) :
    Runs 0x28001000 (s.begin o) (execYieldEntry o s) := by
  unfold execYieldEntry
  refine Runs.ite ?_ ?_
  · refine Runs.next ?_
    exact Same.refl _ _
  · refine Runs.next ?_
    refine Same.next ?_ (State.takeDue_same _) (by decide)
    refine Same.next ?_ (State.updYld_same _ _) (by decide)
    refine Same.ite ?_ ?_
    · refine Same.next ?_ (State.stepEntry_same _ _) (by decide)
      refine Same.ite ?_ ?_
      · refine Same.next ?_ (State.selectField_same _) (by decide)
        refine Same.next ?_ (State.takePose_same _) (by decide)
        exact Same.refl _ _
      · refine Same.next ?_ (State.takePose_same _) (by decide)
        exact Same.refl _ _
    · refine Same.next ?_ (State.startMark_same _ _) (by decide)
      refine Same.next ?_ (State.stepEntry_same _ _) (by decide)
      refine Same.ite ?_ ?_
      · refine Same.next ?_ (State.selectField_same _) (by decide)
        refine Same.next ?_ (State.takePose_same _) (by decide)
        exact Same.refl _ _
      · refine Same.next ?_ (State.takePose_same _) (by decide)
        exact Same.refl _ _

theorem execYieldRecordWrite_runs (o : Opt) (s : State) :
    Runs 0x3820011000 (s.begin o) (execYieldRecordWrite o s) := by
  unfold execYieldRecordWrite
  refine Runs.ite ?_ ?_
  · refine Runs.next ?_
    refine Same.next ?_ (State.updYld_same _ _) (by decide)
    exact Same.refl _ _
  · conv => zeta
    split
    · refine Runs.next ?_
      refine Same.next ?_ (State.updYld_same _ _) (by decide)
      exact Same.refl _ _
    · conv => zeta
      split
      · refine Runs.next ?_
        conv => zeta
        split
        · refine Same.next ?_ (State.poolFill_same _ _) (by decide)
          refine Same.next ?_ (State.updYld_same _ _) (by decide)
          exact Same.refl _ _
        · refine Same.next ?_ (State.updYld_same _ _) (by decide)
          exact Same.refl _ _
      · refine Runs.ite ?_ ?_
        · refine Runs.next ?_
          refine Same.next ?_ (State.writeData_same _ _ _) (by decide)
          refine Same.next ?_ (State.updYld_same _ _) (by decide)
          conv => zeta
          split
          · refine Same.next ?_ (State.poolFill_same _ _) (by decide)
            refine Same.next ?_ (State.updYld_same _ _) (by decide)
            exact Same.refl _ _
          · refine Same.next ?_ (State.updYld_same _ _) (by decide)
            exact Same.refl _ _
        · refine Runs.next ?_
          conv => zeta
          split
          · refine Same.next ?_ (State.poolFill_same _ _) (by decide)
            refine Same.next ?_ (State.updYld_same _ _) (by decide)
            exact Same.refl _ _
          · refine Same.next ?_ (State.updYld_same _ _) (by decide)
            exact Same.refl _ _

end Sys2Proof.Machine
end

