-- ==== Sys2Proof/Laws/FramesCommands.lean ====
section
/-! SUPPORT. Frame lemmas: which fields of the state each operation can change, and that each command answers a next state; here for
the registers and the commands of the host (Reg, RegsLop, RegsNav, Sensors, Regions, Freeze, RegsNet, RegsPwr, RegsSns, RegsSys, RegsYld, Regs, Commit, Host, RegRows, Tick, Dispatch, Step, Core, Inputs). -/

namespace Sys2Proof.Machine

theorem State.badMessage_same (s : State) (o : Opt) (i : Nat) (pathB : Bool) (b : List Byte) :
    Same 0x2100010001 s (State.badMessage s o i pathB b) := by
  unfold State.badMessage
  refine Same.ite ?_ ?_
  · refine Same.next ?_ (State.begin_same _ _) (by decide)
    exact Same.refl _ _
  · refine Same.ite ?_ ?_
    · refine Same.next ?_ (State.standbyDiscard_same _ _) (by decide)
      refine Same.next ?_ (State.begin_same _ _) (by decide)
      exact Same.refl _ _
    · refine Same.ite ?_ ?_
      · refine Same.next ?_ (State.badMsg_same _) (by decide)
        refine Same.next ?_ (State.begin_same _ _) (by decide)
        exact Same.refl _ _
      · refine Same.ite ?_ ?_
        · refine Same.next ?_ (State.badMsg_same _) (by decide)
          refine Same.next ?_ (State.seen_same _ _ _) (by decide)
          refine Same.next ?_ (State.begin_same _ _) (by decide)
          exact Same.refl _ _
        · conv => zeta
          split
          · refine Same.next ?_ (State.reply_same _ _ _ _ _ _) (by decide)
            refine Same.next ?_ (State.seen_same _ _ _) (by decide)
            refine Same.next ?_ (State.updSess_same _ _ _) (by decide)
            refine Same.next ?_ (State.begin_same _ _) (by decide)
            exact Same.refl _ _
          · refine Same.ite ?_ ?_
            · refine Same.next ?_ (State.begin_same _ _) (by decide)
              exact Same.refl _ _
            · refine Same.next (j := 0x2100010001) ?_ (receive_same (by decide) ?_) (by decide)
              · refine Same.next ?_ (State.begin_same _ _) (by decide)
                exact Same.refl _ _
              · intro u hu
                refine Same.next ?_ (State.reply_same _ _ _ _ _ _) (by decide)
                assumption

theorem State.beforeInstant_same (s : State) :
    Same 0x1f7fb8026 s (State.beforeInstant s) := by
  unfold State.beforeInstant
  refine Same.next ?_ Same.set_pwr_regions_wake_sm_hst_rcd_psw_vlv_col_sns_flw_lop_prf_nav_str_yld_vis_can_eth (by decide)
  exact Same.refl _ _

theorem State.boundaryOf_same (s : State) (g : Nat) :
    Same 0x20e4814800 s (State.boundaryOf s g) := by
  unfold State.boundaryOf
  conv => zeta
  split
  · refine Same.next ?_ (State.flwBoundary_same _) (by decide)
    exact Same.refl _ _
  · refine Same.next ?_ (State.navBoundary_same _) (by decide)
    exact Same.refl _ _
  · refine Same.next ?_ (State.yldBoundary_same _) (by decide)
    exact Same.refl _ _
  · refine Same.next ?_ (State.camCutoff_same _ _) (by decide)
    exact Same.refl _ _
  · refine Same.ite ?_ ?_
    · refine Same.next ?_ (State.canGroupApplied_same _ _) (by decide)
      refine Same.next ?_ (State.applyGroup_same _ _) (by decide)
      exact Same.refl _ _
    · exact Same.refl _ _
  · refine Same.next ?_ (State.applyGroup_same _ _) (by decide)
    exact Same.refl _ _

theorem State.setShadow_same (s : State) (addr : Nat) (v : Word) :
    Same 0x4000 s (State.setShadow s addr v) := by
  unfold State.setShadow
  refine Same.next ?_ Same.set_grp (by decide)
  exact Same.refl _ _

theorem State.canWrite_same (s : State) (g : CanReg) (n : Nat) (v : Word) :
    Same 0x3180034000 s (State.canWrite s g n v) := by
  unfold State.canWrite
  conv => zeta
  split
  · refine Same.next ?_ (State.canEnable_same _ _) (by decide)
    exact Same.refl _ _
  · refine Same.next ?_ (State.canCntClear_same _ _) (by decide)
    exact Same.refl _ _
  · refine Same.next ?_ (State.canCmd_same _ _) (by decide)
    exact Same.refl _ _
  · refine Same.next ?_ (State.updCc_same _ _ _) (by decide)
    exact Same.refl _ _
  · refine Same.next ?_ (State.updCan_same _ _) (by decide)
    exact Same.refl _ _
  · refine Same.next ?_ (State.canLatch_same _ _) (by decide)
    exact Same.refl _ _
  · refine Same.next ?_ (State.updCan_same _ _) (by decide)
    exact Same.refl _ _
  · refine Same.next ?_ (State.updCan_same _ _) (by decide)
    exact Same.refl _ _
  · refine Same.next ?_ (State.updCan_same _ _) (by decide)
    exact Same.refl _ _
  · refine Same.next ?_ (State.updCan_same _ _) (by decide)
    exact Same.refl _ _
  · refine Same.ite ?_ ?_
    · refine Same.next ?_ (State.canTxsSend_same _) (by decide)
      exact Same.refl _ _
    · exact Same.refl _ _
  · refine Same.next ?_ (State.updCan_same _ _) (by decide)
    exact Same.refl _ _
  · refine Same.next ?_ (State.updCan_same _ _) (by decide)
    exact Same.refl _ _
  · refine Same.ite ?_ ?_
    · refine Same.next ?_ (State.canTxmSend_same _) (by decide)
      exact Same.refl _ _
    · exact Same.refl _ _
  · refine Same.next ?_ (State.updCan_same _ _) (by decide)
    exact Same.refl _ _
  · refine Same.next ?_ (State.setShadow_same _ _ _) (by decide)
    exact Same.refl _ _
  · refine Same.next ?_ (State.setShadow_same _ _ _) (by decide)
    exact Same.refl _ _
  · refine Same.next ?_ (State.setShadow_same _ _ _) (by decide)
    exact Same.refl _ _
  · refine Same.next ?_ (State.setShadow_same _ _ _) (by decide)
    exact Same.refl _ _
  · exact Same.refl _ _

theorem State.channelEnables_same (s : State) :
    Same 0x30003b0030 s (State.channelEnables s) := by
  unfold State.channelEnables
  refine Same.fold _ ?_ ?_
  · refine Same.fold _ ?_ ?_
    · refine Same.fold _ ?_ ?_
      · exact Same.refl _ _
      · intro u a hu
        refine Same.next ?_ (State.pswSetEnable_same _ _ _) (by decide)
        assumption
    · intro u a hu
      refine Same.next ?_ (State.vlvSetEnable_same _ _ _) (by decide)
      assumption
  · intro u a hu
    refine Same.next ?_ (State.colSetEnable_same _ _ _ _) (by decide)
    assumption

theorem State.channelGroups_same (s : State) :
    Same 0x2000014000 s (State.channelGroups s) := by
  unfold State.channelGroups
  refine Same.fold _ ?_ ?_
  · exact Same.refl _ _
  · intro u a hu
    refine Same.next ?_ (State.applyGroup_same _ _) (by decide)
    assumption

theorem State.channelTick_same (s : State) :
    Same 0x3080bb0030 s (State.channelTick s) := by
  unfold State.channelTick
  refine Same.next ?_ (State.rxTick_same _) (by decide)
  refine Same.next ?_ (State.notchTick_same _) (by decide)
  refine Same.next ?_ (State.wakeTick_same _) (by decide)
  refine Same.next ?_ (State.colEvalAll_same _ _) (by decide)
  refine Same.fold _ ?_ ?_
  · refine Same.fold _ ?_ ?_
    · refine Same.fold _ ?_ ?_
      · refine Same.next ?_ (State.wantTick_same _) (by decide)
        exact Same.refl _ _
      · intro u a hu
        refine Same.ite ?_ ?_
        · refine Same.next ?_ (State.pswDuty_same _ _) (by decide)
          assumption
        · assumption
    · intro u a hu
      refine Same.next ?_ (State.vlvTolerance_same _ _) (by decide)
      assumption
  · intro u a hu
    refine Same.next ?_ (State.colTimers_same _ _) (by decide)
    assumption

theorem State.updSns_same (s : State) (f : SnsSt → SnsSt) :
    Same 0x400000 s (State.updSns s f) := by
  unfold State.updSns
  refine Same.next ?_ Same.set_sns (by decide)
  exact Same.refl _ _

theorem State.clusterReload_same (s : State) (r : Nat) (c : Nat) :
    Same 0x1c7f80040 s (State.clusterReload s r c) := by
  unfold State.clusterReload
  conv => zeta
  split
  · refine Same.next ?_ Same.set_lop_prf (by decide)
    exact Same.refl _ _
  · refine Same.next ?_ Same.set_boot (by decide)
    exact Same.refl _ _
  · refine Same.ite ?_ ?_
    · refine Same.next ?_ (State.updSns_same _ _) (by decide)
      exact Same.refl _ _
    · refine Same.ite ?_ ?_
      · refine Same.next ?_ (State.updFlw_same _ _) (by decide)
        exact Same.refl _ _
      · refine Same.next ?_ (State.updFlw_same _ _) (by decide)
        exact Same.refl _ _
  · refine Same.ite ?_ ?_
    · refine Same.next ?_ (State.updVis_same _ _) (by decide)
      exact Same.refl _ _
    · refine Same.next ?_ (State.updPipe_same _ _ _) (by decide)
      exact Same.refl _ _
  · refine Same.ite ?_ ?_
    · refine Same.next ?_ (State.updNav_same _ _) (by decide)
      exact Same.refl _ _
    · refine Same.ite ?_ ?_
      · refine Same.next ?_ (State.updNav_same _ _) (by decide)
        exact Same.refl _ _
      · refine Same.next ?_ (State.updNav_same _ _) (by decide)
        exact Same.refl _ _
  · refine Same.ite ?_ ?_
    · refine Same.next ?_ (State.updCan_same _ _) (by decide)
      exact Same.refl _ _
    · refine Same.ite ?_ ?_
      · refine Same.next ?_ (State.updEth_same _ _) (by decide)
        exact Same.refl _ _
      · exact Same.refl _ _
  · refine Same.ite ?_ ?_
    · refine Same.next ?_ Same.set_vlv (by decide)
      exact Same.refl _ _
    · refine Same.ite ?_ ?_
      · refine Same.next ?_ Same.set_psw (by decide)
        exact Same.refl _ _
      · refine Same.next ?_ Same.set_col (by decide)
        exact Same.refl _ _

theorem State.withdrawSnap_same (s : State) (g : Nat) (status : Nat) (payload : List Byte) :
    Same 0x2000014000 s (State.withdrawSnap s g status payload) := by
  unfold State.withdrawSnap
  conv => zeta
  split
  · exact Same.refl _ _
  · conv => zeta
    split
    · refine Same.next ?_ (State.complete_same _ _ _ _) (by decide)
      refine Same.next ?_ Same.set_grp (by decide)
      exact Same.refl _ _
    · refine Same.next ?_ Same.set_grp (by decide)
      exact Same.refl _ _

theorem State.clusterReset_same (s : State) (v : Word) :
    Same 0x21c7f94048 s (State.clusterReset s v) := by
  unfold State.clusterReset
  refine Same.next ?_ Same.set_clRst (by decide)
  refine Same.next ?_ (State.clusterReload_same _ _ _) (by decide)
  refine Same.fold _ ?_ ?_
  · exact Same.refl _ _
  · intro u a hu
    refine Same.next ?_ (State.withdrawSnap_same _ _ _ _) (by decide)
    assumption

theorem State.colWrite_same (s : State) (g : ColReg) (n : Nat) (v : Word) :
    Same 0x30003b0030 s (State.colWrite s g n v) := by
  unfold State.colWrite
  conv => zeta
  split
  · refine Same.next ?_ Same.set_col (by decide)
    exact Same.refl _ _
  · refine Same.next ?_ (State.colCntClear_same _ _) (by decide)
    exact Same.refl _ _
  · refine Same.next ?_ (State.colClear_same _ _) (by decide)
    exact Same.refl _ _
  · refine Same.next ?_ (State.updCol_same _ _ _) (by decide)
    exact Same.refl _ _
  · refine Same.next ?_ Same.set_col (by decide)
    exact Same.refl _ _
  · exact Same.refl _ _

theorem State.shdnFaults_same (s : State) (l : List (Option F32)) :
    Same 0x200000 s (State.shdnFaults s l) := by
  unfold State.shdnFaults
  refine Same.next ?_ Same.set_col (by decide)
  exact Same.refl _ _

theorem State.convert_same (s : State) (c : ConvIn) (tsDue : Bool) :
    Same 0xe00000 s (State.convert s c tsDue) := by
  unfold State.convert
  refine Same.next ?_ (State.updFlw_same _ _) (by decide)
  refine Same.next ?_ (State.shdnFaults_same _ _) (by decide)
  refine Same.next ?_ (State.updSns_same _ _) (by decide)
  refine Same.next ?_ (State.updSns_same _ _) (by decide)
  exact Same.refl _ _

theorem State.countEdge_same (s : State) (n : Nat) (o : Opt) (rising : Bool) :
    Same 0x400000 s (State.countEdge s n o rising) := by
  unfold State.countEdge
  refine Same.next ?_ (State.updSns_same _ _) (by decide)
  exact Same.refl _ _

theorem State.latchImage_same (s : State) :
    Same 0x400000 s (State.latchImage s) := by
  unfold State.latchImage
  refine Same.next ?_ Same.set_sns (by decide)
  exact Same.refl _ _

theorem State.takeCanMail_same (s : State) :
    Same 0x82000000 s (State.takeCanMail s) := by
  unfold State.takeCanMail
  refine Same.next ?_ Same.set_prf_can (by decide)
  exact Same.refl _ _

theorem State.ctlTick_same (s : State) :
    Same 0x30abfb4070 s (State.ctlTick s) := by
  unfold State.ctlTick
  refine Same.fold _ ?_ ?_
  · refine Same.fold _ ?_ ?_
    · refine Same.next ?_ (State.channelTick_same _) (by decide)
      refine Same.fold _ ?_ ?_
      · refine Same.next ?_ (State.lopTickSample_same _) (by decide)
        refine Same.next ?_ (State.relEval_same _) (by decide)
        refine Same.next ?_ (State.latchImage_same _) (by decide)
        refine Same.next ?_ (State.channelEnables_same _) (by decide)
        refine Same.next ?_ (State.mfTick_same _) (by decide)
        refine Same.next ?_ (State.takeCanMail_same _) (by decide)
        refine Same.next ?_ (State.lopTickStart_same _) (by decide)
        refine Same.next ?_ (State.timTick_same _) (by decide)
        refine Same.next ?_ (State.channelGroups_same _) (by decide)
        exact Same.refl _ _
      · intro u a hu
        refine Same.next ?_ (State.mfStatus_same _ _) (by decide)
        assumption
    · intro u a hu
      refine Same.next ?_ (State.loopAnswer_same _ _) (by decide)
      assumption
  · intro u a hu
    refine Same.next ?_ (State.mfComplete_same _ _) (by decide)
    assumption

theorem State.updRegion_same (s : State) (n : Nat) (f : Region → Region) :
    Same 0x4 s (State.updRegion s n f) := by
  unfold State.updRegion
  refine Same.next ?_ Same.set_regions (by decide)
  exact Same.refl _ _

theorem State.dieFreeze_same (s : State) (d : Nat) :
    Same 0x380014 s (State.dieFreeze s d) := by
  unfold State.dieFreeze
  refine Same.next ?_ (State.updRegion_same _ _ _) (by decide)
  refine Same.fold _ ?_ ?_
  · refine Same.fold _ ?_ ?_
    · refine Same.fold _ ?_ ?_
      · exact Same.refl _ _
      · intro u a hu
        refine Same.ite ?_ ?_
        · refine Same.next ?_ (State.updPsw_same _ _ _) (by decide)
          assumption
        · assumption
    · intro u a hu
      refine Same.ite ?_ ?_
      · assumption
      · refine Same.next ?_ (State.vlvFreeze_same _ _ _) (by decide)
        assumption
  · intro u a hu
    refine Same.ite ?_ ?_
    · refine Same.next ?_ (State.updCol_same _ _ _) (by decide)
      assumption
    · assumption

theorem State.discard_same (s : State) (g : Nat) :
    Same 0x4000 s (State.discard s g) := by
  unfold State.discard
  refine Same.next ?_ Same.set_grp (by decide)
  exact Same.refl _ _

theorem State.updDbg_same (s : State) (f : DbgSt → DbgSt) :
    Same 0x400000000 s (State.updDbg s f) := by
  unfold State.updDbg
  refine Same.next ?_ Same.set_dbg (by decide)
  exact Same.refl _ _

theorem State.stopRegion_same (s : State) (n : Nat) :
    Same 0x400000004 s (State.stopRegion s n) := by
  unfold State.stopRegion
  conv => zeta
  split
  · refine Same.next ?_ (State.updRegion_same _ _ _) (by decide)
    exact Same.refl _ _
  · refine Same.next ?_ (State.updDbg_same _ _) (by decide)
    refine Same.next ?_ (State.updRegion_same _ _ _) (by decide)
    exact Same.refl _ _
  · exact Same.refl _ _

theorem State.enterFreeze_same (s : State) (mask : BitVec 6) :
    Same 0x3408b90014 s (State.enterFreeze s mask) := by
  unfold State.enterFreeze
  refine Same.next ?_ Same.set_bud_dbg (by decide)
  refine Same.ite ?_ ?_
  · refine Same.next ?_ (State.reSlew_same _ _ _) (by decide)
    refine Same.next ?_ (State.learnFreq_same _) (by decide)
    refine Same.fold _ ?_ ?_
    · refine Same.ite ?_ ?_
      · refine Same.next ?_ Same.set_flw (by decide)
        refine Same.fold _ ?_ ?_
        · refine Same.fold _ ?_ ?_
          · refine Same.ite ?_ ?_
            · exact Same.refl _ _
            · refine Same.fold _ ?_ ?_
              · exact Same.refl _ _
              · intro u a hu
                refine Same.next ?_ (State.send_same _ _) (by decide)
                assumption
          · intro u a hu
            refine Same.ite ?_ ?_
            · refine Same.next ?_ (State.dieFreeze_same _ _) (by decide)
              assumption
            · assumption
        · intro u a hu
          refine Same.ite ?_ ?_
          · refine Same.next ?_ (State.stopRegion_same _ _) (by decide)
            assumption
          · assumption
      · refine Same.fold _ ?_ ?_
        · refine Same.fold _ ?_ ?_
          · refine Same.ite ?_ ?_
            · exact Same.refl _ _
            · refine Same.fold _ ?_ ?_
              · exact Same.refl _ _
              · intro u a hu
                refine Same.next ?_ (State.send_same _ _) (by decide)
                assumption
          · intro u a hu
            refine Same.ite ?_ ?_
            · refine Same.next ?_ (State.dieFreeze_same _ _) (by decide)
              assumption
            · assumption
        · intro u a hu
          refine Same.ite ?_ ?_
          · refine Same.next ?_ (State.stopRegion_same _ _) (by decide)
            assumption
          · assumption
    · intro u a hu
      refine Same.next ?_ (State.endArming_same _ _) (by decide)
      assumption
  · refine Same.fold _ ?_ ?_
    · refine Same.ite ?_ ?_
      · refine Same.next ?_ Same.set_flw (by decide)
        refine Same.fold _ ?_ ?_
        · refine Same.fold _ ?_ ?_
          · refine Same.ite ?_ ?_
            · exact Same.refl _ _
            · refine Same.fold _ ?_ ?_
              · exact Same.refl _ _
              · intro u a hu
                refine Same.next ?_ (State.send_same _ _) (by decide)
                assumption
          · intro u a hu
            refine Same.ite ?_ ?_
            · refine Same.next ?_ (State.dieFreeze_same _ _) (by decide)
              assumption
            · assumption
        · intro u a hu
          refine Same.ite ?_ ?_
          · refine Same.next ?_ (State.stopRegion_same _ _) (by decide)
            assumption
          · assumption
      · refine Same.fold _ ?_ ?_
        · refine Same.fold _ ?_ ?_
          · refine Same.ite ?_ ?_
            · exact Same.refl _ _
            · refine Same.fold _ ?_ ?_
              · exact Same.refl _ _
              · intro u a hu
                refine Same.next ?_ (State.send_same _ _) (by decide)
                assumption
          · intro u a hu
            refine Same.ite ?_ ?_
            · refine Same.next ?_ (State.dieFreeze_same _ _) (by decide)
              assumption
            · assumption
        · intro u a hu
          refine Same.ite ?_ ?_
          · refine Same.next ?_ (State.stopRegion_same _ _) (by decide)
            assumption
          · assumption
    · intro u a hu
      refine Same.next ?_ (State.endArming_same _ _) (by decide)
      assumption

theorem State.ethWrite_same (s : State) (g : EthReg) (n : Nat) (v : Word) :
    Same 0x3180030000 s (State.ethWrite s g n v) := by
  unfold State.ethWrite
  conv => zeta
  split
  · refine Same.next ?_ (State.ethEnable_same _ _) (by decide)
    exact Same.refl _ _
  · refine Same.next ?_ (State.ethCntClear_same _ _) (by decide)
    exact Same.refl _ _
  · refine Same.next ?_ (State.plannedSwap_same _ _) (by decide)
    exact Same.refl _ _
  · refine Same.next ?_ (State.updPort_same _ _ _) (by decide)
    exact Same.refl _ _
  · refine Same.next ?_ (State.updPair_same _ _ _) (by decide)
    exact Same.refl _ _
  · exact Same.refl _ _

theorem State.updCore_same (s : State) (n : Nat) (f : CoreSt → CoreSt) :
    Same 0x40 s (State.updCore s n f) := by
  unfold State.updCore
  refine Same.next ?_ Same.set_boot (by decide)
  exact Same.refl _ _

theorem State.faultUnit_same (s : State) (u : UnitRef) (code : Byte) :
    Same 0x31c5bb0070 s (State.faultUnit s u code) := by
  unfold State.faultUnit
  conv => zeta
  split
  · refine Same.next ?_ (State.unitFault_same _ _ _ _) (by decide)
    refine Same.next ?_ (State.updCore_same _ _ _) (by decide)
    exact Same.refl _ _
  · refine Same.next ?_ (State.unitFault_same _ _ _ _) (by decide)
    refine Same.next ?_ (State.procDown_same _ _ _) (by decide)
    exact Same.refl _ _
  · refine Same.ite ?_ ?_
    · refine Same.next ?_ (State.slotFault_same _ _ _ _) (by decide)
      exact Same.refl _ _
    · refine Same.ite ?_ ?_
      · refine Same.next ?_ (State.updSlot_same _ _ _) (by decide)
        exact Same.refl _ _
      · refine Same.next ?_ (State.unitFault_same _ _ _ _) (by decide)
        refine Same.next ?_ (State.updSlot_same _ _ _) (by decide)
        exact Same.refl _ _
  · refine Same.next ?_ (State.unitFault_same _ _ _ _) (by decide)
    refine Same.next ?_ (State.updLs_same _ _ _) (by decide)
    exact Same.refl _ _
  · refine Same.next ?_ (State.unitFault_same _ _ _ _) (by decide)
    refine Same.next ?_ (State.updNch_same _ _ _) (by decide)
    refine Same.next ?_ (State.navRelease_same _ _) (by decide)
    exact Same.refl _ _
  · refine Same.next ?_ (State.unitFault_same _ _ _ _) (by decide)
    refine Same.next ?_ (State.updCam_same _ _ _) (by decide)
    refine Same.next ?_ (State.dropFrame_same _ _ _) (by decide)
    exact Same.refl _ _
  · refine Same.next ?_ (State.unitFault_same _ _ _ _) (by decide)
    refine Same.next ?_ (State.updPipe_same _ _ _) (by decide)
    conv => zeta
    split
    · refine Same.next ?_ (State.updCam_same _ _ _) (by decide)
      exact Same.refl _ _
    · exact Same.refl _ _
  · refine Same.next ?_ (State.unitFault_same _ _ _ _) (by decide)
    refine Same.next ?_ (State.updCc_same _ _ _) (by decide)
    exact Same.refl _ _
  · refine Same.next ?_ (State.unitFault_same _ _ _ _) (by decide)
    refine Same.next ?_ (State.updPort_same _ _ _) (by decide)
    exact Same.refl _ _
  · refine Same.ite ?_ ?_
    · refine Same.ite ?_ ?_
      · refine Same.next ?_ (State.updVlv_same _ _ _) (by decide)
        exact Same.refl _ _
      · refine Same.next ?_ (State.unitFault_same _ _ _ _) (by decide)
        refine Same.next ?_ (State.updVlv_same _ _ _) (by decide)
        exact Same.refl _ _
    · refine Same.next ?_ (State.vlvFault_same _ _ _) (by decide)
      exact Same.refl _ _
  · refine Same.next ?_ (State.pswFault_same _ _) (by decide)
    refine Same.next ?_ (State.updPsw_same _ _ _) (by decide)
    exact Same.refl _ _
  · refine Same.next ?_ (State.colFail_same _ _ _ _ _) (by decide)
    exact Same.refl _ _

theorem State.finPosClear_same (s : State) (m : Nat) :
    Same 0x400000 s (State.finPosClear s m) := by
  unfold State.finPosClear
  refine Same.next ?_ (State.updSns_same _ _) (by decide)
  exact Same.refl _ _

theorem State.firstTick_same (s : State) :
    Same 0x1000000001 s (State.firstTick s) := by
  unfold State.firstTick
  refine Same.next ?_ (State.reach_same _ _) (by decide)
  refine Same.next ?_ Same.set_clk_free (by decide)
  exact Same.refl _ _

theorem State.flwWrite_same (s : State) (g : FlwReg) (n : Nat) (v : Word) :
    Same 0x804000 s (State.flwWrite s g n v) := by
  unfold State.flwWrite
  conv => zeta
  split
  · refine Same.next ?_ (State.setShadow_same _ _ _) (by decide)
    exact Same.refl _ _
  · refine Same.next ?_ (State.calQueue_same _ _) (by decide)
    exact Same.refl _ _
  · refine Same.next ?_ (State.updFlw_same _ _) (by decide)
    exact Same.refl _ _
  · refine Same.next ?_ (State.updFlw_same _ _) (by decide)
    exact Same.refl _ _
  · refine Same.next ?_ (State.updFlw_same _ _) (by decide)
    exact Same.refl _ _
  · refine Same.next ?_ (State.updLs_same _ _ _) (by decide)
    exact Same.refl _ _
  · refine Same.next ?_ (State.lossCntClear_same _ _) (by decide)
    exact Same.refl _ _
  · refine Same.next ?_ (State.setShadow_same _ _ _) (by decide)
    exact Same.refl _ _
  · refine Same.next ?_ (State.setShadow_same _ _ _) (by decide)
    exact Same.refl _ _
  · exact Same.refl _ _

theorem State.freezeDue_same (s : State) :
    Same 0x3408b90014 s (State.freezeDue s) := by
  unfold State.freezeDue
  conv => zeta
  split
  · refine Same.ite ?_ ?_
    · refine Same.next ?_ (State.enterFreeze_same _ _) (by decide)
      exact Same.refl _ _
    · exact Same.refl _ _
  · exact Same.refl _ _

theorem State.freezeFirst_same (s : State) :
    Same 0x3408b90015 s (State.freezeFirst s) := by
  unfold State.freezeFirst
  conv => zeta
  split
  · refine Same.ite ?_ ?_
    · refine Same.next ?_ (State.freezeDue_same _) (by decide)
      refine Same.next ?_ (State.reach_same _ _) (by decide)
      exact Same.refl _ _
    · exact Same.refl _ _
  · exact Same.refl _ _

theorem State.hstWrite_same (s : State) (g : HstReg) (v : Word) :
    Same 0x10000 s (State.hstWrite s g v) := by
  unfold State.hstWrite
  conv => zeta
  split
  · refine Same.next ?_ Same.set_hst (by decide)
    exact Same.refl _ _
  · exact Same.refl _ _

theorem State.logTrim_same (s : State) (below : Nat) :
    Same 0x1000 s (State.logTrim s below) := by
  unfold State.logTrim
  refine Same.next ?_ Same.set_store (by decide)
  exact Same.refl _ _

theorem State.lopRead_same (s : State) (g : LopReg) (n : Nat) :
    Same 0x1000000 s (State.lopRead s g n).2 := by
  unfold State.lopRead
  conv => zeta
  split
  · refine Same.pair2 ?_
    refine Same.next ?_ Same.set_lop (by decide)
    exact Same.refl _ _
  · refine Same.pair2 ?_
    exact Same.refl _ _
  · refine Same.pair2 ?_
    exact Same.refl _ _
  · refine Same.pair2 ?_
    exact Same.refl _ _
  · refine Same.pair2 ?_
    exact Same.refl _ _
  · refine Same.pair2 ?_
    exact Same.refl _ _
  · refine Same.pair2 ?_
    exact Same.refl _ _
  · refine Same.pair2 ?_
    exact Same.refl _ _
  · refine Same.pair2 ?_
    exact Same.refl _ _
  · refine Same.pair2 ?_
    exact Same.refl _ _
  · refine Same.pair2 ?_
    exact Same.refl _ _
  · refine Same.pair2 ?_
    exact Same.refl _ _
  · refine Same.pair2 ?_
    exact Same.refl _ _
  · refine Same.pair2 ?_
    exact Same.refl _ _
  · refine Same.pair2 ?_
    exact Same.refl _ _

theorem State.lopWrite_same (s : State) (g : LopReg) (n : Nat) (v : Word) :
    Same 0x1004000 s (State.lopWrite s g n v) := by
  unfold State.lopWrite
  conv => zeta
  split
  · refine Same.next ?_ Same.set_lop (by decide)
    exact Same.refl _ _
  · refine Same.next ?_ (State.lopCntClear_same _ _ _) (by decide)
    exact Same.refl _ _
  · refine Same.next ?_ Same.set_lop (by decide)
    exact Same.refl _ _
  · refine Same.next ?_ (State.updProc_same _ _ _) (by decide)
    exact Same.refl _ _
  · refine Same.next ?_ (State.updSlot_same _ _ _) (by decide)
    exact Same.refl _ _
  · refine Same.next ?_ (State.setShadow_same _ _ _) (by decide)
    exact Same.refl _ _
  · refine Same.next ?_ (State.setShadow_same _ _ _) (by decide)
    exact Same.refl _ _
  · exact Same.refl _ _

theorem State.monitorTick_same (s : State) (m : SupplyIn) :
    Same 0x4000002 s (State.monitorTick s m) := by
  unfold State.monitorTick
  refine Same.next ?_ (State.supplyTick_same _) (by decide)
  refine Same.next ?_ (State.monitor_same _ _) (by decide)
  exact Same.refl _ _

theorem State.monitorOnly_same (s : State) (m : SupplyIn) :
    Same 0x4800003 s (State.monitorOnly s m) := by
  unfold State.monitorOnly
  refine Same.ite ?_ ?_
  · refine Same.next ?_ (State.monitor_same _ _) (by decide)
    exact Same.refl _ _
  · refine Same.ite ?_ ?_
    · refine Same.next ?_ (State.notchTick_same _) (by decide)
      refine Same.next ?_ (State.monitorTick_same _ _) (by decide)
      refine Same.next ?_ (State.reach_same _ _) (by decide)
      exact Same.refl _ _
    · refine Same.next ?_ (State.monitorTick_same _ _) (by decide)
      refine Same.next ?_ (State.reach_same _ _) (by decide)
      exact Same.refl _ _

theorem State.navWrite_same (s : State) (g : NavReg) (n : Nat) (v : Word) :
    Same 0x4004000 s (State.navWrite s g n v) := by
  unfold State.navWrite
  conv => zeta
  split
  · refine Same.next ?_ (State.navCtrl_same _ _) (by decide)
    exact Same.refl _ _
  · refine Same.next ?_ (State.updNav_same _ _) (by decide)
    exact Same.refl _ _
  · refine Same.next ?_ (State.setShadow_same _ _ _) (by decide)
    exact Same.refl _ _
  · refine Same.next ?_ (State.setShadow_same _ _ _) (by decide)
    exact Same.refl _ _
  · refine Same.next ?_ (State.updNav_same _ _) (by decide)
    exact Same.refl _ _
  · refine Same.next ?_ (State.updNav_same _ _) (by decide)
    exact Same.refl _ _
  · refine Same.next ?_ (State.updNav_same _ _) (by decide)
    exact Same.refl _ _
  · refine Same.next ?_ (State.navCntClear_same _ _ _) (by decide)
    exact Same.refl _ _
  · refine Same.next ?_ (State.updNch_same _ _ _) (by decide)
    exact Same.refl _ _
  · refine Same.next ?_ (State.updNch_same _ _ _) (by decide)
    exact Same.refl _ _
  · exact Same.refl _ _

theorem State.pkgTick_same (s : State) (d : Nat) :
    Same 0x30000b0000 s (State.pkgTick s d) := by
  unfold State.pkgTick
  refine Same.ite ?_ ?_
  · refine Same.next ?_ (State.notice_same _ _ _ _ _) (by decide)
    refine Same.next ?_ Same.set_psw (by decide)
    exact Same.refl _ _
  · refine Same.next ?_ Same.set_psw (by decide)
    exact Same.refl _ _

theorem State.prfWrite_same (s : State) (g : PrfReg) (n : Nat) (v : Word) :
    Same 0x2004000 s (State.prfWrite s g n v) := by
  unfold State.prfWrite
  conv => zeta
  split
  · refine Same.next ?_ (State.updPg_same _ _ _) (by decide)
    exact Same.refl _ _
  · refine Same.next ?_ (State.setShadow_same _ _ _) (by decide)
    exact Same.refl _ _
  · refine Same.next ?_ (State.updMf_same _ _ _) (by decide)
    exact Same.refl _ _
  · refine Same.next ?_ (State.mfCntClear_same _ _ _ _) (by decide)
    exact Same.refl _ _
  · refine Same.next ?_ (State.mfCntClear_same _ _ _ _) (by decide)
    exact Same.refl _ _
  · exact Same.refl _ _

theorem State.pswWrite_same (s : State) (g : PswReg) (n : Nat) (v : Word) :
    Same 0x30003b4030 s (State.pswWrite s g n v) := by
  unfold State.pswWrite
  conv => zeta
  split
  · refine Same.next ?_ Same.set_psw (by decide)
    exact Same.refl _ _
  · refine Same.next ?_ (State.pswCntClear_same _ _ _) (by decide)
    exact Same.refl _ _
  · conv => zeta
    split
    · refine Same.next ?_ (State.pswClear_same _ _) (by decide)
      exact Same.refl _ _
    · refine Same.next ?_ (State.pswClearLatch_same _ _) (by decide)
      exact Same.refl _ _
    · refine Same.next ?_ (State.pswRestart_same _ _) (by decide)
      exact Same.refl _ _
  · refine Same.next ?_ Same.set_psw (by decide)
    exact Same.refl _ _
  · refine Same.next ?_ Same.set_psw (by decide)
    exact Same.refl _ _
  · refine Same.next ?_ (State.updPsw_same _ _ _) (by decide)
    exact Same.refl _ _
  · refine Same.next ?_ (State.setShadow_same _ _ _) (by decide)
    exact Same.refl _ _
  · refine Same.next ?_ (State.setShadow_same _ _ _) (by decide)
    exact Same.refl _ _
  · refine Same.next ?_ (State.setShadow_same _ _ _) (by decide)
    exact Same.refl _ _
  · exact Same.refl _ _

theorem State.recPassed_same (s : State) :
    Same 0x20000 s (State.recPassed s) := by
  unfold State.recPassed
  refine Same.ite ?_ ?_
  · refine Same.next ?_ (State.updRec_same _ _) (by decide)
    exact Same.refl _ _
  · exact Same.refl _ _

theorem State.recWrite_same (s : State) (g : RecReg) (v : Word) :
    Same 0x20000 s (State.recWrite s g v) := by
  unfold State.recWrite
  conv => zeta
  split
  · refine Same.next ?_ (State.updRec_same _ _) (by decide)
    exact Same.refl _ _
  · refine Same.ite ?_ ?_
    · refine Same.next ?_ (State.updRec_same _ _) (by decide)
      exact Same.refl _ _
    · exact Same.refl _ _
  · refine Same.next ?_ (State.recPointer_same _ _) (by decide)
    exact Same.refl _ _
  · exact Same.refl _ _

theorem State.timLatch_same (s : State) :
    Same 0x8000000 s (State.timLatch s) := by
  unfold State.timLatch
  refine Same.next ?_ (State.updTim_same _ _) (by decide)
  exact Same.refl _ _

theorem State.timRead_same (s : State) (g : TimReg) (n : Nat) :
    Same 0x8000000 s (State.timRead s g n).2 := by
  unfold State.timRead
  conv => zeta
  split
  · refine Same.pair2 ?_
    exact Same.refl _ _
  · refine Same.pair2 ?_
    refine Same.next ?_ (State.timLatch_same _) (by decide)
    exact Same.refl _ _
  · refine Same.pair2 ?_
    exact Same.refl _ _
  · refine Same.pair2 ?_
    exact Same.refl _ _
  · refine Same.pair2 ?_
    exact Same.refl _ _
  · refine Same.pair2 ?_
    exact Same.refl _ _
  · refine Same.pair2 ?_
    exact Same.refl _ _
  · refine Same.pair2 ?_
    exact Same.refl _ _
  · refine Same.pair2 ?_
    exact Same.refl _ _
  · refine Same.pair2 ?_
    exact Same.refl _ _
  · refine Same.pair2 ?_
    exact Same.refl _ _
  · refine Same.pair2 ?_
    exact Same.refl _ _
  · refine Same.pair2 ?_
    exact Same.refl _ _
  · refine Same.pair2 ?_
    exact Same.refl _ _
  · refine Same.pair2 ?_
    exact Same.refl _ _

theorem State.visRead_same (s : State) (g : VisReg) (n : Nat) :
    Same 0x40000000 s (State.visRead s g n).2 := by
  unfold State.visRead
  conv => zeta
  split
  · refine Same.pair2 ?_
    exact Same.refl _ _
  · refine Same.pair2 ?_
    exact Same.refl _ _
  · refine Same.pair2 ?_
    exact Same.refl _ _
  · refine Same.pair2 ?_
    exact Same.refl _ _
  · refine Same.pair2 ?_
    exact Same.refl _ _
  · refine Same.pair2 ?_
    exact Same.refl _ _
  · refine Same.pair2 ?_
    exact Same.refl _ _
  · refine Same.pair2 ?_
    exact Same.refl _ _
  · refine Same.pair2 ?_
    exact Same.refl _ _
  · refine Same.pair2 ?_
    exact Same.refl _ _
  · refine Same.pair2 ?_
    exact Same.refl _ _
  · refine Same.pair2 ?_
    exact Same.refl _ _
  · refine Same.pair2 ?_
    refine Same.next ?_ (State.updVis_same _ _) (by decide)
    exact Same.refl _ _
  · refine Same.pair2 ?_
    exact Same.refl _ _
  · refine Same.pair2 ?_
    exact Same.refl _ _
  · refine Same.pair2 ?_
    exact Same.refl _ _
  · refine Same.pair2 ?_
    exact Same.refl _ _
  · refine Same.pair2 ?_
    exact Same.refl _ _
  · refine Same.pair2 ?_
    exact Same.refl _ _
  · refine Same.pair2 ?_
    exact Same.refl _ _

theorem State.regRead_same (s : State) (id : RegId) (n : Nat) :
    Same 0x49000000 s (State.regRead s id n).2 := by
  unfold State.regRead
  conv => zeta
  split
  · refine Same.pair2 ?_
    exact Same.refl _ _
  · refine Same.pair2 ?_
    exact Same.refl _ _
  · refine Same.pair2 ?_
    exact Same.refl _ _
  · refine Same.pair2 ?_
    exact Same.refl _ _
  · refine Same.next ?_ (State.lopRead_same _ _ _) (by decide)
    exact Same.refl _ _
  · refine Same.pair2 ?_
    exact Same.refl _ _
  · refine Same.pair2 ?_
    exact Same.refl _ _
  · refine Same.next ?_ (State.timRead_same _ _ _) (by decide)
    exact Same.refl _ _
  · refine Same.pair2 ?_
    exact Same.refl _ _
  · refine Same.pair2 ?_
    exact Same.refl _ _
  · refine Same.next ?_ (State.visRead_same _ _ _) (by decide)
    exact Same.refl _ _
  · refine Same.pair2 ?_
    exact Same.refl _ _
  · refine Same.pair2 ?_
    exact Same.refl _ _
  · refine Same.pair2 ?_
    exact Same.refl _ _
  · refine Same.pair2 ?_
    exact Same.refl _ _
  · refine Same.pair2 ?_
    exact Same.refl _ _
  · refine Same.pair2 ?_
    exact Same.refl _ _
  · refine Same.pair2 ?_
    exact Same.refl _ _
  · refine Same.pair2 ?_
    exact Same.refl _ _

theorem State.snsWrite_same (s : State) (g : SnsReg) (n : Nat) (v : Word) :
    Same 0x400000 s (State.snsWrite s g n v) := by
  unfold State.snsWrite
  conv => zeta
  split
  · refine Same.next ?_ (State.updSns_same _ _) (by decide)
    exact Same.refl _ _
  · refine Same.next ?_ (State.updSns_same _ _) (by decide)
    exact Same.refl _ _
  · refine Same.next ?_ (State.finPosClear_same _ _) (by decide)
    exact Same.refl _ _
  · refine Same.next ?_ (State.updSns_same _ _) (by decide)
    exact Same.refl _ _
  · refine Same.next ?_ (State.updSns_same _ _) (by decide)
    exact Same.refl _ _
  · exact Same.refl _ _

theorem State.strWrite_same (s : State) (g : StrReg) (n : Nat) (v : Word) :
    Same 0x10004000 s (State.strWrite s g n v) := by
  unfold State.strWrite
  conv => zeta
  split
  · refine Same.next ?_ (State.updStr_same _ _) (by decide)
    exact Same.refl _ _
  · refine Same.next ?_ (State.updStr_same _ _) (by decide)
    exact Same.refl _ _
  · refine Same.next ?_ (State.setShadow_same _ _ _) (by decide)
    exact Same.refl _ _
  · refine Same.next ?_ (State.setShadow_same _ _ _) (by decide)
    exact Same.refl _ _
  · refine Same.next ?_ (State.setShadow_same _ _ _) (by decide)
    exact Same.refl _ _
  · exact Same.refl _ _

theorem State.releaseWrite_same (s : State) (r : HostReq) (v : Word) :
    Same 0x40 s (State.releaseWrite s r v) := by
  unfold State.releaseWrite
  refine Same.next ?_ Same.set_boot (by decide)
  exact Same.refl _ _

theorem State.sysWrite_same (s : State) (r : HostReq) (g : SysReg) (n : Nat) (v : Word) :
    Same 0x21c7f9c06e s (State.sysWrite s r g n v) := by
  unfold State.sysWrite
  conv => zeta
  split
  · refine Same.next ?_ (State.updRegion_same _ _ _) (by decide)
    exact Same.refl _ _
  · refine Same.next ?_ (State.clusterReset_same _ _) (by decide)
    exact Same.refl _ _
  · refine Same.next ?_ Same.set_pwr (by decide)
    exact Same.refl _ _
  · refine Same.next ?_ (State.setShadow_same _ _ _) (by decide)
    exact Same.refl _ _
  · refine Same.next ?_ Same.set_wake (by decide)
    exact Same.refl _ _
  · refine Same.next ?_ (State.releaseWrite_same _ _ _) (by decide)
    exact Same.refl _ _
  · refine Same.next ?_ (State.updSm_same _ _ _) (by decide)
    exact Same.refl _ _
  · refine Same.next ?_ (State.smCommand_same _ _ _) (by decide)
    exact Same.refl _ _
  · exact Same.refl _ _

theorem State.timWrite_same (s : State) (g : TimReg) (v : Word) :
    Same 0x8000000 s (State.timWrite s g v) := by
  unfold State.timWrite
  conv => zeta
  split
  · refine Same.next ?_ (State.updTim_same _ _) (by decide)
    exact Same.refl _ _
  · exact Same.refl _ _

theorem State.updWrite_same (s : State) (g : UpdReg) (v : Word) :
    Same 0x200000000 s (State.updWrite s g v) := by
  unfold State.updWrite
  conv => zeta
  split
  · refine Same.ite ?_ ?_
    · refine Same.next ?_ (State.updUpd_same _ _) (by decide)
      exact Same.refl _ _
    · exact Same.refl _ _
  · exact Same.refl _ _

theorem State.visWrite_same (s : State) (g : VisReg) (n : Nat) (v : Word) :
    Same 0x2040004000 s (State.visWrite s g n v) := by
  unfold State.visWrite
  conv => zeta
  split
  · refine Same.next ?_ (State.camEnable_same _ _) (by decide)
    exact Same.refl _ _
  · refine Same.next ?_ (State.updCam_same _ _ _) (by decide)
    exact Same.refl _ _
  · refine Same.next ?_ (State.camCntClear_same _ _) (by decide)
    exact Same.refl _ _
  · refine Same.next ?_ (State.updPipe_same _ _ _) (by decide)
    exact Same.refl _ _
  · refine Same.ite ?_ ?_
    · refine Same.next ?_ (State.tapArm_same _ _ _ _) (by decide)
      exact Same.refl _ _
    · refine Same.next ?_ (State.tapDisarm_same _ _) (by decide)
      exact Same.refl _ _
  · refine Same.next ?_ (State.updPipe_same _ _ _) (by decide)
    exact Same.refl _ _
  · refine Same.next ?_ (State.windowLatch_same _ _) (by decide)
    exact Same.refl _ _
  · refine Same.next ?_ (State.updVis_same _ _) (by decide)
    exact Same.refl _ _
  · refine Same.next ?_ (State.setShadow_same _ _ _) (by decide)
    exact Same.refl _ _
  · refine Same.next ?_ (State.setShadow_same _ _ _) (by decide)
    exact Same.refl _ _
  · refine Same.next ?_ (State.setShadow_same _ _ _) (by decide)
    exact Same.refl _ _
  · refine Same.next ?_ (State.setShadow_same _ _ _) (by decide)
    exact Same.refl _ _
  · exact Same.refl _ _

theorem State.vlvWrite_same (s : State) (g : VlvReg) (n : Nat) (v : Word) :
    Same 0x104010 s (State.vlvWrite s g n v) := by
  unfold State.vlvWrite
  conv => zeta
  split
  · refine Same.next ?_ Same.set_vlv (by decide)
    exact Same.refl _ _
  · refine Same.next ?_ (State.vlvCntClear_same _ _ _) (by decide)
    exact Same.refl _ _
  · conv => zeta
    split
    · refine Same.next ?_ (State.vlvCmdRestart_same _ _) (by decide)
      exact Same.refl _ _
    · refine Same.next ?_ (State.vlvCmdClear_same _ _) (by decide)
      exact Same.refl _ _
    · refine Same.next ?_ (State.vlvCmdClearBank_same _ _) (by decide)
      exact Same.refl _ _
  · refine Same.next ?_ Same.set_vlv (by decide)
    exact Same.refl _ _
  · refine Same.next ?_ (State.updVlv_same _ _ _) (by decide)
    exact Same.refl _ _
  · refine Same.next ?_ Same.set_vlv (by decide)
    exact Same.refl _ _
  · refine Same.next ?_ (State.setShadow_same _ _ _) (by decide)
    exact Same.refl _ _
  · refine Same.next ?_ (State.setShadow_same _ _ _) (by decide)
    exact Same.refl _ _
  · exact Same.refl _ _

theorem State.tlgTrim_same (s : State) (below : Nat) :
    Same 0x1000 s (State.tlgTrim s below) := by
  unfold State.tlgTrim
  refine Same.next ?_ Same.set_store (by decide)
  exact Same.refl _ _

theorem State.yldWrite_same (s : State) (g : YldReg) (v : Word) :
    Same 0x20005000 s (State.yldWrite s g v) := by
  unfold State.yldWrite
  conv => zeta
  split
  · refine Same.next ?_ (State.updYld_same _ _) (by decide)
    exact Same.refl _ _
  · refine Same.next ?_ (State.updYld_same _ _) (by decide)
    exact Same.refl _ _
  · refine Same.ite ?_ ?_
    · refine Same.next ?_ (State.updYld_same _ _) (by decide)
      exact Same.refl _ _
    · refine Same.next ?_ (State.updYld_same _ _) (by decide)
      exact Same.refl _ _
  · refine Same.next ?_ (State.logTrim_same _ _) (by decide)
    exact Same.refl _ _
  · refine Same.next ?_ (State.tlgTrim_same _ _) (by decide)
    exact Same.refl _ _
  · refine Same.next ?_ (State.updYld_same _ _) (by decide)
    exact Same.refl _ _
  · refine Same.next ?_ (State.updYld_same _ _) (by decide)
    exact Same.refl _ _
  · refine Same.next ?_ (State.setShadow_same _ _ _) (by decide)
    exact Same.refl _ _
  · refine Same.next ?_ (State.setShadow_same _ _ _) (by decide)
    exact Same.refl _ _
  · refine Same.next ?_ (State.setShadow_same _ _ _) (by decide)
    exact Same.refl _ _
  · refine Same.next ?_ (State.setShadow_same _ _ _) (by decide)
    exact Same.refl _ _
  · exact Same.refl _ _

theorem State.regWrite_same (s : State) (r : HostReq) (id : RegId) (n : Nat) (v : Word) :
    Same 0x33fffbd07e s (State.regWrite s r id n v) := by
  unfold State.regWrite
  conv => zeta
  split
  · refine Same.next ?_ (State.sysWrite_same _ _ _ _ _) (by decide)
    exact Same.refl _ _
  · refine Same.next ?_ (State.hstWrite_same _ _ _) (by decide)
    exact Same.refl _ _
  · refine Same.next ?_ (State.snsWrite_same _ _ _ _) (by decide)
    exact Same.refl _ _
  · refine Same.next ?_ (State.flwWrite_same _ _ _ _) (by decide)
    exact Same.refl _ _
  · refine Same.next ?_ (State.lopWrite_same _ _ _ _) (by decide)
    exact Same.refl _ _
  · refine Same.next ?_ (State.prfWrite_same _ _ _ _) (by decide)
    exact Same.refl _ _
  · refine Same.next ?_ (State.navWrite_same _ _ _ _) (by decide)
    exact Same.refl _ _
  · refine Same.next ?_ (State.timWrite_same _ _ _) (by decide)
    exact Same.refl _ _
  · refine Same.next ?_ (State.strWrite_same _ _ _ _) (by decide)
    exact Same.refl _ _
  · refine Same.next ?_ (State.yldWrite_same _ _ _) (by decide)
    exact Same.refl _ _
  · refine Same.next ?_ (State.visWrite_same _ _ _ _) (by decide)
    exact Same.refl _ _
  · refine Same.next ?_ (State.vlvWrite_same _ _ _ _) (by decide)
    exact Same.refl _ _
  · refine Same.next ?_ (State.pswWrite_same _ _ _ _) (by decide)
    exact Same.refl _ _
  · refine Same.next ?_ (State.colWrite_same _ _ _ _) (by decide)
    exact Same.refl _ _
  · refine Same.next ?_ (State.canWrite_same _ _ _ _) (by decide)
    exact Same.refl _ _
  · refine Same.next ?_ (State.ethWrite_same _ _ _ _) (by decide)
    exact Same.refl _ _
  · refine Same.next ?_ (State.recWrite_same _ _ _) (by decide)
    exact Same.refl _ _
  · refine Same.next ?_ (State.updWrite_same _ _ _) (by decide)
    exact Same.refl _ _
  · exact Same.refl _ _

theorem State.safeBegin_same (s : State) :
    Same 0x30003b0070 s (State.safeBegin s) := by
  unfold State.safeBegin
  refine Same.ite ?_ ?_
  · exact Same.refl _ _
  · refine Same.fold _ ?_ ?_
    · refine Same.fold _ ?_ ?_
      · refine Same.next ?_ Same.set_boot (by decide)
        exact Same.refl _ _
      · intro u a hu
        refine Same.ite ?_ ?_
        · refine Same.next ?_ (State.vlvEnterSafe_same _ _ _) (by decide)
          assumption
        · assumption
    · intro u a hu
      refine Same.ite ?_ ?_
      · refine Same.next ?_ (State.colEnterSafe_same _ _ _) (by decide)
        assumption
      · assumption

theorem State.skipTicks_same (s : State) (n : Nat) :
    Same 0x1000011 s (State.skipTicks s n) := by
  unfold State.skipTicks
  refine Same.next ?_ Same.set_clk_bud_lop (by decide)
  exact Same.refl _ _

theorem State.slotTick_same (s : State) :
    Same 0x2000114010 s (State.slotTick s) := by
  unfold State.slotTick
  refine Same.ite ?_ ?_
  · refine Same.next ?_ (State.slotBoundary_same _) (by decide)
    exact Same.refl _ _
  · exact Same.refl _ _

theorem State.snapChecked_same (s : State) (g : Nat) (at_ : Opt) :
    Same 0x4000 s (State.snapChecked s g at_) := by
  unfold State.snapChecked
  refine Same.next ?_ Same.set_grp (by decide)
  exact Same.refl _ _

theorem State.staged1_same (s : State) (r : HostReq) (addr : Nat) (v : Word) :
    Same 0x33fffbd07e s (State.staged1 s r addr v) := by
  unfold State.staged1
  conv => zeta
  split
  · exact Same.refl _ _
  · refine Same.ite ?_ ?_
    · refine Same.next ?_ (State.regWrite_same _ _ _ _ _) (by decide)
      exact Same.refl _ _
    · exact Same.refl _ _

theorem State.thaw_same (s : State) :
    Same 0x1401020015 s (State.thaw s) := by
  unfold State.thaw
  refine Same.next ?_ Same.set_bud_dbg (by decide)
  refine Same.ite ?_ ?_
  · refine Same.next ?_ (State.recPassed_same _) (by decide)
    refine Same.ite ?_ ?_
    · refine Same.fold _ ?_ ?_
      · exact Same.refl _ _
      · intro u a hu
        refine Same.ite ?_ ?_
        · refine Same.next ?_ (State.updRegion_same _ _ _) (by decide)
          assumption
        · assumption
    · refine Same.ite ?_ ?_
      · refine Same.next ?_ (State.skipTicks_same _ _) (by decide)
        refine Same.fold _ ?_ ?_
        · exact Same.refl _ _
        · intro u a hu
          refine Same.ite ?_ ?_
          · refine Same.next ?_ (State.updRegion_same _ _ _) (by decide)
            assumption
          · assumption
      · refine Same.ite ?_ ?_
        · refine Same.fold _ ?_ ?_
          · exact Same.refl _ _
          · intro u a hu
            refine Same.ite ?_ ?_
            · refine Same.next ?_ (State.updRegion_same _ _ _) (by decide)
              assumption
            · assumption
        · refine Same.next ?_ (State.skipTicks_same _ _) (by decide)
          refine Same.next ?_ (State.firstTick_same _) (by decide)
          refine Same.fold _ ?_ ?_
          · exact Same.refl _ _
          · intro u a hu
            refine Same.ite ?_ ?_
            · refine Same.next ?_ (State.updRegion_same _ _ _) (by decide)
              assumption
            · assumption
  · refine Same.ite ?_ ?_
    · refine Same.fold _ ?_ ?_
      · exact Same.refl _ _
      · intro u a hu
        refine Same.ite ?_ ?_
        · refine Same.next ?_ (State.updRegion_same _ _ _) (by decide)
          assumption
        · assumption
    · refine Same.ite ?_ ?_
      · refine Same.next ?_ (State.skipTicks_same _ _) (by decide)
        refine Same.fold _ ?_ ?_
        · exact Same.refl _ _
        · intro u a hu
          refine Same.ite ?_ ?_
          · refine Same.next ?_ (State.updRegion_same _ _ _) (by decide)
            assumption
          · assumption
      · refine Same.ite ?_ ?_
        · refine Same.fold _ ?_ ?_
          · exact Same.refl _ _
          · intro u a hu
            refine Same.ite ?_ ?_
            · refine Same.next ?_ (State.updRegion_same _ _ _) (by decide)
              assumption
            · assumption
        · refine Same.next ?_ (State.skipTicks_same _ _) (by decide)
          refine Same.next ?_ (State.firstTick_same _) (by decide)
          refine Same.fold _ ?_ ?_
          · exact Same.refl _ _
          · intro u a hu
            refine Same.ite ?_ ?_
            · refine Same.next ?_ (State.updRegion_same _ _ _) (by decide)
              assumption
            · assumption

theorem State.tickInstant_same (s : State) :
    Same 0x1008010001 s (State.tickInstant s) := by
  unfold State.tickInstant
  refine Same.ite ?_ ?_
  · refine Same.next ?_ (State.firstTick_same _) (by decide)
    exact Same.refl _ _
  · refine Same.next ?_ (State.advanceTick_same _) (by decide)
    exact Same.refl _ _

theorem State.windowClose_same (s : State) (opt : Opt) (tick : Nat) :
    Same 0x3028c14800 s (State.windowClose s opt tick) := by
  unfold State.windowClose
  refine Same.ite ?_ ?_
  · refine Same.next ?_ (State.updYld_same _ _) (by decide)
    refine Same.next ?_ (State.updTim_same _ _) (by decide)
    refine Same.next ?_ (State.updSns_same _ _) (by decide)
    refine Same.next ?_ (State.flowClose_same _ _ _) (by decide)
    refine Same.ite ?_ ?_
    · refine Same.next ?_ (State.spectrumFrame_same _ _ _ _) (by decide)
      exact Same.refl _ _
    · exact Same.refl _ _
  · refine Same.next ?_ (State.updTim_same _ _) (by decide)
    refine Same.next ?_ (State.updSns_same _ _) (by decide)
    refine Same.next ?_ (State.flowClose_same _ _ _) (by decide)
    refine Same.ite ?_ ?_
    · refine Same.next ?_ (State.spectrumFrame_same _ _ _ _) (by decide)
      exact Same.refl _ _
    · exact Same.refl _ _

theorem State.writeAt_same (s : State) (r : HostReq) (addr : Nat) (v : Word) :
    Same 0x33fffbd07e s (State.writeAt s r addr v) := by
  unfold State.writeAt
  conv => zeta
  split
  · exact Same.refl _ _
  · refine Same.next ?_ (State.regWrite_same _ _ _ _ _) (by decide)
    exact Same.refl _ _

theorem State.writeAll_same (s : State) (r : HostReq) (l : List (Nat × Word)) :
    Same 0x33fffbd07e s (State.writeAll s r l) := by
  unfold State.writeAll
  refine Same.fold _ ?_ ?_
  · exact Same.refl _ _
  · intro u a hu
    refine Same.next ?_ (State.writeAt_same _ _ _ _) (by decide)
    assumption

theorem execBadMessage_same (m : BadMsgIn) (s : State) :
    Runs 0x2100010001 s (execBadMessage m s) := by
  unfold execBadMessage
  conv => zeta
  split
  · refine Runs.next ?_
    refine Same.ite ?_ ?_
    · refine Same.next ?_ (State.badMsg_same _) (by decide)
      refine Same.next ?_ (State.begin_same _ _) (by decide)
      exact Same.refl _ _
    · refine Same.next ?_ (State.begin_same _ _) (by decide)
      exact Same.refl _ _
  · refine Runs.next ?_
    refine Same.next ?_ (State.badMessage_same _ _ _ _ _) (by decide)
    exact Same.refl _ _

theorem execBye_same (r : HostReq) (s : State) :
    Runs 0x2100030001 s (execBye r s) := by
  unfold execBye
  refine Runs.next ?_
  refine controlOp_same (by decide) ?_
  intro u hu
  refine OpSame.wait ?_
  refine Same.next ?_ (State.endSession_same _ _) (by decide)
  refine Same.next ?_ (State.finish_same _ _ _ _ _) (by decide)
  assumption

theorem writeOp_same (r : HostReq) (l : List (Nat × Word)) (s : State) :
    OpSame 0x33fffbd07e s (writeOp r l s) := by
  unfold writeOp
  conv => zeta
  split
  · exact OpSame.refuse
  · refine OpSame.done ?_
    refine Same.next ?_ (State.writeAll_same _ _ _) (by decide)
    exact Same.refl _ _

theorem writeOne_same (r : HostReq) (addr : Nat) (v : Word) (s : State) :
    Same 0x33fffbd07f s (writeOne r addr v s) := by
  unfold writeOne
  refine hostOp_same (by decide) ?_
  intro u hu
  refine OpSame.next ?_ (writeOp_same _ _ _) (by decide)
  assumption

theorem execCableDelayWrite_same (r : HostReq) (v : Word) (s : State) :
    Runs 0x33fffbd07f s (execCableDelayWrite r v s) := by
  unfold execCableDelayWrite
  refine Runs.next ?_
  refine Same.next ?_ (writeOne_same _ _ _ _) (by decide)
  exact Same.refl _ _

theorem execCalAbort_same (r : HostReq) (v : Word) (s : State) :
    Runs 0x33fffbd07f s (execCalAbort r v s) := by
  unfold execCalAbort
  refine Runs.next ?_
  refine Same.next ?_ (writeOne_same _ _ _ _) (by decide)
  exact Same.refl _ _

theorem execCalEnter_same (r : HostReq) (v : Word) (s : State) :
    Runs 0x33fffbd07f s (execCalEnter r v s) := by
  unfold execCalEnter
  refine Runs.next ?_
  refine Same.next ?_ (writeOne_same _ _ _ _) (by decide)
  exact Same.refl _ _

theorem execCalStart_same (r : HostReq) (v : Word) (s : State) :
    Runs 0x33fffbd07f s (execCalStart r v s) := by
  unfold execCalStart
  refine Runs.next ?_
  refine Same.next ?_ (writeOne_same _ _ _ _) (by decide)
  exact Same.refl _ _

theorem execCalStop_same (r : HostReq) (v : Word) (s : State) :
    Runs 0x33fffbd07f s (execCalStop r v s) := by
  unfold execCalStop
  refine Runs.next ?_
  refine Same.next ?_ (writeOne_same _ _ _ _) (by decide)
  exact Same.refl _ _

theorem execCamCntClear_same (r : HostReq) (v : Word) (s : State) :
    Runs 0x33fffbd07f s (execCamCntClear r v s) := by
  unfold execCamCntClear
  refine Runs.next ?_
  refine Same.next ?_ (writeOne_same _ _ _ _) (by decide)
  exact Same.refl _ _

theorem execCamEnable_same (r : HostReq) (v : Word) (s : State) :
    Runs 0x33fffbd07f s (execCamEnable r v s) := by
  unfold execCamEnable
  refine Runs.next ?_
  refine Same.next ?_ (writeOne_same _ _ _ _) (by decide)
  exact Same.refl _ _

theorem execCanAbortAll_same (r : HostReq) (v : Word) (s : State) :
    Runs 0x33fffbd07f s (execCanAbortAll r v s) := by
  unfold execCanAbortAll
  refine Runs.next ?_
  refine Same.next ?_ (writeOne_same _ _ _ _) (by decide)
  exact Same.refl _ _

theorem execCanAbortTag_same (r : HostReq) (v : Word) (s : State) :
    Runs 0x33fffbd07f s (execCanAbortTag r v s) := by
  unfold execCanAbortTag
  refine Runs.next ?_
  refine Same.next ?_ (writeOne_same _ _ _ _) (by decide)
  exact Same.refl _ _

theorem execCanCntClear_same (r : HostReq) (v : Word) (s : State) :
    Runs 0x33fffbd07f s (execCanCntClear r v s) := by
  unfold execCanCntClear
  refine Runs.next ?_
  refine Same.next ?_ (writeOne_same _ _ _ _) (by decide)
  exact Same.refl _ _

theorem execCanDetect_same (r : HostReq) (v : Word) (s : State) :
    Runs 0x33fffbd07f s (execCanDetect r v s) := by
  unfold execCanDetect
  refine Runs.next ?_
  refine Same.next ?_ (writeOne_same _ _ _ _) (by decide)
  exact Same.refl _ _

theorem execCanEnableWrite_same (r : HostReq) (v : Word) (s : State) :
    Runs 0x33fffbd07f s (execCanEnableWrite r v s) := by
  unfold execCanEnableWrite
  refine Runs.next ?_
  refine Same.next ?_ (writeOne_same _ _ _ _) (by decide)
  exact Same.refl _ _

theorem execCanRecover_same (r : HostReq) (v : Word) (s : State) :
    Runs 0x33fffbd07f s (execCanRecover r v s) := by
  unfold execCanRecover
  refine Runs.next ?_
  refine Same.next ?_ (writeOne_same _ _ _ _) (by decide)
  exact Same.refl _ _

theorem execCanTxmSend_same (r : HostReq) (v : Word) (s : State) :
    Runs 0x33fffbd07f s (execCanTxmSend r v s) := by
  unfold execCanTxmSend
  refine Runs.next ?_
  refine Same.next ?_ (writeOne_same _ _ _ _) (by decide)
  exact Same.refl _ _

theorem execCanTxsSend_same (r : HostReq) (id : Word) (ctrl : Word) (data : List Word) (cmd : Word) (s : State) :
    Runs 0x33fffbd07f s (execCanTxsSend r id ctrl data cmd s) := by
  unfold execCanTxsSend
  refine Runs.next ?_
  refine hostOp_same (by decide) ?_
  intro u hu
  refine OpSame.next ?_ (writeOp_same _ _ _) (by decide)
  assumption

theorem execCanWindowLatch_same (r : HostReq) (v : Word) (s : State) :
    Runs 0x33fffbd07f s (execCanWindowLatch r v s) := by
  unfold execCanWindowLatch
  refine Runs.next ?_
  refine Same.next ?_ (writeOne_same _ _ _ _) (by decide)
  exact Same.refl _ _

theorem execClearRaster_same (r : HostReq) (v : Word) (s : State) :
    Runs 0x33fffbd07f s (execClearRaster r v s) := by
  unfold execClearRaster
  refine Runs.next ?_
  refine Same.next ?_ (writeOne_same _ _ _ _) (by decide)
  exact Same.refl _ _

theorem execClusterReset_same (r : HostReq) (v : Word) (s : State) :
    Runs 0x33fffbd07f s (execClusterReset r v s) := by
  unfold execClusterReset
  refine Runs.next ?_
  refine Same.next ?_ (writeOne_same _ _ _ _) (by decide)
  exact Same.refl _ _

theorem execClusterResetComplete_runs (o : Opt) (region : Fin 10) (cluster : Byte) (s : State) :
    Runs 0x8 (s.begin o) (execClusterResetComplete o region cluster s) := by
  unfold execClusterResetComplete
  refine Runs.ite ?_ ?_
  · refine Runs.next ?_
    exact Same.refl _ _
  · refine Runs.next ?_
    refine Same.next ?_ Same.set_clRst (by decide)
    exact Same.refl _ _

theorem execColdRestart_same (r : HostReq) (v : Word) (s : State) :
    Runs 0x33fffbd07f s (execColdRestart r v s) := by
  unfold execColdRestart
  refine Runs.next ?_
  refine Same.next ?_ (writeOne_same _ _ _ _) (by decide)
  exact Same.refl _ _

theorem execCommit_same (r : HostReq) (group : W16) (s : State) :
    Runs 0x2100014001 s (execCommit r group s) := by
  unfold execCommit
  refine Runs.next ?_
  refine hostOp_same (by decide) ?_
  intro u hu
  conv => zeta
  split
  · exact OpSame.refuse
  · conv => zeta
    split
    · exact OpSame.refuse
    · refine OpSame.ite ?_ ?_
      · exact OpSame.refuse
      · refine OpSame.wait ?_
        refine Same.next ?_ Same.set_grp (by decide)
        assumption

theorem execCommitApply_runs (group : W16) (s : State) :
    Runs 0x20e4814800 s.start (execCommitApply group s) := by
  unfold execCommitApply
  refine Runs.ite ?_ ?_
  · refine Runs.next ?_
    refine Same.next ?_ (State.boundaryOf_same _ _) (by decide)
    exact Same.refl _ _
  · refine Runs.next ?_
    exact Same.refl _ _

theorem execCommitCheckDone_runs (o : Opt) (group : W16) (s : State) :
    Runs 0x2000014000 (s.begin o) (execCommitCheckDone o group s) := by
  unfold execCommitCheckDone
  conv => zeta
  split
  · refine Runs.next ?_
    exact Same.refl _ _
  · refine Runs.ite ?_ ?_
    · refine Runs.next ?_
      exact Same.refl _ _
    · conv => zeta
      split
      · refine Runs.next ?_
        refine Same.next ?_ (State.withdrawSnap_same _ _ _ _) (by decide)
        exact Same.refl _ _
      · refine Runs.ite ?_ ?_
        · refine Runs.next ?_
          refine Same.next ?_ (State.applySnap_same _ _) (by decide)
          exact Same.refl _ _
        · refine Runs.next ?_
          refine Same.next ?_ (State.snapChecked_same _ _ _) (by decide)
          exact Same.refl _ _

theorem execCommitTimeout_runs (o : Opt) (group : W16) (s : State) :
    Runs 0x2000014000 (s.begin o) (execCommitTimeout o group s) := by
  unfold execCommitTimeout
  conv => zeta
  split
  · refine Runs.next ?_
    exact Same.refl _ _
  · refine Runs.ite ?_ ?_
    · refine Runs.next ?_
      exact Same.refl _ _
    · refine Runs.next ?_
      refine Same.next ?_ (State.withdrawSnap_same _ _ _ _) (by decide)
      exact Same.refl _ _

theorem execCoolingClear_same (r : HostReq) (v : Word) (s : State) :
    Runs 0x33fffbd07f s (execCoolingClear r v s) := by
  unfold execCoolingClear
  refine Runs.next ?_
  refine Same.next ?_ (writeOne_same _ _ _ _) (by decide)
  exact Same.refl _ _

theorem execCoolingCntClear_same (r : HostReq) (v : Word) (s : State) :
    Runs 0x33fffbd07f s (execCoolingCntClear r v s) := by
  unfold execCoolingCntClear
  refine Runs.next ?_
  refine Same.next ?_ (writeOne_same _ _ _ _) (by decide)
  exact Same.refl _ _

theorem execDieConfigReloaded_runs (o : Opt) (die : Fin 4) (s : State) :
    Runs 0x40004 (s.begin o) (execDieConfigReloaded o die s) := by
  unfold execDieConfigReloaded
  refine Runs.next ?_
  refine Same.ite ?_ ?_
  · refine Same.next ?_ (State.updDie_same _ _ _) (by decide)
    refine Same.next ?_ (State.updRegion_same _ _ _) (by decide)
    exact Same.refl _ _
  · exact Same.refl _ _

theorem execDieOvertemp_runs (o : Opt) (die : Fin 7) (temp : Int) (s : State) :
    Runs 0x3825bf1032 (s.begin o) (execDieOvertemp o die temp s) := by
  unfold execDieOvertemp
  refine Runs.next ?_
  refine Same.ite ?_ ?_
  · exact Same.refl _ _
  · refine Same.ite ?_ ?_
    · refine Same.ite ?_ ?_
      · refine Same.next ?_ (State.shutdown_same _ _) (by decide)
        exact Same.refl _ _
      · exact Same.refl _ _
    · refine Same.ite ?_ ?_
      · refine Same.next ?_ (State.send_same _ _) (by decide)
        refine Same.next ?_ (State.settleDie_same _ _ _) (by decide)
        refine Same.next ?_ (State.updDie_same _ _ _) (by decide)
        refine Same.next ?_ (State.updDie_same _ _ _) (by decide)
        exact Same.refl _ _
      · refine Same.next ?_ (State.updDie_same _ _ _) (by decide)
        exact Same.refl _ _

theorem execDieSupervisorReset_runs (o : Opt) (die : Fin 4) (s : State) :
    Runs 0x30003f0036 (s.begin o) (execDieSupervisorReset o die s) := by
  unfold execDieSupervisorReset
  refine Runs.next ?_
  refine Same.ite ?_ ?_
  · exact Same.refl _ _
  · refine Same.fold _ ?_ ?_
    · refine Same.fold _ ?_ ?_
      · refine Same.fold _ ?_ ?_
        · refine Same.next ?_ (State.updDie_same _ _ _) (by decide)
          refine Same.next ?_ (State.updRegion_same _ _ _) (by decide)
          refine Same.next ?_ Same.set_pwr (by decide)
          exact Same.refl _ _
        · intro u a hu
          refine Same.ite ?_ ?_
          · refine Same.next ?_ (State.pswDuty_same _ _) (by decide)
            refine Same.next ?_ (State.updPsw_same _ _ _) (by decide)
            refine Same.next ?_ (State.pswEnterSafe_same _ _) (by decide)
            assumption
          · assumption
      · intro u a hu
        refine Same.ite ?_ ?_
        · assumption
        · refine Same.next ?_ (State.vlvEnterSafe_same _ _ _) (by decide)
          refine Same.next ?_ Same.set_vlv (by decide)
          assumption
    · intro u a hu
      refine Same.ite ?_ ?_
      · refine Same.next ?_ (State.colEnterSafe_same _ _ _) (by decide)
        refine Same.next ?_ (State.updCol_same _ _ _) (by decide)
        assumption
      · assumption

theorem execDieTempRecovered_runs (o : Opt) (die : Fin 4) (temp : Int) (s : State) :
    Runs 0x40000 (s.begin o) (execDieTempRecovered o die temp s) := by
  unfold execDieTempRecovered
  refine Runs.next ?_
  refine Same.ite ?_ ?_
  · refine Same.next ?_ (State.updDie_same _ _ _) (by decide)
    refine Same.next ?_ (State.updDie_same _ _ _) (by decide)
    exact Same.refl _ _
  · refine Same.next ?_ (State.updDie_same _ _ _) (by decide)
    exact Same.refl _ _

theorem execDiscard_same (r : HostReq) (group : W16) (s : State) :
    Runs 0x2100014001 s (execDiscard r group s) := by
  unfold execDiscard
  refine Runs.next ?_
  refine hostOp_same (by decide) ?_
  intro u hu
  conv => zeta
  split
  · exact OpSame.refuse
  · refine OpSame.done ?_
    refine Same.next ?_ (State.discard_same _ _) (by decide)
    assumption

theorem execDisengage_same (r : HostReq) (v : Word) (s : State) :
    Runs 0x33fffbd07f s (execDisengage r v s) := by
  unfold execDisengage
  refine Runs.next ?_
  refine Same.next ?_ (writeOne_same _ _ _ _) (by decide)
  exact Same.refl _ _

theorem execDtlsClose_runs (o : Opt) (sess : Fin 8) (s : State) :
    Runs 0x2000030000 (s.begin o) (execDtlsClose o sess s) := by
  unfold execDtlsClose
  refine Runs.next ?_
  refine Same.ite ?_ ?_
  · refine Same.next ?_ (State.endSession_same _ _) (by decide)
    exact Same.refl _ _
  · exact Same.refl _ _

theorem execEngage_same (r : HostReq) (v : Word) (s : State) :
    Runs 0x33fffbd07f s (execEngage r v s) := by
  unfold execEngage
  refine Runs.next ?_
  refine Same.next ?_ (writeOne_same _ _ _ _) (by decide)
  exact Same.refl _ _

theorem execEthCntClear_same (r : HostReq) (v : Word) (s : State) :
    Runs 0x33fffbd07f s (execEthCntClear r v s) := by
  unfold execEthCntClear
  refine Runs.next ?_
  refine Same.next ?_ (writeOne_same _ _ _ _) (by decide)
  exact Same.refl _ _

theorem execFieldSelect_same (r : HostReq) (v : Word) (s : State) :
    Runs 0x33fffbd07f s (execFieldSelect r v s) := by
  unfold execFieldSelect
  refine Runs.next ?_
  refine Same.next ?_ (writeOne_same _ _ _ _) (by decide)
  exact Same.refl _ _

theorem execFinEdge_runs (o : Opt) (ch : Fin 24) (rising : Bool) (partnerEdge : Bool) (s : State) :
    Runs 0x400000 (s.begin o) (execFinEdge o ch rising partnerEdge s) := by
  unfold execFinEdge
  refine Runs.ite ?_ ?_
  · refine Runs.next ?_
    exact Same.refl _ _
  · refine Runs.ite ?_ ?_
    · refine Runs.next ?_
      refine Same.next ?_ (State.countEdge_same _ _ _ _) (by decide)
      exact Same.refl _ _
    · refine Runs.ite ?_ ?_
      · refine Runs.next ?_
        refine Same.next ?_ (State.updSns_same _ _) (by decide)
        refine Same.next ?_ (State.countEdge_same _ _ _ _) (by decide)
        refine Same.next ?_ (State.countEdge_same _ _ _ _) (by decide)
        exact Same.refl _ _
      · refine Runs.next ?_
        refine Same.next ?_ (State.updSns_same _ _) (by decide)
        refine Same.next ?_ (State.countEdge_same _ _ _ _) (by decide)
        exact Same.refl _ _

theorem execFinPosClear_same (r : HostReq) (v : Word) (s : State) :
    Runs 0x33fffbd07f s (execFinPosClear r v s) := by
  unfold execFinPosClear
  refine Runs.next ?_
  refine Same.next ?_ (writeOne_same _ _ _ _) (by decide)
  exact Same.refl _ _

theorem execFinZeroTimeout_runs (o : Opt) (ch : Fin 24) (s : State) :
    Runs 0x400000 (s.begin o) (execFinZeroTimeout o ch s) := by
  unfold execFinZeroTimeout
  refine Runs.ite ?_ ?_
  · refine Runs.next ?_
    exact Same.refl _ _
  · refine Runs.next ?_
    refine Same.next ?_ (State.updSns_same _ _) (by decide)
    exact Same.refl _ _

theorem execFreeze_same (r : HostReq) (mask : Byte) (s : State) :
    Runs 0x3508b90015 s (execFreeze r mask s) := by
  unfold execFreeze
  refine Runs.next ?_
  refine hostOp_same (by decide) ?_
  intro u hu
  refine OpSame.ite ?_ ?_
  · exact OpSame.refuse
  · refine OpSame.ite ?_ ?_
    · exact OpSame.refuse
    · refine OpSame.ite ?_ ?_
      · exact OpSame.refuse
      · refine OpSame.ite ?_ ?_
        · refine OpSame.done ?_
          refine Same.next ?_ (State.updDbg_same _ _) (by decide)
          assumption
        · refine OpSame.done ?_
          refine Same.next ?_ (State.enterFreeze_same _ _) (by decide)
          assumption

theorem execFreezeHoldExpiry_runs (o : Opt) (die : Fin 4) (s : State) :
    Runs 0x400380010 (s.begin o) (execFreezeHoldExpiry o die s) := by
  unfold execFreezeHoldExpiry
  refine Runs.next ?_
  refine Same.ite ?_ ?_
  · exact Same.refl _ _
  · refine Same.next ?_ (State.updDbg_same _ _) (by decide)
    refine Same.fold _ ?_ ?_
    · refine Same.fold _ ?_ ?_
      · refine Same.fold _ ?_ ?_
        · exact Same.refl _ _
        · intro u a hu
          refine Same.ite ?_ ?_
          · refine Same.next ?_ (State.updPsw_same _ _ _) (by decide)
            assumption
          · assumption
      · intro u a hu
        refine Same.ite ?_ ?_
        · refine Same.next ?_ (State.vlvFreeze_same _ _ _) (by decide)
          assumption
        · assumption
    · intro u a hu
      refine Same.ite ?_ ?_
      · refine Same.next ?_ (State.updCol_same _ _ _) (by decide)
        assumption
      · assumption

theorem execFreezeN_runs (o : Opt) (s : State) :
    Runs 0x3408b90014 (s.begin o) (execFreezeN o s) := by
  unfold execFreezeN
  refine Runs.next ?_
  refine Same.ite ?_ ?_
  · exact Same.refl _ _
  · refine Same.ite ?_ ?_
    · refine Same.next ?_ (State.enterFreeze_same _ _) (by decide)
      exact Same.refl _ _
    · refine Same.next ?_ (State.updDbg_same _ _) (by decide)
      exact Same.refl _ _

theorem execFreezeSupplyFail_runs (o : Opt) (m : SupplyIn) (s : State) :
    Runs 0x3c25bb1037 (s.begin o) (execFreezeSupplyFail o m s) := by
  unfold execFreezeSupplyFail
  refine Runs.next ?_
  refine Same.ite ?_ ?_
  · refine Same.next ?_ (State.shutdown_same _ _) (by decide)
    refine Same.next ?_ (State.thaw_same _) (by decide)
    refine Same.next ?_ (State.monitor_same _ _) (by decide)
    exact Same.refl _ _
  · refine Same.next ?_ (State.monitor_same _ _) (by decide)
    exact Same.refl _ _

theorem execHandshakeTimeout_runs (o : Opt) (id : Nat) (s : State) :
    Runs 0x10000 (s.begin o) (execHandshakeTimeout o id s) := by
  unfold execHandshakeTimeout
  refine Runs.next ?_
  conv => zeta
  split
  · refine Same.ite ?_ ?_
    · refine Same.next ?_ Same.set_hst (by decide)
      exact Same.refl _ _
    · exact Same.refl _ _
  · exact Same.refl _ _

theorem execHello_same (r : HostReq) (features : BitVec 256) (maxMsg : W16) (s : State) :
    Runs 0x2100030001 s (execHello r features maxMsg s) := by
  unfold execHello
  refine Runs.next ?_
  refine controlOp_same (by decide) ?_
  intro u hu
  refine OpSame.ite ?_ ?_
  · exact OpSame.refuse
  · refine OpSame.ite ?_ ?_
    · exact OpSame.refuse
    · refine OpSame.ite ?_ ?_
      · refine OpSame.wait ?_
        refine Same.next ?_ (State.endSession_same _ _) (by decide)
        refine Same.next ?_ (State.reply_same _ _ _ _ _ _) (by decide)
        assumption
      · refine OpSame.done ?_
        refine Same.next ?_ (State.updSess_same _ _ _) (by decide)
        assumption

theorem execHostReturn_runs (o : Opt) (s : State) :
    Runs 0x2210000 (s.begin o) (execHostReturn o s) := by
  unfold execHostReturn
  conv => zeta
  split
  · refine Runs.next ?_
    exact Same.refl _ _
  · refine Runs.ite ?_ ?_
    · refine Runs.next ?_
      exact Same.refl _ _
    · refine Runs.next ?_
      refine Same.next ?_ Same.set_prf (by decide)
      refine Same.next ?_ (State.colSheepdog_same _ _) (by decide)
      refine Same.next ?_ Same.set_hst (by decide)
      exact Same.refl _ _

theorem execHostSilenceExpiry_runs (o : Opt) (s : State) :
    Runs 0x30133b0000 (s.begin o) (execHostSilenceExpiry o s) := by
  unfold execHostSilenceExpiry
  refine Runs.ite ?_ ?_
  · refine Runs.next ?_
    exact Same.refl _ _
  · refine Runs.next ?_
    refine Same.next ?_ (State.notice_same _ _ _ _ _) (by decide)
    refine Same.next ?_ (State.hostAbsent_same _) (by decide)
    refine Same.next ?_ Same.set_hst (by decide)
    exact Same.refl _ _

theorem execIdleClose_runs (o : Opt) (sess : Fin 8) (s : State) :
    Runs 0x2000030000 (s.begin o) (execIdleClose o sess s) := by
  unfold execIdleClose
  refine Runs.next ?_
  refine Same.ite ?_ ?_
  · refine Same.next ?_ (State.endSession_same _ _) (by decide)
    exact Same.refl _ _
  · exact Same.refl _ _

theorem execImuSample_runs (o : Opt) (v : List F32) (ok : Bool) (s : State) :
    Runs 0x1000400004 (s.begin o) (execImuSample o v ok s) := by
  unfold execImuSample
  refine Runs.ite ?_ ?_
  · refine Runs.next ?_
    exact Same.refl _ _
  · refine Runs.ite ?_ ?_
    · refine Runs.next ?_
      refine Same.next ?_ (State.updSns_same _ _) (by decide)
      refine Same.next ?_ (State.fifoWrite_same _ _) (by decide)
      exact Same.refl _ _
    · refine Runs.next ?_
      refine Same.next ?_ (State.updSns_same _ _) (by decide)
      exact Same.refl _ _

theorem execImuTimeout_runs (o : Opt) (s : State) :
    Runs 0x400000 (s.begin o) (execImuTimeout o s) := by
  unfold execImuTimeout
  refine Runs.ite ?_ ?_
  · refine Runs.next ?_
    exact Same.refl _ _
  · refine Runs.next ?_
    refine Same.next ?_ (State.updSns_same _ _) (by decide)
    exact Same.refl _ _

theorem execInputImagePublish_runs (c : ConvIn) (s : State) :
    Runs 0x3028e14800 (s.begin c.opt) (execInputImagePublish c s) := by
  unfold execInputImagePublish
  conv => zeta
  split
  · refine Runs.next ?_
    exact Same.refl _ _
  · refine Runs.ite ?_ ?_
    · refine Runs.next ?_
      exact Same.refl _ _
    · refine Runs.ite ?_ ?_
      · refine Runs.next ?_
        refine Same.next ?_ (State.windowClose_same _ _ _) (by decide)
        refine Same.next ?_ (State.updSns_same _ _) (by decide)
        refine Same.next ?_ (State.convert_same _ _ _) (by decide)
        exact Same.refl _ _
      · refine Runs.next ?_
        refine Same.next ?_ (State.updSns_same _ _) (by decide)
        refine Same.next ?_ (State.convert_same _ _ _) (by decide)
        exact Same.refl _ _

theorem execLegacyDutyWrite_same (r : HostReq) (ch : Fin 48) (v : Word) (s : State) :
    Runs 0x33fffbd07f s (execLegacyDutyWrite r ch v s) := by
  unfold execLegacyDutyWrite
  refine Runs.next ?_
  refine Same.next ?_ (writeOne_same _ _ _ _) (by decide)
  exact Same.refl _ _

theorem execLinkWatchdogExpiry_runs (o : Opt) (die : Fin 4) (s : State) :
    Runs 0x30003f0030 (s.begin o) (execLinkWatchdogExpiry o die s) := by
  unfold execLinkWatchdogExpiry
  refine Runs.next ?_
  refine Same.ite ?_ ?_
  · refine Same.next ?_ (State.settleDie_same _ _ _) (by decide)
    refine Same.next ?_ (State.updDie_same _ _ _) (by decide)
    exact Same.refl _ _
  · exact Same.refl _ _

theorem execLogTrim_same (r : HostReq) (v : Word) (s : State) :
    Runs 0x33fffbd07f s (execLogTrim r v s) := by
  unfold execLogTrim
  refine Runs.next ?_
  refine Same.next ?_ (writeOne_same _ _ _ _) (by decide)
  exact Same.refl _ _

theorem execLoopCntClear_same (r : HostReq) (i : Fin 4) (v : Word) (s : State) :
    Runs 0x33fffbd07f s (execLoopCntClear r i v s) := by
  unfold execLoopCntClear
  refine Runs.next ?_
  refine Same.next ?_ (writeOne_same _ _ _ _) (by decide)
  exact Same.refl _ _

theorem execLossCntClear_same (r : HostReq) (v : Word) (s : State) :
    Runs 0x33fffbd07f s (execLossCntClear r v s) := by
  unfold execLossCntClear
  refine Runs.next ?_
  refine Same.next ?_ (writeOne_same _ _ _ _) (by decide)
  exact Same.refl _ _

theorem execMeasFramePublish_runs (o : Opt) (s : State) :
    Runs 0x3820c38004 (s.begin o) (execMeasFramePublish o s) := by
  unfold execMeasFramePublish
  conv => zeta
  split
  · refine Runs.next ?_
    exact Same.refl _ _
  · refine Runs.ite ?_ ?_
    · refine Runs.next ?_
      exact Same.refl _ _
    · refine Runs.next ?_
      refine Same.next ?_ (State.recSample_same _ _) (by decide)
      refine Same.next ?_ (State.smPushAll_same _ _) (by decide)
      refine Same.next ?_ (State.publish_same _ _ _ _ _ _) (by decide)
      refine Same.next ?_ (State.updSns_same _ _) (by decide)
      refine Same.next ?_ (State.flowPublish_same _) (by decide)
      refine Same.next ?_ (State.fifoWrite_same _ _) (by decide)
      refine Same.next ?_ (State.fifoWrite_same _ _) (by decide)
      exact Same.refl _ _

theorem execMemoryCorrectable_runs (o : Opt) (region : Fin 10) (s : State) :
    Runs 0x4 (s.begin o) (execMemoryCorrectable o region s) := by
  unfold execMemoryCorrectable
  refine Runs.next ?_
  refine Same.ite ?_ ?_
  · refine Same.next ?_ (State.updRegion_same _ _ _) (by decide)
    exact Same.refl _ _
  · exact Same.refl _ _

theorem execMemoryUncorrectable_runs (o : Opt) (w : MemOwner) (s : State) :
    Runs 0x3be5bb1076 (s.begin o) (execMemoryUncorrectable o w s) := by
  unfold execMemoryUncorrectable
  refine Runs.next ?_
  conv => zeta
  split
  · refine Same.ite ?_ ?_
    · refine Same.next ?_ (State.faultUnit_same _ _ _) (by decide)
      refine Same.next ?_ (State.updRegion_same _ _ _) (by decide)
      exact Same.refl _ _
    · exact Same.refl _ _
  · refine Same.ite ?_ ?_
    · exact Same.refl _ _
    · refine Same.ite ?_ ?_
      · refine Same.next ?_ (State.shutdown_same _ _) (by decide)
        refine Same.next ?_ Same.set_updt (by decide)
        refine Same.next ?_ (State.updRegion_same _ _ _) (by decide)
        exact Same.refl _ _
      · refine Same.next ?_ Same.set_boot (by decide)
        refine Same.next ?_ Same.set_updt (by decide)
        refine Same.next ?_ (State.updRegion_same _ _ _) (by decide)
        exact Same.refl _ _

theorem execMfCntClear_same (r : HostReq) (i : Fin 2) (v : Word) (s : State) :
    Runs 0x33fffbd07f s (execMfCntClear r i v s) := by
  unfold execMfCntClear
  refine Runs.next ?_
  refine Same.next ?_ (writeOne_same _ _ _ _) (by decide)
  exact Same.refl _ _

theorem execNavChCntClear_same (r : HostReq) (i : Fin 12) (v : Word) (s : State) :
    Runs 0x33fffbd07f s (execNavChCntClear r i v s) := by
  unfold execNavChCntClear
  refine Runs.next ?_
  refine Same.next ?_ (writeOne_same _ _ _ _) (by decide)
  exact Same.refl _ _

theorem execNonceExpiry_runs (o : Opt) (sess : Fin 8) (s : State) :
    Runs 0x10000 (s.begin o) (execNonceExpiry o sess s) := by
  unfold execNonceExpiry
  refine Runs.next ?_
  refine Same.next ?_ (State.updSess_same _ _ _) (by decide)
  exact Same.refl _ _

theorem execPairSwap_same (r : HostReq) (v : Word) (s : State) :
    Runs 0x33fffbd07f s (execPairSwap r v s) := by
  unfold execPairSwap
  refine Runs.next ?_
  refine Same.next ?_ (writeOne_same _ _ _ _) (by decide)
  exact Same.refl _ _

theorem execPing_same (r : HostReq) (s : State) :
    Runs 0x2100010001 s (execPing r s) := by
  unfold execPing
  refine Runs.next ?_
  refine controlOp_same (by decide) ?_
  intro u hu
  refine OpSame.done ?_
  assumption

theorem execPortEnableWrite_same (r : HostReq) (v : Word) (s : State) :
    Runs 0x33fffbd07f s (execPortEnableWrite r v s) := by
  unfold execPortEnableWrite
  refine Runs.next ?_
  refine Same.next ?_ (writeOne_same _ _ _ _) (by decide)
  exact Same.refl _ _

theorem execPowerLinkCommandFrame_runs (die : Fin 4) (s : State) :
    Runs 0x30003f0034 s.start (execPowerLinkCommandFrame die s) := by
  unfold execPowerLinkCommandFrame
  refine Runs.next ?_
  refine Same.ite ?_ ?_
  · exact Same.refl _ _
  · refine Same.fold _ ?_ ?_
    · refine Same.fold _ ?_ ?_
      · refine Same.fold _ ?_ ?_
        · refine Same.next ?_ (State.updDie_same _ _ _) (by decide)
          refine Same.ite ?_ ?_
          · refine Same.next ?_ (State.updRegion_same _ _ _) (by decide)
            exact Same.refl _ _
          · exact Same.refl _ _
        · intro u a hu
          refine Same.next ?_ (State.pswCommand_same _ _ _) (by decide)
          assumption
      · intro u a hu
        refine Same.next ?_ (State.vlvCommand_same _ _ _) (by decide)
        assumption
    · intro u a hu
      refine Same.next ?_ (State.colCommand_same _ _ _) (by decide)
      assumption

theorem execPowerLinkStatusFrame_runs (die : Fin 4) (f : DieStatus) (s : State) :
    Runs 0x30003f0002 s.start (execPowerLinkStatusFrame die f s) := by
  unfold execPowerLinkStatusFrame
  refine Runs.next ?_
  refine Same.ite ?_ ?_
  · exact Same.refl _ _
  · refine Same.next ?_ (State.pkgTick_same _ _) (by decide)
    refine Same.next ?_ Same.set_vlv (by decide)
    refine Same.fold _ ?_ ?_
    · refine Same.fold _ ?_ ?_
      · refine Same.fold _ ?_ ?_
        · refine Same.next ?_ (State.updDie_same _ _ _) (by decide)
          refine Same.next ?_ Same.set_pwr (by decide)
          refine Same.fold _ ?_ ?_
          · exact Same.refl _ _
          · intro u a hu
            refine Same.next ?_ (State.updCol_same _ _ _) (by decide)
            assumption
        · intro u a hu
          refine Same.next ?_ (State.updPsw_same _ _ _) (by decide)
          assumption
      · intro u a hu
        refine Same.next ?_ (State.updVlv_same _ _ _) (by decide)
        assumption
    · intro u a hu
      refine Same.next ?_ (State.bankRefresh_same _ _) (by decide)
      refine Same.next ?_ (State.updBank_same _ _ _) (by decide)
      assumption

theorem execPswClear_same (r : HostReq) (v : Word) (s : State) :
    Runs 0x33fffbd07f s (execPswClear r v s) := by
  unfold execPswClear
  refine Runs.next ?_
  refine Same.next ?_ (writeOne_same _ _ _ _) (by decide)
  exact Same.refl _ _

theorem execPswClearLatch_same (r : HostReq) (v : Word) (s : State) :
    Runs 0x33fffbd07f s (execPswClearLatch r v s) := by
  unfold execPswClearLatch
  refine Runs.next ?_
  refine Same.next ?_ (writeOne_same _ _ _ _) (by decide)
  exact Same.refl _ _

theorem execPswCntClear_same (r : HostReq) (i : Fin 2) (v : Word) (s : State) :
    Runs 0x33fffbd07f s (execPswCntClear r i v s) := by
  unfold execPswCntClear
  refine Runs.next ?_
  refine Same.next ?_ (writeOne_same _ _ _ _) (by decide)
  exact Same.refl _ _

theorem execPswRestart_same (r : HostReq) (v : Word) (s : State) :
    Runs 0x33fffbd07f s (execPswRestart r v s) := by
  unfold execPswRestart
  refine Runs.next ?_
  refine Same.next ?_ (writeOne_same _ _ _ _) (by decide)
  exact Same.refl _ _

theorem execRecCntClear_same (r : HostReq) (v : Word) (s : State) :
    Runs 0x33fffbd07f s (execRecCntClear r v s) := by
  unfold execRecCntClear
  refine Runs.next ?_
  refine Same.next ?_ (writeOne_same _ _ _ _) (by decide)
  exact Same.refl _ _

theorem execRecPointer_same (r : HostReq) (v : Word) (s : State) :
    Runs 0x33fffbd07f s (execRecPointer r v s) := by
  unfold execRecPointer
  refine Runs.next ?_
  refine Same.next ?_ (writeOne_same _ _ _ _) (by decide)
  exact Same.refl _ _

theorem readAll_same (s : State) (l : List Nat) : Same 0x49000000 s (readAll s l).2 := by
  induction l generalizing s with
  | nil => exact Same.refl _ _
  | cons a t ih =>
    unfold readAll
    split
    · exact ih s
    · exact ((Same.refl _ _).next (State.regRead_same _ _ _) (by decide)).next (ih _) (by decide)

theorem readOp_same (l : List Nat) (s : State) :
    OpSame 0x49000000 s (readOp l s) := by
  unfold readOp
  conv => zeta
  split
  · exact OpSame.refuse
  · refine OpSame.done ?_
    refine Same.next ?_ (readAll_same _ _) (by decide)
    exact Same.refl _ _

theorem execRegBatchRead_same (r : HostReq) (addrs : List Word) (s : State) :
    Runs 0x2149010001 s (execRegBatchRead r addrs s) := by
  unfold execRegBatchRead
  refine Runs.next ?_
  refine hostOp_same (by decide) ?_
  intro u hu
  refine OpSame.ite ?_ ?_
  · refine OpSame.next ?_ (readOp_same _ _) (by decide)
    assumption
  · exact OpSame.refuse

theorem execRegBatchWrite_same (r : HostReq) (pairs : List (Word × Word)) (s : State) :
    Runs 0x33fffbd07f s (execRegBatchWrite r pairs s) := by
  unfold execRegBatchWrite
  refine Runs.next ?_
  refine hostOp_same (by decide) ?_
  intro u hu
  refine OpSame.ite ?_ ?_
  · refine OpSame.next ?_ (writeOp_same _ _ _) (by decide)
    assumption
  · exact OpSame.refuse

theorem execRegModify_same (r : HostReq) (addr mask value : Word) (s : State) : Runs 0x33fffbd07f s (execRegModify r addr mask value s) := by
  unfold execRegModify
  refine Runs.next ?_
  refine Same.next (Same.refl _ _) (hostOp_same (m := 0x33fffbd07f) (by decide) ?_) (by decide)
  intro u hu
  split
  · exact OpSame.refuse
  · rename_i h _
    have k := OpSame.next hu (writeOp_same r [(addr.toNat, mergeWord (u.regOld addr.toNat h) mask value h.id.w1c)] u) (by decide)
    conv => zeta
    split
    · rename_i t pl e
      rw [e] at k
      exact k
    · exact k

theorem execRegRead_same (r : HostReq) (addr : Word) (count : W16) (s : State) :
    Runs 0x2149010001 s (execRegRead r addr count s) := by
  unfold execRegRead
  refine Runs.next ?_
  refine hostOp_same (by decide) ?_
  intro u hu
  refine OpSame.ite ?_ ?_
  · refine OpSame.next ?_ (readOp_same _ _) (by decide)
    assumption
  · exact OpSame.refuse

theorem execRegWrite_same (r : HostReq) (addr : Word) (values : List Word) (s : State) :
    Runs 0x33fffbd07f s (execRegWrite r addr values s) := by
  unfold execRegWrite
  refine Runs.next ?_
  refine hostOp_same (by decide) ?_
  intro u hu
  refine OpSame.ite ?_ ?_
  · refine OpSame.next ?_ (writeOp_same _ _ _) (by decide)
    assumption
  · exact OpSame.refuse

theorem execReleaseCmd_same (r : HostReq) (v : Word) (s : State) :
    Runs 0x33fffbd07f s (execReleaseCmd r v s) := by
  unfold execReleaseCmd
  refine Runs.next ?_
  refine Same.next ?_ (writeOne_same _ _ _ _) (by decide)
  exact Same.refl _ _

theorem execResetTotals_same (r : HostReq) (v : Word) (s : State) :
    Runs 0x33fffbd07f s (execResetTotals r v s) := by
  unfold execResetTotals
  refine Runs.next ?_
  refine Same.next ?_ (writeOne_same _ _ _ _) (by decide)
  exact Same.refl _ _

theorem execRingClose_same (r : HostReq) (ring : W16) (s : State) :
    Runs 0x2100010001 s (execRingClose r ring s) := by
  unfold execRingClose
  refine Runs.next ?_
  refine controlOp_same (by decide) ?_
  intro u hu
  refine OpSame.ite ?_ ?_
  · exact OpSame.refuse
  · refine OpSame.wait ?_
    refine Same.next ?_ (State.closeIfDone_same _ _) (by decide)
    refine Same.next ?_ (State.updSess_same _ _ _) (by decide)
    refine Same.next ?_ Same.set_hst (by decide)
    assumption

theorem execRingOpen_same (r : HostReq) (ring : W16) (mode : Byte) (limit : W16) (s : State) :
    Runs 0x2100010001 s (execRingOpen r ring mode limit s) := by
  unfold execRingOpen
  refine Runs.next ?_
  refine controlOp_same (by decide) ?_
  intro u hu
  refine OpSame.ite ?_ ?_
  · exact OpSame.refuse
  · refine OpSame.ite ?_ ?_
    · exact OpSame.refuse
    · conv => zeta
      split
      · exact OpSame.refuse
      · refine OpSame.done ?_
        refine Same.next ?_ Same.set_hst (by decide)
        assumption

theorem execSessionHandshake_runs (h : HandshakeIn) (s : State) :
    Runs 0x2000010000 (s.begin h.opt) (execSessionHandshake h s) := by
  unfold execSessionHandshake
  refine Runs.ite ?_ ?_
  · refine Runs.next ?_
    exact Same.refl _ _
  · refine Runs.ite ?_ ?_
    · refine Runs.next ?_
      refine Same.ite ?_ ?_
      · exact Same.refl _ _
      · refine Same.next ?_ (State.send_same _ _) (by decide)
        refine Same.next ?_ Same.set_hst (by decide)
        exact Same.refl _ _
    · refine Runs.ite ?_ ?_
      · refine Runs.next ?_
        exact Same.refl _ _
      · conv => zeta
        split
        · refine Runs.next ?_
          refine Same.next ?_ (State.updSess_same _ _ _) (by decide)
          refine Same.next ?_ Same.set_hst (by decide)
          refine Same.ite ?_ ?_
          · exact Same.refl _ _
          · refine Same.next ?_ (State.send_same _ _) (by decide)
            exact Same.refl _ _
        · refine Runs.next ?_
          refine Same.next ?_ Same.set_hst (by decide)
          refine Same.next ?_ Same.set_hst (by decide)
          refine Same.ite ?_ ?_
          · exact Same.refl _ _
          · refine Same.next ?_ (State.send_same _ _) (by decide)
            exact Same.refl _ _

theorem execShadowRead_same (r : HostReq) (group : W16) (s : State) :
    Runs 0x2100010001 s (execShadowRead r group s) := by
  unfold execShadowRead
  refine Runs.next ?_
  refine hostOp_same (by decide) ?_
  intro u hu
  conv => zeta
  split
  · exact OpSame.refuse
  · refine OpSame.ite ?_ ?_
    · exact OpSame.refuse
    · refine OpSame.done ?_
      assumption

theorem execShuntDisconnect_runs (o : Opt) (ch : Fin 24) (s : State) :
    Runs 0x400000 (s.begin o) (execShuntDisconnect o ch s) := by
  unfold execShuntDisconnect
  refine Runs.ite ?_ ?_
  · refine Runs.next ?_
    exact Same.refl _ _
  · refine Runs.next ?_
    refine Same.next ?_ (State.updSns_same _ _) (by decide)
    exact Same.refl _ _

theorem execShuntReconnect_runs (o : Opt) (ch : Fin 24) (s : State) :
    Runs 0x400000 (s.begin o) (execShuntReconnect o ch s) := by
  unfold execShuntReconnect
  conv => zeta
  split
  · refine Runs.ite ?_ ?_
    · refine Runs.next ?_
      refine Same.next ?_ (State.updSns_same _ _) (by decide)
      exact Same.refl _ _
    · refine Runs.next ?_
      exact Same.refl _ _
  · refine Runs.next ?_
    exact Same.refl _ _

theorem execSmEvent_same (r : HostReq) (v : Word) (s : State) :
    Runs 0x33fffbd07f s (execSmEvent r v s) := by
  unfold execSmEvent
  refine Runs.next ?_
  refine Same.next ?_ (writeOne_same _ _ _ _) (by decide)
  exact Same.refl _ _

theorem execSubscribe_same (r : HostReq) (stream : Byte) (env : Byte) (decim : W16) (inst : W16) (s : State) :
    Runs 0x2100010001 s (execSubscribe r stream env decim inst s) := by
  unfold execSubscribe
  refine Runs.next ?_
  refine hostOp_same (by decide) ?_
  intro u hu
  refine OpSame.ite ?_ ?_
  · exact OpSame.refuse
  · refine OpSame.ite ?_ ?_
    · exact OpSame.refuse
    · refine OpSame.ite ?_ ?_
      · exact OpSame.refuse
      · refine OpSame.ite ?_ ?_
        · exact OpSame.refuse
        · refine OpSame.done ?_
          refine Same.next ?_ Same.set_hst (by decide)
          assumption

theorem execSup5Retry_runs (o : Opt) (ch : Fin 4) (s : State) :
    Runs 0x400000 (s.begin o) (execSup5Retry o ch s) := by
  unfold execSup5Retry
  refine Runs.ite ?_ ?_
  · refine Runs.next ?_
    refine Same.next ?_ (State.updSns_same _ _) (by decide)
    exact Same.refl _ _
  · refine Runs.next ?_
    exact Same.refl _ _

theorem execSup5Trip_runs (o : Opt) (ch : Fin 4) (s : State) :
    Runs 0x400000 (s.begin o) (execSup5Trip o ch s) := by
  unfold execSup5Trip
  refine Runs.ite ?_ ?_
  · refine Runs.next ?_
    exact Same.refl _ _
  · refine Runs.next ?_
    refine Same.next ?_ (State.updSns_same _ _) (by decide)
    exact Same.refl _ _

theorem execTableDirRead_same (r : HostReq) (first : W16) (count : W16) (s : State) :
    Runs 0x2100010001 s (execTableDirRead r first count s) := by
  unfold execTableDirRead
  refine Runs.next ?_
  refine hostOp_same (by decide) ?_
  intro u hu
  refine OpSame.ite ?_ ?_
  · exact OpSame.refuse
  · refine OpSame.ite ?_ ?_
    · exact OpSame.refuse
    · refine OpSame.done ?_
      assumption

theorem execTableRead_same (r : HostReq) (table : W16) (offset : Word) (len : Word) (s : State) :
    Runs 0x2100010001 s (execTableRead r table offset len s) := by
  unfold execTableRead
  refine Runs.next ?_
  refine hostOp_same (by decide) ?_
  intro u hu
  conv => zeta
  split
  · exact OpSame.refuse
  · refine OpSame.ite ?_ ?_
    · exact OpSame.refuse
    · refine OpSame.done ?_
      assumption

theorem execTapArm_same (r : HostReq) (pipe : Fin 2) (v : Word) (s : State) :
    Runs 0x33fffbd07f s (execTapArm r pipe v s) := by
  unfold execTapArm
  refine Runs.next ?_
  refine Same.next ?_ (writeOne_same _ _ _ _) (by decide)
  exact Same.refl _ _

theorem execTapBypass_runs (s : State) :
    Runs 0x2400000000 s.start (execTapBypass s) := by
  unfold execTapBypass
  refine Runs.next ?_
  refine Same.ite ?_ ?_
  · refine Same.next ?_ (State.send_same _ _) (by decide)
    refine Same.next ?_ (State.updDbg_same _ _) (by decide)
    exact Same.refl _ _
  · exact Same.refl _ _

theorem execTapChain_runs (s : State) :
    Runs 0x2400000000 s.start (execTapChain s) := by
  unfold execTapChain
  refine Runs.ite ?_ ?_
  · refine Runs.next ?_
    exact Same.refl _ _
  · refine Runs.next ?_
    refine Same.next ?_ (State.send_same _ _) (by decide)
    refine Same.next ?_ (State.updDbg_same _ _) (by decide)
    exact Same.refl _ _

theorem execTapDisarm_same (r : HostReq) (pipe : Fin 2) (v : Word) (s : State) :
    Runs 0x33fffbd07f s (execTapDisarm r pipe v s) := by
  unfold execTapDisarm
  refine Runs.next ?_
  refine Same.next ?_ (writeOne_same _ _ _ _) (by decide)
  exact Same.refl _ _

theorem execTapIdcode_runs (s : State) :
    Runs 0x2400000000 s.start (execTapIdcode s) := by
  unfold execTapIdcode
  refine Runs.next ?_
  refine Same.ite ?_ ?_
  · refine Same.next ?_ (State.send_same _ _) (by decide)
    refine Same.next ?_ (State.updDbg_same _ _) (by decide)
    exact Same.refl _ _
  · exact Same.refl _ _

theorem execTapMaddr_runs (v : Word) (s : State) :
    Runs 0x400000000 s.start (execTapMaddr v s) := by
  unfold execTapMaddr
  refine Runs.next ?_
  refine Same.ite ?_ ?_
  · refine Same.next ?_ (State.updDbg_same _ _) (by decide)
    exact Same.refl _ _
  · exact Same.refl _ _

theorem execTapMdata_runs (s : State) :
    Runs 0x2400000000 s.start (execTapMdata s) := by
  unfold execTapMdata
  refine Runs.ite ?_ ?_
  · refine Runs.next ?_
    exact Same.refl _ _
  · refine Runs.ite ?_ ?_
    · refine Runs.next ?_
      refine Same.next ?_ (State.send_same _ _) (by decide)
      refine Same.next ?_ (State.updDbg_same _ _) (by decide)
      exact Same.refl _ _
    · refine Runs.next ?_
      refine Same.next ?_ (State.send_same _ _) (by decide)
      refine Same.next ?_ (State.updDbg_same _ _) (by decide)
      exact Same.refl _ _

theorem execTapReset_runs (o : Opt) (p : PowerIn) (s : State) :
    Runs 0x3fffffebff (s.begin o) (execTapReset o p s) := by
  unfold execTapReset
  refine Runs.next ?_
  refine Same.ite ?_ ?_
  · refine Same.next ?_ (State.updDbg_same _ _) (by decide)
    exact Same.refl _ _
  · refine Same.next ?_ (State.powerUp_same _ _) (by decide)
    refine Same.next ?_ (State.send_same _ _) (by decide)
    refine Same.next ?_ (State.writeReason_same _ _) (by decide)
    exact Same.refl _ _

theorem execTapSel_runs (v : Word) (s : State) :
    Runs 0x400000000 s.start (execTapSel v s) := by
  unfold execTapSel
  refine Runs.next ?_
  refine Same.ite ?_ ?_
  · refine Same.next ?_ (State.updDbg_same _ _) (by decide)
    exact Same.refl _ _
  · exact Same.refl _ _

theorem execTapThaw_runs (o : Opt) (s : State) :
    Runs 0x1401020015 (s.begin o) (execTapThaw o s) := by
  unfold execTapThaw
  refine Runs.next ?_
  refine Same.ite ?_ ?_
  · refine Same.next ?_ (State.thaw_same _) (by decide)
    refine Same.next ?_ (State.updDbg_same _ _) (by decide)
    exact Same.refl _ _
  · refine Same.next ?_ (State.updDbg_same _ _) (by decide)
    exact Same.refl _ _

theorem execTapTrst_runs (s : State) :
    Runs 0x400000000 s.start (execTapTrst s) := by
  unfold execTapTrst
  refine Runs.next ?_
  refine Same.next ?_ (State.updDbg_same _ _) (by decide)
  exact Same.refl _ _

theorem execTare_same (r : HostReq) (v : Word) (s : State) :
    Runs 0x33fffbd07f s (execTare r v s) := by
  unfold execTare
  refine Runs.next ?_
  refine Same.next ?_ (writeOne_same _ _ _ _) (by decide)
  exact Same.refl _ _

theorem execTestStall_same (r : HostReq) (v : Word) (s : State) :
    Runs 0x33fffbd07f s (execTestStall r v s) := by
  unfold execTestStall
  refine Runs.next ?_
  refine Same.next ?_ (writeOne_same _ _ _ _) (by decide)
  exact Same.refl _ _

theorem execThaw_same (r : HostReq) (s : State) :
    Runs 0x3501030015 s (execThaw r s) := by
  unfold execThaw
  refine Runs.next ?_
  refine hostOp_same (by decide) ?_
  intro u hu
  refine OpSame.ite ?_ ?_
  · exact OpSame.refuse
  · refine OpSame.done ?_
    refine Same.next ?_ (State.thaw_same _) (by decide)
    assumption

theorem readOne_same (r : HostReq) (addr : Nat) (s : State) :
    Same 0x2149010001 s (readOne r addr s) := by
  unfold readOne
  refine hostOp_same (by decide) ?_
  intro u hu
  refine OpSame.next ?_ (readOp_same _ _) (by decide)
  assumption

theorem execTickLatch_same (r : HostReq) (s : State) :
    Runs 0x2149010001 s (execTickLatch r s) := by
  unfold execTickLatch
  refine Runs.next ?_
  refine Same.next ?_ (readOne_same _ _ _) (by decide)
  exact Same.refl _ _

theorem execTickStart_runs (m : SupplyIn) (s : State) :
    Runs 0x34affb4077 s.start (execTickStart m s) := by
  unfold execTickStart
  refine Runs.ite ?_ ?_
  · refine Runs.next ?_
    refine Same.next ?_ (State.monitorOnly_same _ _) (by decide)
    refine Same.next ?_ (State.freezeFirst_same _) (by decide)
    exact Same.refl _ _
  · refine Runs.ite ?_ ?_
    · refine Runs.next ?_
      refine Same.next ?_ (State.ctlTick_same _) (by decide)
      refine Same.next ?_ (State.safeBegin_same _) (by decide)
      refine Same.next ?_ (State.slotTick_same _) (by decide)
      refine Same.next ?_ (State.monitorTick_same _ _) (by decide)
      refine Same.next ?_ (State.tickInstant_same _) (by decide)
      refine Same.next ?_ (State.freezeFirst_same _) (by decide)
      exact Same.refl _ _
    · refine Runs.next ?_
      refine Same.ite ?_ ?_
      · refine Same.next ?_ (State.notchTick_same _) (by decide)
        refine Same.next ?_ (State.wakeTick_same _) (by decide)
        refine Same.next ?_ (State.slotTick_same _) (by decide)
        refine Same.next ?_ (State.monitorTick_same _ _) (by decide)
        refine Same.next ?_ (State.tickInstant_same _) (by decide)
        refine Same.next ?_ (State.freezeFirst_same _) (by decide)
        exact Same.refl _ _
      · refine Same.next ?_ (State.wakeTick_same _) (by decide)
        refine Same.next ?_ (State.slotTick_same _) (by decide)
        refine Same.next ?_ (State.monitorTick_same _ _) (by decide)
        refine Same.next ?_ (State.tickInstant_same _) (by decide)
        refine Same.next ?_ (State.freezeFirst_same _) (by decide)
        exact Same.refl _ _

theorem execTimOptLatch_same (r : HostReq) (s : State) :
    Runs 0x2149010001 s (execTimOptLatch r s) := by
  unfold execTimOptLatch
  refine Runs.next ?_
  refine Same.next ?_ (readOne_same _ _ _) (by decide)
  exact Same.refl _ _

theorem execTlgTrim_same (r : HostReq) (v : Word) (s : State) :
    Runs 0x33fffbd07f s (execTlgTrim r v s) := by
  unfold execTlgTrim
  refine Runs.next ?_
  refine Same.next ?_ (writeOne_same _ _ _ _) (by decide)
  exact Same.refl _ _

theorem execTokenChallenge_same (r : HostReq) (s : State) :
    Runs 0x2100010001 s (execTokenChallenge r s) := by
  unfold execTokenChallenge
  refine Runs.next ?_
  refine hostOp_same (by decide) ?_
  intro u hu
  refine OpSame.done ?_
  refine Same.next ?_ (State.updSess_same _ _ _) (by decide)
  refine Same.next ?_ Same.set_hst (by decide)
  assumption

theorem execTokenGrantExpiry_runs (o : Opt) (sess : Fin 8) (s : State) :
    Runs 0x10000 (s.begin o) (execTokenGrantExpiry o sess s) := by
  unfold execTokenGrantExpiry
  refine Runs.next ?_
  refine Same.next ?_ (State.updSess_same _ _ _) (by decide)
  exact Same.refl _ _

theorem execTokenPresent_same (r : HostReq) (token : List Byte) (chainOk : Bool) (s : State) :
    Runs 0x2100010081 s (execTokenPresent r token chainOk s) := by
  unfold execTokenPresent
  refine Runs.next ?_
  refine hostOp_same (by decide) ?_
  intro u hu
  refine OpSame.ite ?_ ?_
  · exact OpSame.refuse
  · conv => zeta
    split
    · exact OpSame.refuse
    · refine OpSame.ite ?_ ?_
      · exact OpSame.refuse
      · refine OpSame.ite ?_ ?_
        · refine OpSame.wait ?_
          refine Same.next ?_ (State.complete_same _ _ _ _) (by decide)
          refine Same.next ?_ (State.updSess_same _ _ _) (by decide)
          assumption
        · refine OpSame.done ?_
          refine Same.ite ?_ ?_
          · refine Same.next ?_ Same.set_flash (by decide)
            refine Same.next ?_ (State.updSess_same _ _ _) (by decide)
            refine Same.next ?_ (State.updSess_same _ _ _) (by decide)
            assumption
          · refine Same.next ?_ (State.updSess_same _ _ _) (by decide)
            refine Same.next ?_ (State.updSess_same _ _ _) (by decide)
            assumption

theorem execUnsubscribe_same (r : HostReq) (sub : W16) (s : State) :
    Runs 0x2100010001 s (execUnsubscribe r sub s) := by
  unfold execUnsubscribe
  refine Runs.next ?_
  refine hostOp_same (by decide) ?_
  intro u hu
  refine OpSame.ite ?_ ?_
  · refine OpSame.done ?_
    refine Same.next ?_ Same.set_hst (by decide)
    assumption
  · exact OpSame.refuse

theorem execUpdCntClear_same (r : HostReq) (v : Word) (s : State) :
    Runs 0x33fffbd07f s (execUpdCntClear r v s) := by
  unfold execUpdCntClear
  refine Runs.next ?_
  refine Same.next ?_ (writeOne_same _ _ _ _) (by decide)
  exact Same.refl _ _

theorem execValveClear_same (r : HostReq) (v : Word) (s : State) :
    Runs 0x33fffbd07f s (execValveClear r v s) := by
  unfold execValveClear
  refine Runs.next ?_
  refine Same.next ?_ (writeOne_same _ _ _ _) (by decide)
  exact Same.refl _ _

theorem execValveClearBank_same (r : HostReq) (v : Word) (s : State) :
    Runs 0x33fffbd07f s (execValveClearBank r v s) := by
  unfold execValveClearBank
  refine Runs.next ?_
  refine Same.next ?_ (writeOne_same _ _ _ _) (by decide)
  exact Same.refl _ _

theorem execValveCntClear_same (r : HostReq) (i : Fin 2) (v : Word) (s : State) :
    Runs 0x33fffbd07f s (execValveCntClear r i v s) := by
  unfold execValveCntClear
  refine Runs.next ?_
  refine Same.next ?_ (writeOne_same _ _ _ _) (by decide)
  exact Same.refl _ _

theorem execValveRestart_same (r : HostReq) (v : Word) (s : State) :
    Runs 0x33fffbd07f s (execValveRestart r v s) := by
  unfold execValveRestart
  refine Runs.next ?_
  refine Same.next ?_ (writeOne_same _ _ _ _) (by decide)
  exact Same.refl _ _

theorem execVisWindowLatch_same (r : HostReq) (v : Word) (s : State) :
    Runs 0x33fffbd07f s (execVisWindowLatch r v s) := by
  unfold execVisWindowLatch
  refine Runs.next ?_
  refine Same.next ?_ (writeOne_same _ _ _ _) (by decide)
  exact Same.refl _ _

theorem execWakeCmd_same (r : HostReq) (v : Word) (s : State) :
    Runs 0x33fffbd07f s (execWakeCmd r v s) := by
  unfold execWakeCmd
  refine Runs.next ?_
  refine Same.next ?_ (writeOne_same _ _ _ _) (by decide)
  exact Same.refl _ _

theorem execWhippetNormal_same (r : HostReq) (v : Word) (s : State) :
    Runs 0x33fffbd07f s (execWhippetNormal r v s) := by
  unfold execWhippetNormal
  refine Runs.next ?_
  refine Same.next ?_ (writeOne_same _ _ _ _) (by decide)
  exact Same.refl _ _

theorem execWhippetRequest_same (r : HostReq) (v : Word) (s : State) :
    Runs 0x33fffbd07f s (execWhippetRequest r v s) := by
  unfold execWhippetRequest
  refine Runs.next ?_
  refine Same.next ?_ (writeOne_same _ _ _ _) (by decide)
  exact Same.refl _ _

theorem execWindowViolation_runs (o : Opt) (u : UnitRef) (s : State) :
    Runs 0x31c5bb0070 (s.begin o) (execWindowViolation o u s) := by
  unfold execWindowViolation
  refine Runs.next ?_
  refine Same.ite ?_ ?_
  · refine Same.next ?_ (State.faultUnit_same _ _ _) (by decide)
    exact Same.refl _ _
  · exact Same.refl _ _

end Sys2Proof.Machine
end

