-- ==== Sys2Proof/Laws/State.lean ====
section
/-! SUPPORT. What each small update of the state leaves alone: one lemma per field, so that no proof unfolds a record update; and the
laws of the indexed reads and updates. -/

namespace Sys2Proof.Machine

/-! Reading a vector after an update of it. -/

theorem rd_of_lt {α : Type} {n : Nat} [Inhabited α] (v : Vector α n) {i : Nat} (h : i < n) : rd v i = v[i] := by
  simp [rd, h]

theorem rd_upd_same {α : Type} {n : Nat} [Inhabited α] (v : Vector α n) {i : Nat} (h : i < n) (f : α → α) :
    rd (upd v i f) i = f (rd v i) := by
  simp [rd, upd, h]

theorem rd_upd_ne {α : Type} {n : Nat} [Inhabited α] (v : Vector α n) {i j : Nat} (h : i ≠ j) (f : α → α) :
    rd (upd v i f) j = rd v j := by
  unfold rd upd
  split
  · by_cases hj : j < n
    · simp [hj, h]
    · simp [hj]
  · rfl

theorem upd_of_ge {α : Type} {n : Nat} (v : Vector α n) {i : Nat} (h : n ≤ i) (f : α → α) : upd v i f = v := by
  simp [upd, Nat.not_lt.mpr h]

theorem rd_put_same {α : Type} {n : Nat} [Inhabited α] (v : Vector α n) {i : Nat} (h : i < n) (x : α) :
    rd (put v i x) i = x := rd_upd_same v h _

theorem rd_put_ne {α : Type} {n : Nat} [Inhabited α] (v : Vector α n) {i j : Nat} (h : i ≠ j) (x : α) :
    rd (put v i x) j = rd v j := rd_upd_ne v h _

@[simp] theorem rd_upd_fin {α : Type} {n : Nat} [Inhabited α] (v : Vector α n) (i : Fin n) (f : α → α) :
    rd (upd v i.val f) i.val = f (rd v i.val) := rd_upd_same v i.isLt f

@[simp] theorem rd_put_fin {α : Type} {n : Nat} [Inhabited α] (v : Vector α n) (i : Fin n) (x : α) :
    rd (put v i.val x) i.val = x := rd_put_same v i.isLt x

/-! Fields after an update. -/

@[simp] theorem State.reach_pwr (s : State) (o : Opt) : (s.reach o).pwr = s.pwr := rfl
@[simp] theorem State.reach_regions (s : State) (o : Opt) : (s.reach o).regions = s.regions := rfl
@[simp] theorem State.reach_clRst (s : State) (o : Opt) : (s.reach o).clRst = s.clRst := rfl
@[simp] theorem State.reach_bud (s : State) (o : Opt) : (s.reach o).bud = s.bud := rfl
@[simp] theorem State.reach_wake (s : State) (o : Opt) : (s.reach o).wake = s.wake := rfl
@[simp] theorem State.reach_boot (s : State) (o : Opt) : (s.reach o).boot = s.boot := rfl
@[simp] theorem State.reach_flash (s : State) (o : Opt) : (s.reach o).flash = s.flash := rfl
@[simp] theorem State.reach_bootRec (s : State) (o : Opt) : (s.reach o).bootRec = s.bootRec := rfl
@[simp] theorem State.reach_journal (s : State) (o : Opt) : (s.reach o).journal = s.journal := rfl
@[simp] theorem State.reach_fw (s : State) (o : Opt) : (s.reach o).fw = s.fw := rfl
@[simp] theorem State.reach_setSlots (s : State) (o : Opt) : (s.reach o).setSlots = s.setSlots := rfl
@[simp] theorem State.reach_store (s : State) (o : Opt) : (s.reach o).store = s.store := rfl
@[simp] theorem State.reach_img (s : State) (o : Opt) : (s.reach o).img = s.img := rfl
@[simp] theorem State.reach_grp (s : State) (o : Opt) : (s.reach o).grp = s.grp := rfl
@[simp] theorem State.reach_sm (s : State) (o : Opt) : (s.reach o).sm = s.sm := rfl
@[simp] theorem State.reach_hst (s : State) (o : Opt) : (s.reach o).hst = s.hst := rfl
@[simp] theorem State.reach_rcd (s : State) (o : Opt) : (s.reach o).rcd = s.rcd := rfl
@[simp] theorem State.reach_die (s : State) (o : Opt) : (s.reach o).die = s.die := rfl
@[simp] theorem State.reach_psw (s : State) (o : Opt) : (s.reach o).psw = s.psw := rfl
@[simp] theorem State.reach_vlv (s : State) (o : Opt) : (s.reach o).vlv = s.vlv := rfl
@[simp] theorem State.reach_col (s : State) (o : Opt) : (s.reach o).col = s.col := rfl
@[simp] theorem State.reach_sns (s : State) (o : Opt) : (s.reach o).sns = s.sns := rfl
@[simp] theorem State.reach_flw (s : State) (o : Opt) : (s.reach o).flw = s.flw := rfl
@[simp] theorem State.reach_lop (s : State) (o : Opt) : (s.reach o).lop = s.lop := rfl
@[simp] theorem State.reach_prf (s : State) (o : Opt) : (s.reach o).prf = s.prf := rfl
@[simp] theorem State.reach_nav (s : State) (o : Opt) : (s.reach o).nav = s.nav := rfl
@[simp] theorem State.reach_tim (s : State) (o : Opt) : (s.reach o).tim = s.tim := rfl
@[simp] theorem State.reach_str (s : State) (o : Opt) : (s.reach o).str = s.str := rfl
@[simp] theorem State.reach_yld (s : State) (o : Opt) : (s.reach o).yld = s.yld := rfl
@[simp] theorem State.reach_vis (s : State) (o : Opt) : (s.reach o).vis = s.vis := rfl
@[simp] theorem State.reach_can (s : State) (o : Opt) : (s.reach o).can = s.can := rfl
@[simp] theorem State.reach_eth (s : State) (o : Opt) : (s.reach o).eth = s.eth := rfl
@[simp] theorem State.reach_updt (s : State) (o : Opt) : (s.reach o).updt = s.updt := rfl
@[simp] theorem State.reach_dbg (s : State) (o : Opt) : (s.reach o).dbg = s.dbg := rfl
@[simp] theorem State.reach_fmt (s : State) (o : Opt) : (s.reach o).fmt = s.fmt := rfl
@[simp] theorem State.reach_free (s : State) (o : Opt) : (s.reach o).free = s.free := rfl
@[simp] theorem State.reach_out (s : State) (o : Opt) : (s.reach o).out = s.out := rfl
@[simp] theorem State.reach_pending (s : State) (o : Opt) : (s.reach o).pending = s.pending := rfl

@[simp] theorem State.begin_pwr (s : State) (o : Opt) : (s.begin o).pwr = s.pwr := rfl
@[simp] theorem State.begin_regions (s : State) (o : Opt) : (s.begin o).regions = s.regions := rfl
@[simp] theorem State.begin_clRst (s : State) (o : Opt) : (s.begin o).clRst = s.clRst := rfl
@[simp] theorem State.begin_bud (s : State) (o : Opt) : (s.begin o).bud = s.bud := rfl
@[simp] theorem State.begin_wake (s : State) (o : Opt) : (s.begin o).wake = s.wake := rfl
@[simp] theorem State.begin_boot (s : State) (o : Opt) : (s.begin o).boot = s.boot := rfl
@[simp] theorem State.begin_flash (s : State) (o : Opt) : (s.begin o).flash = s.flash := rfl
@[simp] theorem State.begin_bootRec (s : State) (o : Opt) : (s.begin o).bootRec = s.bootRec := rfl
@[simp] theorem State.begin_journal (s : State) (o : Opt) : (s.begin o).journal = s.journal := rfl
@[simp] theorem State.begin_fw (s : State) (o : Opt) : (s.begin o).fw = s.fw := rfl
@[simp] theorem State.begin_setSlots (s : State) (o : Opt) : (s.begin o).setSlots = s.setSlots := rfl
@[simp] theorem State.begin_store (s : State) (o : Opt) : (s.begin o).store = s.store := rfl
@[simp] theorem State.begin_img (s : State) (o : Opt) : (s.begin o).img = s.img := rfl
@[simp] theorem State.begin_grp (s : State) (o : Opt) : (s.begin o).grp = s.grp := rfl
@[simp] theorem State.begin_sm (s : State) (o : Opt) : (s.begin o).sm = s.sm := rfl
@[simp] theorem State.begin_hst (s : State) (o : Opt) : (s.begin o).hst = s.hst := rfl
@[simp] theorem State.begin_rcd (s : State) (o : Opt) : (s.begin o).rcd = s.rcd := rfl
@[simp] theorem State.begin_die (s : State) (o : Opt) : (s.begin o).die = s.die := rfl
@[simp] theorem State.begin_psw (s : State) (o : Opt) : (s.begin o).psw = s.psw := rfl
@[simp] theorem State.begin_vlv (s : State) (o : Opt) : (s.begin o).vlv = s.vlv := rfl
@[simp] theorem State.begin_col (s : State) (o : Opt) : (s.begin o).col = s.col := rfl
@[simp] theorem State.begin_sns (s : State) (o : Opt) : (s.begin o).sns = s.sns := rfl
@[simp] theorem State.begin_flw (s : State) (o : Opt) : (s.begin o).flw = s.flw := rfl
@[simp] theorem State.begin_lop (s : State) (o : Opt) : (s.begin o).lop = s.lop := rfl
@[simp] theorem State.begin_prf (s : State) (o : Opt) : (s.begin o).prf = s.prf := rfl
@[simp] theorem State.begin_nav (s : State) (o : Opt) : (s.begin o).nav = s.nav := rfl
@[simp] theorem State.begin_tim (s : State) (o : Opt) : (s.begin o).tim = s.tim := rfl
@[simp] theorem State.begin_str (s : State) (o : Opt) : (s.begin o).str = s.str := rfl
@[simp] theorem State.begin_yld (s : State) (o : Opt) : (s.begin o).yld = s.yld := rfl
@[simp] theorem State.begin_vis (s : State) (o : Opt) : (s.begin o).vis = s.vis := rfl
@[simp] theorem State.begin_can (s : State) (o : Opt) : (s.begin o).can = s.can := rfl
@[simp] theorem State.begin_eth (s : State) (o : Opt) : (s.begin o).eth = s.eth := rfl
@[simp] theorem State.begin_updt (s : State) (o : Opt) : (s.begin o).updt = s.updt := rfl
@[simp] theorem State.begin_dbg (s : State) (o : Opt) : (s.begin o).dbg = s.dbg := rfl
@[simp] theorem State.begin_fmt (s : State) (o : Opt) : (s.begin o).fmt = s.fmt := rfl
@[simp] theorem State.begin_free (s : State) (o : Opt) : (s.begin o).free = s.free := rfl
@[simp] theorem State.begin_pending (s : State) (o : Opt) : (s.begin o).pending = s.pending := rfl

@[simp] theorem State.start_clk (s : State) : (s.start).clk = s.clk := rfl
@[simp] theorem State.start_pwr (s : State) : (s.start).pwr = s.pwr := rfl
@[simp] theorem State.start_regions (s : State) : (s.start).regions = s.regions := rfl
@[simp] theorem State.start_clRst (s : State) : (s.start).clRst = s.clRst := rfl
@[simp] theorem State.start_bud (s : State) : (s.start).bud = s.bud := rfl
@[simp] theorem State.start_wake (s : State) : (s.start).wake = s.wake := rfl
@[simp] theorem State.start_boot (s : State) : (s.start).boot = s.boot := rfl
@[simp] theorem State.start_flash (s : State) : (s.start).flash = s.flash := rfl
@[simp] theorem State.start_bootRec (s : State) : (s.start).bootRec = s.bootRec := rfl
@[simp] theorem State.start_journal (s : State) : (s.start).journal = s.journal := rfl
@[simp] theorem State.start_fw (s : State) : (s.start).fw = s.fw := rfl
@[simp] theorem State.start_setSlots (s : State) : (s.start).setSlots = s.setSlots := rfl
@[simp] theorem State.start_store (s : State) : (s.start).store = s.store := rfl
@[simp] theorem State.start_img (s : State) : (s.start).img = s.img := rfl
@[simp] theorem State.start_grp (s : State) : (s.start).grp = s.grp := rfl
@[simp] theorem State.start_sm (s : State) : (s.start).sm = s.sm := rfl
@[simp] theorem State.start_hst (s : State) : (s.start).hst = s.hst := rfl
@[simp] theorem State.start_rcd (s : State) : (s.start).rcd = s.rcd := rfl
@[simp] theorem State.start_die (s : State) : (s.start).die = s.die := rfl
@[simp] theorem State.start_psw (s : State) : (s.start).psw = s.psw := rfl
@[simp] theorem State.start_vlv (s : State) : (s.start).vlv = s.vlv := rfl
@[simp] theorem State.start_col (s : State) : (s.start).col = s.col := rfl
@[simp] theorem State.start_sns (s : State) : (s.start).sns = s.sns := rfl
@[simp] theorem State.start_flw (s : State) : (s.start).flw = s.flw := rfl
@[simp] theorem State.start_lop (s : State) : (s.start).lop = s.lop := rfl
@[simp] theorem State.start_prf (s : State) : (s.start).prf = s.prf := rfl
@[simp] theorem State.start_nav (s : State) : (s.start).nav = s.nav := rfl
@[simp] theorem State.start_tim (s : State) : (s.start).tim = s.tim := rfl
@[simp] theorem State.start_str (s : State) : (s.start).str = s.str := rfl
@[simp] theorem State.start_yld (s : State) : (s.start).yld = s.yld := rfl
@[simp] theorem State.start_vis (s : State) : (s.start).vis = s.vis := rfl
@[simp] theorem State.start_can (s : State) : (s.start).can = s.can := rfl
@[simp] theorem State.start_eth (s : State) : (s.start).eth = s.eth := rfl
@[simp] theorem State.start_updt (s : State) : (s.start).updt = s.updt := rfl
@[simp] theorem State.start_dbg (s : State) : (s.start).dbg = s.dbg := rfl
@[simp] theorem State.start_fmt (s : State) : (s.start).fmt = s.fmt := rfl
@[simp] theorem State.start_free (s : State) : (s.start).free = s.free := rfl
@[simp] theorem State.start_pending (s : State) : (s.start).pending = s.pending := rfl

@[simp] theorem State.send_clk (s : State) (m : Msg) : (s.send m).clk = s.clk := rfl
@[simp] theorem State.send_pwr (s : State) (m : Msg) : (s.send m).pwr = s.pwr := rfl
@[simp] theorem State.send_regions (s : State) (m : Msg) : (s.send m).regions = s.regions := rfl
@[simp] theorem State.send_clRst (s : State) (m : Msg) : (s.send m).clRst = s.clRst := rfl
@[simp] theorem State.send_bud (s : State) (m : Msg) : (s.send m).bud = s.bud := rfl
@[simp] theorem State.send_wake (s : State) (m : Msg) : (s.send m).wake = s.wake := rfl
@[simp] theorem State.send_boot (s : State) (m : Msg) : (s.send m).boot = s.boot := rfl
@[simp] theorem State.send_flash (s : State) (m : Msg) : (s.send m).flash = s.flash := rfl
@[simp] theorem State.send_bootRec (s : State) (m : Msg) : (s.send m).bootRec = s.bootRec := rfl
@[simp] theorem State.send_journal (s : State) (m : Msg) : (s.send m).journal = s.journal := rfl
@[simp] theorem State.send_fw (s : State) (m : Msg) : (s.send m).fw = s.fw := rfl
@[simp] theorem State.send_setSlots (s : State) (m : Msg) : (s.send m).setSlots = s.setSlots := rfl
@[simp] theorem State.send_store (s : State) (m : Msg) : (s.send m).store = s.store := rfl
@[simp] theorem State.send_img (s : State) (m : Msg) : (s.send m).img = s.img := rfl
@[simp] theorem State.send_grp (s : State) (m : Msg) : (s.send m).grp = s.grp := rfl
@[simp] theorem State.send_sm (s : State) (m : Msg) : (s.send m).sm = s.sm := rfl
@[simp] theorem State.send_hst (s : State) (m : Msg) : (s.send m).hst = s.hst := rfl
@[simp] theorem State.send_rcd (s : State) (m : Msg) : (s.send m).rcd = s.rcd := rfl
@[simp] theorem State.send_die (s : State) (m : Msg) : (s.send m).die = s.die := rfl
@[simp] theorem State.send_psw (s : State) (m : Msg) : (s.send m).psw = s.psw := rfl
@[simp] theorem State.send_vlv (s : State) (m : Msg) : (s.send m).vlv = s.vlv := rfl
@[simp] theorem State.send_col (s : State) (m : Msg) : (s.send m).col = s.col := rfl
@[simp] theorem State.send_sns (s : State) (m : Msg) : (s.send m).sns = s.sns := rfl
@[simp] theorem State.send_flw (s : State) (m : Msg) : (s.send m).flw = s.flw := rfl
@[simp] theorem State.send_lop (s : State) (m : Msg) : (s.send m).lop = s.lop := rfl
@[simp] theorem State.send_prf (s : State) (m : Msg) : (s.send m).prf = s.prf := rfl
@[simp] theorem State.send_nav (s : State) (m : Msg) : (s.send m).nav = s.nav := rfl
@[simp] theorem State.send_tim (s : State) (m : Msg) : (s.send m).tim = s.tim := rfl
@[simp] theorem State.send_str (s : State) (m : Msg) : (s.send m).str = s.str := rfl
@[simp] theorem State.send_yld (s : State) (m : Msg) : (s.send m).yld = s.yld := rfl
@[simp] theorem State.send_vis (s : State) (m : Msg) : (s.send m).vis = s.vis := rfl
@[simp] theorem State.send_can (s : State) (m : Msg) : (s.send m).can = s.can := rfl
@[simp] theorem State.send_eth (s : State) (m : Msg) : (s.send m).eth = s.eth := rfl
@[simp] theorem State.send_updt (s : State) (m : Msg) : (s.send m).updt = s.updt := rfl
@[simp] theorem State.send_dbg (s : State) (m : Msg) : (s.send m).dbg = s.dbg := rfl
@[simp] theorem State.send_fmt (s : State) (m : Msg) : (s.send m).fmt = s.fmt := rfl
@[simp] theorem State.send_free (s : State) (m : Msg) : (s.send m).free = s.free := rfl
@[simp] theorem State.send_pending (s : State) (m : Msg) : (s.send m).pending = s.pending := rfl

@[simp] theorem State.updSess_clk (s : State) (n : Nat) (f : Sess → Sess) : (s.updSess n f).clk = s.clk := rfl
@[simp] theorem State.updSess_pwr (s : State) (n : Nat) (f : Sess → Sess) : (s.updSess n f).pwr = s.pwr := rfl
@[simp] theorem State.updSess_regions (s : State) (n : Nat) (f : Sess → Sess) : (s.updSess n f).regions = s.regions := rfl
@[simp] theorem State.updSess_clRst (s : State) (n : Nat) (f : Sess → Sess) : (s.updSess n f).clRst = s.clRst := rfl
@[simp] theorem State.updSess_bud (s : State) (n : Nat) (f : Sess → Sess) : (s.updSess n f).bud = s.bud := rfl
@[simp] theorem State.updSess_wake (s : State) (n : Nat) (f : Sess → Sess) : (s.updSess n f).wake = s.wake := rfl
@[simp] theorem State.updSess_boot (s : State) (n : Nat) (f : Sess → Sess) : (s.updSess n f).boot = s.boot := rfl
@[simp] theorem State.updSess_flash (s : State) (n : Nat) (f : Sess → Sess) : (s.updSess n f).flash = s.flash := rfl
@[simp] theorem State.updSess_bootRec (s : State) (n : Nat) (f : Sess → Sess) : (s.updSess n f).bootRec = s.bootRec := rfl
@[simp] theorem State.updSess_journal (s : State) (n : Nat) (f : Sess → Sess) : (s.updSess n f).journal = s.journal := rfl
@[simp] theorem State.updSess_fw (s : State) (n : Nat) (f : Sess → Sess) : (s.updSess n f).fw = s.fw := rfl
@[simp] theorem State.updSess_setSlots (s : State) (n : Nat) (f : Sess → Sess) : (s.updSess n f).setSlots = s.setSlots := rfl
@[simp] theorem State.updSess_store (s : State) (n : Nat) (f : Sess → Sess) : (s.updSess n f).store = s.store := rfl
@[simp] theorem State.updSess_img (s : State) (n : Nat) (f : Sess → Sess) : (s.updSess n f).img = s.img := rfl
@[simp] theorem State.updSess_grp (s : State) (n : Nat) (f : Sess → Sess) : (s.updSess n f).grp = s.grp := rfl
@[simp] theorem State.updSess_sm (s : State) (n : Nat) (f : Sess → Sess) : (s.updSess n f).sm = s.sm := rfl
@[simp] theorem State.updSess_rcd (s : State) (n : Nat) (f : Sess → Sess) : (s.updSess n f).rcd = s.rcd := rfl
@[simp] theorem State.updSess_die (s : State) (n : Nat) (f : Sess → Sess) : (s.updSess n f).die = s.die := rfl
@[simp] theorem State.updSess_psw (s : State) (n : Nat) (f : Sess → Sess) : (s.updSess n f).psw = s.psw := rfl
@[simp] theorem State.updSess_vlv (s : State) (n : Nat) (f : Sess → Sess) : (s.updSess n f).vlv = s.vlv := rfl
@[simp] theorem State.updSess_col (s : State) (n : Nat) (f : Sess → Sess) : (s.updSess n f).col = s.col := rfl
@[simp] theorem State.updSess_sns (s : State) (n : Nat) (f : Sess → Sess) : (s.updSess n f).sns = s.sns := rfl
@[simp] theorem State.updSess_flw (s : State) (n : Nat) (f : Sess → Sess) : (s.updSess n f).flw = s.flw := rfl
@[simp] theorem State.updSess_lop (s : State) (n : Nat) (f : Sess → Sess) : (s.updSess n f).lop = s.lop := rfl
@[simp] theorem State.updSess_prf (s : State) (n : Nat) (f : Sess → Sess) : (s.updSess n f).prf = s.prf := rfl
@[simp] theorem State.updSess_nav (s : State) (n : Nat) (f : Sess → Sess) : (s.updSess n f).nav = s.nav := rfl
@[simp] theorem State.updSess_tim (s : State) (n : Nat) (f : Sess → Sess) : (s.updSess n f).tim = s.tim := rfl
@[simp] theorem State.updSess_str (s : State) (n : Nat) (f : Sess → Sess) : (s.updSess n f).str = s.str := rfl
@[simp] theorem State.updSess_yld (s : State) (n : Nat) (f : Sess → Sess) : (s.updSess n f).yld = s.yld := rfl
@[simp] theorem State.updSess_vis (s : State) (n : Nat) (f : Sess → Sess) : (s.updSess n f).vis = s.vis := rfl
@[simp] theorem State.updSess_can (s : State) (n : Nat) (f : Sess → Sess) : (s.updSess n f).can = s.can := rfl
@[simp] theorem State.updSess_eth (s : State) (n : Nat) (f : Sess → Sess) : (s.updSess n f).eth = s.eth := rfl
@[simp] theorem State.updSess_updt (s : State) (n : Nat) (f : Sess → Sess) : (s.updSess n f).updt = s.updt := rfl
@[simp] theorem State.updSess_dbg (s : State) (n : Nat) (f : Sess → Sess) : (s.updSess n f).dbg = s.dbg := rfl
@[simp] theorem State.updSess_fmt (s : State) (n : Nat) (f : Sess → Sess) : (s.updSess n f).fmt = s.fmt := rfl
@[simp] theorem State.updSess_free (s : State) (n : Nat) (f : Sess → Sess) : (s.updSess n f).free = s.free := rfl
@[simp] theorem State.updSess_out (s : State) (n : Nat) (f : Sess → Sess) : (s.updSess n f).out = s.out := rfl
@[simp] theorem State.updSess_pending (s : State) (n : Nat) (f : Sess → Sess) : (s.updSess n f).pending = s.pending := rfl

@[simp] theorem State.badMsg_clk (s : State) : (s.badMsg).clk = s.clk := rfl
@[simp] theorem State.badMsg_pwr (s : State) : (s.badMsg).pwr = s.pwr := rfl
@[simp] theorem State.badMsg_regions (s : State) : (s.badMsg).regions = s.regions := rfl
@[simp] theorem State.badMsg_clRst (s : State) : (s.badMsg).clRst = s.clRst := rfl
@[simp] theorem State.badMsg_bud (s : State) : (s.badMsg).bud = s.bud := rfl
@[simp] theorem State.badMsg_wake (s : State) : (s.badMsg).wake = s.wake := rfl
@[simp] theorem State.badMsg_boot (s : State) : (s.badMsg).boot = s.boot := rfl
@[simp] theorem State.badMsg_flash (s : State) : (s.badMsg).flash = s.flash := rfl
@[simp] theorem State.badMsg_bootRec (s : State) : (s.badMsg).bootRec = s.bootRec := rfl
@[simp] theorem State.badMsg_journal (s : State) : (s.badMsg).journal = s.journal := rfl
@[simp] theorem State.badMsg_fw (s : State) : (s.badMsg).fw = s.fw := rfl
@[simp] theorem State.badMsg_setSlots (s : State) : (s.badMsg).setSlots = s.setSlots := rfl
@[simp] theorem State.badMsg_store (s : State) : (s.badMsg).store = s.store := rfl
@[simp] theorem State.badMsg_img (s : State) : (s.badMsg).img = s.img := rfl
@[simp] theorem State.badMsg_grp (s : State) : (s.badMsg).grp = s.grp := rfl
@[simp] theorem State.badMsg_sm (s : State) : (s.badMsg).sm = s.sm := rfl
@[simp] theorem State.badMsg_rcd (s : State) : (s.badMsg).rcd = s.rcd := rfl
@[simp] theorem State.badMsg_die (s : State) : (s.badMsg).die = s.die := rfl
@[simp] theorem State.badMsg_psw (s : State) : (s.badMsg).psw = s.psw := rfl
@[simp] theorem State.badMsg_vlv (s : State) : (s.badMsg).vlv = s.vlv := rfl
@[simp] theorem State.badMsg_col (s : State) : (s.badMsg).col = s.col := rfl
@[simp] theorem State.badMsg_sns (s : State) : (s.badMsg).sns = s.sns := rfl
@[simp] theorem State.badMsg_flw (s : State) : (s.badMsg).flw = s.flw := rfl
@[simp] theorem State.badMsg_lop (s : State) : (s.badMsg).lop = s.lop := rfl
@[simp] theorem State.badMsg_prf (s : State) : (s.badMsg).prf = s.prf := rfl
@[simp] theorem State.badMsg_nav (s : State) : (s.badMsg).nav = s.nav := rfl
@[simp] theorem State.badMsg_tim (s : State) : (s.badMsg).tim = s.tim := rfl
@[simp] theorem State.badMsg_str (s : State) : (s.badMsg).str = s.str := rfl
@[simp] theorem State.badMsg_yld (s : State) : (s.badMsg).yld = s.yld := rfl
@[simp] theorem State.badMsg_vis (s : State) : (s.badMsg).vis = s.vis := rfl
@[simp] theorem State.badMsg_can (s : State) : (s.badMsg).can = s.can := rfl
@[simp] theorem State.badMsg_eth (s : State) : (s.badMsg).eth = s.eth := rfl
@[simp] theorem State.badMsg_updt (s : State) : (s.badMsg).updt = s.updt := rfl
@[simp] theorem State.badMsg_dbg (s : State) : (s.badMsg).dbg = s.dbg := rfl
@[simp] theorem State.badMsg_fmt (s : State) : (s.badMsg).fmt = s.fmt := rfl
@[simp] theorem State.badMsg_free (s : State) : (s.badMsg).free = s.free := rfl
@[simp] theorem State.badMsg_out (s : State) : (s.badMsg).out = s.out := rfl
@[simp] theorem State.badMsg_pending (s : State) : (s.badMsg).pending = s.pending := rfl

@[simp] theorem State.seen_clk (s : State) (n : Nat) (o : Opt) : (s.seen n o).clk = s.clk := rfl
@[simp] theorem State.seen_pwr (s : State) (n : Nat) (o : Opt) : (s.seen n o).pwr = s.pwr := rfl
@[simp] theorem State.seen_regions (s : State) (n : Nat) (o : Opt) : (s.seen n o).regions = s.regions := rfl
@[simp] theorem State.seen_clRst (s : State) (n : Nat) (o : Opt) : (s.seen n o).clRst = s.clRst := rfl
@[simp] theorem State.seen_bud (s : State) (n : Nat) (o : Opt) : (s.seen n o).bud = s.bud := rfl
@[simp] theorem State.seen_wake (s : State) (n : Nat) (o : Opt) : (s.seen n o).wake = s.wake := rfl
@[simp] theorem State.seen_boot (s : State) (n : Nat) (o : Opt) : (s.seen n o).boot = s.boot := rfl
@[simp] theorem State.seen_flash (s : State) (n : Nat) (o : Opt) : (s.seen n o).flash = s.flash := rfl
@[simp] theorem State.seen_bootRec (s : State) (n : Nat) (o : Opt) : (s.seen n o).bootRec = s.bootRec := rfl
@[simp] theorem State.seen_journal (s : State) (n : Nat) (o : Opt) : (s.seen n o).journal = s.journal := rfl
@[simp] theorem State.seen_fw (s : State) (n : Nat) (o : Opt) : (s.seen n o).fw = s.fw := rfl
@[simp] theorem State.seen_setSlots (s : State) (n : Nat) (o : Opt) : (s.seen n o).setSlots = s.setSlots := rfl
@[simp] theorem State.seen_store (s : State) (n : Nat) (o : Opt) : (s.seen n o).store = s.store := rfl
@[simp] theorem State.seen_img (s : State) (n : Nat) (o : Opt) : (s.seen n o).img = s.img := rfl
@[simp] theorem State.seen_grp (s : State) (n : Nat) (o : Opt) : (s.seen n o).grp = s.grp := rfl
@[simp] theorem State.seen_sm (s : State) (n : Nat) (o : Opt) : (s.seen n o).sm = s.sm := rfl
@[simp] theorem State.seen_rcd (s : State) (n : Nat) (o : Opt) : (s.seen n o).rcd = s.rcd := rfl
@[simp] theorem State.seen_die (s : State) (n : Nat) (o : Opt) : (s.seen n o).die = s.die := rfl
@[simp] theorem State.seen_psw (s : State) (n : Nat) (o : Opt) : (s.seen n o).psw = s.psw := rfl
@[simp] theorem State.seen_vlv (s : State) (n : Nat) (o : Opt) : (s.seen n o).vlv = s.vlv := rfl
@[simp] theorem State.seen_col (s : State) (n : Nat) (o : Opt) : (s.seen n o).col = s.col := rfl
@[simp] theorem State.seen_sns (s : State) (n : Nat) (o : Opt) : (s.seen n o).sns = s.sns := rfl
@[simp] theorem State.seen_flw (s : State) (n : Nat) (o : Opt) : (s.seen n o).flw = s.flw := rfl
@[simp] theorem State.seen_lop (s : State) (n : Nat) (o : Opt) : (s.seen n o).lop = s.lop := rfl
@[simp] theorem State.seen_prf (s : State) (n : Nat) (o : Opt) : (s.seen n o).prf = s.prf := rfl
@[simp] theorem State.seen_nav (s : State) (n : Nat) (o : Opt) : (s.seen n o).nav = s.nav := rfl
@[simp] theorem State.seen_tim (s : State) (n : Nat) (o : Opt) : (s.seen n o).tim = s.tim := rfl
@[simp] theorem State.seen_str (s : State) (n : Nat) (o : Opt) : (s.seen n o).str = s.str := rfl
@[simp] theorem State.seen_yld (s : State) (n : Nat) (o : Opt) : (s.seen n o).yld = s.yld := rfl
@[simp] theorem State.seen_vis (s : State) (n : Nat) (o : Opt) : (s.seen n o).vis = s.vis := rfl
@[simp] theorem State.seen_can (s : State) (n : Nat) (o : Opt) : (s.seen n o).can = s.can := rfl
@[simp] theorem State.seen_eth (s : State) (n : Nat) (o : Opt) : (s.seen n o).eth = s.eth := rfl
@[simp] theorem State.seen_updt (s : State) (n : Nat) (o : Opt) : (s.seen n o).updt = s.updt := rfl
@[simp] theorem State.seen_dbg (s : State) (n : Nat) (o : Opt) : (s.seen n o).dbg = s.dbg := rfl
@[simp] theorem State.seen_fmt (s : State) (n : Nat) (o : Opt) : (s.seen n o).fmt = s.fmt := rfl
@[simp] theorem State.seen_free (s : State) (n : Nat) (o : Opt) : (s.seen n o).free = s.free := rfl
@[simp] theorem State.seen_out (s : State) (n : Nat) (o : Opt) : (s.seen n o).out = s.out := rfl
@[simp] theorem State.seen_pending (s : State) (n : Nat) (o : Opt) : (s.seen n o).pending = s.pending := rfl

@[simp] theorem State.reply_clk (s : State) (r : HostReq) (op st : Nat) (p : Bool) (l : List Byte) : (s.reply r op st p l).clk = s.clk := by
  unfold State.reply; dsimp only; split <;> rfl
@[simp] theorem State.reply_pwr (s : State) (r : HostReq) (op st : Nat) (p : Bool) (l : List Byte) : (s.reply r op st p l).pwr = s.pwr := by
  unfold State.reply; dsimp only; split <;> rfl
@[simp] theorem State.reply_regions (s : State) (r : HostReq) (op st : Nat) (p : Bool) (l : List Byte) : (s.reply r op st p l).regions = s.regions := by
  unfold State.reply; dsimp only; split <;> rfl
@[simp] theorem State.reply_clRst (s : State) (r : HostReq) (op st : Nat) (p : Bool) (l : List Byte) : (s.reply r op st p l).clRst = s.clRst := by
  unfold State.reply; dsimp only; split <;> rfl
@[simp] theorem State.reply_bud (s : State) (r : HostReq) (op st : Nat) (p : Bool) (l : List Byte) : (s.reply r op st p l).bud = s.bud := by
  unfold State.reply; dsimp only; split <;> rfl
@[simp] theorem State.reply_wake (s : State) (r : HostReq) (op st : Nat) (p : Bool) (l : List Byte) : (s.reply r op st p l).wake = s.wake := by
  unfold State.reply; dsimp only; split <;> rfl
@[simp] theorem State.reply_boot (s : State) (r : HostReq) (op st : Nat) (p : Bool) (l : List Byte) : (s.reply r op st p l).boot = s.boot := by
  unfold State.reply; dsimp only; split <;> rfl
@[simp] theorem State.reply_flash (s : State) (r : HostReq) (op st : Nat) (p : Bool) (l : List Byte) : (s.reply r op st p l).flash = s.flash := by
  unfold State.reply; dsimp only; split <;> rfl
@[simp] theorem State.reply_bootRec (s : State) (r : HostReq) (op st : Nat) (p : Bool) (l : List Byte) : (s.reply r op st p l).bootRec = s.bootRec := by
  unfold State.reply; dsimp only; split <;> rfl
@[simp] theorem State.reply_journal (s : State) (r : HostReq) (op st : Nat) (p : Bool) (l : List Byte) : (s.reply r op st p l).journal = s.journal := by
  unfold State.reply; dsimp only; split <;> rfl
@[simp] theorem State.reply_fw (s : State) (r : HostReq) (op st : Nat) (p : Bool) (l : List Byte) : (s.reply r op st p l).fw = s.fw := by
  unfold State.reply; dsimp only; split <;> rfl
@[simp] theorem State.reply_setSlots (s : State) (r : HostReq) (op st : Nat) (p : Bool) (l : List Byte) : (s.reply r op st p l).setSlots = s.setSlots := by
  unfold State.reply; dsimp only; split <;> rfl
@[simp] theorem State.reply_store (s : State) (r : HostReq) (op st : Nat) (p : Bool) (l : List Byte) : (s.reply r op st p l).store = s.store := by
  unfold State.reply; dsimp only; split <;> rfl
@[simp] theorem State.reply_img (s : State) (r : HostReq) (op st : Nat) (p : Bool) (l : List Byte) : (s.reply r op st p l).img = s.img := by
  unfold State.reply; dsimp only; split <;> rfl
@[simp] theorem State.reply_grp (s : State) (r : HostReq) (op st : Nat) (p : Bool) (l : List Byte) : (s.reply r op st p l).grp = s.grp := by
  unfold State.reply; dsimp only; split <;> rfl
@[simp] theorem State.reply_sm (s : State) (r : HostReq) (op st : Nat) (p : Bool) (l : List Byte) : (s.reply r op st p l).sm = s.sm := by
  unfold State.reply; dsimp only; split <;> rfl
@[simp] theorem State.reply_rcd (s : State) (r : HostReq) (op st : Nat) (p : Bool) (l : List Byte) : (s.reply r op st p l).rcd = s.rcd := by
  unfold State.reply; dsimp only; split <;> rfl
@[simp] theorem State.reply_die (s : State) (r : HostReq) (op st : Nat) (p : Bool) (l : List Byte) : (s.reply r op st p l).die = s.die := by
  unfold State.reply; dsimp only; split <;> rfl
@[simp] theorem State.reply_psw (s : State) (r : HostReq) (op st : Nat) (p : Bool) (l : List Byte) : (s.reply r op st p l).psw = s.psw := by
  unfold State.reply; dsimp only; split <;> rfl
@[simp] theorem State.reply_vlv (s : State) (r : HostReq) (op st : Nat) (p : Bool) (l : List Byte) : (s.reply r op st p l).vlv = s.vlv := by
  unfold State.reply; dsimp only; split <;> rfl
@[simp] theorem State.reply_col (s : State) (r : HostReq) (op st : Nat) (p : Bool) (l : List Byte) : (s.reply r op st p l).col = s.col := by
  unfold State.reply; dsimp only; split <;> rfl
@[simp] theorem State.reply_sns (s : State) (r : HostReq) (op st : Nat) (p : Bool) (l : List Byte) : (s.reply r op st p l).sns = s.sns := by
  unfold State.reply; dsimp only; split <;> rfl
@[simp] theorem State.reply_flw (s : State) (r : HostReq) (op st : Nat) (p : Bool) (l : List Byte) : (s.reply r op st p l).flw = s.flw := by
  unfold State.reply; dsimp only; split <;> rfl
@[simp] theorem State.reply_lop (s : State) (r : HostReq) (op st : Nat) (p : Bool) (l : List Byte) : (s.reply r op st p l).lop = s.lop := by
  unfold State.reply; dsimp only; split <;> rfl
@[simp] theorem State.reply_prf (s : State) (r : HostReq) (op st : Nat) (p : Bool) (l : List Byte) : (s.reply r op st p l).prf = s.prf := by
  unfold State.reply; dsimp only; split <;> rfl
@[simp] theorem State.reply_nav (s : State) (r : HostReq) (op st : Nat) (p : Bool) (l : List Byte) : (s.reply r op st p l).nav = s.nav := by
  unfold State.reply; dsimp only; split <;> rfl
@[simp] theorem State.reply_tim (s : State) (r : HostReq) (op st : Nat) (p : Bool) (l : List Byte) : (s.reply r op st p l).tim = s.tim := by
  unfold State.reply; dsimp only; split <;> rfl
@[simp] theorem State.reply_str (s : State) (r : HostReq) (op st : Nat) (p : Bool) (l : List Byte) : (s.reply r op st p l).str = s.str := by
  unfold State.reply; dsimp only; split <;> rfl
@[simp] theorem State.reply_yld (s : State) (r : HostReq) (op st : Nat) (p : Bool) (l : List Byte) : (s.reply r op st p l).yld = s.yld := by
  unfold State.reply; dsimp only; split <;> rfl
@[simp] theorem State.reply_vis (s : State) (r : HostReq) (op st : Nat) (p : Bool) (l : List Byte) : (s.reply r op st p l).vis = s.vis := by
  unfold State.reply; dsimp only; split <;> rfl
@[simp] theorem State.reply_can (s : State) (r : HostReq) (op st : Nat) (p : Bool) (l : List Byte) : (s.reply r op st p l).can = s.can := by
  unfold State.reply; dsimp only; split <;> rfl
@[simp] theorem State.reply_eth (s : State) (r : HostReq) (op st : Nat) (p : Bool) (l : List Byte) : (s.reply r op st p l).eth = s.eth := by
  unfold State.reply; dsimp only; split <;> rfl
@[simp] theorem State.reply_updt (s : State) (r : HostReq) (op st : Nat) (p : Bool) (l : List Byte) : (s.reply r op st p l).updt = s.updt := by
  unfold State.reply; dsimp only; split <;> rfl
@[simp] theorem State.reply_dbg (s : State) (r : HostReq) (op st : Nat) (p : Bool) (l : List Byte) : (s.reply r op st p l).dbg = s.dbg := by
  unfold State.reply; dsimp only; split <;> rfl
@[simp] theorem State.reply_fmt (s : State) (r : HostReq) (op st : Nat) (p : Bool) (l : List Byte) : (s.reply r op st p l).fmt = s.fmt := by
  unfold State.reply; dsimp only; split <;> rfl
@[simp] theorem State.reply_free (s : State) (r : HostReq) (op st : Nat) (p : Bool) (l : List Byte) : (s.reply r op st p l).free = s.free := by
  unfold State.reply; dsimp only; split <;> rfl
@[simp] theorem State.reply_pending (s : State) (r : HostReq) (op st : Nat) (p : Bool) (l : List Byte) : (s.reply r op st p l).pending = s.pending := by
  unfold State.reply; dsimp only; split <;> rfl

@[simp] theorem State.finish_clk (s : State) (r : HostReq) (op st : Nat) (l : List Byte) : (s.finish r op st l).clk = s.clk := State.reply_clk _ _ _ _ _ _
@[simp] theorem State.finish_pwr (s : State) (r : HostReq) (op st : Nat) (l : List Byte) : (s.finish r op st l).pwr = s.pwr := State.reply_pwr _ _ _ _ _ _
@[simp] theorem State.finish_regions (s : State) (r : HostReq) (op st : Nat) (l : List Byte) : (s.finish r op st l).regions = s.regions := State.reply_regions _ _ _ _ _ _
@[simp] theorem State.finish_clRst (s : State) (r : HostReq) (op st : Nat) (l : List Byte) : (s.finish r op st l).clRst = s.clRst := State.reply_clRst _ _ _ _ _ _
@[simp] theorem State.finish_bud (s : State) (r : HostReq) (op st : Nat) (l : List Byte) : (s.finish r op st l).bud = s.bud := State.reply_bud _ _ _ _ _ _
@[simp] theorem State.finish_wake (s : State) (r : HostReq) (op st : Nat) (l : List Byte) : (s.finish r op st l).wake = s.wake := State.reply_wake _ _ _ _ _ _
@[simp] theorem State.finish_boot (s : State) (r : HostReq) (op st : Nat) (l : List Byte) : (s.finish r op st l).boot = s.boot := State.reply_boot _ _ _ _ _ _
@[simp] theorem State.finish_flash (s : State) (r : HostReq) (op st : Nat) (l : List Byte) : (s.finish r op st l).flash = s.flash := State.reply_flash _ _ _ _ _ _
@[simp] theorem State.finish_bootRec (s : State) (r : HostReq) (op st : Nat) (l : List Byte) : (s.finish r op st l).bootRec = s.bootRec := State.reply_bootRec _ _ _ _ _ _
@[simp] theorem State.finish_journal (s : State) (r : HostReq) (op st : Nat) (l : List Byte) : (s.finish r op st l).journal = s.journal := State.reply_journal _ _ _ _ _ _
@[simp] theorem State.finish_fw (s : State) (r : HostReq) (op st : Nat) (l : List Byte) : (s.finish r op st l).fw = s.fw := State.reply_fw _ _ _ _ _ _
@[simp] theorem State.finish_setSlots (s : State) (r : HostReq) (op st : Nat) (l : List Byte) : (s.finish r op st l).setSlots = s.setSlots := State.reply_setSlots _ _ _ _ _ _
@[simp] theorem State.finish_store (s : State) (r : HostReq) (op st : Nat) (l : List Byte) : (s.finish r op st l).store = s.store := State.reply_store _ _ _ _ _ _
@[simp] theorem State.finish_img (s : State) (r : HostReq) (op st : Nat) (l : List Byte) : (s.finish r op st l).img = s.img := State.reply_img _ _ _ _ _ _
@[simp] theorem State.finish_grp (s : State) (r : HostReq) (op st : Nat) (l : List Byte) : (s.finish r op st l).grp = s.grp := State.reply_grp _ _ _ _ _ _
@[simp] theorem State.finish_sm (s : State) (r : HostReq) (op st : Nat) (l : List Byte) : (s.finish r op st l).sm = s.sm := State.reply_sm _ _ _ _ _ _
@[simp] theorem State.finish_rcd (s : State) (r : HostReq) (op st : Nat) (l : List Byte) : (s.finish r op st l).rcd = s.rcd := State.reply_rcd _ _ _ _ _ _
@[simp] theorem State.finish_die (s : State) (r : HostReq) (op st : Nat) (l : List Byte) : (s.finish r op st l).die = s.die := State.reply_die _ _ _ _ _ _
@[simp] theorem State.finish_psw (s : State) (r : HostReq) (op st : Nat) (l : List Byte) : (s.finish r op st l).psw = s.psw := State.reply_psw _ _ _ _ _ _
@[simp] theorem State.finish_vlv (s : State) (r : HostReq) (op st : Nat) (l : List Byte) : (s.finish r op st l).vlv = s.vlv := State.reply_vlv _ _ _ _ _ _
@[simp] theorem State.finish_col (s : State) (r : HostReq) (op st : Nat) (l : List Byte) : (s.finish r op st l).col = s.col := State.reply_col _ _ _ _ _ _
@[simp] theorem State.finish_sns (s : State) (r : HostReq) (op st : Nat) (l : List Byte) : (s.finish r op st l).sns = s.sns := State.reply_sns _ _ _ _ _ _
@[simp] theorem State.finish_flw (s : State) (r : HostReq) (op st : Nat) (l : List Byte) : (s.finish r op st l).flw = s.flw := State.reply_flw _ _ _ _ _ _
@[simp] theorem State.finish_lop (s : State) (r : HostReq) (op st : Nat) (l : List Byte) : (s.finish r op st l).lop = s.lop := State.reply_lop _ _ _ _ _ _
@[simp] theorem State.finish_prf (s : State) (r : HostReq) (op st : Nat) (l : List Byte) : (s.finish r op st l).prf = s.prf := State.reply_prf _ _ _ _ _ _
@[simp] theorem State.finish_nav (s : State) (r : HostReq) (op st : Nat) (l : List Byte) : (s.finish r op st l).nav = s.nav := State.reply_nav _ _ _ _ _ _
@[simp] theorem State.finish_tim (s : State) (r : HostReq) (op st : Nat) (l : List Byte) : (s.finish r op st l).tim = s.tim := State.reply_tim _ _ _ _ _ _
@[simp] theorem State.finish_str (s : State) (r : HostReq) (op st : Nat) (l : List Byte) : (s.finish r op st l).str = s.str := State.reply_str _ _ _ _ _ _
@[simp] theorem State.finish_yld (s : State) (r : HostReq) (op st : Nat) (l : List Byte) : (s.finish r op st l).yld = s.yld := State.reply_yld _ _ _ _ _ _
@[simp] theorem State.finish_vis (s : State) (r : HostReq) (op st : Nat) (l : List Byte) : (s.finish r op st l).vis = s.vis := State.reply_vis _ _ _ _ _ _
@[simp] theorem State.finish_can (s : State) (r : HostReq) (op st : Nat) (l : List Byte) : (s.finish r op st l).can = s.can := State.reply_can _ _ _ _ _ _
@[simp] theorem State.finish_eth (s : State) (r : HostReq) (op st : Nat) (l : List Byte) : (s.finish r op st l).eth = s.eth := State.reply_eth _ _ _ _ _ _
@[simp] theorem State.finish_updt (s : State) (r : HostReq) (op st : Nat) (l : List Byte) : (s.finish r op st l).updt = s.updt := State.reply_updt _ _ _ _ _ _
@[simp] theorem State.finish_dbg (s : State) (r : HostReq) (op st : Nat) (l : List Byte) : (s.finish r op st l).dbg = s.dbg := State.reply_dbg _ _ _ _ _ _
@[simp] theorem State.finish_fmt (s : State) (r : HostReq) (op st : Nat) (l : List Byte) : (s.finish r op st l).fmt = s.fmt := State.reply_fmt _ _ _ _ _ _
@[simp] theorem State.finish_free (s : State) (r : HostReq) (op st : Nat) (l : List Byte) : (s.finish r op st l).free = s.free := State.reply_free _ _ _ _ _ _
@[simp] theorem State.finish_pending (s : State) (r : HostReq) (op st : Nat) (l : List Byte) : (s.finish r op st l).pending = s.pending := State.reply_pending _ _ _ _ _ _

@[simp] theorem State.busy_clk (s : State) (r : HostReq) (op st : Nat) : (s.busy r op st).clk = s.clk := State.reply_clk _ _ _ _ _ _
@[simp] theorem State.busy_pwr (s : State) (r : HostReq) (op st : Nat) : (s.busy r op st).pwr = s.pwr := State.reply_pwr _ _ _ _ _ _
@[simp] theorem State.busy_regions (s : State) (r : HostReq) (op st : Nat) : (s.busy r op st).regions = s.regions := State.reply_regions _ _ _ _ _ _
@[simp] theorem State.busy_clRst (s : State) (r : HostReq) (op st : Nat) : (s.busy r op st).clRst = s.clRst := State.reply_clRst _ _ _ _ _ _
@[simp] theorem State.busy_bud (s : State) (r : HostReq) (op st : Nat) : (s.busy r op st).bud = s.bud := State.reply_bud _ _ _ _ _ _
@[simp] theorem State.busy_wake (s : State) (r : HostReq) (op st : Nat) : (s.busy r op st).wake = s.wake := State.reply_wake _ _ _ _ _ _
@[simp] theorem State.busy_boot (s : State) (r : HostReq) (op st : Nat) : (s.busy r op st).boot = s.boot := State.reply_boot _ _ _ _ _ _
@[simp] theorem State.busy_flash (s : State) (r : HostReq) (op st : Nat) : (s.busy r op st).flash = s.flash := State.reply_flash _ _ _ _ _ _
@[simp] theorem State.busy_bootRec (s : State) (r : HostReq) (op st : Nat) : (s.busy r op st).bootRec = s.bootRec := State.reply_bootRec _ _ _ _ _ _
@[simp] theorem State.busy_journal (s : State) (r : HostReq) (op st : Nat) : (s.busy r op st).journal = s.journal := State.reply_journal _ _ _ _ _ _
@[simp] theorem State.busy_fw (s : State) (r : HostReq) (op st : Nat) : (s.busy r op st).fw = s.fw := State.reply_fw _ _ _ _ _ _
@[simp] theorem State.busy_setSlots (s : State) (r : HostReq) (op st : Nat) : (s.busy r op st).setSlots = s.setSlots := State.reply_setSlots _ _ _ _ _ _
@[simp] theorem State.busy_store (s : State) (r : HostReq) (op st : Nat) : (s.busy r op st).store = s.store := State.reply_store _ _ _ _ _ _
@[simp] theorem State.busy_img (s : State) (r : HostReq) (op st : Nat) : (s.busy r op st).img = s.img := State.reply_img _ _ _ _ _ _
@[simp] theorem State.busy_grp (s : State) (r : HostReq) (op st : Nat) : (s.busy r op st).grp = s.grp := State.reply_grp _ _ _ _ _ _
@[simp] theorem State.busy_sm (s : State) (r : HostReq) (op st : Nat) : (s.busy r op st).sm = s.sm := State.reply_sm _ _ _ _ _ _
@[simp] theorem State.busy_rcd (s : State) (r : HostReq) (op st : Nat) : (s.busy r op st).rcd = s.rcd := State.reply_rcd _ _ _ _ _ _
@[simp] theorem State.busy_die (s : State) (r : HostReq) (op st : Nat) : (s.busy r op st).die = s.die := State.reply_die _ _ _ _ _ _
@[simp] theorem State.busy_psw (s : State) (r : HostReq) (op st : Nat) : (s.busy r op st).psw = s.psw := State.reply_psw _ _ _ _ _ _
@[simp] theorem State.busy_vlv (s : State) (r : HostReq) (op st : Nat) : (s.busy r op st).vlv = s.vlv := State.reply_vlv _ _ _ _ _ _
@[simp] theorem State.busy_col (s : State) (r : HostReq) (op st : Nat) : (s.busy r op st).col = s.col := State.reply_col _ _ _ _ _ _
@[simp] theorem State.busy_sns (s : State) (r : HostReq) (op st : Nat) : (s.busy r op st).sns = s.sns := State.reply_sns _ _ _ _ _ _
@[simp] theorem State.busy_flw (s : State) (r : HostReq) (op st : Nat) : (s.busy r op st).flw = s.flw := State.reply_flw _ _ _ _ _ _
@[simp] theorem State.busy_lop (s : State) (r : HostReq) (op st : Nat) : (s.busy r op st).lop = s.lop := State.reply_lop _ _ _ _ _ _
@[simp] theorem State.busy_prf (s : State) (r : HostReq) (op st : Nat) : (s.busy r op st).prf = s.prf := State.reply_prf _ _ _ _ _ _
@[simp] theorem State.busy_nav (s : State) (r : HostReq) (op st : Nat) : (s.busy r op st).nav = s.nav := State.reply_nav _ _ _ _ _ _
@[simp] theorem State.busy_tim (s : State) (r : HostReq) (op st : Nat) : (s.busy r op st).tim = s.tim := State.reply_tim _ _ _ _ _ _
@[simp] theorem State.busy_str (s : State) (r : HostReq) (op st : Nat) : (s.busy r op st).str = s.str := State.reply_str _ _ _ _ _ _
@[simp] theorem State.busy_yld (s : State) (r : HostReq) (op st : Nat) : (s.busy r op st).yld = s.yld := State.reply_yld _ _ _ _ _ _
@[simp] theorem State.busy_vis (s : State) (r : HostReq) (op st : Nat) : (s.busy r op st).vis = s.vis := State.reply_vis _ _ _ _ _ _
@[simp] theorem State.busy_can (s : State) (r : HostReq) (op st : Nat) : (s.busy r op st).can = s.can := State.reply_can _ _ _ _ _ _
@[simp] theorem State.busy_eth (s : State) (r : HostReq) (op st : Nat) : (s.busy r op st).eth = s.eth := State.reply_eth _ _ _ _ _ _
@[simp] theorem State.busy_updt (s : State) (r : HostReq) (op st : Nat) : (s.busy r op st).updt = s.updt := State.reply_updt _ _ _ _ _ _
@[simp] theorem State.busy_dbg (s : State) (r : HostReq) (op st : Nat) : (s.busy r op st).dbg = s.dbg := State.reply_dbg _ _ _ _ _ _
@[simp] theorem State.busy_fmt (s : State) (r : HostReq) (op st : Nat) : (s.busy r op st).fmt = s.fmt := State.reply_fmt _ _ _ _ _ _
@[simp] theorem State.busy_free (s : State) (r : HostReq) (op st : Nat) : (s.busy r op st).free = s.free := State.reply_free _ _ _ _ _ _
@[simp] theorem State.busy_pending (s : State) (r : HostReq) (op st : Nat) : (s.busy r op st).pending = s.pending := State.reply_pending _ _ _ _ _ _

@[simp] theorem State.setShadow_clk (s : State) (a : Nat) (v : Word) : (s.setShadow a v).clk = s.clk := rfl
@[simp] theorem State.setShadow_pwr (s : State) (a : Nat) (v : Word) : (s.setShadow a v).pwr = s.pwr := rfl
@[simp] theorem State.setShadow_regions (s : State) (a : Nat) (v : Word) : (s.setShadow a v).regions = s.regions := rfl
@[simp] theorem State.setShadow_clRst (s : State) (a : Nat) (v : Word) : (s.setShadow a v).clRst = s.clRst := rfl
@[simp] theorem State.setShadow_bud (s : State) (a : Nat) (v : Word) : (s.setShadow a v).bud = s.bud := rfl
@[simp] theorem State.setShadow_wake (s : State) (a : Nat) (v : Word) : (s.setShadow a v).wake = s.wake := rfl
@[simp] theorem State.setShadow_boot (s : State) (a : Nat) (v : Word) : (s.setShadow a v).boot = s.boot := rfl
@[simp] theorem State.setShadow_flash (s : State) (a : Nat) (v : Word) : (s.setShadow a v).flash = s.flash := rfl
@[simp] theorem State.setShadow_bootRec (s : State) (a : Nat) (v : Word) : (s.setShadow a v).bootRec = s.bootRec := rfl
@[simp] theorem State.setShadow_journal (s : State) (a : Nat) (v : Word) : (s.setShadow a v).journal = s.journal := rfl
@[simp] theorem State.setShadow_fw (s : State) (a : Nat) (v : Word) : (s.setShadow a v).fw = s.fw := rfl
@[simp] theorem State.setShadow_setSlots (s : State) (a : Nat) (v : Word) : (s.setShadow a v).setSlots = s.setSlots := rfl
@[simp] theorem State.setShadow_store (s : State) (a : Nat) (v : Word) : (s.setShadow a v).store = s.store := rfl
@[simp] theorem State.setShadow_img (s : State) (a : Nat) (v : Word) : (s.setShadow a v).img = s.img := rfl
@[simp] theorem State.setShadow_sm (s : State) (a : Nat) (v : Word) : (s.setShadow a v).sm = s.sm := rfl
@[simp] theorem State.setShadow_hst (s : State) (a : Nat) (v : Word) : (s.setShadow a v).hst = s.hst := rfl
@[simp] theorem State.setShadow_rcd (s : State) (a : Nat) (v : Word) : (s.setShadow a v).rcd = s.rcd := rfl
@[simp] theorem State.setShadow_die (s : State) (a : Nat) (v : Word) : (s.setShadow a v).die = s.die := rfl
@[simp] theorem State.setShadow_psw (s : State) (a : Nat) (v : Word) : (s.setShadow a v).psw = s.psw := rfl
@[simp] theorem State.setShadow_vlv (s : State) (a : Nat) (v : Word) : (s.setShadow a v).vlv = s.vlv := rfl
@[simp] theorem State.setShadow_col (s : State) (a : Nat) (v : Word) : (s.setShadow a v).col = s.col := rfl
@[simp] theorem State.setShadow_sns (s : State) (a : Nat) (v : Word) : (s.setShadow a v).sns = s.sns := rfl
@[simp] theorem State.setShadow_flw (s : State) (a : Nat) (v : Word) : (s.setShadow a v).flw = s.flw := rfl
@[simp] theorem State.setShadow_lop (s : State) (a : Nat) (v : Word) : (s.setShadow a v).lop = s.lop := rfl
@[simp] theorem State.setShadow_prf (s : State) (a : Nat) (v : Word) : (s.setShadow a v).prf = s.prf := rfl
@[simp] theorem State.setShadow_nav (s : State) (a : Nat) (v : Word) : (s.setShadow a v).nav = s.nav := rfl
@[simp] theorem State.setShadow_tim (s : State) (a : Nat) (v : Word) : (s.setShadow a v).tim = s.tim := rfl
@[simp] theorem State.setShadow_str (s : State) (a : Nat) (v : Word) : (s.setShadow a v).str = s.str := rfl
@[simp] theorem State.setShadow_yld (s : State) (a : Nat) (v : Word) : (s.setShadow a v).yld = s.yld := rfl
@[simp] theorem State.setShadow_vis (s : State) (a : Nat) (v : Word) : (s.setShadow a v).vis = s.vis := rfl
@[simp] theorem State.setShadow_can (s : State) (a : Nat) (v : Word) : (s.setShadow a v).can = s.can := rfl
@[simp] theorem State.setShadow_eth (s : State) (a : Nat) (v : Word) : (s.setShadow a v).eth = s.eth := rfl
@[simp] theorem State.setShadow_updt (s : State) (a : Nat) (v : Word) : (s.setShadow a v).updt = s.updt := rfl
@[simp] theorem State.setShadow_dbg (s : State) (a : Nat) (v : Word) : (s.setShadow a v).dbg = s.dbg := rfl
@[simp] theorem State.setShadow_fmt (s : State) (a : Nat) (v : Word) : (s.setShadow a v).fmt = s.fmt := rfl
@[simp] theorem State.setShadow_free (s : State) (a : Nat) (v : Word) : (s.setShadow a v).free = s.free := rfl
@[simp] theorem State.setShadow_out (s : State) (a : Nat) (v : Word) : (s.setShadow a v).out = s.out := rfl
@[simp] theorem State.setShadow_pending (s : State) (a : Nat) (v : Word) : (s.setShadow a v).pending = s.pending := rfl

@[simp] theorem State.updRegion_clk (s : State) (n : Nat) (f : Region → Region) : (s.updRegion n f).clk = s.clk := rfl
@[simp] theorem State.updRegion_pwr (s : State) (n : Nat) (f : Region → Region) : (s.updRegion n f).pwr = s.pwr := rfl
@[simp] theorem State.updRegion_clRst (s : State) (n : Nat) (f : Region → Region) : (s.updRegion n f).clRst = s.clRst := rfl
@[simp] theorem State.updRegion_bud (s : State) (n : Nat) (f : Region → Region) : (s.updRegion n f).bud = s.bud := rfl
@[simp] theorem State.updRegion_wake (s : State) (n : Nat) (f : Region → Region) : (s.updRegion n f).wake = s.wake := rfl
@[simp] theorem State.updRegion_boot (s : State) (n : Nat) (f : Region → Region) : (s.updRegion n f).boot = s.boot := rfl
@[simp] theorem State.updRegion_flash (s : State) (n : Nat) (f : Region → Region) : (s.updRegion n f).flash = s.flash := rfl
@[simp] theorem State.updRegion_bootRec (s : State) (n : Nat) (f : Region → Region) : (s.updRegion n f).bootRec = s.bootRec := rfl
@[simp] theorem State.updRegion_journal (s : State) (n : Nat) (f : Region → Region) : (s.updRegion n f).journal = s.journal := rfl
@[simp] theorem State.updRegion_fw (s : State) (n : Nat) (f : Region → Region) : (s.updRegion n f).fw = s.fw := rfl
@[simp] theorem State.updRegion_setSlots (s : State) (n : Nat) (f : Region → Region) : (s.updRegion n f).setSlots = s.setSlots := rfl
@[simp] theorem State.updRegion_store (s : State) (n : Nat) (f : Region → Region) : (s.updRegion n f).store = s.store := rfl
@[simp] theorem State.updRegion_img (s : State) (n : Nat) (f : Region → Region) : (s.updRegion n f).img = s.img := rfl
@[simp] theorem State.updRegion_grp (s : State) (n : Nat) (f : Region → Region) : (s.updRegion n f).grp = s.grp := rfl
@[simp] theorem State.updRegion_sm (s : State) (n : Nat) (f : Region → Region) : (s.updRegion n f).sm = s.sm := rfl
@[simp] theorem State.updRegion_hst (s : State) (n : Nat) (f : Region → Region) : (s.updRegion n f).hst = s.hst := rfl
@[simp] theorem State.updRegion_rcd (s : State) (n : Nat) (f : Region → Region) : (s.updRegion n f).rcd = s.rcd := rfl
@[simp] theorem State.updRegion_die (s : State) (n : Nat) (f : Region → Region) : (s.updRegion n f).die = s.die := rfl
@[simp] theorem State.updRegion_psw (s : State) (n : Nat) (f : Region → Region) : (s.updRegion n f).psw = s.psw := rfl
@[simp] theorem State.updRegion_vlv (s : State) (n : Nat) (f : Region → Region) : (s.updRegion n f).vlv = s.vlv := rfl
@[simp] theorem State.updRegion_col (s : State) (n : Nat) (f : Region → Region) : (s.updRegion n f).col = s.col := rfl
@[simp] theorem State.updRegion_sns (s : State) (n : Nat) (f : Region → Region) : (s.updRegion n f).sns = s.sns := rfl
@[simp] theorem State.updRegion_flw (s : State) (n : Nat) (f : Region → Region) : (s.updRegion n f).flw = s.flw := rfl
@[simp] theorem State.updRegion_lop (s : State) (n : Nat) (f : Region → Region) : (s.updRegion n f).lop = s.lop := rfl
@[simp] theorem State.updRegion_prf (s : State) (n : Nat) (f : Region → Region) : (s.updRegion n f).prf = s.prf := rfl
@[simp] theorem State.updRegion_nav (s : State) (n : Nat) (f : Region → Region) : (s.updRegion n f).nav = s.nav := rfl
@[simp] theorem State.updRegion_tim (s : State) (n : Nat) (f : Region → Region) : (s.updRegion n f).tim = s.tim := rfl
@[simp] theorem State.updRegion_str (s : State) (n : Nat) (f : Region → Region) : (s.updRegion n f).str = s.str := rfl
@[simp] theorem State.updRegion_yld (s : State) (n : Nat) (f : Region → Region) : (s.updRegion n f).yld = s.yld := rfl
@[simp] theorem State.updRegion_vis (s : State) (n : Nat) (f : Region → Region) : (s.updRegion n f).vis = s.vis := rfl
@[simp] theorem State.updRegion_can (s : State) (n : Nat) (f : Region → Region) : (s.updRegion n f).can = s.can := rfl
@[simp] theorem State.updRegion_eth (s : State) (n : Nat) (f : Region → Region) : (s.updRegion n f).eth = s.eth := rfl
@[simp] theorem State.updRegion_updt (s : State) (n : Nat) (f : Region → Region) : (s.updRegion n f).updt = s.updt := rfl
@[simp] theorem State.updRegion_dbg (s : State) (n : Nat) (f : Region → Region) : (s.updRegion n f).dbg = s.dbg := rfl
@[simp] theorem State.updRegion_fmt (s : State) (n : Nat) (f : Region → Region) : (s.updRegion n f).fmt = s.fmt := rfl
@[simp] theorem State.updRegion_free (s : State) (n : Nat) (f : Region → Region) : (s.updRegion n f).free = s.free := rfl
@[simp] theorem State.updRegion_out (s : State) (n : Nat) (f : Region → Region) : (s.updRegion n f).out = s.out := rfl
@[simp] theorem State.updRegion_pending (s : State) (n : Nat) (f : Region → Region) : (s.updRegion n f).pending = s.pending := rfl

@[simp] theorem State.updSm_clk (s : State) (n : Nat) (f : SmSt → SmSt) : (s.updSm n f).clk = s.clk := rfl
@[simp] theorem State.updSm_pwr (s : State) (n : Nat) (f : SmSt → SmSt) : (s.updSm n f).pwr = s.pwr := rfl
@[simp] theorem State.updSm_regions (s : State) (n : Nat) (f : SmSt → SmSt) : (s.updSm n f).regions = s.regions := rfl
@[simp] theorem State.updSm_clRst (s : State) (n : Nat) (f : SmSt → SmSt) : (s.updSm n f).clRst = s.clRst := rfl
@[simp] theorem State.updSm_bud (s : State) (n : Nat) (f : SmSt → SmSt) : (s.updSm n f).bud = s.bud := rfl
@[simp] theorem State.updSm_wake (s : State) (n : Nat) (f : SmSt → SmSt) : (s.updSm n f).wake = s.wake := rfl
@[simp] theorem State.updSm_boot (s : State) (n : Nat) (f : SmSt → SmSt) : (s.updSm n f).boot = s.boot := rfl
@[simp] theorem State.updSm_flash (s : State) (n : Nat) (f : SmSt → SmSt) : (s.updSm n f).flash = s.flash := rfl
@[simp] theorem State.updSm_bootRec (s : State) (n : Nat) (f : SmSt → SmSt) : (s.updSm n f).bootRec = s.bootRec := rfl
@[simp] theorem State.updSm_journal (s : State) (n : Nat) (f : SmSt → SmSt) : (s.updSm n f).journal = s.journal := rfl
@[simp] theorem State.updSm_fw (s : State) (n : Nat) (f : SmSt → SmSt) : (s.updSm n f).fw = s.fw := rfl
@[simp] theorem State.updSm_setSlots (s : State) (n : Nat) (f : SmSt → SmSt) : (s.updSm n f).setSlots = s.setSlots := rfl
@[simp] theorem State.updSm_store (s : State) (n : Nat) (f : SmSt → SmSt) : (s.updSm n f).store = s.store := rfl
@[simp] theorem State.updSm_img (s : State) (n : Nat) (f : SmSt → SmSt) : (s.updSm n f).img = s.img := rfl
@[simp] theorem State.updSm_grp (s : State) (n : Nat) (f : SmSt → SmSt) : (s.updSm n f).grp = s.grp := rfl
@[simp] theorem State.updSm_hst (s : State) (n : Nat) (f : SmSt → SmSt) : (s.updSm n f).hst = s.hst := rfl
@[simp] theorem State.updSm_rcd (s : State) (n : Nat) (f : SmSt → SmSt) : (s.updSm n f).rcd = s.rcd := rfl
@[simp] theorem State.updSm_die (s : State) (n : Nat) (f : SmSt → SmSt) : (s.updSm n f).die = s.die := rfl
@[simp] theorem State.updSm_psw (s : State) (n : Nat) (f : SmSt → SmSt) : (s.updSm n f).psw = s.psw := rfl
@[simp] theorem State.updSm_vlv (s : State) (n : Nat) (f : SmSt → SmSt) : (s.updSm n f).vlv = s.vlv := rfl
@[simp] theorem State.updSm_col (s : State) (n : Nat) (f : SmSt → SmSt) : (s.updSm n f).col = s.col := rfl
@[simp] theorem State.updSm_sns (s : State) (n : Nat) (f : SmSt → SmSt) : (s.updSm n f).sns = s.sns := rfl
@[simp] theorem State.updSm_flw (s : State) (n : Nat) (f : SmSt → SmSt) : (s.updSm n f).flw = s.flw := rfl
@[simp] theorem State.updSm_lop (s : State) (n : Nat) (f : SmSt → SmSt) : (s.updSm n f).lop = s.lop := rfl
@[simp] theorem State.updSm_prf (s : State) (n : Nat) (f : SmSt → SmSt) : (s.updSm n f).prf = s.prf := rfl
@[simp] theorem State.updSm_nav (s : State) (n : Nat) (f : SmSt → SmSt) : (s.updSm n f).nav = s.nav := rfl
@[simp] theorem State.updSm_tim (s : State) (n : Nat) (f : SmSt → SmSt) : (s.updSm n f).tim = s.tim := rfl
@[simp] theorem State.updSm_str (s : State) (n : Nat) (f : SmSt → SmSt) : (s.updSm n f).str = s.str := rfl
@[simp] theorem State.updSm_yld (s : State) (n : Nat) (f : SmSt → SmSt) : (s.updSm n f).yld = s.yld := rfl
@[simp] theorem State.updSm_vis (s : State) (n : Nat) (f : SmSt → SmSt) : (s.updSm n f).vis = s.vis := rfl
@[simp] theorem State.updSm_can (s : State) (n : Nat) (f : SmSt → SmSt) : (s.updSm n f).can = s.can := rfl
@[simp] theorem State.updSm_eth (s : State) (n : Nat) (f : SmSt → SmSt) : (s.updSm n f).eth = s.eth := rfl
@[simp] theorem State.updSm_updt (s : State) (n : Nat) (f : SmSt → SmSt) : (s.updSm n f).updt = s.updt := rfl
@[simp] theorem State.updSm_dbg (s : State) (n : Nat) (f : SmSt → SmSt) : (s.updSm n f).dbg = s.dbg := rfl
@[simp] theorem State.updSm_fmt (s : State) (n : Nat) (f : SmSt → SmSt) : (s.updSm n f).fmt = s.fmt := rfl
@[simp] theorem State.updSm_free (s : State) (n : Nat) (f : SmSt → SmSt) : (s.updSm n f).free = s.free := rfl
@[simp] theorem State.updSm_out (s : State) (n : Nat) (f : SmSt → SmSt) : (s.updSm n f).out = s.out := rfl
@[simp] theorem State.updSm_pending (s : State) (n : Nat) (f : SmSt → SmSt) : (s.updSm n f).pending = s.pending := rfl

@[simp] theorem State.updRec_clk (s : State) (f : RecSt → RecSt) : (s.updRec f).clk = s.clk := rfl
@[simp] theorem State.updRec_pwr (s : State) (f : RecSt → RecSt) : (s.updRec f).pwr = s.pwr := rfl
@[simp] theorem State.updRec_regions (s : State) (f : RecSt → RecSt) : (s.updRec f).regions = s.regions := rfl
@[simp] theorem State.updRec_clRst (s : State) (f : RecSt → RecSt) : (s.updRec f).clRst = s.clRst := rfl
@[simp] theorem State.updRec_bud (s : State) (f : RecSt → RecSt) : (s.updRec f).bud = s.bud := rfl
@[simp] theorem State.updRec_wake (s : State) (f : RecSt → RecSt) : (s.updRec f).wake = s.wake := rfl
@[simp] theorem State.updRec_boot (s : State) (f : RecSt → RecSt) : (s.updRec f).boot = s.boot := rfl
@[simp] theorem State.updRec_flash (s : State) (f : RecSt → RecSt) : (s.updRec f).flash = s.flash := rfl
@[simp] theorem State.updRec_bootRec (s : State) (f : RecSt → RecSt) : (s.updRec f).bootRec = s.bootRec := rfl
@[simp] theorem State.updRec_journal (s : State) (f : RecSt → RecSt) : (s.updRec f).journal = s.journal := rfl
@[simp] theorem State.updRec_fw (s : State) (f : RecSt → RecSt) : (s.updRec f).fw = s.fw := rfl
@[simp] theorem State.updRec_setSlots (s : State) (f : RecSt → RecSt) : (s.updRec f).setSlots = s.setSlots := rfl
@[simp] theorem State.updRec_store (s : State) (f : RecSt → RecSt) : (s.updRec f).store = s.store := rfl
@[simp] theorem State.updRec_img (s : State) (f : RecSt → RecSt) : (s.updRec f).img = s.img := rfl
@[simp] theorem State.updRec_grp (s : State) (f : RecSt → RecSt) : (s.updRec f).grp = s.grp := rfl
@[simp] theorem State.updRec_sm (s : State) (f : RecSt → RecSt) : (s.updRec f).sm = s.sm := rfl
@[simp] theorem State.updRec_hst (s : State) (f : RecSt → RecSt) : (s.updRec f).hst = s.hst := rfl
@[simp] theorem State.updRec_die (s : State) (f : RecSt → RecSt) : (s.updRec f).die = s.die := rfl
@[simp] theorem State.updRec_psw (s : State) (f : RecSt → RecSt) : (s.updRec f).psw = s.psw := rfl
@[simp] theorem State.updRec_vlv (s : State) (f : RecSt → RecSt) : (s.updRec f).vlv = s.vlv := rfl
@[simp] theorem State.updRec_col (s : State) (f : RecSt → RecSt) : (s.updRec f).col = s.col := rfl
@[simp] theorem State.updRec_sns (s : State) (f : RecSt → RecSt) : (s.updRec f).sns = s.sns := rfl
@[simp] theorem State.updRec_flw (s : State) (f : RecSt → RecSt) : (s.updRec f).flw = s.flw := rfl
@[simp] theorem State.updRec_lop (s : State) (f : RecSt → RecSt) : (s.updRec f).lop = s.lop := rfl
@[simp] theorem State.updRec_prf (s : State) (f : RecSt → RecSt) : (s.updRec f).prf = s.prf := rfl
@[simp] theorem State.updRec_nav (s : State) (f : RecSt → RecSt) : (s.updRec f).nav = s.nav := rfl
@[simp] theorem State.updRec_tim (s : State) (f : RecSt → RecSt) : (s.updRec f).tim = s.tim := rfl
@[simp] theorem State.updRec_str (s : State) (f : RecSt → RecSt) : (s.updRec f).str = s.str := rfl
@[simp] theorem State.updRec_yld (s : State) (f : RecSt → RecSt) : (s.updRec f).yld = s.yld := rfl
@[simp] theorem State.updRec_vis (s : State) (f : RecSt → RecSt) : (s.updRec f).vis = s.vis := rfl
@[simp] theorem State.updRec_can (s : State) (f : RecSt → RecSt) : (s.updRec f).can = s.can := rfl
@[simp] theorem State.updRec_eth (s : State) (f : RecSt → RecSt) : (s.updRec f).eth = s.eth := rfl
@[simp] theorem State.updRec_updt (s : State) (f : RecSt → RecSt) : (s.updRec f).updt = s.updt := rfl
@[simp] theorem State.updRec_dbg (s : State) (f : RecSt → RecSt) : (s.updRec f).dbg = s.dbg := rfl
@[simp] theorem State.updRec_fmt (s : State) (f : RecSt → RecSt) : (s.updRec f).fmt = s.fmt := rfl
@[simp] theorem State.updRec_free (s : State) (f : RecSt → RecSt) : (s.updRec f).free = s.free := rfl
@[simp] theorem State.updRec_out (s : State) (f : RecSt → RecSt) : (s.updRec f).out = s.out := rfl
@[simp] theorem State.updRec_pending (s : State) (f : RecSt → RecSt) : (s.updRec f).pending = s.pending := rfl

@[simp] theorem State.updDie_clk (s : State) (n : Nat) (f : DieSt → DieSt) : (s.updDie n f).clk = s.clk := rfl
@[simp] theorem State.updDie_pwr (s : State) (n : Nat) (f : DieSt → DieSt) : (s.updDie n f).pwr = s.pwr := rfl
@[simp] theorem State.updDie_regions (s : State) (n : Nat) (f : DieSt → DieSt) : (s.updDie n f).regions = s.regions := rfl
@[simp] theorem State.updDie_clRst (s : State) (n : Nat) (f : DieSt → DieSt) : (s.updDie n f).clRst = s.clRst := rfl
@[simp] theorem State.updDie_bud (s : State) (n : Nat) (f : DieSt → DieSt) : (s.updDie n f).bud = s.bud := rfl
@[simp] theorem State.updDie_wake (s : State) (n : Nat) (f : DieSt → DieSt) : (s.updDie n f).wake = s.wake := rfl
@[simp] theorem State.updDie_boot (s : State) (n : Nat) (f : DieSt → DieSt) : (s.updDie n f).boot = s.boot := rfl
@[simp] theorem State.updDie_flash (s : State) (n : Nat) (f : DieSt → DieSt) : (s.updDie n f).flash = s.flash := rfl
@[simp] theorem State.updDie_bootRec (s : State) (n : Nat) (f : DieSt → DieSt) : (s.updDie n f).bootRec = s.bootRec := rfl
@[simp] theorem State.updDie_journal (s : State) (n : Nat) (f : DieSt → DieSt) : (s.updDie n f).journal = s.journal := rfl
@[simp] theorem State.updDie_fw (s : State) (n : Nat) (f : DieSt → DieSt) : (s.updDie n f).fw = s.fw := rfl
@[simp] theorem State.updDie_setSlots (s : State) (n : Nat) (f : DieSt → DieSt) : (s.updDie n f).setSlots = s.setSlots := rfl
@[simp] theorem State.updDie_store (s : State) (n : Nat) (f : DieSt → DieSt) : (s.updDie n f).store = s.store := rfl
@[simp] theorem State.updDie_img (s : State) (n : Nat) (f : DieSt → DieSt) : (s.updDie n f).img = s.img := rfl
@[simp] theorem State.updDie_grp (s : State) (n : Nat) (f : DieSt → DieSt) : (s.updDie n f).grp = s.grp := rfl
@[simp] theorem State.updDie_sm (s : State) (n : Nat) (f : DieSt → DieSt) : (s.updDie n f).sm = s.sm := rfl
@[simp] theorem State.updDie_hst (s : State) (n : Nat) (f : DieSt → DieSt) : (s.updDie n f).hst = s.hst := rfl
@[simp] theorem State.updDie_rcd (s : State) (n : Nat) (f : DieSt → DieSt) : (s.updDie n f).rcd = s.rcd := rfl
@[simp] theorem State.updDie_psw (s : State) (n : Nat) (f : DieSt → DieSt) : (s.updDie n f).psw = s.psw := rfl
@[simp] theorem State.updDie_vlv (s : State) (n : Nat) (f : DieSt → DieSt) : (s.updDie n f).vlv = s.vlv := rfl
@[simp] theorem State.updDie_col (s : State) (n : Nat) (f : DieSt → DieSt) : (s.updDie n f).col = s.col := rfl
@[simp] theorem State.updDie_sns (s : State) (n : Nat) (f : DieSt → DieSt) : (s.updDie n f).sns = s.sns := rfl
@[simp] theorem State.updDie_flw (s : State) (n : Nat) (f : DieSt → DieSt) : (s.updDie n f).flw = s.flw := rfl
@[simp] theorem State.updDie_lop (s : State) (n : Nat) (f : DieSt → DieSt) : (s.updDie n f).lop = s.lop := rfl
@[simp] theorem State.updDie_prf (s : State) (n : Nat) (f : DieSt → DieSt) : (s.updDie n f).prf = s.prf := rfl
@[simp] theorem State.updDie_nav (s : State) (n : Nat) (f : DieSt → DieSt) : (s.updDie n f).nav = s.nav := rfl
@[simp] theorem State.updDie_tim (s : State) (n : Nat) (f : DieSt → DieSt) : (s.updDie n f).tim = s.tim := rfl
@[simp] theorem State.updDie_str (s : State) (n : Nat) (f : DieSt → DieSt) : (s.updDie n f).str = s.str := rfl
@[simp] theorem State.updDie_yld (s : State) (n : Nat) (f : DieSt → DieSt) : (s.updDie n f).yld = s.yld := rfl
@[simp] theorem State.updDie_vis (s : State) (n : Nat) (f : DieSt → DieSt) : (s.updDie n f).vis = s.vis := rfl
@[simp] theorem State.updDie_can (s : State) (n : Nat) (f : DieSt → DieSt) : (s.updDie n f).can = s.can := rfl
@[simp] theorem State.updDie_eth (s : State) (n : Nat) (f : DieSt → DieSt) : (s.updDie n f).eth = s.eth := rfl
@[simp] theorem State.updDie_updt (s : State) (n : Nat) (f : DieSt → DieSt) : (s.updDie n f).updt = s.updt := rfl
@[simp] theorem State.updDie_dbg (s : State) (n : Nat) (f : DieSt → DieSt) : (s.updDie n f).dbg = s.dbg := rfl
@[simp] theorem State.updDie_fmt (s : State) (n : Nat) (f : DieSt → DieSt) : (s.updDie n f).fmt = s.fmt := rfl
@[simp] theorem State.updDie_free (s : State) (n : Nat) (f : DieSt → DieSt) : (s.updDie n f).free = s.free := rfl
@[simp] theorem State.updDie_out (s : State) (n : Nat) (f : DieSt → DieSt) : (s.updDie n f).out = s.out := rfl
@[simp] theorem State.updDie_pending (s : State) (n : Nat) (f : DieSt → DieSt) : (s.updDie n f).pending = s.pending := rfl

@[simp] theorem State.updPsw_clk (s : State) (n : Nat) (f : PswCh → PswCh) : (s.updPsw n f).clk = s.clk := rfl
@[simp] theorem State.updPsw_pwr (s : State) (n : Nat) (f : PswCh → PswCh) : (s.updPsw n f).pwr = s.pwr := rfl
@[simp] theorem State.updPsw_regions (s : State) (n : Nat) (f : PswCh → PswCh) : (s.updPsw n f).regions = s.regions := rfl
@[simp] theorem State.updPsw_clRst (s : State) (n : Nat) (f : PswCh → PswCh) : (s.updPsw n f).clRst = s.clRst := rfl
@[simp] theorem State.updPsw_bud (s : State) (n : Nat) (f : PswCh → PswCh) : (s.updPsw n f).bud = s.bud := rfl
@[simp] theorem State.updPsw_wake (s : State) (n : Nat) (f : PswCh → PswCh) : (s.updPsw n f).wake = s.wake := rfl
@[simp] theorem State.updPsw_boot (s : State) (n : Nat) (f : PswCh → PswCh) : (s.updPsw n f).boot = s.boot := rfl
@[simp] theorem State.updPsw_flash (s : State) (n : Nat) (f : PswCh → PswCh) : (s.updPsw n f).flash = s.flash := rfl
@[simp] theorem State.updPsw_bootRec (s : State) (n : Nat) (f : PswCh → PswCh) : (s.updPsw n f).bootRec = s.bootRec := rfl
@[simp] theorem State.updPsw_journal (s : State) (n : Nat) (f : PswCh → PswCh) : (s.updPsw n f).journal = s.journal := rfl
@[simp] theorem State.updPsw_fw (s : State) (n : Nat) (f : PswCh → PswCh) : (s.updPsw n f).fw = s.fw := rfl
@[simp] theorem State.updPsw_setSlots (s : State) (n : Nat) (f : PswCh → PswCh) : (s.updPsw n f).setSlots = s.setSlots := rfl
@[simp] theorem State.updPsw_store (s : State) (n : Nat) (f : PswCh → PswCh) : (s.updPsw n f).store = s.store := rfl
@[simp] theorem State.updPsw_img (s : State) (n : Nat) (f : PswCh → PswCh) : (s.updPsw n f).img = s.img := rfl
@[simp] theorem State.updPsw_grp (s : State) (n : Nat) (f : PswCh → PswCh) : (s.updPsw n f).grp = s.grp := rfl
@[simp] theorem State.updPsw_sm (s : State) (n : Nat) (f : PswCh → PswCh) : (s.updPsw n f).sm = s.sm := rfl
@[simp] theorem State.updPsw_hst (s : State) (n : Nat) (f : PswCh → PswCh) : (s.updPsw n f).hst = s.hst := rfl
@[simp] theorem State.updPsw_rcd (s : State) (n : Nat) (f : PswCh → PswCh) : (s.updPsw n f).rcd = s.rcd := rfl
@[simp] theorem State.updPsw_die (s : State) (n : Nat) (f : PswCh → PswCh) : (s.updPsw n f).die = s.die := rfl
@[simp] theorem State.updPsw_vlv (s : State) (n : Nat) (f : PswCh → PswCh) : (s.updPsw n f).vlv = s.vlv := rfl
@[simp] theorem State.updPsw_col (s : State) (n : Nat) (f : PswCh → PswCh) : (s.updPsw n f).col = s.col := rfl
@[simp] theorem State.updPsw_sns (s : State) (n : Nat) (f : PswCh → PswCh) : (s.updPsw n f).sns = s.sns := rfl
@[simp] theorem State.updPsw_flw (s : State) (n : Nat) (f : PswCh → PswCh) : (s.updPsw n f).flw = s.flw := rfl
@[simp] theorem State.updPsw_lop (s : State) (n : Nat) (f : PswCh → PswCh) : (s.updPsw n f).lop = s.lop := rfl
@[simp] theorem State.updPsw_prf (s : State) (n : Nat) (f : PswCh → PswCh) : (s.updPsw n f).prf = s.prf := rfl
@[simp] theorem State.updPsw_nav (s : State) (n : Nat) (f : PswCh → PswCh) : (s.updPsw n f).nav = s.nav := rfl
@[simp] theorem State.updPsw_tim (s : State) (n : Nat) (f : PswCh → PswCh) : (s.updPsw n f).tim = s.tim := rfl
@[simp] theorem State.updPsw_str (s : State) (n : Nat) (f : PswCh → PswCh) : (s.updPsw n f).str = s.str := rfl
@[simp] theorem State.updPsw_yld (s : State) (n : Nat) (f : PswCh → PswCh) : (s.updPsw n f).yld = s.yld := rfl
@[simp] theorem State.updPsw_vis (s : State) (n : Nat) (f : PswCh → PswCh) : (s.updPsw n f).vis = s.vis := rfl
@[simp] theorem State.updPsw_can (s : State) (n : Nat) (f : PswCh → PswCh) : (s.updPsw n f).can = s.can := rfl
@[simp] theorem State.updPsw_eth (s : State) (n : Nat) (f : PswCh → PswCh) : (s.updPsw n f).eth = s.eth := rfl
@[simp] theorem State.updPsw_updt (s : State) (n : Nat) (f : PswCh → PswCh) : (s.updPsw n f).updt = s.updt := rfl
@[simp] theorem State.updPsw_dbg (s : State) (n : Nat) (f : PswCh → PswCh) : (s.updPsw n f).dbg = s.dbg := rfl
@[simp] theorem State.updPsw_fmt (s : State) (n : Nat) (f : PswCh → PswCh) : (s.updPsw n f).fmt = s.fmt := rfl
@[simp] theorem State.updPsw_free (s : State) (n : Nat) (f : PswCh → PswCh) : (s.updPsw n f).free = s.free := rfl
@[simp] theorem State.updPsw_out (s : State) (n : Nat) (f : PswCh → PswCh) : (s.updPsw n f).out = s.out := rfl
@[simp] theorem State.updPsw_pending (s : State) (n : Nat) (f : PswCh → PswCh) : (s.updPsw n f).pending = s.pending := rfl

@[simp] theorem State.updVlv_clk (s : State) (n : Nat) (f : VlvCh → VlvCh) : (s.updVlv n f).clk = s.clk := rfl
@[simp] theorem State.updVlv_pwr (s : State) (n : Nat) (f : VlvCh → VlvCh) : (s.updVlv n f).pwr = s.pwr := rfl
@[simp] theorem State.updVlv_regions (s : State) (n : Nat) (f : VlvCh → VlvCh) : (s.updVlv n f).regions = s.regions := rfl
@[simp] theorem State.updVlv_clRst (s : State) (n : Nat) (f : VlvCh → VlvCh) : (s.updVlv n f).clRst = s.clRst := rfl
@[simp] theorem State.updVlv_bud (s : State) (n : Nat) (f : VlvCh → VlvCh) : (s.updVlv n f).bud = s.bud := rfl
@[simp] theorem State.updVlv_wake (s : State) (n : Nat) (f : VlvCh → VlvCh) : (s.updVlv n f).wake = s.wake := rfl
@[simp] theorem State.updVlv_boot (s : State) (n : Nat) (f : VlvCh → VlvCh) : (s.updVlv n f).boot = s.boot := rfl
@[simp] theorem State.updVlv_flash (s : State) (n : Nat) (f : VlvCh → VlvCh) : (s.updVlv n f).flash = s.flash := rfl
@[simp] theorem State.updVlv_bootRec (s : State) (n : Nat) (f : VlvCh → VlvCh) : (s.updVlv n f).bootRec = s.bootRec := rfl
@[simp] theorem State.updVlv_journal (s : State) (n : Nat) (f : VlvCh → VlvCh) : (s.updVlv n f).journal = s.journal := rfl
@[simp] theorem State.updVlv_fw (s : State) (n : Nat) (f : VlvCh → VlvCh) : (s.updVlv n f).fw = s.fw := rfl
@[simp] theorem State.updVlv_setSlots (s : State) (n : Nat) (f : VlvCh → VlvCh) : (s.updVlv n f).setSlots = s.setSlots := rfl
@[simp] theorem State.updVlv_store (s : State) (n : Nat) (f : VlvCh → VlvCh) : (s.updVlv n f).store = s.store := rfl
@[simp] theorem State.updVlv_img (s : State) (n : Nat) (f : VlvCh → VlvCh) : (s.updVlv n f).img = s.img := rfl
@[simp] theorem State.updVlv_grp (s : State) (n : Nat) (f : VlvCh → VlvCh) : (s.updVlv n f).grp = s.grp := rfl
@[simp] theorem State.updVlv_sm (s : State) (n : Nat) (f : VlvCh → VlvCh) : (s.updVlv n f).sm = s.sm := rfl
@[simp] theorem State.updVlv_hst (s : State) (n : Nat) (f : VlvCh → VlvCh) : (s.updVlv n f).hst = s.hst := rfl
@[simp] theorem State.updVlv_rcd (s : State) (n : Nat) (f : VlvCh → VlvCh) : (s.updVlv n f).rcd = s.rcd := rfl
@[simp] theorem State.updVlv_die (s : State) (n : Nat) (f : VlvCh → VlvCh) : (s.updVlv n f).die = s.die := rfl
@[simp] theorem State.updVlv_psw (s : State) (n : Nat) (f : VlvCh → VlvCh) : (s.updVlv n f).psw = s.psw := rfl
@[simp] theorem State.updVlv_col (s : State) (n : Nat) (f : VlvCh → VlvCh) : (s.updVlv n f).col = s.col := rfl
@[simp] theorem State.updVlv_sns (s : State) (n : Nat) (f : VlvCh → VlvCh) : (s.updVlv n f).sns = s.sns := rfl
@[simp] theorem State.updVlv_flw (s : State) (n : Nat) (f : VlvCh → VlvCh) : (s.updVlv n f).flw = s.flw := rfl
@[simp] theorem State.updVlv_lop (s : State) (n : Nat) (f : VlvCh → VlvCh) : (s.updVlv n f).lop = s.lop := rfl
@[simp] theorem State.updVlv_prf (s : State) (n : Nat) (f : VlvCh → VlvCh) : (s.updVlv n f).prf = s.prf := rfl
@[simp] theorem State.updVlv_nav (s : State) (n : Nat) (f : VlvCh → VlvCh) : (s.updVlv n f).nav = s.nav := rfl
@[simp] theorem State.updVlv_tim (s : State) (n : Nat) (f : VlvCh → VlvCh) : (s.updVlv n f).tim = s.tim := rfl
@[simp] theorem State.updVlv_str (s : State) (n : Nat) (f : VlvCh → VlvCh) : (s.updVlv n f).str = s.str := rfl
@[simp] theorem State.updVlv_yld (s : State) (n : Nat) (f : VlvCh → VlvCh) : (s.updVlv n f).yld = s.yld := rfl
@[simp] theorem State.updVlv_vis (s : State) (n : Nat) (f : VlvCh → VlvCh) : (s.updVlv n f).vis = s.vis := rfl
@[simp] theorem State.updVlv_can (s : State) (n : Nat) (f : VlvCh → VlvCh) : (s.updVlv n f).can = s.can := rfl
@[simp] theorem State.updVlv_eth (s : State) (n : Nat) (f : VlvCh → VlvCh) : (s.updVlv n f).eth = s.eth := rfl
@[simp] theorem State.updVlv_updt (s : State) (n : Nat) (f : VlvCh → VlvCh) : (s.updVlv n f).updt = s.updt := rfl
@[simp] theorem State.updVlv_dbg (s : State) (n : Nat) (f : VlvCh → VlvCh) : (s.updVlv n f).dbg = s.dbg := rfl
@[simp] theorem State.updVlv_fmt (s : State) (n : Nat) (f : VlvCh → VlvCh) : (s.updVlv n f).fmt = s.fmt := rfl
@[simp] theorem State.updVlv_free (s : State) (n : Nat) (f : VlvCh → VlvCh) : (s.updVlv n f).free = s.free := rfl
@[simp] theorem State.updVlv_out (s : State) (n : Nat) (f : VlvCh → VlvCh) : (s.updVlv n f).out = s.out := rfl
@[simp] theorem State.updVlv_pending (s : State) (n : Nat) (f : VlvCh → VlvCh) : (s.updVlv n f).pending = s.pending := rfl

@[simp] theorem State.updBank_clk (s : State) (n : Nat) (f : Bank → Bank) : (s.updBank n f).clk = s.clk := rfl
@[simp] theorem State.updBank_pwr (s : State) (n : Nat) (f : Bank → Bank) : (s.updBank n f).pwr = s.pwr := rfl
@[simp] theorem State.updBank_regions (s : State) (n : Nat) (f : Bank → Bank) : (s.updBank n f).regions = s.regions := rfl
@[simp] theorem State.updBank_clRst (s : State) (n : Nat) (f : Bank → Bank) : (s.updBank n f).clRst = s.clRst := rfl
@[simp] theorem State.updBank_bud (s : State) (n : Nat) (f : Bank → Bank) : (s.updBank n f).bud = s.bud := rfl
@[simp] theorem State.updBank_wake (s : State) (n : Nat) (f : Bank → Bank) : (s.updBank n f).wake = s.wake := rfl
@[simp] theorem State.updBank_boot (s : State) (n : Nat) (f : Bank → Bank) : (s.updBank n f).boot = s.boot := rfl
@[simp] theorem State.updBank_flash (s : State) (n : Nat) (f : Bank → Bank) : (s.updBank n f).flash = s.flash := rfl
@[simp] theorem State.updBank_bootRec (s : State) (n : Nat) (f : Bank → Bank) : (s.updBank n f).bootRec = s.bootRec := rfl
@[simp] theorem State.updBank_journal (s : State) (n : Nat) (f : Bank → Bank) : (s.updBank n f).journal = s.journal := rfl
@[simp] theorem State.updBank_fw (s : State) (n : Nat) (f : Bank → Bank) : (s.updBank n f).fw = s.fw := rfl
@[simp] theorem State.updBank_setSlots (s : State) (n : Nat) (f : Bank → Bank) : (s.updBank n f).setSlots = s.setSlots := rfl
@[simp] theorem State.updBank_store (s : State) (n : Nat) (f : Bank → Bank) : (s.updBank n f).store = s.store := rfl
@[simp] theorem State.updBank_img (s : State) (n : Nat) (f : Bank → Bank) : (s.updBank n f).img = s.img := rfl
@[simp] theorem State.updBank_grp (s : State) (n : Nat) (f : Bank → Bank) : (s.updBank n f).grp = s.grp := rfl
@[simp] theorem State.updBank_sm (s : State) (n : Nat) (f : Bank → Bank) : (s.updBank n f).sm = s.sm := rfl
@[simp] theorem State.updBank_hst (s : State) (n : Nat) (f : Bank → Bank) : (s.updBank n f).hst = s.hst := rfl
@[simp] theorem State.updBank_rcd (s : State) (n : Nat) (f : Bank → Bank) : (s.updBank n f).rcd = s.rcd := rfl
@[simp] theorem State.updBank_die (s : State) (n : Nat) (f : Bank → Bank) : (s.updBank n f).die = s.die := rfl
@[simp] theorem State.updBank_psw (s : State) (n : Nat) (f : Bank → Bank) : (s.updBank n f).psw = s.psw := rfl
@[simp] theorem State.updBank_col (s : State) (n : Nat) (f : Bank → Bank) : (s.updBank n f).col = s.col := rfl
@[simp] theorem State.updBank_sns (s : State) (n : Nat) (f : Bank → Bank) : (s.updBank n f).sns = s.sns := rfl
@[simp] theorem State.updBank_flw (s : State) (n : Nat) (f : Bank → Bank) : (s.updBank n f).flw = s.flw := rfl
@[simp] theorem State.updBank_lop (s : State) (n : Nat) (f : Bank → Bank) : (s.updBank n f).lop = s.lop := rfl
@[simp] theorem State.updBank_prf (s : State) (n : Nat) (f : Bank → Bank) : (s.updBank n f).prf = s.prf := rfl
@[simp] theorem State.updBank_nav (s : State) (n : Nat) (f : Bank → Bank) : (s.updBank n f).nav = s.nav := rfl
@[simp] theorem State.updBank_tim (s : State) (n : Nat) (f : Bank → Bank) : (s.updBank n f).tim = s.tim := rfl
@[simp] theorem State.updBank_str (s : State) (n : Nat) (f : Bank → Bank) : (s.updBank n f).str = s.str := rfl
@[simp] theorem State.updBank_yld (s : State) (n : Nat) (f : Bank → Bank) : (s.updBank n f).yld = s.yld := rfl
@[simp] theorem State.updBank_vis (s : State) (n : Nat) (f : Bank → Bank) : (s.updBank n f).vis = s.vis := rfl
@[simp] theorem State.updBank_can (s : State) (n : Nat) (f : Bank → Bank) : (s.updBank n f).can = s.can := rfl
@[simp] theorem State.updBank_eth (s : State) (n : Nat) (f : Bank → Bank) : (s.updBank n f).eth = s.eth := rfl
@[simp] theorem State.updBank_updt (s : State) (n : Nat) (f : Bank → Bank) : (s.updBank n f).updt = s.updt := rfl
@[simp] theorem State.updBank_dbg (s : State) (n : Nat) (f : Bank → Bank) : (s.updBank n f).dbg = s.dbg := rfl
@[simp] theorem State.updBank_fmt (s : State) (n : Nat) (f : Bank → Bank) : (s.updBank n f).fmt = s.fmt := rfl
@[simp] theorem State.updBank_free (s : State) (n : Nat) (f : Bank → Bank) : (s.updBank n f).free = s.free := rfl
@[simp] theorem State.updBank_out (s : State) (n : Nat) (f : Bank → Bank) : (s.updBank n f).out = s.out := rfl
@[simp] theorem State.updBank_pending (s : State) (n : Nat) (f : Bank → Bank) : (s.updBank n f).pending = s.pending := rfl

@[simp] theorem State.updCol_clk (s : State) (n : Nat) (f : ColCh → ColCh) : (s.updCol n f).clk = s.clk := rfl
@[simp] theorem State.updCol_pwr (s : State) (n : Nat) (f : ColCh → ColCh) : (s.updCol n f).pwr = s.pwr := rfl
@[simp] theorem State.updCol_regions (s : State) (n : Nat) (f : ColCh → ColCh) : (s.updCol n f).regions = s.regions := rfl
@[simp] theorem State.updCol_clRst (s : State) (n : Nat) (f : ColCh → ColCh) : (s.updCol n f).clRst = s.clRst := rfl
@[simp] theorem State.updCol_bud (s : State) (n : Nat) (f : ColCh → ColCh) : (s.updCol n f).bud = s.bud := rfl
@[simp] theorem State.updCol_wake (s : State) (n : Nat) (f : ColCh → ColCh) : (s.updCol n f).wake = s.wake := rfl
@[simp] theorem State.updCol_boot (s : State) (n : Nat) (f : ColCh → ColCh) : (s.updCol n f).boot = s.boot := rfl
@[simp] theorem State.updCol_flash (s : State) (n : Nat) (f : ColCh → ColCh) : (s.updCol n f).flash = s.flash := rfl
@[simp] theorem State.updCol_bootRec (s : State) (n : Nat) (f : ColCh → ColCh) : (s.updCol n f).bootRec = s.bootRec := rfl
@[simp] theorem State.updCol_journal (s : State) (n : Nat) (f : ColCh → ColCh) : (s.updCol n f).journal = s.journal := rfl
@[simp] theorem State.updCol_fw (s : State) (n : Nat) (f : ColCh → ColCh) : (s.updCol n f).fw = s.fw := rfl
@[simp] theorem State.updCol_setSlots (s : State) (n : Nat) (f : ColCh → ColCh) : (s.updCol n f).setSlots = s.setSlots := rfl
@[simp] theorem State.updCol_store (s : State) (n : Nat) (f : ColCh → ColCh) : (s.updCol n f).store = s.store := rfl
@[simp] theorem State.updCol_img (s : State) (n : Nat) (f : ColCh → ColCh) : (s.updCol n f).img = s.img := rfl
@[simp] theorem State.updCol_grp (s : State) (n : Nat) (f : ColCh → ColCh) : (s.updCol n f).grp = s.grp := rfl
@[simp] theorem State.updCol_sm (s : State) (n : Nat) (f : ColCh → ColCh) : (s.updCol n f).sm = s.sm := rfl
@[simp] theorem State.updCol_hst (s : State) (n : Nat) (f : ColCh → ColCh) : (s.updCol n f).hst = s.hst := rfl
@[simp] theorem State.updCol_rcd (s : State) (n : Nat) (f : ColCh → ColCh) : (s.updCol n f).rcd = s.rcd := rfl
@[simp] theorem State.updCol_die (s : State) (n : Nat) (f : ColCh → ColCh) : (s.updCol n f).die = s.die := rfl
@[simp] theorem State.updCol_psw (s : State) (n : Nat) (f : ColCh → ColCh) : (s.updCol n f).psw = s.psw := rfl
@[simp] theorem State.updCol_vlv (s : State) (n : Nat) (f : ColCh → ColCh) : (s.updCol n f).vlv = s.vlv := rfl
@[simp] theorem State.updCol_sns (s : State) (n : Nat) (f : ColCh → ColCh) : (s.updCol n f).sns = s.sns := rfl
@[simp] theorem State.updCol_flw (s : State) (n : Nat) (f : ColCh → ColCh) : (s.updCol n f).flw = s.flw := rfl
@[simp] theorem State.updCol_lop (s : State) (n : Nat) (f : ColCh → ColCh) : (s.updCol n f).lop = s.lop := rfl
@[simp] theorem State.updCol_prf (s : State) (n : Nat) (f : ColCh → ColCh) : (s.updCol n f).prf = s.prf := rfl
@[simp] theorem State.updCol_nav (s : State) (n : Nat) (f : ColCh → ColCh) : (s.updCol n f).nav = s.nav := rfl
@[simp] theorem State.updCol_tim (s : State) (n : Nat) (f : ColCh → ColCh) : (s.updCol n f).tim = s.tim := rfl
@[simp] theorem State.updCol_str (s : State) (n : Nat) (f : ColCh → ColCh) : (s.updCol n f).str = s.str := rfl
@[simp] theorem State.updCol_yld (s : State) (n : Nat) (f : ColCh → ColCh) : (s.updCol n f).yld = s.yld := rfl
@[simp] theorem State.updCol_vis (s : State) (n : Nat) (f : ColCh → ColCh) : (s.updCol n f).vis = s.vis := rfl
@[simp] theorem State.updCol_can (s : State) (n : Nat) (f : ColCh → ColCh) : (s.updCol n f).can = s.can := rfl
@[simp] theorem State.updCol_eth (s : State) (n : Nat) (f : ColCh → ColCh) : (s.updCol n f).eth = s.eth := rfl
@[simp] theorem State.updCol_updt (s : State) (n : Nat) (f : ColCh → ColCh) : (s.updCol n f).updt = s.updt := rfl
@[simp] theorem State.updCol_dbg (s : State) (n : Nat) (f : ColCh → ColCh) : (s.updCol n f).dbg = s.dbg := rfl
@[simp] theorem State.updCol_fmt (s : State) (n : Nat) (f : ColCh → ColCh) : (s.updCol n f).fmt = s.fmt := rfl
@[simp] theorem State.updCol_free (s : State) (n : Nat) (f : ColCh → ColCh) : (s.updCol n f).free = s.free := rfl
@[simp] theorem State.updCol_out (s : State) (n : Nat) (f : ColCh → ColCh) : (s.updCol n f).out = s.out := rfl
@[simp] theorem State.updCol_pending (s : State) (n : Nat) (f : ColCh → ColCh) : (s.updCol n f).pending = s.pending := rfl

@[simp] theorem State.updSns_clk (s : State) (f : SnsSt → SnsSt) : (s.updSns f).clk = s.clk := rfl
@[simp] theorem State.updSns_pwr (s : State) (f : SnsSt → SnsSt) : (s.updSns f).pwr = s.pwr := rfl
@[simp] theorem State.updSns_regions (s : State) (f : SnsSt → SnsSt) : (s.updSns f).regions = s.regions := rfl
@[simp] theorem State.updSns_clRst (s : State) (f : SnsSt → SnsSt) : (s.updSns f).clRst = s.clRst := rfl
@[simp] theorem State.updSns_bud (s : State) (f : SnsSt → SnsSt) : (s.updSns f).bud = s.bud := rfl
@[simp] theorem State.updSns_wake (s : State) (f : SnsSt → SnsSt) : (s.updSns f).wake = s.wake := rfl
@[simp] theorem State.updSns_boot (s : State) (f : SnsSt → SnsSt) : (s.updSns f).boot = s.boot := rfl
@[simp] theorem State.updSns_flash (s : State) (f : SnsSt → SnsSt) : (s.updSns f).flash = s.flash := rfl
@[simp] theorem State.updSns_bootRec (s : State) (f : SnsSt → SnsSt) : (s.updSns f).bootRec = s.bootRec := rfl
@[simp] theorem State.updSns_journal (s : State) (f : SnsSt → SnsSt) : (s.updSns f).journal = s.journal := rfl
@[simp] theorem State.updSns_fw (s : State) (f : SnsSt → SnsSt) : (s.updSns f).fw = s.fw := rfl
@[simp] theorem State.updSns_setSlots (s : State) (f : SnsSt → SnsSt) : (s.updSns f).setSlots = s.setSlots := rfl
@[simp] theorem State.updSns_store (s : State) (f : SnsSt → SnsSt) : (s.updSns f).store = s.store := rfl
@[simp] theorem State.updSns_img (s : State) (f : SnsSt → SnsSt) : (s.updSns f).img = s.img := rfl
@[simp] theorem State.updSns_grp (s : State) (f : SnsSt → SnsSt) : (s.updSns f).grp = s.grp := rfl
@[simp] theorem State.updSns_sm (s : State) (f : SnsSt → SnsSt) : (s.updSns f).sm = s.sm := rfl
@[simp] theorem State.updSns_hst (s : State) (f : SnsSt → SnsSt) : (s.updSns f).hst = s.hst := rfl
@[simp] theorem State.updSns_rcd (s : State) (f : SnsSt → SnsSt) : (s.updSns f).rcd = s.rcd := rfl
@[simp] theorem State.updSns_die (s : State) (f : SnsSt → SnsSt) : (s.updSns f).die = s.die := rfl
@[simp] theorem State.updSns_psw (s : State) (f : SnsSt → SnsSt) : (s.updSns f).psw = s.psw := rfl
@[simp] theorem State.updSns_vlv (s : State) (f : SnsSt → SnsSt) : (s.updSns f).vlv = s.vlv := rfl
@[simp] theorem State.updSns_col (s : State) (f : SnsSt → SnsSt) : (s.updSns f).col = s.col := rfl
@[simp] theorem State.updSns_flw (s : State) (f : SnsSt → SnsSt) : (s.updSns f).flw = s.flw := rfl
@[simp] theorem State.updSns_lop (s : State) (f : SnsSt → SnsSt) : (s.updSns f).lop = s.lop := rfl
@[simp] theorem State.updSns_prf (s : State) (f : SnsSt → SnsSt) : (s.updSns f).prf = s.prf := rfl
@[simp] theorem State.updSns_nav (s : State) (f : SnsSt → SnsSt) : (s.updSns f).nav = s.nav := rfl
@[simp] theorem State.updSns_tim (s : State) (f : SnsSt → SnsSt) : (s.updSns f).tim = s.tim := rfl
@[simp] theorem State.updSns_str (s : State) (f : SnsSt → SnsSt) : (s.updSns f).str = s.str := rfl
@[simp] theorem State.updSns_yld (s : State) (f : SnsSt → SnsSt) : (s.updSns f).yld = s.yld := rfl
@[simp] theorem State.updSns_vis (s : State) (f : SnsSt → SnsSt) : (s.updSns f).vis = s.vis := rfl
@[simp] theorem State.updSns_can (s : State) (f : SnsSt → SnsSt) : (s.updSns f).can = s.can := rfl
@[simp] theorem State.updSns_eth (s : State) (f : SnsSt → SnsSt) : (s.updSns f).eth = s.eth := rfl
@[simp] theorem State.updSns_updt (s : State) (f : SnsSt → SnsSt) : (s.updSns f).updt = s.updt := rfl
@[simp] theorem State.updSns_dbg (s : State) (f : SnsSt → SnsSt) : (s.updSns f).dbg = s.dbg := rfl
@[simp] theorem State.updSns_fmt (s : State) (f : SnsSt → SnsSt) : (s.updSns f).fmt = s.fmt := rfl
@[simp] theorem State.updSns_free (s : State) (f : SnsSt → SnsSt) : (s.updSns f).free = s.free := rfl
@[simp] theorem State.updSns_out (s : State) (f : SnsSt → SnsSt) : (s.updSns f).out = s.out := rfl
@[simp] theorem State.updSns_pending (s : State) (f : SnsSt → SnsSt) : (s.updSns f).pending = s.pending := rfl

@[simp] theorem State.updFlw_clk (s : State) (f : FlwSt → FlwSt) : (s.updFlw f).clk = s.clk := rfl
@[simp] theorem State.updFlw_pwr (s : State) (f : FlwSt → FlwSt) : (s.updFlw f).pwr = s.pwr := rfl
@[simp] theorem State.updFlw_regions (s : State) (f : FlwSt → FlwSt) : (s.updFlw f).regions = s.regions := rfl
@[simp] theorem State.updFlw_clRst (s : State) (f : FlwSt → FlwSt) : (s.updFlw f).clRst = s.clRst := rfl
@[simp] theorem State.updFlw_bud (s : State) (f : FlwSt → FlwSt) : (s.updFlw f).bud = s.bud := rfl
@[simp] theorem State.updFlw_wake (s : State) (f : FlwSt → FlwSt) : (s.updFlw f).wake = s.wake := rfl
@[simp] theorem State.updFlw_boot (s : State) (f : FlwSt → FlwSt) : (s.updFlw f).boot = s.boot := rfl
@[simp] theorem State.updFlw_flash (s : State) (f : FlwSt → FlwSt) : (s.updFlw f).flash = s.flash := rfl
@[simp] theorem State.updFlw_bootRec (s : State) (f : FlwSt → FlwSt) : (s.updFlw f).bootRec = s.bootRec := rfl
@[simp] theorem State.updFlw_journal (s : State) (f : FlwSt → FlwSt) : (s.updFlw f).journal = s.journal := rfl
@[simp] theorem State.updFlw_fw (s : State) (f : FlwSt → FlwSt) : (s.updFlw f).fw = s.fw := rfl
@[simp] theorem State.updFlw_setSlots (s : State) (f : FlwSt → FlwSt) : (s.updFlw f).setSlots = s.setSlots := rfl
@[simp] theorem State.updFlw_store (s : State) (f : FlwSt → FlwSt) : (s.updFlw f).store = s.store := rfl
@[simp] theorem State.updFlw_img (s : State) (f : FlwSt → FlwSt) : (s.updFlw f).img = s.img := rfl
@[simp] theorem State.updFlw_grp (s : State) (f : FlwSt → FlwSt) : (s.updFlw f).grp = s.grp := rfl
@[simp] theorem State.updFlw_sm (s : State) (f : FlwSt → FlwSt) : (s.updFlw f).sm = s.sm := rfl
@[simp] theorem State.updFlw_hst (s : State) (f : FlwSt → FlwSt) : (s.updFlw f).hst = s.hst := rfl
@[simp] theorem State.updFlw_rcd (s : State) (f : FlwSt → FlwSt) : (s.updFlw f).rcd = s.rcd := rfl
@[simp] theorem State.updFlw_die (s : State) (f : FlwSt → FlwSt) : (s.updFlw f).die = s.die := rfl
@[simp] theorem State.updFlw_psw (s : State) (f : FlwSt → FlwSt) : (s.updFlw f).psw = s.psw := rfl
@[simp] theorem State.updFlw_vlv (s : State) (f : FlwSt → FlwSt) : (s.updFlw f).vlv = s.vlv := rfl
@[simp] theorem State.updFlw_col (s : State) (f : FlwSt → FlwSt) : (s.updFlw f).col = s.col := rfl
@[simp] theorem State.updFlw_sns (s : State) (f : FlwSt → FlwSt) : (s.updFlw f).sns = s.sns := rfl
@[simp] theorem State.updFlw_lop (s : State) (f : FlwSt → FlwSt) : (s.updFlw f).lop = s.lop := rfl
@[simp] theorem State.updFlw_prf (s : State) (f : FlwSt → FlwSt) : (s.updFlw f).prf = s.prf := rfl
@[simp] theorem State.updFlw_nav (s : State) (f : FlwSt → FlwSt) : (s.updFlw f).nav = s.nav := rfl
@[simp] theorem State.updFlw_tim (s : State) (f : FlwSt → FlwSt) : (s.updFlw f).tim = s.tim := rfl
@[simp] theorem State.updFlw_str (s : State) (f : FlwSt → FlwSt) : (s.updFlw f).str = s.str := rfl
@[simp] theorem State.updFlw_yld (s : State) (f : FlwSt → FlwSt) : (s.updFlw f).yld = s.yld := rfl
@[simp] theorem State.updFlw_vis (s : State) (f : FlwSt → FlwSt) : (s.updFlw f).vis = s.vis := rfl
@[simp] theorem State.updFlw_can (s : State) (f : FlwSt → FlwSt) : (s.updFlw f).can = s.can := rfl
@[simp] theorem State.updFlw_eth (s : State) (f : FlwSt → FlwSt) : (s.updFlw f).eth = s.eth := rfl
@[simp] theorem State.updFlw_updt (s : State) (f : FlwSt → FlwSt) : (s.updFlw f).updt = s.updt := rfl
@[simp] theorem State.updFlw_dbg (s : State) (f : FlwSt → FlwSt) : (s.updFlw f).dbg = s.dbg := rfl
@[simp] theorem State.updFlw_fmt (s : State) (f : FlwSt → FlwSt) : (s.updFlw f).fmt = s.fmt := rfl
@[simp] theorem State.updFlw_free (s : State) (f : FlwSt → FlwSt) : (s.updFlw f).free = s.free := rfl
@[simp] theorem State.updFlw_out (s : State) (f : FlwSt → FlwSt) : (s.updFlw f).out = s.out := rfl
@[simp] theorem State.updFlw_pending (s : State) (f : FlwSt → FlwSt) : (s.updFlw f).pending = s.pending := rfl

@[simp] theorem State.updLs_clk (s : State) (n : Nat) (f : LossCh → LossCh) : (s.updLs n f).clk = s.clk := rfl
@[simp] theorem State.updLs_pwr (s : State) (n : Nat) (f : LossCh → LossCh) : (s.updLs n f).pwr = s.pwr := rfl
@[simp] theorem State.updLs_regions (s : State) (n : Nat) (f : LossCh → LossCh) : (s.updLs n f).regions = s.regions := rfl
@[simp] theorem State.updLs_clRst (s : State) (n : Nat) (f : LossCh → LossCh) : (s.updLs n f).clRst = s.clRst := rfl
@[simp] theorem State.updLs_bud (s : State) (n : Nat) (f : LossCh → LossCh) : (s.updLs n f).bud = s.bud := rfl
@[simp] theorem State.updLs_wake (s : State) (n : Nat) (f : LossCh → LossCh) : (s.updLs n f).wake = s.wake := rfl
@[simp] theorem State.updLs_boot (s : State) (n : Nat) (f : LossCh → LossCh) : (s.updLs n f).boot = s.boot := rfl
@[simp] theorem State.updLs_flash (s : State) (n : Nat) (f : LossCh → LossCh) : (s.updLs n f).flash = s.flash := rfl
@[simp] theorem State.updLs_bootRec (s : State) (n : Nat) (f : LossCh → LossCh) : (s.updLs n f).bootRec = s.bootRec := rfl
@[simp] theorem State.updLs_journal (s : State) (n : Nat) (f : LossCh → LossCh) : (s.updLs n f).journal = s.journal := rfl
@[simp] theorem State.updLs_fw (s : State) (n : Nat) (f : LossCh → LossCh) : (s.updLs n f).fw = s.fw := rfl
@[simp] theorem State.updLs_setSlots (s : State) (n : Nat) (f : LossCh → LossCh) : (s.updLs n f).setSlots = s.setSlots := rfl
@[simp] theorem State.updLs_store (s : State) (n : Nat) (f : LossCh → LossCh) : (s.updLs n f).store = s.store := rfl
@[simp] theorem State.updLs_img (s : State) (n : Nat) (f : LossCh → LossCh) : (s.updLs n f).img = s.img := rfl
@[simp] theorem State.updLs_grp (s : State) (n : Nat) (f : LossCh → LossCh) : (s.updLs n f).grp = s.grp := rfl
@[simp] theorem State.updLs_sm (s : State) (n : Nat) (f : LossCh → LossCh) : (s.updLs n f).sm = s.sm := rfl
@[simp] theorem State.updLs_hst (s : State) (n : Nat) (f : LossCh → LossCh) : (s.updLs n f).hst = s.hst := rfl
@[simp] theorem State.updLs_rcd (s : State) (n : Nat) (f : LossCh → LossCh) : (s.updLs n f).rcd = s.rcd := rfl
@[simp] theorem State.updLs_die (s : State) (n : Nat) (f : LossCh → LossCh) : (s.updLs n f).die = s.die := rfl
@[simp] theorem State.updLs_psw (s : State) (n : Nat) (f : LossCh → LossCh) : (s.updLs n f).psw = s.psw := rfl
@[simp] theorem State.updLs_vlv (s : State) (n : Nat) (f : LossCh → LossCh) : (s.updLs n f).vlv = s.vlv := rfl
@[simp] theorem State.updLs_col (s : State) (n : Nat) (f : LossCh → LossCh) : (s.updLs n f).col = s.col := rfl
@[simp] theorem State.updLs_sns (s : State) (n : Nat) (f : LossCh → LossCh) : (s.updLs n f).sns = s.sns := rfl
@[simp] theorem State.updLs_lop (s : State) (n : Nat) (f : LossCh → LossCh) : (s.updLs n f).lop = s.lop := rfl
@[simp] theorem State.updLs_prf (s : State) (n : Nat) (f : LossCh → LossCh) : (s.updLs n f).prf = s.prf := rfl
@[simp] theorem State.updLs_nav (s : State) (n : Nat) (f : LossCh → LossCh) : (s.updLs n f).nav = s.nav := rfl
@[simp] theorem State.updLs_tim (s : State) (n : Nat) (f : LossCh → LossCh) : (s.updLs n f).tim = s.tim := rfl
@[simp] theorem State.updLs_str (s : State) (n : Nat) (f : LossCh → LossCh) : (s.updLs n f).str = s.str := rfl
@[simp] theorem State.updLs_yld (s : State) (n : Nat) (f : LossCh → LossCh) : (s.updLs n f).yld = s.yld := rfl
@[simp] theorem State.updLs_vis (s : State) (n : Nat) (f : LossCh → LossCh) : (s.updLs n f).vis = s.vis := rfl
@[simp] theorem State.updLs_can (s : State) (n : Nat) (f : LossCh → LossCh) : (s.updLs n f).can = s.can := rfl
@[simp] theorem State.updLs_eth (s : State) (n : Nat) (f : LossCh → LossCh) : (s.updLs n f).eth = s.eth := rfl
@[simp] theorem State.updLs_updt (s : State) (n : Nat) (f : LossCh → LossCh) : (s.updLs n f).updt = s.updt := rfl
@[simp] theorem State.updLs_dbg (s : State) (n : Nat) (f : LossCh → LossCh) : (s.updLs n f).dbg = s.dbg := rfl
@[simp] theorem State.updLs_fmt (s : State) (n : Nat) (f : LossCh → LossCh) : (s.updLs n f).fmt = s.fmt := rfl
@[simp] theorem State.updLs_free (s : State) (n : Nat) (f : LossCh → LossCh) : (s.updLs n f).free = s.free := rfl
@[simp] theorem State.updLs_out (s : State) (n : Nat) (f : LossCh → LossCh) : (s.updLs n f).out = s.out := rfl
@[simp] theorem State.updLs_pending (s : State) (n : Nat) (f : LossCh → LossCh) : (s.updLs n f).pending = s.pending := rfl

@[simp] theorem State.updSlot_clk (s : State) (n : Nat) (f : Slot → Slot) : (s.updSlot n f).clk = s.clk := rfl
@[simp] theorem State.updSlot_pwr (s : State) (n : Nat) (f : Slot → Slot) : (s.updSlot n f).pwr = s.pwr := rfl
@[simp] theorem State.updSlot_regions (s : State) (n : Nat) (f : Slot → Slot) : (s.updSlot n f).regions = s.regions := rfl
@[simp] theorem State.updSlot_clRst (s : State) (n : Nat) (f : Slot → Slot) : (s.updSlot n f).clRst = s.clRst := rfl
@[simp] theorem State.updSlot_bud (s : State) (n : Nat) (f : Slot → Slot) : (s.updSlot n f).bud = s.bud := rfl
@[simp] theorem State.updSlot_wake (s : State) (n : Nat) (f : Slot → Slot) : (s.updSlot n f).wake = s.wake := rfl
@[simp] theorem State.updSlot_boot (s : State) (n : Nat) (f : Slot → Slot) : (s.updSlot n f).boot = s.boot := rfl
@[simp] theorem State.updSlot_flash (s : State) (n : Nat) (f : Slot → Slot) : (s.updSlot n f).flash = s.flash := rfl
@[simp] theorem State.updSlot_bootRec (s : State) (n : Nat) (f : Slot → Slot) : (s.updSlot n f).bootRec = s.bootRec := rfl
@[simp] theorem State.updSlot_journal (s : State) (n : Nat) (f : Slot → Slot) : (s.updSlot n f).journal = s.journal := rfl
@[simp] theorem State.updSlot_fw (s : State) (n : Nat) (f : Slot → Slot) : (s.updSlot n f).fw = s.fw := rfl
@[simp] theorem State.updSlot_setSlots (s : State) (n : Nat) (f : Slot → Slot) : (s.updSlot n f).setSlots = s.setSlots := rfl
@[simp] theorem State.updSlot_store (s : State) (n : Nat) (f : Slot → Slot) : (s.updSlot n f).store = s.store := rfl
@[simp] theorem State.updSlot_img (s : State) (n : Nat) (f : Slot → Slot) : (s.updSlot n f).img = s.img := rfl
@[simp] theorem State.updSlot_grp (s : State) (n : Nat) (f : Slot → Slot) : (s.updSlot n f).grp = s.grp := rfl
@[simp] theorem State.updSlot_sm (s : State) (n : Nat) (f : Slot → Slot) : (s.updSlot n f).sm = s.sm := rfl
@[simp] theorem State.updSlot_hst (s : State) (n : Nat) (f : Slot → Slot) : (s.updSlot n f).hst = s.hst := rfl
@[simp] theorem State.updSlot_rcd (s : State) (n : Nat) (f : Slot → Slot) : (s.updSlot n f).rcd = s.rcd := rfl
@[simp] theorem State.updSlot_die (s : State) (n : Nat) (f : Slot → Slot) : (s.updSlot n f).die = s.die := rfl
@[simp] theorem State.updSlot_psw (s : State) (n : Nat) (f : Slot → Slot) : (s.updSlot n f).psw = s.psw := rfl
@[simp] theorem State.updSlot_vlv (s : State) (n : Nat) (f : Slot → Slot) : (s.updSlot n f).vlv = s.vlv := rfl
@[simp] theorem State.updSlot_col (s : State) (n : Nat) (f : Slot → Slot) : (s.updSlot n f).col = s.col := rfl
@[simp] theorem State.updSlot_sns (s : State) (n : Nat) (f : Slot → Slot) : (s.updSlot n f).sns = s.sns := rfl
@[simp] theorem State.updSlot_flw (s : State) (n : Nat) (f : Slot → Slot) : (s.updSlot n f).flw = s.flw := rfl
@[simp] theorem State.updSlot_prf (s : State) (n : Nat) (f : Slot → Slot) : (s.updSlot n f).prf = s.prf := rfl
@[simp] theorem State.updSlot_nav (s : State) (n : Nat) (f : Slot → Slot) : (s.updSlot n f).nav = s.nav := rfl
@[simp] theorem State.updSlot_tim (s : State) (n : Nat) (f : Slot → Slot) : (s.updSlot n f).tim = s.tim := rfl
@[simp] theorem State.updSlot_str (s : State) (n : Nat) (f : Slot → Slot) : (s.updSlot n f).str = s.str := rfl
@[simp] theorem State.updSlot_yld (s : State) (n : Nat) (f : Slot → Slot) : (s.updSlot n f).yld = s.yld := rfl
@[simp] theorem State.updSlot_vis (s : State) (n : Nat) (f : Slot → Slot) : (s.updSlot n f).vis = s.vis := rfl
@[simp] theorem State.updSlot_can (s : State) (n : Nat) (f : Slot → Slot) : (s.updSlot n f).can = s.can := rfl
@[simp] theorem State.updSlot_eth (s : State) (n : Nat) (f : Slot → Slot) : (s.updSlot n f).eth = s.eth := rfl
@[simp] theorem State.updSlot_updt (s : State) (n : Nat) (f : Slot → Slot) : (s.updSlot n f).updt = s.updt := rfl
@[simp] theorem State.updSlot_dbg (s : State) (n : Nat) (f : Slot → Slot) : (s.updSlot n f).dbg = s.dbg := rfl
@[simp] theorem State.updSlot_fmt (s : State) (n : Nat) (f : Slot → Slot) : (s.updSlot n f).fmt = s.fmt := rfl
@[simp] theorem State.updSlot_free (s : State) (n : Nat) (f : Slot → Slot) : (s.updSlot n f).free = s.free := rfl
@[simp] theorem State.updSlot_out (s : State) (n : Nat) (f : Slot → Slot) : (s.updSlot n f).out = s.out := rfl
@[simp] theorem State.updSlot_pending (s : State) (n : Nat) (f : Slot → Slot) : (s.updSlot n f).pending = s.pending := rfl

@[simp] theorem State.updProc_clk (s : State) (n : Nat) (f : Proc → Proc) : (s.updProc n f).clk = s.clk := rfl
@[simp] theorem State.updProc_pwr (s : State) (n : Nat) (f : Proc → Proc) : (s.updProc n f).pwr = s.pwr := rfl
@[simp] theorem State.updProc_regions (s : State) (n : Nat) (f : Proc → Proc) : (s.updProc n f).regions = s.regions := rfl
@[simp] theorem State.updProc_clRst (s : State) (n : Nat) (f : Proc → Proc) : (s.updProc n f).clRst = s.clRst := rfl
@[simp] theorem State.updProc_bud (s : State) (n : Nat) (f : Proc → Proc) : (s.updProc n f).bud = s.bud := rfl
@[simp] theorem State.updProc_wake (s : State) (n : Nat) (f : Proc → Proc) : (s.updProc n f).wake = s.wake := rfl
@[simp] theorem State.updProc_boot (s : State) (n : Nat) (f : Proc → Proc) : (s.updProc n f).boot = s.boot := rfl
@[simp] theorem State.updProc_flash (s : State) (n : Nat) (f : Proc → Proc) : (s.updProc n f).flash = s.flash := rfl
@[simp] theorem State.updProc_bootRec (s : State) (n : Nat) (f : Proc → Proc) : (s.updProc n f).bootRec = s.bootRec := rfl
@[simp] theorem State.updProc_journal (s : State) (n : Nat) (f : Proc → Proc) : (s.updProc n f).journal = s.journal := rfl
@[simp] theorem State.updProc_fw (s : State) (n : Nat) (f : Proc → Proc) : (s.updProc n f).fw = s.fw := rfl
@[simp] theorem State.updProc_setSlots (s : State) (n : Nat) (f : Proc → Proc) : (s.updProc n f).setSlots = s.setSlots := rfl
@[simp] theorem State.updProc_store (s : State) (n : Nat) (f : Proc → Proc) : (s.updProc n f).store = s.store := rfl
@[simp] theorem State.updProc_img (s : State) (n : Nat) (f : Proc → Proc) : (s.updProc n f).img = s.img := rfl
@[simp] theorem State.updProc_grp (s : State) (n : Nat) (f : Proc → Proc) : (s.updProc n f).grp = s.grp := rfl
@[simp] theorem State.updProc_sm (s : State) (n : Nat) (f : Proc → Proc) : (s.updProc n f).sm = s.sm := rfl
@[simp] theorem State.updProc_hst (s : State) (n : Nat) (f : Proc → Proc) : (s.updProc n f).hst = s.hst := rfl
@[simp] theorem State.updProc_rcd (s : State) (n : Nat) (f : Proc → Proc) : (s.updProc n f).rcd = s.rcd := rfl
@[simp] theorem State.updProc_die (s : State) (n : Nat) (f : Proc → Proc) : (s.updProc n f).die = s.die := rfl
@[simp] theorem State.updProc_psw (s : State) (n : Nat) (f : Proc → Proc) : (s.updProc n f).psw = s.psw := rfl
@[simp] theorem State.updProc_vlv (s : State) (n : Nat) (f : Proc → Proc) : (s.updProc n f).vlv = s.vlv := rfl
@[simp] theorem State.updProc_col (s : State) (n : Nat) (f : Proc → Proc) : (s.updProc n f).col = s.col := rfl
@[simp] theorem State.updProc_sns (s : State) (n : Nat) (f : Proc → Proc) : (s.updProc n f).sns = s.sns := rfl
@[simp] theorem State.updProc_flw (s : State) (n : Nat) (f : Proc → Proc) : (s.updProc n f).flw = s.flw := rfl
@[simp] theorem State.updProc_prf (s : State) (n : Nat) (f : Proc → Proc) : (s.updProc n f).prf = s.prf := rfl
@[simp] theorem State.updProc_nav (s : State) (n : Nat) (f : Proc → Proc) : (s.updProc n f).nav = s.nav := rfl
@[simp] theorem State.updProc_tim (s : State) (n : Nat) (f : Proc → Proc) : (s.updProc n f).tim = s.tim := rfl
@[simp] theorem State.updProc_str (s : State) (n : Nat) (f : Proc → Proc) : (s.updProc n f).str = s.str := rfl
@[simp] theorem State.updProc_yld (s : State) (n : Nat) (f : Proc → Proc) : (s.updProc n f).yld = s.yld := rfl
@[simp] theorem State.updProc_vis (s : State) (n : Nat) (f : Proc → Proc) : (s.updProc n f).vis = s.vis := rfl
@[simp] theorem State.updProc_can (s : State) (n : Nat) (f : Proc → Proc) : (s.updProc n f).can = s.can := rfl
@[simp] theorem State.updProc_eth (s : State) (n : Nat) (f : Proc → Proc) : (s.updProc n f).eth = s.eth := rfl
@[simp] theorem State.updProc_updt (s : State) (n : Nat) (f : Proc → Proc) : (s.updProc n f).updt = s.updt := rfl
@[simp] theorem State.updProc_dbg (s : State) (n : Nat) (f : Proc → Proc) : (s.updProc n f).dbg = s.dbg := rfl
@[simp] theorem State.updProc_fmt (s : State) (n : Nat) (f : Proc → Proc) : (s.updProc n f).fmt = s.fmt := rfl
@[simp] theorem State.updProc_free (s : State) (n : Nat) (f : Proc → Proc) : (s.updProc n f).free = s.free := rfl
@[simp] theorem State.updProc_out (s : State) (n : Nat) (f : Proc → Proc) : (s.updProc n f).out = s.out := rfl
@[simp] theorem State.updProc_pending (s : State) (n : Nat) (f : Proc → Proc) : (s.updProc n f).pending = s.pending := rfl

@[simp] theorem State.updPg_clk (s : State) (n : Nat) (f : Pg → Pg) : (s.updPg n f).clk = s.clk := rfl
@[simp] theorem State.updPg_pwr (s : State) (n : Nat) (f : Pg → Pg) : (s.updPg n f).pwr = s.pwr := rfl
@[simp] theorem State.updPg_regions (s : State) (n : Nat) (f : Pg → Pg) : (s.updPg n f).regions = s.regions := rfl
@[simp] theorem State.updPg_clRst (s : State) (n : Nat) (f : Pg → Pg) : (s.updPg n f).clRst = s.clRst := rfl
@[simp] theorem State.updPg_bud (s : State) (n : Nat) (f : Pg → Pg) : (s.updPg n f).bud = s.bud := rfl
@[simp] theorem State.updPg_wake (s : State) (n : Nat) (f : Pg → Pg) : (s.updPg n f).wake = s.wake := rfl
@[simp] theorem State.updPg_boot (s : State) (n : Nat) (f : Pg → Pg) : (s.updPg n f).boot = s.boot := rfl
@[simp] theorem State.updPg_flash (s : State) (n : Nat) (f : Pg → Pg) : (s.updPg n f).flash = s.flash := rfl
@[simp] theorem State.updPg_bootRec (s : State) (n : Nat) (f : Pg → Pg) : (s.updPg n f).bootRec = s.bootRec := rfl
@[simp] theorem State.updPg_journal (s : State) (n : Nat) (f : Pg → Pg) : (s.updPg n f).journal = s.journal := rfl
@[simp] theorem State.updPg_fw (s : State) (n : Nat) (f : Pg → Pg) : (s.updPg n f).fw = s.fw := rfl
@[simp] theorem State.updPg_setSlots (s : State) (n : Nat) (f : Pg → Pg) : (s.updPg n f).setSlots = s.setSlots := rfl
@[simp] theorem State.updPg_store (s : State) (n : Nat) (f : Pg → Pg) : (s.updPg n f).store = s.store := rfl
@[simp] theorem State.updPg_img (s : State) (n : Nat) (f : Pg → Pg) : (s.updPg n f).img = s.img := rfl
@[simp] theorem State.updPg_grp (s : State) (n : Nat) (f : Pg → Pg) : (s.updPg n f).grp = s.grp := rfl
@[simp] theorem State.updPg_sm (s : State) (n : Nat) (f : Pg → Pg) : (s.updPg n f).sm = s.sm := rfl
@[simp] theorem State.updPg_hst (s : State) (n : Nat) (f : Pg → Pg) : (s.updPg n f).hst = s.hst := rfl
@[simp] theorem State.updPg_rcd (s : State) (n : Nat) (f : Pg → Pg) : (s.updPg n f).rcd = s.rcd := rfl
@[simp] theorem State.updPg_die (s : State) (n : Nat) (f : Pg → Pg) : (s.updPg n f).die = s.die := rfl
@[simp] theorem State.updPg_psw (s : State) (n : Nat) (f : Pg → Pg) : (s.updPg n f).psw = s.psw := rfl
@[simp] theorem State.updPg_vlv (s : State) (n : Nat) (f : Pg → Pg) : (s.updPg n f).vlv = s.vlv := rfl
@[simp] theorem State.updPg_col (s : State) (n : Nat) (f : Pg → Pg) : (s.updPg n f).col = s.col := rfl
@[simp] theorem State.updPg_sns (s : State) (n : Nat) (f : Pg → Pg) : (s.updPg n f).sns = s.sns := rfl
@[simp] theorem State.updPg_flw (s : State) (n : Nat) (f : Pg → Pg) : (s.updPg n f).flw = s.flw := rfl
@[simp] theorem State.updPg_lop (s : State) (n : Nat) (f : Pg → Pg) : (s.updPg n f).lop = s.lop := rfl
@[simp] theorem State.updPg_nav (s : State) (n : Nat) (f : Pg → Pg) : (s.updPg n f).nav = s.nav := rfl
@[simp] theorem State.updPg_tim (s : State) (n : Nat) (f : Pg → Pg) : (s.updPg n f).tim = s.tim := rfl
@[simp] theorem State.updPg_str (s : State) (n : Nat) (f : Pg → Pg) : (s.updPg n f).str = s.str := rfl
@[simp] theorem State.updPg_yld (s : State) (n : Nat) (f : Pg → Pg) : (s.updPg n f).yld = s.yld := rfl
@[simp] theorem State.updPg_vis (s : State) (n : Nat) (f : Pg → Pg) : (s.updPg n f).vis = s.vis := rfl
@[simp] theorem State.updPg_can (s : State) (n : Nat) (f : Pg → Pg) : (s.updPg n f).can = s.can := rfl
@[simp] theorem State.updPg_eth (s : State) (n : Nat) (f : Pg → Pg) : (s.updPg n f).eth = s.eth := rfl
@[simp] theorem State.updPg_updt (s : State) (n : Nat) (f : Pg → Pg) : (s.updPg n f).updt = s.updt := rfl
@[simp] theorem State.updPg_dbg (s : State) (n : Nat) (f : Pg → Pg) : (s.updPg n f).dbg = s.dbg := rfl
@[simp] theorem State.updPg_fmt (s : State) (n : Nat) (f : Pg → Pg) : (s.updPg n f).fmt = s.fmt := rfl
@[simp] theorem State.updPg_free (s : State) (n : Nat) (f : Pg → Pg) : (s.updPg n f).free = s.free := rfl
@[simp] theorem State.updPg_out (s : State) (n : Nat) (f : Pg → Pg) : (s.updPg n f).out = s.out := rfl
@[simp] theorem State.updPg_pending (s : State) (n : Nat) (f : Pg → Pg) : (s.updPg n f).pending = s.pending := rfl

@[simp] theorem State.updMf_clk (s : State) (n : Nat) (f : Mf → Mf) : (s.updMf n f).clk = s.clk := rfl
@[simp] theorem State.updMf_pwr (s : State) (n : Nat) (f : Mf → Mf) : (s.updMf n f).pwr = s.pwr := rfl
@[simp] theorem State.updMf_regions (s : State) (n : Nat) (f : Mf → Mf) : (s.updMf n f).regions = s.regions := rfl
@[simp] theorem State.updMf_clRst (s : State) (n : Nat) (f : Mf → Mf) : (s.updMf n f).clRst = s.clRst := rfl
@[simp] theorem State.updMf_bud (s : State) (n : Nat) (f : Mf → Mf) : (s.updMf n f).bud = s.bud := rfl
@[simp] theorem State.updMf_wake (s : State) (n : Nat) (f : Mf → Mf) : (s.updMf n f).wake = s.wake := rfl
@[simp] theorem State.updMf_boot (s : State) (n : Nat) (f : Mf → Mf) : (s.updMf n f).boot = s.boot := rfl
@[simp] theorem State.updMf_flash (s : State) (n : Nat) (f : Mf → Mf) : (s.updMf n f).flash = s.flash := rfl
@[simp] theorem State.updMf_bootRec (s : State) (n : Nat) (f : Mf → Mf) : (s.updMf n f).bootRec = s.bootRec := rfl
@[simp] theorem State.updMf_journal (s : State) (n : Nat) (f : Mf → Mf) : (s.updMf n f).journal = s.journal := rfl
@[simp] theorem State.updMf_fw (s : State) (n : Nat) (f : Mf → Mf) : (s.updMf n f).fw = s.fw := rfl
@[simp] theorem State.updMf_setSlots (s : State) (n : Nat) (f : Mf → Mf) : (s.updMf n f).setSlots = s.setSlots := rfl
@[simp] theorem State.updMf_store (s : State) (n : Nat) (f : Mf → Mf) : (s.updMf n f).store = s.store := rfl
@[simp] theorem State.updMf_img (s : State) (n : Nat) (f : Mf → Mf) : (s.updMf n f).img = s.img := rfl
@[simp] theorem State.updMf_grp (s : State) (n : Nat) (f : Mf → Mf) : (s.updMf n f).grp = s.grp := rfl
@[simp] theorem State.updMf_sm (s : State) (n : Nat) (f : Mf → Mf) : (s.updMf n f).sm = s.sm := rfl
@[simp] theorem State.updMf_hst (s : State) (n : Nat) (f : Mf → Mf) : (s.updMf n f).hst = s.hst := rfl
@[simp] theorem State.updMf_rcd (s : State) (n : Nat) (f : Mf → Mf) : (s.updMf n f).rcd = s.rcd := rfl
@[simp] theorem State.updMf_die (s : State) (n : Nat) (f : Mf → Mf) : (s.updMf n f).die = s.die := rfl
@[simp] theorem State.updMf_psw (s : State) (n : Nat) (f : Mf → Mf) : (s.updMf n f).psw = s.psw := rfl
@[simp] theorem State.updMf_vlv (s : State) (n : Nat) (f : Mf → Mf) : (s.updMf n f).vlv = s.vlv := rfl
@[simp] theorem State.updMf_col (s : State) (n : Nat) (f : Mf → Mf) : (s.updMf n f).col = s.col := rfl
@[simp] theorem State.updMf_sns (s : State) (n : Nat) (f : Mf → Mf) : (s.updMf n f).sns = s.sns := rfl
@[simp] theorem State.updMf_flw (s : State) (n : Nat) (f : Mf → Mf) : (s.updMf n f).flw = s.flw := rfl
@[simp] theorem State.updMf_lop (s : State) (n : Nat) (f : Mf → Mf) : (s.updMf n f).lop = s.lop := rfl
@[simp] theorem State.updMf_nav (s : State) (n : Nat) (f : Mf → Mf) : (s.updMf n f).nav = s.nav := rfl
@[simp] theorem State.updMf_tim (s : State) (n : Nat) (f : Mf → Mf) : (s.updMf n f).tim = s.tim := rfl
@[simp] theorem State.updMf_str (s : State) (n : Nat) (f : Mf → Mf) : (s.updMf n f).str = s.str := rfl
@[simp] theorem State.updMf_yld (s : State) (n : Nat) (f : Mf → Mf) : (s.updMf n f).yld = s.yld := rfl
@[simp] theorem State.updMf_vis (s : State) (n : Nat) (f : Mf → Mf) : (s.updMf n f).vis = s.vis := rfl
@[simp] theorem State.updMf_can (s : State) (n : Nat) (f : Mf → Mf) : (s.updMf n f).can = s.can := rfl
@[simp] theorem State.updMf_eth (s : State) (n : Nat) (f : Mf → Mf) : (s.updMf n f).eth = s.eth := rfl
@[simp] theorem State.updMf_updt (s : State) (n : Nat) (f : Mf → Mf) : (s.updMf n f).updt = s.updt := rfl
@[simp] theorem State.updMf_dbg (s : State) (n : Nat) (f : Mf → Mf) : (s.updMf n f).dbg = s.dbg := rfl
@[simp] theorem State.updMf_fmt (s : State) (n : Nat) (f : Mf → Mf) : (s.updMf n f).fmt = s.fmt := rfl
@[simp] theorem State.updMf_free (s : State) (n : Nat) (f : Mf → Mf) : (s.updMf n f).free = s.free := rfl
@[simp] theorem State.updMf_out (s : State) (n : Nat) (f : Mf → Mf) : (s.updMf n f).out = s.out := rfl
@[simp] theorem State.updMf_pending (s : State) (n : Nat) (f : Mf → Mf) : (s.updMf n f).pending = s.pending := rfl

@[simp] theorem State.updNav_clk (s : State) (f : NavSt → NavSt) : (s.updNav f).clk = s.clk := rfl
@[simp] theorem State.updNav_pwr (s : State) (f : NavSt → NavSt) : (s.updNav f).pwr = s.pwr := rfl
@[simp] theorem State.updNav_regions (s : State) (f : NavSt → NavSt) : (s.updNav f).regions = s.regions := rfl
@[simp] theorem State.updNav_clRst (s : State) (f : NavSt → NavSt) : (s.updNav f).clRst = s.clRst := rfl
@[simp] theorem State.updNav_bud (s : State) (f : NavSt → NavSt) : (s.updNav f).bud = s.bud := rfl
@[simp] theorem State.updNav_wake (s : State) (f : NavSt → NavSt) : (s.updNav f).wake = s.wake := rfl
@[simp] theorem State.updNav_boot (s : State) (f : NavSt → NavSt) : (s.updNav f).boot = s.boot := rfl
@[simp] theorem State.updNav_flash (s : State) (f : NavSt → NavSt) : (s.updNav f).flash = s.flash := rfl
@[simp] theorem State.updNav_bootRec (s : State) (f : NavSt → NavSt) : (s.updNav f).bootRec = s.bootRec := rfl
@[simp] theorem State.updNav_journal (s : State) (f : NavSt → NavSt) : (s.updNav f).journal = s.journal := rfl
@[simp] theorem State.updNav_fw (s : State) (f : NavSt → NavSt) : (s.updNav f).fw = s.fw := rfl
@[simp] theorem State.updNav_setSlots (s : State) (f : NavSt → NavSt) : (s.updNav f).setSlots = s.setSlots := rfl
@[simp] theorem State.updNav_store (s : State) (f : NavSt → NavSt) : (s.updNav f).store = s.store := rfl
@[simp] theorem State.updNav_img (s : State) (f : NavSt → NavSt) : (s.updNav f).img = s.img := rfl
@[simp] theorem State.updNav_grp (s : State) (f : NavSt → NavSt) : (s.updNav f).grp = s.grp := rfl
@[simp] theorem State.updNav_sm (s : State) (f : NavSt → NavSt) : (s.updNav f).sm = s.sm := rfl
@[simp] theorem State.updNav_hst (s : State) (f : NavSt → NavSt) : (s.updNav f).hst = s.hst := rfl
@[simp] theorem State.updNav_rcd (s : State) (f : NavSt → NavSt) : (s.updNav f).rcd = s.rcd := rfl
@[simp] theorem State.updNav_die (s : State) (f : NavSt → NavSt) : (s.updNav f).die = s.die := rfl
@[simp] theorem State.updNav_psw (s : State) (f : NavSt → NavSt) : (s.updNav f).psw = s.psw := rfl
@[simp] theorem State.updNav_vlv (s : State) (f : NavSt → NavSt) : (s.updNav f).vlv = s.vlv := rfl
@[simp] theorem State.updNav_col (s : State) (f : NavSt → NavSt) : (s.updNav f).col = s.col := rfl
@[simp] theorem State.updNav_sns (s : State) (f : NavSt → NavSt) : (s.updNav f).sns = s.sns := rfl
@[simp] theorem State.updNav_flw (s : State) (f : NavSt → NavSt) : (s.updNav f).flw = s.flw := rfl
@[simp] theorem State.updNav_lop (s : State) (f : NavSt → NavSt) : (s.updNav f).lop = s.lop := rfl
@[simp] theorem State.updNav_prf (s : State) (f : NavSt → NavSt) : (s.updNav f).prf = s.prf := rfl
@[simp] theorem State.updNav_tim (s : State) (f : NavSt → NavSt) : (s.updNav f).tim = s.tim := rfl
@[simp] theorem State.updNav_str (s : State) (f : NavSt → NavSt) : (s.updNav f).str = s.str := rfl
@[simp] theorem State.updNav_yld (s : State) (f : NavSt → NavSt) : (s.updNav f).yld = s.yld := rfl
@[simp] theorem State.updNav_vis (s : State) (f : NavSt → NavSt) : (s.updNav f).vis = s.vis := rfl
@[simp] theorem State.updNav_can (s : State) (f : NavSt → NavSt) : (s.updNav f).can = s.can := rfl
@[simp] theorem State.updNav_eth (s : State) (f : NavSt → NavSt) : (s.updNav f).eth = s.eth := rfl
@[simp] theorem State.updNav_updt (s : State) (f : NavSt → NavSt) : (s.updNav f).updt = s.updt := rfl
@[simp] theorem State.updNav_dbg (s : State) (f : NavSt → NavSt) : (s.updNav f).dbg = s.dbg := rfl
@[simp] theorem State.updNav_fmt (s : State) (f : NavSt → NavSt) : (s.updNav f).fmt = s.fmt := rfl
@[simp] theorem State.updNav_free (s : State) (f : NavSt → NavSt) : (s.updNav f).free = s.free := rfl
@[simp] theorem State.updNav_out (s : State) (f : NavSt → NavSt) : (s.updNav f).out = s.out := rfl
@[simp] theorem State.updNav_pending (s : State) (f : NavSt → NavSt) : (s.updNav f).pending = s.pending := rfl

@[simp] theorem State.updNch_clk (s : State) (n : Nat) (f : NavCh → NavCh) : (s.updNch n f).clk = s.clk := rfl
@[simp] theorem State.updNch_pwr (s : State) (n : Nat) (f : NavCh → NavCh) : (s.updNch n f).pwr = s.pwr := rfl
@[simp] theorem State.updNch_regions (s : State) (n : Nat) (f : NavCh → NavCh) : (s.updNch n f).regions = s.regions := rfl
@[simp] theorem State.updNch_clRst (s : State) (n : Nat) (f : NavCh → NavCh) : (s.updNch n f).clRst = s.clRst := rfl
@[simp] theorem State.updNch_bud (s : State) (n : Nat) (f : NavCh → NavCh) : (s.updNch n f).bud = s.bud := rfl
@[simp] theorem State.updNch_wake (s : State) (n : Nat) (f : NavCh → NavCh) : (s.updNch n f).wake = s.wake := rfl
@[simp] theorem State.updNch_boot (s : State) (n : Nat) (f : NavCh → NavCh) : (s.updNch n f).boot = s.boot := rfl
@[simp] theorem State.updNch_flash (s : State) (n : Nat) (f : NavCh → NavCh) : (s.updNch n f).flash = s.flash := rfl
@[simp] theorem State.updNch_bootRec (s : State) (n : Nat) (f : NavCh → NavCh) : (s.updNch n f).bootRec = s.bootRec := rfl
@[simp] theorem State.updNch_journal (s : State) (n : Nat) (f : NavCh → NavCh) : (s.updNch n f).journal = s.journal := rfl
@[simp] theorem State.updNch_fw (s : State) (n : Nat) (f : NavCh → NavCh) : (s.updNch n f).fw = s.fw := rfl
@[simp] theorem State.updNch_setSlots (s : State) (n : Nat) (f : NavCh → NavCh) : (s.updNch n f).setSlots = s.setSlots := rfl
@[simp] theorem State.updNch_store (s : State) (n : Nat) (f : NavCh → NavCh) : (s.updNch n f).store = s.store := rfl
@[simp] theorem State.updNch_img (s : State) (n : Nat) (f : NavCh → NavCh) : (s.updNch n f).img = s.img := rfl
@[simp] theorem State.updNch_grp (s : State) (n : Nat) (f : NavCh → NavCh) : (s.updNch n f).grp = s.grp := rfl
@[simp] theorem State.updNch_sm (s : State) (n : Nat) (f : NavCh → NavCh) : (s.updNch n f).sm = s.sm := rfl
@[simp] theorem State.updNch_hst (s : State) (n : Nat) (f : NavCh → NavCh) : (s.updNch n f).hst = s.hst := rfl
@[simp] theorem State.updNch_rcd (s : State) (n : Nat) (f : NavCh → NavCh) : (s.updNch n f).rcd = s.rcd := rfl
@[simp] theorem State.updNch_die (s : State) (n : Nat) (f : NavCh → NavCh) : (s.updNch n f).die = s.die := rfl
@[simp] theorem State.updNch_psw (s : State) (n : Nat) (f : NavCh → NavCh) : (s.updNch n f).psw = s.psw := rfl
@[simp] theorem State.updNch_vlv (s : State) (n : Nat) (f : NavCh → NavCh) : (s.updNch n f).vlv = s.vlv := rfl
@[simp] theorem State.updNch_col (s : State) (n : Nat) (f : NavCh → NavCh) : (s.updNch n f).col = s.col := rfl
@[simp] theorem State.updNch_sns (s : State) (n : Nat) (f : NavCh → NavCh) : (s.updNch n f).sns = s.sns := rfl
@[simp] theorem State.updNch_flw (s : State) (n : Nat) (f : NavCh → NavCh) : (s.updNch n f).flw = s.flw := rfl
@[simp] theorem State.updNch_lop (s : State) (n : Nat) (f : NavCh → NavCh) : (s.updNch n f).lop = s.lop := rfl
@[simp] theorem State.updNch_prf (s : State) (n : Nat) (f : NavCh → NavCh) : (s.updNch n f).prf = s.prf := rfl
@[simp] theorem State.updNch_tim (s : State) (n : Nat) (f : NavCh → NavCh) : (s.updNch n f).tim = s.tim := rfl
@[simp] theorem State.updNch_str (s : State) (n : Nat) (f : NavCh → NavCh) : (s.updNch n f).str = s.str := rfl
@[simp] theorem State.updNch_yld (s : State) (n : Nat) (f : NavCh → NavCh) : (s.updNch n f).yld = s.yld := rfl
@[simp] theorem State.updNch_vis (s : State) (n : Nat) (f : NavCh → NavCh) : (s.updNch n f).vis = s.vis := rfl
@[simp] theorem State.updNch_can (s : State) (n : Nat) (f : NavCh → NavCh) : (s.updNch n f).can = s.can := rfl
@[simp] theorem State.updNch_eth (s : State) (n : Nat) (f : NavCh → NavCh) : (s.updNch n f).eth = s.eth := rfl
@[simp] theorem State.updNch_updt (s : State) (n : Nat) (f : NavCh → NavCh) : (s.updNch n f).updt = s.updt := rfl
@[simp] theorem State.updNch_dbg (s : State) (n : Nat) (f : NavCh → NavCh) : (s.updNch n f).dbg = s.dbg := rfl
@[simp] theorem State.updNch_fmt (s : State) (n : Nat) (f : NavCh → NavCh) : (s.updNch n f).fmt = s.fmt := rfl
@[simp] theorem State.updNch_free (s : State) (n : Nat) (f : NavCh → NavCh) : (s.updNch n f).free = s.free := rfl
@[simp] theorem State.updNch_out (s : State) (n : Nat) (f : NavCh → NavCh) : (s.updNch n f).out = s.out := rfl
@[simp] theorem State.updNch_pending (s : State) (n : Nat) (f : NavCh → NavCh) : (s.updNch n f).pending = s.pending := rfl

@[simp] theorem State.updTim_clk (s : State) (f : TimSt → TimSt) : (s.updTim f).clk = s.clk := rfl
@[simp] theorem State.updTim_pwr (s : State) (f : TimSt → TimSt) : (s.updTim f).pwr = s.pwr := rfl
@[simp] theorem State.updTim_regions (s : State) (f : TimSt → TimSt) : (s.updTim f).regions = s.regions := rfl
@[simp] theorem State.updTim_clRst (s : State) (f : TimSt → TimSt) : (s.updTim f).clRst = s.clRst := rfl
@[simp] theorem State.updTim_bud (s : State) (f : TimSt → TimSt) : (s.updTim f).bud = s.bud := rfl
@[simp] theorem State.updTim_wake (s : State) (f : TimSt → TimSt) : (s.updTim f).wake = s.wake := rfl
@[simp] theorem State.updTim_boot (s : State) (f : TimSt → TimSt) : (s.updTim f).boot = s.boot := rfl
@[simp] theorem State.updTim_flash (s : State) (f : TimSt → TimSt) : (s.updTim f).flash = s.flash := rfl
@[simp] theorem State.updTim_bootRec (s : State) (f : TimSt → TimSt) : (s.updTim f).bootRec = s.bootRec := rfl
@[simp] theorem State.updTim_journal (s : State) (f : TimSt → TimSt) : (s.updTim f).journal = s.journal := rfl
@[simp] theorem State.updTim_fw (s : State) (f : TimSt → TimSt) : (s.updTim f).fw = s.fw := rfl
@[simp] theorem State.updTim_setSlots (s : State) (f : TimSt → TimSt) : (s.updTim f).setSlots = s.setSlots := rfl
@[simp] theorem State.updTim_store (s : State) (f : TimSt → TimSt) : (s.updTim f).store = s.store := rfl
@[simp] theorem State.updTim_img (s : State) (f : TimSt → TimSt) : (s.updTim f).img = s.img := rfl
@[simp] theorem State.updTim_grp (s : State) (f : TimSt → TimSt) : (s.updTim f).grp = s.grp := rfl
@[simp] theorem State.updTim_sm (s : State) (f : TimSt → TimSt) : (s.updTim f).sm = s.sm := rfl
@[simp] theorem State.updTim_hst (s : State) (f : TimSt → TimSt) : (s.updTim f).hst = s.hst := rfl
@[simp] theorem State.updTim_rcd (s : State) (f : TimSt → TimSt) : (s.updTim f).rcd = s.rcd := rfl
@[simp] theorem State.updTim_die (s : State) (f : TimSt → TimSt) : (s.updTim f).die = s.die := rfl
@[simp] theorem State.updTim_psw (s : State) (f : TimSt → TimSt) : (s.updTim f).psw = s.psw := rfl
@[simp] theorem State.updTim_vlv (s : State) (f : TimSt → TimSt) : (s.updTim f).vlv = s.vlv := rfl
@[simp] theorem State.updTim_col (s : State) (f : TimSt → TimSt) : (s.updTim f).col = s.col := rfl
@[simp] theorem State.updTim_sns (s : State) (f : TimSt → TimSt) : (s.updTim f).sns = s.sns := rfl
@[simp] theorem State.updTim_flw (s : State) (f : TimSt → TimSt) : (s.updTim f).flw = s.flw := rfl
@[simp] theorem State.updTim_lop (s : State) (f : TimSt → TimSt) : (s.updTim f).lop = s.lop := rfl
@[simp] theorem State.updTim_prf (s : State) (f : TimSt → TimSt) : (s.updTim f).prf = s.prf := rfl
@[simp] theorem State.updTim_nav (s : State) (f : TimSt → TimSt) : (s.updTim f).nav = s.nav := rfl
@[simp] theorem State.updTim_str (s : State) (f : TimSt → TimSt) : (s.updTim f).str = s.str := rfl
@[simp] theorem State.updTim_yld (s : State) (f : TimSt → TimSt) : (s.updTim f).yld = s.yld := rfl
@[simp] theorem State.updTim_vis (s : State) (f : TimSt → TimSt) : (s.updTim f).vis = s.vis := rfl
@[simp] theorem State.updTim_can (s : State) (f : TimSt → TimSt) : (s.updTim f).can = s.can := rfl
@[simp] theorem State.updTim_eth (s : State) (f : TimSt → TimSt) : (s.updTim f).eth = s.eth := rfl
@[simp] theorem State.updTim_updt (s : State) (f : TimSt → TimSt) : (s.updTim f).updt = s.updt := rfl
@[simp] theorem State.updTim_dbg (s : State) (f : TimSt → TimSt) : (s.updTim f).dbg = s.dbg := rfl
@[simp] theorem State.updTim_fmt (s : State) (f : TimSt → TimSt) : (s.updTim f).fmt = s.fmt := rfl
@[simp] theorem State.updTim_free (s : State) (f : TimSt → TimSt) : (s.updTim f).free = s.free := rfl
@[simp] theorem State.updTim_out (s : State) (f : TimSt → TimSt) : (s.updTim f).out = s.out := rfl
@[simp] theorem State.updTim_pending (s : State) (f : TimSt → TimSt) : (s.updTim f).pending = s.pending := rfl

@[simp] theorem State.updSrc_clk (s : State) (n : Nat) (f : SrcSt → SrcSt) : (s.updSrc n f).clk = s.clk := rfl
@[simp] theorem State.updSrc_pwr (s : State) (n : Nat) (f : SrcSt → SrcSt) : (s.updSrc n f).pwr = s.pwr := rfl
@[simp] theorem State.updSrc_regions (s : State) (n : Nat) (f : SrcSt → SrcSt) : (s.updSrc n f).regions = s.regions := rfl
@[simp] theorem State.updSrc_clRst (s : State) (n : Nat) (f : SrcSt → SrcSt) : (s.updSrc n f).clRst = s.clRst := rfl
@[simp] theorem State.updSrc_bud (s : State) (n : Nat) (f : SrcSt → SrcSt) : (s.updSrc n f).bud = s.bud := rfl
@[simp] theorem State.updSrc_wake (s : State) (n : Nat) (f : SrcSt → SrcSt) : (s.updSrc n f).wake = s.wake := rfl
@[simp] theorem State.updSrc_boot (s : State) (n : Nat) (f : SrcSt → SrcSt) : (s.updSrc n f).boot = s.boot := rfl
@[simp] theorem State.updSrc_flash (s : State) (n : Nat) (f : SrcSt → SrcSt) : (s.updSrc n f).flash = s.flash := rfl
@[simp] theorem State.updSrc_bootRec (s : State) (n : Nat) (f : SrcSt → SrcSt) : (s.updSrc n f).bootRec = s.bootRec := rfl
@[simp] theorem State.updSrc_journal (s : State) (n : Nat) (f : SrcSt → SrcSt) : (s.updSrc n f).journal = s.journal := rfl
@[simp] theorem State.updSrc_fw (s : State) (n : Nat) (f : SrcSt → SrcSt) : (s.updSrc n f).fw = s.fw := rfl
@[simp] theorem State.updSrc_setSlots (s : State) (n : Nat) (f : SrcSt → SrcSt) : (s.updSrc n f).setSlots = s.setSlots := rfl
@[simp] theorem State.updSrc_store (s : State) (n : Nat) (f : SrcSt → SrcSt) : (s.updSrc n f).store = s.store := rfl
@[simp] theorem State.updSrc_img (s : State) (n : Nat) (f : SrcSt → SrcSt) : (s.updSrc n f).img = s.img := rfl
@[simp] theorem State.updSrc_grp (s : State) (n : Nat) (f : SrcSt → SrcSt) : (s.updSrc n f).grp = s.grp := rfl
@[simp] theorem State.updSrc_sm (s : State) (n : Nat) (f : SrcSt → SrcSt) : (s.updSrc n f).sm = s.sm := rfl
@[simp] theorem State.updSrc_hst (s : State) (n : Nat) (f : SrcSt → SrcSt) : (s.updSrc n f).hst = s.hst := rfl
@[simp] theorem State.updSrc_rcd (s : State) (n : Nat) (f : SrcSt → SrcSt) : (s.updSrc n f).rcd = s.rcd := rfl
@[simp] theorem State.updSrc_die (s : State) (n : Nat) (f : SrcSt → SrcSt) : (s.updSrc n f).die = s.die := rfl
@[simp] theorem State.updSrc_psw (s : State) (n : Nat) (f : SrcSt → SrcSt) : (s.updSrc n f).psw = s.psw := rfl
@[simp] theorem State.updSrc_vlv (s : State) (n : Nat) (f : SrcSt → SrcSt) : (s.updSrc n f).vlv = s.vlv := rfl
@[simp] theorem State.updSrc_col (s : State) (n : Nat) (f : SrcSt → SrcSt) : (s.updSrc n f).col = s.col := rfl
@[simp] theorem State.updSrc_sns (s : State) (n : Nat) (f : SrcSt → SrcSt) : (s.updSrc n f).sns = s.sns := rfl
@[simp] theorem State.updSrc_flw (s : State) (n : Nat) (f : SrcSt → SrcSt) : (s.updSrc n f).flw = s.flw := rfl
@[simp] theorem State.updSrc_lop (s : State) (n : Nat) (f : SrcSt → SrcSt) : (s.updSrc n f).lop = s.lop := rfl
@[simp] theorem State.updSrc_prf (s : State) (n : Nat) (f : SrcSt → SrcSt) : (s.updSrc n f).prf = s.prf := rfl
@[simp] theorem State.updSrc_nav (s : State) (n : Nat) (f : SrcSt → SrcSt) : (s.updSrc n f).nav = s.nav := rfl
@[simp] theorem State.updSrc_str (s : State) (n : Nat) (f : SrcSt → SrcSt) : (s.updSrc n f).str = s.str := rfl
@[simp] theorem State.updSrc_yld (s : State) (n : Nat) (f : SrcSt → SrcSt) : (s.updSrc n f).yld = s.yld := rfl
@[simp] theorem State.updSrc_vis (s : State) (n : Nat) (f : SrcSt → SrcSt) : (s.updSrc n f).vis = s.vis := rfl
@[simp] theorem State.updSrc_can (s : State) (n : Nat) (f : SrcSt → SrcSt) : (s.updSrc n f).can = s.can := rfl
@[simp] theorem State.updSrc_eth (s : State) (n : Nat) (f : SrcSt → SrcSt) : (s.updSrc n f).eth = s.eth := rfl
@[simp] theorem State.updSrc_updt (s : State) (n : Nat) (f : SrcSt → SrcSt) : (s.updSrc n f).updt = s.updt := rfl
@[simp] theorem State.updSrc_dbg (s : State) (n : Nat) (f : SrcSt → SrcSt) : (s.updSrc n f).dbg = s.dbg := rfl
@[simp] theorem State.updSrc_fmt (s : State) (n : Nat) (f : SrcSt → SrcSt) : (s.updSrc n f).fmt = s.fmt := rfl
@[simp] theorem State.updSrc_free (s : State) (n : Nat) (f : SrcSt → SrcSt) : (s.updSrc n f).free = s.free := rfl
@[simp] theorem State.updSrc_out (s : State) (n : Nat) (f : SrcSt → SrcSt) : (s.updSrc n f).out = s.out := rfl
@[simp] theorem State.updSrc_pending (s : State) (n : Nat) (f : SrcSt → SrcSt) : (s.updSrc n f).pending = s.pending := rfl

@[simp] theorem State.updStr_clk (s : State) (f : StrSt → StrSt) : (s.updStr f).clk = s.clk := rfl
@[simp] theorem State.updStr_pwr (s : State) (f : StrSt → StrSt) : (s.updStr f).pwr = s.pwr := rfl
@[simp] theorem State.updStr_regions (s : State) (f : StrSt → StrSt) : (s.updStr f).regions = s.regions := rfl
@[simp] theorem State.updStr_clRst (s : State) (f : StrSt → StrSt) : (s.updStr f).clRst = s.clRst := rfl
@[simp] theorem State.updStr_bud (s : State) (f : StrSt → StrSt) : (s.updStr f).bud = s.bud := rfl
@[simp] theorem State.updStr_wake (s : State) (f : StrSt → StrSt) : (s.updStr f).wake = s.wake := rfl
@[simp] theorem State.updStr_boot (s : State) (f : StrSt → StrSt) : (s.updStr f).boot = s.boot := rfl
@[simp] theorem State.updStr_flash (s : State) (f : StrSt → StrSt) : (s.updStr f).flash = s.flash := rfl
@[simp] theorem State.updStr_bootRec (s : State) (f : StrSt → StrSt) : (s.updStr f).bootRec = s.bootRec := rfl
@[simp] theorem State.updStr_journal (s : State) (f : StrSt → StrSt) : (s.updStr f).journal = s.journal := rfl
@[simp] theorem State.updStr_fw (s : State) (f : StrSt → StrSt) : (s.updStr f).fw = s.fw := rfl
@[simp] theorem State.updStr_setSlots (s : State) (f : StrSt → StrSt) : (s.updStr f).setSlots = s.setSlots := rfl
@[simp] theorem State.updStr_store (s : State) (f : StrSt → StrSt) : (s.updStr f).store = s.store := rfl
@[simp] theorem State.updStr_img (s : State) (f : StrSt → StrSt) : (s.updStr f).img = s.img := rfl
@[simp] theorem State.updStr_grp (s : State) (f : StrSt → StrSt) : (s.updStr f).grp = s.grp := rfl
@[simp] theorem State.updStr_sm (s : State) (f : StrSt → StrSt) : (s.updStr f).sm = s.sm := rfl
@[simp] theorem State.updStr_hst (s : State) (f : StrSt → StrSt) : (s.updStr f).hst = s.hst := rfl
@[simp] theorem State.updStr_rcd (s : State) (f : StrSt → StrSt) : (s.updStr f).rcd = s.rcd := rfl
@[simp] theorem State.updStr_die (s : State) (f : StrSt → StrSt) : (s.updStr f).die = s.die := rfl
@[simp] theorem State.updStr_psw (s : State) (f : StrSt → StrSt) : (s.updStr f).psw = s.psw := rfl
@[simp] theorem State.updStr_vlv (s : State) (f : StrSt → StrSt) : (s.updStr f).vlv = s.vlv := rfl
@[simp] theorem State.updStr_col (s : State) (f : StrSt → StrSt) : (s.updStr f).col = s.col := rfl
@[simp] theorem State.updStr_sns (s : State) (f : StrSt → StrSt) : (s.updStr f).sns = s.sns := rfl
@[simp] theorem State.updStr_flw (s : State) (f : StrSt → StrSt) : (s.updStr f).flw = s.flw := rfl
@[simp] theorem State.updStr_lop (s : State) (f : StrSt → StrSt) : (s.updStr f).lop = s.lop := rfl
@[simp] theorem State.updStr_prf (s : State) (f : StrSt → StrSt) : (s.updStr f).prf = s.prf := rfl
@[simp] theorem State.updStr_nav (s : State) (f : StrSt → StrSt) : (s.updStr f).nav = s.nav := rfl
@[simp] theorem State.updStr_tim (s : State) (f : StrSt → StrSt) : (s.updStr f).tim = s.tim := rfl
@[simp] theorem State.updStr_yld (s : State) (f : StrSt → StrSt) : (s.updStr f).yld = s.yld := rfl
@[simp] theorem State.updStr_vis (s : State) (f : StrSt → StrSt) : (s.updStr f).vis = s.vis := rfl
@[simp] theorem State.updStr_can (s : State) (f : StrSt → StrSt) : (s.updStr f).can = s.can := rfl
@[simp] theorem State.updStr_eth (s : State) (f : StrSt → StrSt) : (s.updStr f).eth = s.eth := rfl
@[simp] theorem State.updStr_updt (s : State) (f : StrSt → StrSt) : (s.updStr f).updt = s.updt := rfl
@[simp] theorem State.updStr_dbg (s : State) (f : StrSt → StrSt) : (s.updStr f).dbg = s.dbg := rfl
@[simp] theorem State.updStr_fmt (s : State) (f : StrSt → StrSt) : (s.updStr f).fmt = s.fmt := rfl
@[simp] theorem State.updStr_free (s : State) (f : StrSt → StrSt) : (s.updStr f).free = s.free := rfl
@[simp] theorem State.updStr_out (s : State) (f : StrSt → StrSt) : (s.updStr f).out = s.out := rfl
@[simp] theorem State.updStr_pending (s : State) (f : StrSt → StrSt) : (s.updStr f).pending = s.pending := rfl

@[simp] theorem State.updYld_clk (s : State) (f : YldSt → YldSt) : (s.updYld f).clk = s.clk := rfl
@[simp] theorem State.updYld_pwr (s : State) (f : YldSt → YldSt) : (s.updYld f).pwr = s.pwr := rfl
@[simp] theorem State.updYld_regions (s : State) (f : YldSt → YldSt) : (s.updYld f).regions = s.regions := rfl
@[simp] theorem State.updYld_clRst (s : State) (f : YldSt → YldSt) : (s.updYld f).clRst = s.clRst := rfl
@[simp] theorem State.updYld_bud (s : State) (f : YldSt → YldSt) : (s.updYld f).bud = s.bud := rfl
@[simp] theorem State.updYld_wake (s : State) (f : YldSt → YldSt) : (s.updYld f).wake = s.wake := rfl
@[simp] theorem State.updYld_boot (s : State) (f : YldSt → YldSt) : (s.updYld f).boot = s.boot := rfl
@[simp] theorem State.updYld_flash (s : State) (f : YldSt → YldSt) : (s.updYld f).flash = s.flash := rfl
@[simp] theorem State.updYld_bootRec (s : State) (f : YldSt → YldSt) : (s.updYld f).bootRec = s.bootRec := rfl
@[simp] theorem State.updYld_journal (s : State) (f : YldSt → YldSt) : (s.updYld f).journal = s.journal := rfl
@[simp] theorem State.updYld_fw (s : State) (f : YldSt → YldSt) : (s.updYld f).fw = s.fw := rfl
@[simp] theorem State.updYld_setSlots (s : State) (f : YldSt → YldSt) : (s.updYld f).setSlots = s.setSlots := rfl
@[simp] theorem State.updYld_store (s : State) (f : YldSt → YldSt) : (s.updYld f).store = s.store := rfl
@[simp] theorem State.updYld_img (s : State) (f : YldSt → YldSt) : (s.updYld f).img = s.img := rfl
@[simp] theorem State.updYld_grp (s : State) (f : YldSt → YldSt) : (s.updYld f).grp = s.grp := rfl
@[simp] theorem State.updYld_sm (s : State) (f : YldSt → YldSt) : (s.updYld f).sm = s.sm := rfl
@[simp] theorem State.updYld_hst (s : State) (f : YldSt → YldSt) : (s.updYld f).hst = s.hst := rfl
@[simp] theorem State.updYld_rcd (s : State) (f : YldSt → YldSt) : (s.updYld f).rcd = s.rcd := rfl
@[simp] theorem State.updYld_die (s : State) (f : YldSt → YldSt) : (s.updYld f).die = s.die := rfl
@[simp] theorem State.updYld_psw (s : State) (f : YldSt → YldSt) : (s.updYld f).psw = s.psw := rfl
@[simp] theorem State.updYld_vlv (s : State) (f : YldSt → YldSt) : (s.updYld f).vlv = s.vlv := rfl
@[simp] theorem State.updYld_col (s : State) (f : YldSt → YldSt) : (s.updYld f).col = s.col := rfl
@[simp] theorem State.updYld_sns (s : State) (f : YldSt → YldSt) : (s.updYld f).sns = s.sns := rfl
@[simp] theorem State.updYld_flw (s : State) (f : YldSt → YldSt) : (s.updYld f).flw = s.flw := rfl
@[simp] theorem State.updYld_lop (s : State) (f : YldSt → YldSt) : (s.updYld f).lop = s.lop := rfl
@[simp] theorem State.updYld_prf (s : State) (f : YldSt → YldSt) : (s.updYld f).prf = s.prf := rfl
@[simp] theorem State.updYld_nav (s : State) (f : YldSt → YldSt) : (s.updYld f).nav = s.nav := rfl
@[simp] theorem State.updYld_tim (s : State) (f : YldSt → YldSt) : (s.updYld f).tim = s.tim := rfl
@[simp] theorem State.updYld_str (s : State) (f : YldSt → YldSt) : (s.updYld f).str = s.str := rfl
@[simp] theorem State.updYld_vis (s : State) (f : YldSt → YldSt) : (s.updYld f).vis = s.vis := rfl
@[simp] theorem State.updYld_can (s : State) (f : YldSt → YldSt) : (s.updYld f).can = s.can := rfl
@[simp] theorem State.updYld_eth (s : State) (f : YldSt → YldSt) : (s.updYld f).eth = s.eth := rfl
@[simp] theorem State.updYld_updt (s : State) (f : YldSt → YldSt) : (s.updYld f).updt = s.updt := rfl
@[simp] theorem State.updYld_dbg (s : State) (f : YldSt → YldSt) : (s.updYld f).dbg = s.dbg := rfl
@[simp] theorem State.updYld_fmt (s : State) (f : YldSt → YldSt) : (s.updYld f).fmt = s.fmt := rfl
@[simp] theorem State.updYld_free (s : State) (f : YldSt → YldSt) : (s.updYld f).free = s.free := rfl
@[simp] theorem State.updYld_out (s : State) (f : YldSt → YldSt) : (s.updYld f).out = s.out := rfl
@[simp] theorem State.updYld_pending (s : State) (f : YldSt → YldSt) : (s.updYld f).pending = s.pending := rfl

@[simp] theorem State.updVis_clk (s : State) (f : VisSt → VisSt) : (s.updVis f).clk = s.clk := rfl
@[simp] theorem State.updVis_pwr (s : State) (f : VisSt → VisSt) : (s.updVis f).pwr = s.pwr := rfl
@[simp] theorem State.updVis_regions (s : State) (f : VisSt → VisSt) : (s.updVis f).regions = s.regions := rfl
@[simp] theorem State.updVis_clRst (s : State) (f : VisSt → VisSt) : (s.updVis f).clRst = s.clRst := rfl
@[simp] theorem State.updVis_bud (s : State) (f : VisSt → VisSt) : (s.updVis f).bud = s.bud := rfl
@[simp] theorem State.updVis_wake (s : State) (f : VisSt → VisSt) : (s.updVis f).wake = s.wake := rfl
@[simp] theorem State.updVis_boot (s : State) (f : VisSt → VisSt) : (s.updVis f).boot = s.boot := rfl
@[simp] theorem State.updVis_flash (s : State) (f : VisSt → VisSt) : (s.updVis f).flash = s.flash := rfl
@[simp] theorem State.updVis_bootRec (s : State) (f : VisSt → VisSt) : (s.updVis f).bootRec = s.bootRec := rfl
@[simp] theorem State.updVis_journal (s : State) (f : VisSt → VisSt) : (s.updVis f).journal = s.journal := rfl
@[simp] theorem State.updVis_fw (s : State) (f : VisSt → VisSt) : (s.updVis f).fw = s.fw := rfl
@[simp] theorem State.updVis_setSlots (s : State) (f : VisSt → VisSt) : (s.updVis f).setSlots = s.setSlots := rfl
@[simp] theorem State.updVis_store (s : State) (f : VisSt → VisSt) : (s.updVis f).store = s.store := rfl
@[simp] theorem State.updVis_img (s : State) (f : VisSt → VisSt) : (s.updVis f).img = s.img := rfl
@[simp] theorem State.updVis_grp (s : State) (f : VisSt → VisSt) : (s.updVis f).grp = s.grp := rfl
@[simp] theorem State.updVis_sm (s : State) (f : VisSt → VisSt) : (s.updVis f).sm = s.sm := rfl
@[simp] theorem State.updVis_hst (s : State) (f : VisSt → VisSt) : (s.updVis f).hst = s.hst := rfl
@[simp] theorem State.updVis_rcd (s : State) (f : VisSt → VisSt) : (s.updVis f).rcd = s.rcd := rfl
@[simp] theorem State.updVis_die (s : State) (f : VisSt → VisSt) : (s.updVis f).die = s.die := rfl
@[simp] theorem State.updVis_psw (s : State) (f : VisSt → VisSt) : (s.updVis f).psw = s.psw := rfl
@[simp] theorem State.updVis_vlv (s : State) (f : VisSt → VisSt) : (s.updVis f).vlv = s.vlv := rfl
@[simp] theorem State.updVis_col (s : State) (f : VisSt → VisSt) : (s.updVis f).col = s.col := rfl
@[simp] theorem State.updVis_sns (s : State) (f : VisSt → VisSt) : (s.updVis f).sns = s.sns := rfl
@[simp] theorem State.updVis_flw (s : State) (f : VisSt → VisSt) : (s.updVis f).flw = s.flw := rfl
@[simp] theorem State.updVis_lop (s : State) (f : VisSt → VisSt) : (s.updVis f).lop = s.lop := rfl
@[simp] theorem State.updVis_prf (s : State) (f : VisSt → VisSt) : (s.updVis f).prf = s.prf := rfl
@[simp] theorem State.updVis_nav (s : State) (f : VisSt → VisSt) : (s.updVis f).nav = s.nav := rfl
@[simp] theorem State.updVis_tim (s : State) (f : VisSt → VisSt) : (s.updVis f).tim = s.tim := rfl
@[simp] theorem State.updVis_str (s : State) (f : VisSt → VisSt) : (s.updVis f).str = s.str := rfl
@[simp] theorem State.updVis_yld (s : State) (f : VisSt → VisSt) : (s.updVis f).yld = s.yld := rfl
@[simp] theorem State.updVis_can (s : State) (f : VisSt → VisSt) : (s.updVis f).can = s.can := rfl
@[simp] theorem State.updVis_eth (s : State) (f : VisSt → VisSt) : (s.updVis f).eth = s.eth := rfl
@[simp] theorem State.updVis_updt (s : State) (f : VisSt → VisSt) : (s.updVis f).updt = s.updt := rfl
@[simp] theorem State.updVis_dbg (s : State) (f : VisSt → VisSt) : (s.updVis f).dbg = s.dbg := rfl
@[simp] theorem State.updVis_fmt (s : State) (f : VisSt → VisSt) : (s.updVis f).fmt = s.fmt := rfl
@[simp] theorem State.updVis_free (s : State) (f : VisSt → VisSt) : (s.updVis f).free = s.free := rfl
@[simp] theorem State.updVis_out (s : State) (f : VisSt → VisSt) : (s.updVis f).out = s.out := rfl
@[simp] theorem State.updVis_pending (s : State) (f : VisSt → VisSt) : (s.updVis f).pending = s.pending := rfl

@[simp] theorem State.updCam_clk (s : State) (n : Nat) (f : Cam → Cam) : (s.updCam n f).clk = s.clk := rfl
@[simp] theorem State.updCam_pwr (s : State) (n : Nat) (f : Cam → Cam) : (s.updCam n f).pwr = s.pwr := rfl
@[simp] theorem State.updCam_regions (s : State) (n : Nat) (f : Cam → Cam) : (s.updCam n f).regions = s.regions := rfl
@[simp] theorem State.updCam_clRst (s : State) (n : Nat) (f : Cam → Cam) : (s.updCam n f).clRst = s.clRst := rfl
@[simp] theorem State.updCam_bud (s : State) (n : Nat) (f : Cam → Cam) : (s.updCam n f).bud = s.bud := rfl
@[simp] theorem State.updCam_wake (s : State) (n : Nat) (f : Cam → Cam) : (s.updCam n f).wake = s.wake := rfl
@[simp] theorem State.updCam_boot (s : State) (n : Nat) (f : Cam → Cam) : (s.updCam n f).boot = s.boot := rfl
@[simp] theorem State.updCam_flash (s : State) (n : Nat) (f : Cam → Cam) : (s.updCam n f).flash = s.flash := rfl
@[simp] theorem State.updCam_bootRec (s : State) (n : Nat) (f : Cam → Cam) : (s.updCam n f).bootRec = s.bootRec := rfl
@[simp] theorem State.updCam_journal (s : State) (n : Nat) (f : Cam → Cam) : (s.updCam n f).journal = s.journal := rfl
@[simp] theorem State.updCam_fw (s : State) (n : Nat) (f : Cam → Cam) : (s.updCam n f).fw = s.fw := rfl
@[simp] theorem State.updCam_setSlots (s : State) (n : Nat) (f : Cam → Cam) : (s.updCam n f).setSlots = s.setSlots := rfl
@[simp] theorem State.updCam_store (s : State) (n : Nat) (f : Cam → Cam) : (s.updCam n f).store = s.store := rfl
@[simp] theorem State.updCam_img (s : State) (n : Nat) (f : Cam → Cam) : (s.updCam n f).img = s.img := rfl
@[simp] theorem State.updCam_grp (s : State) (n : Nat) (f : Cam → Cam) : (s.updCam n f).grp = s.grp := rfl
@[simp] theorem State.updCam_sm (s : State) (n : Nat) (f : Cam → Cam) : (s.updCam n f).sm = s.sm := rfl
@[simp] theorem State.updCam_hst (s : State) (n : Nat) (f : Cam → Cam) : (s.updCam n f).hst = s.hst := rfl
@[simp] theorem State.updCam_rcd (s : State) (n : Nat) (f : Cam → Cam) : (s.updCam n f).rcd = s.rcd := rfl
@[simp] theorem State.updCam_die (s : State) (n : Nat) (f : Cam → Cam) : (s.updCam n f).die = s.die := rfl
@[simp] theorem State.updCam_psw (s : State) (n : Nat) (f : Cam → Cam) : (s.updCam n f).psw = s.psw := rfl
@[simp] theorem State.updCam_vlv (s : State) (n : Nat) (f : Cam → Cam) : (s.updCam n f).vlv = s.vlv := rfl
@[simp] theorem State.updCam_col (s : State) (n : Nat) (f : Cam → Cam) : (s.updCam n f).col = s.col := rfl
@[simp] theorem State.updCam_sns (s : State) (n : Nat) (f : Cam → Cam) : (s.updCam n f).sns = s.sns := rfl
@[simp] theorem State.updCam_flw (s : State) (n : Nat) (f : Cam → Cam) : (s.updCam n f).flw = s.flw := rfl
@[simp] theorem State.updCam_lop (s : State) (n : Nat) (f : Cam → Cam) : (s.updCam n f).lop = s.lop := rfl
@[simp] theorem State.updCam_prf (s : State) (n : Nat) (f : Cam → Cam) : (s.updCam n f).prf = s.prf := rfl
@[simp] theorem State.updCam_nav (s : State) (n : Nat) (f : Cam → Cam) : (s.updCam n f).nav = s.nav := rfl
@[simp] theorem State.updCam_tim (s : State) (n : Nat) (f : Cam → Cam) : (s.updCam n f).tim = s.tim := rfl
@[simp] theorem State.updCam_str (s : State) (n : Nat) (f : Cam → Cam) : (s.updCam n f).str = s.str := rfl
@[simp] theorem State.updCam_yld (s : State) (n : Nat) (f : Cam → Cam) : (s.updCam n f).yld = s.yld := rfl
@[simp] theorem State.updCam_can (s : State) (n : Nat) (f : Cam → Cam) : (s.updCam n f).can = s.can := rfl
@[simp] theorem State.updCam_eth (s : State) (n : Nat) (f : Cam → Cam) : (s.updCam n f).eth = s.eth := rfl
@[simp] theorem State.updCam_updt (s : State) (n : Nat) (f : Cam → Cam) : (s.updCam n f).updt = s.updt := rfl
@[simp] theorem State.updCam_dbg (s : State) (n : Nat) (f : Cam → Cam) : (s.updCam n f).dbg = s.dbg := rfl
@[simp] theorem State.updCam_fmt (s : State) (n : Nat) (f : Cam → Cam) : (s.updCam n f).fmt = s.fmt := rfl
@[simp] theorem State.updCam_free (s : State) (n : Nat) (f : Cam → Cam) : (s.updCam n f).free = s.free := rfl
@[simp] theorem State.updCam_out (s : State) (n : Nat) (f : Cam → Cam) : (s.updCam n f).out = s.out := rfl
@[simp] theorem State.updCam_pending (s : State) (n : Nat) (f : Cam → Cam) : (s.updCam n f).pending = s.pending := rfl

@[simp] theorem State.updPipe_clk (s : State) (n : Nat) (f : Pipe → Pipe) : (s.updPipe n f).clk = s.clk := rfl
@[simp] theorem State.updPipe_pwr (s : State) (n : Nat) (f : Pipe → Pipe) : (s.updPipe n f).pwr = s.pwr := rfl
@[simp] theorem State.updPipe_regions (s : State) (n : Nat) (f : Pipe → Pipe) : (s.updPipe n f).regions = s.regions := rfl
@[simp] theorem State.updPipe_clRst (s : State) (n : Nat) (f : Pipe → Pipe) : (s.updPipe n f).clRst = s.clRst := rfl
@[simp] theorem State.updPipe_bud (s : State) (n : Nat) (f : Pipe → Pipe) : (s.updPipe n f).bud = s.bud := rfl
@[simp] theorem State.updPipe_wake (s : State) (n : Nat) (f : Pipe → Pipe) : (s.updPipe n f).wake = s.wake := rfl
@[simp] theorem State.updPipe_boot (s : State) (n : Nat) (f : Pipe → Pipe) : (s.updPipe n f).boot = s.boot := rfl
@[simp] theorem State.updPipe_flash (s : State) (n : Nat) (f : Pipe → Pipe) : (s.updPipe n f).flash = s.flash := rfl
@[simp] theorem State.updPipe_bootRec (s : State) (n : Nat) (f : Pipe → Pipe) : (s.updPipe n f).bootRec = s.bootRec := rfl
@[simp] theorem State.updPipe_journal (s : State) (n : Nat) (f : Pipe → Pipe) : (s.updPipe n f).journal = s.journal := rfl
@[simp] theorem State.updPipe_fw (s : State) (n : Nat) (f : Pipe → Pipe) : (s.updPipe n f).fw = s.fw := rfl
@[simp] theorem State.updPipe_setSlots (s : State) (n : Nat) (f : Pipe → Pipe) : (s.updPipe n f).setSlots = s.setSlots := rfl
@[simp] theorem State.updPipe_store (s : State) (n : Nat) (f : Pipe → Pipe) : (s.updPipe n f).store = s.store := rfl
@[simp] theorem State.updPipe_img (s : State) (n : Nat) (f : Pipe → Pipe) : (s.updPipe n f).img = s.img := rfl
@[simp] theorem State.updPipe_grp (s : State) (n : Nat) (f : Pipe → Pipe) : (s.updPipe n f).grp = s.grp := rfl
@[simp] theorem State.updPipe_sm (s : State) (n : Nat) (f : Pipe → Pipe) : (s.updPipe n f).sm = s.sm := rfl
@[simp] theorem State.updPipe_hst (s : State) (n : Nat) (f : Pipe → Pipe) : (s.updPipe n f).hst = s.hst := rfl
@[simp] theorem State.updPipe_rcd (s : State) (n : Nat) (f : Pipe → Pipe) : (s.updPipe n f).rcd = s.rcd := rfl
@[simp] theorem State.updPipe_die (s : State) (n : Nat) (f : Pipe → Pipe) : (s.updPipe n f).die = s.die := rfl
@[simp] theorem State.updPipe_psw (s : State) (n : Nat) (f : Pipe → Pipe) : (s.updPipe n f).psw = s.psw := rfl
@[simp] theorem State.updPipe_vlv (s : State) (n : Nat) (f : Pipe → Pipe) : (s.updPipe n f).vlv = s.vlv := rfl
@[simp] theorem State.updPipe_col (s : State) (n : Nat) (f : Pipe → Pipe) : (s.updPipe n f).col = s.col := rfl
@[simp] theorem State.updPipe_sns (s : State) (n : Nat) (f : Pipe → Pipe) : (s.updPipe n f).sns = s.sns := rfl
@[simp] theorem State.updPipe_flw (s : State) (n : Nat) (f : Pipe → Pipe) : (s.updPipe n f).flw = s.flw := rfl
@[simp] theorem State.updPipe_lop (s : State) (n : Nat) (f : Pipe → Pipe) : (s.updPipe n f).lop = s.lop := rfl
@[simp] theorem State.updPipe_prf (s : State) (n : Nat) (f : Pipe → Pipe) : (s.updPipe n f).prf = s.prf := rfl
@[simp] theorem State.updPipe_nav (s : State) (n : Nat) (f : Pipe → Pipe) : (s.updPipe n f).nav = s.nav := rfl
@[simp] theorem State.updPipe_tim (s : State) (n : Nat) (f : Pipe → Pipe) : (s.updPipe n f).tim = s.tim := rfl
@[simp] theorem State.updPipe_str (s : State) (n : Nat) (f : Pipe → Pipe) : (s.updPipe n f).str = s.str := rfl
@[simp] theorem State.updPipe_yld (s : State) (n : Nat) (f : Pipe → Pipe) : (s.updPipe n f).yld = s.yld := rfl
@[simp] theorem State.updPipe_can (s : State) (n : Nat) (f : Pipe → Pipe) : (s.updPipe n f).can = s.can := rfl
@[simp] theorem State.updPipe_eth (s : State) (n : Nat) (f : Pipe → Pipe) : (s.updPipe n f).eth = s.eth := rfl
@[simp] theorem State.updPipe_updt (s : State) (n : Nat) (f : Pipe → Pipe) : (s.updPipe n f).updt = s.updt := rfl
@[simp] theorem State.updPipe_dbg (s : State) (n : Nat) (f : Pipe → Pipe) : (s.updPipe n f).dbg = s.dbg := rfl
@[simp] theorem State.updPipe_fmt (s : State) (n : Nat) (f : Pipe → Pipe) : (s.updPipe n f).fmt = s.fmt := rfl
@[simp] theorem State.updPipe_free (s : State) (n : Nat) (f : Pipe → Pipe) : (s.updPipe n f).free = s.free := rfl
@[simp] theorem State.updPipe_out (s : State) (n : Nat) (f : Pipe → Pipe) : (s.updPipe n f).out = s.out := rfl
@[simp] theorem State.updPipe_pending (s : State) (n : Nat) (f : Pipe → Pipe) : (s.updPipe n f).pending = s.pending := rfl

@[simp] theorem State.updCan_clk (s : State) (f : CanSt → CanSt) : (s.updCan f).clk = s.clk := rfl
@[simp] theorem State.updCan_pwr (s : State) (f : CanSt → CanSt) : (s.updCan f).pwr = s.pwr := rfl
@[simp] theorem State.updCan_regions (s : State) (f : CanSt → CanSt) : (s.updCan f).regions = s.regions := rfl
@[simp] theorem State.updCan_clRst (s : State) (f : CanSt → CanSt) : (s.updCan f).clRst = s.clRst := rfl
@[simp] theorem State.updCan_bud (s : State) (f : CanSt → CanSt) : (s.updCan f).bud = s.bud := rfl
@[simp] theorem State.updCan_wake (s : State) (f : CanSt → CanSt) : (s.updCan f).wake = s.wake := rfl
@[simp] theorem State.updCan_boot (s : State) (f : CanSt → CanSt) : (s.updCan f).boot = s.boot := rfl
@[simp] theorem State.updCan_flash (s : State) (f : CanSt → CanSt) : (s.updCan f).flash = s.flash := rfl
@[simp] theorem State.updCan_bootRec (s : State) (f : CanSt → CanSt) : (s.updCan f).bootRec = s.bootRec := rfl
@[simp] theorem State.updCan_journal (s : State) (f : CanSt → CanSt) : (s.updCan f).journal = s.journal := rfl
@[simp] theorem State.updCan_fw (s : State) (f : CanSt → CanSt) : (s.updCan f).fw = s.fw := rfl
@[simp] theorem State.updCan_setSlots (s : State) (f : CanSt → CanSt) : (s.updCan f).setSlots = s.setSlots := rfl
@[simp] theorem State.updCan_store (s : State) (f : CanSt → CanSt) : (s.updCan f).store = s.store := rfl
@[simp] theorem State.updCan_img (s : State) (f : CanSt → CanSt) : (s.updCan f).img = s.img := rfl
@[simp] theorem State.updCan_grp (s : State) (f : CanSt → CanSt) : (s.updCan f).grp = s.grp := rfl
@[simp] theorem State.updCan_sm (s : State) (f : CanSt → CanSt) : (s.updCan f).sm = s.sm := rfl
@[simp] theorem State.updCan_hst (s : State) (f : CanSt → CanSt) : (s.updCan f).hst = s.hst := rfl
@[simp] theorem State.updCan_rcd (s : State) (f : CanSt → CanSt) : (s.updCan f).rcd = s.rcd := rfl
@[simp] theorem State.updCan_die (s : State) (f : CanSt → CanSt) : (s.updCan f).die = s.die := rfl
@[simp] theorem State.updCan_psw (s : State) (f : CanSt → CanSt) : (s.updCan f).psw = s.psw := rfl
@[simp] theorem State.updCan_vlv (s : State) (f : CanSt → CanSt) : (s.updCan f).vlv = s.vlv := rfl
@[simp] theorem State.updCan_col (s : State) (f : CanSt → CanSt) : (s.updCan f).col = s.col := rfl
@[simp] theorem State.updCan_sns (s : State) (f : CanSt → CanSt) : (s.updCan f).sns = s.sns := rfl
@[simp] theorem State.updCan_flw (s : State) (f : CanSt → CanSt) : (s.updCan f).flw = s.flw := rfl
@[simp] theorem State.updCan_lop (s : State) (f : CanSt → CanSt) : (s.updCan f).lop = s.lop := rfl
@[simp] theorem State.updCan_prf (s : State) (f : CanSt → CanSt) : (s.updCan f).prf = s.prf := rfl
@[simp] theorem State.updCan_nav (s : State) (f : CanSt → CanSt) : (s.updCan f).nav = s.nav := rfl
@[simp] theorem State.updCan_tim (s : State) (f : CanSt → CanSt) : (s.updCan f).tim = s.tim := rfl
@[simp] theorem State.updCan_str (s : State) (f : CanSt → CanSt) : (s.updCan f).str = s.str := rfl
@[simp] theorem State.updCan_yld (s : State) (f : CanSt → CanSt) : (s.updCan f).yld = s.yld := rfl
@[simp] theorem State.updCan_vis (s : State) (f : CanSt → CanSt) : (s.updCan f).vis = s.vis := rfl
@[simp] theorem State.updCan_eth (s : State) (f : CanSt → CanSt) : (s.updCan f).eth = s.eth := rfl
@[simp] theorem State.updCan_updt (s : State) (f : CanSt → CanSt) : (s.updCan f).updt = s.updt := rfl
@[simp] theorem State.updCan_dbg (s : State) (f : CanSt → CanSt) : (s.updCan f).dbg = s.dbg := rfl
@[simp] theorem State.updCan_fmt (s : State) (f : CanSt → CanSt) : (s.updCan f).fmt = s.fmt := rfl
@[simp] theorem State.updCan_free (s : State) (f : CanSt → CanSt) : (s.updCan f).free = s.free := rfl
@[simp] theorem State.updCan_out (s : State) (f : CanSt → CanSt) : (s.updCan f).out = s.out := rfl
@[simp] theorem State.updCan_pending (s : State) (f : CanSt → CanSt) : (s.updCan f).pending = s.pending := rfl

@[simp] theorem State.updCc_clk (s : State) (n : Nat) (f : CanCh → CanCh) : (s.updCc n f).clk = s.clk := rfl
@[simp] theorem State.updCc_pwr (s : State) (n : Nat) (f : CanCh → CanCh) : (s.updCc n f).pwr = s.pwr := rfl
@[simp] theorem State.updCc_regions (s : State) (n : Nat) (f : CanCh → CanCh) : (s.updCc n f).regions = s.regions := rfl
@[simp] theorem State.updCc_clRst (s : State) (n : Nat) (f : CanCh → CanCh) : (s.updCc n f).clRst = s.clRst := rfl
@[simp] theorem State.updCc_bud (s : State) (n : Nat) (f : CanCh → CanCh) : (s.updCc n f).bud = s.bud := rfl
@[simp] theorem State.updCc_wake (s : State) (n : Nat) (f : CanCh → CanCh) : (s.updCc n f).wake = s.wake := rfl
@[simp] theorem State.updCc_boot (s : State) (n : Nat) (f : CanCh → CanCh) : (s.updCc n f).boot = s.boot := rfl
@[simp] theorem State.updCc_flash (s : State) (n : Nat) (f : CanCh → CanCh) : (s.updCc n f).flash = s.flash := rfl
@[simp] theorem State.updCc_bootRec (s : State) (n : Nat) (f : CanCh → CanCh) : (s.updCc n f).bootRec = s.bootRec := rfl
@[simp] theorem State.updCc_journal (s : State) (n : Nat) (f : CanCh → CanCh) : (s.updCc n f).journal = s.journal := rfl
@[simp] theorem State.updCc_fw (s : State) (n : Nat) (f : CanCh → CanCh) : (s.updCc n f).fw = s.fw := rfl
@[simp] theorem State.updCc_setSlots (s : State) (n : Nat) (f : CanCh → CanCh) : (s.updCc n f).setSlots = s.setSlots := rfl
@[simp] theorem State.updCc_store (s : State) (n : Nat) (f : CanCh → CanCh) : (s.updCc n f).store = s.store := rfl
@[simp] theorem State.updCc_img (s : State) (n : Nat) (f : CanCh → CanCh) : (s.updCc n f).img = s.img := rfl
@[simp] theorem State.updCc_grp (s : State) (n : Nat) (f : CanCh → CanCh) : (s.updCc n f).grp = s.grp := rfl
@[simp] theorem State.updCc_sm (s : State) (n : Nat) (f : CanCh → CanCh) : (s.updCc n f).sm = s.sm := rfl
@[simp] theorem State.updCc_hst (s : State) (n : Nat) (f : CanCh → CanCh) : (s.updCc n f).hst = s.hst := rfl
@[simp] theorem State.updCc_rcd (s : State) (n : Nat) (f : CanCh → CanCh) : (s.updCc n f).rcd = s.rcd := rfl
@[simp] theorem State.updCc_die (s : State) (n : Nat) (f : CanCh → CanCh) : (s.updCc n f).die = s.die := rfl
@[simp] theorem State.updCc_psw (s : State) (n : Nat) (f : CanCh → CanCh) : (s.updCc n f).psw = s.psw := rfl
@[simp] theorem State.updCc_vlv (s : State) (n : Nat) (f : CanCh → CanCh) : (s.updCc n f).vlv = s.vlv := rfl
@[simp] theorem State.updCc_col (s : State) (n : Nat) (f : CanCh → CanCh) : (s.updCc n f).col = s.col := rfl
@[simp] theorem State.updCc_sns (s : State) (n : Nat) (f : CanCh → CanCh) : (s.updCc n f).sns = s.sns := rfl
@[simp] theorem State.updCc_flw (s : State) (n : Nat) (f : CanCh → CanCh) : (s.updCc n f).flw = s.flw := rfl
@[simp] theorem State.updCc_lop (s : State) (n : Nat) (f : CanCh → CanCh) : (s.updCc n f).lop = s.lop := rfl
@[simp] theorem State.updCc_prf (s : State) (n : Nat) (f : CanCh → CanCh) : (s.updCc n f).prf = s.prf := rfl
@[simp] theorem State.updCc_nav (s : State) (n : Nat) (f : CanCh → CanCh) : (s.updCc n f).nav = s.nav := rfl
@[simp] theorem State.updCc_tim (s : State) (n : Nat) (f : CanCh → CanCh) : (s.updCc n f).tim = s.tim := rfl
@[simp] theorem State.updCc_str (s : State) (n : Nat) (f : CanCh → CanCh) : (s.updCc n f).str = s.str := rfl
@[simp] theorem State.updCc_yld (s : State) (n : Nat) (f : CanCh → CanCh) : (s.updCc n f).yld = s.yld := rfl
@[simp] theorem State.updCc_vis (s : State) (n : Nat) (f : CanCh → CanCh) : (s.updCc n f).vis = s.vis := rfl
@[simp] theorem State.updCc_eth (s : State) (n : Nat) (f : CanCh → CanCh) : (s.updCc n f).eth = s.eth := rfl
@[simp] theorem State.updCc_updt (s : State) (n : Nat) (f : CanCh → CanCh) : (s.updCc n f).updt = s.updt := rfl
@[simp] theorem State.updCc_dbg (s : State) (n : Nat) (f : CanCh → CanCh) : (s.updCc n f).dbg = s.dbg := rfl
@[simp] theorem State.updCc_fmt (s : State) (n : Nat) (f : CanCh → CanCh) : (s.updCc n f).fmt = s.fmt := rfl
@[simp] theorem State.updCc_free (s : State) (n : Nat) (f : CanCh → CanCh) : (s.updCc n f).free = s.free := rfl
@[simp] theorem State.updCc_out (s : State) (n : Nat) (f : CanCh → CanCh) : (s.updCc n f).out = s.out := rfl
@[simp] theorem State.updCc_pending (s : State) (n : Nat) (f : CanCh → CanCh) : (s.updCc n f).pending = s.pending := rfl

@[simp] theorem State.updEth_clk (s : State) (f : EthSt → EthSt) : (s.updEth f).clk = s.clk := rfl
@[simp] theorem State.updEth_pwr (s : State) (f : EthSt → EthSt) : (s.updEth f).pwr = s.pwr := rfl
@[simp] theorem State.updEth_regions (s : State) (f : EthSt → EthSt) : (s.updEth f).regions = s.regions := rfl
@[simp] theorem State.updEth_clRst (s : State) (f : EthSt → EthSt) : (s.updEth f).clRst = s.clRst := rfl
@[simp] theorem State.updEth_bud (s : State) (f : EthSt → EthSt) : (s.updEth f).bud = s.bud := rfl
@[simp] theorem State.updEth_wake (s : State) (f : EthSt → EthSt) : (s.updEth f).wake = s.wake := rfl
@[simp] theorem State.updEth_boot (s : State) (f : EthSt → EthSt) : (s.updEth f).boot = s.boot := rfl
@[simp] theorem State.updEth_flash (s : State) (f : EthSt → EthSt) : (s.updEth f).flash = s.flash := rfl
@[simp] theorem State.updEth_bootRec (s : State) (f : EthSt → EthSt) : (s.updEth f).bootRec = s.bootRec := rfl
@[simp] theorem State.updEth_journal (s : State) (f : EthSt → EthSt) : (s.updEth f).journal = s.journal := rfl
@[simp] theorem State.updEth_fw (s : State) (f : EthSt → EthSt) : (s.updEth f).fw = s.fw := rfl
@[simp] theorem State.updEth_setSlots (s : State) (f : EthSt → EthSt) : (s.updEth f).setSlots = s.setSlots := rfl
@[simp] theorem State.updEth_store (s : State) (f : EthSt → EthSt) : (s.updEth f).store = s.store := rfl
@[simp] theorem State.updEth_img (s : State) (f : EthSt → EthSt) : (s.updEth f).img = s.img := rfl
@[simp] theorem State.updEth_grp (s : State) (f : EthSt → EthSt) : (s.updEth f).grp = s.grp := rfl
@[simp] theorem State.updEth_sm (s : State) (f : EthSt → EthSt) : (s.updEth f).sm = s.sm := rfl
@[simp] theorem State.updEth_hst (s : State) (f : EthSt → EthSt) : (s.updEth f).hst = s.hst := rfl
@[simp] theorem State.updEth_rcd (s : State) (f : EthSt → EthSt) : (s.updEth f).rcd = s.rcd := rfl
@[simp] theorem State.updEth_die (s : State) (f : EthSt → EthSt) : (s.updEth f).die = s.die := rfl
@[simp] theorem State.updEth_psw (s : State) (f : EthSt → EthSt) : (s.updEth f).psw = s.psw := rfl
@[simp] theorem State.updEth_vlv (s : State) (f : EthSt → EthSt) : (s.updEth f).vlv = s.vlv := rfl
@[simp] theorem State.updEth_col (s : State) (f : EthSt → EthSt) : (s.updEth f).col = s.col := rfl
@[simp] theorem State.updEth_sns (s : State) (f : EthSt → EthSt) : (s.updEth f).sns = s.sns := rfl
@[simp] theorem State.updEth_flw (s : State) (f : EthSt → EthSt) : (s.updEth f).flw = s.flw := rfl
@[simp] theorem State.updEth_lop (s : State) (f : EthSt → EthSt) : (s.updEth f).lop = s.lop := rfl
@[simp] theorem State.updEth_prf (s : State) (f : EthSt → EthSt) : (s.updEth f).prf = s.prf := rfl
@[simp] theorem State.updEth_nav (s : State) (f : EthSt → EthSt) : (s.updEth f).nav = s.nav := rfl
@[simp] theorem State.updEth_tim (s : State) (f : EthSt → EthSt) : (s.updEth f).tim = s.tim := rfl
@[simp] theorem State.updEth_str (s : State) (f : EthSt → EthSt) : (s.updEth f).str = s.str := rfl
@[simp] theorem State.updEth_yld (s : State) (f : EthSt → EthSt) : (s.updEth f).yld = s.yld := rfl
@[simp] theorem State.updEth_vis (s : State) (f : EthSt → EthSt) : (s.updEth f).vis = s.vis := rfl
@[simp] theorem State.updEth_can (s : State) (f : EthSt → EthSt) : (s.updEth f).can = s.can := rfl
@[simp] theorem State.updEth_updt (s : State) (f : EthSt → EthSt) : (s.updEth f).updt = s.updt := rfl
@[simp] theorem State.updEth_dbg (s : State) (f : EthSt → EthSt) : (s.updEth f).dbg = s.dbg := rfl
@[simp] theorem State.updEth_fmt (s : State) (f : EthSt → EthSt) : (s.updEth f).fmt = s.fmt := rfl
@[simp] theorem State.updEth_free (s : State) (f : EthSt → EthSt) : (s.updEth f).free = s.free := rfl
@[simp] theorem State.updEth_out (s : State) (f : EthSt → EthSt) : (s.updEth f).out = s.out := rfl
@[simp] theorem State.updEth_pending (s : State) (f : EthSt → EthSt) : (s.updEth f).pending = s.pending := rfl

@[simp] theorem State.updPort_clk (s : State) (n : Nat) (f : EthPort → EthPort) : (s.updPort n f).clk = s.clk := rfl
@[simp] theorem State.updPort_pwr (s : State) (n : Nat) (f : EthPort → EthPort) : (s.updPort n f).pwr = s.pwr := rfl
@[simp] theorem State.updPort_regions (s : State) (n : Nat) (f : EthPort → EthPort) : (s.updPort n f).regions = s.regions := rfl
@[simp] theorem State.updPort_clRst (s : State) (n : Nat) (f : EthPort → EthPort) : (s.updPort n f).clRst = s.clRst := rfl
@[simp] theorem State.updPort_bud (s : State) (n : Nat) (f : EthPort → EthPort) : (s.updPort n f).bud = s.bud := rfl
@[simp] theorem State.updPort_wake (s : State) (n : Nat) (f : EthPort → EthPort) : (s.updPort n f).wake = s.wake := rfl
@[simp] theorem State.updPort_boot (s : State) (n : Nat) (f : EthPort → EthPort) : (s.updPort n f).boot = s.boot := rfl
@[simp] theorem State.updPort_flash (s : State) (n : Nat) (f : EthPort → EthPort) : (s.updPort n f).flash = s.flash := rfl
@[simp] theorem State.updPort_bootRec (s : State) (n : Nat) (f : EthPort → EthPort) : (s.updPort n f).bootRec = s.bootRec := rfl
@[simp] theorem State.updPort_journal (s : State) (n : Nat) (f : EthPort → EthPort) : (s.updPort n f).journal = s.journal := rfl
@[simp] theorem State.updPort_fw (s : State) (n : Nat) (f : EthPort → EthPort) : (s.updPort n f).fw = s.fw := rfl
@[simp] theorem State.updPort_setSlots (s : State) (n : Nat) (f : EthPort → EthPort) : (s.updPort n f).setSlots = s.setSlots := rfl
@[simp] theorem State.updPort_store (s : State) (n : Nat) (f : EthPort → EthPort) : (s.updPort n f).store = s.store := rfl
@[simp] theorem State.updPort_img (s : State) (n : Nat) (f : EthPort → EthPort) : (s.updPort n f).img = s.img := rfl
@[simp] theorem State.updPort_grp (s : State) (n : Nat) (f : EthPort → EthPort) : (s.updPort n f).grp = s.grp := rfl
@[simp] theorem State.updPort_sm (s : State) (n : Nat) (f : EthPort → EthPort) : (s.updPort n f).sm = s.sm := rfl
@[simp] theorem State.updPort_hst (s : State) (n : Nat) (f : EthPort → EthPort) : (s.updPort n f).hst = s.hst := rfl
@[simp] theorem State.updPort_rcd (s : State) (n : Nat) (f : EthPort → EthPort) : (s.updPort n f).rcd = s.rcd := rfl
@[simp] theorem State.updPort_die (s : State) (n : Nat) (f : EthPort → EthPort) : (s.updPort n f).die = s.die := rfl
@[simp] theorem State.updPort_psw (s : State) (n : Nat) (f : EthPort → EthPort) : (s.updPort n f).psw = s.psw := rfl
@[simp] theorem State.updPort_vlv (s : State) (n : Nat) (f : EthPort → EthPort) : (s.updPort n f).vlv = s.vlv := rfl
@[simp] theorem State.updPort_col (s : State) (n : Nat) (f : EthPort → EthPort) : (s.updPort n f).col = s.col := rfl
@[simp] theorem State.updPort_sns (s : State) (n : Nat) (f : EthPort → EthPort) : (s.updPort n f).sns = s.sns := rfl
@[simp] theorem State.updPort_flw (s : State) (n : Nat) (f : EthPort → EthPort) : (s.updPort n f).flw = s.flw := rfl
@[simp] theorem State.updPort_lop (s : State) (n : Nat) (f : EthPort → EthPort) : (s.updPort n f).lop = s.lop := rfl
@[simp] theorem State.updPort_prf (s : State) (n : Nat) (f : EthPort → EthPort) : (s.updPort n f).prf = s.prf := rfl
@[simp] theorem State.updPort_nav (s : State) (n : Nat) (f : EthPort → EthPort) : (s.updPort n f).nav = s.nav := rfl
@[simp] theorem State.updPort_tim (s : State) (n : Nat) (f : EthPort → EthPort) : (s.updPort n f).tim = s.tim := rfl
@[simp] theorem State.updPort_str (s : State) (n : Nat) (f : EthPort → EthPort) : (s.updPort n f).str = s.str := rfl
@[simp] theorem State.updPort_yld (s : State) (n : Nat) (f : EthPort → EthPort) : (s.updPort n f).yld = s.yld := rfl
@[simp] theorem State.updPort_vis (s : State) (n : Nat) (f : EthPort → EthPort) : (s.updPort n f).vis = s.vis := rfl
@[simp] theorem State.updPort_can (s : State) (n : Nat) (f : EthPort → EthPort) : (s.updPort n f).can = s.can := rfl
@[simp] theorem State.updPort_updt (s : State) (n : Nat) (f : EthPort → EthPort) : (s.updPort n f).updt = s.updt := rfl
@[simp] theorem State.updPort_dbg (s : State) (n : Nat) (f : EthPort → EthPort) : (s.updPort n f).dbg = s.dbg := rfl
@[simp] theorem State.updPort_fmt (s : State) (n : Nat) (f : EthPort → EthPort) : (s.updPort n f).fmt = s.fmt := rfl
@[simp] theorem State.updPort_free (s : State) (n : Nat) (f : EthPort → EthPort) : (s.updPort n f).free = s.free := rfl
@[simp] theorem State.updPort_out (s : State) (n : Nat) (f : EthPort → EthPort) : (s.updPort n f).out = s.out := rfl
@[simp] theorem State.updPort_pending (s : State) (n : Nat) (f : EthPort → EthPort) : (s.updPort n f).pending = s.pending := rfl

@[simp] theorem State.updPair_clk (s : State) (n : Nat) (f : Pair → Pair) : (s.updPair n f).clk = s.clk := rfl
@[simp] theorem State.updPair_pwr (s : State) (n : Nat) (f : Pair → Pair) : (s.updPair n f).pwr = s.pwr := rfl
@[simp] theorem State.updPair_regions (s : State) (n : Nat) (f : Pair → Pair) : (s.updPair n f).regions = s.regions := rfl
@[simp] theorem State.updPair_clRst (s : State) (n : Nat) (f : Pair → Pair) : (s.updPair n f).clRst = s.clRst := rfl
@[simp] theorem State.updPair_bud (s : State) (n : Nat) (f : Pair → Pair) : (s.updPair n f).bud = s.bud := rfl
@[simp] theorem State.updPair_wake (s : State) (n : Nat) (f : Pair → Pair) : (s.updPair n f).wake = s.wake := rfl
@[simp] theorem State.updPair_boot (s : State) (n : Nat) (f : Pair → Pair) : (s.updPair n f).boot = s.boot := rfl
@[simp] theorem State.updPair_flash (s : State) (n : Nat) (f : Pair → Pair) : (s.updPair n f).flash = s.flash := rfl
@[simp] theorem State.updPair_bootRec (s : State) (n : Nat) (f : Pair → Pair) : (s.updPair n f).bootRec = s.bootRec := rfl
@[simp] theorem State.updPair_journal (s : State) (n : Nat) (f : Pair → Pair) : (s.updPair n f).journal = s.journal := rfl
@[simp] theorem State.updPair_fw (s : State) (n : Nat) (f : Pair → Pair) : (s.updPair n f).fw = s.fw := rfl
@[simp] theorem State.updPair_setSlots (s : State) (n : Nat) (f : Pair → Pair) : (s.updPair n f).setSlots = s.setSlots := rfl
@[simp] theorem State.updPair_store (s : State) (n : Nat) (f : Pair → Pair) : (s.updPair n f).store = s.store := rfl
@[simp] theorem State.updPair_img (s : State) (n : Nat) (f : Pair → Pair) : (s.updPair n f).img = s.img := rfl
@[simp] theorem State.updPair_grp (s : State) (n : Nat) (f : Pair → Pair) : (s.updPair n f).grp = s.grp := rfl
@[simp] theorem State.updPair_sm (s : State) (n : Nat) (f : Pair → Pair) : (s.updPair n f).sm = s.sm := rfl
@[simp] theorem State.updPair_hst (s : State) (n : Nat) (f : Pair → Pair) : (s.updPair n f).hst = s.hst := rfl
@[simp] theorem State.updPair_rcd (s : State) (n : Nat) (f : Pair → Pair) : (s.updPair n f).rcd = s.rcd := rfl
@[simp] theorem State.updPair_die (s : State) (n : Nat) (f : Pair → Pair) : (s.updPair n f).die = s.die := rfl
@[simp] theorem State.updPair_psw (s : State) (n : Nat) (f : Pair → Pair) : (s.updPair n f).psw = s.psw := rfl
@[simp] theorem State.updPair_vlv (s : State) (n : Nat) (f : Pair → Pair) : (s.updPair n f).vlv = s.vlv := rfl
@[simp] theorem State.updPair_col (s : State) (n : Nat) (f : Pair → Pair) : (s.updPair n f).col = s.col := rfl
@[simp] theorem State.updPair_sns (s : State) (n : Nat) (f : Pair → Pair) : (s.updPair n f).sns = s.sns := rfl
@[simp] theorem State.updPair_flw (s : State) (n : Nat) (f : Pair → Pair) : (s.updPair n f).flw = s.flw := rfl
@[simp] theorem State.updPair_lop (s : State) (n : Nat) (f : Pair → Pair) : (s.updPair n f).lop = s.lop := rfl
@[simp] theorem State.updPair_prf (s : State) (n : Nat) (f : Pair → Pair) : (s.updPair n f).prf = s.prf := rfl
@[simp] theorem State.updPair_nav (s : State) (n : Nat) (f : Pair → Pair) : (s.updPair n f).nav = s.nav := rfl
@[simp] theorem State.updPair_tim (s : State) (n : Nat) (f : Pair → Pair) : (s.updPair n f).tim = s.tim := rfl
@[simp] theorem State.updPair_str (s : State) (n : Nat) (f : Pair → Pair) : (s.updPair n f).str = s.str := rfl
@[simp] theorem State.updPair_yld (s : State) (n : Nat) (f : Pair → Pair) : (s.updPair n f).yld = s.yld := rfl
@[simp] theorem State.updPair_vis (s : State) (n : Nat) (f : Pair → Pair) : (s.updPair n f).vis = s.vis := rfl
@[simp] theorem State.updPair_can (s : State) (n : Nat) (f : Pair → Pair) : (s.updPair n f).can = s.can := rfl
@[simp] theorem State.updPair_updt (s : State) (n : Nat) (f : Pair → Pair) : (s.updPair n f).updt = s.updt := rfl
@[simp] theorem State.updPair_dbg (s : State) (n : Nat) (f : Pair → Pair) : (s.updPair n f).dbg = s.dbg := rfl
@[simp] theorem State.updPair_fmt (s : State) (n : Nat) (f : Pair → Pair) : (s.updPair n f).fmt = s.fmt := rfl
@[simp] theorem State.updPair_free (s : State) (n : Nat) (f : Pair → Pair) : (s.updPair n f).free = s.free := rfl
@[simp] theorem State.updPair_out (s : State) (n : Nat) (f : Pair → Pair) : (s.updPair n f).out = s.out := rfl
@[simp] theorem State.updPair_pending (s : State) (n : Nat) (f : Pair → Pair) : (s.updPair n f).pending = s.pending := rfl

@[simp] theorem State.updUpd_clk (s : State) (f : UpdSt → UpdSt) : (s.updUpd f).clk = s.clk := rfl
@[simp] theorem State.updUpd_pwr (s : State) (f : UpdSt → UpdSt) : (s.updUpd f).pwr = s.pwr := rfl
@[simp] theorem State.updUpd_regions (s : State) (f : UpdSt → UpdSt) : (s.updUpd f).regions = s.regions := rfl
@[simp] theorem State.updUpd_clRst (s : State) (f : UpdSt → UpdSt) : (s.updUpd f).clRst = s.clRst := rfl
@[simp] theorem State.updUpd_bud (s : State) (f : UpdSt → UpdSt) : (s.updUpd f).bud = s.bud := rfl
@[simp] theorem State.updUpd_wake (s : State) (f : UpdSt → UpdSt) : (s.updUpd f).wake = s.wake := rfl
@[simp] theorem State.updUpd_boot (s : State) (f : UpdSt → UpdSt) : (s.updUpd f).boot = s.boot := rfl
@[simp] theorem State.updUpd_flash (s : State) (f : UpdSt → UpdSt) : (s.updUpd f).flash = s.flash := rfl
@[simp] theorem State.updUpd_bootRec (s : State) (f : UpdSt → UpdSt) : (s.updUpd f).bootRec = s.bootRec := rfl
@[simp] theorem State.updUpd_journal (s : State) (f : UpdSt → UpdSt) : (s.updUpd f).journal = s.journal := rfl
@[simp] theorem State.updUpd_fw (s : State) (f : UpdSt → UpdSt) : (s.updUpd f).fw = s.fw := rfl
@[simp] theorem State.updUpd_setSlots (s : State) (f : UpdSt → UpdSt) : (s.updUpd f).setSlots = s.setSlots := rfl
@[simp] theorem State.updUpd_store (s : State) (f : UpdSt → UpdSt) : (s.updUpd f).store = s.store := rfl
@[simp] theorem State.updUpd_img (s : State) (f : UpdSt → UpdSt) : (s.updUpd f).img = s.img := rfl
@[simp] theorem State.updUpd_grp (s : State) (f : UpdSt → UpdSt) : (s.updUpd f).grp = s.grp := rfl
@[simp] theorem State.updUpd_sm (s : State) (f : UpdSt → UpdSt) : (s.updUpd f).sm = s.sm := rfl
@[simp] theorem State.updUpd_hst (s : State) (f : UpdSt → UpdSt) : (s.updUpd f).hst = s.hst := rfl
@[simp] theorem State.updUpd_rcd (s : State) (f : UpdSt → UpdSt) : (s.updUpd f).rcd = s.rcd := rfl
@[simp] theorem State.updUpd_die (s : State) (f : UpdSt → UpdSt) : (s.updUpd f).die = s.die := rfl
@[simp] theorem State.updUpd_psw (s : State) (f : UpdSt → UpdSt) : (s.updUpd f).psw = s.psw := rfl
@[simp] theorem State.updUpd_vlv (s : State) (f : UpdSt → UpdSt) : (s.updUpd f).vlv = s.vlv := rfl
@[simp] theorem State.updUpd_col (s : State) (f : UpdSt → UpdSt) : (s.updUpd f).col = s.col := rfl
@[simp] theorem State.updUpd_sns (s : State) (f : UpdSt → UpdSt) : (s.updUpd f).sns = s.sns := rfl
@[simp] theorem State.updUpd_flw (s : State) (f : UpdSt → UpdSt) : (s.updUpd f).flw = s.flw := rfl
@[simp] theorem State.updUpd_lop (s : State) (f : UpdSt → UpdSt) : (s.updUpd f).lop = s.lop := rfl
@[simp] theorem State.updUpd_prf (s : State) (f : UpdSt → UpdSt) : (s.updUpd f).prf = s.prf := rfl
@[simp] theorem State.updUpd_nav (s : State) (f : UpdSt → UpdSt) : (s.updUpd f).nav = s.nav := rfl
@[simp] theorem State.updUpd_tim (s : State) (f : UpdSt → UpdSt) : (s.updUpd f).tim = s.tim := rfl
@[simp] theorem State.updUpd_str (s : State) (f : UpdSt → UpdSt) : (s.updUpd f).str = s.str := rfl
@[simp] theorem State.updUpd_yld (s : State) (f : UpdSt → UpdSt) : (s.updUpd f).yld = s.yld := rfl
@[simp] theorem State.updUpd_vis (s : State) (f : UpdSt → UpdSt) : (s.updUpd f).vis = s.vis := rfl
@[simp] theorem State.updUpd_can (s : State) (f : UpdSt → UpdSt) : (s.updUpd f).can = s.can := rfl
@[simp] theorem State.updUpd_eth (s : State) (f : UpdSt → UpdSt) : (s.updUpd f).eth = s.eth := rfl
@[simp] theorem State.updUpd_dbg (s : State) (f : UpdSt → UpdSt) : (s.updUpd f).dbg = s.dbg := rfl
@[simp] theorem State.updUpd_fmt (s : State) (f : UpdSt → UpdSt) : (s.updUpd f).fmt = s.fmt := rfl
@[simp] theorem State.updUpd_free (s : State) (f : UpdSt → UpdSt) : (s.updUpd f).free = s.free := rfl
@[simp] theorem State.updUpd_out (s : State) (f : UpdSt → UpdSt) : (s.updUpd f).out = s.out := rfl
@[simp] theorem State.updUpd_pending (s : State) (f : UpdSt → UpdSt) : (s.updUpd f).pending = s.pending := rfl

@[simp] theorem State.updDbg_clk (s : State) (f : DbgSt → DbgSt) : (s.updDbg f).clk = s.clk := rfl
@[simp] theorem State.updDbg_pwr (s : State) (f : DbgSt → DbgSt) : (s.updDbg f).pwr = s.pwr := rfl
@[simp] theorem State.updDbg_regions (s : State) (f : DbgSt → DbgSt) : (s.updDbg f).regions = s.regions := rfl
@[simp] theorem State.updDbg_clRst (s : State) (f : DbgSt → DbgSt) : (s.updDbg f).clRst = s.clRst := rfl
@[simp] theorem State.updDbg_bud (s : State) (f : DbgSt → DbgSt) : (s.updDbg f).bud = s.bud := rfl
@[simp] theorem State.updDbg_wake (s : State) (f : DbgSt → DbgSt) : (s.updDbg f).wake = s.wake := rfl
@[simp] theorem State.updDbg_boot (s : State) (f : DbgSt → DbgSt) : (s.updDbg f).boot = s.boot := rfl
@[simp] theorem State.updDbg_flash (s : State) (f : DbgSt → DbgSt) : (s.updDbg f).flash = s.flash := rfl
@[simp] theorem State.updDbg_bootRec (s : State) (f : DbgSt → DbgSt) : (s.updDbg f).bootRec = s.bootRec := rfl
@[simp] theorem State.updDbg_journal (s : State) (f : DbgSt → DbgSt) : (s.updDbg f).journal = s.journal := rfl
@[simp] theorem State.updDbg_fw (s : State) (f : DbgSt → DbgSt) : (s.updDbg f).fw = s.fw := rfl
@[simp] theorem State.updDbg_setSlots (s : State) (f : DbgSt → DbgSt) : (s.updDbg f).setSlots = s.setSlots := rfl
@[simp] theorem State.updDbg_store (s : State) (f : DbgSt → DbgSt) : (s.updDbg f).store = s.store := rfl
@[simp] theorem State.updDbg_img (s : State) (f : DbgSt → DbgSt) : (s.updDbg f).img = s.img := rfl
@[simp] theorem State.updDbg_grp (s : State) (f : DbgSt → DbgSt) : (s.updDbg f).grp = s.grp := rfl
@[simp] theorem State.updDbg_sm (s : State) (f : DbgSt → DbgSt) : (s.updDbg f).sm = s.sm := rfl
@[simp] theorem State.updDbg_hst (s : State) (f : DbgSt → DbgSt) : (s.updDbg f).hst = s.hst := rfl
@[simp] theorem State.updDbg_rcd (s : State) (f : DbgSt → DbgSt) : (s.updDbg f).rcd = s.rcd := rfl
@[simp] theorem State.updDbg_die (s : State) (f : DbgSt → DbgSt) : (s.updDbg f).die = s.die := rfl
@[simp] theorem State.updDbg_psw (s : State) (f : DbgSt → DbgSt) : (s.updDbg f).psw = s.psw := rfl
@[simp] theorem State.updDbg_vlv (s : State) (f : DbgSt → DbgSt) : (s.updDbg f).vlv = s.vlv := rfl
@[simp] theorem State.updDbg_col (s : State) (f : DbgSt → DbgSt) : (s.updDbg f).col = s.col := rfl
@[simp] theorem State.updDbg_sns (s : State) (f : DbgSt → DbgSt) : (s.updDbg f).sns = s.sns := rfl
@[simp] theorem State.updDbg_flw (s : State) (f : DbgSt → DbgSt) : (s.updDbg f).flw = s.flw := rfl
@[simp] theorem State.updDbg_lop (s : State) (f : DbgSt → DbgSt) : (s.updDbg f).lop = s.lop := rfl
@[simp] theorem State.updDbg_prf (s : State) (f : DbgSt → DbgSt) : (s.updDbg f).prf = s.prf := rfl
@[simp] theorem State.updDbg_nav (s : State) (f : DbgSt → DbgSt) : (s.updDbg f).nav = s.nav := rfl
@[simp] theorem State.updDbg_tim (s : State) (f : DbgSt → DbgSt) : (s.updDbg f).tim = s.tim := rfl
@[simp] theorem State.updDbg_str (s : State) (f : DbgSt → DbgSt) : (s.updDbg f).str = s.str := rfl
@[simp] theorem State.updDbg_yld (s : State) (f : DbgSt → DbgSt) : (s.updDbg f).yld = s.yld := rfl
@[simp] theorem State.updDbg_vis (s : State) (f : DbgSt → DbgSt) : (s.updDbg f).vis = s.vis := rfl
@[simp] theorem State.updDbg_can (s : State) (f : DbgSt → DbgSt) : (s.updDbg f).can = s.can := rfl
@[simp] theorem State.updDbg_eth (s : State) (f : DbgSt → DbgSt) : (s.updDbg f).eth = s.eth := rfl
@[simp] theorem State.updDbg_updt (s : State) (f : DbgSt → DbgSt) : (s.updDbg f).updt = s.updt := rfl
@[simp] theorem State.updDbg_fmt (s : State) (f : DbgSt → DbgSt) : (s.updDbg f).fmt = s.fmt := rfl
@[simp] theorem State.updDbg_free (s : State) (f : DbgSt → DbgSt) : (s.updDbg f).free = s.free := rfl
@[simp] theorem State.updDbg_out (s : State) (f : DbgSt → DbgSt) : (s.updDbg f).out = s.out := rfl
@[simp] theorem State.updDbg_pending (s : State) (f : DbgSt → DbgSt) : (s.updDbg f).pending = s.pending := rfl

end Sys2Proof.Machine
end

