-- ==== Sys2Proof/Laws/Host.lean ====
section
/-! SUPPORT. What the receipt, admission and completion of a request do (05 R137 to R149), once for every operation. -/

namespace Sys2Proof.Machine

/-- Acceptance changes the host block alone, and there the request's own session and what host silence goes by. -/
theorem State.accept_eq (s : State) (r : HostReq) : s.accept r =
    { s with hst := { s.hst with sess := (s.accept r).hst.sess, heard := (s.accept r).hst.heard, ever := (s.accept r).hst.ever,
                                 tLast := (s.accept r).hst.tLast, tBefore := (s.accept r).hst.tBefore } } := by
  unfold State.accept
  dsimp only
  split <;> rfl

theorem State.accept_sess (s : State) (r : HostReq) :
    (s.accept r).hst.sess = upd s.hst.sess r.sess fun x => { acceptSeq x r.seq with last := r.opt } := by
  unfold State.accept
  split <;> rfl

theorem State.accept_sess_same (s : State) (r : HostReq) (h : r.sess < 8) :
    (s.accept r).sess r.sess = { acceptSeq (s.sess r.sess) r.seq with last := r.opt } := by
  rw [State.sess, State.accept_sess, rd_upd_same _ h]; rfl

theorem State.accept_sess_ne (s : State) (r : HostReq) (k : Nat) (h : k ≠ r.sess) : (s.accept r).sess k = s.sess k := by
  rw [State.sess, State.accept_sess, rd_upd_ne _ (Ne.symm h)]; rfl

@[simp] theorem State.netUp_begin (s : State) (o : Opt) : (s.begin o).netUp = s.netUp := rfl
@[simp] theorem State.standbyPath_begin (s : State) (o : Opt) (r : HostReq) : (s.begin o).standbyPath r = s.standbyPath r := rfl
@[simp] theorem State.sess_begin (s : State) (o : Opt) (i : Nat) : (s.begin o).sess i = s.sess i := rfl

/-- A request that is heard, after HELLO or being HELLO, is passed on with its message accepted. -/
theorem receive_heard {r : HostReq} {op : Nat} {k : State → State} {s : State} (h : s.heard r = true)
    (hh : (s.sess r.sess).hello = true ∨ op = 0x0001) : receive r op k s = k ((s.begin r.opt).accept r) := by
  simp only [State.heard, Bool.and_eq_true, Bool.not_eq_true', decide_eq_true_eq] at h
  obtain ⟨⟨⟨⟨⟨⟨⟨h1, h2⟩, h3⟩, h4⟩, h5⟩, h6⟩, h7⟩, h8⟩ := h
  have h7' : (s.sess r.sess).done.find? (fun d => d.ticket == r.ticket && d.ring == r.ring && decide (r.opt < d.opt + 2000000000)) = none := by
    rw [List.find?_eq_none]; intro d hd
    have := List.all_eq_true.mp h7 d hd
    simp only [Bool.not_eq_true', Bool.eq_false_iff] at this
    exact this
  have h9 : ¬ ((s.sess r.sess).hello = false ∧ op ≠ 0x0001) := by
    rintro ⟨ha, hb⟩; rcases hh with h | h
    · simp [ha] at h
    · exact hb h
  have h8' : ((s.begin r.opt).accept r).hst.ops = s.hst.ops := by rw [State.accept_eq]; rfl
  have h8'' : ((s.begin r.opt).accept r).ticketFlies r.sess r.ticket = false := by
    rw [← h8]; unfold State.ticketFlies; rw [h8', State.accept_eq]; rfl
  simp [receive, h1, h2, h3, Nat.not_le.mpr h4, h5, h6, h7', h9, h8'']

theorem State.slotFree_accept (s : State) (r : HostReq) (i : Nat) : ((s.begin r.opt).accept r).slotFree i = s.slotFree i := by
  have e : ∀ k, (((s.begin r.opt).accept r).sess k).isOpen = (s.sess k).isOpen := by
    intro k
    by_cases h : k = r.sess
    · subst h
      by_cases h8 : r.sess < 8
      · rw [State.accept_sess_same _ _ h8]; rfl
      · rw [State.sess, State.accept_sess, upd_of_ge _ (Nat.not_lt.mp h8)]; rfl
    · rw [State.accept_sess_ne _ _ _ h]; rfl
  have o : ((s.begin r.opt).accept r).openSessions = s.openSessions := by
    unfold State.openSessions; simp only [e]
  have f : ((s.begin r.opt).accept r).hst.ops = s.hst.ops := by rw [State.accept_eq]; rfl
  have g : ((s.begin r.opt).accept r).guarantee = s.guarantee := by unfold State.guarantee; rw [State.accept_eq]; rfl
  unfold State.slotFree State.sharedUsed State.sessFlight
  rw [o, g, f]

theorem ringFlight_zero {s : State} {n : Nat} (h : ∀ f ∈ s.hst.ops, f.req.ring ≠ n) : s.ringFlight n = 0 := by
  unfold State.ringFlight
  rw [List.length_eq_zero_iff, List.filter_eq_nil_iff]
  intro f hf; simp [h f hf]

/-- A ready request runs its operation's own checks in the state in which it is admitted. -/
theorem hostOp_ready {r : HostReq} {op level feature : Nat} {run : State → OpRes} {s : State} (h : s.ready r level feature = true) :
    hostOp r op level feature run s = match run (s.admitted r op) with
      | .refuse st pl => ((s.begin r.opt).accept r).reply r op st false pl
      | .done t pl => t.complete r stOK pl
      | .wait t => t := by
  simp only [State.ready, Bool.and_eq_true, decide_eq_true_eq, beq_iff_eq, List.all_eq_true, bne_iff_ne] at h
  obtain ⟨⟨⟨⟨⟨⟨⟨⟨⟨⟨⟨h1, h2⟩, h3⟩, h4⟩, h5⟩, h6⟩, h7⟩, h8⟩, h9⟩, h10⟩, h11⟩, h12⟩ := h
  have hs : r.sess < 8 := by
    simp only [State.heard, Bool.and_eq_true, decide_eq_true_eq] at h1
    exact h1.1.1.1.1.2
  unfold hostOp
  rw [receive_heard h1 (.inl h2)]
  have hr : ((s.begin r.opt).accept r).hst.ring = s.hst.ring := by rw [State.accept_eq]; rfl
  have ho : ((s.begin r.opt).accept r).hst.ops = s.hst.ops := by rw [State.accept_eq]; rfl
  have hf : ((s.begin r.opt).accept r).ringFlight r.ring = 0 := ringFlight_zero (by rw [ho]; exact h8)
  have he := State.accept_sess_same (s.begin r.opt) r hs
  have hc : (rd s.hst.ring r.ring).closing.isSome = false := by
    cases hx : (rd s.hst.ring r.ring).closing <;> simp_all
  have hl : ¬ ((rd s.hst.ring r.ring).limit ≤ 0) := by omega
  have c1 : ¬ (256 ≤ r.ring ∨ (rd ((s.begin r.opt).accept r).hst.ring r.ring).isOpen = false ∨
      (rd ((s.begin r.opt).accept r).hst.ring r.ring).sess ≠ r.sess ∨
      (rd ((s.begin r.opt).accept r).hst.ring r.ring).closing.isSome) := by
    rw [hr]; simp [Nat.not_le.mpr h3, h4, h5, hc]
  have c2 : ¬ ((rd ((s.begin r.opt).accept r).hst.ring r.ring).limit ≤ ((s.begin r.opt).accept r).ringFlight r.ring) := by
    rw [hr, hf]; exact hl
  have c3 : ¬ (((s.begin r.opt).accept r).slotFree r.sess = false) := by rw [State.slotFree_accept, h9]; simp
  have c4 : ¬ ((((s.begin r.opt).accept r).sess r.sess).level < level) := by rw [he]; exact Nat.not_lt.mpr h10
  have c5 : ¬ ((((s.begin r.opt).accept r).sess r.sess).agreed.getLsbD feature = false) := by
    rw [he]; simpa [acceptSeq] using h11
  have c6 : ¬ (r.lenOk = false) := by simp [h12]
  simp only [if_neg c1, if_neg c2, if_neg c3, if_neg c4, if_neg c5, if_neg c6]
  rfl

theorem releaseWalk_other {ord b : Bool} {n : Nat} {s : State} (l : List OpFlight) (h : ∀ f ∈ l, f.req.ring ≠ n) :
    releaseWalk ord n b l s = (l, s) := by
  induction l with
  | nil => rfl
  | cons f t ih =>
    simp only [List.mem_cons, forall_eq_or_imp] at h
    simp [releaseWalk, h.1, ih h.2]

theorem releaseWalk_append {ord : Bool} {n : Nat} {s : State} (l k : List OpFlight) (h : ∀ f ∈ l, f.req.ring ≠ n) :
    releaseWalk ord n false (l ++ k) s = (l ++ (releaseWalk ord n false k s).1, (releaseWalk ord n false k s).2) := by
  induction l with
  | nil => rfl
  | cons f t ih =>
    simp only [List.mem_cons, forall_eq_or_imp] at h
    simp [releaseWalk, h.1, ih h.2]

/-- Sending a completion neither reads nor changes what is in flight. -/
theorem State.finish_ops (t : State) (r : HostReq) (op st : Nat) (pl : List Byte) (l : List OpFlight) :
    ({ t with hst := { t.hst with ops := l } } : State).finish r op st pl =
      { t.finish r op st pl with hst := { (t.finish r op st pl).hst with ops := l } } := by
  unfold State.finish State.reply
  dsimp only [State.sess, State.updSess]
  split <;> rfl

theorem State.finish_ring (t : State) (r : HostReq) (op st : Nat) (pl : List Byte) :
    (t.finish r op st pl).hst.ring = t.hst.ring := by
  unfold State.finish State.reply
  dsimp only
  split <;> rfl

/-- The completion of the only operation in flight on its ring is sent at once (05 R147), and the operation is in flight no longer. -/
theorem State.complete_last {t : State} {r : HostReq} {op st : Nat} {pl : List Byte} {l : List OpFlight} {x : Bool}
    (ho : t.hst.ops = l ++ [⟨r, op, none, x, false⟩]) (hl : ∀ f ∈ l, f.req.ring ≠ r.ring)
    (hc : (rd t.hst.ring r.ring).closing = none) :
    t.complete r st pl = ({ t with hst := { t.hst with ops := l } } : State).finish r op st pl := by
  have hne : ∀ f ∈ l, f.req ≠ r := fun f hf e => hl f hf (by rw [e])
  have h1 : l.find? (fun f => f.req == r) = none := by
    rw [List.find?_eq_none]; intro f hf; simp [hne f hf]
  have h2 : (l.map fun (g : OpFlight) => if g.req == r then { g with result := some (st, pl) } else g) = l := by
    conv => rhs; rw [← List.map_id l]
    apply List.map_congr_left
    intro f hf; simp [hne f hf]
  unfold State.complete
  simp only [ho, List.find?_append, h1, Option.none_or, List.find?_cons, beq_self_eq_true, List.map_append, h2, List.map_cons,
    List.map_nil, if_true, Bool.false_eq_true, if_false]
  unfold State.releaseRing
  simp only [releaseWalk_append l _ hl, releaseWalk, and_self, if_true]
  unfold State.closeIfDone
  simp only [Bool.false_eq_true, if_false]
  split
  · rw [State.finish_ops, List.append_nil]
    conv => rhs; rw [State.finish_ops]
  · rename_i x hx
    rw [State.finish_ring] at hx
    change (rd t.hst.ring r.ring).closing = some x at hx
    rw [hc] at hx
    cases hx

theorem State.ready_parts {s : State} {r : HostReq} {level feature : Nat} (h : s.ready r level feature = true) :
    r.sess < 8 ∧ (∀ f ∈ s.hst.ops, f.req.ring ≠ r.ring) ∧ (rd s.hst.ring r.ring).closing = none := by
  simp only [State.ready, State.heard, Bool.and_eq_true, decide_eq_true_eq, List.all_eq_true, bne_iff_ne] at h
  refine ⟨h.1.1.1.1.1.1.1.1.1.1.1.1.1.1.1.2, h.1.1.1.1.2, ?_⟩
  have := h.1.1.1.1.1.1.2
  cases hx : (rd s.hst.ring r.ring).closing <;> simp_all

theorem State.admitted_ops (s : State) (r : HostReq) (op : Nat) :
    ∃ x, (s.admitted r op).hst.ops = s.hst.ops ++ [⟨r, op, none, x, false⟩] := by
  refine ⟨decide (((s.begin r.opt).accept r).guarantee ≤ ((s.begin r.opt).accept r).sessFlight r.sess), ?_⟩
  show ((s.begin r.opt).accept r).hst.ops ++ _ = _
  rw [show ((s.begin r.opt).accept r).hst.ops = s.hst.ops by rw [State.accept_eq]; rfl]

theorem State.admitted_ring (s : State) (r : HostReq) (op : Nat) : (s.admitted r op).hst.ring = s.hst.ring := by
  show ((s.begin r.opt).accept r).hst.ring = _
  rw [State.accept_eq]; rfl

/-- Admission changes the clock, the host block and the messages sent alone. -/
theorem State.admitted_eq (s : State) (r : HostReq) (op : Nat) : s.admitted r op =
    { s with clk := { s.clk with opt := max s.clk.opt r.opt, past := (s.admitted r op).clk.past }, hst := (s.admitted r op).hst, out := [] } := by
  unfold State.admitted
  rw [State.accept_eq]
  rfl

/-- A ready request whose operation completes, leaving the rest of the host block's operations and rings alone. -/
theorem hostOp_done {r : HostReq} {op level feature : Nat} {run : State → OpRes} {s t : State} {pl : List Byte}
    (h : s.ready r level feature = true) (hr : run (s.admitted r op) = .done t pl)
    (ho : ∃ x, t.hst.ops = s.hst.ops ++ [⟨r, op, none, x, false⟩]) (hg : t.hst.ring = s.hst.ring) :
    hostOp r op level feature run s = ({ t with hst := { t.hst with ops := s.hst.ops } } : State).finish r op stOK pl := by
  obtain ⟨_, h2, h3⟩ := s.ready_parts h
  obtain ⟨x, ho⟩ := ho
  rw [hostOp_ready h, hr]
  exact State.complete_last ho h2 (by rw [hg]; exact h3)

/-- A ready request is refused with one reply (05 R149). -/
theorem hostOp_refuse {r : HostReq} {op level feature : Nat} {run : State → OpRes} {s : State} {st : Nat} {pl : List Byte}
    (h : s.ready r level feature = true) (hr : run (s.admitted r op) = .refuse st pl) :
    hostOp r op level feature run s = ((s.begin r.opt).accept r).reply r op st false pl := by
  rw [hostOp_ready h, hr]

theorem State.admitted_sess_same (s : State) (r : HostReq) (op : Nat) (h : r.sess < 8) :
    (s.admitted r op).sess r.sess = { acceptSeq (s.sess r.sess) r.seq with last := r.opt } :=
  State.accept_sess_same (s.begin r.opt) r h

theorem State.admitted_sess_ne (s : State) (r : HostReq) (op k : Nat) (h : k ≠ r.sess) : (s.admitted r op).sess k = s.sess k :=
  State.accept_sess_ne (s.begin r.opt) r k h

@[simp] theorem State.sess_send (s : State) (m : Msg) (k : Nat) : (s.send m).sess k = s.sess k := rfl

theorem State.sess_updSess_same (s : State) {i : Nat} (h : i < 8) (f : Sess → Sess) : (s.updSess i f).sess i = f (s.sess i) :=
  rd_upd_same _ h f

theorem State.sess_updSess_ne (s : State) {i k : Nat} (h : i ≠ k) (f : Sess → Sess) : (s.updSess i f).sess k = s.sess k :=
  rd_upd_ne _ h f

/-- What a reply changes of the other sessions: nothing. -/
theorem State.reply_sess_ne (t : State) (r : HostReq) (op st : Nat) (p : Bool) (pl : List Byte) (k : Nat) (h : k ≠ r.sess) :
    (t.reply r op st p pl).sess k = t.sess k := by
  unfold State.reply
  dsimp only
  split
  · rfl
  · exact State.sess_updSess_ne _ (Ne.symm h) _

theorem State.finish_hst (t : State) (r : HostReq) (op st : Nat) (pl : List Byte) :
    (t.finish r op st pl).hst = { t.hst with sess := (t.finish r op st pl).hst.sess } := by
  unfold State.finish State.reply
  dsimp only
  split <;> rfl

theorem State.finish_eq (t : State) (r : HostReq) (op st : Nat) (pl : List Byte) :
    t.finish r op st pl = { t with hst := (t.finish r op st pl).hst, out := (t.finish r op st pl).out } := by
  unfold State.finish State.reply
  dsimp only
  split <;> rfl

/-- A reply of a session past its HELLO, where nothing else has been sent. -/
theorem State.reply_hello {t : State} {r : HostReq} (h : (t.sess r.sess).hello = true) (ho : t.out = []) (op st : Nat) (p : Bool)
    (pl : List Byte) : t.reply r op st p pl = { t.updSess r.sess (fun x => { x with txSeq := x.txSeq + 1 }) with
      out := [.completion r.sess r.ring r.ticket ((t.sess r.sess).txSeq + 1) op st p pl] } := by
  unfold State.reply
  simp [h, ho, queueFirst]

theorem State.finish_sess_ne (t : State) (r : HostReq) (op st : Nat) (pl : List Byte) (k : Nat) (h : k ≠ r.sess) :
    (t.finish r op st pl).sess k = t.sess k := by
  unfold State.finish
  rw [State.reply_sess_ne _ _ _ _ _ _ _ h, State.sess_updSess_ne _ (Ne.symm h)]

theorem State.finish_sess_same (t : State) (r : HostReq) (op st : Nat) (pl : List Byte) (h : r.sess < 8)
    (hh : (t.sess r.sess).hello = true) (ho : t.out = []) :
    (t.finish r op st pl).sess r.sess =
      { t.sess r.sess with txSeq := (t.sess r.sess).txSeq + 1,
                           done := remember (t.sess r.sess).done ⟨r.ticket, r.ring, op, st, pl, t.clk.opt⟩ } := by
  unfold State.finish
  rw [State.reply_hello (t := t.updSess r.sess _) ?_ ho]
  · show State.sess (State.updSess _ _ _) _ = _
    rw [State.sess_updSess_same _ h, State.sess_updSess_same _ h]
  · rw [State.sess_updSess_same _ h]; exact hh

theorem State.finish_out (t : State) (r : HostReq) (op st : Nat) (pl : List Byte) (h : r.sess < 8)
    (hh : (t.sess r.sess).hello = true) (ho : t.out = []) :
    (t.finish r op st pl).out = [.completion r.sess r.ring r.ticket ((t.sess r.sess).txSeq + 1) op st false pl] := by
  unfold State.finish
  rw [State.reply_hello (t := t.updSess r.sess _) ?_ ho, State.sess_updSess_same _ h]
  rw [State.sess_updSess_same _ h]; exact hh

/-- What a ready request leaves when its operation changes nothing of the host block and sends nothing: the reply, the host block's own
bookkeeping, and the operation's effect on everything else. -/
theorem hostOp_effect {r : HostReq} {op level feature : Nat} {run : State → OpRes} {s t : State} {pl : List Byte}
    (h : s.ready r level feature = true) (hr : run (s.admitted r op) = .done t pl)
    (hh : t.hst = (s.admitted r op).hst) (hc : t.clk = (s.admitted r op).clk) (ho : t.out = []) :
    s.answers (hostOp r op level feature run s) r op stOK pl ∧ s.hostKeeps (hostOp r op level feature run s) r ∧
      hostOp r op level feature run s =
        { t with hst := (hostOp r op level feature run s).hst, out := (hostOp r op level feature run s).out } := by
  obtain ⟨h1, h2, h3⟩ := s.ready_parts h
  have hs : t.sess r.sess = { acceptSeq (s.sess r.sess) r.seq with last := r.opt } := by
    rw [State.sess, hh]; exact s.admitted_sess_same r op h1
  have hl : (s.sess r.sess).hello = true := by
    simp only [State.ready, Bool.and_eq_true] at h
    exact h.1.1.1.1.1.1.1.1.1.1.2
  have hl' : (t.sess r.sess).hello = true := by rw [hs]; exact hl
  have hn : ∀ k, k ≠ r.sess → t.sess k = s.sess k := by
    intro k hk; rw [State.sess, hh]; exact s.admitted_sess_ne r op k hk
  rw [hostOp_done h hr (by rw [hh]; exact s.admitted_ops r op) (by rw [hh, State.admitted_ring])]
  obtain ⟨u, hu⟩ : ∃ u : State, u = { t with hst := { t.hst with ops := s.hst.ops } } := ⟨_, rfl⟩
  have hx : ∀ k, u.sess k = t.sess k := by intro k; rw [hu]; rfl
  have hz : (u.sess r.sess).hello = true := by rw [hx]; exact hl'
  have hq : u.out = [] := by rw [hu]; exact ho
  have e : u.hst = { s.hst with sess := u.hst.sess, heard := u.hst.heard, ever := u.hst.ever, tLast := u.hst.tLast,
                                tBefore := u.hst.tBefore, highWater := u.hst.highWater } := by
    rw [hu]
    show ({ t.hst with ops := s.hst.ops } : HstSt) = _
    rw [hh]; unfold State.admitted; rw [State.accept_eq]; rfl
  rw [← hu]
  refine ⟨?_, ⟨?_, ?_, ?_, ?_⟩, (State.finish_eq _ _ _ _ _).trans ?_⟩
  · unfold State.answers
    rw [State.finish_out u r op stOK pl h1 hz hq, hx, hs]
    rfl
  · rw [State.finish_clk, hu]
    show t.clk = _
    rw [hc]
    conv => lhs; rw [State.admitted_eq]
  · rw [State.finish_hst]
    show ({ u.hst with sess := _ } : HstSt) = _
    rw [e]
  · intro k hk; rw [State.finish_sess_ne _ _ _ _ _ _ hk, hx]; exact hn k hk
  · rw [State.finish_sess_same u r op stOK pl h1 hz hq, hx, hs]; rfl
  · subst hu; rfl

end Sys2Proof.Machine
end

