-- ==== Sys2Proof/Laws/Keyed.lean ====
section
/-! SUPPORT. The keyed buffers: a read after a write, and the canonical form that writing and dropping keep. -/

namespace Sys2Proof.Machine

variable {α : Type}

@[simp] theorem lookupN_nil (k : Nat) : lookupN ([] : List (Nat × α)) k = none := rfl

theorem lookupN_cons (j : Nat) (w : α) (l : List (Nat × α)) (k : Nat) :
    lookupN ((j, w) :: l) k = if j = k then some w else lookupN l k := by
  by_cases h : j = k <;> simp [lookupN, h]

/-- What is written is read. -/
theorem lookupN_bindN_self (l : List (Nat × α)) (k : Nat) (v : α) : lookupN (bindN l k v) k = some v := by
  induction l with
  | nil => simp [bindN, lookupN_cons]
  | cons p t ih =>
    obtain ⟨j, w⟩ := p
    unfold bindN
    split
    · simp [lookupN_cons]
    · split
      · simp [lookupN_cons]
      · rw [lookupN_cons, if_neg (by omega), ih]

/-- A write leaves every other key alone. -/
theorem lookupN_bindN_other (l : List (Nat × α)) {k m : Nat} (v : α) (h : m ≠ k) : lookupN (bindN l k v) m = lookupN l m := by
  induction l with
  | nil => simp [bindN, lookupN_cons, Ne.symm h]
  | cons p t ih =>
    obtain ⟨j, w⟩ := p
    unfold bindN
    split
    · rw [lookupN_cons, if_neg (Ne.symm h)]
    · split
      · next e => subst e; rw [lookupN_cons, lookupN_cons, if_neg (Ne.symm h), if_neg (Ne.symm h)]
      · rw [lookupN_cons, lookupN_cons, ih]

/-- The keys after a write: those before it, and the one written. -/
theorem mem_keys_bindN (l : List (Nat × α)) (k : Nat) (v : α) (m : Nat) :
    m ∈ (bindN l k v).map Prod.fst ↔ m = k ∨ m ∈ l.map Prod.fst := by
  induction l with
  | nil => simp [bindN]
  | cons p t ih =>
    obtain ⟨j, w⟩ := p
    unfold bindN
    split
    · simp
    · split
      · next e => subst e; simp
      · rw [List.map_cons, List.mem_cons, ih]; simp only [List.map_cons, List.mem_cons]; exact or_left_comm

/-- A write keeps the canonical form. -/
theorem rising_bindN {l : List (Nat × α)} (h : Rising l) (k : Nat) (v : α) : Rising (bindN l k v) := by
  induction l with
  | nil => simp [bindN, Rising]
  | cons p t ih =>
    obtain ⟨j, w⟩ := p
    have hp : (∀ m ∈ t.map Prod.fst, j < m) ∧ Rising t := by simpa [Rising] using h
    unfold bindN
    split
    · next e =>
      refine List.pairwise_cons.2 ⟨fun m hm => ?_, h⟩
      rcases List.mem_cons.1 hm with rfl | hm
      · exact e
      · exact Nat.lt_trans e (hp.1 m hm)
    · split
      · next e => subst e; exact h
      · refine List.pairwise_cons.2 ⟨fun m hm => ?_, ih hp.2⟩
        rcases (mem_keys_bindN t k v m).1 hm with rfl | hm
        · omega
        · exact hp.1 m hm

/-- Filtering keeps the canonical form. -/
theorem rising_filter {l : List (Nat × α)} (h : Rising l) (p : Nat × α → Bool) : Rising (l.filter p) :=
  List.Pairwise.sublist (List.Sublist.map Prod.fst List.filter_sublist) h

/-- Dropping a key keeps the canonical form. -/
theorem rising_dropN {l : List (Nat × α)} (h : Rising l) (k : Nat) : Rising (dropN l k) := rising_filter h _

/-- A dropped key has no value. -/
theorem lookupN_dropN_self (l : List (Nat × α)) (k : Nat) : lookupN (dropN l k) k = none := by
  simp [lookupN, dropN]

end Sys2Proof.Machine
end

