-- ==== Sys2Proof/Laws/Regs.lean ====
section
/-! SUPPORT. What a write of one register does as an operation (05 R150), once for every register. -/

namespace Sys2Proof.Machine

/-- A write of one register whose checks pass. -/
theorem writeOp_one {r : HostReq} {addr : Nat} {v : Word} {s : State} (h : s.writeStatus r addr v = none) :
    writeOp r [(addr, v)] s = .done (s.writeAt r addr v) [] := by
  simp [writeOp, checkWrites, h, State.writeAll]

/-- A write of one register that is refused names the register (05 R150). -/
theorem writeOp_one_refused {r : HostReq} {addr : Nat} {v : Word} {s : State} {st : Nat} (h : s.writeStatus r addr v = some st) :
    writeOp r [(addr, v)] s = .refuse st (leBytes 4 addr) := by
  simp [writeOp, checkWrites, h]

/-- The effect of a register row when its register's write changes nothing of the host block and sends nothing. -/
theorem writeOne_effect {r : HostReq} {addr : Nat} {v : Word} {s t : State} (h : s.ready r (writeLevel [addr]) 0 = true)
    (hw : (s.admitted r 0x0011).writeStatus r addr v = none) (ht : (s.admitted r 0x0011).writeAt r addr v = t)
    (hh : t.hst = (s.admitted r 0x0011).hst) (hc : t.clk = (s.admitted r 0x0011).clk) (ho : t.out = []) :
    s.answers (writeOne r addr v s) r 0x0011 stOK [] ∧ s.hostKeeps (writeOne r addr v s) r ∧
      writeOne r addr v s = { t with hst := (writeOne r addr v s).hst, out := (writeOne r addr v s).out } :=
  hostOp_effect h (by rw [writeOp_one hw, ht]) hh hc ho

/-- The checks of a write to the register at an address. -/
theorem writeStatus_none {r : HostReq} {addr : Nat} {v : Word} {s : State} {h : RegHit} (ha : findAddr addr = some h)
    (hb : s.blockShut (addr / 65536) = false) (hv : v &&& h.rsv = 0) (hc : s.regCheck r h.id h.idx v = none) :
    s.writeStatus r addr v = none := by
  simp [State.writeStatus, ha, hb, hv, hc]

theorem writeAt_eq {r : HostReq} {addr : Nat} {v : Word} {s : State} {h : RegHit} (ha : findAddr addr = some h) :
    s.writeAt r addr v = s.regWrite r h.id h.idx (v &&& ~~~s.freshBits h.id h.idx) := by
  simp [State.writeAt, ha]

end Sys2Proof.Machine
end

