-- ==== Sys2Proof/Tests/Slice0.lean ====
section
/-! SUPPORT. The model's own tests.  A theorem wit_… shows concrete states and operands that meet the hypotheses of the statements about its
command, a clause at a time, and looks at one value of the step's result; a theorem ill_… shows a term that a check of Instr.wf refuses.
Expected values are worked out from the rules cited in the statements. -/

set_option maxRecDepth 100000

open Sys2Proof Sys2Proof.Machine

namespace Sys2Proof.Tests

/-- The state after one command. -/
def after (c : Instr) (s : State) : State :=
  match exec c s with
  | .next t => t
  | _ => s

/-- Bytes, all zero but for the fields listed as (offset, bytes). -/
def bytes (n : Nat) (l : List (Nat × List Byte)) : List Byte :=
  (List.range n).map fun i => match l.find? fun p => decide (p.1 ≤ i) && decide (i < p.1 + p.2.length) with
    | some p => p.2.getD (i - p.1) 0
    | none => 0

/-- A POLICY table of sections. -/
def policy (id : Nat) (secs : List (Nat × List Byte)) : Table :=
  { id := id, kind := kPolicy, ver := 1,
    body := leBytes 4 secs.length ++ secs.flatMap fun p => leBytes 2 p.1 ++ leBytes 2 p.2.length ++ p.2 }

/-- An image of tables. -/
def image (ts : List Table) : Image := { imageVer := 1, settingsVer := 0, tables := ts }

/-- Every supply voltage at `v` mV, IGN at 12 V. -/
def volts (v : Nat) : SupplyIn := { vb1 := v, vb2 := v, vb3 := v, vb4 := v, vlog := v, ign := 12000, wake := 0 }

/-- A module in NORMAL with every region in RUN, 1 s after power-up. -/
def on : State :=
  { State.reset with
    pwr := { PwrSt.reset with supply := .normal, mon := volts 12000, die := Vector.replicate 4 (some 12000), ign := true },
    regions := Vector.replicate 10 { Region.reset with st := .run },
    clk := { ClkSt.reset with opt := 1000000000, tickOpt := 999990000, running := true } }

/-- `on` with a SERVICE session 0 that has said HELLO and has ring 0 open. -/
def host : State :=
  { on with hst := { HstSt.reset with
      sess := put HstSt.reset.sess 0 { Sess.reset with isOpen := true, hello := true, level := 2, agreed := 0xFFFF },
      ring := put HstSt.reset.ring 0 { Ring.reset with isOpen := true, sess := 0, limit := 4 } } }

/-- A request of session 0 on ring 0. -/
def r0 : HostReq := { sess := 0, pathB := false, ring := 0, ticket := 1, seq := 1, lenOk := true, opt := 1000000100 }

/-- A request of session 0 on the control channel. -/
def rc : HostReq := { r0 with ring := controlRing }

/-- `s` with the image of `ts`. -/
def withTables (ts : List Table) (s : State) : State := { s with img := image ts }

/-- `s` with every battery contact at `v` mV. -/
def feed (v : Nat) (s : State) : State := { s with pwr := { s.pwr with mon := volts v, die := Vector.replicate 4 (some v) } }

/-- What a power-up meets on a sound module. -/
def pIn : PowerIn :=
  { m := volts 12000, sinceOff := 50000000, strap := 0, svcEn := false, fwOk := true, trialFwOk := true, answers := 127,
    devCertOk := true, ownerOk := true, migrateOk := true }

/-! The supply (02). -/

theorem wit_crankEntry : let s := feed 5999 on
    s.pwr.supply = .normal ∧ s.vs < 6000 ∧ (after (.crankEntry 1000000001) s).pwr.supply = .crank ∧
    (after (.crankEntry 1000000001) on).pwr = on.pwr := by decide

theorem wit_crankExit : let s := { on with pwr := { on.pwr with supply := .crank, okTicks := 201 } }
    s.pwr.supply = .crank ∧ 200 < s.pwr.okTicks ∧ (after (.crankExit 1000000001) s).pwr.supply = .normal ∧
    (after (.crankExit 1000000001) on).pwr = on.pwr := by decide

theorem wit_overvoltEntry : let s := feed 36001 on
    s.pwr.supply = .normal ∧ 36000 < s.vs ∧ (after (.overvoltEntry 1000000001) s).pwr.ovv = true ∧
    (after (.overvoltEntry 1000000001) on).pwr = on.pwr := by decide

theorem wit_overvoltExit : let s := { on with pwr := { on.pwr with supply := .overvolt, ovOkTicks := 201 } }
    s.pwr.supply = .overvolt ∧ 6000 ≤ s.vs ∧ 200 < s.pwr.ovOkTicks ∧
    (after (.overvoltExit 1000000001) s).pwr.supply = .normal ∧ (after (.overvoltExit 1000000001) on).pwr = on.pwr := by decide

theorem wit_crankUndervolt : let s := { on with pwr := { on.pwr with supply := .crank, uvTicks := 2 } }
    s.pwr.supply = .crank ∧ s.pwr.okTicks ≤ 200 ∧ 2 ≤ s.pwr.uvTicks ∧
    (after (.crankUndervolt 1000000001) s).pwr.shdnReason = 1 ∧ (after (.crankUndervolt 1000000001) on).pwr = on.pwr := by decide

theorem wit_crankTimeout : let s := { on with pwr := { on.pwr with supply := .crank, crankTicks := 4000 } }
    s.pwr.supply = .crank ∧ s.pwr.okTicks ≤ 200 ∧ s.pwr.uvTicks < 2 ∧ 4000 ≤ s.pwr.crankTicks ∧
    (after (.crankTimeout 1000000001) s).pwr.shdnReason = 2 ∧ (after (.crankTimeout 1000000001) on).pwr = on.pwr ∧
    (after (.crankTimeout 1000000001) { s with pwr := { s.pwr with uvTicks := 2 } }).pwr.supply = .crank := by decide

theorem wit_ignOffDelayExpiry : let s := { on with pwr := { on.pwr with ignOffSince := some 0 } }
    6000 ≤ s.vs ∧ s.vs ≤ 36000 ∧ 0 + s.img.ignOffDelay ≤ 2000000000 ∧ s.nav.whip = .normal ∧ s.img.holdS = 0 ∧
    (after (.ignOffDelayExpiry 2000000000) s).pwr.shdnReason = 3 ∧ (after (.ignOffDelayExpiry 2000000000) on).pwr = on.pwr := by decide

theorem wit_shutdownComplete : let s := { on with pwr := { on.pwr with supply := .shutdown, shdnReason := 3 } }
    s.pwr.supply = .shutdown ∧ (after (.shutdownComplete 1000000001) s).flash.shdn = .reason 3 ∧
    (after (.shutdownComplete 1000000001) on).pwr = on.pwr := by decide

theorem wit_supplyConnect : State.reset.pwr.supply = .off ∧
    (after (.supplyConnect (volts 12000)) State.reset).pwr.ign = true ∧ (after (.supplyConnect (volts 12000)) on).pwr = on.pwr := by decide

theorem wit_ignWakeChange : on.pwr.supply ≠ .off ∧
    (after (.ignWakeChange 1000000001 { volts 12000 with ign := 2999 }) on).pwr.ign = false ∧
    (after (.ignWakeChange 1000000001 (volts 12000)) State.reset).pwr = State.reset.pwr := by decide

theorem wit_holdUpTakeover : on.pwr.supply ≠ .off ∧
    max (volts 2999).vlog (max (max (volts 2999).vb1 (volts 2999).vb2) (max (volts 2999).vb3 (volts 2999).vb4)) < 3000 ∧
    (after (.holdUpTakeover 1000000001 (volts 2999)) on).pwr.holdUp = some 1000000001 := by decide

theorem wit_holdUpExhausted : let s := { on with pwr := { on.pwr with holdUp := some 800000000 } }
    s.pwr.holdUp = some 800000000 ∧ s.storeWasFull 800000000 = true ∧ 800000000 + 120000000 ≤ s.clk.opt ∧
    (after .holdUpExhausted s).pwr.supply = .off ∧
    (after .holdUpExhausted { on with pwr := { on.pwr with holdUp := some 999000000 } }).pwr.supply = .normal ∧
    (after .holdUpExhausted on).pwr.supply = .normal := by decide

theorem wit_svcEnChange : on.pwr.supply ≠ .off ∧ (after (.svcEnChange 1000000001 true) on).boot.svcEn = true ∧
    (after (.svcEnChange 1000000001 true) State.reset).boot.svcEn = false := by decide

theorem wit_ignOn : State.reset.pwr.supply = .off ∧ 5000 < pIn.m.ign ∧
    6500 ≤ min (min pIn.m.vb1 pIn.m.vb2) (min pIn.m.vb3 pIn.m.vb4) ∧ 50000000 ≤ pIn.sinceOff ∧
    (after (.ignOn pIn) State.reset).pwr.supply = .powerup ∧ (after (.ignOn pIn) on).pwr = on.pwr := by decide

theorem wit_powerupRetry : let s := { on with pwr := { on.pwr with supply := .powerup }, boot := { on.boot with failed2 := some 0 } }
    s.pwr.supply = .powerup ∧ s.boot.failed2.isSome = true ∧ (after (.powerupRetry pIn) s).pwr.supply = .powerup ∧
    (after (.powerupRetry pIn) on).pwr = on.pwr := by decide

theorem wit_powerupUndervolt : let s := { State.reset with pwr := { on.pwr with supply := .powerup, uvTicks := 200 } }
    s.pwr.supply = .powerup ∧ 200 ≤ s.pwr.uvTicks ∧ (∀ d : Fin 4, s.runs (6 + d) = false) ∧
    min (min (volts 5999).vb1 (volts 5999).vb2) (min (volts 5999).vb3 (volts 5999).vb4) < 6000 ∧
    (after (.powerupUndervolt 10000000 (volts 5999)) s).pwr.supply = .off ∧
    (after (.powerupUndervolt 10000000 (volts 5999)) on).pwr.supply = .normal := by decide

theorem wit_powerupComplete : let s := { State.reset with pwr := { on.pwr with supply := .powerup } }
    s.pwr.supply = .powerup ∧ s.boot.failed2 = none ∧ s.boot.noImage = false ∧
    (after (.powerupComplete 10000000) s).region rCTL = .run ∧
    (after (.powerupComplete 10000000) { s with boot := { s.boot with noImage := true } }).region rCTL = .off ∧
    (after (.powerupComplete 10000000) on).pwr = on.pwr := by decide

/-! Regions, dies and power links (01), switch channels' events (16). -/

theorem wit_memoryCorrectable : on.runs 9 = true ∧ (rd (after (.memoryCorrectable 1000000001 9) on).regions 9).eccCe = true ∧
    (after (.memoryCorrectable 1000000001 9) State.reset).regions = State.reset.regions := by decide

theorem wit_memoryUncorrectable : on.runs (UnitRef.loss 15).region = true ∧ on.runs 3 = true ∧ on.runs 9 = true ∧
    (after (.memoryUncorrectable 1000000001 (.region 9 [])) on).pwr.shdnReason = 5 ∧
    (after (.memoryUncorrectable 1000000001 (.region 3 [7])) on).boot.bad = [7] ∧
    (rd (after (.memoryUncorrectable 1000000001 (.unit (.loss 15))) on).regions rSNS).eccUe = true := by decide

theorem wit_windowViolation : on.runs rSNS = true ∧ on.runs rVIS = true ∧ on.runs rNET = true ∧
    (rd (after (.windowViolation 1000000001 (.loss 15)) on).flw.ls 15).lastErr = 0xF0 ∧
    (rd (after (.windowViolation 1000000001 (.can 7)) on).can.ch 7).fault = true ∧
    (rd (after (.windowViolation 1000000001 (.cam 5)) on).vis.cam 5).lastErr = 0xF0 ∧
    (rd (after (.windowViolation 1000000001 (.eth 6)) on).eth.port 6).fault = true ∧
    (after (.windowViolation 1000000001 (.eth 6)) State.reset).eth = State.reset.eth := by decide

/-- `on` with die 3's watchdog armed since 0.9 s. -/
def armed3 : State := { on with die := upd on.die 3 fun x => { x with armed := true, lastFrame := 900000000 } }

theorem wit_linkWatchdogExpiry : (rd armed3.die 3).armed = true ∧ armed3.region (6 + 3) = .run ∧
    (rd armed3.die 3).lastFrame + armed3.img.watchdog 3 * 50000 ≤ 1000000001 ∧
    (rd (after (.linkWatchdogExpiry 1000000001 3) armed3).die 3).linkSafe = true ∧
    (after (.linkWatchdogExpiry 1000000001 3) on).die = on.die := by decide

theorem wit_dieOvertemp : on.pwr.supply ≠ .off ∧ on.pwr.supply ≠ .shutdown ∧ on.region (6 + (6 - 3)) ≠ .off ∧
    (after (.dieOvertemp 1000000001 2 125) on).pwr.shdnReason = 4 ∧
    (after (.dieOvertemp 1000000001 2 124) on).pwr = on.pwr ∧
    (rd (after (.dieOvertemp 1000000001 6 150) on).die 3).overTemp = true ∧
    (after (.dieOvertemp 1000000001 2 125) State.reset).pwr = State.reset.pwr := by decide

theorem wit_dieTempRecovered : let s := { on with die := upd on.die 3 fun x => { x with overTemp := true } }
    (rd (after (.dieTempRecovered 1000000001 3 130) s).die 3).overTemp = false ∧
    (rd (after (.dieTempRecovered 1000000001 3 131) s).die 3).overTemp = true := by decide

theorem wit_dieSupervisorReset : on.region (6 + 0) ≠ .off ∧ on.region (6 + 0) ≠ .boot ∧
    (after (.dieSupervisorReset 1000000001 0) on).region 6 = .supervisor ∧
    (after (.dieConfigReloaded 1000000002 0) (after (.dieSupervisorReset 1000000001 0) on)).region 6 = .run ∧
    (after (.dieSupervisorReset 1000000001 0) State.reset).die = State.reset.die ∧
    (after (.dieConfigReloaded 1000000002 0) on).die = on.die := by decide

theorem wit_dieHot : (rd (after (.dieHot 1000000001 1 135 (List.replicate 10 1000)) on).die 1).dieHot = true ∧
    (rd (after (.dieHot 1000000001 1 134 (List.replicate 10 1000)) on).die 1).dieHot = false := by decide

theorem wit_dieHotClear : let s := { on with die := upd on.die 1 fun x => { x with dieHot := true } }
    (rd (after (.dieHotClear 1000000001 1 130) s).die 1).dieHot = false ∧
    (rd (after (.dieHotClear 1000000001 1 131) s).die 1).dieHot = true := by decide

/-- The record of a used switch channel: INRUSH_MS 10, DIE_HOT release 150 °C, REFUSE_MS 100, safe duty 500 on. -/
def pswTable : Table := policy 0x0C01 [(1, bytes 32 [(0, [1]), (1, [1]), (6, leBytes 2 10), (10, leBytes 2 1), (19, [150]),
  (22, leBytes 2 5), (24, leBytes 2 500), (28, leBytes 2 100)])]

/-- `on` with switch channel 0 used and changed. -/
def sw (f : PswCh → PswCh) : State := (withTables [pswTable] on).updPsw 0 f

theorem wit_watchdogSafe : let s := { (sw id) with die := armed3.die.swap 3 0 }
    (rd s.die 0).armed = true ∧ s.region (6 + 0) = .run ∧ (rd s.die 0).lastFrame + s.img.watchdog 0 * 50000 ≤ 1000000001 ∧
    0 ∈ diePsw 0 ∧ s.pswUsed 0 = true ∧ (rd s.psw.ch 0).frz = .none ∧
    (rd (after (.linkWatchdogExpiry 1000000001 0) s).psw.ch 0).safe = true := by decide

theorem wit_powerLinkCommandFrame : on.clk.running = true ∧ on.region rCTL = .run ∧ on.pwr.supply ≠ .off ∧ on.pwr.supply ≠ .powerup ∧
    on.region (6 + 3) = .run ∧ (rd (after (.powerLinkCommandFrame 3) on).die 3).armed = true ∧
    (after (.powerLinkCommandFrame 3) State.reset).die = State.reset.die := by decide

/-- A status frame of 12.5 V and 60 °C. -/
def status : DieStatus :=
  { vbat := 12500, temp := 60, psw := List.replicate 10 0, vlv := List.replicate 12 0, bank := [0, 0], railMv := 40000,
    tj := List.replicate 10 600, under := List.replicate 12 false, tach := [none, none] }

theorem wit_powerLinkStatusFrame : on.runs (6 + 3) = true ∧ on.region rCTL ≠ .frozen ∧ status.wf = true ∧
    (rd (after (.powerLinkStatusFrame 3 status) on).die 3).dieT = 60 ∧
    (after (.powerLinkStatusFrame 3 status) State.reset).die = State.reset.die := by decide

theorem wit_clusterReset : host.ready r0 (writeLevel [0x140]) 0 = true ∧ host.blockShut 0 = false ∧
    (0x901 : Word) &&& 0xFFFFF000 = 0 ∧ 2 ≤ (host.sess r0.sess).level ∧ host.clusterCheck 0x901 = none ∧
    (after (.clusterReset r0 0x901) host).inReset 9 1 = true ∧
    (after (.clusterResetComplete 1000000200 9 1) (after (.clusterReset r0 0x901) host)).clRst = [] ∧
    host.clusterCheck 0x600 = none ∧ (rd (after (.clusterReset r0 0x600) host).vlv.ch 0).err = (rd host.vlv.ch 0).err ∧
    (after (.clusterResetComplete 1000000200 9 1) host).clRst = [] := by decide

theorem wit_inrushEnd : let s := sw fun c => { c with phase := .inrush, inrushEnd := 1000000001 }
    (rd s.psw.ch 0).phase = .inrush ∧ (rd s.psw.ch 0).inrushEnd ≤ 1000000001 ∧
    (rd (after (.inrushEnd 1000000001 0) s).psw.ch 0).phase = .on ∧
    (after (.inrushEnd 1000000001 0) on).psw = on.psw := by decide

theorem wit_pswShortTrip : let s := sw fun c => { c with phase := .on, safe := false }
    (rd s.psw.ch 0).phase = .on ∧ (rd s.psw.ch 0).safe = false ∧ (rd (after (.pswShortTrip 1000000001 0) s).psw.ch 0).lastErr = 0x01 ∧
    (after (.pswShortTrip 1000000001 0) on).psw = on.psw := by decide

theorem wit_pswOverloadTrip : let s := sw fun c => { c with phase := .on, safe := false }
    (rd s.psw.ch 0).phase = .on ∧ (rd s.psw.ch 0).safe = false ∧ (rd (after (.pswOverloadTrip 1000000001 0) s).psw.ch 0).lastErr = 0x02 ∧
    (after (.pswOverloadTrip 1000000001 0) on).psw = on.psw := by decide

theorem wit_pswRetryExpiry : let s := sw fun c => { c with enF := true, phase := .tripped, retryEnd := some 1000000001, safe := false, cmd := 700 }
    (rd s.psw.ch 0).phase = .tripped ∧ (rd s.psw.ch 0).retryEnd = some 1000000001 ∧ s.pswEff 0 ≠ 0 ∧ s.pwr.supply ≠ .shutdown ∧
    (rd (after (.pswRetryExpiry 1000000001 0) s).psw.ch 0).phase = .wait ∧
    (after (.pswRetryExpiry 1000000001 0) on).psw = on.psw := by decide

theorem wit_pswRetryReset : let s := sw fun c => { c with phase := .on, onSince := 0, retries := 2 }
    (rd s.psw.ch 0).phase = .on ∧ (rd s.psw.ch 0).onSince + u16 (s.pswRec 0) 22 * 1000000000 ≤ 5000000000 ∧
    (rd (after (.pswRetryReset 5000000000 0) s).psw.ch 0).retries = 0 ∧
    (after (.pswRetryReset 1000000001 0) on).psw = on.psw := by decide

theorem wit_pswOpenLoad : let s := sw fun c => { c with phase := .on }
    (rd s.psw.ch 0).phase = .on ∧ (rd s.psw.ch 0).openLoad = false ∧ u16 (s.pswRec 0) 10 ≠ 0 ∧ s.pwr.supply ≠ .crank ∧
    (rd (after (.pswOpenLoad 1000000001 0) s).psw.ch 0).lastErr = 0x06 ∧
    (after (.pswOpenLoad 1000000001 0) on).psw = on.psw := by decide

theorem wit_pswOpenClear : let s := sw fun c => { c with phase := .on, openLoad := true }
    (rd s.psw.ch 0).phase = .on ∧ (rd (after (.pswOpenClear 1000000001 0) s).psw.ch 0).openLoad = false ∧
    (after (.pswOpenClear 1000000001 0) on).psw = on.psw := by decide

theorem wit_pswClampOverload : (sw id).pswUsed 0 = true ∧ on.pswUsed 39 = false ∧
    (rd (after (.pswClampOverload 1000000001 0) (sw id)).psw.ch 0).lastErr = 0x03 ∧
    (after (.pswClampOverload 1000000001 39) on).psw = on.psw := by decide

theorem wit_thermalLatch : let s := sw fun c => { c with enF := true, phase := .on }
    s.pswUsed 0 = true ∧ (rd s.psw.ch 0).latch = false ∧ (rd s.psw.ch 0).enF = true ∧
    (rd (after (.thermalLatch 1000000001 0 1700) s).psw.ch 0).phase = .latched ∧
    (rd (after (.thermalLatch 1000000001 0 1699) s).psw.ch 0).latch = false ∧
    (rd (after (.thermalLatch 1000000001 0 1800) (s.updPsw 0 fun c => { c with latch := true })).psw.ch 0).latchCnt = 0 := by decide

theorem wit_latchRelease : let s := sw fun c => { c with latch := true, clrPend := true }
    (rd s.psw.ch 0).latch = true ∧ (rd s.psw.ch 0).clrPend = true ∧ (1500 : Int) ≤ 10 * (u8 (s.pswRec 0) 19 : Int) ∧
    (rd s.psw.ch 0).phase ≠ .latched ∧ (rd (after (.latchRelease 1000000001 0 1500) s).psw.ch 0).latch = false ∧
    (rd (after (.latchRelease 1000000001 0 1501) s).psw.ch 0).latch = true := by decide

theorem wit_pswRefuseRetry : let s := sw fun c => { c with enF := true, phase := .refused, refusedSince := 900000000, safe := false, cmd := 700 }
    (rd s.psw.ch 0).phase = .refused ∧ u16 (s.pswRec 0) 28 ≠ 0 ∧
    (rd s.psw.ch 0).refusedSince + u16 (s.pswRec 0) 28 * 1000000 ≤ 1000000000 ∧ s.pswEff 0 ≠ 0 ∧ s.pwr.supply ≠ .shutdown ∧
    (rd (after (.pswRefuseRetry 1000000000 0) s).psw.ch 0).phase = .wait ∧
    (after (.pswRefuseRetry 1000000001 0) on).psw = on.psw := by decide

theorem wit_safeStateTurnOn : let s := { (sw fun c => { c with enF := true, safe := true, phase := .idle }) with
      die := upd on.die 0 fun x => { x with linkSafe := true, safeTurnOn := 998000000 } }
    s.dieOwn 0 = true ∧ (rd s.die 0).safeTurnOn + 2000000 ≤ 1000000000 ∧
    ((diePsw 0).find? (fun n => (rd s.psw.ch n).enF && (rd s.psw.ch n).safe && (rd s.psw.ch n).phase == .idle &&
          !(rd s.psw.ch n).latch && s.pswSafeDuty n != 0 && s.pswUsed n && (rd s.psw.ch n).frz == .none)) = some 0 ∧
    (rd (after (.safeStateTurnOn 1000000000 0) s).psw.ch 0).phase = .inrush ∧
    (after (.safeStateTurnOn 999999999 0) s).psw = s.psw := by decide

/-! The start budget, the wake output and the release of outputs (02, 03). -/

/-- `on` with admissions open, the pass of this boundary due and one request of the wake output. -/
def lone (q : StartReq) : State := { on with bud := { on.bud with isOpen := true, passTick := some 0, prevLoad := 0, reqs := [q] } }

theorem wit_admissionPass : let q : StartReq := ⟨96, 3, 200, 50, 50, 999980000, 0⟩
    let s := lone q
    s.bud.isOpen = true ∧ s.bud.passTick = some s.clk.tick ∧ s.bud.reqs = [q] ∧ q.opt < s.clk.tickOpt ∧ q.waited < q.maxDefer ∧
    s.bud.load + q.charge ≤ s.budPeak ∧ s.bud.load + q.charge ≤ s.budRise + s.bud.prevLoad ∧
    (after .admissionPass s).wake.out = true ∧ on.bud.isOpen = false ∧
    (after .admissionPass on).bud = on.bud ∧
    (rd (after .admissionPass (lone ⟨39, 3, 200, 50, 50, 999980000, 0⟩)).psw.ch 39).phase = .inrush := by decide

theorem wit_admissionWait : let q : StartReq := ⟨39, 3, 20000, 50, 50, 999980000, 49⟩
    let s := lone q
    q.src < 40 ∧ q.opt < s.clk.tickOpt ∧ q.waited < q.maxDefer ∧ s.budPeak < s.bud.load + q.charge ∧
    (after .admissionPass s).bud.reqs = [{ q with waited := 50 }] := by decide

theorem wit_wakeOutTrip : let s := { on with wake := { on.wake with out := true } }
    s.wake.out = true ∧ (after (.wakeOutTrip 1000000001) s).wake.trip = true ∧
    (after (.wakeOutTrip 1000000001) on).wake = on.wake := by decide

theorem wit_wakeCmd : host.ready r0 (writeLevel [0x250]) 0 = true ∧ host.blockShut 0 = false ∧ (0x1F : Word) &&& 0xFFFFFFE0 = 0 ∧
    host.img.wakeSrc = noRef ∧ (after (.wakeCmd r0 1) host).wake.reg = true := by decide

/-- A system POLICY with one FOLLOW release group, RONREX, of switch channel 0. -/
def relTable : Table := policy 0x0002 [(1, bytes 28 [(0, leBytes 2 1), (4, [2, 1]), (20, [1])])]

/-- `sw` with the release group, its condition holding, and every die checked. -/
def rel (f : BootSt → BootSt) : State :=
  let s := withTables [relTable, pswTable] on
  { s with boot := f { s.boot with dieOk := 127 }, clk := { s.clk with opt := s.clk.tickOpt },
           die := Vector.replicate 4 { DieSt.reset with armed := true } }

theorem wit_releaseGroup : let s := rel fun b => { b with due := 1 }
    s.powered = true ∧ s.diesOk = true ∧ s.atTick = true ∧ s.boot.due.getLsbD 0 = true ∧ s.boot.released.getLsbD 0 = false ∧
    s.pswUsed 0 = true ∧ (rd s.psw.ch 0).frz = .none ∧ (after (.releaseGroup 0) s).pswRuns 0 = true ∧
    (rd (after (.releaseGroup 0) s).psw.ch 0).safe = false ∧ (after (.releaseGroup 0) on).boot = on.boot := by decide

theorem wit_releaseFollowLapse : let s := rel fun b => { b with released := 1, lapse := 1 }
    s.powered = true ∧ s.atTick = true ∧ s.boot.lapse.getLsbD 0 = true ∧ s.boot.released.getLsbD 0 = true ∧
    s.pswUsed 0 = true ∧ (after (.releaseFollowLapse 0) s).pswRuns 0 = false ∧
    (rd (after (.releaseFollowLapse 0) s).psw.ch 0).safe = true ∧ (after (.releaseFollowLapse 0) on).boot = on.boot := by decide

theorem wit_releaseCmd : let s := withTables [relTable] host
    s.ready r0 (writeLevel [0x344]) 0 = true ∧ s.blockShut 0 = false ∧ (1 : Word) &&& 0xFFFF0000 = 0 ∧ s.boot.svcHold = false ∧
    (after (.releaseCmd r0 1) s).boot.rxCond = 1 := by decide

/-! The loop engine, machine functions and state machines (08, 09, 04). -/

theorem wit_tickStart : on.clk.running = true ∧ on.region rCTL = .run ∧ on.powered = true ∧ on.clk.tickOpt ≠ 0 ∧
    on.dbg.pendingFull = none ∧ on.clk.aligned = false ∧ on.tim.align = none ∧ on.tim.dvtSet = false ∧ on.sns.mail = none ∧
    State.reset.clk.running = false ∧ (after (.tickStart (volts 11000)) on).clk.tickOpt = 1000040000 ∧
    (after (.tickStart (volts 11000)) on).pwr.mon = volts 11000 ∧
    (after (.tickStart (volts 11000)) State.reset).sns = State.reset.sns := by decide

theorem wit_tickRelease : let s := { withTables [relTable] on with sns := { on.sns with mail := some (default : ImageSt) }, boot := { on.boot with rxCond := 1 } }
    0 < s.img.relCount ∧ s.img.relCond 0 = 2 ∧ s.boot.svcHold = false ∧
    (after (.tickStart (volts 11000)) s).sns.mail = none ∧ (after (.tickStart (volts 11000)) s).boot.held = 1 := by decide

/-- `on` with a slot whose tick falls on the DVT grid while the tick is being aligned. -/
def aligning : State :=
  { on with clk := { on.clk with tickSec := 7 },
            tim := { on.tim with dvtSet := true, dvtBase := 5 * 1000000000, optBase := on.clk.tickOpt, slew := 0, align := some true } }

theorem wit_tickAlignment : aligning.clk.running = true ∧ aligning.clk.aligned = false ∧ aligning.tim.align.isSome = true ∧
    aligning.onDvtGrid = true ∧ (after .tickAlignment aligning).clk.tickSec = 0 ∧ (after .tickAlignment aligning).clk.aligned = true ∧
    (after .tickAlignment { aligning with clk := { aligning.clk with aligned := true } }).clk.tickSec = 7 := by decide

/-- A LOP POLICY whose slot 127 has law 0x0410, N_OVR 2. -/
def lopTable : Table := policy 0x0401 [(1, bytes 6144 [(6096, leBytes 2 0x0410), (6102, [2])])]

/-- A computation of slot 127 that its processor has not yet posted. -/
def job : LoopJob := { (default : LoopJob) with tick := 0, outTick := 1, lawId := 0x0410, u := fOne }

/-- `on` with slot 127 enabled and `job` in progress. -/
def loops : State :=
  let s := withTables [lopTable] on
  { s with lop := { s.lop with proc := Vector.replicate 8 { Proc.reset with run := true },
                               slot := upd s.lop.slot 127 fun c => { c with enF := true, job := some job, consec := 1 } } }

theorem wit_loopComputationDone : (loops.slot 127).job = some job ∧ job.posted = false ∧ job.select = false ∧ job.stalled = false ∧
    loops.runs rCTL = true ∧ (rd loops.lop.proc (127 / 16)).run = true ∧ loops.jobDeadline job = 1000025000 ∧
    ((after (.loopComputationDone 1000025000 127 900) loops).slot 127).outReg = fOne ∧
    ((after (.loopComputationDone 1000025001 127 900) loops).slot 127) = loops.slot 127 ∧
    (after (.loopComputationDone 1000025001 127 900) on).lop = on.lop := by decide

theorem wit_loopOverrun : (loops.slot 127).job = some job ∧ job.posted = false ∧ job.select = false ∧ loops.runs rCTL = true ∧
    (loops.slot 127).enF = true ∧ (loops.slot 127).fault = false ∧
    recNOvr (loops.slotB 127) ≤ (satInc (loops.slot 127).consec).toNat ∧
    ((after (.loopOverrun 127) loops).slot 127).lastErr = 0x01 ∧
    (after (.loopOverrun 127) on).lop = on.lop ∧
    ((after (.loopOverrun 127) (loops.updSlot 127 fun c => { c with consec := 0 })).slot 127).fault = false := by decide

theorem wit_loopProcessorDown : (rd loops.lop.proc 7).run = true ∧ (loops.slot (16 * 7 + 15)).enF = true ∧
    (loops.slot (16 * 7 + 15)).fault = false ∧ ((after (.loopProcessorDown 1000000001 7) loops).slot 127).lastErr = 0x03 ∧
    (after (.loopProcessorDown 1000000001 7) State.reset).lop = State.reset.lop := by decide

/-- `host` with slot 127 configured and enabled. -/
def lhost : State :=
  let s := withTables [lopTable] host
  { s with lop := { s.lop with slot := upd s.lop.slot 127 fun c => { c with enF := true } } }

theorem wit_loopAuto : lhost.ready r0 1 10 = true ∧ lhost.slotUsed 127 = true ∧ lhost.img.mfOfSlot 127 = none ∧
    ((after (.loopAuto r0 127 fOne) lhost).slot 127).cmds = [⟨1, fOne, r0⟩] := by decide

theorem wit_loopManual : fIsFin fOne = true ∧ fIsNaN (0x7FC00000 : F32) = true ∧
    ((after (.loopManual r0 127 fOne) lhost).slot 127).cmds = [⟨2, fOne, r0⟩] := by decide

theorem wit_loopSetManual : fIsFin fOne = true ∧ ((after (.loopSetManual r0 127 fOne) lhost).slot 127).cmds = [⟨3, fOne, r0⟩] := by decide

theorem wit_loopRestart : ((after (.loopRestart r0 127 fOne) lhost).slot 127).cmds = [⟨4, fOne, r0⟩] := by decide

theorem wit_loopEnable : ((after (.loopEnable r0 127 fOne) lhost).slot 127).cmds = [⟨5, fOne, r0⟩] := by decide

theorem wit_loopDisable : ((after (.loopDisable r0 127 fOne) lhost).slot 127).cmds = [⟨6, fOne, r0⟩] := by decide

theorem wit_loopInstant : (host.slot 127).enF = false ∧ (lhost.slot 127).enF = true ∧ (lhost.slot 127).fault = false ∧
    (let s := { lhost with lop := { lhost.lop with slot := upd lhost.lop.slot 127 fun c => { c with fault := true } } }
     (s.slot 127).fault = true ∧ (s.loopCommand 127 ⟨4, fZero, r0⟩).2 = stOK) ∧
    (let s := { lhost with lop := { lhost.lop with slot := upd lhost.lop.slot 127 fun c => { c with remManual := true } } }
     (s.slot 127).remManual = true ∧ ((s.loopCommand 127 ⟨3, fOne, r0⟩).1.slot 127).man = fOne) := by decide

theorem wit_loopCntClear : host.ready r0 (writeLevel [0x40020 + 4 * 3]) 0 = true ∧ host.blockShut 4 = false ∧
    (after (.loopCntClear r0 3 0x80000000) { host with lop := { host.lop with slot := upd host.lop.slot 127 fun c =>
      { c with ovrCnt := 5 } } }).slot 127 = host.slot 127 := by decide

theorem wit_testStall : host.ready r0 (writeLevel [0x40030]) 0 = true ∧ host.blockShut 4 = false ∧ (0x0001017F : Word) &&& 0x80 = 0 ∧
    2 ≤ (host.sess r0.sess).level ∧ 1 ≤ field 0x0001017F 16 16 ∧
    (after (.testStall r0 0x0001017F) host).lop.stall = ⟨127, 1, 1⟩ := by decide

theorem wit_tickLatch : host.ready r0 0 0 = true ∧ host.blockShut 4 = false ∧
    (after (.tickLatch r0) { host with clk := { host.clk with tick := 2 ^ 32 + 5 } }).lop.tickHi = 1 := by decide

/-- A PRF POLICY whose function 0 owns slot 127, with ILK_CLEAR_MS 10. -/
def prfTable : Table := policy 0x0501 [(2, bytes 112 [(0, [127]), (56, leBytes 2 10), (20, leBytes 4 0), (24, leBytes 4 0x40000000)])]

/-- `host` with that function. -/
def mhost : State := withTables [prfTable] host

theorem wit_mfSetMode : mhost.ready r0 1 10 = true ∧ mhost.mfUsed 0 = true ∧ (3 : Byte).toNat ≤ 3 ∧
    (rd (after (.mfSetMode r0 0 3 fOne) mhost).prf.mf 0).cmds = [⟨1, 3, fOne, r0⟩] := by decide

theorem wit_mfTarget : fIsFin fOne = true ∧ (rd (after (.mfTarget r0 0 4 fOne) mhost).prf.mf 0).cmds = [⟨2, 4, fOne, r0⟩] := by decide

theorem wit_mfManualValue : fIsFin fOne = true ∧ (rd (after (.mfManualValue r0 0 0 fOne) mhost).prf.mf 0).cmds = [⟨3, 0, fOne, r0⟩] := by decide

/-- `mhost` with function 0 in INTERLOCK for `k` ticks. -/
def locked (k : Nat) : State := mhost.updMf 0 fun f => { f with st := .interlock, ilkTicks := k }

theorem wit_mfInterlockClear : (locked 201).mfUsed 0 = true ∧ (rd (locked 201).prf.mf 0).st = .interlock ∧
    20 * u16 ((locked 201).mfB 0) 56 < (rd (locked 201).prf.mf 0).ilkTicks ∧ (locked 201).mfOvr 0 = false ∧
    (rd (after (.mfInterlockClear 0) (locked 201)).prf.mf 0).st = .normal ∧
    (rd (after (.mfInterlockClear 0) (locked 200)).prf.mf 0).st = .interlock := by decide

/-- `locked 201` with an override by digital input 0, which is on. -/
def overridden : State :=
  { withTables [policy 0x0501 [(2, bytes 112 [(0, [127]), (6, [1]), (12, leBytes 4 0x02050000), (56, leBytes 2 10)])]] (locked 201) with
    sns := { on.sns with latch := { on.sns.latch with din := put on.sns.latch.din 0 (fOne, true) } } }

theorem wit_mfInterlockOverride : overridden.mfUsed 0 = true ∧ (rd overridden.prf.mf 0).st = .interlock ∧ overridden.mfOvr 0 = true ∧
    (rd (after (.mfInterlockClear 0) overridden).prf.mf 0).st = .override := by decide

theorem wit_mfCntClear : host.ready r0 (writeLevel [0x52310 + 4 * 1]) 0 = true ∧ host.blockShut 5 = false ∧
    (0x8000 : Word) &&& 0xFFFF0000 = 0 ∧
    (rd (after (.mfCntClear r0 1 0x8000) (host.updMf 47 fun f => { f with ilkCnt := 9 })).prf.mf 47).ilkCnt = 0 := by decide

/-- A STATE table of two states: from state 0, EVENT 1 of timer 3 and a step event with no guard both lead to state 1. -/
def smTable : Table := { id := 0x0510, kind := kState, ver := 1, body := bytes 64 [(0, leBytes 2 2), (2, leBytes 2 1), (12, leBytes 2 40), (32, [0, 1, 0])] }

/-- `host` with that machine, which has run. -/
def smHost : State := (withTables [smTable] host).updSm 0 fun x => { x with run := true }

theorem wit_smStep : smHost.runs rSVC = true ∧ 0 < smHost.img.machines.length ∧
    smHost.clk.tickSec % max 1 (smStepTicks (smHost.img.smBody 0)) = 0 ∧ (rd smHost.sm 0).run = true ∧ (rd smHost.sm 0).queue = [] ∧
    smWatched (smHost.img.smBody 0) = [] ∧ (rd (after (.smStep 1000000100 0 false) smHost).sm 0).state = 1 ∧
    (rd (after (.smStep 1000000100 0 false) smHost).sm 0).transCnt = 1 ∧
    (rd (after (.smStep 1000000100 0 true) smHost).sm 0).lateCnt = 1 ∧ (after (.smStep 1000000100 0 true) host).sm = host.sm := by decide

theorem wit_smQuiet : let s := { smHost with img := image [{ smTable with body := bytes 64 [(0, leBytes 2 2), (12, leBytes 2 40)] }] }
    smFind (s.begin 1000000100) s 0 (s.img.smBody 0) 0 0 = none ∧ (rd (after (.smStep 1000000100 0 false) s).sm 0).state = 0 := by decide

theorem wit_smStay : let s := { smHost with img := image [{ smTable with body := bytes 64 [(0, leBytes 2 2), (2, leBytes 2 1), (12, leBytes 2 40), (32, [0, 255, 0])] }] }
    smFind (s.begin 1000000100) s 0 (s.img.smBody 0) 0 0 = some 32 ∧ (rd (after (.smStep 1000000100 0 false) s).sm 0).state = 0 := by decide

theorem wit_smTimerExpiry : let s := smHost.updSm 0 fun x => { x with timers := [(15, 1000000100)] }
    lookupN (rd s.sm 0).timers (15 : Byte).toNat = some 1000000100 ∧ s.runs rSVC = true ∧
    (rd (after (.smTimerExpiry 1000000100 0 15) s).sm 0).queue = [⟨1000000100, 1, 15, none⟩] ∧
    (after (.smTimerExpiry 1000000100 0 14) s).sm = s.sm := by decide

theorem wit_smEvent : smHost.ready r0 (writeLevel [0x600]) 0 = true ∧ smHost.blockShut 0 = false ∧ (0xFFFF : Word) &&& 0xFFC00000 = 0 ∧
    field 0xFFFF 16 6 < smHost.img.machines.length ∧
    (rd (after (.smEvent r0 0xFFFF) smHost).sm 0).queue = [⟨1000000100, 4, 0xFFFF, none⟩] := by decide

theorem wit_machineEvent : smHost.ready r0 1 11 = true ∧ (0 : Byte).toNat < smHost.img.machines.length ∧
    (rd (after (.machineEvent r0 0 0xFFFF) smHost).sm 0).queue = [⟨1000000100, 4, 0xFFFF, none⟩] := by decide

/-! Commit groups (03, 05). -/

/-- `host` with 100 A and 50 A in the shadow of the BUDGET group. -/
def shadowed : State := host.setShadow 0x240 (100 + 1024 * 50)

/-- `shadowed` after a COMMIT. -/
def snapped : State := after (.commit r0 1) shadowed

theorem wit_commit : shadowed.ready r0 1 4 = true ∧ shadowed.groupStatus 1 = none ∧ shadowed.commitBarred 1 = none ∧
    shadowed.grp.snaps = [] ∧ snapped.grp.snaps = [⟨1, [(0x240, 100 + 1024 * 50)], 1000000100, none, some r0⟩] ∧
    (after (.commit r0 1) shadowed).out = [] := by decide

theorem wit_commitPending : let r := { r0 with seq := 2, ticket := 2, ring := 1 }
    let s := { snapped with hst := { snapped.hst with ring := put snapped.hst.ring 1 { Ring.reset with isOpen := true, limit := 4 } } }
    s.ready r 1 4 = true ∧ s.groupStatus 1 = none ∧ s.commitBarred 1 = none ∧ s.grp.snaps.map Snap.group = [1] ∧
    (after (.commit r 1) s).out = [.completion 0 1 2 1 0x0021 stPENDING false (commitReply 0 0)] := by decide

/-- A pending snapshot of the BUDGET group. -/
def snap1 : Snap := ⟨1, [(0x240, 100 + 1024 * 50)], 1000000100, none, some r0⟩

theorem wit_commitCheckDone : snapped.grp.snaps.find? (fun p => p.group == (1 : W16).toNat) = some snap1 ∧ snap1.checkedAt = none ∧
    snap1.accepted ≤ 1001000100 ∧ 1001000100 ≤ snap1.accepted + 1000000 ∧
    snapped.img.ruleBroken snapped.flw.lsEn.toNat 1 snap1.word = none ∧ snapped.groupIdle 1 = false ∧
    ((after (.commitCheckDone 1001000100 1) snapped).grp.snaps.map Snap.checkedAt) = [some 1001000100] ∧
    ((after (.commitCheckDone 1001000101 1) snapped).grp.snaps.map Snap.checkedAt) = [none] ∧
    (after (.commitCheckDone 1000000100 1) on).grp = on.grp := by decide

theorem wit_commitRuleBroken : let p : Snap := { snap1 with words := [(0x240, 49)] }
    let s := { snapped with grp := { snapped.grp with snaps := [p] } }
    (s.img.ruleBroken s.flw.lsEn.toNat 1 p.word).isSome = true ∧ (after (.commitCheckDone 1000000100 1) s).grp.snaps = [] := by decide

theorem wit_commitIdle : let p : Snap := ⟨0x0B00, [(0xB1000, 0), (0xB1004, 0)], 1000000100, none, none⟩
    let s := { host with grp := { host.grp with snaps := [p] } }
    s.img.ruleBroken s.flw.lsEn.toNat 0x0B00 p.word = none ∧ s.groupIdle 0x0B00 = true ∧
    (after (.commitCheckDone 1000000100 0x0B00) s).grp.live = p.words := by decide

/-- `snapped` with the snapshot checked, at a slot boundary. -/
def atSlot : State :=
  { snapped with clk := { snapped.clk with tickOpt := snapped.clk.opt, tickSec := 40 },
                 grp := { snapped.grp with snaps := [{ snap1 with checkedAt := some 1000000099 }] } }

theorem wit_commitApply : (1 : W16).toNat / 256 ∈ [0x00, 0x04, 0x05, 0x08, 0x0B, 0x0C] ∧ atSlot.boundaryNow 1 = true ∧
    atSlot.snapReady 1 = some { snap1 with checkedAt := some 1000000099 } ∧ snapped.boundaryNow 1 = false ∧
    (after (.commitApply 1) atSlot).grp.live = [(0x240, 100 + 1024 * 50)] ∧ (after (.commitApply 1) atSlot).budPeak = 1000 ∧
    (after (.commitApply 1) snapped).grp = snapped.grp ∧ (after (.commitApply 2) atSlot).grp = atSlot.grp := by decide

theorem wit_commitTimeout : snapped.grp.snaps.find? (fun p => p.group == (1 : W16).toNat) = some snap1 ∧
    snap1.accepted + snapped.img.commitDeadline = 3000000100 ∧ snap1.req = some r0 ∧ r0.sess < 8 ∧
    snapped.hst.ops = [⟨r0, 0x0021, none, false, false⟩] ∧ (rd snapped.hst.ring r0.ring).closing = none ∧
    (after (.commitTimeout 3000000100 1) snapped).grp.snaps = [] ∧ (after (.commitTimeout 3000000099 1) snapped).grp.snaps = [snap1] ∧
    (after (.commitTimeout 3000000100 1) host).grp = host.grp := by decide

theorem wit_discard : shadowed.ready r0 1 4 = true ∧ shadowed.groupStatus 1 = none ∧
    (after (.discard r0 1) shadowed).shadow 0x240 = shadowed.live 0x240 := by decide

theorem wit_shadowRead : shadowed.ready r0 0 4 = true ∧ shadowed.groupStatus 1 = none ∧
    4 + 12 * ((groupWords 1).getD []).length + 24 ≤ (shadowed.sess r0.sess).maxMsg ∧
    (after (.shadowRead r0 1) shadowed).hst.ops = [] := by decide

theorem wit_shadowWrite : (findAddr 0x240).map RegHit.id = some (.sys .budgetCfg) ∧ (RegId.sys .budgetCfg).isSH = true ∧
    (host.grp.snaps.map Snap.group).Nodup := by decide

/-! Ronrex (05), tokens (03). -/

/-- A complete handshake of a SERVICE host on the backbone. -/
def shake : HandshakeIn :=
  ⟨1000000100, 3, 0, 47310, true, [.other 0x1301, .aes256GcmSha384], [.secp384r1], [.ecdsaSecp384r1Sha384], true, true, 2⟩

/-- `on` with Ethernet port 0 enabled. -/
def net : State := { on with eth := { on.eth with port := upd on.eth.port 0 fun x => { x with enF := true } } }

theorem wit_sessionHandshake : net.netUp = true ∧ net.portOpen 0 = true ∧ shake.udpPort = net.img.udpPort ∧ shake.acceptable = true ∧
    lookupN net.hst.shakes 3 = none ∧ net.freeSess = some 0 ∧ ((after (.sessionHandshake shake) net).sess 0).level = 2 ∧
    (after (.sessionHandshake { shake with complete := false }) net).hst.shakes = [(3, 1000000100)] ∧
    (after (.sessionHandshake { shake with udpPort := 47311 }) net).hst.sess = net.hst.sess := by decide

theorem wit_sessionSurplus : let s := { net with hst := { net.hst with sess := Vector.replicate 8 { Sess.reset with isOpen := true } } }
    s.freeSess = none ∧ (after (.sessionHandshake shake) s).hst.surplus = [3] := by decide

theorem wit_handshakeTimeout : let s := { net with hst := { net.hst with shakes := [(3, 1000000100)] } }
    lookupN s.hst.shakes 3 = some 1000000100 ∧ (after (.handshakeTimeout 6000000100 3) s).hst.shakes = [] ∧
    (after (.handshakeTimeout 6000000099 3) s).hst.shakes = [(3, 1000000100)] ∧
    (after (.handshakeTimeout 6000000099 4) s).hst.shakes = s.hst.shakes := by decide

theorem wit_dtlsClose : host.netUp = true ∧ (host.sess 0).isOpen = true ∧ (rd host.hst.ring 0).isOpen = true ∧
    (after (.dtlsClose 1000000100 0) host).out = [.closed 0] ∧ ((after (.dtlsClose 1000000100 0) host).sess 0) = Sess.reset ∧
    (after (.dtlsClose 1000000100 1) host).hst.sess = host.hst.sess := by decide

theorem wit_idleClose : (host.sess 0).last + host.img.idleClose = 30000000000 ∧
    ((after (.idleClose 30000000000 0) host).sess 0).isOpen = false ∧ ((after (.idleClose 29999999999 0) host).sess 0).isOpen = true := by decide

/-- A message of 24 bytes: header VERSION `v`, operation `op`, SEQ `q`. -/
def message (v op : Byte) (q : Nat) : List Byte := bytes 24 [(0, [0x58, 0x52, v]), (6, [op]), (8, leBytes 4 7), (12, leBytes 4 q)]

theorem wit_badMessage : host.netUp = true ∧ (after (.badMessage (.dtls 1000000100)) host).hst.badMsg = 1 ∧
    (Header.ofBytes (message 1 3 1)).matches (message 1 3 1) = true ∧ seqOk (host.sess 0) (Header.ofBytes (message 1 3 0)).seq = false ∧
    (after (.badMessage (.message 1000000100 0 false (message 1 3 0))) host).hst.badMsg = 1 ∧
    ((after (.badMessage (.message 1000000100 0 false (message 1 3 0))) host).sess 0).last = 1000000100 := by decide

theorem wit_badHeader : (Header.ofBytes (message 2 3 1)).fault = some stVERSION ∧ (Header.ofBytes (message 1 3 1)).fault = none ∧
    listedOps.contains (Header.ofBytes (message 1 6 1)).op = false ∧
    host.heard ⟨0, false, 0, 7, 1, true, 1000000100⟩ = true ∧
    (after (.badMessage (.message 1000000100 0 false (message 2 3 1))) host).out = [.completion 0 0 7 1 3 stVERSION false []] ∧
    (after (.badMessage (.message 1000000100 0 false (message 1 6 1))) host).out = [.completion 0 0 7 1 6 stBADOPCODE false []] := by decide

/-- `host` before its HELLO. -/
def mute : State := { host with hst := { host.hst with sess := upd host.hst.sess 0 fun x => { x with hello := false, agreed := 0 } } }

theorem wit_hello : mute.ctrlReady rc false = true ∧ (0x8001 : BitVec 256).getLsbD 0 = true ∧ 1200 ≤ (1200 : W16).toNat ∧
    ((after (.hello rc 0x8001 1200) mute).sess 0).agreed = 0x8001 := by decide

theorem wit_ping : host.ctrlReady rc true = true ∧ (after (.ping rc) host).clk.opt = 1000000100 := by decide

theorem wit_ringOpen : host.ctrlReady rc true = true ∧ (1 : Byte).toNat ≤ 1 ∧ (host.sess 0).agreed.getLsbD 1 = true ∧
    (512 : W16).toNat ≤ 512 ∧ host.ringWanted (0xFFFF : W16).toNat = some 1 ∧
    (rd (after (.ringOpen rc 0xFFFF 1 512) host).hst.ring 1).ordered = true := by decide

theorem wit_ringClose : host.ctrlReady rc true = true ∧ (rd host.hst.ring 0).isOpen = true ∧ (rd host.hst.ring 0).sess = rc.sess ∧
    (rd host.hst.ring 0).closing = none ∧ host.hst.ops = [] ∧ (rd (after (.ringClose rc 0) host).hst.ring 0).isOpen = false := by decide

theorem wit_bye : host.ctrlReady rc true = true ∧ host.rcd.freezers = [] ∧ ((after (.bye rc) host).sess 0).isOpen = false := by decide

theorem wit_regRead : host.ready r0 0 0 = true ∧ (∀ x ∈ addrRun (0x240 : Word).toNat 1, host.readStatus x = none) ∧
    (after (.regRead r0 0x240 1) host).out.length = 1 := by decide

theorem wit_regBatchRead : host.ready r0 0 2 = true ∧ [(0x240 : Word)].all (fun x => host.readStatus x.toNat == none) = true ∧
    (after (.regBatchRead r0 [0x240]) host).clk.opt = 1000000100 := by decide

theorem wit_regWrite : host.ready r0 (writeLevel (addrRun (0x240 : Word).toNat 1)) 0 = true ∧
    checkWrites r0 (host.admitted r0 0x0011) ((addrRun (0x240 : Word).toNat 1).zip [(51300 : Word)]) = none ∧
    (after (.regWrite r0 0x240 [51300]) host).grp.shadow = [(0x240, 51300)] ∧
    (checkWrites r0 (host.admitted r0 0x0011) ((addrRun (0x240 : Word).toNat 1).zip [(49 : Word)])).isSome = true ∧
    (after (.regWrite r0 0x240 [49]) host).grp = host.grp := by decide

theorem wit_regBatchWrite : host.ready r0 (writeLevel [0x240]) 2 = true ∧
    checkWrites r0 (host.admitted r0 0x0014) [(0x240, 51300)] = none ∧
    (after (.regBatchWrite r0 [(0x240, 51300)]) host).grp.shadow = [(0x240, 51300)] := by decide

theorem wit_regModify : shadowed.ready r0 (writeLevel [(0x240 : Word).toNat]) 0 = true ∧ (findAddr 0x240).isSome = true ∧
    (shadowed.admitted r0 0x0012).writeStatus r0 0x240 (200 + 1024 * 50) = none ∧
    (after (.regModify r0 0x240 0x3FF 200) shadowed).grp.shadow = [(0x240, 200 + 1024 * 50)] := by decide

theorem wit_tableDirRead : lhost.ready r0 0 3 = true ∧ 1 ≤ (64 : W16).toNat ∧
    28 + 24 * min (64 : W16).toNat (lhost.img.tables.length - 0) ≤ (lhost.sess 0).maxMsg := by decide

theorem wit_tableRead : smHost.ready r0 0 3 = true ∧ (smHost.img.body (0x0510 : W16).toNat).map List.length = some 64 ∧
    24 + (4 : Word).toNat ≤ (smHost.sess 0).maxMsg ∧
    (after (.tableRead r0 0x0510 0 4) smHost).out = [.completion 0 0 1 1 0x0031 stOK false [2, 0, 1, 0]] := by decide

theorem wit_subscribe : host.ready r0 0 5 = true ∧ instanceOk 1 0 = true ∧ (host.sess 0).agreed.getLsbD 6 = true ∧
    (host.hst.subs.filter fun k => k.sess == r0.sess).length < 32 ∧
    host.envRate + 1000 * host.streamRate 1 0 / 1 ≤ 400 * 3600000 ∧
    (after (.subscribe r0 1 1 1 0) host).hst.nextSub = 2 := by decide

theorem wit_unsubscribe : let s := { host with hst := { host.hst with subs := [⟨7, 0, 1, false, 1, 0, 0, 0⟩] } }
    s.ready r0 0 5 = true ∧ s.hst.subs.any (fun k => k.id == 7 && k.sess == r0.sess) = true ∧
    (after (.unsubscribe r0 7) s).hst.subs = [] := by decide

theorem wit_tokenChallenge : host.ready r0 2 9 = true ∧ (after (.tokenChallenge r0) host).hst.draws = 1 := by decide

/-- `host` with a nonce outstanding. -/
def nonced : State :=
  { host with hst := { host.hst with sess := upd host.hst.sess 0 fun x => { x with nonce := some ⟨List.replicate 16 5, 1000000000⟩ } } }

theorem wit_tokenPresent : nonced.ready r0 2 9 = true ∧ (List.replicate 224 (0 : Byte)).length = 224 ∧
    (nonced.sess 0).nonce = some ⟨List.replicate 16 5, 1000000000⟩ ∧
    nonced.tokenOk (List.replicate 16 5) (List.replicate 224 0) true = false ∧
    ((after (.tokenPresent r0 (List.replicate 224 0) true) nonced).sess 0).nonce = none := by decide

/-- A token of both actions for `nonced`, and the state with the owner certificate that it names. -/
def token : List Byte :=
  bytes 224 [(0, [0x54, 0x58, 0x54, 0x4B, 1, 0, 3, 0]), (16, List.replicate 16 5), (80, List.replicate 48 9)]
def owned : State := { nonced with flash := { nonced.flash with ownerCert := some (List.replicate 48 9) } }

/-- Whether a signature verifies is a free value; where it does, the token is accepted. -/
theorem wit_tokenAccepted (h : Config.sigOk (List.replicate 48 9) (span token 0 128) (span token 128 96) = true) :
    owned.tokenOk (List.replicate 16 5) token false = true := by
  have e : owned.tokenOk (List.replicate 16 5) token false =
      ((true && Config.sigOk (List.replicate 48 9) (span token 0 128) (span token 128 96)) && true) := by rfl
  rw [e, h]; rfl

theorem wit_nonceExpiry : (nonced.sess 0).nonce = some ⟨List.replicate 16 5, 1000000000⟩ ∧
    ((after (.nonceExpiry 301000000000 0) nonced).sess 0).nonce = none ∧
    ((after (.nonceExpiry 300999999999 0) nonced).sess 0).nonce = some ⟨List.replicate 16 5, 1000000000⟩ := by decide

theorem wit_tokenGrantExpiry : let s := { host with hst := { host.hst with sess := upd host.hst.sess 0 fun x => { x with grant := [⟨3, 5000000000⟩] } } }
    ((after (.tokenGrantExpiry 5000000000 0) s).sess 0).grant = [] ∧
    ((after (.tokenGrantExpiry 4999999999 0) s).sess 0).grant = [⟨3, 5000000000⟩] := by decide

theorem wit_timeSetCvtSet : host.ready r0 1 13 = true ∧ host.clk.running = true ∧ host.tim.dvtSet = false ∧
    host.tim.leapGnss = none ∧ host.tim.ptp.utcOffset = none ∧ (after (.timeSetCvtSet r0 9) host).tim.cmds = [⟨1, 0, 9, r0⟩] ∧
    (after (.timeSetAiding r0 9) host).tim.cmds = [⟨3, 0, 9, r0⟩] ∧ (after (.timeSetLeap r0 18) host).tim.cmds = [⟨4, 18, 0, r0⟩] := by decide

theorem wit_timeSetCvtFollow : let s := { host with tim := { host.tim with dvtSet := true } }
    s.ready r0 1 13 = true ∧ s.tim.dvtSet = true ∧ (after (.timeSetCvtFollow r0) s).tim.cmds = [⟨2, 0, 0, r0⟩] := by decide

/-- A NAV POLICY with correction source 0 of KIND RONREX. -/
def navTable : Table := policy 0x0601 [(2, bytes 24 [(0, [1])])]

/-- An RTCM frame of message type 1005 with no body but the type, its CRC-24Q wrong. -/
def badFrame : List Byte := [0xD3, 0, 2, 0x3E, 0xD0, 0, 0, 0]

theorem wit_rtcmIn : let s := withTables [navTable] host
    s.ready r0 1 12 = true ∧ (List.range 2).find? (fun i => s.img.corrKind i == 1) = some 0 ∧ s.region rNAV ≠ .frozen ∧
    (deframe badFrame.length badFrame).bad = 1 ∧ (after (.rtcmIn r0 [0x55]) s).nav = s.nav := by decide

theorem wit_rtcmFrame : let s := { on with nav := { on.nav with rtcm := upd on.nav.rtcm 1 fun x => { x with waiting := [[0xFF, 0xF0]] } } }
    (rd s.nav.rtcm 1).waiting = [[0xFF, 0xF0]] ∧ s.runs rNAV = true ∧ msmOf (msgBits [0xFF, 0xF0] 0 12) = none ∧
    msgBits [0xFF, 0xF0] 0 12 ∉ [1005, 1006, 1033, 1230, 1019, 1020, 1042, 1044, 1046] ∧
    (rd (after (.rtcmFrame 1000000100 1) s).nav.rtcm 1).unsup = 1 ∧
    (after (.rtcmFrame 1000000100 0) s).nav = s.nav := by decide

theorem wit_hostSilenceExpiry : let s := { host with hst := { host.hst with present := true, tTick := 499990000 } }
    s.hst.present = true ∧ s.clk.running = true ∧ s.hst.tTick + s.img.hostSilence = s.clk.tickOpt ∧ s.region rCTL ≠ .frozen ∧ s.netUp = true ∧
    (after (.hostSilenceExpiry 1100000000) s).hst.expiryCnt = 1 ∧
    (after (.hostSilenceExpiry 1100000000) { s with hst := { s.hst with tTick := 499990001 } }).hst.present = true := by decide

theorem wit_hostReturn : let s := { host with hst := { host.hst with heard := some 999989999 } }
    s.hst.present = false ∧ s.hst.heard = some 999989999 ∧ 999989999 < s.clk.tickOpt ∧ s.netUp = true ∧
    (after (.hostReturn 1000000100) s).hst.present = true ∧ (after (.hostReturn 1000000100) host).hst.present = false := by decide

/-! Sensors, flow and loss (06, 07). -/

/-- The conversions of one image: every input at 1 V but AIN23, at 7.0000 V. -/
def conv : ConvIn :=
  { opt := 1000030000, ain := List.replicate 23 [10000, 10000, 10000, 10000] ++ [[70000, 70000, 70000, 70000]],
    sup := List.replicate 4 [50000, 50000, 50000, 50000], supMa := [1, 1, 1, 1], din := List.replicate 16 [0, 0, 0, 0, 0], 
    ts := List.replicate 16 none, codes := List.replicate 16 [] }

theorem wit_inputImagePublish : conv.wf = true ∧ on.runs rSNS = true ∧ on.ainMode 23 ≠ 0x11 ∧ (rd on.sns.ain 23).shuntOff = none ∧
    ((on.ainLimits 23).2 : Int) * (meanUnits (on.ainMode 23) [70000, 70000, 70000, 70000] (conv.sup.getD (on.ainSupply 23) [])).den
      < (meanUnits (on.ainMode 23) [70000, 70000, 70000, 70000] (conv.sup.getD (on.ainSupply 23) [])).num ∧
    on.cutTick 1000030000 = some 1 ∧ on.sns.cut ≠ some 1000030000 ∧ (after (.inputImagePublish conv) on).sns.mailSeq = 1 ∧
    (after (.inputImagePublish { conv with opt := 1000030001 }) on).sns.mailSeq = 0 := by decide

theorem wit_measFramePublish : let s := { on with sns := { on.sns with next := some [1, 2], haveFrame := true, frameSeq := 0xFFFFFFFF } }
    s.sns.next = some [1, 2] ∧ s.runs rSNS = true ∧ s.sns.haveFrame = true ∧ on.sns.next = none ∧ (after (.measFramePublish 1000000100) on).sns = on.sns := by decide

theorem wit_flowSample : on.runs rSNS = true ∧ on.flw.calState ≠ .taring ∧
    (after (.flowSample 1000000100 ⟨fZero, 1000⟩ ⟨fZero, 1000⟩) on).flw.samples = 1 ∧
    (after (.flowSample 1000000100 ⟨fZero, 1000⟩ ⟨fZero, 1000⟩) State.reset).flw = State.reset.flw := by decide

theorem wit_imuSample : on.runs rSNS = true ∧ (after (.imuSample 1000000100 (List.replicate 6 fOne) true) State.reset).sns = State.reset.sns ∧
    (after (.imuSample 1000000100 (List.replicate 6 fOne) false) on).sns.imu.valid = false := by decide

theorem wit_imuTimeout : let s := { on with sns := { on.sns with imu := { on.sns.imu with valid := true, last := 1000000000 } } }
    s.runs rSNS = true ∧ max s.sns.imu.last s.sns.start + 5000000 = 1005000000 ∧
    (after (.imuTimeout 1005000000) s).sns.imu.valid = false ∧ (after (.imuTimeout 1004999999) s).sns.imu.valid = true := by decide

/-- A PINMAP: AIN0 in the 4 mA to 20 mA mode, FIN22 quadrature A. -/
def pinTable : Table := { id := 1, kind := kPinmap, ver := 1,
                             body := leBytes 2 2 ++ leBytes 2 0 ++ [2, 69, 0x12, 0, 0, 0, 0, 0] ++ [2, 115, 0x23, 0, 0, 0, 0, 0] }

/-- `host` with it. -/
def pins : State := withTables [pinTable] host

theorem wit_shuntDisconnect : pins.runs rSNS = true ∧ pins.ainMode 0 = 0x12 ∧ (rd pins.sns.ain 0).shuntOff = none ∧
    (rd (after (.shuntDisconnect 1000000100 0) pins).sns.ain 0).shuntOff = some 1000000100 ∧
    (after (.shuntDisconnect 1000000100 1) pins).sns = pins.sns := by decide

theorem wit_shuntReconnect : let s := { pins with sns := { pins.sns with ain := upd pins.sns.ain 0 fun c => { c with shuntOff := some 500 } } }
    (rd s.sns.ain 0).shuntOff = some 500 ∧ (rd (after (.shuntReconnect 1000000500 0) s).sns.ain 0).shuntOff = none ∧
    (rd (after (.shuntReconnect 1000000499 0) { s with clk := { s.clk with opt := 0 } }).sns.ain 0).shuntOff = some 500 ∧
    (after (.shuntReconnect 1000000500 1) s).sns = s.sns := by decide

theorem wit_finZeroTimeout : let s := { on with sns := { on.sns with fin := upd on.sns.fin 23 fun x => { x with last := 500 } } }
    s.runs rSNS = true ∧ (rd s.sns.fin 23).last + s.snsField 2 12 23 (fun b => u16 b 2) 2000 * 1000000 = 2000000500 ∧
    (rd (after (.finZeroTimeout 2000000500 23) s).sns.fin 23).timedOut = true ∧
    (rd (after (.finZeroTimeout 2000000499 23) s).sns.fin 23).timedOut = false := by decide

theorem wit_finEdge : pins.runs rSNS = true ∧ pins.finQuad (22 / 2 * 2) = true ∧
    (rd (after (.finEdge 1000000100 22 true false) pins).sns.fin 22).count = 1 ∧
    (rd (after (.finEdge 1000000100 23 true false) pins).sns.fin 22).count = -1 ∧
    (rd (after (.finEdge 1000000100 23 true true) pins).sns.fin 22).errs = 1 ∧
    (after (.finEdge 1000000100 22 true false) State.reset).sns = State.reset.sns := by decide

theorem wit_finPosClear : pins.ready r0 (writeLevel [0x20580]) 0 = true ∧ pins.blockShut 2 = false ∧ (0xC00000 : Word) &&& 0xFF000000 = 0 ∧
    pins.finQuad 22 = true ∧ pins.finQuad 23 = false ∧ (rd (after (.finPosClear r0 0xC00000) pins).sns.fin 22).posClr = true := by decide

theorem wit_sup5Trip : let s := { on with sns := { on.sns with cut := some 999980000, sup := upd on.sns.sup 3 fun c => { c with live := .limit, limitAt := some 998000100 } } }
    s.runs rSNS = true ∧ s.inReset rSNS 0 = false ∧ (rd s.sns.sup 3).live = .limit ∧ (rd s.sns.sup 3).limitAt = some 998000100 ∧
    (rd (after (.sup5Trip 1000000100 3) s).sns.sup 3).trips = 1 ∧ (rd (after (.sup5Trip 1000000100 2) s).sns.sup 2) = rd s.sns.sup 2 := by decide

theorem wit_sup5Retry : let s := { on with sns := { on.sns with sup := upd on.sns.sup 3 fun c => { c with live := .tripped, tripAt := 500 } } }
    (rd s.sns.sup 3).live = .tripped ∧ (rd (after (.sup5Retry 1000000500 3) s).sns.sup 3).live = .on ∧
    (rd (after (.sup5Retry 1000000499 3) { s with clk := { s.clk with opt := 0 } }).sns.sup 3).live = .tripped := by decide

theorem wit_calStart : host.ready r0 (writeLevel [0x30020]) 0 = true ∧ host.blockShut 3 = false ∧ (5 : Word) &&& 0xFFFFFFF8 = 0 ∧
    field 1 0 3 = 1 ∧ (after (.calStart r0 1) host).flw.calCmds = [.start] := by decide
theorem wit_calStop : field 2 0 3 = 2 ∧ (after (.calStop r0 2) host).flw.calCmds = [.stop] := by decide
theorem wit_calEnter : field 3 0 3 = 3 ∧ (after (.calEnter r0 3) host).flw.calCmds = [.enter] := by decide
theorem wit_calAbort : field 4 0 3 = 4 ∧ (after (.calAbort r0 4) host).flw.calCmds = [.abort] := by decide
theorem wit_tare : field 5 0 3 = 5 ∧ (after (.tare r0 5) host).flw.calCmds = [.tare] := by decide

theorem wit_calBoundary : on.flw.calState = .idle ∧ (on.calCommand .start).flw.calState = .running ∧
    ((on.calCommand .start).calCommand .stop).flw.calState = .stopped ∧
    (((on.calCommand .start).calCommand .stop).calCommand .enter).flw.calState = .idle := by decide

theorem wit_tareComplete : let s := { on with flw := { on.flw with calState := .taring, tareAt := 0, tareBad := true }, sns := { on.sns with frameOpt := 5000000000 } }
    s.flw.calState = .taring ∧ s.sns.frameOpt = 5000000000 ∧
    s.flw.tareAt + s.flowField (fun b => u16 b 24) 5 * 1000000000 = 5000000000 ∧ s.flw.tareBad = true ∧
    (after (.tareComplete 5000000000) s).flw.result = 0x07 ∧ (after (.tareComplete 4999999999) s).flw.calState = .taring := by decide

/-- A loss channel 0 with class map 0x0310. -/
def lossTables : List Table :=
  [policy 0x0301 [(3, bytes 256 [(0, leBytes 2 0x0310)])], { id := 0x0310, kind := kClassmap, ver := 1, body := bytes 1056 [] }]

/-- `on` with it in RUN. -/
def losing : State :=
  let s := withTables lossTables on
  { s with flw := { s.flw with ls := upd s.flw.ls 0 fun x => { x with enF := true, counting := true, fault := false } } }

theorem wit_lossHit : losing.runs rSNS = true ∧ (rd losing.flw.ls 0).counting = true ∧ (rd losing.flw.ls 0).fault = false ∧
    (losing.classMap 0).isSome = true ∧ losing.hitStarts 0 ⟨1000000100, [], [8191, 40]⟩ = true ∧
    losing.hitSat 0 ⟨1000000100, [], [8191, 40]⟩ = true ∧
    (rd (after (.lossHit 0 ⟨1000000100, [], [8191, 40]⟩) losing).flw.ls 0).satCnt = 1 ∧
    (after (.lossHit 0 ⟨1000000100, [0], [20]⟩) losing).flw = losing.flw ∧
    (rd (after (.lossHit 0 ⟨1000000100, [], [8191, 40]⟩) on).flw.ls 0).cnt = (rd on.flw.ls 0).cnt := by decide

theorem wit_lossInputFault : losing.runs rSNS = true ∧ (rd losing.flw.ls 0).enF = true ∧ (rd losing.flw.ls 0).fault = false ∧
    (rd (after (.lossInputFault 1000000100 0) losing).flw.ls 0).lastErr = 0x01 ∧
    (rd (after (.lossInputFault 1000000100 0) (losing.updLs 0 fun x => { x with fault := true, inState := some 5 })).flw.ls 0).inState = none ∧
    (after (.lossInputFault 1000000100 0) State.reset).flw = State.reset.flw := by decide

theorem wit_lossInputRecover : let s := after (.lossInputFault 1000000100 0) losing
    (rd s.flw.ls 0).fault = true ∧ (rd s.flw.ls 0).lastErr = 0x01 ∧
    (rd (after (.lossInputRecover 2000000100 0) s).flw.ls 0).inState = some 2000000100 ∧
    (after (.lossInputRecover 2000000100 0) losing).flw = losing.flw := by decide

theorem wit_lossCntClear : host.ready r0 (writeLevel [0x301C0]) 0 = true ∧ host.blockShut 3 = false ∧ (0x8000 : Word) &&& 0xFFFF0000 = 0 ∧
    (rd (after (.lossCntClear r0 0x8000) { host with flw := { host.flw with ls := upd host.flw.ls 15 fun x => { x with satCnt := 4 } } }).flw.ls 15).satCnt = 0 := by
  decide

theorem wit_lossSpectrumPublish : let s := { on with flw := { on.flw with specFrames := 100, specLast := true } }
    s.flw.specWait = [] ∧ s.flw.specFrames ≠ 0 ∧ s.flw.specLast = true ∧ (after (.lossSpectrumPublish 1000000100) s).flw.specFrames = 0 ∧
    (after (.lossSpectrumPublish 1000000100) on).flw = on.flw := by decide

/-! The GNSS receiver (10). -/

/-- A wanted GPS L1 C/A satellite. -/
def sky : SkyItem := { sig := 0x01, sv := 7, elev := none, hot := false }

/-- `on` with channel 0 enabled and an allocation due. -/
def due : State := (on.updNch 0 fun c => { c with enF := true }).updNav fun v => { v with allocDue := true }

theorem wit_navAllocator : on.runs rNAV = true ∧ on.img.baseline = 0 ∧ (on.begin 1000000100).skyWanted sky = true ∧
    due.nav.freeCh = some 0 ∧ due.nav.allocDue = true ∧ bloodhound sky.sig = true ∧
    due.assigned ⟨sky.sig, sky.sv, false, sky.elev, sky.hot⟩ = false ∧ due.inReset rNAV 25 = false ∧
    (after (.navAllocator 1000000100 [sky]) State.reset).nav = State.reset.nav := by decide

/-- `on` with tracking channel 383 changed. -/
def chan (f : NavCh → NavCh) : State := on.updNch 383 f

/-- What channel 383 measures. -/
def meas : MeasIn := { (default : MeasIn) with ch := 383, cn0 := 2000, sync := true }

theorem wit_measurementEpoch : let s := (chan fun c => { c with st := .track, sig := 1, sv := 7, enF := true }).updNav fun v => { v with en := 2 ^ 383 }
    s.runs rNAV = true ∧ s.nav.epochAt ≠ some 999990000 ∧ s.tim.dvtSet = false ∧ s.clk.tick % 20 = 0 ∧ s.clk.tickOpt = 999990000 ∧
    s.nav.en.getLsbD 383 = true ∧ (rd s.nav.ch 383).st = .track ∧ s.constMask.testBit 0 = true ∧ s.nav.en.getLsbD 0 = false ∧
     meas.ch = 383 ∧
    (after (.measurementEpoch 999990000 [meas] [] [0, 0]) State.reset).nav = State.reset.nav := by decide

/-- A pass that searches for channel 383. -/
def passed : State :=
  (chan fun c => { c with st := .search, sig := 1, sv := 7 }).updNav fun v =>
    { v with rf := Vector.replicate 6 { on.nav.rf[0] with lock := true }, pass := some [{ (default : Search) with ch := 383, sig := 1, sv := 7, left := 8192 }] }

theorem wit_acqPassEnd : passed.runs rNAV = true ∧ (passed.nav.pass.map fun l => l.map fun q => (q.ch, q.left)) = some [(383, 8192)] ∧
    (rd passed.nav.ch 383).st = .search ∧ passed.nav.passAt + 1000000 * searchDwell 1 ≤ 1000000100 ∧ passed.inReset rNAV 24 = false ∧
    (rd (after (.acqPassEnd 1000000100 [(383, ⟨0, 3, 4⟩)]) passed).nav.ch 383).st = .pullin ∧
    (rd (after (.acqPassEnd 1000000100 []) passed).nav.ch 383).st = .idle ∧ (after (.acqPassEnd 1000000100 []) on).nav = on.nav := by decide

theorem wit_pullinLock : let s := chan fun c => { c with st := .pullin, lockRun := 20 }
    s.runs rNAV = true ∧ (rd s.nav.ch 383).st = .pullin ∧ 20 ≤ (rd s.nav.ch 383).lockRun ∧
    (rd (after (.pullinLock 1000000100 383) s).nav.ch 383).st = .track ∧
    (after (.pullinLock 1000000100 383) on).nav = on.nav := by decide

theorem wit_pullinTimeout : let s := chan fun c => { c with st := .pullin, since := 800000100 }
    s.runs rNAV = true ∧ (rd s.nav.ch 383).st = .pullin ∧ (rd s.nav.ch 383).since + 200000000 = 1000000100 ∧
    (rd (after (.pullinTimeout 1000000100 383) s).nav.ch 383).lastErr = 2 ∧
    (rd (after (.pullinTimeout 1000000099 383) s).nav.ch 383).st = .pullin := by decide

theorem wit_lossOfLock : let s := chan fun c => { c with st := .track, lowRun := 200 }
    s.runs rNAV = true ∧ (rd s.nav.ch 383).st = .track ∧ 200 ≤ (rd s.nav.ch 383).lowRun ∧
    (rd (after (.lossOfLock 1000000100 383) s).nav.ch 383).st = .coast ∧
    (after (.lossOfLock 1000000100 383) on).nav = on.nav := by decide

theorem wit_coastSearch : let s := chan fun c => { c with st := .coast, sig := 1, sv := 7, since := 900000100 }
    s.runs rNAV = true ∧ (rd s.nav.ch 383).st = .coast ∧ (rd s.nav.ch 383).searched = true ∧ s.nav.whip = .normal ∧
    (rd s.nav.ch 383).since + 100000000 * ((rd s.nav.ch 383).rounds + 1) = 1000000100 ∧
    (rd (after (.coastSearch 1000000100 383) s).nav.ch 383).rounds = 1 ∧
    (rd (after (.coastSearch 1000000099 383) s).nav.ch 383).rounds = 0 := by decide

theorem wit_coastTimeout : let s := chan fun c => { c with st := .coast, since := 0 }
    s.runs rNAV = true ∧ (rd s.nav.ch 383).st = .coast ∧ s.nav.whip = .normal ∧
    (rd (after (.coastTimeout 2000000000 383) s).nav.ch 383).st = .idle ∧
    (rd (after (.coastTimeout 1999999999 383) s).nav.ch 383).st = .coast := by decide

theorem wit_solutionEpoch : (if on.nav.whip = .normal then on.onGrid 2000000000 on.solPeriod else on.nav.burst.isSome) = true ∧
    on.runs rNAV = true ∧ on.inReset rNAV 25 = false ∧ on.nav.solOpt ≠ 2000000000 ∧ (default : SolIn).sats.length < 4 ∧ on.img.baseline = 0 ∧
    (after (.solutionEpoch 2000000000 default) on).nav.solMode = 0 ∧ (after (.solutionEpoch 2000000000 default) on).nav.solOpt = 2000000000 ∧
    (after (.solutionEpoch 2000000001 default) on).nav = on.nav := by decide

theorem wit_solutionBurst : let s := on.updNav fun v => { v with whip := .whippet, burst := some 2040000000 }
    s.nav.whip ≠ .normal ∧ (after (.solutionEpoch 2000000001 default) s).nav.burst = none := by decide

theorem wit_whippetRequest : host.ready r0 (writeLevel [0x60000]) 0 = true ∧ host.blockShut 6 = false ∧ (3 : Word) &&& 0xFFFFFFFC = 0 ∧
    field 1 0 2 = 1 ∧ host.nav.whip = .normal ∧ (after (.whippetRequest r0 1) host).nav.whip = .whippet := by decide

theorem wit_whippetNormal : let s := host.updNav fun v => { v with whip := .whippet }
    field 2 0 2 = 2 ∧ s.nav.whip = .whippet ∧ s.ready r0 (writeLevel [0x60000]) 0 = true ∧ s.blockShut 6 = false ∧
    (after (.whippetNormal r0 2) host).nav.whip = .normal := by decide

theorem wit_coldRestart : field 3 0 2 = 3 ∧ 2 ≤ (host.sess 0).level ∧
    (after (.coldRestart r0 3) (host.updNav fun v => { v with almanac := true })).nav.almanac = false := by decide

theorem wit_whippetBurst : let s := on.updNav fun v => { v with whip := .whippet }
    s.runs rNAV = true ∧ s.nav.whip ≠ .normal ∧ s.nav.burst = none ∧ s.onGrid 2000000000 1000000000 = true ∧
    (s.nav.ch.toList.any fun c => c.st == .search || c.st == .pullin) = false ∧
    (after (.whippetBurst 2000000000) s).nav.burst = some 2040000000 := by decide

theorem wit_whippetHoldEnd : let s := on.updNav fun v => { v with whip := .hold, holdSince := 0 }
    s.nav.whip = .hold ∧ s.nav.holdSince + s.img.holdS * 1000000000 ≤ 1000000100 ∧ s.pwr.ignOffSince = none ∧
    (after (.whippetHoldEnd 1000000100) s).nav.whip = .normal ∧
    (after (.whippetHoldEnd 1000000100) on).nav = on.nav := by decide

/-- `on` with antenna 1 changed. -/
def ant (f : AntSt → AntSt) : State := on.updNav fun v => { v with ant := upd v.ant 1 f }

theorem wit_antennaShort : let s := ant fun x => { x with bias := 2 }
    s.runs rNAV = true ∧ (rd s.nav.ant 1).bias ≠ 0 ∧ (rd (after (.antennaShort 1000000100 1 101) s).nav.ant 1).short = true ∧
    (rd (after (.antennaShort 1000000100 1 100) s).nav.ant 1).short = false := by decide

theorem wit_antennaRetry : let s := ant fun x => { x with bias := 0, short := true, shortAt := 100 }
    s.runs rNAV = true ∧ (rd s.nav.ant 1).short = true ∧ (rd s.nav.ant 1).shortAt + 1000000000 = 1000000100 ∧
    (rd (after (.antennaRetry 1000000100 1 100) s).nav.ant 1).short = false ∧
    (rd (after (.antennaRetry 1000000100 1 101) s).nav.ant 1).shortCnt = 1 ∧
    (after (.antennaRetry 1000000099 1 100) s).nav = s.nav := by decide

theorem wit_navChCntClear : host.ready r0 (writeLevel [0x60240 + 4 * 11]) 0 = true ∧ host.blockShut 6 = false ∧
    (rd (after (.navChCntClear r0 11 0x80000000) (host.updNch 383 fun c => { c with lolCnt := 7 })).nav.ch 383).lolCnt = 0 := by decide

/-! Time (11) and steering (12). -/

/-- `on` with its TIM block changed. -/
def tim (f : TimSt → TimSt) : State := { on with tim := f on.tim }

/-- DVT set, 4 s at OPT 1 s, LOCKED to source 2 (TIMEPULSE_IN). -/
def timed : State :=
  tim fun t => { t with dvtSet := true, dvtBase := 4000000000, optBase := 1000000000, st := .locked, src := 2,
                        srcs := put t.srcs 1 { (default : SrcSt) with qual := true, last := 1999950000, lastDvt := 5000000000, run := 5 } }

/-- The UTC parameters of a second without any. -/
def plain : SecondIn := { gnss := 0, gnssSec := some 1400000000, leap := none, leapNext := none }

theorem wit_timebaseSecond : timed.pwr.supply ≠ .off ∧ timed.dbg.phase = .run ∧ timed.tim.dvtSet = true ∧
    timed.onGrid 2000000000 1000000000 = true ∧ timed.tim.secAt ≠ some 2000000000 ∧ timed.chooseSrc = 0 ∧
    (after (.timebaseSecond 2000000001 plain) timed).tim = timed.tim := by decide

theorem wit_timebaseSet : let s := tim fun t => { t with srcs := put t.srcs 0 { (default : SrcSt) with qual := true } }
    s.tim.dvtSet = false ∧ s.chooseSrc = 1 ∧ s.srcSecond 1 1000000100 plain = true ∧
    (after (.timebaseSecond 1000000100 plain) s).tim.dvtSet = true ∧
    (after (.timebaseSecond 1000000100 plain) s).tim.dvtBase = 1400000000000000000 := by decide

/-- `timed` with GNSS qualified, in timebase state `x`. -/
def gnss (x : TimState) : State :=
  { timed with tim := { timed.tim with st := x, src := 1, srcs := put timed.tim.srcs 0 { (default : SrcSt) with qual := true } } }

theorem wit_timebaseError : (gnss .free).chooseSrc = 1 ∧ (gnss .free).srcErr 1 { plain with gnss := 10001 } = 10001 ∧
    (after (.timebaseSecond 2000000000 { plain with gnss := 10001 }) (gnss .free)).tim.st = .recovering ∧
    (after (.timebaseSecond 2000000000 plain) (gnss .recovering)).tim.st = .locked ∧
    (after (.timebaseSecond 2000000000 plain) (gnss .locked)).tim.st = .locked := by decide

theorem wit_sourceLost : (rd timed.tim.srcs 1).qual = true ∧ (rd timed.tim.srcs 1).last + 1500000000 ≤ 3500000000 ∧
    (rd (after (.sourceLost 3499950000 1) timed).tim.srcs 1).lossCnt = 1 ∧ (rd (after (.sourceLost 3499949999 1) timed).tim.srcs 1).qual = true ∧
    (after (.sourceLost 3499950000 2) { timed with dbg := { timed.dbg with phase := .frozen } }).tim = timed.tim := by decide

theorem wit_holdoverLimitExpiry : let s := tim fun t => { t with st := .holdover, holdSince := 1000000000 }
    s.tim.holdSince + s.img.holdLimit = 86401000000000 ∧ (after (.holdoverLimitExpiry 86401000000000) s).tim.st = .free ∧
    (after (.holdoverLimitExpiry 86400999999999) s).tim.st = .holdover := by decide

theorem wit_leapSecond : let s : State := { timed with tim := { timed.tim with leapNext := some (5, 19) } }
    s.leapDue 2000000000 = some 19 ∧ s.leapDue 1999999999 = none ∧ (after (.leapSecond 2000000000) s).tim.leapGnss = some 19 ∧
    (after (.leapSecond 1999999999) s).tim = s.tim := by decide

theorem wit_timepulseEdge : timed.dvtAt 2000000020 = 5000000020 ∧ (after (.timepulseEdge 2000000020) timed).tim.pulseSec = 5 ∧
    (after (.timepulseEdge 2000000020) timed).tim.pulseFirst = true ∧ (after (.timepulseEdge 2000000021) timed).tim.pulseCnt = 0 ∧
    (after (.timepulseEdge 2000000020) on).tim = on.tim := by decide

theorem wit_timepulseInEdge : let s : State := { timed with tim := { timed.tim with srcs := put timed.tim.srcs 1 { (default : SrcSt) with run := 4, last := 1000000000 } } }
    s.img.pulseInRises = true ∧ (rd s.tim.srcs 1).last + 1000100000 = 2000100000 ∧ (s.edgeLabel 2000100000).isSome = true ∧
    (rd (after (.timepulseInEdge 2000100000 true) s).tim.srcs 1).qual = true ∧ (rd (after (.timepulseInEdge 2000100005 true) s).tim.srcs 1).run = 0 ∧
    (after (.timepulseInEdge 2000100000 false) s).tim = s.tim := by decide

theorem wit_cableDelayWrite : host.ready r0 (writeLevel [0x70040]) 0 = true ∧ host.blockShut 7 = false ∧
    (0xB1E0 : Word) &&& 0xFFFF0000 = 0 ∧ (BitVec.ofNat 16 (0xB1E0 : Word).toNat).toInt = -20000 ∧
    (after (.cableDelayWrite r0 0xB1E0) host).tim.delayWant = -20000 ∧ (after (.cableDelayWrite r0 0xB1DF) host).tim.delayWant = 0 := by decide

theorem wit_timOptLatch : host.ready r0 0 0 = true ∧ host.blockShut 7 = false ∧
    (after (.timOptLatch r0) host).out.length = 1 := by decide

/-- `on` as a SLAVE with seven Syncs in a row. -/
def slave : State :=
  { tim fun t => { t with ptp := { t.ptp with port := 9 }, srcs := put t.srcs 2 { (default : SrcSt) with run := 7 } } with
    eth := { on.eth with pair := upd on.eth.pair 0 fun x => { x with active := 0 } } }

theorem wit_ptpSync : slave.ptpUp = true ∧ slave.img.clientTol = 1000 ∧
    (rd (after (.ptpSync 1000000100 ⟨1000, 400000000000000000⟩) slave).tim.srcs 2).qual = true ∧
    (rd (after (.ptpSync 1000000100 ⟨-1001, 400000000000000000⟩) slave).tim.srcs 2).qual = false ∧
    (after (.ptpSync 1000000100 ⟨0, 1⟩) on).tim = on.tim := by decide

theorem wit_ptpAnnounce : slave.img.ptpRole = 0 ∧ (after (.ptpAnnounce 1000000100 ⟨true, some 37⟩) slave).tim.ptp.port = 9 ∧
    (after (.ptpAnnounce 1000000100 ⟨false, none⟩) slave).tim.ptp.port = 4 ∧
    (after (.ptpAnnounce 1000000100 ⟨true, some 37⟩) State.reset).tim = State.reset.tim := by decide

theorem wit_ptpMessageInterval : slave.runs rNET = true ∧ slave.dbg.phase = .run ∧ slave.img.ptpRole ≠ 3 ∧ (rd slave.eth.pair 0).active ≠ 2 ∧
    (after (.ptpMessageInterval 1000000100) slave).tim.ptp.rounds = 1 ∧
    (after (.ptpMessageInterval 1000000100) State.reset).tim = State.reset.tim := by decide

theorem wit_poseEpoch : on.runs rNAV = true ∧ on.inReset rNAV 25 = false ∧ on.poseDue 999990000 = true ∧ on.tim.pose.rcd = [] ∧
    (after (.poseEpoch 999990000 default) on).tim.pose.opt = 999990000 ∧ (after (.poseEpoch 999990001 default) on).tim = on.tim := by decide

/-- `on` with guidance on function 15 and the steering block changed. -/
def steer (f : StrSt → StrSt) : State :=
  { on with img := image [policy 0x0801 [(1, bytes 64 [(0, [15, 0, 0, 0, 0]), (52, [0xFF, 0xFF, 0xFF, 0xFF]), (60, [100, 0, 20, 0])])]],
            str := f on.str }

theorem wit_guidanceEpoch : (steer id).runs rSVC = true ∧ (steer id).img.steerMf = 15 ∧ (steer id).poseDue 999990000 = true ∧
    (steer id).str.epochAt ≠ some 999990000 ∧ (steer id).tim.pose.opt ≠ 999990000 ∧
    (after (.guidanceEpoch 999990000 true) (steer id)).str.lateRun = 1 ∧
    (after (.guidanceEpoch 999990001 true) (steer id)).str = (steer id).str := by decide

/-- `steer f` with the pose of the epoch at 999,990 µs. -/
def posed (f : StrSt → StrSt) : State := { steer f with tim := { on.tim with pose := { on.tim.pose with opt := 999990000 } } }

theorem wit_guidanceOnTime : (posed id).tim.pose.opt = 999990000 ∧ (posed id).str.st = .off ∧
    (posed fun t => { t with st := .ready, cmd := some true }).str.st = .ready ∧
    (after (.guidanceEpoch 999990000 false) (posed id)).str.lateRun = 0 := by decide

theorem wit_steeringTargetApply : let s := steer fun t => { t with pend := [⟨1, none, some 0x3F800000⟩] }
    s.runs rCTL = true ∧ s.clk.tick = 0 ∧ (1 : Nat) ≤ s.clk.tick + 1 ∧ (after .steeringTargetApply s).str.pend = [] ∧
    (after .steeringTargetApply (steer fun t => { t with pend := [⟨2, none, none⟩] })).str.pend = [⟨2, none, none⟩] ∧
    (after .steeringTargetApply State.reset).str = State.reset.str := by decide

theorem wit_steerLateDisengage : let s := steer fun t => { t with st := .engaged, lateRun := 5 }
    s.runs rSVC = true ∧ s.str.on = true ∧ (after (.steerLateDisengage 999990000) s).str.reason = 3 ∧
    (after (.steerLateDisengage 999990000) (steer fun t => { t with st := .engaged, lateRun := 4 })).str.st = .engaged := by decide

theorem wit_steerCoastTimeout : let s := steer fun t => { t with st := .coast, coastSince := 899990000 }
    s.str.coastSince + 1000000 * u16 s.img.guidance 60 = 999990000 ∧ s.poseDue 999990000 = true ∧ (after (.steerCoastTimeout 999990000) s).str.reason = 9 ∧
    (after (.steerCoastTimeout 999989999) s).str.st = .coast := by decide

theorem wit_steerTakeover : let s : State := { on with
      img := image [policy 0x0801 [(1, bytes 64 [(0, [15]), (62, [20])])]], str := { on.str with st := .engaged, takeRun := 2 } }
    s.str.on = true ∧ s.takeOver = true ∧ (after (.steerTakeover 999990000) s).str.reason = 1 ∧
    (after (.steerTakeover 999990000) (steer id)).str = (steer id).str := by decide

theorem wit_engage : host.ready r0 (writeLevel [0x80000]) 0 = true ∧ host.blockShut 8 = false ∧ field 1 0 2 = 1 ∧
    (after (.engage r0 1) host).str.cmd = some true := by decide

theorem wit_disengage : field 2 0 2 = 2 ∧ (after (.disengage r0 2) host).str.cmd = some false := by decide

/-! The yield mapper (13). -/

/-- `on` with the mapper changed. -/
def yld (f : YldSt → YldSt) : State := { on with yld := f on.yld }

/-- A pose of OPT 1.02 s, DVT unset, SEQ 5. -/
def poseRec : List Byte := bytes 76 [(0, [5]), (7, [0x40]), (8, leBytes 8 1020000000)]

theorem wit_yieldEntry : let s : State := { on with tim := { on.tim with pose := { on.tim.pose with rcd := poseRec } } }
    s.runs rSVC = true ∧ s.boot.noImage = false ∧ s.entryDue = true ∧ on.entryDue = false ∧
    (after (.yieldEntry 1020000000) on).yld.prev = none := by decide

/-- A boundary at 1 s that lowers the header. -/
def lowered : YldBound := { opt := 1000000000, lower := true, raised := false, working := true, pass := some 1000000000, field := 1, clear := none }

theorem wit_recordOpening : let s := yld fun y => { y with bounds := [lowered], lag := 100 }
    s.yld.bounds = [lowered] ∧ lowered.opt + s.yld.lag * tenMs = 2000000000 ∧ s.yld.openRec = none ∧
    (after (.recordOpening 1999999999) s).yld.bounds = [lowered] := by decide

/-- A complete record of no pass. -/
def done : YldRec := { (default : YldRec) with h0 := 1000000000, h1 := some 2000000000, f1 := some 3000000000, lag := 100 }

theorem wit_yieldRecordWrite : let s := yld fun y => { y with held := [done], lastFrame := 3000000000 }
    s.yld.frames = [] ∧ s.yld.isComplete 3000000000 done = true ∧ s.yld.isComplete 2999999999 done = false ∧ s.yld.marks = [] ∧
    done.pass = none ∧ done.changes = [] ∧ s.store.full = false ∧
    (after (.yieldRecordWrite 2999999999) s).yld.held = [done] := by decide

/-- The tail of a pass, 3 s to 5 s. -/
def tail : YldTail := { pass := 1000000000, raiseAt := 2000000000, start := 3000000000, stop := 5000000000, wet := 0, dry := 0 }

theorem wit_tailEnd : let s := yld fun y => { y with tails := [tail], lastFrame := 5000000000 }
    s.yld.frames = [] ∧ tail.stop ≤ s.yld.lastFrame ∧ (after (.tailEnd 4999999999) s).yld.tails = [tail] := by decide

/-- A lag sample of a LOWER at 1 s, its edge 2 s later, after the lag bounds 0 to 500 x 10 ms and a SETTLE of 500 ms. -/
def sampled (f : Opt) : State :=
  { yld fun y => { y with samples := [⟨true, 1000000000, false⟩], history := [{ (default : YldFrame) with opt := f, wet := (0x40A00000, true) }],
                          lastFrame := f } with
    grp := { on.grp with live := [(0x90104, 0x01F40000)] } }

theorem wit_lagSample : let s := { sampled 3000000000 with yld := { (sampled 3000000000).yld with history := [], lastFrame := 6000000000 } }
    s.yld.samples = [⟨true, 1000000000, false⟩] ∧ s.lagEdge ⟨true, 1000000000, false⟩ = none ∧
    (1000000000 : Nat) + s.lagMax * tenMs = s.yld.lastFrame ∧ (after (.lagSample 6000000000) s).yld.reject = 1 := by decide

theorem wit_lagAccepted : ((sampled 3000000000).lagEdge ⟨true, 1000000000, false⟩).isSome = true ∧
    (sampled 3000000000).lagQuiet ⟨true, 1000000000, false⟩ = true ∧
    ((3000000000 : Int) - 1000000000 - (sampled 3000000000).mapper (fun b => u16 b 24) 50 * tenMs ≤ 500 * tenMs) := by decide

theorem wit_rasterSave : (after (.rasterSave 1000000100) on).yld = on.yld ∧
    (after (.rasterSave 10000000000) (yld fun y => { y with fieldInForce := 1, raster := { y.raster with tiles := [⟨0, 0, 1, true⟩] } })).yld.raster.tiles
      = [⟨0, 0, 1, false⟩] := by decide

theorem wit_fieldSelect : host.ready r0 (writeLevel [0x9000C]) 0 = true ∧ host.blockShut 9 = false ∧
    (after (.fieldSelect r0 7) host).yld.field = 7 := by decide

theorem wit_clearRaster : field 1 0 2 = 1 ∧ (1 : Word) &&& 0xFFFFFFFC = 0 ∧ host.ready r0 (writeLevel [0x90010]) 0 = true ∧
    (after (.clearRaster r0 1) host).yld.clearWanted = some 0 := by decide

theorem wit_resetTotals : field 2 0 2 = 2 ∧
    (after (.resetTotals r0 2) { host with yld := { host.yld with totalWet := 0x40000000 } }).yld.totalWet = 0 := by decide

theorem wit_logTrim : host.ready r0 (writeLevel [0x90028]) 0 = true ∧
    (after (.logTrim r0 2) { host with store := { host.store with log := [(1, []), (2, [])] } }).store.log = [(2, [])] := by decide

/-- A file of one record. -/
def file (n : Nat) : TlgFile := { num := n, bin := [], xml := [], recs := 1, epoch := 0 }

theorem wit_tlgTrim : host.ready r0 (writeLevel [0x9002C]) 0 = true ∧
    (after (.tlgTrim r0 9) { host with store := { host.store with files := [file 1, file 2], lastFile := 2 },
                                       yld := { host.yld with fileOpen := true } }).store.files.map TlgFile.num = [2] := by decide

/-! Vision (14). -/

/-- A PORTS record: W 2, H 2, FRAME_US 1,000, MODE memory, one raw buffer, one output buffer, CUT_US 10. -/
def portRec : List Byte := bytes 64 [(3, [1]), (4, [2, 0, 2, 0]), (8, [0xE8, 3, 0, 0]), (13, [1, 1, 1]), (26, [0xFF, 0xFF]), (28, [10, 0])]

/-- `s` with a camera 0 of that record, enabled, changed by `f`. -/
def camera (f : Cam → Cam) (s : State) : State :=
  { s with img := image [policy 0x0A01 [(1, portRec)]],
           vis := { s.vis with en := 1, cam := upd s.vis.cam 0 fun c => f { c with enF := true } } }

/-- A frame of camera 0 that started at 1 s. -/
def frame : FrameJob := { (default : FrameJob) with cam := 0, cnt := 1, fs := 1000000000, memory := true }

theorem wit_camEnable : host.ready r0 (writeLevel [0xA0000]) 0 = true ∧ host.blockShut 0xA = false ∧ (1 : Word) &&& 0xFFFFFFC0 = 0 ∧
    ((camera id host).img.sect 0x0A01 0x0001).isSome = true ∧
    (rd (after (.camEnable r0 0) (camera (fun c => { c with cur := some frame, link := true }) host)).vis.cam 0).enF = true ∧
    (rd (after (.camEnable r0 0) (camera (fun c => { c with cur := some frame }) host)).vis.cam 0).enF = false ∧
    (rd (after (.camEnable r0 1) { camera id host with vis := host.vis }).vis.cam 0).starting = true := by decide

theorem wit_camCntClear : host.ready r0 (writeLevel [0xA0200]) 0 = true ∧ (0x20 : Word) &&& 0xFFFFFFC0 = 0 ∧
    host.blockShut 0xA = false := by decide

theorem wit_frameStart : (camera id on).runs rVIS = true ∧ (rd (camera id on).vis.cam 0).fault = false ∧ (rd (camera id on).vis.cam 0).cur = none ∧
    camMemory ((camera id on).camRec 0) = true ∧ u8 ((camera id on).camRec 0) 14 = 1 ∧
    (rd (after (.frameStart 1000000100 0) (camera id on)).vis.cam 0).rawUsed = 1 ∧
    (rd (after (.frameStart 1000000100 0) (camera (fun c => { c with rawUsed := 1 }) on)).vis.cam 0).dropBuf = 1 ∧
    (rd (after (.frameStart 1000000100 0) (camera (fun c => { c with initAt := 1000000101 }) on)).vis.cam 0).lastErr = 6 := by decide

theorem wit_frameEnd : let s := camera (fun c => { c with cur := some frame, rawUsed := 1 }) on
    s.runs rVIS = true ∧ frame.cam = 0 ∧ frame.fs + 2000 * camUs (s.camRec 0) = 1002000000 ∧
    (rd (after (.frameEnd 1000000100 0 { (default : CamFrame) with crcBad := true }) s).vis.cam 0).lastErr = 2 ∧
    (rd (after (.frameEnd 1000000100 0 { (default : CamFrame) with samples := [[[1, 2]]] }) s).vis.cam 0).lastErr = 3 ∧
    (rd (after (.frameEnd 1002000001 0 { (default : CamFrame) with samples := [[[1, 2], [3, 4]]] }) s).vis.cam 0).lastErr = 4 ∧
    (rd (after (.frameEnd 1002000000 0 { (default : CamFrame) with samples := [[[1, 2], [3, 4]], [[1, 2], [3, 4]]] }) s).vis.cam 0).lastErr = 5 ∧
    (rd (after (.frameEnd 1002000000 0 { (default : CamFrame) with samples := [[[1, 2], [3, 4]]] }) s).vis.pipe 0).ready.length = 1 := by decide

theorem wit_frameTimeout : let s := camera (fun c => { c with cur := some frame }) on
    (rd (after (.frameTimeout 1002000001 0) s).vis.cam 0).lastErr = 4 ∧ (rd (after (.frameTimeout 1002000000 0) s).vis.cam 0).cur = some frame := by decide

theorem wit_cameraLinkLoss : let s := camera (fun c => { c with link := true }) on
    s.runs rVIS = true ∧ s.vis.en.getLsbD 0 = true ∧ (rd s.vis.cam 0).fault = false ∧ (rd s.vis.cam 0).link = true ∧
    (rd (after (.cameraLinkLoss 1000000100 0) s).vis.cam 0).fault = true ∧
    (rd (after (.cameraLinkLoss 1999999999 0) (camera id on)).vis.cam 0).fault = false := by decide

theorem wit_cameraLinkRetry : let s := camera (fun c => { c with fault := true, lastLock := 100 }) on
    (rd s.vis.cam 0).lastLock + 1000000000 = 1000000100 ∧ (rd (after (.cameraLinkRetry 1000000100 0 true) s).vis.cam 0).fault = false ∧
    (rd (after (.cameraLinkRetry 1000000099 0 true) s).vis.cam 0).fault = true := by decide

theorem wit_i2cBurstLate : let s := camera (fun c => { c with burst := some 1000000000 }) on
    (rd (after (.i2cBurstLate 1000010000 0) s).vis.cam 0).lateCnt = 1 ∧ (rd (after (.i2cBurstLate 1000009999 0) s).vis.cam 0).lateCnt = 0 := by decide

/-- `on` with camera 0 and pipeline 0 changed. -/
def pipe (f : Pipe → Pipe) : State := let s := camera id on; { s with vis := { s.vis with pipe := upd s.vis.pipe 0 f } }

theorem wit_pipelineTakeFrame : let s := pipe fun q => { q with run := true, ready := [{ frame with fs := 5 }, { frame with fs := 4 }] }
    s.runs rVIS = true ∧ (rd s.vis.pipe 0).mem = none ∧ firstReady 0 (rd s.vis.pipe 0).ready = some { frame with fs := 4 } ∧
    s.outFree 0 0 = true ∧ ((rd (after (.pipelineTakeFrame 1000000100 0) s).vis.pipe 0).mem.map FrameJob.fs) = some 4 := by decide

theorem wit_pipelineFrameDone : let s := pipe fun q => { q with mem := some { frame with tapped := true } }
    s.runs rVIS = true ∧ (rd s.vis.pipe 0).mem = some { frame with tapped := true } ∧ frame.cam < 6 ∧
    (after (.pipelineFrameDone 1000000100 0 false) s).vis = s.vis := by decide

theorem wit_tapArm : let s := camera id host
    s.ready r0 (writeLevel [0xA0340]) 0 = true ∧ s.blockShut 0xA = false ∧ (0x40 : Word) &&& 0xFFFFFF80 = 0 ∧
    bit (0x40 : Word) 6 = true ∧ field 0x40 0 3 = 0 ∧ field 0x40 3 3 = 0 ∧ (s.img.sect 0x0A01 0x0001).isSome = true ∧
    camPipe (s.camRec 0) = 0 ∧ (rd (after (.tapArm r0 0 0x40) s).vis.pipe 0).tap = .armed := by decide

theorem wit_tapDisarm : let s := camera id host
    bit (0 : Word) 6 = false ∧ field (0 : Word) 3 3 < 6 ∧
    (rd (after (.tapDisarm r0 0 0) { s with vis := { s.vis with pipe := upd s.vis.pipe 0 fun q => { q with tap := .armed } } }).vis.pipe 0).tap = .idle := by decide

theorem wit_visWindowLatch : host.ready r0 (writeLevel [0xA0400]) 0 = true ∧ (0x14 : Word) &&& 0xFFFFFFE0 = 0 ∧ field (0x14 : Word) 0 2 ≠ 3 ∧
    field (0x14 : Word) 2 3 = 5 ∧ field (5 : Word) 2 3 < 2 ∧ (after (.visWindowLatch r0 0x14) host).vis.winSel = 0x14 ∧
    (after (.visWindowLatch r0 0x18) host).vis.winSel = 0 := by decide

theorem wit_visWindowRelease : let s : State := { on with vis := { on.vis with winBuf := [1], winRead := 0 } }
    (after (.visWindowRelease 10000000000) s).vis.winBuf = [] ∧ (after (.visWindowRelease 9999999999) s).vis.winBuf = [1] := by decide

theorem wit_grainSampleEval : let s := camera (fun c => { c with outBufs := [{ (default : OutBuf) with grain := true, unknown := true, cnt := 9 }] }) on
    ((rd s.vis.cam 0).outBufs.find? OutBuf.grain).isSome = true ∧ (after (.grainSampleEval 1000000100 default) s).vis.gsFrame = 9 ∧
    (after (.grainSampleEval 1000000100 default) s).vis.gsValid = false := by decide

/-! Valves (15). -/

/-- `s` with valve channel 0 microcoded with IMAX 1,000 mA, SAFE_HOLD_S 10, REFUSE_RETRY_MS 100, channel 1 legacy, and channel 0
changed by `f`. -/
def valve (f : VlvCh → VlvCh) (s : State) : State :=
  { s with img := image [policy 0x0B01 [(1, bytes 72 [(0, [1]), (4, [0xE8, 3, 0xE8, 3]), (10, [10]), (32, [100]), (36, [2])])]],
           vlv := { s.vlv with ch := upd s.vlv.ch 0 fun c => f { c with enF := true, safe := false, cmd := 500, active := true } } }

/-- A channel at word 0 of a store of one word. -/
def micro (w : Word) : MicroEnv := { store := bytes 28 [(0, [1]), (2, [1]), (24, leBytes 4 w.toNat)], cur := 0, in0 := true, in1 := false }

/-- A channel in RUN with a program under way. -/
def running : VlvCh := { (rd on.vlv.ch 0) with pc := 0, stack := [], loops := Vector.replicate 3 none, offSeq := false, boost := false }

theorem wit_microSeti : field (microWord (micro 0x18000005).store running.pc) 28 4 = 1 ∧ bit (microWord (micro 0x18000005).store 0) 27 = true ∧
    (microExec (micro 0x18000005) running).2 = .stall ∧ bit (microWord (micro 0x10000005).store 0) 27 = false ∧
    (microExec (micro 0x10000005) running).1.src = .imm 5 ∧
    (microExec (micro 0x18000005) { running with boost := true, boostLeft := 9 }).2 = .next := by decide

theorem wit_microWait : field (microWord (micro 0x30FFFFFF).store 0) 28 4 = 3 ∧ field (microWord (micro 0x30FFFFFF).store 0) 24 4 = 0 ∧
    (microExec (micro 0x30FFFFFF) running).1.wait = .time 0xFFFFFF ∧ (microExec (micro 0x30000000) running).2 = .next := by decide

theorem wit_microBranch : field (microWord (micro 0x61006000).store 0) 28 4 = 6 ∧ field (microWord (micro 0x61006000).store 0) 24 4 = 1 ∧
    (microExec (micro 0x61006000) running).1.pc = 3 ∧ (microExec (micro 0x62006000) running).1.pc = 1 := by decide

theorem wit_microLoop : field (microWord (micro 0x70002002).store 0) 28 4 = 7 ∧ field (microWord (micro 0x70002002).store 0) 0 13 = 1 + 1 ∧
    rd running.loops running.stack.length = none ∧ rd (microExec (micro 0x70002002) running).1.loops 0 = some 1 ∧
    (microExec (micro 0x70002002) { running with loops := put running.loops 0 (some 0) }).1.pc = 1 := by decide

theorem wit_microCall : field (microWord (micro 0x80004000).store 0) 28 4 = 8 ∧ (microExec (micro 0x80004000) running).1.stack = [1] ∧
    (microExec (micro 0x80004000) { running with stack := [4, 5] }).2 = .overflow := by decide

theorem wit_microEnd : field (microWord (micro 0).store 0) 28 4 = 0 ∧ (microExec (micro 0) running).1.ended = true ∧
    (microExec (micro 0) { running with stack := [7] }).1.pc = 7 := by decide

theorem wit_microcodeAdvance : let c := rd (valve id on).vlv.ch 0
    c.safe = false ∧ c.st = .run ∧ c.enF = true ∧ (valve id on).vlvFrz 0 = .none ∧ (valve id on).vlvMode 0 = 1 ∧ c.active = true ∧
    c.bankWait = false ∧ c.ended = false ∧ c.wait = .none ∧ c.offSeq = false ∧ c.stack = [] ∧
    field (microWord ((valve id on).img.micro 0) c.pc) 28 4 = 0 ∧
    (after (.microcodeAdvance 1000000100 0 []) (valve id on)).clk.opt = 1000000100 := by decide

theorem wit_boostCut : let s := valve (fun c => { c with boost := true, boostLeft := 0 }) on
    (rd s.vlv.ch 0).boost = true ∧ (rd (after (.boostCut 1000000100 0) s).vlv.ch 0).cutCnt = 1 ∧
    (rd (after (.boostCut 1000000100 0) (valve (fun c => { c with boost := true, boostLeft := 1 }) on)).vlv.ch 0).cutCnt = 0 := by decide

theorem wit_valveRefuseRetry : let s := valve (fun c => { c with st := .hold, refusedSince := 900000100 }) on
    u16 (s.vlvRec 0) 32 = 100 ∧ (rd s.vlv.ch 0).refusedSince + u16 (s.vlvRec 0) 32 * 1000000 = 1000000100 ∧ (rd s.vlv.ch 0).cmd ≠ 0 ∧
    s.vlvFrz 0 = .none ∧ (rd (after (.valveRefuseRetry 1000000099 0) s).vlv.ch 0).st = .hold := by decide

theorem wit_regShortfall : let s := valve (fun c => { c with undersupply := true, underTicks := 2000 }) on
    s.pwr.supply ≠ .crank ∧ (rd (after (.regShortfall 1000000100 0) s).vlv.ch 0).lastErr = 6 ∧
    (rd (after (.regShortfall 1000000100 0) (valve (fun c => { c with undersupply := true, underTicks := 1999 }) on)).vlv.ch 0).regCnt = 0 := by decide

theorem wit_valveRunaway : let s := valve (fun c => { c with runaway := 64 }) on
    s.vlvMode 0 ≠ 0 ∧ (rd s.vlv.ch 0).st ≠ .fault ∧ (rd (after (.valveRunaway 1000000100 0) s).vlv.ch 0).lastErr = 9 ∧
    (rd (after (.valveRunaway 1000000100 0) (valve (fun c => { c with runaway := 63 }) on)).vlv.ch 0).st = .run := by decide

theorem wit_safeHoldExpiry : let s := valve (fun c => { c with safeSince := some 0, tgt := 7 }) on
    (rd (after (.safeHoldExpiry 10000000000 0) s).vlv.ch 0).tgt = 0 ∧ (rd (after (.safeHoldExpiry 9999999999 0) s).vlv.ch 0).tgt = 7 := by decide

theorem wit_valveShort : (valve id on).vlvMode 0 ≠ 0 ∧ (rd (valve id on).vlv.ch 0).st ≠ .fault ∧
    (rd (after (.valveShort 1000000100 0) (valve id on)).vlv.ch 0).shortCnt = 1 ∧
    (rd (after (.valveShort 1000000100 0) (valve id on)).vlv.ch 0).st = .fault := by decide

theorem wit_valveOpenLoad : (rd (after (.valveOpenLoad 1000000100 0) (valve (fun c => { c with tgt := 7 }) on)).vlv.ch 0).openCnt = 1 ∧
    (valve id on).vlvMode 1 = 2 ∧ (rd (valve id on).vlv.ch 1).legApp ≠ 1000 ∧
    (rd (after (.valveOpenLoad 1000000100 1) (valve id on)).vlv.ch 1).openCnt = 0 := by decide

theorem wit_valveClampOverload : (rd (after (.valveClampOverload 1000000100 0) (valve id on)).vlv.ch 0).lastErr = 3 := by decide

theorem wit_valveOvertemp : (rd (after (.valveOvertemp 1000000100 0) (valve id on)).vlv.ch 0).lastErr = 4 ∧ (valve id on).vlvMode 2 = 0 ∧
    (rd (after (.valveOvertemp 1000000100 2) (valve id on)).vlv.ch 2).lastErr = 0 := by decide

theorem wit_bankSwitchOvercurrent : let s := valve id on
    let t : State := { s with vlv := { s.vlv with bank := upd s.vlv.bank 0 fun b => { b with bhs := .battery } } }
    (rd t.vlv.bank 0).bhs = .battery ∧ (0 : Nat) / 6 = 0 ∧ (5 : Nat) / 6 = 0 ∧
    (rd (after (.bankSwitchOvercurrent 1000000100 0) t).vlv.ch 0).lastErr = 5 := by decide

theorem wit_valveRestart : let s := valve (fun c => { c with st := .hold }) host
    s.ready r0 (writeLevel [0xB0010]) 0 = true ∧ s.blockShut 0xB = false ∧ (0x100 : Word) &&& 0xFFFFF8C0 = 0 ∧ field 0x100 8 3 = 1 ∧
    s.vlvMode 0 = 1 ∧ (rd s.vlv.ch 0).enF = true ∧ (rd s.vlv.ch 0).safe = false ∧ s.vlvFrz 0 = .none ∧
    (rd (valve id host).vlv.ch 0).st = .run ∧ (rd (valve id host).vlv.ch 0).bankWait = false := by decide

theorem wit_valveClear : field 0x200 8 3 = 2 ∧ (let s := valve (fun c => { c with st := .fault, enF := false }) host
    (rd s.vlv.bank 0).bhs ≠ .fault ∧ (rd s.vlv.ch 0).st = .fault ∧ s.ready r0 (writeLevel [0xB0010]) 0 = true) := by decide

theorem wit_valveClearBank : field 0x32F 8 3 = 3 ∧ field 0x32F 0 6 = 47 ∧ field 0x330 0 6 = 48 ∧
    (valve id host).ready r0 (writeLevel [0xB0010]) 0 = true := by decide

theorem wit_legacyDutyWrite : let s := valve id host
    s.ready r0 (writeLevel [0xB0504]) 0 = true ∧ s.vlvMode 1 = 2 ∧ field (1000 : Word) 0 10 = 1000 ∧
    rd (after (.legacyDutyWrite r0 1 1000) s).vlv.legDuty 1 = 1000 ∧ rd (after (.legacyDutyWrite r0 1 1001) s).vlv.legDuty 1 = 0 := by decide

theorem wit_valveCntClear : host.ready r0 (writeLevel [0xB0008]) 0 = true ∧ host.ready r0 (writeLevel [0xB000C]) 0 = true ∧
    (0xFFFF : Word) &&& 0xFFFF0000 = 0 ∧ host.blockShut 0xB = false ∧ ((47 : Nat) / 32 = 1 ∧ (0xFFFF : Word).getLsbD (47 % 32) = true) := by decide

/-! Switch channels (16) and cooling (17). -/

/-- `s` with switch channel 0 used, TJ_REL 100 °C, its state changed by `f`, and fan 0 used, 2 pulses a turn, SPIN_RPM 500,
REFUSE_RETRY 1 s, its state changed by `g`. -/
def load (f : PswCh → PswCh) (g : ColCh → ColCh) (s : State) : State :=
  { s with img := image [policy 0x0C01 [(1, bytes 32 [(0, [1]), (19, [100])])],
                         policy 0x0D01 [(1, bytes 40 [(0, [1]), (3, [2]), (10, [0xF4, 1]), (14, [0xFF, 10])])]],
           psw := { s.psw with ch := upd s.psw.ch 0 fun c => f { c with enF := true, safe := false } },
           col := { s.col with ch := upd s.col.ch 0 fun c => g { c with enF := true, safe := false, dem := 500 } } }

theorem wit_pswClear : let s := load (fun c => { c with phase := .fault, latch := true, retries := 3 }) id host
    s.ready r0 (writeLevel [0xC0010]) 0 = true ∧ s.blockShut 0xC = false ∧ (0x100 : Word) &&& 0xFFFFF8C0 = 0 ∧ field 0x100 8 3 = 1 ∧
    field 0x127 0 6 = 39 ∧ (rd (after (.pswClear r0 0x100) s).psw.ch 0).phase = .latched := by decide

theorem wit_pswClearLatch : let s := load (fun c => { c with latch := true, phase := .latched, tj := 1001 }) id host
    s.ready r0 (writeLevel [0xC0010]) 0 = true ∧ field 0x200 8 3 = 2 ∧ u8 (s.pswRec 0) 19 = 100 ∧
    (rd (after (.pswClearLatch r0 0x200) s).psw.ch 0).clrPend = true ∧
    (rd (after (.pswClearLatch r0 0x200) (load (fun c => { c with latch := true, phase := .latched, tj := 1000 }) id host)).psw.ch 0).latch = false := by decide

theorem wit_pswRestart : let s := load (fun c => { c with phase := .refused, cmd := 1000 }) id host
    s.ready r0 (writeLevel [0xC0010]) 0 = true ∧ field 0x300 8 3 = 3 ∧ s.pswEff 0 = 1000 ∧ s.pwr.supply ≠ .shutdown ∧
    (rd (after (.pswRestart r0 0x300) s).psw.ch 0).phase = .wait := by decide

theorem wit_pswCntClear : host.ready r0 (writeLevel [0xC0008]) 0 = true ∧ host.ready r0 (writeLevel [0xC000C]) 0 = true ∧
    (0xFF : Word) &&& 0xFFFFFF00 = 0 ∧ (39 : Nat) / 32 = 1 ∧ (0xFF : Word).getLsbD (39 % 32) = true := by decide

theorem wit_coolingClear : let s := load id (fun c => { c with phase := .failedTach, attempt := 2 }) host
    s.ready r0 (writeLevel [0xD0008]) 0 = true ∧ s.blockShut 0xD = false ∧ (0x100 : Word) &&& 0xFFFFFCF8 = 0 ∧ field 0x100 8 2 = 1 ∧
    (rd s.col.ch 0).phase.failed = true := by decide

theorem wit_coolingCntClear : host.ready r0 (writeLevel [0xD0004]) 0 = true ∧ (0x80 : Word) &&& 0xFFFFFF00 = 0 ∧
    host.blockShut 0xD = false ∧ (0x80 : Word).getLsbD 7 = true := by decide

theorem wit_shdnComparatorTrip : on.pwr.supply ≠ .off ∧ on.col.shdn.fault15 = false ∧
    (after (.shdnComparatorTrip 1000000100 true) on).col.shdn.shdn = true ∧
    (after (.shdnComparatorTrip 1000000100 false) on).col.shdn.cmp14 = true := by decide

theorem wit_shdnComparatorReset : let s : State := { on with col := { on.col with shdn := { on.col.shdn with cmp15 := true, shdn := true } } }
    (after (.shdnComparatorReset 1000000100 true) s).col.shdn.cmp15 = false ∧
    (after (.shdnComparatorReset 1000000100 true) s).col.shdn.shdn = true := by decide

/-- `on` at a tick whose second count is a boundary of 10 ms. -/
def edge (k : Nat) (s : State) : State := { s with clk := { s.clk with tickOpt := 1000000000, tickSec := k } }

theorem wit_shdnAsserted : let s : State := { edge 200 on with col := { on.col with shdn := { on.col.shdn with shdn := true } } }
    s.col.shdn.noticed = false ∧ s.clk.running = true ∧ (after (.shdnAsserted 1000000000) s).col.shdn.noticed = true := by decide

theorem wit_coolingDemand : let s := edge 200 (load id (fun c => { c with phase := .running }) on)
    s.colUsed 0 = true ∧ (rd s.col.ch 0).safe = false ∧ (rd s.col.ch 0).frz = .none ∧ (rd s.col.ch 0).enF = true ∧ s.colUsed 1 = false ∧
    (rd (load id id on).col.ch 0).phase = .stopped ∧ s.pwr.supply ≠ .shutdown ∧ s.runs rCTL = true ∧
    s.clk.running = true ∧ max s.clk.opt 1000000000 = s.clk.tickOpt ∧ s.clk.tickSec % 200 = 0 := by decide

/-- Fan 0 in a phase. -/
def fan (f : ColCh → ColCh) : State := load id f on

theorem wit_spinTimeout : let s := fan fun c => { c with phase := .spinup, spin := 60000, rpm := 499, attempt := 2 }
    (rd s.col.ch 0).rpm.toNat < s.colSpinRpm 0 ∧ 0 < s.colPpr 0 ∧ (rd (after (.spinTimeout 1000000100 0) s).col.ch 0).phase = .pause ∧
    (rd (after (.spinTimeout 1000000100 0) (fan fun c => { c with phase := .spinup, spin := 59999 })).col.ch 0).phase = .spinup ∧
    (rd (fan fun c => { c with phase := .spinup, spin := 60000, rpm := 499, attempt := 3 }).col.ch 0).attempt = 3 := by decide

theorem wit_spinReached : (rd (fan fun c => { c with phase := .spinup, rpm := 500 }).col.ch 0).rpm.toNat = (fan id).colSpinRpm 0 ∧
    (rd (after (.spinReached 1000000100 0) (fan fun c => { c with phase := .spinup, rpm := 499 })).col.ch 0).phase = .spinup := by decide

theorem wit_pauseEnd : let s := fan fun c => { c with phase := .pause, since := 100, attempt := 1 }
    (rd s.col.ch 0).since + 5000000000 = 5000000100 ∧ 0 < (s.colDemand 0).1 ∧
    (rd (after (.pauseEnd 5000000100 0) s).col.ch 0).phase = .wait ∧ (rd (after (.pauseEnd 5000000099 0) s).col.ch 0).phase = .pause ∧
    ((fan fun c => { c with phase := .pause, dem := 0 }).colDemand 0).1 = 0 := by decide

theorem wit_tachLoss : (rd (after (.tachLoss 1000000100 0) (fan fun c => { c with phase := .running, loss := 40000 })).col.ch 0).lastErr = 2 ∧
    (rd (after (.tachLoss 1000000100 0) (fan fun c => { c with phase := .running, loss := 39999 })).col.ch 0).phase = .running := by decide

theorem wit_tachRecovery : let s := fan fun c => { c with phase := .failedTach, recov := 200000 }
    (rd s.col.ch 0).phase = .failedTach ∧ 200000 ≤ (rd s.col.ch 0).recov ∧
    (rd (after (.tachRecovery 1000000100 0) (fan fun c => { c with phase := .failedTach, recov := 199999 })).col.ch 0).phase = .failedTach := by decide

theorem wit_coolingRefuseRetry : let s := fan fun c => { c with phase := .refused, since := 100 }
    (rd s.col.ch 0).since + u8 (s.colRec 0) 15 * 100000000 = 1000000100 ∧ 0 < (s.colDemand 0).1 ∧
    (rd (after (.coolingRefuseRetry 1000000100 0) s).col.ch 0).phase = .wait ∧
    (rd (after (.coolingRefuseRetry 1000000099 0) s).col.ch 0).phase = .refused := by decide

/-! CAN (18). -/

/-- `s` with controller 2 (no pair) enabled and error-active, changed by `f`. -/
def can (f : CanCh → CanCh) (s : State) : State :=
  { s with can := { s.can with ch := upd s.can.ch 2 fun c => f { c with enF := true, bus := .errorActive } } }

/-- A classical frame of two bytes. -/
def cf : CanFrame := { id := 0x100, ide := false, fdf := false, brs := false, esi := false, rtr := false, data := [1, 2] }

/-- That frame waiting for transmission from the host with TAG 7. -/
def tx : TxFrame := { frame := cf, src := .host 7, oneShot := false, order := 1, opt := 1000000000, sa := none }

theorem wit_canFrame : let s := can id on
    s.runs rNET = true ∧ (s.cc 2).enF = true ∧ (s.cc 2).fault = false ∧ (s.cc 2).sending = none ∧ (s.cc 2).detect = none ∧
    (s.cc 2).broken = none ∧ (s.cc 2).offWait = false ∧ (s.cc 2).recv ≤ 127 ∧ (s.cc 2).bus = busOf (s.cc 2).tec (s.cc 2).recv ∧
    ((after (.canFrame 1000000200 2 1000000100 cf false true 0 []) s).cc 2).ring.map CanEntry.seq = [1] := by decide

theorem wit_canFrameOwn : let u := can (fun c => { c with sending := some 0, txb := put c.txb 0 (some tx), tec := 5 }) on
    (u.cc 2).sending = some 0 ∧ rd (u.cc 2).txb 0 = some tx ∧ (u.cc 2).bus = busOf 4 0 ∧
    ((after (.canFrame 1000000200 2 1000000100 cf true true 0 []) u).cc 2).tec = 4 := by decide

/-- An error in a frame received, after `d` further runs of dominant bits. -/
def err (d : Nat) : CanErrIn := { (default : CanErrIn) with kind := 1, dom := d }

theorem wit_canError : let s := can (fun c => { c with recv := 119, sending := some 0, tec := 247 }) on
    s.canListen 2 = false ∧ ((after (.canError 1000000100 2 (err 0)) s).cc 2).recv = 120 ∧
    ((after (.canError 1000000100 2 (err 1)) s).cc 2).bus = .errorPassive ∧
    ((after (.canError 1000000100 2 { err 0 with sending := true }) s).cc 2).bus = .errorPassive ∧
    ((after (.canError 1000000100 2 { err 1 with sending := true }) s).cc 2).busoffCnt = 1 ∧
    ((after (.canError 1000000100 2 (err 1)) (can (fun c => { c with fault := true }) on)).cc 2).errFrameCnt = 0 := by decide

/-- RECOVERY automatic, BUSOFF_DELAY 100 ms, DET_LISTEN 500 ms on controller 2. -/
def auto (s : State) : State :=
  { s with img := image [policy 0x0E01 [(1, bytes 96 [(67, [1]), (68, [100, 0]), (72, [0xF4, 1])]), (2, bytes 28 [(0, [2])])]] }

theorem wit_busoffDelayExpiry : let s := auto (can (fun c => { c with bus := .busOff, offSince := 900000100 }) on)
    s.img.recovery 2 = 1 ∧ (s.cc 2).offSince + s.img.busoffDelay 2 = 1000000100 ∧ (s.cc 2).recovering = false ∧
    ((after (.busoffDelayExpiry 1000000100 2) s).cc 2).recovering = true ∧
    ((after (.busoffDelayExpiry 1000000099 2) s).cc 2).recovering = false := by decide

theorem wit_canRecoveryComplete : let s := can (fun c => { c with bus := .busOff, recovering := true, tec := 256 }) on
    (s.cc 2).bus = .busOff ∧ ((after (.canRecoveryComplete 1000000100 2) s).cc 2).tec = 0 := by decide

theorem wit_canIntegrationComplete : let s := can (fun c => { c with bus := .integrating }) on
    (s.cc 2).bus = .integrating ∧ ((after (.canIntegrationComplete 1000000100 2) s).cc 2).bus = .errorActive := by decide

theorem wit_detectCandidateTimeout : let s := auto (can (fun c => { c with detect := some ⟨1, 500000100, 0, false⟩ }) on)
    s.img.candidates = 2 ∧ s.img.detListen 2 = 500000000 ∧
    ((after (.detectCandidateTimeout 1000000100 2 false) s).cc 2).detect.map Detect.cand = some 0 ∧
    ((after (.detectCandidateTimeout 1000000099 2 false) s).cc 2).detect.map Detect.cand = some 1 := by decide

/-- A received entry. -/
def entry : CanEntry :=
  { seq := 1, kind := 4, flags := 0, len := 0, reason := 1, id := 0, tag := 0, tec := 0, recv := 0, opt := 0, dvt := 0, data := [], active := true, wrote := 998000000 }

theorem wit_canDispatch : let s := can (fun c => { c with seq := 1, ring := [entry] }) on
    (s.cc 2).nextEntry = some entry ∧ s.runs rSVC = true ∧ entry.kind ≠ 0 ∧ entry.kind ≠ 1 ∧
    ((after (.canDispatch 1000000100 2) s).cc 2).lateCnt = 1 ∧ (on.cc 2).nextEntry = none := by decide

/-- A FORMAT table 5 of kind `k`: period 10 ticks, offset 0, on controller 2, no fields. -/
def format (k : Byte) : Table := { id := 5, kind := kFormat, ver := 1, body := bytes 24 [(0, [k]), (8, leBytes 4 0x80000100), (12, [2]), (14, [10, 0])] }

theorem wit_canRxTimeout : let s := { withTables [format 4] on with can := { on.can with rxTimers := [(5, some 10)] } }
    (s.img.tableOf kFormat 5).isSome = true ∧ lookupN s.can.rxTimers 5 = some (some 10) ∧
    ((s.img.tableOf kFormat 5).map fun b => (u8 b 0, u16 b 14)) = some (4, 10) ∧
    lookupN (after (.canRxTimeout 1000000100 5) s).can.rxTimers 5 = some none := by decide

theorem wit_canTxBuild : let s := withTables [format 3] (can id on)
    ((s.img.tableOf kFormat 5).map fun b => (u8 b 0, u16 b 14, u16 b 16)) = some (3, 10, 0) ∧ s.runs rNET = true ∧ s.runs rSVC = true ∧
    (s.clk.tickSec + 20000 - 0) % 10 = 0 ∧ s.canSender 2 = 2 ∧ (s.cc 2).enF = true ∧ s.canListen 2 = false ∧ s.img.saSubst 5 = false ∧
    (s.cc 2).txq.length < 64 ∧ (s.cc 2).waits (fun x => x.src == .format 5) = false := by decide

theorem wit_canTimeReference : let s := { can id on with img := image [policy 0x0E01 [(3, bytes 36 [(24, [1]), (26, [20, 0])])]] }
    (s.img.timeRec 2).isSome = true ∧ s.img.timeRec 1 = none ∧ s.canSender 2 = 2 ∧ s.canLead 2 = 2 ∧
    ((s.img.timeRec 2).map fun b => (u16 b 2, (s.clk.tickSec + 20000 - u16 b 4) % u16 b 2)) = some (20, 0) := by decide

/-- A transport connection whose last event was at 0.25 s. -/
def conn : TpConn := { (default : TpConn) with pgn := 0xFECA, sa := 3, kind := 0, last := 250000000 }

theorem wit_tpTimeout : let s := can (fun c => { c with rxConn := [conn] }) on
    s.canLead 2 = 2 ∧ (s.cc 2).rxConn[0]? = some conn ∧ conn.last + 750000000 = 1000000000 ∧
    ((after (.tpTimeout 1000000000 2 (some 0)) s).cc 2).tpAbortCnt = 1 := by decide

theorem wit_tpTimeoutSending : let u := can (fun c => { c with txConn := some conn }) on
    (u.cc 2).txConn = some conn ∧ (after (.tpTimeout 1500000000 2 none) u).can.txmFail = 1 ∧
    ((after (.tpTimeout 1499999999 2 none) u).cc 2).txConn = some conn := by decide

theorem wit_addressClaimTimeout : let s := can (fun c => { c with claim := .claiming, claimSince := 750000100 }) on
    (s.cc 2).claimSince + 250000000 = 1000000100 ∧ ((after (.addressClaimTimeout 1000000100 2) s).cc 2).claim = .claimed ∧
    ((after (.addressClaimTimeout 1000000099 2) s).cc 2).claim = .claiming := by decide

theorem wit_canTxsSend : let s := can id host
    s.ready r0 1 0 = true ∧ s.blockShut 0xE = false ∧ (0x00070022 : Word) &&& 0x0000E008 = 0 ∧ s.stagedBad 0x100 0x00070022 = false ∧
    s.canSender 2 = 2 ∧ (s.cc 2).txq.length < 64 ∧ s.img.claimRec 2 = none ∧ s.canListen 2 = false ∧
    (after (.canTxsSend r0 0x100 0x00070022 [] 0) s).can.txsId = 0x100 := by decide

theorem wit_canTxmSend : let s := { can id host with
      img := image [policy 0x0E01 [(4, bytes 48 [(32, [0, 0])])]], can := { (can id host).can with txmCtrl := 0x0009FF02 } }
    s.ready r0 (writeLevel [0xE0608]) 0 = true ∧ s.can.txmState ≠ 1 ∧ s.canLead (field s.can.txmCtrl 0 3) = 2 ∧
    (s.img.claimRec 2).isSome = true ∧ txmLenOk s.can.txmCtrl = true ∧ s.canAddr 2 = none ∧
    (after (.canTxmSend r0 1) s).can.txmFail = 3 := by decide

theorem wit_canRecover : let s := can (fun c => { c with bus := .busOff }) host
    s.ready r0 (writeLevel [0xE0008]) 0 = true ∧ (0x12 : Word) &&& 0x0000FF88 = 0 ∧ field 0x12 4 3 = 1 ∧ field 0x12 0 3 = 2 ∧
    ((after (.canRecover r0 0x12) s).cc 2).recovering = true := by decide

theorem wit_canAbortAll : let s := can (fun c => { c with txb := put c.txb 0 (some tx), sending := some 0, txq := [tx] }) host
    field 0x22 4 3 = 2 ∧ s.canSender (field 0x22 0 3) = 2 ∧ s.ready r0 (writeLevel [0xE0008]) 0 = true ∧
    ((after (.canAbortAll r0 0x22) s).cc 2).txq = [] := by decide

theorem wit_canAbortTag : let s := can (fun c => { c with txq := [tx, { tx with src := .host 8 }] }) host
    field 0x00070032 4 3 = 3 ∧ field 0x00070032 16 16 = 7 ∧ ((after (.canAbortTag r0 0x00070032) s).cc 2).waiting.map TxFrame.src = [.host 8] := by decide

theorem wit_canDetect : let s := { auto (can id host) with grp := { host.grp with live := [(0xE102C, 0x20)] } }
    field 0x42 4 3 = 4 ∧ s.canMode 2 5 = true ∧ s.img.candidates ≠ 0 ∧ (s.cc 2).enF = true ∧
    ((after (.canDetect r0 0x42) s).cc 2).detect.map Detect.cand = some 0 := by decide

theorem wit_canEnableWrite : host.ready r0 (writeLevel [0xE0000]) 0 = true ∧ (0x80 : Word) &&& 0xFFFFFF00 = 0 ∧ (0x80 : Word).getLsbD 7 = true ∧
    ((after (.canEnableWrite r0 0x80) host).cc 7).bus = .integrating := by decide

theorem wit_canWindowLatch : let s := can (fun c => { c with seq := 1, ring := [entry] }) host
    let t : State := { s with can := { s.can with winSel := 2 } }
    t.ready r0 (writeLevel [0xE0304]) 0 = true ∧ bit t.can.winSel 3 = false ∧
    (after (.canWindowLatch r0 1) t).can.winValid = true ∧ (after (.canWindowLatch r0 2) t).can.winValid = false := by decide

theorem wit_canCntClear : host.ready r0 (writeLevel [0xE0004]) 0 = true ∧ host.blockShut 0xE = false ∧
    (0xFF : Word) &&& 0xFFFFFF00 = 0 ∧ (0xFF : Word).toNat.testBit 7 = true := by decide

/-! Ethernet and path redundancy (19). -/

/-- Probes to a peer each 50 ms, three losses, EQX_MIN 360, DOWN_MS 2, ERR_MAX 20, RETURN_S 10, on all three pairs. -/
def pairs : Table :=
  let one : List Byte := bytes 32 [(0, [1]), (2, [3]), (4, [0x68, 1]), (8, [2, 0, 20, 0, 50, 0, 10, 0]), (16, [0xFE])]
  policy 0x0F01 [(3, one ++ one ++ one)]

/-- `s` with the pairs enabled, ports A and B up, A active, and pair 0 changed. -/
def paired (f : Pair → Pair) (s : State) : State :=
  { s with img := image [pairs],
           eth := { s.eth with port := upd (upd s.eth.port 0 fun x => { x with enF := true, link := true }) 1 fun x => { x with enF := true, link := true },
                               pair := upd s.eth.pair 0 fun q => f { q with active := 0, a := { q.a with health := .ready }, b := { q.b with health := .ready } } } }

theorem wit_pathLinkDown : let s := paired id on
    s.runs rNET = true ∧ s.pairOn 0 = true ∧ s.img.downMs 0 = 2 ∧ ((s.pair 0).mem true).health = .ready ∧
    ((after (.pathLinkDown 1002000000 0 1000000000) s).pair 0).active = 1 ∧
    ((after (.pathLinkDown 1001999999 0 1000000000) s).pair 0).active = 0 ∧
    ((after (.pathLinkDown 1002000000 0 1000000000) (paired (fun q => { q with b := { q.b with health := .down } }) on)).pair 0).active = 2 := by decide

/-- `k` frames with FCS errors at 1 s. -/
def errors (k : Nat) : List Opt := List.replicate k 1000000000

theorem wit_pathErrors : let s := paired id on
    s.img.errMax 0 = 20 ∧ ((after (.pathErrors 1000000100 0 false (errors 21)) s).pair 0).faultCnt = 1 ∧
    ((after (.pathErrors 1000000100 0 false (errors 20)) s).pair 0).active = 0 ∧
    ((after (.pathErrors 1000000100 0 false (errors 21)) (paired (fun q => { q with b := { q.b with health := .down } }) on)).pair 0).degraded
      = true := by decide

/-- A received frame 1 ms before 1.0000001 s. -/
def heard : CanEntry :=
  { seq := 1, kind := 0, flags := 0, len := 0, reason := 0, id := 0, tag := 0, tec := 0, recv := 0, opt := 999000000, dvt := 0, data := [], active := true, wrote := 0 }

theorem wit_pathSilence : let s0 := paired id on
    let s : State := { s0 with can := { s0.can with ch := upd s0.can.ch 1 fun c => { c with ring := [heard] } } }
    s.pairOn 1 = true ∧ s.canHeard 0 1000000100 50000000 = false ∧ s.canHeard 1 1000000100 50000000 = true ∧
    ((after (.pathSilence 1000000100 0 false) s).pair 1).a.health = .down := by decide

theorem wit_probeSend : let s := paired id on
    s.img.probes = true ∧ (after (.probeSend 1000000100 true) s).out.length = 1 ∧
    ((after (.probeSend 1000000100 true) s).pair 0).b.probe = some 1000000100 := by decide

theorem wit_probeTimeout : let s (k : Nat) := paired (fun q => { q with a := { q.a with probe := some 950000100, lostRun := k } }) on
    ((s 2).pair 0).a.probe = some 950000100 ∧ (s 2).img.probeMs 0 = 50 ∧ (s 2).img.probeLoss = 3 ∧ ((s 2).pair 0).b.lostRun < 3 ∧
    ((after (.probeTimeout 1000000100 false) (s 2)).pair 0).active = 1 ∧
    ((after (.probeTimeout 1000000100 false) (s 1)).pair 0).a.lostRun = 2 ∧
    ((after (.probeTimeout 1000000099 false) (s 2)).pair 0).a.probe = some 950000100 := by decide

theorem wit_probeReply : let s := paired (fun q => { q with a := { q.a with probe := some 950000100, lostRun := 2 } }) on
    ((after (.probeReply 1000000100 false) s).pair 0).a.lostRun = 0 ∧ ((after (.probeReply 1000000101 false) s).pair 0).a.lostRun = 2 := by decide

theorem wit_pathConditionClear : let s := paired (fun q => { q with active := 2, a := { q.a with health := .down, cLink := true } }) on
    ((s.pair 0).mem false).health = .down ∧ ((s.pair 0).mem false).cSil = false ∧ (rd s.eth.port 0).enF = true ∧
    ((after (.pathConditionClear 1000000100 0 false) s).pair 0).active = 0 := by decide

theorem wit_mirrorCopyComplete : let s := paired (fun q => { q with b := { q.b with health := .checking } }) on
    (s.pair 0).active ≠ 2 ∧ ((after (.mirrorCopyComplete 1000000100 0 true) s).pair 0).b.mirror = true := by decide

theorem wit_pathReady : let s := paired (fun q => { q with b := { q.b with health := .checking, mirror := true, answered := true, since := 0 } }) on
    s.img.returnS 0 = 10 ∧ ((after (.pathReady 10000000000 0 true) s).pair 0).b.health = .ready ∧
    ((after (.pathReady 9999999999 0 true) s).pair 0).b.health = .checking := by decide

theorem wit_equinox : let s := paired id on
    (s.begin 21600000000000).equinoxAt 0 21600000000000 = true ∧ (s.pair 0).gapSince = none ∧ s.standbyReady 0 = true ∧
    (s.begin 21600000000000).actSoon = false ∧ (s.begin 21600000000001).equinoxAt 0 21600000000001 = false ∧
    ((after (.equinox 21600000000000 0) s).pair 0).swapCnt = 1 ∧
    ((after (.equinox 21600000000000 0) (paired (fun q => { q with b := { q.b with health := .checking } }) on)).pair 0).deferCnt = 1 := by decide

theorem wit_pairSwap : let s := paired id { host with hst := { host.hst with sess := upd host.hst.sess 0 fun x => { x with port := 5 } } }
    s.ready r0 (writeLevel [0xF0008]) 0 = true ∧ s.blockShut 0xF = false ∧ (4 : Word) &&& 0xFFFFFFF0 = 0 ∧ 2 ≤ (s.sess 0).level ∧
    field 4 0 2 ≠ 3 ∧ field 4 2 2 = 1 ∧ s.pairOn 0 = true ∧ s.standbyReady 0 = true ∧
    ((after (.pairSwap r0 4) s).pair 0).active = 1 := by decide

theorem wit_portEnableWrite : host.ready r0 (writeLevel [0xF0000]) 0 = true ∧ (0x7F : Word) &&& 0xFFFFFF80 = 0 ∧ host.blockShut 0xF = false ∧
    (0x7F : Word).getLsbD 6 = true ∧ (after (.portEnableWrite r0 0x41) host).eth.en = 0x41 := by decide

theorem wit_portDisabled : let s : State := { host with
      hst := { host.hst with sess := upd host.hst.sess 0 fun x => { x with port := 5 } },
      eth := { host.eth with port := upd host.eth.port 6 fun x => { x with enF := true } } }
    (s.sess 0).port = 5 ∧ (rd s.eth.port 6).enF = true ∧ ((after (.portEnableWrite r0 0) s).sess 0).isOpen = false := by decide

theorem wit_ethCntClear : host.ready r0 (writeLevel [0xF0004]) 0 = true ∧ (0x77F : Word) &&& 0xFFFFF880 = 0 ∧ host.blockShut 0xF = false ∧
    (0x400 : Word).getLsbD (8 + 2) = true := by decide

/-- `on` with LOC0 at 10.0.0.1, and the backbone pair. -/
def addressed : State :=
  { paired id on with img := image [policy 0x0F01 [(2, bytes 64 [(0, [1]), (8, [10, 0, 0, 2]), (32, [1]), (40, [10, 0, 0, 1])]), (3, bytes 96 [(0, [1])])]],
                      eth := { (paired id on).eth with port := upd (paired id on).eth.port 2 fun x => { x with enF := true } } }

theorem wit_echoRequest : (addressed.ifacePort 1 false).1 = 2 ∧ addressed.onStandby 1 false = false ∧
    addressed.ownAddr 1 3 false [10, 0, 0, 1] = true ∧
    (after (.echoRequest 1000000100 1 false false none [10, 0, 0, 1] [7, 8]) addressed).out = [.net 2 netEcho none [7, 8]] ∧
    addressed.onStandby 0 true = true ∧ (addressed.pair 0).active ≠ 2 ∧
    (after (.echoRequest 1000000100 0 true false none [10, 0, 0, 2] []) addressed).eth.stbyDisc = 1 := by decide

theorem wit_addressResolution : (after (.addressResolution 1000000100 1 false false none [10, 0, 0, 1]) addressed).out = [.net 2 netResolve none (addressed.mac 3)] ∧
    (after (.addressResolution 1000000100 1 false false none [10, 0, 0, 9]) addressed).out = [] := by decide

/-! The recorder (20). -/

/-- `s` with the recorder changed. -/
def rcdr (f : RecSt → RecSt) (s : State) : State := { s with rcd := f s.rcd }

theorem wit_recordBoundary : (on.begin 3600000000000).gridAt 3600000000000 / (on.recInterval * 1000000000) = 1 ∧ on.runs rSVC = true ∧
    on.rcd.bound = 0 ∧ on.rcd.closed = none ∧ on.rcd.freezers = [] ∧ on.rcd.isClearing = false ∧ on.rcd.slots.length < 16384 ∧
    (after (.recordBoundary 3600000000000) (rcdr (fun r => { r with freezers := [(0, 0)] }) on)).rcd.passed = true ∧
    (after (.recordBoundary 3599999999999) on).rcd.bound = 0 := by decide

theorem wit_recordWriteComplete : let s := rcdr (fun r => { r with closed := some [1, 2], nextSeq := 5, waitFreeze := [r0] }) on
    s.rcd.closed = some [1, 2] ∧ s.rcd.isClearing = false ∧ s.rcd.slots.length + 1 < 16384 ∧
    (after (.recordWriteComplete 1000000100 false) s).rcd.closed = some [1, 2] ∧
    (after (.recordWriteComplete 1000000100 false) s).rcd.slots = [⟨5, false, []⟩] ∧
    (after (.recordWriteComplete 1000000100 true) s).rcd.nextSeq = 6 := by decide

theorem wit_freezeMaxExpiry : let s := rcdr (fun r => { r with freezers := [(0, 0), (1, 0)] }) on
    s.img.fieldOr 0x1001 0x0001 (fun b => u16 b 0) 600 = 600 ∧ (after (.freezeMaxExpiry 600000000000 1) s).rcd.freezers = [(0, 0)] ∧
    (after (.freezeMaxExpiry 599999999999 1) s).rcd.freezers = [(0, 0), (1, 0)] := by decide

theorem wit_recClearComplete : let s := rcdr (fun r => { r with isClearing := true, slots := [⟨1, true, []⟩], nextSeq := 2, unrecorded := 3 }) on
    s.rcd.isClearing = true ∧ (after (.recClearComplete 1000000100) s).rcd.slots = [] ∧ (after (.recClearComplete 1000000100) s).rcd.nextSeq = 2 := by decide

theorem wit_recInfo : host.ready r0 0 7 = true ∧ (after (.recInfo r0) host).out.length = 1 := by decide

theorem wit_recRead : let s := rcdr (fun r => { r with slots := [⟨3, true, bytes 4096 [(0, [9])]⟩] }) host
    s.ready r0 0 7 = true ∧ s.rcd.isClearing = false ∧ (s.rcd.stored.find? fun x => x.seq == 3).isSome = true ∧
    s.rcd.stored.find? (fun x => x.seq == 4) = none ∧ (4096 : W16).toNat + (0 : W16).toNat ≤ 4096 ∧
    (rcdr (fun r => { r with isClearing := true }) host).rcd.isClearing = true := by decide

theorem wit_recFreeze : host.ready r0 0 7 = true ∧ host.rcd.isClearing = false ∧ host.rcd.freezers = [] ∧ host.rcd.waitFreeze = [] ∧
    host.rcd.closed = none ∧ (after (.recFreeze r0) host).rcd.freezers = [(0, 1000000100)] ∧
    (after (.recFreeze r0) (rcdr (fun r => { r with closed := some [] }) host)).rcd.waitFreeze = [r0] := by decide

theorem wit_recThaw : let s := rcdr (fun r => { r with freezers := [(0, 5), (1, 6)] }) host
    s.ready r0 0 7 = true ∧ (after (.recThaw r0) s).rcd.freezers = [(1, 6)] ∧ host.rcd.freezers = [] ∧
    (after (.recThaw r0) host).rcd = host.rcd := by decide

theorem wit_recClear : host.ready r0 2 7 = true ∧ host.rcd.isClearing = false ∧ (host.begin r0.opt).granted 0 0 = false ∧ host.boot.svcEn = false ∧
    (after (.recClear r0) host).rcd.isClearing = false ∧
    (after (.recClear r0) { host with boot := { host.boot with svcEn := true } }).rcd.isClearing = true := by decide

theorem wit_recPointer : let s := rcdr (fun r => { r with slots := [⟨3, true, [9]⟩] }) host
    s.ready r0 (writeLevel [0x100100]) 0 = true ∧ s.blockShut 0x10 = false ∧ (s.rcd.stored.find? fun x => x.seq == 3).isSome = true ∧
    (after (.recPointer r0 3) s).rcd.ptrValid = true ∧ (after (.recPointer r0 4) s).rcd.win = [] := by decide

theorem wit_recCntClear : host.ready r0 (writeLevel [0x100018]) 0 = true ∧ bit (1 : Word) 0 = true ∧ (1 : Word) &&& 0xFFFFFFFE = 0 ∧
    (after (.recCntClear r0 1) (rcdr (fun r => { r with supprCnt := 4 }) host)).rcd.supprCnt = 0 := by decide

/-! The update service (21). -/

/-- A manifest of one member (serial 0) and one part, an image of 100 bytes, ID 5, T0 200 s, WINDOW_S 60, CONFIRM_S 10, one window. -/
def mfst : List Byte :=
  bytes 388 [(0, [0x54, 0x58, 0x55, 0x4D, 1, 0, 96, 0, 5]), (16, [0x40, 0x88]), (20, [1, 1, 1]), (24, leBytes 8 200000000000), (32, [60]), (36, [10]),
    (40, leBytes 8 200000000000), (48, [232]), (96, [0x10, 0]), (104, [100]), (240, [1]), (244, List.replicate 48 9)]

/-- `s` with DVT equal to OPT, the update running and the manifest staged in a state. -/
def stagedIn (st : UpdState) (s : State) : State :=
  { s with tim := { s.tim with dvtSet := true },
           eth := { s.eth with port := upd s.eth.port 0 fun x => { x with enF := true } },
           journal := { state := st, manifest := mfst, parts := [{ tablePieces := [], table := none, blocks := [], chunks := [] }], committed := none },
           updt := { s.updt with members := [{ ready := false, vote := 0xFF, state := none, result := 0 }] } }

/-- The head before a manifest, with an owner. -/
def fresh : State :=
  { stagedIn .idle host with flash := { host.flash with ownerCert := some (List.replicate 48 9) } }

theorem wit_updBeginRefused : host.ready r0 2 8 = true ∧ (host.begin r0.opt).mfCheck [] = 1 ∧
    (after (.updBegin r0 []) host).journal = host.journal := by decide

/-- Whether a signature verifies is a free value; where it does, the manifest is in order, and is staged at its head. -/
theorem wit_updBegin (h : Config.sigOk (List.replicate 48 9) (span mfst 0 232) (span mfst 292 96) = true) :
    mfOwners mfst fresh.boot.serial.toNat = [0] ∧ (fresh.begin r0.opt).mfCheck mfst = 0 := by
  have e : mfSigOk (some (List.replicate 48 9)) mfst = (true && true && Config.sigOk (List.replicate 48 9) (span mfst 0 232) (span mfst 292 96)) := by rfl
  rw [h] at e
  refine ⟨by decide, ?_⟩
  have f : (fresh.begin r0.opt).flash.ownerCert = some (List.replicate 48 9) := by rfl
  have a : (mfFormOk mfst = false) = False := by decide
  have b : (u32 mfst 16 ≠ 0x8840 ∨ 0xC1 < u8 mfst 20) = False := by decide
  unfold State.mfCheck
  rw [f, e]
  simp only [a, b, if_false, Bool.and_self, Bool.true_eq_false]
  decide

theorem wit_updData : let s := stagedIn .receiving host
    s.ready r0 2 8 = true ∧ (s.sess 0).agreed.getLsbD 15 = true ∧ s.isHead = true ∧ s.journal.state = .receiving ∧
    (0 : Byte).toNat < mfParts s.journal.manifest ∧ (s.part 0).length = 100 ∧ lookupN (s.partRx 0).blocks 0 = none ∧ (s.partRx 0).table = none ∧
    (s.part 0).blockLen 0 ≤ 8192 ∧ lookupN ((after (.updData r0 0 1 0 (List.replicate 100 3)) s).partRx 0).chunks 0 = some (List.replicate 100 3) := by decide

theorem wit_updStatus : host.ready r0 2 8 = true ∧ (after (.updStatus r0) host).out.length = 1 := by decide

theorem wit_updAbort : (stagedIn .receiving host).isHead = true ∧ (after (.updAbort r0) (stagedIn .receiving host)).journal.state = .abandoned ∧
    (after (.updAbort r0) (stagedIn .committed host)).journal.state = .committed := by decide

theorem wit_updConfirm : let s : State := { stagedIn .trial host with updt := { host.updt with trialBoot := true } }
    s.updt.trialBoot = true ∧ host.updt.trialBoot = false ∧ mfHostConfirm mfst = false ∧ mfHostConfirm (bytes 24 [(23, [1])]) = true := by decide

theorem wit_updReject : let s : State := { stagedIn .trial host with updt := { host.updt with trialBoot := true } }
    s.ready r0 2 8 = true ∧ s.updt.trialBoot = true ∧ s.bootRec.migrateFail = false ∧
    (after (.updReject r0 pIn) host).journal = host.journal := by decide

theorem wit_updCntClear : host.ready r0 (writeLevel [0x110028]) 0 = true ∧ host.blockShut 0x11 = false ∧
    (after (.updCntClear r0 1) { host with updt := { host.updt with deferCnt := 3 } }).updt.deferCnt = 0 := by decide

/-- The body of a chain message about the staged manifest and its window, with part, chunk and block 0. -/
def relayBody (kind member : Nat) (p : List Byte) : List Byte :=
  leBytes 8 kind ++ leBytes 8 5 ++ leBytes 4 member ++ leBytes 4 p.length ++ leBytes 8 200000000000 ++ p

/-- That body as a plain publish payload. -/
def plainly (kind : Nat) (p : List Byte) : RelayIn :=
  { opt := 1000000100, env := false, raw := List.replicate 24 0 ++ relayBody kind 0 p, cert := none, chains := false }

/-- That body in an envelope of `serial`, BOOT 1, SEQ 1. -/
def signed (serial kind member : Nat) (p : List Byte) : RelayIn :=
  let b := relayBody kind member p
  { opt := 1000000100, env := true,
    raw := [0x54, 0x58, 0x46, 0x45, 1, 0, 6, 0] ++ leBytes 8 serial ++ leBytes 4 1 ++ leBytes 4 1 ++ leBytes 8 0 ++ leBytes 8 b.length ++ b ++
      List.replicate 96 0,
    cert := some { (default : DevCert) with serial := BitVec.ofNat 64 serial }, chains := true }

/-- The staged manifest at a member of serial 7 that is not its head. -/
def second : State :=
  let s := stagedIn .ready on
  let m := bytes 412 [(0, [0x54, 0x58, 0x55, 0x4D, 1, 0, 96, 0, 5]), (16, [0x40, 0x88]), (20, [1, 1, 2]), (24, leBytes 8 200000000000), (32, [60]), (36, [10]),
    (40, leBytes 8 200000000000), (48, [0, 1]), (96, [0x10, 0]), (104, [100]), (232, [7])]
  { s with boot := { s.boot with serial := 7 }, journal := { s.journal with manifest := m },
           updt := { s.updt with members := List.replicate 2 { ready := false, vote := 0xFF, state := none, result := 0 } } }

/-- Whether a signature verifies is a free value; where they do, enveloped messages are taken, and no other. -/
theorem wit_relayTaken (h : ∀ k a b, Config.sigOk k a b = true) : let m := second.begin 1000000100
    (m.takeRelay (signed 0 1 0 (List.replicate 96 0)) 1).isSome = true ∧ (m.takeRelay (signed 7 4 1 []) 4).isSome = true ∧
    (m.takeRelay (signed 7 5 1 []) 5).isSome = true ∧ (m.takeRelay (signed 0 6 0 []) 6).isSome = true ∧
    (m.takeRelay (signed 7 7 1 [1, 0, 0, 0]) 7).isSome = true ∧ (m.takeRelay (signed 7 8 1 [9, 0, 0, 0]) 8).isSome = true ∧
    (m.takeRelay (signed 0 9 0 [1, 0, 0, 0]) 9).isSome = true ∧ (m.takeRelay (signed 7 10 1 [4, 0, 0, 0, 0, 0, 0, 0]) 10).isSome = true := by
  simp only [State.takeRelay, RelayIn.envelopeOk, h]
  decide

theorem wit_relayDiscarded : let m := second.begin 1000000100
    m.takeRelay (plainly 5 []) 5 = none ∧ m.takeRelay (plainly 2 [1]) 3 = none ∧ m.takeRelay { plainly 2 [1] with raw := [] } 2 = none ∧
    (after (.relayReady (plainly 5 [])) second).updt = second.updt ∧ (after (.relayPrepare (plainly 6 [])) second).updt = second.updt ∧
    (after (.relayVote (plainly 7 [0, 0, 0, 0])) second).updt = second.updt ∧ (after (.relayManifest (plainly 1 mfst)) second).journal = second.journal := by decide

theorem wit_relaySenders : second.ownMember = 1 ∧ second.isHead = false ∧ (stagedIn .receiving on).isHead = true ∧
    mfSerial second.journal.manifest 0 = 0 ∧ mfSerial second.journal.manifest 1 = 7 ∧ mfMembers second.journal.manifest = 2 := by decide

theorem wit_relayBtable : let s := stagedIn .receiving on
    (s.takeRelay (plainly 2 [1]) 2).isSome = true ∧ (0 : Nat) < mfParts s.journal.manifest ∧ (s.partRx 0).table = none ∧
    chunksOf (48 * (s.part 0).blocks) = 1 ∧ (after (.relayBtable (plainly 2 [1])) (stagedIn .ready on)).journal = (stagedIn .ready on).journal := by decide

theorem wit_relayData : let s := stagedIn .receiving on
    s.journal.state = .receiving ∧ (0 : Nat) < (s.part 0).blocks ∧ (0 : Nat) < chunksOf ((s.part 0).blockLen 0) ∧
    lookupN ((after (.relayData (plainly 3 [8])) s).partRx 0).chunks 0 = some [8] := by decide

/-- The second member prepared for the window. -/
def prepared : State := { second with updt := { second.updt with prepared := some 200000000000 } }

theorem wit_chainSessionRetry : second.updOn = true ∧ second.journal.state ≠ .idle ∧
    (after (.chainSessionRetry 1000000100 false true) second).updt.sessDown = true := by decide

theorem wit_verifyComplete : let s := stagedIn .verifying on
    s.updOn = true ∧ s.journal.state = .verifying ∧ (on.journal.state ≠ .verifying) := by decide

/-- Digests are free values; where the stored bytes have another one, the verification ends with code 0x11. -/
theorem wit_verifyFailed (h : (Config.sha384 ((stagedIn .verifying on).partBytes 0) != ((stagedIn .verifying on).part 0).digest) = true) :
    ((stagedIn .verifying on).verify true).1 ≠ 0 := by
  have e : (List.range (mfParts (stagedIn .verifying on).journal.manifest)).any
      (fun i => Config.sha384 ((stagedIn .verifying on).partBytes i) != ((stagedIn .verifying on).part i).digest) = true := by
    have n : mfParts (stagedIn .verifying on).journal.manifest = 1 := by decide
    rw [n]; simpa using h
  unfold State.verify
  simp [e]

theorem wit_prepareInstant : let s := stagedIn .ready on
    (s.begin 80000000000).headWindow = some 200000000000 ∧ (s.begin 80000000000).dvt + 120000000000 = 200000000000 ∧
    (after (.prepareInstant 80000000000) s).updt.prepared = some 200000000000 ∧ (after (.prepareInstant 79999999999) s).updt.prepared = none ∧
    (after (.prepareInstant 80000000000) (stagedIn .receiving on)).updt.deferCnt = 1 := by decide

/-- The head with the window prepared, its vote and its report. -/
def headed (vote : Nat) (st : Option Nat) : State :=
  let s := stagedIn .ready on
  { s with updt := { s.updt with prepared := some 200000000000, members := [{ ready := true, vote := vote, state := st, result := 0 }] } }

theorem wit_voteDeadline : (headed 1 none).isHead = true ∧ ((headed 1 none).begin 140000000000).dvt + 60000000000 = 200000000000 ∧
    (after (.voteDeadline 140000000000) (headed 1 none)).updt.deferCnt = 1 ∧ (after (.voteDeadline 140000000000) (headed 0 none)).updt.deferCnt = 0 ∧
    (after (.voteDeadline 139999999999) (headed 1 none)).updt.deferCnt = 0 := by decide

theorem wit_stateSample : ((headed 0 none).begin 198000000000).dvt + 2000000000 = 200000000000 ∧ (headed 0 none).updt.sampled = none ∧
    (after (.stateSample 197999999999) (headed 0 none)).updt.sampled = none := by decide

theorem wit_decisionInstant : ((headed 0 none).begin 199500000000).dvt + 500000000 = 200000000000 ∧
    (after (.decisionInstant 199500000000) (headed 0 (some 0))).journal.committed = some 200000000000 ∧
    (after (.decisionInstant 199500000000) (headed 0 (some 1))).updt.decided = some 200000000000 ∧
    (after (.decisionInstant 199499999999) (headed 0 (some 0))).journal.state = .ready := by decide

/-- The module committed to the window at 200 s. -/
def committed : State := let s := stagedIn .committed on; { s with journal := { s.journal with committed := some 200000000000 } }

/-- A standing vehicle: STILL names the constant 1 or the pose says so. -/
def standing : State :=
  { committed with tim := { committed.tim with pose := { committed.tim.pose with rcd := bytes 76 [(7, [0x0B])] } } }

theorem wit_activation : standing.journal.committed = some 200000000000 ∧ standing.updOn = true ∧ (standing.begin 200000049999).dvt = 200000049999 ∧
    (standing.begin 200000000000).reasons = 0 := by decide

theorem wit_lateActivation : (committed.begin 200000000000).reasons ≠ 0 ∧ (standing.begin 260000000000).reasons = 0 ∧ standing.tim.dvtSet = true ∧
    (after (.lateActivation 199999999999 pIn) standing).journal = standing.journal := by decide

theorem wit_trialConfirm : let s0 := stagedIn .trial on
    let s : State := { s0 with updt := { s0.updt with trialBoot := true, normalSince := some 0, settingsOk := true, regionFault := false } }
    s.boot.fallback = false ∧ mfConfirm s.journal.manifest = 10000000000 ∧ mfHostConfirm s.journal.manifest = false ∧
    (List.range 10).all (fun n => s.region n != .fault) ∧
    (after (.trialConfirm 10000000000) s).journal.state = .confirmed ∧ (after (.trialConfirm 9999999999) s).journal.state = .trial := by decide

/-! Freezes and the test access port (22). -/

/-- `on` armed by the strap, and with a session. -/
def armed : State := { host with boot := { host.boot with svcEn := true } }

theorem wit_freezeN : armed.dbg.phase = .run ∧ (armed.begin 1000000100).armed = true ∧ armed.pwr.supply = .normal ∧
    (after (.freezeN 1000000100) armed).dbg.frzCnt = 1 ∧ (after (.freezeN 1000000100) on).dbg.ignored = 1 ∧
    (after (.freezeN 1000000100) { on with dbg := { on.dbg with phase := .frozen, mask := 2 } }).dbg.mask = 63 := by decide

theorem wit_freeze : armed.ready r0 2 14 = true ∧ armed.dbg.pendingFull = none ∧ (armed.begin r0.opt).armed = true ∧
    (host.begin r0.opt).armed = false ∧ (BitVec.ofNat 6 ((0x20 : Byte).toNat ||| 2) : BitVec 6).getLsbD rNET = true ∧
    (after (.freeze r0 0x3F) armed).dbg.pendingFull = some 1001000100 ∧ (after (.freeze r0 0) armed).dbg.mask = 2 ∧
    (after (.freeze r0 0) host).dbg.phase = .run := by decide

theorem wit_freezeHoldExpiry : let s : State := { on with regions := put on.regions 9 { Region.reset with st := .frozen }, dbg := { on.dbg with since := some 0 } }
    s.region (6 + 3) = .frozen ∧ (after (.freezeHoldExpiry 2000000000 3) s).dbg.holdExpired = true ∧
    (after (.freezeHoldExpiry 1979999999 3) s).dbg.holdExpired = false := by decide

theorem wit_freezeSupplyFail : let s : State := { on with dbg := { on.dbg with phase := .frozen } }
    s.dbg.phase = .frozen ∧ on.dbg.phase ≠ .frozen ∧
    (after (.freezeSupplyFail 1000000100 (volts 12000)) on).pwr.supply = .normal := by decide

/-- `host` in a freeze. -/
def frozen (full : Bool) : State :=
  { host with dbg := { host.dbg with phase := .frozen, full := full, mask := 2, began := some 5 },
              regions := put host.regions rCTL { Region.reset with st := .frozen } }

theorem wit_thaw : (frozen false).ready r0 2 14 = true ∧ (frozen false).dbg.full = false ∧ (frozen false).region rCTL = .frozen ∧
    (frozen false).clk.running = true ∧ (after (.thaw r0) (frozen false)).dbg.phase = .run ∧
    (after (.thaw r0) (frozen true)).dbg.phase = .frozen := by decide

theorem wit_tapThaw : (after (.tapThaw 1000000100) (frozen true)).region rCTL = .run ∧ (after (.tapThaw 1000000100) on).dbg.ir = 0x20 := by decide

theorem wit_tapReset : State.reset.pwr.supply = .off ∧ (after (.tapReset 5 pIn) State.reset).dbg.ir = 0x21 ∧ on.pwr.supply ≠ .off := by decide

theorem wit_tapIdcode : (after .tapIdcode on).out = [.tdo 32 0x188409A7] ∧ (after .tapIdcode State.reset).out = [] := by decide

theorem wit_tapSel : (after (.tapSel 0xFFFFF2FD) on).dbg.selTarget = 13 ∧ (after (.tapSel 0xFFFFF2FD) on).dbg.selChain = 0xF2 := by decide

theorem wit_tapChain : (after .tapChain on).dbg.ir = 0x11 ∧ (after .tapChain (frozen true)).dbg.ir = 0x11 ∧
    (frozen true).region (frozen true).dbg.selTarget = .run ∧ (frozen true).region rCTL = .frozen ∧ rCTL < 10 ∧
    (frozen true).dbg.phase = .frozen ∧ (frozen true).dbg.full = true := by decide

theorem wit_tapMaddr : (after (.tapMaddr 0xFFFFFFFF) on).dbg.maddr = 0xFFFFFFF8 := by decide

theorem wit_tapMdata : (after .tapMdata on).out = [.tdo 72 (2 ^ 64)] ∧ (after .tapMdata on).dbg.maddr = 8 ∧ (0xFFFFFFF8 : Word).toNat + 8 = tapSize 15 ∧
    (after .tapMdata { frozen true with dbg := { (frozen true).dbg with selTarget := 15, maddr := 0xFFFFFFF8 } }).dbg.maddr = 0 := by decide

theorem wit_tapBypass : (after .tapBypass on).out = [.tdo 1 0] := by decide

theorem wit_tapTrst : (after .tapTrst State.reset).dbg.ir = 1 := by decide

/-! The whole machine (00, 05, 24). -/

theorem wit_step : step { on with pending := [.tapTrst, .tapBypass] } = .next { on with pending := [.tapBypass], dbg := { on.dbg with ir := 1 } } ∧
    State.reset.pending = [] ∧ step State.reset = .next State.reset := ⟨rfl, rfl, rfl⟩

/-- `host` with an operation in flight on the control channel. -/
def busy : State := { host with hst := { host.hst with sess := upd host.hst.sess 0 fun x => { x with control := true } } }

theorem wit_busy : busy.heard rc = true ∧ (busy.sess 0).hello = true ∧ rc.ring = controlRing ∧ (busy.sess 0).control = true ∧
    (after (.ping rc) busy).hst.busyCnt = 1 := by decide

theorem wit_badRing : host.heard { r0 with ring := 256 } = true ∧ host.heard { r0 with ring := 3 } = true ∧ (rd host.hst.ring 3).isOpen = false ∧
    (host.sess 0).hello = true ∧ (after (.recInfo { r0 with ring := 3 }) host).out.length = 1 := by decide

theorem wit_kept : State.reset.Kept ∧ ¬ ({ State.reset with grp := { State.reset.grp with live := [(8, 1), (4, 1)] } } : State).Kept := by
  unfold State.Kept Rising; decide

theorem wit_stepKept : ∃ s t : State, s.Kept ∧ step s = .next t :=
  ⟨State.reset, State.reset, wit_kept.1, rfl⟩

/-! Ill-formed commands: one for each check of Instr.wf. -/

theorem ill_ring : Instr.wf (.ping { r0 with ring := 65536 }) = false ∧ Instr.wf (.ping { r0 with ring := 65535 }) = true := by decide

theorem ill_status : Instr.wf (.powerLinkStatusFrame 0 default) = false := by decide

theorem ill_dieHot : Instr.wf (.dieHot 0 0 1450 (List.replicate 9 0)) = false := by decide

theorem ill_smTimer : Instr.wf (.smTimerExpiry 0 0 16) = false ∧ Instr.wf (.smTimerExpiry 0 0 15) = true := by decide

theorem ill_handshake : Instr.wf (.sessionHandshake { shake with level := 3 }) = false ∧ Instr.wf (.sessionHandshake shake) = true := by decide

theorem ill_regWrite (v : List Word) (h : v.length = 65536) : Instr.wf (.regWrite r0 0 v) = false := by
  simp [Instr.wf, h]

theorem ill_image : Instr.wf (.inputImagePublish default) = false := by decide

theorem ill_spelling : Instr.wf (.calStart r0 2) = false ∧ Instr.wf (.calStop r0 1) = false ∧ Instr.wf (.calEnter r0 4) = false ∧
    Instr.wf (.calAbort r0 3) = false ∧ Instr.wf (.tare r0 0) = false ∧ Instr.wf (.whippetRequest r0 0) = false ∧
    Instr.wf (.whippetNormal r0 1) = false ∧ Instr.wf (.coldRestart r0 2) = false ∧ Instr.wf (.engage r0 2) = false ∧
    Instr.wf (.disengage r0 1) = false ∧ Instr.wf (.clearRaster r0 2) = false ∧ Instr.wf (.resetTotals r0 1) = false ∧
    Instr.wf (.tapArm r0 0 0x3F) = false ∧ Instr.wf (.tapDisarm r0 0 0x40) = false := by decide

theorem ill_spelling2 : Instr.wf (.valveRestart r0 0x200) = false ∧ Instr.wf (.valveClear r0 0x100) = false ∧ Instr.wf (.valveClearBank r0 0) = false ∧
    Instr.wf (.pswClear r0 0) = false ∧ Instr.wf (.pswClearLatch r0 0x100) = false ∧ Instr.wf (.pswRestart r0 0x200) = false ∧
    Instr.wf (.coolingClear r0 0x200) = false ∧ Instr.wf (.canTxmSend r0 0) = false ∧ Instr.wf (.canRecover r0 0x20) = false ∧
    Instr.wf (.canAbortAll r0 0x10) = false ∧ Instr.wf (.canAbortTag r0 0x40) = false ∧ Instr.wf (.canDetect r0 0x30) = false := by decide

theorem ill_hit : Instr.wf (.lossHit 0 default) = false := by decide

theorem ill_epoch : Instr.wf (.measurementEpoch 0 [{ (default : MeasIn) with ch := 384 }] [default, default] [0, 0]) = false ∧
    Instr.wf (.measurementEpoch 0 [] [default] [0, 0]) = false ∧ Instr.wf (.measurementEpoch 0 [] [default, default] [0]) = false := by decide

theorem ill_lengths : Instr.wf (.microcodeAdvance 0 0 [1]) = false ∧
    Instr.wf (.imuSample 0 [] true) = false := by decide

theorem ill_can : Instr.wf (.canFrame 0 0 0 { cf with id := 0x800 } false true 0 []) = false ∧
    Instr.wf (.canFrame 0 0 0 { cf with data := List.replicate 9 0 } false true 0 []) = false ∧
    Instr.wf (.canError 0 0 default) = false ∧ Instr.wf (.canTxsSend r0 0 0 [] 1) = false ∧
    Instr.wf (.canTxsSend r0 0 0 (List.replicate 16 0) 0) = false := by decide

theorem ill_address : Instr.wf (.echoRequest 0 0 false false none [1, 2, 3] []) = false ∧
    Instr.wf (.addressResolution 0 0 false true none [1, 2, 3, 4]) = false := by decide


end Sys2Proof.Tests
end

/-! O27, register reads and writes (00 R6; 03 R81; 05 R150 to R152): what a refused request leaves, what a write to a register of a
commit group does, found row by row in the register tables, and what the lists of registers that an operation names do. -/

namespace Sys2Proof.Machine

/-! A request that is refused. -/

theorem State.ready_hello {s : State} {r : HostReq} {level feature : Nat} (h : s.ready r level feature = true) :
    (s.sess r.sess).hello = true := by
  simp only [State.ready, Bool.and_eq_true] at h
  obtain ⟨⟨⟨⟨⟨⟨⟨⟨⟨⟨⟨-, hello⟩, -⟩, -⟩, -⟩, -⟩, -⟩, -⟩, -⟩, -⟩, -⟩, -⟩ := h
  exact hello

/-- A ready request that is refused: one reply with the status, and nothing but the host block's own bookkeeping. -/
theorem hostOp_refuse_effect {r : HostReq} {op level feature : Nat} {run : State → OpRes} {s t : State} {st : Nat} {pl : List Byte}
    (h : s.ready r level feature = true) (hr : run (s.admitted r op) = .refuse st pl) (ht : hostOp r op level feature run s = t) :
    s.answers t r op st pl ∧ s.hostKeeps t r ∧ t = { s with clk := t.clk, hst := t.hst, out := t.out } := by
  obtain ⟨h8, -, -⟩ := s.ready_parts h
  have hs := State.accept_sess_same (s.begin r.opt) r h8
  have hl : (((s.begin r.opt).accept r).sess r.sess).hello = true := by rw [hs]; exact s.ready_hello h
  have ho : ((s.begin r.opt).accept r).out = [] := by rw [State.accept_eq]; rfl
  have e : t = _ := (ht.symm.trans (hostOp_refuse h hr)).trans (State.reply_hello hl ho op st false pl)
  have hx : t.sess r.sess = { acceptSeq (s.sess r.sess) r.seq with last := r.opt, txSeq := (s.sess r.sess).txSeq + 1 } := by
    rw [e]
    refine (State.sess_updSess_same _ h8 _).trans ?_
    rw [hs]
    rfl
  refine ⟨?_, ⟨?_, ?_, ?_, ?_⟩, ?_⟩
  · unfold State.answers
    rw [e, hs]
    rfl
  · rw [e, State.accept_eq]
    rfl
  · rw [e, State.accept_eq]
    rfl
  · intro k hk
    rw [e]
    exact (State.sess_updSess_ne _ (Ne.symm hk) _).trans (State.accept_sess_ne _ r k hk)
  · rw [hx]
    rfl
  · rw [e, State.accept_eq]
    rfl

/-! Reads. -/

/-- Admission changes nothing that a read's checks look at. -/
theorem State.readStatus_admitted (s : State) (r : HostReq) (op addr : Nat) : (s.admitted r op).readStatus addr = s.readStatus addr := by
  rw [State.admitted_eq]; rfl

theorem State.admitted_out (s : State) (r : HostReq) (op : Nat) : (s.admitted r op).out = [] := by
  rw [State.admitted_eq]

theorem checkReads_none {s : State} {l : List Nat} (h : ∀ a ∈ l, s.readStatus a = none) : s.checkReads l = none := by
  induction l with
  | nil => rfl
  | cons a t ih =>
    simp only [List.mem_cons, forall_eq_or_imp] at h
    simp [State.checkReads, h.1, ih h.2]

/-- A read of registers that can all be read answers their values, with the latches that the reads make. -/
theorem readOp_done {s : State} {l : List Nat} (h : ∀ a ∈ l, s.readStatus a = none) : readOp l s = .done (readAll s l).2 (readAll s l).1 := by
  simp [readOp, checkReads_none h]

/-- A ready request that reads registers which can all be read. -/
theorem hostOp_reads {r : HostReq} {op level feature : Nat} {run : State → OpRes} {s t : State} {l : List Nat}
    (h : s.ready r level feature = true) (hr : run (s.admitted r op) = readOp l (s.admitted r op)) (hl : ∀ a ∈ l, s.readStatus a = none)
    (ht : hostOp r op level feature run s = t) :
    s.hostKeeps t r ∧ s.answers t r op stOK (readAll (s.admitted r op) l).1 ∧
      t = { (readAll (s.admitted r op) l).2 with hst := t.hst, out := t.out } := by
  have k := readAll_same (s.admitted r op) l
  have hd : run (s.admitted r op) = .done (readAll (s.admitted r op) l).2 (readAll (s.admitted r op) l).1 := by
    rw [hr, readOp_done fun a ha => by rw [State.readStatus_admitted, hl a ha]]
  obtain ⟨ha, hk, ht⟩ := ht ▸ hostOp_effect h hd (k.hst (by decide)) (k.clk (by decide)) ((k.out (by decide)).trans (s.admitted_out r op))
  exact ⟨hk, ha, ht⟩

/-! The registers of access SH, and their addresses. -/

/-- Row `w` of the table of block `blk` fits its register `id`, whose first index there is `first`: where `id` is wholly of access SH, a write
changes the shadow word at the address that the row gives the index, and nothing else (00 R6; 24 R566, R568). -/
def ShadowRow {α : Type} (blk : Nat) (id : RegId) (first : Nat) (w : RegRow α) : Prop :=
  id.isSH = true → ∀ (s : State) (r : HostReq) (i : Nat) (v : Word), i < w.count →
    s.regWrite r id (first + i) v = s.setShadow (blk * 65536 + w.base + w.step * i) v

theorem shadowRow_of_not_isSH {α : Type} {blk first : Nat} {id : RegId} {w : RegRow α} (h : id.isSH = false) : ShadowRow blk id first w := by
  intro hs
  rw [h] at hs
  cases hs

theorem canWord_eq (n j : Nat) : canWord n j = 0xE1000 + 4 * j + 16 * n := by unfold canWord; omega
theorem camWordAt_eq (n j : Nat) : camWordAt n j = 0xA1000 + 4 * j + 64 * n := by unfold camWordAt; omega

/-! Each table with SH registers, row by row: a row whose register is not SH has nothing to show, and for the others the address that the
write names is the row's own. -/

theorem sysRows_shadow : ∀ w ∈ sysRows, ShadowRow 0x00 (.sys w.reg) 0 w := by
  simp +contextual [sysRows, one, arr, ShadowRow, RegId.isSH, State.regWrite, State.sysWrite]
theorem flwRows_shadow : ∀ w ∈ flwRows, ShadowRow 0x03 (.flw w.reg) 0 w := by
  simp +contextual [flwRows, one, arr, ShadowRow, RegId.isSH, State.regWrite, State.flwWrite]
theorem lopRows_shadow : ∀ w ∈ lopRows, ShadowRow 0x04 (.lop w.reg) 0 w := by
  simp [lopRows, one, arr, ShadowRow, RegId.isSH, State.regWrite, State.lopWrite]
theorem prfRows_shadow : ∀ w ∈ prfRows, ShadowRow 0x05 (.prf w.reg) 0 w := by
  simp [prfRows, one, arr, ShadowRow, RegId.isSH, State.regWrite, State.prfWrite]
theorem navRows_shadow : ∀ w ∈ navRows, ShadowRow 0x06 (.nav w.reg) 0 w := by
  simp +contextual [navRows, one, arr, ShadowRow, RegId.isSH, State.regWrite, State.navWrite]
theorem strRows_shadow : ∀ w ∈ strRows, ShadowRow 0x08 (.str w.reg) 0 w := by
  simp +contextual [strRows, one, arr, ShadowRow, RegId.isSH, State.regWrite, State.strWrite]
theorem yldRows_shadow : ∀ w ∈ yldRows, ShadowRow 0x09 (.yld w.reg) 0 w := by
  simp +contextual [yldRows, one, arr, ShadowRow, RegId.isSH, State.regWrite, State.yldWrite]
theorem visRows_shadow : ∀ w ∈ visRows, ShadowRow 0x0A (.vis w.reg) 0 w := by
  simp [visRows, one, arr, ShadowRow, RegId.isSH, State.regWrite, State.visWrite, camWordAt_eq]
theorem vlvRows_shadow : ∀ w ∈ vlvRows, ShadowRow 0x0B (.vlv w.reg.1) w.reg.2 w := by
  simp [vlvRows, one, arr, ShadowRow, RegId.isSH, State.regWrite, State.vlvWrite]
theorem pswRows_shadow : ∀ w ∈ pswRows, ShadowRow 0x0C (.psw w.reg.1) w.reg.2 w := by
  simp [pswRows, one, arr, ShadowRow, RegId.isSH, State.regWrite, State.pswWrite]
theorem canRows_shadow : ∀ w ∈ canRows, ShadowRow 0x0E (.can w.reg) 0 w := by
  simp [canRows, one, arr, ShadowRow, RegId.isSH, State.regWrite, State.canWrite, canWord_eq]

/-- A register found stands in a row, at the offset that the row gives its index. -/
theorem findReg_some {α : Type} {rows : List (RegRow α)} {off : Nat} {x : α × Nat × Word} (h : findReg rows off = some x) :
    ∃ w ∈ rows, x.1 = w.reg ∧ x.2.1 < w.count ∧ off = w.base + w.step * x.2.1 := by
  obtain ⟨w, hw, rfl⟩ := Option.map_eq_some_iff.mp h
  have hh := List.find?_some hw
  simp only [RegRow.holds, Bool.and_eq_true, decide_eq_true_eq, beq_iff_eq] at hh
  obtain ⟨⟨hlo, hhi⟩, hmod⟩ := hh
  have hdiv : w.step * ((off - w.base) / w.step) = off - w.base := by
    have := Nat.div_add_mod (off - w.base) w.step
    omega
  refine ⟨w, List.mem_of_find?_eq_some hw, rfl, Nat.div_lt_of_lt_mul ?_, ?_⟩
  · rw [Nat.mul_comm]; omega
  · show off = w.base + w.step * ((off - w.base) / w.step)
    omega

/-- A write to an SH register found in a block's table goes to the shadow word at its own offset. -/
theorem hitOf_shadow {α : Type} {f : α → RegId} {rows : List (RegRow α)} {blk off : Nat} {h : RegHit}
    (ht : ∀ w ∈ rows, ShadowRow blk (f w.reg) 0 w) (hh : hitOf f rows off = some h) (hs : h.id.isSH = true)
    (s : State) (r : HostReq) (v : Word) : s.regWrite r h.id h.idx v = s.setShadow (blk * 65536 + off) v := by
  obtain ⟨x, hx, rfl⟩ := Option.map_eq_some_iff.mp hh
  obtain ⟨w, hw, hreg, hlt, hoff⟩ := findReg_some hx
  dsimp only at hs ⊢
  rw [hreg] at hs ⊢
  rw [hoff, ← Nat.add_assoc, ← ht w hw hs s r _ v hlt, Nat.zero_add]

/-- The same for a table whose rows carry a first index. -/
theorem hitOf2_shadow {α : Type} {f : α → RegId} {rows : List (RegRow (α × Nat))} {blk off : Nat} {h : RegHit}
    (ht : ∀ w ∈ rows, ShadowRow blk (f w.reg.1) w.reg.2 w) (hh : hitOf2 f rows off = some h) (hs : h.id.isSH = true)
    (s : State) (r : HostReq) (v : Word) : s.regWrite r h.id h.idx v = s.setShadow (blk * 65536 + off) v := by
  obtain ⟨x, hx, rfl⟩ := Option.map_eq_some_iff.mp hh
  obtain ⟨w, hw, hreg, hlt, hoff⟩ := findReg_some hx
  dsimp only at hs ⊢
  rw [hreg] at hs ⊢
  rw [hoff, ← Nat.add_assoc, ← ht w hw hs s r _ v hlt]

/-- A write to an SH register goes to its shadow word alone (00 R6; 03 R81): the table of each block fits, or has no SH register. -/
theorem regWrite_of_isSH {a : Nat} {h : RegHit} (ha : findAddr a = some h) (hs : h.id.isSH = true) (s : State) (r : HostReq) (v : Word) :
    s.regWrite r h.id h.idx v = s.setShadow a v := by
  unfold findAddr at ha
  dsimp only at ha
  split at ha
  · cases ha
  · have e : a / 65536 * 65536 + a % 65536 = a := by omega
    rw [← e]
    split at ha
    next hb => rw [hb]; exact hitOf_shadow sysRows_shadow ha hs s r v
    next => exact hitOf_shadow (fun _ _ => shadowRow_of_not_isSH rfl) ha hs s r v
    next => exact hitOf_shadow (fun _ _ => shadowRow_of_not_isSH rfl) ha hs s r v
    next hb => rw [hb]; exact hitOf_shadow flwRows_shadow ha hs s r v
    next hb => rw [hb]; exact hitOf_shadow lopRows_shadow ha hs s r v
    next hb => rw [hb]; exact hitOf_shadow prfRows_shadow ha hs s r v
    next hb => rw [hb]; exact hitOf_shadow navRows_shadow ha hs s r v
    next => exact hitOf_shadow (fun _ _ => shadowRow_of_not_isSH rfl) ha hs s r v
    next hb => rw [hb]; exact hitOf_shadow strRows_shadow ha hs s r v
    next hb => rw [hb]; exact hitOf_shadow yldRows_shadow ha hs s r v
    next hb => rw [hb]; exact hitOf_shadow visRows_shadow ha hs s r v
    next hb => rw [hb]; exact hitOf2_shadow vlvRows_shadow ha hs s r v
    next hb => rw [hb]; exact hitOf2_shadow pswRows_shadow ha hs s r v
    next => exact hitOf_shadow (fun _ _ => shadowRow_of_not_isSH rfl) ha hs s r v
    next hb => rw [hb]; exact hitOf_shadow canRows_shadow ha hs s r v
    next => exact hitOf_shadow (fun _ _ => shadowRow_of_not_isSH rfl) ha hs s r v
    next => exact hitOf_shadow (fun _ _ => shadowRow_of_not_isSH rfl) ha hs s r v
    next => exact hitOf_shadow (fun _ _ => shadowRow_of_not_isSH rfl) ha hs s r v
    next => exact hitOf_shadow (fun _ _ => shadowRow_of_not_isSH rfl) ha hs s r v
    next => cases ha

/-- No SH register has a W1C bit. -/
theorem w1c_of_isSH {id : RegId} (h : id.isSH = true) : id.w1c = 0 := by
  unfold RegId.isSH at h
  split at h
  any_goals rfl
  cases h

/-- A write at the address of an SH register changes the shadow word there alone. -/
theorem writeAt_of_isSH {a : Nat} {h : RegHit} (ha : findAddr a = some h) (hs : h.id.isSH = true) (s : State) (r : HostReq) (v : Word) :
    s.writeAt r a v = s.setShadow a v := by
  have hf : s.freshBits h.id h.idx = 0#32 := by simp [State.freshBits, w1c_of_isSH hs]
  rw [writeAt_eq ha, hf, regWrite_of_isSH ha hs, BitVec.not_zero, BitVec.and_allOnes]

/-! Writes of a list of registers. -/

/-- A write that passes its checks is to an address that is defined. -/
theorem findAddr_of_writeStatus_none {s : State} {r : HostReq} {a : Nat} {v : Word} (h : s.writeStatus r a v = none) :
    ∃ x, findAddr a = some x := by
  unfold State.writeStatus at h
  split at h
  · cases h
  · exact ⟨_, ‹_›⟩

theorem findAddr_of_checkWrites_none {s : State} {r : HostReq} {l : List (Nat × Word)} (h : checkWrites r s l = none) :
    ∀ p ∈ l, ∃ x, findAddr p.1 = some x := by
  induction l generalizing s with
  | nil => simp
  | cons p t ih =>
    unfold checkWrites at h
    split at h
    · cases h
    next hp =>
      simp only [List.mem_cons, forall_eq_or_imp]
      exact ⟨findAddr_of_writeStatus_none hp, ih h⟩

theorem writeOp_done {s : State} {r : HostReq} {l : List (Nat × Word)} (h : checkWrites r s l = none) :
    writeOp r l s = .done (s.writeAll r l) [] := by
  simp [writeOp, h]

theorem writeOp_refuse {s : State} {r : HostReq} {l : List (Nat × Word)} {st a : Nat} (h : checkWrites r s l = some (st, a)) :
    writeOp r l s = .refuse st (leBytes 4 a) := by
  simp [writeOp, h]

/-- Writes to SH registers change their shadow words alone, in order (00 R6; 03 R81). -/
theorem writeAll_of_isSH {r : HostReq} {l : List (Nat × Word)} (hd : ∀ p ∈ l, ∃ x, findAddr p.1 = some x)
    (hs : ∀ p ∈ l, ∀ h, findAddr p.1 = some h → h.id.isSH = true) (s : State) :
    s.writeAll r l = { s with grp := { s.grp with shadow := l.foldl (fun x p => bindN x p.1 p.2) s.grp.shadow } } := by
  induction l generalizing s with
  | nil => rfl
  | cons p t ih =>
    simp only [List.mem_cons, forall_eq_or_imp] at hd hs
    obtain ⟨⟨x, hx⟩, hd⟩ := hd
    obtain ⟨hp, hs⟩ := hs
    have hw := writeAt_of_isSH hx (hp x hx) s r p.2
    calc s.writeAll r (p :: t) = (s.writeAt r p.1 p.2).writeAll r t := rfl
      _ = _ := by rw [hw, ih hd hs]; rfl

/-- A ready request that writes registers which all pass their checks. -/
theorem hostOp_writes {r : HostReq} {op level feature : Nat} {run : State → OpRes} {s : State} {l : List (Nat × Word)}
    (h : s.ready r level feature = true) (hr : run (s.admitted r op) = writeOp r l (s.admitted r op))
    (hc : checkWrites r (s.admitted r op) l = none) :
    hostOp r op level feature run s = ((s.admitted r op).writeAll r l).complete r stOK [] := by
  rw [hostOp_ready h, hr, writeOp_done hc]

/-- The same where all of them are SH registers: their shadow words take the values, and nothing else changes. -/
theorem hostOp_writes_shadow {r : HostReq} {op level feature : Nat} {run : State → OpRes} {s t : State} {l : List (Nat × Word)}
    (h : s.ready r level feature = true) (hr : run (s.admitted r op) = writeOp r l (s.admitted r op))
    (hc : checkWrites r (s.admitted r op) l = none) (hs : ∀ p ∈ l, ∀ h, findAddr p.1 = some h → h.id.isSH = true)
    (ht : hostOp r op level feature run s = t) :
    s.answers t r op stOK [] ∧ s.hostKeeps t r ∧
      t = { s with clk := t.clk, hst := t.hst, out := t.out,
                   grp := { s.grp with shadow := l.foldl (fun x p => bindN x p.1 p.2) s.grp.shadow } } := by
  have hd := hr.trans (writeOp_done hc)
  rw [writeAll_of_isSH (findAddr_of_checkWrites_none hc) hs] at hd
  obtain ⟨ha, hk, ht⟩ := ht ▸ hostOp_effect h hd rfl rfl (s.admitted_out r op)
  have hclk : t.clk = (s.admitted r op).clk := by rw [ht]
  refine ⟨ha, hk, ht.trans ?_⟩
  rw [hclk, State.admitted_eq]

/-- A ready request that writes registers of which one fails its checks. -/
theorem hostOp_writes_refused {r : HostReq} {op level feature : Nat} {run : State → OpRes} {s t : State} {l : List (Nat × Word)} {st a : Nat}
    (h : s.ready r level feature = true) (hr : run (s.admitted r op) = writeOp r l (s.admitted r op))
    (hc : checkWrites r (s.admitted r op) l = some (st, a)) (ht : hostOp r op level feature run s = t) :
    s.answers t r op st (leBytes 4 a) ∧ s.hostKeeps t r ∧ t = { s with clk := t.clk, hst := t.hst, out := t.out } :=
  hostOp_refuse_effect h (hr.trans (writeOp_refuse hc)) ht

/-! The commands. -/

theorem within_true {x lo hi : Nat} (h1 : lo ≤ x) (h2 : x ≤ hi) : within x lo hi = true := by simp [within, h1, h2]

/-- Settles O27: each operation is the list operation that it names, and its ready request is admitted to that. -/
theorem registerOperations : Obligations.RegisterOperations := by
  unfold Obligations.RegisterOperations
  refine ⟨?read, ?batchRead, ?write, ?batchWrite, ?modify⟩
  case read =>
    intro s r a n h h1 h2 hl
    exact ⟨_, rfl, hostOp_reads h (if_pos (within_true h1 h2)) hl rfl⟩
  case batchRead =>
    intro s r l h h1 h2 hl
    exact ⟨_, rfl, hostOp_reads h (if_pos (within_true h1 h2)) (by simpa using hl) rfl⟩
  case write =>
    intro s r a l h1 h2 w h
    have hr (t : State) : (if within l.length 1 256 then writeOp r w t else .refuse stRANGE []) = writeOp r w t :=
      if_pos (within_true h1 h2)
    exact ⟨fun hc => ⟨_, rfl, hostOp_writes h (hr _) hc, fun hs => hostOp_writes_shadow h (hr _) hc hs rfl⟩,
      fun st x hc => ⟨_, rfl, hostOp_writes_refused h (hr _) hc rfl⟩⟩
  case batchWrite =>
    intro s r l h1 h2 w h
    have hr (t : State) : (if within l.length 1 64 then writeOp r w t else .refuse stRANGE []) = writeOp r w t :=
      if_pos (within_true h1 h2)
    exact ⟨fun hc => ⟨_, rfl, hostOp_writes h (hr _) hc⟩, fun st x hc => ⟨_, rfl, hostOp_writes_refused h (hr _) hc rfl⟩⟩
  case modify =>
    intro s r a mask v hit h hf u old w hw
    refine ⟨_, rfl, ?_⟩
    rw [hostOp_ready h]
    simp only [hf]
    rw [writeOp_one (v := mergeWord _ mask v hit.id.w1c) hw]
    rfl

end Sys2Proof.Machine

/-! What the statements of 01 share: a command that completes within the frame of its meaning, and what the start of a command leaves as it
was. -/

namespace Sys2Proof.Machine

/-- A command completes: it is enough to look at the states that its meaning answers, each within its frame. -/
theorem Completes.of_runs {c : Instr} {s u : State} {m : Nat} {P : State → Prop} (hr : Runs m u (exec c s))
    (h : ∀ t, exec c s = .next t → Same m u t → P t) : Completes c s P := by
  obtain ⟨t, e, hf⟩ := hr
  exact ⟨t, e, h t e hf⟩

/-- A command answers one next state. -/
theorem next_unique {c : Instr} {s t u : State} (e : exec c s = .next t) (e' : exec c s = .next u) : t = u := by
  cases e.symm.trans e'
  rfl

@[simp] theorem State.runs_begin (s : State) (o : Opt) (n : Nat) : (s.begin o).runs n = s.runs n := rfl

@[simp] theorem State.updDie_die (s : State) (d : Nat) (f : DieSt → DieSt) : (s.updDie d f).die = upd s.die d f := rfl

theorem State.region_updRegion_same (s : State) {n : Nat} (h : n < 10) (f : Region → Region) :
    (s.updRegion n f).region n = (f (rd s.regions n)).st :=
  congrArg Region.st (rd_upd_same _ h f)

theorem rd_mapIdxV {α : Type} {n : Nat} [Inhabited α] (v : Vector α n) (f : Nat → α → α) {i : Nat} (h : i < n) :
    rd (mapIdxV v f) i = f i (rd v i) := by
  simp [rd, mapIdxV, h]

/-- An element after the change of one: changed by it, or as it was. -/
theorem rd_upd_cases {α : Type} {n : Nat} [Inhabited α] (v : Vector α n) (i : Nat) (f : α → α) (k : Nat) :
    rd (upd v i f) k = f (rd v k) ∨ rd (upd v i f) k = rd v k := by
  by_cases hi : i = k
  · subst hi
    by_cases hn : i < n
    · exact .inl (rd_upd_same v hn f)
    · exact .inr (by rw [upd_of_ge v (Nat.not_lt.mp hn)])
  · exact .inr (rd_upd_ne v hi f)

/-- What a change of one element keeps of it, it keeps of every element. -/
theorem rd_upd_keeps {α β : Type} {n : Nat} [Inhabited α] (v : Vector α n) (i : Nat) {f : α → α} {p : α → β} (h : ∀ x, p (f x) = p x)
    (k : Nat) : p (rd (upd v i f) k) = p (rd v k) := by
  rcases rd_upd_cases v i f k with e | e <;> rw [e]
  exact h _

/-- Two changes of the same element. -/
theorem upd_upd {α : Type} {n : Nat} (v : Vector α n) (i : Nat) (f g : α → α) : upd (upd v i f) i g = upd v i fun x => g (f x) := by
  unfold upd
  split <;> simp_all

/-! Memory errors and window violations (01 R20, R21). -/

/-- Entering SHUTDOWN from a supply state in which the module is on (02 R52, R54). -/
theorem State.shutdown_pwr {s : State} (h : s.pwr.supply ≠ .off ∧ s.pwr.supply ≠ .shutdown) (reason : Nat) :
    (s.shutdown reason).pwr = { s.pwr with supply := .shutdown, shdnReason := BitVec.ofNat 4 reason } := by
  unfold State.shutdown
  rw [if_neg (not_or.mpr h)]
  refine Same.pwr (m := 0x3825bb1030) (Same.fold _ (Same.next (State.leaveWhippet_same _ _ |>.mono (by decide))
    (State.shutdownSteps_same _) (by decide)) fun u i hu => ?_) (by decide)
  exact Same.ite (hu.next (State.endSession_same _ _) (by decide)) hu

/-- The notice of a unit's fault changes the host block, the recorder, the draws and the messages alone (20 R500). -/
@[simp] theorem State.unitFault_flw (s : State) (b u e : Nat) : (s.unitFault b u e).flw = s.flw :=
  (s.unitFault_same b u e).flw (by decide)
@[simp] theorem State.unitFault_vis (s : State) (b u e : Nat) : (s.unitFault b u e).vis = s.vis :=
  (s.unitFault_same b u e).vis (by decide)
@[simp] theorem State.unitFault_can (s : State) (b u e : Nat) : (s.unitFault b u e).can = s.can :=
  (s.unitFault_same b u e).can (by decide)
@[simp] theorem State.unitFault_eth (s : State) (b u e : Nat) : (s.unitFault b u e).eth = s.eth :=
  (s.unitFault_same b u e).eth (by decide)

/-- A dropped frame is dropped at its own port (14 R378). -/
theorem State.dropFrame_cam_ne (s : State) {n k : Nat} (h : k ≠ n) (r : Nat) : rd (s.dropFrame n r).vis.cam k = rd s.vis.cam k := by
  unfold State.dropFrame
  dsimp only
  split
  · rfl
  · split <;> exact rd_upd_ne _ (Ne.symm h) _

/-- A faulted camera port: its own record shows the fault, and no other port's changes. -/
theorem State.faultUnit_cam (s : State) (n : Fin 6) (code : Byte) :
    (rd (s.faultUnit (.cam n) code).vis.cam n.val).fault = true ∧ (rd (s.faultUnit (.cam n) code).vis.cam n.val).lastErr = code ∧
      ∀ k, k ≠ n.val → rd (s.faultUnit (.cam n) code).vis.cam k = rd s.vis.cam k := by
  have e : (s.faultUnit (.cam n) code).vis.cam =
      upd (s.dropFrame n code.toNat).vis.cam n.val fun c => { c with fault := true, lastErr := code } :=
    congrArg VisSt.cam (State.unitFault_vis _ _ _ _)
  rw [e]
  refine ⟨by rw [rd_upd_fin], by rw [rd_upd_fin], fun k hk => ?_⟩
  rw [rd_upd_ne _ (Ne.symm hk), State.dropFrame_cam_ne s hk]

/-- The state once the error of a word of no unit shows: its region is in FAULT (01 R21). -/
def State.regionFault (s : State) (n : Nat) : State :=
  { s.updRegion n (fun r => { r with eccUe := true, st := .fault }) with updt := { s.updt with regionFault := true } }

@[simp] theorem State.regionFault_pwr (s : State) (n : Nat) : (s.regionFault n).pwr = s.pwr := rfl

section
variable {s : State} {o : Opt}

theorem execMemoryCorrectable_running {n : Fin 10} (h : s.runs n.val = true) :
    execMemoryCorrectable o n s = .next ((s.begin o).updRegion n.val fun x => { x with eccCe := true }) :=
  congrArg Host.Outcome.next (if_pos h)

theorem execMemoryCorrectable_stopped {n : Fin 10} (h : s.runs n.val = false) : execMemoryCorrectable o n s = .next (s.begin o) :=
  congrArg Host.Outcome.next (if_neg (by simp [h]))

theorem execMemoryUncorrectable_unit {u : UnitRef} (h : s.runs u.region = true) : execMemoryUncorrectable o (.unit u) s =
    .next (((s.begin o).updRegion u.region fun r => { r with eccUe := true }).faultUnit u 0xF1) :=
  congrArg Host.Outcome.next (if_pos h)

/-- An error in CTL, SNS or a power region brings the orderly shutdown. -/
theorem execMemoryUncorrectable_shutdown {n : Fin 10} {l : List Nat} (h : s.runs n.val = true)
    (hn : n.val = 1 ∨ n.val = 2 ∨ 6 ≤ n.val) :
    execMemoryUncorrectable o (.region n l) s = .next (((s.begin o).regionFault n.val).shutdown 5) :=
  congrArg Host.Outcome.next ((if_neg (by simp [h])).trans (if_pos hn))

/-- An error in another region marks the dependent outputs invalid. -/
theorem execMemoryUncorrectable_marked {n : Fin 10} {l : List Nat} (h : s.runs n.val = true)
    (hn : ¬ (n.val = 1 ∨ n.val = 2 ∨ 6 ≤ n.val)) : execMemoryUncorrectable o (.region n l) s =
      .next { (s.begin o).regionFault n.val with boot := { s.boot with bad := s.boot.bad ++ l } } :=
  congrArg Host.Outcome.next ((if_neg (by simp [h])).trans (if_neg hn))

theorem execWindowViolation_running {u : UnitRef} (h : s.runs u.region = true) :
    execWindowViolation o u s = .next ((s.begin o).faultUnit u 0xF0) :=
  congrArg Host.Outcome.next (if_pos h)

theorem execWindowViolation_stopped {u : UnitRef} (h : s.runs u.region = false) : execWindowViolation o u s = .next (s.begin o) :=
  congrArg Host.Outcome.next (if_neg (by simp [h]))

end

/-- Settles O8: the meaning of each command is a case split on the owner and on whether its region runs; a unit's fault keeps the regions,
the notice of a fault keeps the faulted unit's block, and the orderly shutdown keeps all but its reason of the power block. -/
theorem memoryAndWindowFaults : Obligations.MemoryAndWindowFaults := by
  unfold Obligations.MemoryAndWindowFaults
  refine ⟨?corrected, ?uncorrected, ?window⟩
  case corrected =>
    intro s o n
    refine Completes.of_runs (execMemoryCorrectable_runs o n s) fun t e hf => ⟨hf.eq_mix, fun h => ?_, fun h => ?_⟩
    · obtain rfl := next_unique e (execMemoryCorrectable_running h)
      rfl
    · exact next_unique e (execMemoryCorrectable_stopped h)
  case uncorrected =>
    intro s o w
    refine Completes.of_runs (execMemoryUncorrectable_runs o w s) fun t e hf => ⟨hf.eq_mix, ?unit, ?region⟩
    case unit =>
      rintro u ⟨rfl, h⟩
      obtain rfl := next_unique e (execMemoryUncorrectable_unit h)
      exact (State.faultUnit_same _ u 0xF1).regions (by decide)
    case region =>
      rintro n l ⟨rfl, h⟩
      by_cases hn : n.val = 1 ∨ n.val = 2 ∨ 6 ≤ n.val
      · obtain rfl := next_unique e (execMemoryUncorrectable_shutdown h hn)
        have keeps := State.shutdown_same ((s.begin o).regionFault n.val) 5
        refine ⟨keeps.regions (by decide), fun hs => ⟨?_, keeps.boot (by decide)⟩, fun hm => by omega⟩
        rw [State.shutdown_pwr (by simpa using hs.2), State.regionFault_pwr, State.begin_pwr]
        rfl
      · obtain rfl := next_unique e (execMemoryUncorrectable_marked h hn)
        exact ⟨rfl, fun hs => absurd hs.1 hn, fun _ => ⟨rfl, rfl⟩⟩
  case window =>
    intro s o u
    refine Completes.of_runs (execWindowViolation_runs o u s) fun t e hf => ⟨hf.eq_mix, ?stopped, ?loss, ?cam, ?can, ?eth⟩
    case stopped => exact fun h => next_unique e (execWindowViolation_stopped h)
    case loss =>
      rintro n ⟨rfl, h⟩
      obtain rfl := next_unique e (execWindowViolation_running h)
      exact State.unitFault_flw _ _ _ _
    case cam =>
      rintro n ⟨rfl, h⟩
      obtain rfl := next_unique e (execWindowViolation_running h)
      exact State.faultUnit_cam _ n 0xF0
    case can =>
      rintro n ⟨rfl, h⟩
      obtain rfl := next_unique e (execWindowViolation_running h)
      exact State.unitFault_can _ _ _ _
    case eth =>
      rintro n ⟨rfl, h⟩
      obtain rfl := next_unique e (execWindowViolation_running h)
      exact State.unitFault_eth _ _ _ _

end Sys2Proof.Machine

/-! What a power die does on its own logic (01 R26 to R29, R33, R571; 16 R424, R426). -/

namespace Sys2Proof.Machine

/-! Safe and freeze states of the switch channels while channels take their safe states. -/

/-- No switch channel leaves its safe state, and none takes or leaves its freeze state. -/
structure SafeHeld (s t : State) : Prop where
  safe : ∀ k, (rd s.psw.ch k).safe = true → (rd t.psw.ch k).safe = true
  frz : ∀ k, (rd t.psw.ch k).frz = (rd s.psw.ch k).frz

theorem SafeHeld.refl (s : State) : SafeHeld s s := ⟨fun _ h => h, fun _ => rfl⟩

theorem SafeHeld.trans {s t u : State} (h : SafeHeld s t) (k : SafeHeld t u) : SafeHeld s u :=
  ⟨fun i hi => k.safe i (h.safe i hi), fun i => (k.frz i).trans (h.frz i)⟩

theorem SafeHeld.ite {s a b : State} {c : Prop} [Decidable c] (ha : SafeHeld s a) (hb : SafeHeld s b) :
    SafeHeld s (if c then a else b) := by
  split <;> assumption

/-- One more operation, whose frame leaves the switch channels out. -/
theorem SafeHeld.next {m : Nat} {s t u : State} (h : SafeHeld s t) (k : Same m t u) (hm : m.testBit 19 = false) : SafeHeld s u := by
  refine h.trans ⟨fun i hi => ?_, fun i => ?_⟩ <;> rw [k.psw hm]
  exact hi

/-- One more change of a channel's record, which keeps its freeze state and does not end its safe state. -/
theorem SafeHeld.updPsw {s t : State} (h : SafeHeld s t) {n : Nat} {f : PswCh → PswCh} (hs : ∀ c, c.safe = true → (f c).safe = true)
    (hf : ∀ c, (f c).frz = c.frz) : SafeHeld s (t.updPsw n f) := by
  refine h.trans ⟨fun k hk => ?_, fun k => rd_upd_keeps t.psw.ch n hf k⟩
  rcases rd_upd_cases t.psw.ch n f k with e | e
  · exact (congrArg PswCh.safe e).trans (hs _ hk)
  · exact (congrArg PswCh.safe e).trans hk

theorem State.refuseSrc_safeHeld (s : State) (src : Nat) : SafeHeld s (s.refuseSrc src) := by
  unfold State.refuseSrc
  refine .ite ((SafeHeld.refl s).updPsw (fun _ h => h) fun _ => rfl) (.ite ?_ (.ite ?_ ?_))
  · exact ((SafeHeld.refl s).next (State.vlvAbort_same s _) (by decide)).next (State.updVlv_same _ _ _) (by decide)
  · exact (SafeHeld.refl s).next (State.updCol_same s _ _) (by decide)
  · exact (SafeHeld.refl s).next Same.set_wake (by decide)

theorem State.withdraw_safeHeld (s : State) (src : Nat) : SafeHeld s (s.withdraw src) :=
  (SafeHeld.refl s).next (State.withdraw_same s src) (by decide)

theorem State.refuseReq_safeHeld (s : State) (src : Nat) : SafeHeld s (s.refuseReq src) := by
  unfold State.refuseReq
  refine .next (.next ?_ Same.set_bud (by decide)) (State.notice_same _ _ _ _ _) (by decide)
  exact (State.withdraw_safeHeld s src).trans (State.refuseSrc_safeHeld _ src)

theorem State.raise_safeHeld (s : State) (src : Nat) (o : Opt) : SafeHeld s (s.raise src o) := by
  unfold State.raise
  refine .ite (State.refuseReq_safeHeld s src) ?_
  refine .next ?_ Same.set_bud (by decide)
  exact State.withdraw_safeHeld s src

theorem State.pswRequest_safeHeld (s : State) (n : Nat) (o : Opt) : SafeHeld s (s.pswRequest n o) := by
  unfold State.pswRequest
  refine .trans ?_ (State.raise_safeHeld _ n o)
  exact (SafeHeld.refl s).updPsw (fun _ h => h) fun _ => rfl

theorem State.pswDuty_safeHeld (s : State) (n : Nat) : SafeHeld s (s.pswDuty n) := by
  unfold State.pswDuty
  exact .ite (.refl s) (.ite ((SafeHeld.refl s).updPsw (fun _ h => h) fun _ => rfl) ((SafeHeld.refl s).updPsw (fun _ h => h) fun _ => rfl))

theorem State.pswApply_safeHeld (s : State) (n : Nat) (o : Opt) : SafeHeld s (s.pswApply n o) := by
  have idle : SafeHeld s (s.updPsw n fun c => { c with phase := .idle, retryEnd := none, retryLeft := none }) :=
    (SafeHeld.refl s).updPsw (fun _ h => h) fun _ => rfl
  unfold State.pswApply
  refine .ite (.refl s) (.ite ?_ (.ite (State.pswRequest_safeHeld s n o) (.refl s)))
  split
  · exact (State.withdraw_safeHeld s n).updPsw (fun _ h => h) fun _ => rfl
  · exact idle
  · exact idle
  · exact idle
  · exact idle
  · exact .refl s

theorem State.pswEnterSafe_safeHeld (s : State) (n : Nat) : SafeHeld s (s.pswEnterSafe n) := by
  unfold State.pswEnterSafe
  exact (State.withdraw_safeHeld s n).updPsw (fun _ _ => rfl) fun _ => rfl

theorem State.pswEnterSafe_safe (s : State) {n : Nat} (h : n < 40) : (rd (s.pswEnterSafe n).psw.ch n).safe = true := by
  unfold State.pswEnterSafe
  exact congrArg PswCh.safe (rd_upd_same _ h _)

/-- The supply switch of a fan turned off with it (17 R436). -/
theorem State.colFeed_off_safeHeld (s : State) (n : Nat) (o : Opt) : SafeHeld s (s.colFeed n false o) := by
  unfold State.colFeed
  split
  · exact .refl s
  next p _ =>
    show SafeHeld s (s.pswFanOff p o)
    unfold State.pswFanOff
    refine .ite (.refl s) (.trans (.trans ?_ (State.pswApply_safeHeld _ p o)) (State.pswDuty_safeHeld _ p))
    exact (SafeHeld.refl s).updPsw (fun _ h => h) fun _ => rfl

theorem State.colEnterSafe_safeHeld (s : State) (n : Nat) (o : Opt) : SafeHeld s (s.colEnterSafe n o) := by
  unfold State.colEnterSafe State.colStop
  refine .next (.trans ?_ (State.colFeed_off_safeHeld _ n o)) (State.updCol_same _ _ _) (by decide)
  exact (State.withdraw_safeHeld s _).next (State.updCol_same _ _ _) (by decide)

/-! Settling the channels of a die that holds them safe on its own logic (01 R28). -/

/-- What holds a die's channels safe depends on the dies, the regions and the supply state. -/
theorem Same.dieOwn {m : Nat} {s t : State} (h : Same m s t) (hm : 0x40006 &&& m = 0) (d : Nat) : t.dieOwn d = s.dieOwn d := by
  have bit_clear : ∀ i, (0x40006 : Nat).testBit i = true → m.testBit i = false := by
    intro i hi
    have := congrArg (Nat.testBit · i) hm
    simpa [Nat.testBit_and, hi] using this
  unfold State.dieOwn State.region
  rw [h.die (bit_clear 18 rfl), h.regions (bit_clear 2 rfl), h.pwr (bit_clear 1 rfl)]

theorem State.dieRuns_of_dieOwn {s : State} {d : Nat} (h : s.dieOwn d = true) : s.dieRuns d = false := by
  simp [State.dieRuns, h]

/-- A switch channel of such a die is settled into its safe state, unless it is in a freeze state or not used. -/
theorem State.pswSettle_held {s : State} {n : Nat} (h : s.dieOwn (pswDie n) = true) (o : Opt) : SafeHeld s (s.pswSettle n o) := by
  unfold State.pswSettle State.pswRuns
  simp only [State.dieRuns_of_dieOwn h, Bool.false_and, Bool.false_eq_true, if_false]
  exact .ite (.refl s) (.ite (.refl s)
    (.trans (.trans (State.pswEnterSafe_safeHeld s n) (State.pswApply_safeHeld _ n o)) (State.pswDuty_safeHeld _ n)))

theorem State.pswSettle_safe {s : State} {n : Nat} (h : s.dieOwn (pswDie n) = true) (o : Opt) (hn : n < 40) (hu : s.pswUsed n = true)
    (hf : (rd s.psw.ch n).frz = .none) : (rd (s.pswSettle n o).psw.ch n).safe = true := by
  have used : ¬ (s.pswUsed n = false ∨ (rd s.psw.ch n).frz ≠ .none) := by simp [hu, hf]
  unfold State.pswSettle State.pswRuns
  simp only [State.dieRuns_of_dieOwn h, Bool.false_and, Bool.false_eq_true, if_false, if_neg used]
  split
  · assumption
  · exact (State.pswDuty_safeHeld _ n).safe n ((State.pswApply_safeHeld _ n o).safe n (State.pswEnterSafe_safe s hn))

theorem State.colSettle_held {s : State} {n : Nat} (h : s.dieOwn (fanDie n) = true) (o : Opt) : SafeHeld s (s.colSettle n o) := by
  unfold State.colSettle State.colRuns
  simp only [State.dieRuns_of_dieOwn h, Bool.false_and, Bool.false_eq_true, if_false]
  exact .ite (.refl s) (.ite (.refl s) (State.colEnterSafe_safeHeld s n o))

/-- The switch channels of the list, settled one after the other: each used one that is in no freeze state ends up safe. -/
theorem pswSettle_list {d : Nat} (o : Opt) (l : List Nat) (hl : ∀ n ∈ l, n < 40 ∧ pswDie n = d) (s : State) (h : s.dieOwn d = true) :
    SafeHeld s (l.foldl (fun t n => t.pswSettle n o) s) ∧
      ∀ n ∈ l, s.pswUsed n = true → (rd s.psw.ch n).frz = .none → (rd (l.foldl (fun t n => t.pswSettle n o) s).psw.ch n).safe = true := by
  induction l generalizing s with
  | nil => exact ⟨.refl s, by simp⟩
  | cons m l ih =>
    obtain ⟨⟨hm, hd⟩, hl⟩ := List.forall_mem_cons.mp hl
    have hs := State.pswSettle_same s m o
    obtain ⟨held, safe⟩ := ih hl (s.pswSettle m o) (by rw [hs.dieOwn (by decide), h])
    have first := State.pswSettle_held (s := s) (n := m) (by rw [hd, h]) o
    refine ⟨first.trans held, fun n hn hu hf => ?_⟩
    rcases List.mem_cons.mp hn with rfl | hn
    · exact held.safe n (State.pswSettle_safe (by rw [hd, h]) o hm hu hf)
    · refine safe n hn ?_ ((first.frz n).trans hf)
      unfold State.pswUsed State.pswRec at hu ⊢
      rwa [hs.img (by decide)]

theorem colSettle_list {d : Nat} (o : Opt) (l : List Nat) (hl : ∀ k ∈ l, fanDie (2 * d + k) = d) (s : State) (h : s.dieOwn d = true) :
    SafeHeld s (l.foldl (fun t k => t.colSettle (2 * d + k) o) s) := by
  induction l generalizing s with
  | nil => exact .refl s
  | cons k l ih =>
    obtain ⟨hk, hl⟩ := List.forall_mem_cons.mp hl
    have hs := State.colSettle_same s (2 * d + k) o
    exact (State.colSettle_held (by rw [hk, h]) o).trans (ih hl _ (by rw [hs.dieOwn (by decide), h]))

/-- The valve and cooling channels of such a die, settled after its switch channels, take none of these out of its safe state. -/
theorem State.settleDie_held {s : State} {d : Nat} (h : s.dieOwn d = true) (o : Opt) :
    SafeHeld ((diePsw d).foldl (fun t n => t.pswSettle n o) s) (s.settleDie d o) := by
  have valves (u : State) : Same 0x100010 u ((List.range 12).foldl (fun t k => t.vlvSettle (12 * d + k) o) u) :=
    Same.fold _ (Same.refl _ u) fun v a hv => hv.next (State.vlvSettle_same v _ o) (by decide)
  have switches : Same 0x30003b0030 s ((diePsw d).foldl (fun t n => t.pswSettle n o) s) :=
    Same.fold _ (Same.refl _ s) fun u a hu => hu.next (State.pswSettle_same u a o) (by decide)
  have on_die : ∀ k ∈ List.range 2, fanDie (2 * d + k) = d := by
    intro k hk
    have := List.mem_range.mp hk
    unfold fanDie
    omega
  unfold State.settleDie
  refine ((SafeHeld.refl _).next (valves _) (by decide)).trans (colSettle_list o _ on_die _ ?_)
  rw [(valves _).dieOwn (by decide), switches.dieOwn (by decide), h]

/-- Settling such a die leaves every used switch channel of it that is in no freeze state safe. -/
theorem State.settleDie_safe {s : State} {d : Nat} (h : s.dieOwn d = true) (o : Opt) {n : Nat} (hn : n ∈ diePsw d)
    (hu : s.pswUsed n = true) (hf : (rd s.psw.ch n).frz = .none) : (rd (s.settleDie d o).psw.ch n).safe = true := by
  have on_die : ∀ k ∈ diePsw d, k < 40 ∧ pswDie k = d := by
    intro k hk
    simpa [diePsw] using hk
  obtain ⟨-, safe⟩ := pswSettle_list o (diePsw d) on_die s h
  exact (State.settleDie_held h o).safe n (safe n hn hu hf)

theorem State.updDie_updDie (s : State) (d : Nat) (f g : DieSt → DieSt) : (s.updDie d f).updDie d g = s.updDie d fun x => g (f x) := by
  unfold State.updDie
  rw [upd_upd]

theorem State.settleDie_die (s : State) (d : Nat) (o : Opt) : (s.settleDie d o).die = s.die := (s.settleDie_same d o).die (by decide)
theorem State.settleDie_pwr (s : State) (d : Nat) (o : Opt) : (s.settleDie d o).pwr = s.pwr := (s.settleDie_same d o).pwr (by decide)

/-! What each event of a die does, case by case. -/

section
variable {s : State} {o : Opt} {d : Fin 4} {temp : Int}

/-- An armed watchdog whose time is over: the die holds itself safe, and its channels are settled (01 R28). -/
theorem execLinkWatchdogExpiry_expired (ha : (rd s.die d.val).armed = true) (hr : s.region (6 + d.val) = .run)
    (ht : (rd s.die d.val).lastFrame + s.img.watchdog d.val * 50000 ≤ o) :
    execLinkWatchdogExpiry o d s =
      .next (((s.begin o).updDie d.val fun x => { x with linkSafe := true, armed := false }).settleDie d.val o) :=
  congrArg Host.Outcome.next (if_pos ⟨ha, hr, ht⟩)

theorem execLinkWatchdogExpiry_unarmed (h : (rd s.die d.val).armed = false) : execLinkWatchdogExpiry o d s = .next (s.begin o) :=
  congrArg Host.Outcome.next (if_neg (by simp [h]))

theorem execDieOvertemp_off {d : Fin 7} (h : s.pwr.supply = .off) : execDieOvertemp o d temp s = .next (s.begin o) :=
  congrArg Host.Outcome.next (if_pos h)

theorem execDieOvertemp_logic_cool {d : Fin 7} (hd : d.val < 3) (ht : temp < 125) : execDieOvertemp o d temp s = .next (s.begin o) := by
  by_cases h : s.pwr.supply = .off
  · exact execDieOvertemp_off h
  · exact congrArg Host.Outcome.next ((if_neg h).trans ((if_pos hd).trans (if_neg (by omega))))

theorem execDieOvertemp_logic_hot {d : Fin 7} (hd : d.val < 3) (ht : 125 ≤ temp) (h : s.pwr.supply ≠ .off) :
    execDieOvertemp o d temp s = .next ((s.begin o).shutdown 4) :=
  congrArg Host.Outcome.next ((if_neg h).trans ((if_pos hd).trans (if_pos ht)))

/-- A power die at its absolute limit takes its safe states and reports it (01 R29). -/
theorem execDieOvertemp_power_limit {d : Fin 7} (hd : 3 ≤ d.val) (ht : 150 ≤ temp) (h : s.pwr.supply ≠ .off)
    (hr : s.region (6 + (d.val - 3)) ≠ .off) : execDieOvertemp o d temp s =
      .next (((((s.begin o).updDie (d.val - 3) fun x => { x with dieT := temp }).updDie (d.val - 3) fun x =>
        { x with overTemp := true, tempHold := true }).settleDie (d.val - 3) o).send (.dieOvertemp (d.val - 3))) :=
  congrArg Host.Outcome.next ((if_neg h).trans ((if_neg (by omega)).trans (if_pos ⟨ht, hr⟩)))

theorem execDieTempRecovered_eq : execDieTempRecovered o d temp s =
    .next ((s.begin o).updDie d.val fun x => { x with dieT := temp, overTemp := if temp ≤ 130 then false else x.overTemp }) := by
  unfold execDieTempRecovered
  split <;> simp [*, State.updDie_updDie]

/-- After a supervisor reset the channels take their safe states, which keeps the die, its region and the supply (01 R26). -/
theorem execDieSupervisorReset_reset (h : s.region (6 + d.val) ≠ .off ∧ s.region (6 + d.val) ≠ .boot) :
    Runs 0x30003b0030
      ((({ s.begin o with pwr := { s.pwr with die := put s.pwr.die d.val none } } : State).updRegion (6 + d.val)
        fun r => { r with st := .supervisor }).updDie d.val fun x => { x with armed := false, linkSafe := false, loading := true, vHist := [] })
      (execDieSupervisorReset o d s) := by
  refine ⟨_, congrArg Host.Outcome.next (if_neg (not_or.mpr h)), ?_⟩
  refine Same.fold _ (Same.fold _ (Same.fold _ (Same.refl _ _) fun u n hu => ?_) fun u k hu => ?_) fun u k hu => ?_
  · refine Same.ite ?_ hu
    refine Same.next ?_ (State.pswDuty_same _ _) (by decide)
    refine Same.next ?_ (State.updPsw_same _ _ _) (by decide)
    exact hu.next (State.pswEnterSafe_same _ _) (by decide)
  · refine Same.ite hu ?_
    refine Same.next ?_ (State.vlvEnterSafe_same _ _ _) (by decide)
    exact hu.next Same.set_vlv (by decide)
  · refine Same.ite ?_ hu
    refine Same.next ?_ (State.colEnterSafe_same _ _ _) (by decide)
    exact hu.next (State.updCol_same _ _ _) (by decide)

theorem execDieSupervisorReset_stopped (h : s.region (6 + d.val) = .off ∨ s.region (6 + d.val) = .boot) :
    execDieSupervisorReset o d s = .next (s.begin o) :=
  congrArg Host.Outcome.next (if_pos h)

theorem execDieConfigReloaded_supervisor (h : s.region (6 + d.val) = .supervisor) : execDieConfigReloaded o d s =
    .next (((s.begin o).updRegion (6 + d.val) fun r => { r with st := .run }).updDie d.val fun x => { x with loading := false }) :=
  congrArg Host.Outcome.next (if_pos h)

theorem execDieConfigReloaded_other (h : s.region (6 + d.val) ≠ .supervisor) : execDieConfigReloaded o d s = .next (s.begin o) :=
  congrArg Host.Outcome.next (if_neg h)

/-- DIE_HOT sets, and the latches that follow keep the die (16 R424). -/
theorem execDieHot_hot {tj : List Int} (h : 135 ≤ temp) :
    Runs 0x80010 (((s.begin o).updDie d.val fun x => { x with dieT := temp }).updDie d.val fun x => { x with dieHot := true })
      (execDieHot o d temp tj s) := by
  refine ⟨_, congrArg Host.Outcome.next (if_neg (by omega)), ?_⟩
  refine Same.fold _ (Same.refl _ _) fun u p hu => ?_
  refine Same.ite ?_ (hu.next (State.updPsw_same _ _ _) (by decide))
  exact (hu.next (State.updPsw_same _ _ _) (by decide)).next (State.pswLatch_same _ _ _ _) (by decide)

theorem execDieHot_cool {tj : List Int} (h : temp < 135) :
    execDieHot o d temp tj s = .next ((s.begin o).updDie d.val fun x => { x with dieT := temp }) :=
  congrArg Host.Outcome.next (if_pos h)

theorem execDieHotClear_eq : execDieHotClear o d temp s =
    .next ((s.begin o).updDie d.val fun x => { x with dieT := temp, dieHot := if temp ≤ 130 then false else x.dieHot }) := by
  unfold execDieHotClear
  split <;> simp [*, State.updDie_updDie]

end

theorem State.dieOwn_of_linkSafe {s : State} {d : Nat} (h : (rd s.die d).linkSafe = true) : s.dieOwn d = true := by
  simp [State.dieOwn, h]

/-- Settles O10: the expiry makes the die hold itself safe, and settling then takes its switch channels to their safe states one after the
other, of which no later channel of the die takes one out. -/
theorem watchdogSafeStates : Obligations.WatchdogSafeStates := by
  unfold Obligations.WatchdogSafeStates
  intro s o d ha hr ht
  refine ⟨_, execLinkWatchdogExpiry_expired ha hr ht, fun n hn hu hf => ?_⟩
  exact State.settleDie_safe (State.dieOwn_of_linkSafe (by rw [State.updDie_die, rd_upd_fin])) o hn hu hf

/-- Settles O9: each event is a case split on its condition; what settling, safe states and latches do to the channels keeps the dies, the
regions and the power block. -/
theorem dieEvents : Obligations.DieEvents := by
  unfold Obligations.DieEvents
  refine ⟨?watchdog, ?overtemp, ?recovered, ?supervisor, ?reloaded, ?hot, ?hotClear⟩
  case watchdog =>
    intro s o d
    refine Completes.of_runs (execLinkWatchdogExpiry_runs o d s) fun t e hf => ⟨hf.eq_mix, ?_, fun h => ?_⟩
    · rintro ⟨ha, hr, ht⟩
      rw [next_unique e (execLinkWatchdogExpiry_expired ha hr ht), State.settleDie_die]
      rfl
    · exact next_unique e (execLinkWatchdogExpiry_unarmed h)
  case overtemp =>
    intro s o d temp
    refine Completes.of_runs (execDieOvertemp_runs o d temp s) fun t e hf => ⟨hf.eq_mix, fun h => ?off, ?cool, ?down, ?limit⟩
    case off => exact next_unique e (execDieOvertemp_off h)
    case cool => exact fun ⟨hd, ht⟩ => next_unique e (execDieOvertemp_logic_cool hd ht)
    case down =>
      rintro ⟨hd, ht, h⟩
      obtain rfl := next_unique e (execDieOvertemp_logic_hot hd ht h.1)
      exact ⟨State.shutdown_pwr (s := s.begin o) h 4, (State.shutdown_same _ 4).die (by decide)⟩
    case limit =>
      rintro ⟨hd, ht, h, hr⟩
      obtain rfl := next_unique e (execDieOvertemp_power_limit hd ht h hr)
      refine ⟨?_, by simp [State.settleDie_pwr], by simp [State.send]⟩
      rw [State.send_die, State.settleDie_die, State.updDie_updDie]
      rfl
  case recovered =>
    intro s o d temp
    refine Completes.of_runs (execDieTempRecovered_runs o d temp s) fun t e hf => ?_
    obtain rfl := next_unique e execDieTempRecovered_eq
    refine ⟨hf.eq_mix, fun h => ?_, fun h => ?_, fun k hk => rd_upd_ne _ (Ne.symm hk) _⟩
    · simp [h]
    · simp [Int.not_le.mpr h]
  case supervisor =>
    intro s o d
    refine Completes.of_runs (execDieSupervisorReset_runs o d s) fun t e hf => ⟨hf.eq_mix, fun h => ?_, fun h => ?_⟩
    · obtain ⟨u, e', keeps⟩ := execDieSupervisorReset_reset (o := o) h
      obtain rfl := next_unique e e'
      constructor
      · rw [State.region, keeps.regions (by decide)]
        exact State.region_updRegion_same _ (by omega) _
      · rw [keeps.die (by decide)]
        exact rd_upd_fin _ d _
    · exact next_unique e (execDieSupervisorReset_stopped h)
  case reloaded =>
    intro s o d
    refine Completes.of_runs (execDieConfigReloaded_runs o d s) fun t e hf => ⟨hf.eq_mix, fun h => ?_, fun h => ?_⟩
    · obtain rfl := next_unique e (execDieConfigReloaded_supervisor h)
      exact ⟨State.region_updRegion_same _ (by omega) _, rd_upd_fin _ d _⟩
    · exact next_unique e (execDieConfigReloaded_other h)
  case hot =>
    intro s o d temp tj
    refine Completes.of_runs (execDieHot_runs o d temp tj s) fun t e hf => ⟨hf.eq_mix, fun h => ?_, fun h => ?_⟩
    · obtain ⟨u, e', keeps⟩ := execDieHot_hot (s := s) (o := o) (d := d) (tj := tj) h
      obtain rfl := next_unique e e'
      rw [keeps.die (by decide)]
      simp
    · obtain rfl := next_unique e (execDieHot_cool h)
      simp
  case hotClear =>
    intro s o d temp
    refine Completes.of_runs (execDieHotClear_runs o d temp s) fun t e hf => ?_
    obtain rfl := next_unique e execDieHotClear_eq
    refine ⟨hf.eq_mix, fun h => ?_, fun h => ?_, fun k hk => rd_upd_ne _ (Ne.symm hk) _⟩
    · simp [h]
    · simp [Int.not_le.mpr h]

end Sys2Proof.Machine

/-! TIME_SET, corrections in and host silence (05 R161; 10 R279 to R283; 11 R308 to R312). -/

namespace Sys2Proof.Machine

/-! TIME_SET (11 R312). -/

/-- A ready TIME_SET that its target admits waits for the next tick with its operation in flight, and nothing else changes. -/
theorem hostOp_timeWait {r : HostReq} {run : State → OpRes} {s : State} {target leap value : Nat} (h : s.ready r 1 13 = true)
    (hc : s.clk.running = true) (hr : run (s.admitted r 0x00A0) = (s.admitted r 0x00A0).timeWait r target leap value) :
    hostOp r 0x00A0 1 13 run s =
        { s with clk := { s.clk with opt := max s.clk.opt r.opt, past := (hostOp r 0x00A0 1 13 run s).clk.past },
                 hst := (hostOp r 0x00A0 1 13 run s).hst, out := [],
                 tim := { s.tim with cmds := s.tim.cmds ++ [⟨target, leap, value, r⟩] } } ∧
      ∃ b, (hostOp r 0x00A0 1 13 run s).hst.ops = s.hst.ops ++ [⟨r, 0x00A0, none, b, false⟩] := by
  have ticks : (s.admitted r 0x00A0).clk.running = true := by rw [State.admitted_eq]; exact hc
  have wait : run (s.admitted r 0x00A0) =
      .wait ((s.admitted r 0x00A0).updTim fun t => { t with cmds := t.cmds ++ [⟨target, leap, value, r⟩] }) :=
    hr.trans (if_neg (by simp [ticks]))
  have e : hostOp r 0x00A0 1 13 run s =
      (s.admitted r 0x00A0).updTim fun t => { t with cmds := t.cmds ++ [⟨target, leap, value, r⟩] } := by
    rw [hostOp_ready h, wait]
  rw [e]
  refine ⟨?_, s.admitted_ops r 0x00A0⟩
  unfold State.updTim
  rw [State.admitted_eq]

/-! Corrections in (10 R279 to R283). -/

/-- The good frames of a payload of RTCM_IN appended to source `k` (10 R283). -/
def State.rtcmTaken (s : State) (k : Nat) (d : Deframed) : State :=
  (s.fifoWrite rNET).updNav fun v => { v with rtcm := upd v.rtcm k fun x => x.took d [] }

theorem State.rtcmTaken_same (s : State) (k : Nat) (d : Deframed) : Same 0x1004000004 s (s.rtcmTaken k d) :=
  ((State.fifoWrite_same s rNET).mono (by decide)).next (State.updNav_same _ _) (by decide)

theorem State.rtcmTaken_nav (s : State) (k : Nat) (d : Deframed) :
    (s.rtcmTaken k d).nav = { s.nav with rtcm := upd s.nav.rtcm k fun x => x.took d [] } := by
  unfold State.rtcmTaken
  rw [State.updNav, (State.fifoWrite_same s rNET).nav (by decide)]

/-- A channel found full is counted in its region (01 R14). -/
theorem State.rtcmTaken_regions (s : State) (k : Nat) (d : Deframed) :
    (s.rtcmTaken k d).regions = s.regions ∨
      (s.rtcmTaken k d).regions = upd s.regions rNET fun x => { x with hsFull := satInc x.hsFull } := by
  unfold State.rtcmTaken State.fifoWrite
  dsimp only
  split
  · exact .inr rfl
  · exact .inl rfl

/-- The operation of an RTCM_IN for a source that takes its frames. -/
theorem execRtcmIn_taken {s : State} {r : HostReq} {data : List Byte} {k : Nat}
    (hk : (List.range 2).find? (fun i => s.img.corrKind i == 1) = some k) (hv : s.region rNAV ≠ .frozen)
    (hd : ¬ ((deframe data.length data).frames = [] ∧ (deframe data.length data).bad = 0)) :
    ∃ run : State → OpRes,
      run (s.admitted r 0x0053) = .done ((s.admitted r 0x0053).rtcmTaken k (deframe data.length data))
        (leBytes 2 (deframe data.length data).frames.length ++
          leBytes 2 ((deframe data.length data).bad + (if (deframe data.length data).cut then 1 else 0))) ∧
      execRtcmIn r data s = .next (hostOp r 0x0053 1 12 run s) := by
  refine ⟨_, ?_, rfl⟩
  have img : (s.admitted r 0x0053).img = s.img := by rw [State.admitted_eq]
  have region : (s.admitted r 0x0053).region rNAV = s.region rNAV := by rw [State.admitted_eq]; rfl
  simp only [img, hk, region, if_neg hv, if_neg hd]
  rfl

theorem Same.set_hst_out {t : State} {h : HstSt} {l : List Msg} : Same 0x2000010000 t { t with hst := h, out := l } :=
  Same.next (t := { t with hst := h }) (Same.set_hst.mono (by decide)) Same.set_out (by decide)

/-- Admission changes the clock, the host block and the messages sent. -/
theorem State.admitted_same (s : State) (r : HostReq) (op : Nat) : Same 0x2000010001 s (s.admitted r op) := by
  rw [State.admitted_eq]
  exact ((Same.set_clk_hst).mono (by decide)).next Same.set_out (by decide)

/-- A ready request whose operation takes the frames of its payload into source `k`. -/
theorem hostOp_rtcmTaken {s : State} {r : HostReq} {run : State → OpRes} {k : Nat} {d : Deframed} {pl : List Byte}
    (h : s.ready r 1 12 = true) (hr : run (s.admitted r 0x0053) = .done ((s.admitted r 0x0053).rtcmTaken k d) pl) :
    let t := hostOp r 0x0053 1 12 run s
    s.answers t r 0x0053 stOK pl ∧ s.hostKeeps t r ∧ Same 0x3004010005 s t ∧
      t.nav = { s.nav with rtcm := upd s.nav.rtcm k fun x => x.took d [] } ∧
      (t.regions = s.regions ∨ t.regions = upd s.regions rNET fun x => { x with hsFull := satInc x.hsFull }) := by
  have admitted := s.admitted_same r 0x0053
  have taken := State.rtcmTaken_same (s.admitted r 0x0053) k d
  obtain ⟨answer, keeps, eff⟩ :=
    hostOp_effect h hr (taken.hst (by decide)) (taken.clk (by decide)) ((taken.out (by decide)).trans (s.admitted_out r _))
  refine ⟨answer, keeps, ?_, ?_, ?_⟩
  · rw [eff]
    exact ((admitted.mono (by decide)).next taken (by decide)).next Same.set_hst_out (by decide)
  · refine (congrArg State.nav eff).trans ((State.rtcmTaken_nav _ k d).trans ?_)
    rw [admitted.nav (by decide)]
  · rw [congrArg State.regions eff, ← admitted.regions (by decide)]
    exact State.rtcmTaken_regions _ k d

/-- The frames that wait at a source. -/
def State.waiting (s : State) (k : Nat) : List (List Byte) := (rd s.nav.rtcm k).waiting

theorem State.waiting_updRtcm (s : State) (i k : Nat) {f : RtcmSrc → RtcmSrc} (h : ∀ x, (f x).waiting = x.waiting) :
    (s.updNav fun v => { v with rtcm := upd v.rtcm i f }).waiting k = s.waiting k :=
  rd_upd_keeps s.nav.rtcm i h k

theorem State.useStation_waiting (s : State) (st k : Nat) : (s.useStation st).waiting k = s.waiting k := by
  unfold State.useStation
  dsimp only
  split
  · rfl
  · split <;> rfl

theorem State.baseEpoch_waiting (s : State) (i st : Nat) (tag : Option Nat) (k : Nat) : (s.baseEpoch i st tag).waiting k = s.waiting k := by
  unfold State.baseEpoch
  dsimp only
  split
  · rw [State.useStation_waiting, State.waiting_updRtcm]
    exact fun _ => rfl
  · exact State.waiting_updRtcm s i k fun _ => rfl

theorem State.useRef_waiting (s : State) (i : Nat) (p : Int × Int × Int) (k : Nat) : (s.useRef i p).waiting k = s.waiting k := by
  have kept := State.waiting_updRtcm s i k (f := fun r => { r with ref := some p }) fun _ => rfl
  unfold State.useRef
  dsimp only
  split
  · split
    · split <;> exact kept
    · exact kept
  · exact kept

/-- Taking a frame in leaves the frames that wait behind it. -/
theorem State.takeFrame_waiting (s : State) (i : Nat) (b : List Byte) (k : Nat) : (s.takeFrame i b).waiting k = s.waiting k := by
  unfold State.takeFrame
  dsimp only
  split
  · split
    · rfl
    · split
      · rw [State.baseEpoch_waiting, State.waiting_updRtcm]
        exact fun _ => rfl
      · exact State.waiting_updRtcm s i k fun _ => rfl
  · split
    · split
      · rfl
      · exact State.useRef_waiting s i _ k
    · split
      · rfl
      · split
        · rfl
        · exact State.waiting_updRtcm s i k fun _ => rfl

theorem ephOf_eq_none {n : Nat} (h : n ∉ [1019, 1020, 1042, 1044, 1046]) : ephOf n = none := by
  unfold ephOf
  split <;> simp_all

/-- A frame of a type that is not listed is counted at its source (10 R280). -/
theorem State.takeFrame_unlisted (s : State) (i : Nat) {b : List Byte} (hm : msmOf (msgBits b 0 12) = none)
    (h : msgBits b 0 12 ∉ [1005, 1006, 1033, 1230, 1019, 1020, 1042, 1044, 1046]) :
    s.takeFrame i b = s.updNav fun v => { v with rtcm := upd v.rtcm i fun r => { r with unsup := satInc r.unsup } } := by
  simp only [List.mem_cons, List.not_mem_nil, or_false, not_or] at h
  obtain ⟨h1, h2, h3, h4, eph⟩ := h
  have he : ephOf (msgBits b 0 12) = none := ephOf_eq_none (by simpa using eph)
  unfold State.takeFrame
  simp only [hm, he, h1, h2, h3, h4, or_self, if_false]

/-- The oldest frame that waits at a source, taken from those that wait. -/
def State.nextFrame (s : State) (k : Nat) (l : List (List Byte)) : State :=
  s.updNav fun v => { v with rtcm := upd v.rtcm k fun r => { r with waiting := l } }

section
variable {s : State} {o : Opt} {k : Fin 2}

theorem State.nextFrame_rtcm (l : List (List Byte)) :
    rd (s.nextFrame k.val l).nav.rtcm k.val = { rd s.nav.rtcm k.val with waiting := l } := rd_upd_fin _ k _

theorem execRtcmFrame_taken {b : List Byte} {l : List (List Byte)} (hw : (rd s.nav.rtcm k.val).waiting = b :: l) (hr : s.runs rNAV = true) :
    execRtcmFrame o k s = .next (((s.begin o).nextFrame k.val l).takeFrame k.val b) := by
  unfold execRtcmFrame
  simp [hw, hr, State.nextFrame]

theorem execRtcmFrame_none (h : (rd s.nav.rtcm k.val).waiting = [] ∨ s.runs rNAV = false) : execRtcmFrame o k s = .next (s.begin o) := by
  unfold execRtcmFrame
  rcases h with h | h
  · simp [h]
  · cases hw : (rd s.nav.rtcm k.val).waiting <;> simp [h, hw]

end

/-! Host silence (05 R161). -/

/-- What host silence shows in the HST block. -/
def HstSt.silence (h : HstSt) : Bool × Bool × Byte := (h.present, h.expired, h.expiryCnt)

theorem State.sendEnvelope_silence (s : State) (k : Sub) (body : List Byte) : (s.sendEnvelope k body).hst.silence = s.hst.silence := by
  unfold State.sendEnvelope
  split <;> rfl

theorem State.sendItem_silence (s : State) (k : Sub) (i : Item) : (s.sendItem k i).hst.silence = s.hst.silence := by
  unfold State.sendItem
  dsimp only
  split
  · rfl
  · split
    · split
      · rfl
      · exact State.sendEnvelope_silence _ k _
    · rfl

theorem State.pubOne_silence (s : State) (id : Nat) (i : Item) : (s.pubOne id i).hst.silence = s.hst.silence := by
  unfold State.pubOne
  dsimp only
  split
  · rfl
  · split
    · exact State.sendItem_silence _ _ i
    · rfl

theorem State.publishItem_silence (s : State) (stream : Nat) (sel : Nat → Bool) (i : Item) :
    (s.publishItem stream sel i).hst.silence = s.hst.silence := by
  unfold State.publishItem
  generalize (s.hst.subs.filter fun k => k.stream == stream && sel k.inst).map Sub.id = l
  induction l generalizing s with
  | nil => rfl
  | cons id l ih => exact (ih _).trans (State.pubOne_silence s id i)

/-- A notice says nothing about the host. -/
theorem State.notice_silence (s : State) (code block unit : Nat) (value : F32) :
    (s.notice code block unit value).hst.silence = s.hst.silence := by
  have turned : s.recTurn.hst = s.hst := (State.recTurn_same s).hst (by decide)
  have either {c : Prop} [Decidable c] {a b : State} (ha : a.hst.silence = s.hst.silence) (hb : b.hst.silence = s.hst.silence) :
      (if c then a else b).hst.silence = s.hst.silence := by
    split <;> assumption
  unfold State.notice
  refine either ?_ (congrArg HstSt.silence turned)
  exact (State.publishItem_silence _ _ _ _).trans (congrArg HstSt.silence turned)

/-- HOST_ABSENCE of the PSW block reads the duties as they are commanded and the image. -/
theorem State.hostAbsent_duty {s : State} {n : Nat} (hn : n < 40) (hb : (s.boundSlots 2 n).isEmpty = true)
    (ha : s.img.hostAbsence 0x0C01 n 0 = 1) : rd s.hostAbsent.psw.duty n = 0 := by
  have image : s.lopAbsent.img = s.img := (State.lopAbsent_same s).img (by decide)
  have bound : s.lopAbsent.boundSlots 2 n = s.boundSlots 2 n := by unfold State.boundSlots; rw [image]
  have e : s.hostAbsent.psw = s.lopAbsent.pswAbsent.psw := by
    unfold State.hostAbsent
    dsimp only
    split <;> rfl
  rw [e]
  unfold State.pswAbsent
  dsimp only
  rw [rd_mapIdxV _ _ hn]
  simp only [bound, hb, image, ha, if_true]

/-- Sheepdog sets on the HOST channels that are used, and on no other, while the host is absent (17 R435). -/
theorem State.colSheepdog_sheepdog (s : State) (absent : Bool) {n : Nat} (hn : n < 8) :
    (rd (s.colSheepdog absent).col.ch n).sheepdog = (absent && s.colUsed n && s.colSource n == 1) := by
  unfold State.colSheepdog
  dsimp only
  rw [rd_mapIdxV _ _ hn]

theorem State.hostAbsent_sheepdog (s : State) {n : Nat} (hn : n < 8) :
    (rd s.hostAbsent.col.ch n).sheepdog = (s.colUsed n && s.colSource n == 1) := by
  have blocks : Same 0x1180000 s s.lopAbsent.pswAbsent.vlvAbsent :=
    ((State.lopAbsent_same s).mono (by decide) |>.next (State.pswAbsent_same _) (by decide)).next (State.vlvAbsent_same _) (by decide)
  have e : s.hostAbsent.col = (s.lopAbsent.pswAbsent.vlvAbsent.colSheepdog true).col := by
    unfold State.hostAbsent
    dsimp only
    split <;> rfl
  rw [e, State.colSheepdog_sheepdog _ _ hn]
  unfold State.colUsed State.colSource State.colRec
  rw [blocks.img (by decide), Bool.true_and]

/-- The state in which the host is found absent, before the blocks act on it. -/
def State.hostLost (s : State) : State :=
  { s with hst := { s.hst with
      present := false, heard := if s.clk.tickOpt ≤ s.hst.tLast then some s.hst.tLast else none, expired := true,
      expiryCnt := satInc s.hst.expiryCnt } }

/-- The state in which the host is found present again. -/
def State.hostFound (s : State) : State := { s with hst := { s.hst with present := true, heard := none } }

section
variable {s : State} {o : Opt}

theorem execHostSilenceExpiry_absent (hp : s.hst.present = true) (hc : s.clk.running = true)
    (ht : s.hst.tTick + s.img.hostSilence ≤ s.clk.tickOpt) (hr : s.region rCTL ≠ .frozen) (hn : s.netUp = true) :
    execHostSilenceExpiry o s = .next ((s.begin o).hostLost.hostAbsent.notice 0x0001 0x01 0 fZero) :=
  if_neg (fun h => by
    rcases h with h | h | h | h | h
    · exact absurd (hp.symm.trans h) (by decide)
    · exact absurd (hc.symm.trans h) (by decide)
    · exact absurd ht (Nat.not_le.mpr h)
    · exact hr h
    · exact absurd (hn.symm.trans h) (by decide))

theorem execHostSilenceExpiry_present (h : s.hst.present = false ∨ s.clk.tickOpt < s.hst.tTick + s.img.hostSilence) :
    execHostSilenceExpiry o s = .next (s.begin o) :=
  if_pos (h.elim .inl fun h => .inr (.inr (.inl h)))

theorem execHostReturn_back {m : Opt} (hp : s.hst.present = false) (hm : s.hst.heard = some m) (hc : s.clk.running = true)
    (ht : m < s.clk.tickOpt) (hn : s.netUp = true) : execHostReturn o s =
      .next { (s.begin o).hostFound.colSheepdog false with
        prf := { s.prf with returnEdge := true } } := by
  have tick : ¬ (s.begin o).clk.tickOpt ≤ m := Nat.not_le.mpr ht
  unfold execHostReturn
  simp [hp, hm, hn, tick, show (s.begin o).clk.running = true from hc, State.colSheepdog, State.hostFound]

theorem execHostReturn_none (h : s.hst.present = true ∨ s.hst.heard = none) : execHostReturn o s = .next (s.begin o) := by
  unfold execHostReturn
  rcases h with h | h
  · cases hm : s.hst.heard <;> simp [h, hm]
  · simp [h]

end

/-- Settles O30: a TIME_SET runs into its wait, RTCM_IN into its completion past the FIFO, and the rest is a case split on each event's
condition; a frame taken in leaves the others waiting, and a notice leaves what host silence shows. -/
theorem timeCorrectionsAndSilence : Obligations.TimeCorrectionsAndSilence := by
  unfold Obligations.TimeCorrectionsAndSilence
  refine ⟨?timeSet, ?rtcmIn, ?rtcmFrame, ?silence, ?back⟩
  case timeSet =>
    intro s r x l h hc q
    have tim : (s.admitted r 0x00A0).tim = s.tim := by rw [State.admitted_eq]
    refine ⟨⟨_, rfl, hostOp_timeWait h hc rfl⟩, fun hd => ⟨_, rfl, hostOp_timeWait h hc (if_pos ?_)⟩,
      fun hd => ⟨_, rfl, hostOp_timeWait h hc (if_neg ?_)⟩, fun hl => ⟨_, rfl, hostOp_timeWait h hc (if_neg ?_)⟩⟩
    · rw [tim, hd]
    · rw [tim, hd]
      decide
    · rw [tim, hl.1, hl.2]
      decide
  case rtcmIn =>
    intro s r data k h hk hv d hd
    have some_frame : ¬ (d.frames = [] ∧ d.bad = 0) := fun none => hd.elim (· none.1) (· none.2)
    obtain ⟨run, hr, e⟩ := execRtcmIn_taken (r := r) hk hv some_frame
    obtain ⟨answer, keeps, frame, nav, regions⟩ := hostOp_rtcmTaken h hr
    refine ⟨_, e, keeps, answer, frame.eq_mix.trans ?_, regions⟩
    rw [State.mix, nav]
    rfl
  case rtcmFrame =>
    intro s o k
    refine Completes.of_runs (execRtcmFrame_runs o k s) fun t e hf => ⟨hf.eq_mix, ?_, fun h => next_unique e (execRtcmFrame_none h)⟩
    rintro b l ⟨hw, hr⟩
    obtain rfl := next_unique e (execRtcmFrame_taken hw hr)
    constructor
    · exact (State.takeFrame_waiting _ k.val b k.val).trans (congrArg RtcmSrc.waiting (State.nextFrame_rtcm l))
    · rintro ⟨hm, hl⟩
      rw [State.takeFrame_unlisted _ _ hm hl]
      refine (congrArg RtcmSrc.unsup (rd_upd_fin _ k _)).trans ?_
      rw [State.nextFrame_rtcm]
      rfl
  case silence =>
    intro s o
    refine Completes.of_runs (execHostSilenceExpiry_runs o s) fun t e hf =>
      ⟨hf.eq_mix, ?_, fun h => next_unique e (execHostSilenceExpiry_present h)⟩
    rintro ⟨hp, hc, ht, hr, hn⟩
    obtain rfl := next_unique e (execHostSilenceExpiry_absent hp hc ht hr hn)
    have keeps := State.notice_same (s.begin o).hostLost.hostAbsent 0x0001 0x01 0 fZero
    have silence := (State.notice_silence (s.begin o).hostLost.hostAbsent 0x0001 0x01 0 fZero).trans
      (congrArg HstSt.silence ((State.hostAbsent_same (s.begin o).hostLost).hst (by decide)))
    refine ⟨congrArg (·.1) silence, congrArg (·.2.1) silence, congrArg (·.2.2) silence, ?_, ?_, ?_⟩
    · rw [keeps.prf (by decide)]
      rfl
    · rintro n ⟨h40, hb, ha⟩
      rw [keeps.psw (by decide)]
      exact State.hostAbsent_duty h40 hb ha
    · intro n h8
      rw [keeps.col (by decide)]
      exact State.hostAbsent_sheepdog _ h8
  case back =>
    intro s o
    refine Completes.of_runs (execHostReturn_runs o s) fun t e hf => ⟨hf.eq_mix, ?_, fun h => next_unique e (execHostReturn_none h)⟩
    rintro m ⟨hp, hm, hc, ht, hn⟩
    obtain rfl := next_unique e (execHostReturn_back hp hm hc ht hn)
    refine ⟨rfl, rfl, fun n h8 => ?_⟩
    exact (State.colSheepdog_sheepdog (s.begin o).hostFound false h8).trans (by simp)

end Sys2Proof.Machine

/-! O11: the reset of cluster 0 of SNS (01 R25), which starts the sensor inputs afresh. -/

namespace Sys2Proof.Machine

/-- A module that has been on for 1 s, every region in RUN, with a SERVICE session past its HELLO on ring 0, and an input image that SNS has
written for CTL and that CTL has not read yet. -/
def imageWaits : State :=
  { State.reset with
    pwr := { PwrSt.reset with supply := .normal }
    regions := Vector.replicate 10 { Region.reset with st := .run }
    clk := { ClkSt.reset with opt := 1000000000, tickOpt := 999990000, running := true }
    hst := { HstSt.reset with
      sess := put HstSt.reset.sess 0 { Sess.reset with isOpen := true, hello := true, level := 2, agreed := 0xFFFF }
      ring := put HstSt.reset.ring 0 { Ring.reset with isOpen := true, sess := 0, limit := 4 } }
    sns := { SnsSt.reset with mail := some ImageSt.none } }

/-- A request of the session on its ring. -/
def resetRequest : HostReq := { sess := 0, pathB := false, ring := 0, ticket := 1, seq := 1, lenOk := true, opt := 1000000100 }

set_option maxRecDepth 2000 in
/-- The request meets what the statement asks of a cluster reset, here of cluster 0 of region 2, which is SNS. -/
theorem resetRequest_admissible : imageWaits.ready resetRequest (writeLevel [0x140]) 0 = true ∧ imageWaits.blockShut 0 = false ∧
    (0x200 : Word) &&& 0xFFFFF000 = 0 ∧ 2 ≤ (imageWaits.sess resetRequest.sess).level ∧ imageWaits.clusterCheck 0x200 = none := by
  decide

set_option maxRecDepth 2000 in
/-- The image that waited is gone: the sensor inputs start afresh. -/
theorem clusterReset_drops_image :
    (writeOne resetRequest 0x140 0x200 imageWaits).sns.mail = none := by
  decide

/-- Refutes O11: its frame of CLUSTER_RESET leaves SNS as it was, but the reset of cluster 0 of region SNS starts the sensor inputs afresh,
and with them the mailbox of the input image (01 R25; 06 R163). -/
theorem not_powerLinkFrames : ¬ Obligations.PowerLinkFrames := by
  unfold Obligations.PowerLinkFrames
  rintro ⟨-, -, -, reset⟩
  obtain ⟨ready, shut, fits, service, check⟩ := resetRequest_admissible
  obtain ⟨t, e, -, -, frame, -⟩ := reset imageWaits resetRequest 0x200 ready shut fits ⟨service, check⟩
  have next : t = writeOne resetRequest 0x140 0x200 imageWaits := next_unique e rfl
  have kept : t.sns = imageWaits.sns := by rw [frame]
  have gone : imageWaits.sns.mail = none := by rw [← kept, next, clusterReset_drops_image]
  cases gone

end Sys2Proof.Machine

/-! Shunts, frequency inputs and sensor supplies (06 R168 to R170, R176, R183). -/

namespace Sys2Proof.Machine

@[simp] theorem State.ainMode_begin (s : State) (o : Opt) (n : Nat) : (s.begin o).ainMode n = s.ainMode n := rfl
@[simp] theorem State.finQuad_begin (s : State) (o : Opt) (n : Nat) : (s.begin o).finQuad n = s.finQuad n := rfl

/-! Shunts (06 R168). -/

section
variable {s : State} {o : Opt} {n : Fin 24}

theorem execShuntDisconnect_off (hr : s.runs rSNS = true) (hm : s.ainMode n.val = 0x12) (hc : (rd s.sns.ain n.val).shuntOff = none) :
    execShuntDisconnect o n s =
      .next ((s.begin o).updSns fun q => { q with ain := upd q.ain n.val fun c => { c with shuntOff := some o } }) :=
  if_neg (by simp [hr, hm, hc])

theorem execShuntDisconnect_kept (h : s.runs rSNS = false ∨ s.ainMode n.val ≠ 0x12 ∨ (rd s.sns.ain n.val).shuntOff.isSome = true) :
    execShuntDisconnect o n s = .next (s.begin o) :=
  if_pos h

theorem execShuntReconnect_of_off {e : Opt} (h : (rd s.sns.ain n.val).shuntOff = some e) : execShuntReconnect o n s =
    if e + 1000000000 ≤ o then
      .next ((s.begin o).updSns fun q => { q with ain := upd q.ain n.val fun c => { c with shuntOff := none } })
    else .next (s.begin o) := by
  simp [execShuntReconnect, h]

theorem execShuntReconnect_of_on (h : (rd s.sns.ain n.val).shuntOff = none) : execShuntReconnect o n s = .next (s.begin o) := by
  simp [execShuntReconnect, h]

/-! The zero of a frequency input (06 R169). -/

/-- The instant from which frequency input `n` reads zero: ZERO_MS after its latest counted edge, or after SNS started. -/
def State.finZeroAt (s : State) (n : Nat) : Opt :=
  (if (rd s.sns.fin n).last = 0 then s.sns.start else (rd s.sns.fin n).last) + s.snsField 2 12 n (fun b => u16 b 2) 2000 * 1000000

theorem execFinZeroTimeout_expired (hr : s.runs rSNS = true) (ho : s.finZeroAt n.val ≤ o) : execFinZeroTimeout o n s =
    .next ((s.begin o).updSns fun q => { q with fin := upd q.fin n.val fun x => { x with timedOut := true, edges := [] } }) :=
  if_neg (not_or.mpr ⟨by simp [hr], Nat.not_lt.mpr ho⟩)

theorem execFinZeroTimeout_kept (h : s.runs rSNS = false ∨ o < s.finZeroAt n.val) : execFinZeroTimeout o n s = .next (s.begin o) :=
  if_pos h

end

/-! Edges of a frequency input (06 R169, R170). -/

/-- The state with frequency input `n` changed. -/
def State.updFin (s : State) (n : Nat) (f : FinCh → FinCh) : State := s.updSns fun q => { q with fin := upd q.fin n f }

/-- An error of a quadrature input, and a step of its count. -/
def FinCh.miss (c : FinCh) : FinCh := { c with errs := c.errs + 1 }
def FinCh.move (upward : Bool) (c : FinCh) : FinCh := { c with count := c.count + if upward = true then 1 else -1 }

theorem State.updFin_fin_same (s : State) {n : Nat} (h : n < 24) (f : FinCh → FinCh) :
    rd (s.updFin n f).sns.fin n = f (rd s.sns.fin n) := rd_upd_same _ h f

theorem State.updFin_fin_ne (s : State) {n k : Nat} (h : n ≠ k) (f : FinCh → FinCh) :
    rd (s.updFin n f).sns.fin k = rd s.sns.fin k := rd_upd_ne _ h f

theorem State.updFin_keeps {β : Type} (s : State) (n : Nat) {f : FinCh → FinCh} {p : FinCh → β} (h : ∀ x, p (f x) = p x) (k : Nat) :
    p (rd (s.updFin n f).sns.fin k) = p (rd s.sns.fin k) := rd_upd_keeps _ n h k

/-- What an edge at `o` leaves of a frequency input; `taken` tells whether it is one of those that count. -/
def FinCh.edge (c : FinCh) (o : Opt) (rising taken : Bool) : FinCh :=
  { c with level := rising, edges := if taken then (o :: c.edges).take 80 else c.edges, last := if taken then o else c.last }

/-- Whether an edge of frequency input `n` is one of those that count. -/
def State.takesEdge (s : State) (n : Nat) (rising : Bool) : Bool := rising || s.snsField 2 12 n (fun b => u8 b 1) 0 == 1

theorem State.countEdge_eq (s : State) (n : Nat) (o : Opt) (rising : Bool) :
    s.countEdge n o rising = s.updFin n fun c => c.edge o rising (s.takesEdge n rising) := rfl

/-- What no edge of an input changes of it, an edge of input `n` changes of no input. -/
theorem State.countEdge_keeps {β : Type} {p : FinCh → β} {o : Opt} (h : ∀ c rising taken, p (c.edge o rising taken) = p c) (s : State)
    (n : Nat) (rising : Bool) (k : Nat) : p (rd (s.countEdge n o rising).sns.fin k) = p (rd s.sns.fin k) :=
  s.updFin_keeps n (f := fun c => c.edge o rising (s.takesEdge n rising)) (fun c => h c _ _) k

/-- An edge alone moves no count and is no error. -/
theorem State.countEdge_count (s : State) (n : Nat) (o : Opt) (rising : Bool) (k : Nat) :
    (rd (s.countEdge n o rising).sns.fin k).count = (rd s.sns.fin k).count :=
  State.countEdge_keeps (p := FinCh.count) (fun _ _ _ => rfl) s n rising k

theorem State.countEdge_errs (s : State) (n : Nat) (o : Opt) (rising : Bool) (k : Nat) :
    (rd (s.countEdge n o rising).sns.fin k).errs = (rd s.sns.fin k).errs :=
  State.countEdge_keeps (p := FinCh.errs) (fun _ _ _ => rfl) s n rising k

/-- The even input of the pair of input `n`, which is A in quadrature, and the other input of the pair. -/
def finA (n : Nat) : Nat := n / 2 * 2
def finPartner (n : Nat) : Nat := if n = finA n then finA n + 1 else finA n

theorem finA_lt (n : Fin 24) : finA n.val < 24 := by unfold finA; omega
theorem finA_half (n : Nat) : finA n / 2 = n / 2 := by unfold finA; omega
theorem finPartner_half (n : Nat) : finPartner n / 2 = n / 2 := by unfold finPartner finA; split <;> omega
theorem finPartner_ne (n : Nat) : finPartner n ≠ n := by unfold finPartner finA; split <;> omega

/-- Whether an edge of input `n` alone is a step up: A leads B (06 R170; log 57). -/
def State.finUpward (s : State) (n : Nat) (rising : Bool) : Bool :=
  if n = finA n then rising != (rd s.sns.fin (finA n + 1)).level else rising == (rd s.sns.fin (finA n)).level

section
variable {s t : State} {o : Opt} {n : Fin 24} {up : Bool}

theorem execFinEdge_stopped {other : Bool} (hr : s.runs rSNS = false) : execFinEdge o n up other s = .next (s.begin o) :=
  if_pos hr

theorem execFinEdge_single {other : Bool} (hr : s.runs rSNS = true) (hq : s.finQuad (finA n.val) = false) :
    execFinEdge o n up other s = .next ((s.begin o).countEdge n.val o up) :=
  (if_neg (by simp [hr])).trans (if_pos hq)

/-- A and B change together. -/
theorem execFinEdge_both (hr : s.runs rSNS = true) (hq : s.finQuad (finA n.val) = true) : ∃ level, execFinEdge o n up true s =
    .next ((((s.begin o).countEdge n.val o up).countEdge (finPartner n.val) o level).updFin (finA n.val) FinCh.miss) :=
  ⟨_, (if_neg (by simp [hr])).trans ((if_neg (by simp [show s.finQuad (n.val / 2 * 2) = true from hq])).trans (if_pos rfl))⟩

theorem FinCh.move_eq (upward : Bool) :
    (fun c : FinCh => { c with count := if upward then c.count + 1 else c.count - 1 }) = FinCh.move upward := by
  funext c
  cases upward
  · exact congrArg (fun x => { c with count := x }) (BitVec.sub_eq_add_neg c.count 1)
  · rfl

/-- One of them changes alone. -/
theorem execFinEdge_alone (hr : s.runs rSNS = true) (hq : s.finQuad (finA n.val) = true) : execFinEdge o n up false s =
    .next (((s.begin o).countEdge n.val o up).updFin (finA n.val) (FinCh.move (s.finUpward n.val up))) := by
  rw [← FinCh.move_eq]
  exact (if_neg (by simp [hr])).trans ((if_neg (by simp [show s.finQuad (n.val / 2 * 2) = true from hq])).trans (if_neg (by decide)))

/-- The edge of input `n` shows in `t`: the level it leaves, a rising edge remembered, and no input outside its pair changed. -/
structure State.EdgeSeen (s : State) (o : Opt) (n : Fin 24) (up : Bool) (t : State) : Prop where
  level : (rd t.sns.fin n.val).level = up
  edges : up = true → (rd t.sns.fin n.val).edges = (o :: (rd s.sns.fin n.val).edges).take 80
  last : up = true → (rd t.sns.fin n.val).last = o
  others : ∀ k, k / 2 ≠ n.val / 2 → rd t.sns.fin k = rd s.sns.fin k

theorem State.edgeSeen_countEdge (s : State) (o : Opt) (n : Fin 24) (up : Bool) : s.EdgeSeen o n up ((s.begin o).countEdge n.val o up) := by
  have e : rd ((s.begin o).countEdge n.val o up).sns.fin n.val = (rd s.sns.fin n.val).edge o up ((s.begin o).takesEdge n.val up) :=
    State.updFin_fin_same _ n.isLt _
  refine ⟨by rw [e]; rfl, ?_, ?_, fun k hk => State.updFin_fin_ne _ (fun h => hk (by rw [← h])) _⟩
  · rintro rfl
    rw [e]
    rfl
  · rintro rfl
    rw [e]
    rfl

/-- An edge of the pair's other input changes nothing of it. -/
theorem State.EdgeSeen.countPartner (h : s.EdgeSeen o n up t) (level : Bool) :
    s.EdgeSeen o n up (t.countEdge (finPartner n.val) o level) := by
  have e : rd (t.countEdge (finPartner n.val) o level).sns.fin n.val = rd t.sns.fin n.val := t.updFin_fin_ne (finPartner_ne n.val) _
  refine ⟨by rw [e, h.level], by rw [e]; exact h.edges, by rw [e]; exact h.last, fun k hk => ?_⟩
  exact (t.updFin_fin_ne (fun he => hk (by rw [← he, finPartner_half])) _).trans (h.others k hk)

/-- Nor does a change of the pair's A that keeps level and edges. -/
theorem State.EdgeSeen.updA (h : s.EdgeSeen o n up t) {f : FinCh → FinCh} (hl : ∀ c, (f c).level = c.level)
    (he : ∀ c, (f c).edges = c.edges) (ht : ∀ c, (f c).last = c.last) : s.EdgeSeen o n up (t.updFin (finA n.val) f) := by
  refine ⟨(t.updFin_keeps _ hl _).trans h.level, fun hu => (t.updFin_keeps _ he _).trans (h.edges hu),
    fun hu => (t.updFin_keeps _ ht _).trans (h.last hu), fun k hk => ?_⟩
  exact (t.updFin_fin_ne (fun ha => hk (by rw [← ha, finA_half])) _).trans (h.others k hk)

/-- In every mode of the input an edge while SNS runs shows. -/
theorem execFinEdge_seen {other : Bool} (hr : s.runs rSNS = true) (e : execFinEdge o n up other s = .next t) : s.EdgeSeen o n up t := by
  have seen := s.edgeSeen_countEdge o n up
  cases hq : s.finQuad (finA n.val)
  case false =>
    cases e.symm.trans (execFinEdge_single hr hq)
    exact seen
  case true =>
    cases other
    case false =>
      cases e.symm.trans (execFinEdge_alone hr hq)
      exact seen.updA (fun _ => rfl) (fun _ => rfl) (fun _ => rfl)
    case true =>
      obtain ⟨level, e'⟩ := execFinEdge_both (o := o) (up := up) hr hq
      cases e.symm.trans e'
      exact (seen.countPartner level).updA (fun _ => rfl) (fun _ => rfl) (fun _ => rfl)

/-- A and B together are an error and move no count. -/
theorem execFinEdge_error (hr : s.runs rSNS = true) (hq : s.finQuad (finA n.val) = true) (e : execFinEdge o n up true s = .next t) :
    (rd t.sns.fin (finA n.val)).errs = (rd s.sns.fin (finA n.val)).errs + 1 ∧
      (rd t.sns.fin (finA n.val)).count = (rd s.sns.fin (finA n.val)).count := by
  obtain ⟨level, e'⟩ := execFinEdge_both (o := o) (up := up) hr hq
  cases e.symm.trans e'
  rw [State.updFin_fin_same _ (finA_lt n)]
  refine ⟨congrArg (· + 1) ?_, ?_⟩
  · rw [State.countEdge_errs, State.countEdge_errs]
    rfl
  · exact (State.countEdge_count _ _ _ _ _).trans (State.countEdge_count _ _ _ _ _)

/-- One of them alone moves the count and is no error. -/
theorem execFinEdge_step (hr : s.runs rSNS = true) (hq : s.finQuad (finA n.val) = true) (e : execFinEdge o n up false s = .next t) :
    (rd t.sns.fin (finA n.val)).errs = (rd s.sns.fin (finA n.val)).errs ∧
      (rd t.sns.fin (finA n.val)).count = (rd s.sns.fin (finA n.val)).count + if s.finUpward n.val up = true then 1 else -1 := by
  cases e.symm.trans (execFinEdge_alone hr hq)
  rw [State.updFin_fin_same _ (finA_lt n)]
  exact ⟨State.countEdge_errs _ _ _ _ _, congrArg (· + _) (State.countEdge_count _ _ _ _ _)⟩

end

/-! Clearing the counts (06 R183). -/

/-- An element after the same change of each of a list of elements, where changing one twice is changing it once. -/
theorem rd_foldl_upd {α : Type} {m : Nat} [Inhabited α] {f : α → α} (hf : ∀ x, f (f x) = f x) (l : List Nat) (v : Vector α m) {k : Nat}
    (hk : k < m) : rd (l.foldl (fun v n => upd v n f) v) k = if k ∈ l then f (rd v k) else rd v k := by
  induction l generalizing v with
  | nil => rfl
  | cons i l ih =>
    rw [List.foldl_cons, ih]
    by_cases hi : i = k
    · subst hi
      simp [rd_upd_same v hk, hf]
    · simp [rd_upd_ne v hi, Ne.symm hi]

/-- The inputs whose counts a write of `m` to SNS_FIN_POS_CLR clears. -/
theorem State.finPosClear_fin (s : State) (m : Nat) {n : Nat} (hn : n < 24) : rd (s.finPosClear m).sns.fin n =
    if s.finQuad n = true ∧ m.testBit n = true then { rd s.sns.fin n with posClr := true } else rd s.sns.fin n := by
  refine (rd_foldl_upd (f := fun c : FinCh => { c with posClr := true }) (fun _ => rfl) _ s.sns.fin hn).trans ?_
  simp [hn]

theorem findAddr_finPosClr : findAddr 0x20580 = some ⟨.sns .finPosClr, 0, 0xFF000000⟩ := by decide

/-- SNS_FIN_POS_CLR has no bit that an event sets, so that a write takes effect as it stands. -/
theorem writeAt_finPosClr (s : State) (r : HostReq) (v : Word) : s.writeAt r 0x20580 v = s.finPosClear v.toNat := by
  have fresh : s.freshBits (.sns .finPosClr) 0 = 0#32 := by simp [State.freshBits, RegId.w1c]
  rw [writeAt_eq findAddr_finPosClr, fresh, BitVec.not_zero, BitVec.and_allOnes]
  rfl

theorem writeStatus_finPosClr {s : State} {r : HostReq} {v : Word} (hb : s.blockShut 2 = false) (hv : v &&& 0xFF000000 = 0) :
    s.writeStatus r 0x20580 v = none :=
  writeStatus_none findAddr_finPosClr hb hv rfl

theorem State.blockShut_admitted (s : State) (r : HostReq) (op blk : Nat) : (s.admitted r op).blockShut blk = s.blockShut blk := by
  rw [State.admitted_eq]
  rfl

theorem State.finQuad_admitted (s : State) (r : HostReq) (op n : Nat) : (s.admitted r op).finQuad n = s.finQuad n := by
  rw [State.admitted_eq]
  rfl

theorem State.admitted_sns (s : State) (r : HostReq) (op : Nat) : (s.admitted r op).sns = s.sns := by
  rw [State.admitted_eq]

/-- A ready FIN_POS_CLEAR marks the quadrature inputs that it names, and nothing else changes. -/
theorem execFinPosClear_effect {s t : State} {r : HostReq} {v : Word} (h : s.ready r (writeLevel [0x20580]) 0 = true)
    (hb : s.blockShut 2 = false) (hv : v &&& 0xFF000000 = 0) (ht : writeOne r 0x20580 v s = t) :
    s.answers t r 0x0011 stOK [] ∧ s.hostKeeps t r ∧
      t = { s with clk := t.clk, hst := t.hst, out := t.out, sns := { s.sns with fin := t.sns.fin } } ∧
      t.sns.fin = ((s.admitted r 0x0011).finPosClear v.toNat).sns.fin := by
  obtain ⟨answers, keeps, e⟩ := ht ▸ writeOne_effect h (writeStatus_finPosClr ((s.blockShut_admitted r 0x0011 2).trans hb) hv)
    (writeAt_finPosClr (s.admitted r 0x0011) r v) rfl rfl (s.admitted_out r 0x0011)
  refine ⟨answers, keeps, ?_, congrArg (·.sns.fin) e⟩
  rw [e]
  unfold State.finPosClear State.updSns
  rw [State.admitted_eq]

/-! Sensor supplies (06 R176). -/

section
variable {s : State} {o : Opt} {n : Fin 4}

theorem execSup5Trip_limited (h : (s.begin o).supLimited n.val o = true) : execSup5Trip o n s =
    .next ((s.begin o).updSns fun q => { q with
      sup := upd q.sup n.val fun c => { c with live := .tripped, limitAt := none, trips := c.trips + 1, tripAt := o } }) :=
  if_neg (by simp [h])

theorem execSup5Trip_kept (h : (s.begin o).supLimited n.val o = false) : execSup5Trip o n s = .next (s.begin o) :=
  if_pos h

/-- A supply in its limit since `e`, as the images show it, is limited from 2 ms on. -/
theorem State.supLimited_of_since {k : Nat} {e : Opt} (hr : s.runs rSNS = true) (hc : s.inReset rSNS 0 = false)
    (hi : s.sns.cut.isSome = true) (hl : (rd s.sns.sup k).live = .limit) (ha : (rd s.sns.sup k).limitAt = some e)
    (ho : e + 2000000 ≤ o) : s.supLimited k o = true := by
  simp [State.supLimited, hr, hc, hi, hl, ha, ho]

/-- A supply that is off or has tripped is not. -/
theorem State.supLimited_of_dead {k : Nat} (h : (rd s.sns.sup k).live = .off ∨ (rd s.sns.sup k).live = .tripped) :
    s.supLimited k o = false := by
  have on : (rd s.sns.sup k).live ≠ .on := fun e => by simp [e] at h
  have limit : (rd s.sns.sup k).live ≠ .limit := fun e => by simp [e] at h
  unfold State.supLimited
  dsimp only
  split
  · split
    · simp [limit]
    · rfl
  · simp [on, limit]

theorem execSup5Retry_on (hl : (rd s.sns.sup n.val).live = .tripped) (ho : (rd s.sns.sup n.val).tripAt + 1000000000 ≤ o) :
    execSup5Retry o n s = .next ((s.begin o).updSns fun q => { q with sup := upd q.sup n.val fun x => { x with live := .on } }) :=
  if_pos ⟨hl, ho⟩

theorem execSup5Retry_kept (h : (rd s.sns.sup n.val).live ≠ .tripped ∨ o < (rd s.sns.sup n.val).tripAt + 1000000000) :
    execSup5Retry o n s = .next (s.begin o) :=
  if_neg fun ⟨hl, ho⟩ => h.elim (· hl) (Nat.not_lt.mpr ho)

end

/-- Settles O32: each event's meaning is a case split on its guard; an edge shows in every mode of its input, and in quadrature the pair's A
takes the step or the error; a write of SNS_FIN_POS_CLR is a write of one register whose effect marks the inputs named. -/
theorem sensorChannelEvents : Obligations.SensorChannelEvents := by
  unfold Obligations.SensorChannelEvents
  refine ⟨?shuntOff, ?shuntOn, ?zero, ?edge, ?clear, ?trip, ?retry⟩
  case shuntOff =>
    intro s o n
    refine Completes.of_runs (execShuntDisconnect_runs o n s) fun t e hf =>
      ⟨hf.eq_mix, ?_, fun h => next_unique e (execShuntDisconnect_kept h)⟩
    rintro ⟨hr, hm, hc⟩
    obtain rfl := next_unique e (execShuntDisconnect_off hr hm hc)
    rfl
  case shuntOn =>
    intro s o n
    refine Completes.of_runs (execShuntReconnect_runs o n s) fun t e hf =>
      ⟨hf.eq_mix, fun i hi => ⟨fun h => ?_, fun h => ?_⟩, fun h => next_unique e (execShuntReconnect_of_on h)⟩
    · obtain rfl := next_unique e ((execShuntReconnect_of_off hi).trans (if_pos h))
      rfl
    · exact next_unique e ((execShuntReconnect_of_off hi).trans (if_neg (Nat.not_le.mpr h)))
  case zero =>
    intro s o n
    refine Completes.of_runs (execFinZeroTimeout_runs o n s) fun t e hf => ⟨hf.eq_mix, ?_⟩
    rintro lim rfl
    refine ⟨?_, fun h => next_unique e (execFinZeroTimeout_kept h)⟩
    rintro ⟨hr, ho⟩
    obtain rfl := next_unique e (execFinZeroTimeout_expired hr ho)
    rfl
  case edge =>
    intro s o n up other
    refine Completes.of_runs (execFinEdge_runs o n up other s) fun t e hf =>
      ⟨hf.eq_mix, fun hr => next_unique e (execFinEdge_stopped hr), fun hr => ?_⟩
    have seen := execFinEdge_seen hr e
    refine ⟨seen.level, fun hu => ⟨seen.edges hu, seen.last hu⟩, seen.others, fun hq => ⟨?_, ?_⟩⟩
    · rintro rfl
      exact execFinEdge_error hr hq e
    · rintro rfl
      exact execFinEdge_step hr hq e
  case clear =>
    intro s r v h hb hv
    obtain ⟨answers, keeps, frame, fin⟩ := execFinPosClear_effect h hb hv rfl
    refine ⟨_, rfl, answers, keeps, frame, fun n hn => ?_⟩
    rw [fin, State.finPosClear_fin _ _ hn, State.finQuad_admitted, State.admitted_sns]
    rfl
  case trip =>
    intro s o n
    refine Completes.of_runs (execSup5Trip_runs o n s) fun t e hf =>
      ⟨hf.eq_mix, ?_, fun h => next_unique e (execSup5Trip_kept (State.supLimited_of_dead h))⟩
    rintro i ⟨hr, hc, hi, hl, ha, ho⟩
    obtain rfl := next_unique e (execSup5Trip_limited (State.supLimited_of_since hr hc hi hl ha ho))
    rfl
  case retry =>
    intro s o n
    refine Completes.of_runs (execSup5Retry_runs o n s) fun t e hf =>
      ⟨hf.eq_mix, ?_, fun h => next_unique e (execSup5Retry_kept h)⟩
    rintro ⟨hl, ho⟩
    obtain rfl := next_unique e (execSup5Retry_on hl ho)
    rfl

end Sys2Proof.Machine

/-! Crop flow and grain loss: calibration commands, tare, loss channels and spectrum (07 R194 to R199, R207, R212). -/

namespace Sys2Proof.Machine

theorem rd_map {α β : Type} {n : Nat} [Inhabited α] [Inhabited β] (v : Vector α n) (f : α → β) {i : Nat} (h : i < n) :
    rd (v.map f) i = f (rd v i) := by
  simp [rd, h]

@[simp] theorem State.updFlw_flw (s : State) (f : FlwSt → FlwSt) : (s.updFlw f).flw = f s.flw := rfl
@[simp] theorem State.updLs_flw (s : State) (n : Nat) (f : LossCh → LossCh) : (s.updLs n f).flw = { s.flw with ls := upd s.flw.ls n f } := rfl

/-! Register writes that act on the flow block (05 R150; 07 R212). -/

/-- A write of a register without W1C bits takes effect as it stands. -/
theorem writeAt_of_w1c_zero {s : State} {r : HostReq} {a : Nat} {v : Word} {h : RegHit} (ha : findAddr a = some h) (hw : h.id.w1c = 0) :
    s.writeAt r a v = s.regWrite r h.id h.idx v := by
  have fresh : s.freshBits h.id h.idx = 0#32 := by simp [State.freshBits, hw]
  rw [writeAt_eq ha, fresh, BitVec.not_zero, BitVec.and_allOnes]

/-- A ready write of one register that passes its checks and acts on the flow block alone. -/
theorem writeOne_updFlw {s : State} {r : HostReq} {a : Nat} {v : Word} {x : RegHit} {f : FlwSt → FlwSt}
    (h : s.ready r (writeLevel [a]) 0 = true) (ha : findAddr a = some x) (hb : s.blockShut (a / 65536) = false) (hv : v &&& x.rsv = 0)
    (hc : (s.admitted r 0x0011).regCheck r x.id x.idx v = none) (hw : x.id.w1c = 0)
    (he : (s.admitted r 0x0011).regWrite r x.id x.idx v = (s.admitted r 0x0011).updFlw f) {t : State} (ht : writeOne r a v s = t) :
    s.answers t r 0x0011 stOK [] ∧ s.hostKeeps t r ∧ t = { s with clk := t.clk, hst := t.hst, out := t.out, flw := f s.flw } := by
  have shut : (s.admitted r 0x0011).blockShut (a / 65536) = false := (s.blockShut_admitted r _ _).trans hb
  obtain ⟨answers, keeps, e⟩ := ht ▸ writeOne_effect h (writeStatus_none ha shut hv hc) ((writeAt_of_w1c_zero ha hw).trans he)
    rfl rfl (s.admitted_out r 0x0011)
  refine ⟨answers, keeps, ?_⟩
  rw [e]
  unfold State.updFlw
  rw [State.admitted_eq]

theorem findAddr_calCmd : findAddr 0x30020 = some ⟨.flw .calCmd, 0, 0xFFFFFFF8⟩ := by decide
theorem findAddr_lsCntClr : findAddr 0x301C0 = some ⟨.flw .lsCntClr, 0, 0xFFFF0000⟩ := by decide

/-- A ready write of FLW_CAL_CMD queues the command of its code for the window boundary (07 R194). -/
theorem writeOne_calCmd {s : State} {r : HostReq} {v : Word} (h : s.ready r (writeLevel [0x30020]) 0 = true) (hb : s.blockShut 3 = false)
    (hv : v &&& 0xFFFFFFF8 = 0) {k : Nat} (hk : field v 0 3 = k) (hr : within k 1 5 = true) {t : State} (ht : writeOne r 0x30020 v s = t) :
    s.answers t r 0x0011 stOK [] ∧ s.hostKeeps t r ∧
      t = { s with clk := t.clk, hst := t.hst, out := t.out, flw := { s.flw with calCmds := s.flw.calCmds ++ [calCmdOf k] } } := by
  subst hk
  exact writeOne_updFlw (f := fun f => { f with calCmds := f.calCmds ++ [calCmdOf (field v 0 3)] }) h findAddr_calCmd hb hv
    (if_pos hr) rfl rfl ht

/-- A ready write of FLW_LS_CNT_CLR clears the counters of the channels it names (07 R212). -/
theorem writeOne_lsCntClr {s : State} {r : HostReq} {v : Word} (h : s.ready r (writeLevel [0x301C0]) 0 = true) (hb : s.blockShut 3 = false)
    (hv : v &&& 0xFFFF0000 = 0) {t : State} (ht : writeOne r 0x301C0 v s = t) :
    s.answers t r 0x0011 stOK [] ∧ s.hostKeeps t r ∧
      t = { s with clk := t.clk, hst := t.hst, out := t.out, flw := (s.lossCntClear v.toNat).flw } :=
  writeOne_updFlw (f := fun f => (({ s with flw := f } : State).lossCntClear v.toNat).flw) h findAddr_lsCntClr hb hv rfl rfl rfl ht

/-! Calibration commands at the window boundary (07 R194). -/

theorem State.calEnter_calState (s : State) : s.calEnter.flw.calState = .idle := by
  unfold State.calEnter
  dsimp only
  split
  · rfl
  · split
    · rfl
    · split
      · rfl
      · split <;> rfl

/-- The state with no calibration command waiting. -/
def State.dropCalCmds (s : State) : State := s.updFlw fun f => { f with calCmds := [] }

theorem State.trySettings_refused {s : State} (h : Config.settingsFail s.free = true) (f : Settings → Settings) :
    s.trySettings f = (none, { s with free := s.free + 1 }) :=
  if_pos h

theorem State.trySettings_taken {s : State} (h : ¬ Config.settingsFail s.free = true) (f : Settings → Settings) :
    s.trySettings f = (some (({ s with free := s.free + 1 } : State).updSettings f), { s with free := s.free + 1 }) :=
  if_neg h

/-- ENTER does not look at the commands that wait. -/
theorem State.calEnter_dropCalCmds (s : State) : s.dropCalCmds.calEnter = s.calEnter.dropCalCmds := by
  unfold State.calEnter
  dsimp only
  rw [apply_ite State.dropCalCmds, apply_ite State.dropCalCmds, apply_ite State.dropCalCmds]
  refine ite_congr rfl (fun _ => rfl) fun _ => ite_congr rfl (fun _ => rfl) fun _ => ite_congr rfl (fun _ => rfl) fun _ => ?_
  by_cases h : Config.settingsFail s.free = true
  · rw [State.trySettings_refused h, State.trySettings_refused (s := s.dropCalCmds) h]
    rfl
  · rw [State.trySettings_taken h, State.trySettings_taken (s := s.dropCalCmds) h]
    rfl

/-- No calibration command looks at the commands that wait. -/
theorem State.calCommand_dropCalCmds (s : State) (c : CalCmd) : s.dropCalCmds.calCommand c = (s.calCommand c).dropCalCmds := by
  unfold State.calCommand
  have st : s.dropCalCmds.flw.calState = s.flw.calState := rfl
  rw [st]
  cases c <;> cases s.flw.calState
  case enter.stopped => exact s.calEnter_dropCalCmds
  all_goals rfl

theorem State.applyGroup_none {s : State} {g : Nat} (h : s.snapReady g = none) : s.applyGroup g = s := by
  simp [State.applyGroup, h]

/-- Without a snapshot to apply, the boundary of the flow groups changes nothing. -/
theorem State.flwBoundary_none {s : State} (h0 : s.snapReady 0x0300 = none) (h1 : s.snapReady 0x0301 = none) : s.flwBoundary = s := by
  simp [State.flwBoundary, State.applyGroup_none h0, State.applyGroup_none h1]

/-- A window boundary at which one command waits and no snapshot is ready. -/
theorem State.flowBoundary_one {s : State} {c : CalCmd} (hc : s.flw.calCmds = [c]) (h0 : s.snapReady 0x0300 = none)
    (h1 : s.snapReady 0x0301 = none) : s.flowBoundary = (s.calCommand c).dropCalCmds.lossBoundary := by
  unfold State.flowBoundary
  dsimp only
  rw [State.flwBoundary_none h0 h1, hc, ← State.calCommand_dropCalCmds]
  rfl

/-! The end of a tare (07 R194). -/

section
variable {s : State} {o : Opt}

/-- A tare whose time is over at this window boundary. -/
def State.tareOver (s : State) (o : Opt) : Prop :=
  s.flw.calState = .taring ∧ s.sns.frameOpt = o ∧ s.flw.tareAt + s.flowField (fun b => u16 b 24) 5 * 1000000000 ≤ o

/-- It ends with the settings written, with their write refused by the flash, or without one: a sample was bad or a plate not at rest. -/
theorem execTareComplete_over (h : s.tareOver o) :
    (s.flw.tareBad = false ∧ ∃ f, execTareComplete o s =
      .next ((({ s.begin o with free := s.free + 1 } : State).updSettings f).calResult .idle 0x06)) ∨
    (s.flw.tareBad = false ∧ execTareComplete o s = .next (({ s.begin o with free := s.free + 1 } : State).calResult .idle 0x09)) ∨
    execTareComplete o s = .next ((s.begin o).calResult .idle 0x07) := by
  obtain ⟨taring, frame, passed⟩ : (s.begin o).tareOver o := h
  have due : ¬ ((s.begin o).flw.calState ≠ .taring ∨ (s.begin o).sns.frameOpt ≠ o ∨
      o < (s.begin o).flw.tareAt + (s.begin o).flowField (fun b => u16 b 24) 5 * 1000000000) := by
    rintro (h | h | h)
    · exact h taring
    · exact h frame
    · exact Nat.not_lt.mpr passed h
  unfold execTareComplete
  dsimp only
  rw [if_neg due]
  split
  next quiet =>
    by_cases h : Config.settingsFail s.free = true
    · rw [State.trySettings_refused (s := s.begin o) h]
      exact .inr (.inl ⟨quiet.1, rfl⟩)
    · rw [State.trySettings_taken (s := s.begin o) h]
      exact .inl ⟨quiet.1, _, rfl⟩
  next => exact .inr (.inr rfl)

theorem execTareComplete_none (h : s.flw.calState ≠ .taring ∨ s.sns.frameOpt ≠ o) : execTareComplete o s = .next (s.begin o) :=
  if_pos (h.elim .inl fun h => .inr (.inl h))

end

/-! A hit on a loss channel (07 R195 to R198). -/

/-- A channel's detector after a hit that ends at `stop`: baseline, noise floor and the end of the dead time. -/
def LossCh.hit (q : Quiet) (stop : Opt) (x : LossCh) : LossCh := { x with base := q.1, floor := q.2, deadEnd := stop }

/-- What a channel counts of a hit of class `k` in the peak and energy bins `b`. -/
def LossCh.tally (k : Nat) (b : Nat × Nat) (long sat : Bool) (x : LossCh) : LossCh :=
  { x with
    cnt := upd x.cnt k satInc, peakHist := binInc x.peakHist b.1, enHist := binInc x.enHist b.2,
    overlong := if long then satInc x.overlong else x.overlong,
    satCnt := if sat then satInc x.satCnt else x.satCnt, satNow := x.satNow || sat,
    err := x.err || long || sat,
    lastErr := if sat then 0x03 else if long then 0x02 else x.lastErr }

/-- The samples begin a hit, and SNS takes it. -/
def State.hitTaken (s : State) (n : Nat) (h : HitIn) : Prop :=
  s.runs rSNS = true ∧ s.inReset rSNS (1 + n / 8) = false ∧ s.hitStarts n h = true

/-- The channel counts what it detects. -/
def LossCh.counts (x : LossCh) : Prop := x.counting = true ∧ x.fault = false

/-- The channel's detector at the end of the hit, and the channel with the hit counted under the CLASSMAP `m`. -/
def State.hitDetected (s : State) (n : Nat) (h : HitIn) : LossCh → LossCh := LossCh.hit (s.hitLead n h).1 (s.hitStop n h)
def State.hitCounted (s : State) (n : Nat) (h : HitIn) (m : List Byte) (x : LossCh) : LossCh :=
  (s.hitDetected n h x).tally (hitClass m (s.hitWalk n h).feat (s.hitPile n h)) (hitBins m (s.hitWalk n h).feat)
    (s.hitWalk n h).overlong (s.hitSat n h)

section
variable {s : State} {n : Fin 16} {h : HitIn}

theorem State.not_hitTaken :
    ¬ s.hitTaken n.val h ↔ s.runs rSNS = false ∨ s.inReset rSNS (1 + n.val / 8) = true ∨ s.hitStarts n.val h = false := by
  simp only [State.hitTaken, Classical.not_and_iff_not_or_not, Bool.not_eq_true, Bool.not_eq_false]

theorem LossCh.not_counts {x : LossCh} : ¬ x.counts ↔ x.counting = false ∨ x.fault = true := by
  simp only [LossCh.counts, Classical.not_and_iff_not_or_not, Bool.not_eq_true, Bool.not_eq_false]

theorem execLossHit_none (ht : ¬ s.hitTaken n.val h) : execLossHit n h s = .next (s.begin (s.hitStop n.val h)) :=
  if_pos (State.not_hitTaken.mp ht)

/-- A hit on a channel that does not count it moves the detector alone. -/
theorem execLossHit_detected (ht : s.hitTaken n.val h) (hc : s.classMap n.val = none ∨ ¬ (rd s.flw.ls n.val).counts) :
    execLossHit n h s = .next ((s.begin (s.hitStop n.val h)).updLs n.val (s.hitDetected n.val h)) := by
  refine (if_neg fun e => State.not_hitTaken.mpr e ht).trans ?_
  have map : (s.begin (s.hitStop n.val h)).classMap n.val = s.classMap n.val := rfl
  rw [map]
  cases hm : s.classMap n.val with
  | none => rfl
  | some m => exact if_pos (LossCh.not_counts.mp (hc.resolve_left (by simp [hm])))

/-- A hit that its channel counts. -/
theorem execLossHit_counted {m : List Byte} (ht : s.hitTaken n.val h) (hm : s.classMap n.val = some m) (hc : (rd s.flw.ls n.val).counts) :
    execLossHit n h s = .next ((s.begin (s.hitStop n.val h)).updLs n.val (s.hitCounted n.val h m)) := by
  refine (if_neg fun e => State.not_hitTaken.mpr e ht).trans ?_
  have map : (s.begin (s.hitStop n.val h)).classMap n.val = some m := hm
  rw [map]
  refine (if_neg fun e => LossCh.not_counts.mpr e hc).trans (congrArg Host.Outcome.next ?_)
  unfold State.updLs State.updFlw
  dsimp only
  rw [upd_upd]
  rfl

/-- All that a hit can do: its own channel changes, or none does; and what does not count keeps its counts. -/
theorem execLossHit_cases {t : State} (e : execLossHit n h s = .next t) : ∃ o, t = s.begin o ∨
    ∃ f, t = (s.begin o).updLs n.val f ∧ (¬ (rd s.flw.ls n.val).counts → ∀ x, (f x).cnt = x.cnt) := by
  by_cases ht : s.hitTaken n.val h
  · cases hm : s.classMap n.val with
    | none =>
      cases e.symm.trans (execLossHit_detected ht (.inl hm))
      exact ⟨_, .inr ⟨_, rfl, fun _ _ => rfl⟩⟩
    | some m =>
      by_cases hc : (rd s.flw.ls n.val).counts
      · cases e.symm.trans (execLossHit_counted ht hm hc)
        exact ⟨_, .inr ⟨_, rfl, fun e => absurd hc e⟩⟩
      · cases e.symm.trans (execLossHit_detected ht (.inr hc))
        exact ⟨_, .inr ⟨_, rfl, fun _ _ => rfl⟩⟩
  · cases e.symm.trans (execLossHit_none ht)
    exact ⟨_, .inl rfl⟩

/-! Faults and recoveries of a loss input (07 R199). -/

variable {o : Opt}

theorem execLossInputFault_stopped (hr : s.runs rSNS = false) : execLossInputFault o n s = .next (s.begin o) := if_pos hr

theorem execLossInputFault_again (hr : s.runs rSNS = true) (hf : (rd s.flw.ls n.val).fault = true) :
    execLossInputFault o n s = .next ((s.begin o).updLs n.val fun x => { x with inState := none }) :=
  (if_neg (by simp [hr])).trans (if_pos hf)

/-- A loss channel in FAULT, with no counts. -/
def LossCh.faulted (x : LossCh) : LossCh :=
  { x with fault := true, whole := false, counting := false, lastErr := 0x01, inState := none,
           cnt := Vector.replicate 4 0, peakHist := [], enHist := [] }

theorem execLossInputFault_fault (hr : s.runs rSNS = true) (hf : (rd s.flw.ls n.val).fault = false) :
    execLossInputFault o n s = .next (((s.begin o).updLs n.val LossCh.faulted).unitFault 0x03 n.val 1) :=
  (if_neg (by simp [hr])).trans (if_neg (by simp [hf]))

theorem execLossInputFault_others {t : State} (e : execLossInputFault o n s = .next t) {k : Nat} (hk : k ≠ n.val) :
    rd t.flw.ls k = rd s.flw.ls k := by
  cases hr : s.runs rSNS with
  | false =>
    cases e.symm.trans (execLossInputFault_stopped hr)
    rfl
  | true =>
    cases hf : (rd s.flw.ls n.val).fault with
    | false =>
      cases e.symm.trans (execLossInputFault_fault hr hf)
      rw [State.unitFault_flw]
      exact rd_upd_ne _ hk.symm _
    | true =>
      cases e.symm.trans (execLossInputFault_again hr hf)
      exact rd_upd_ne _ hk.symm _

theorem execLossInputRecover_inside (h : (rd s.flw.ls n.val).fault = true ∧ (rd s.flw.ls n.val).lastErr = 0x01) :
    execLossInputRecover o n s = .next ((s.begin o).updLs n.val fun x => { x with inState := some o }) := if_pos h

theorem execLossInputRecover_none (h : (rd s.flw.ls n.val).fault = false ∨ (rd s.flw.ls n.val).lastErr ≠ 0x01) :
    execLossInputRecover o n s = .next (s.begin o) :=
  if_neg fun ⟨hf, he⟩ => h.elim (fun e => Bool.false_ne_true (e.symm.trans hf)) (· he)

end

/-! The subscriptions while items are published (05 R156, R157). -/

theorem State.sendEnvelope_subs (s : State) (k : Sub) (body : List Byte) : (s.sendEnvelope k body).hst.subs = s.hst.subs := by
  unfold State.sendEnvelope
  split <;> rfl

theorem State.sendItem_subs (s : State) (k : Sub) (i : Item) : (s.sendItem k i).hst.subs = s.hst.subs := by
  unfold State.sendItem
  dsimp only
  split
  · rfl
  · split
    · split
      · rfl
      · exact State.sendEnvelope_subs _ k _
    · rfl

/-- A subscription that has counted `n` items more. -/
def Sub.more (k : Sub) (n : Nat) : Sub := { k with items := k.items + n }

theorem Sub.more_more (k : Sub) (m n : Nat) : (k.more m).more n = k.more (n + m) :=
  congrArg (fun i => { k with items := i }) (by simp only [Sub.more]; omega)

/-- An item for the one subscription there is counts there. -/
theorem State.pubOne_lone {s : State} {k : Sub} (h : s.hst.subs = [k]) (i : Item) : (s.pubOne k.id i).hst.subs = [k.more 1] := by
  unfold State.pubOne
  simp only [h, List.find?_cons, beq_self_eq_true]
  split
  · rw [State.sendItem_subs]
    simp [Sub.more]
  · simp [Sub.more]

/-- An item of stream `stream` where there is one subscription, to that stream. -/
theorem State.publish_lone {s : State} {k : Sub} (h : s.hst.subs = [k]) {stream : Nat} (hk : k.stream = stream) (sel : Nat → Bool)
    (o d : Nat) (body : List Byte) :
    (s.publish stream sel o d body).hst.subs = [k.more (if sel k.inst = true then 1 else 0)] := by
  unfold State.publish State.publishItem
  cases hs : sel k.inst with
  | false => simp [h, hs, Sub.more]
  | true => simpa [h, hk, hs] using State.pubOne_lone h _

/-! The spectrum (07 R207). -/

/-- The spectrum's body `b` of channel `c` published at `o`. -/
def State.sendSpectrum (o : Opt) (s : State) (c : Nat) (b : List Byte) : State :=
  s.publish 4 (fun i => i == 0xFFFF || i == c) o (s.dvtAt o) b

theorem State.sendSpectrum_same (s : State) (o : Opt) (c : Nat) (b : List Byte) : Same 0x3000010000 s (s.sendSpectrum o c b) :=
  State.publish_same _ _ _ _ _ _

theorem State.sendSpectrum_lone {s : State} {k : Sub} (h : s.hst.subs = [k]) (hk : k.stream = 4) (o : Opt) (c : Nat) (b : List Byte) :
    (s.sendSpectrum o c b).hst.subs = [k.more (if (k.inst == 0xFFFF || k.inst == c) = true then 1 else 0)] :=
  State.publish_lone h hk _ _ _ _

/-- A lone subscription to the spectrum counts the channels published that it names. -/
theorem foldl_sendSpectrum_lone (o : Opt) (b : Nat → List Byte) (l : List Nat) {s : State} {k : Sub} (h : s.hst.subs = [k])
    (hk : k.stream = 4) : (l.foldl (fun t c => t.sendSpectrum o c (b c)) s).hst.subs =
      [k.more (l.countP fun c => k.inst == 0xFFFF || k.inst == c)] := by
  induction l generalizing s k with
  | nil => exact h
  | cons c l ih =>
    rw [List.foldl_cons, ih (State.sendSpectrum_lone h hk o c (b c)) hk, Sub.more_more, List.countP_cons]
    rfl

theorem countP_named_all {i : Nat} (h : i = 0xFFFF) : (List.range 16).countP (fun c => i == 0xFFFF || i == c) = 16 := by
  simp [h]

theorem countP_named_one {i : Nat} (h : i < 16) : (List.range 16).countP (fun c => i == 0xFFFF || i == c) = 1 := by
  have every : ∀ j : Fin 16, (List.range 16).countP (fun c => j.val == 0xFFFF || j.val == c) = 1 := by decide
  exact every ⟨i, h⟩

/-- The bodies that wait, and those of the period that ends now, one for each channel. -/
def State.sendWaiting (s : State) (o : Opt) : State := s.flw.specWait.zipIdx.foldl (fun t p => t.sendSpectrum o p.2 p.1) s
def State.sendSpectra (s : State) (o : Opt) : State := (List.range 16).foldl (fun t c => t.sendSpectrum o c (s.spectrumBody c)) s

theorem State.sendWaiting_flw (s : State) (o : Opt) : (s.sendWaiting o).flw = s.flw :=
  (Same.fold _ (Same.refl 0x3000010000 s) fun _ _ hu => hu.next (State.sendSpectrum_same _ _ _ _) (by decide)).flw (by decide)

theorem State.sendSpectra_flw (s : State) (o : Opt) : (s.sendSpectra o).flw = s.flw :=
  (Same.fold _ (Same.refl 0x3000010000 s) fun _ _ hu => hu.next (State.sendSpectrum_same _ _ _ _) (by decide)).flw (by decide)

theorem State.sendSpectra_lone {s : State} {k : Sub} (h : s.hst.subs = [k]) (hk : k.stream = 4) (o : Opt) : (s.sendSpectra o).hst.subs =
    [k.more ((List.range 16).countP fun c => k.inst == 0xFFFF || k.inst == c)] := by
  unfold State.sendSpectra
  exact foldl_sendSpectrum_lone o s.spectrumBody (List.range 16) h hk

/-- A channel with a fresh spectrum. -/
def LossCh.freshSpectrum (x : LossCh) : LossCh :=
  { x with specCnt := Vector.replicate 4 0, specPeak := [], specEn := [], specInvalid := false }

theorem State.spectrumClear_ls (s : State) {n : Nat} (h : n < 16) : rd s.spectrumClear.flw.ls n = (rd s.flw.ls n).freshSpectrum :=
  rd_map _ _ h

theorem State.spectrumClear_hst (s : State) : s.spectrumClear.hst = s.hst := rfl

section
variable {s : State} {o : Opt}

/-- Bodies that wait are published first. -/
theorem execLossSpectrumPublish_waiting (h : s.flw.specWait ≠ []) : execLossSpectrumPublish o s =
    .next (((s.begin o).sendWaiting o).updFlw fun f => { f with specWait := [] }) :=
  if_pos h

theorem execLossSpectrumPublish_due (h : s.flw.specWait = []) (hf : s.flw.specFrames ≠ 0) (hl : s.flw.specLast = true) :
    execLossSpectrumPublish o s = .next ((s.begin o).sendSpectra o).spectrumClear :=
  (if_neg (not_not_intro h)).trans (if_neg (by simp [hf, hl]))

theorem execLossSpectrumPublish_none (h : s.flw.specWait = []) (hf : s.flw.specFrames = 0 ∨ s.flw.specLast = false) :
    execLossSpectrumPublish o s = .next (s.begin o) :=
  (if_neg (not_not_intro h)).trans (if_pos hf)

end

/-- Settles O33: a calibration command and LOSS_CNT_CLEAR are a write of one register that acts on the flow block, and at the boundary the
command that waits acts as the table of calibration states gives it; each event is a case split on its condition, a hit changes its own channel
alone, and publishing the spectrum keeps the flow block and counts in the subscription. -/
theorem calibrationAndLoss : Obligations.CalibrationAndLoss := by
  unfold Obligations.CalibrationAndLoss
  refine ⟨?start, ?stop, ?enter, ?abort, ?tare, ?table, ?boundary, ?tareComplete, ?hit, ?fault, ?recover, ?clear, ?spectrum⟩
  case start => exact fun s r v h hb hv hk => ⟨_, rfl, writeOne_calCmd h hb hv hk rfl rfl⟩
  case stop => exact fun s r v h hb hv hk => ⟨_, rfl, writeOne_calCmd h hb hv hk rfl rfl⟩
  case enter => exact fun s r v h hb hv hk => ⟨_, rfl, writeOne_calCmd h hb hv hk rfl rfl⟩
  case abort => exact fun s r v h hb hv hk => ⟨_, rfl, writeOne_calCmd h hb hv hk rfl rfl⟩
  case tare => exact fun s r v h hb hv hk => ⟨_, rfl, writeOne_calCmd h hb hv hk rfl rfl⟩
  case table =>
    intro s
    refine ⟨fun h => ?_, fun h => ?_, fun h => ?_⟩
    · simp [State.calCommand, State.calResult, h]
    · simp [State.calCommand, State.calResult, h]
    · simp [State.calCommand, State.calEnter_calState, h]
  case boundary =>
    intro s c hc h0 h1
    rw [State.flowBoundary_one hc h0 h1]
    exact ⟨rfl, rfl, rfl⟩
  case tareComplete =>
    intro s o
    refine Completes.of_runs (execTareComplete_runs o s) fun t e hf =>
      ⟨hf.eq_mix, fun h => ?_, fun h => next_unique e (execTareComplete_none h)⟩
    rcases execTareComplete_over h with ⟨rest, f, e'⟩ | ⟨rest, e'⟩ | e'
    · obtain rfl := next_unique e e'
      exact ⟨rfl, .inl rfl, by simp [rest], fun h => absurd rfl h⟩
    · obtain rfl := next_unique e e'
      exact ⟨rfl, .inr (.inr rfl), by simp [rest], fun _ => rfl⟩
    · obtain rfl := next_unique e e'
      exact ⟨rfl, .inr (.inl rfl), fun _ => rfl, fun _ => rfl⟩
  case hit =>
    intro s n h
    refine Completes.of_runs (execLossHit_same n h s) fun t e _ => ?_
    obtain ⟨o, effect⟩ := execLossHit_cases e
    refine ⟨?_, fun hs => ?_, fun hc => ?_, fun k hk => ?_, ?_⟩
    · rintro m ⟨hr, hi, hs, hc, hf, hm⟩
      obtain rfl := next_unique e (execLossHit_counted ⟨hr, hi, hs⟩ hm ⟨hc, hf⟩)
      rw [State.updLs_flw, rd_upd_fin]
      exact ⟨rfl, rfl, fun sat => by simp [State.hitCounted, State.hitDetected, LossCh.tally, LossCh.hit, sat]⟩
    · obtain rfl := next_unique e (execLossHit_none (State.not_hitTaken.mpr (hs.elim .inl fun hs => .inr (.inr hs))))
      rfl
    · rcases effect with rfl | ⟨f, rfl, keeps⟩
      · rfl
      · rw [State.updLs_flw, rd_upd_fin]
        exact keeps (LossCh.not_counts.mpr hc) _
    · rcases effect with rfl | ⟨f, rfl, -⟩
      · rfl
      · exact rd_upd_ne _ hk.symm f
    · rcases effect with rfl | ⟨f, rfl, -⟩ <;> rfl
  case fault =>
    intro s o n
    refine Completes.of_runs (execLossInputFault_runs o n s) fun t e hf =>
      ⟨hf.eq_mix, ?_, ?_, fun h => next_unique e (execLossInputFault_stopped h), fun k hk => execLossInputFault_others e hk⟩
    · rintro ⟨hr, h⟩
      obtain rfl := next_unique e (execLossInputFault_fault hr h)
      rw [State.unitFault_flw, State.updLs_flw, rd_upd_fin]
      exact ⟨rfl, rfl, rfl, rfl⟩
    · rintro ⟨hr, h⟩
      obtain rfl := next_unique e (execLossInputFault_again hr h)
      rw [State.updLs_flw, rd_upd_fin]
  case recover =>
    intro s o n
    refine Completes.of_runs (execLossInputRecover_runs o n s) fun t e hf =>
      ⟨hf.eq_mix, fun h => ?_, fun h => next_unique e (execLossInputRecover_none h)⟩
    obtain rfl := next_unique e (execLossInputRecover_inside h)
    rfl
  case clear =>
    intro s r v h hb hv
    exact ⟨_, rfl, writeOne_lsCntClr h hb hv rfl⟩
  case spectrum =>
    intro s o
    refine Completes.of_runs (execLossSpectrumPublish_runs o s) fun t e hf =>
      ⟨hf.eq_mix, ?due, fun h => ?waiting, fun ⟨h, hn⟩ => next_unique e (execLossSpectrumPublish_none h hn)⟩
    case due =>
      rintro ⟨h, hn, hl⟩
      obtain rfl := next_unique e (execLossSpectrumPublish_due h hn hl)
      refine ⟨rfl, rfl, fun n hn => ?_, fun k ⟨hk, hs⟩ => ?_⟩
      · rw [State.spectrumClear_ls _ hn, State.sendSpectra_flw]
        rfl
      · rw [State.spectrumClear_hst, State.sendSpectra_lone (s := s.begin o) hk hs]
        exact ⟨fun hi => by rw [countP_named_all hi]; rfl, fun hi => by rw [countP_named_one hi]; rfl⟩
    case waiting =>
      obtain rfl := next_unique e (execLossSpectrumPublish_waiting h)
      rw [State.updFlw_flw, State.sendWaiting_flw]
      rfl

end Sys2Proof.Machine

/-! The loop engine: its slots and processors, what a computation, a command and a register of the block do (08 R216 to R244). -/

namespace Sys2Proof.Machine

/-! The slots and processors after a change. -/

@[simp] theorem State.slot_begin (s : State) (o : Opt) (n : Nat) : (s.begin o).slot n = s.slot n := rfl
@[simp] theorem State.slot_reach (s : State) (o : Opt) (n : Nat) : (s.reach o).slot n = s.slot n := rfl
@[simp] theorem State.slot_start (s : State) (n : Nat) : s.start.slot n = s.slot n := rfl
@[simp] theorem State.slot_updProc (s : State) (p n : Nat) (f : Proc → Proc) : (s.updProc p f).slot n = s.slot n := rfl

theorem State.slot_updSlot_same (s : State) {n : Nat} (h : n < 128) (f : Slot → Slot) : (s.updSlot n f).slot n = f (s.slot n) :=
  rd_upd_same _ h f

theorem State.slot_updSlot_ne (s : State) {n k : Nat} (h : k ≠ n) (f : Slot → Slot) : (s.updSlot n f).slot k = s.slot k :=
  rd_upd_ne _ h.symm f

theorem State.slot_updSlot_keeps {β : Type} (s : State) (n : Nat) {f : Slot → Slot} {p : Slot → β} (h : ∀ c, p (f c) = p c) (k : Nat) :
    p ((s.updSlot n f).slot k) = p (s.slot k) :=
  rd_upd_keeps s.lop.slot n h k

@[simp] theorem State.updSlot_proc (s : State) (n : Nat) (f : Slot → Slot) : (s.updSlot n f).lop.proc = s.lop.proc := rfl

/-- The end of the stall injection changes no slot and no processor. -/
@[simp] theorem State.slot_stallOff (s : State) (n k : Nat) : (s.stallOff n).slot k = s.slot k := by
  unfold State.stallOff
  split <;> rfl

@[simp] theorem State.stallOff_proc (s : State) (n : Nat) : (s.stallOff n).lop.proc = s.lop.proc := by
  unfold State.stallOff
  split <;> rfl

@[simp] theorem State.stallOff_en (s : State) (n : Nat) : (s.stallOff n).lop.en = s.lop.en := by
  unfold State.stallOff
  split <;> rfl

@[simp] theorem State.unitFault_lop (s : State) (b u e : Nat) : (s.unitFault b u e).lop = s.lop :=
  (s.unitFault_same b u e).lop (by decide)

@[simp] theorem State.slot_unitFault (s : State) (b u e n : Nat) : (s.unitFault b u e).slot n = s.slot n :=
  congrArg (fun l : LopSt => rd l.slot n) (s.unitFault_lop b u e)

/-! A slot enters FAULT (08 R222). -/

/-- A slot in FAULT with `code`, its fault action due at tick `due`. -/
def Slot.faulted (code : Byte) (due : Nat) (c : Slot) : Slot := { c with fault := true, lastErr := code, faultAt := some due, invRun := 0 }

section
variable {s : State} {n : Nat} {code : Byte} {due : Nat}

theorem State.slotFault_none (h : (s.slot n).fault = true ∨ (s.slot n).enF = false) : s.slotFault n code due = s := if_pos h

theorem State.slotFault_enabled (he : (s.slot n).enF = true) (hf : (s.slot n).fault = false) :
    s.slotFault n code due = ((s.updSlot n (Slot.faulted code due)).stallOff n).unitFault 0x04 n code.toNat :=
  if_neg (by simp [he, hf])

/-- All that it can do to the slots: its own is faulted, or none changes. -/
theorem State.slot_slotFault_cases (s : State) (n : Nat) (code : Byte) (due k : Nat) :
    (s.slotFault n code due).slot k = (s.updSlot n (Slot.faulted code due)).slot k ∨ (s.slotFault n code due).slot k = s.slot k := by
  by_cases h : (s.slot n).fault = true ∨ (s.slot n).enF = false
  · exact .inr (by rw [State.slotFault_none h])
  · obtain ⟨hf, he⟩ := not_or.mp h
    rw [State.slotFault_enabled (by simpa using he) (by simpa using hf)]
    exact .inl (by simp)

theorem State.slot_slotFault_same (h : n < 128) (he : (s.slot n).enF = true) (hf : (s.slot n).fault = false) :
    (s.slotFault n code due).slot n = (s.slot n).faulted code due := by
  rw [State.slotFault_enabled he hf, State.slot_unitFault, State.slot_stallOff, State.slot_updSlot_same _ h]

theorem State.slot_slotFault_ne {k : Nat} (h : k ≠ n) : (s.slotFault n code due).slot k = s.slot k := by
  rcases s.slot_slotFault_cases n code due k with e | e
  · rw [e, State.slot_updSlot_ne _ h]
  · exact e

/-- What a fault keeps of a slot, it keeps of every slot. -/
theorem State.slot_slotFault_keeps {β : Type} {p : Slot → β} (h : ∀ c, p (Slot.faulted code due c) = p c) (k : Nat) :
    p ((s.slotFault n code due).slot k) = p (s.slot k) := by
  rcases s.slot_slotFault_cases n code due k with e | e
  · rw [e, State.slot_updSlot_keeps _ _ h]
  · rw [e]

theorem State.slotFault_proc (s : State) (n : Nat) (code : Byte) (due : Nat) : (s.slotFault n code due).lop.proc = s.lop.proc := by
  by_cases h : (s.slot n).fault = true ∨ (s.slot n).enF = false
  · rw [State.slotFault_none h]
  · unfold State.slotFault
    rw [if_neg h]
    simp

end

/-! A result posted (08 R218, R219). -/

/-- Slot `n` has the result of job `j` to post: nothing withholds it, and its processor runs it next. -/
structure State.JobNext (s : State) (n : Nat) (j : LoopJob) : Prop where
  job : (s.slot n).job = some j
  waits : j.posted = false
  direct : j.select = false
  free : j.stalled = false
  ctl : s.runs rCTL = true
  proc : (rd s.lop.proc (n / 16)).run = true
  order : s.runsLater n j = false

/-- The law's state once the job is done: the job's own for the candidate of a SELECT, which the SELECT finishes, the finished law's
otherwise (08 R230). -/
def State.jobLaw (s : State) (n : Nat) (j : LoopJob) : State :=
  if (s.selectOf n j.tick).isSome then s.updSlot n fun c => { c with law := j.law } else s.lawDone n j j.u

/-- It is of the slot alone. -/
theorem State.jobLaw_cases (s : State) (n : Nat) (j : LoopJob) : s.jobLaw n j = s ∨ ∃ f, s.jobLaw n j = s.updSlot n f := by
  unfold State.jobLaw State.lawDone
  split
  · exact .inr ⟨_, rfl⟩
  · split
    · exact .inl rfl
    · exact .inr ⟨_, rfl⟩

theorem State.slot_jobLaw_ne (s : State) {n k : Nat} (h : k ≠ n) (j : LoopJob) : (s.jobLaw n j).slot k = s.slot k := by
  rcases s.jobLaw_cases n j with e | ⟨f, e⟩
  · rw [e]
  · rw [e, State.slot_updSlot_ne _ h]

theorem State.jobLaw_proc (s : State) (n : Nat) (j : LoopJob) : (s.jobLaw n j).lop.proc = s.lop.proc := by
  rcases s.jobLaw_cases n j with e | ⟨f, e⟩ <;> rw [e]
  rfl

section
variable {s : State} {o : Opt} {n : Fin 128} {c : Nat} {j : LoopJob}

theorem execLoopComputationDone_none (h : (s.slot n.val).job = none ∨ s.runs rCTL = false) :
    execLoopComputationDone o n c s = .next (s.begin o) := by
  unfold execLoopComputationDone
  dsimp only
  rw [State.slot_begin]
  cases hj : (s.slot n.val).job with
  | none => rfl
  | some j => exact if_pos (.inr (.inl (h.resolve_left (by simp [hj]))))

theorem execLoopComputationDone_next (h : s.JobNext n.val j) : execLoopComputationDone o n c s =
    if s.jobDeadline j < o then .next ((s.begin o).updProc (n.val / 16) fun p => p.spend c)
    else .next ((((s.begin o).updProc (n.val / 16) fun p => p.spend c).jobLaw n.val j).slotPost n.val j c) := by
  obtain ⟨job, waits, direct, free, ctl, proc, order⟩ := h
  have runs : ¬ (j.posted = true ∨ (s.begin o).runs rCTL = false ∨ (rd (s.begin o).lop.proc (n.val / 16)).run = false ∨
      (s.begin o).runsLater n.val j = true) := by
    simp [waits, ctl, proc, show (s.begin o).runsLater n.val j = false from order]
  unfold execLoopComputationDone
  dsimp only
  simp only [State.slot_begin, job]
  rw [if_neg runs, free, direct]
  rfl

theorem execLoopComputationDone_late (h : s.JobNext n.val j) (hd : s.jobDeadline j < o) :
    execLoopComputationDone o n c s = .next ((s.begin o).updProc (n.val / 16) fun p => p.spend c) :=
  (execLoopComputationDone_next h).trans (if_pos hd)

theorem execLoopComputationDone_posted (h : s.JobNext n.val j) (hd : o ≤ s.jobDeadline j) : execLoopComputationDone o n c s =
    .next ((((s.begin o).updProc (n.val / 16) fun p => p.spend c).jobLaw n.val j).slotPost n.val j c) :=
  (execLoopComputationDone_next h).trans (if_neg (Nat.not_lt.mpr hd))

end

/-! An overrun (08 R221, R222). -/

/-- A slot whose computation is dropped at its deadline. -/
def Slot.overran (c : Slot) : Slot :=
  { c with job := none, consec := satInc c.consec, ovrCnt := satInc c.ovrCnt, ovrLast := true, err := true }

section
variable {s : State} {n : Nat} {j : LoopJob}

/-- An overrun that is one of N_OVR in a row takes the slot to FAULT; an earlier one is counted alone. -/
theorem State.overrun_fault (h : n < 128) (hs : j.select = false) (hc : recNOvr (s.slotB n) ≤ (satInc (s.slot n).consec).toNat) :
    s.overrun n j = (s.updSlot n Slot.overran).slotFault n 0x01 j.outTick := by
  unfold State.overrun
  simp only [hs, Bool.false_eq_true, if_false]
  exact if_pos (by rw [State.slot_updSlot_same _ h]; exact hc)

theorem State.overrun_counted (h : n < 128) (hs : j.select = false) (hc : (satInc (s.slot n).consec).toNat < recNOvr (s.slotB n)) :
    s.overrun n j = s.updSlot n Slot.overran := by
  unfold State.overrun
  simp only [hs, Bool.false_eq_true, if_false]
  exact if_neg (by rw [State.slot_updSlot_same _ h]; exact Nat.not_le.mpr hc)

/-- An enabled slot goes to FAULT with the count. -/
theorem State.slot_overrun_fault (h : n < 128) (hs : j.select = false) (he : (s.slot n).enF = true) (hf : (s.slot n).fault = false)
    (hc : recNOvr (s.slotB n) ≤ (satInc (s.slot n).consec).toNat) :
    (s.overrun n j).slot n = (s.slot n).overran.faulted 0x01 j.outTick := by
  have e := State.slot_updSlot_same s h Slot.overran
  rw [State.overrun_fault h hs hc, State.slot_slotFault_same h (by rw [e]; exact he) (by rw [e]; exact hf), e]

theorem State.slot_overrun_counted (h : n < 128) (hs : j.select = false) (hc : (satInc (s.slot n).consec).toNat < recNOvr (s.slotB n)) :
    (s.overrun n j).slot n = (s.slot n).overran := by
  rw [State.overrun_counted h hs hc, State.slot_updSlot_same _ h]

/-- What a fault keeps of a slot is as the count leaves it. -/
theorem State.slot_overrun_keeps {β : Type} {p : Slot → β} (h : n < 128) (hs : j.select = false)
    (hp : ∀ c, p (Slot.faulted 0x01 j.outTick c) = p c) : p ((s.overrun n j).slot n) = p (s.slot n).overran := by
  rcases Nat.lt_or_ge (satInc (s.slot n).consec).toNat (recNOvr (s.slotB n)) with hc | hc
  · rw [State.slot_overrun_counted h hs hc]
  · rw [State.overrun_fault h hs hc, State.slot_slotFault_keeps hp, State.slot_updSlot_same _ h]

theorem State.slot_overrun_ne (h : n < 128) (hs : j.select = false) {k : Nat} (hk : k ≠ n) : (s.overrun n j).slot k = s.slot k := by
  rcases Nat.lt_or_ge (satInc (s.slot n).consec).toNat (recNOvr (s.slotB n)) with hc | hc
  · rw [State.overrun_counted h hs hc, State.slot_updSlot_ne _ hk]
  · rw [State.overrun_fault h hs hc, State.slot_slotFault_ne hk, State.slot_updSlot_ne _ hk]

theorem execLoopOverrun_none {n : Fin 128} (h : (s.slot n.val).job = none ∨ s.runs rCTL = false) :
    execLoopOverrun n s = .next s.start := by
  unfold execLoopOverrun
  dsimp only
  rw [State.slot_start]
  cases hj : (s.slot n.val).job with
  | none => rfl
  | some j => exact if_pos (.inr (h.resolve_left (by simp [hj])))

theorem execLoopOverrun_due {n : Fin 128} (hj : (s.slot n.val).job = some j) (hp : j.posted = false) (hr : s.runs rCTL = true) :
    execLoopOverrun n s = .next ((s.start.reach (s.jobDeadline j)).overrun n.val j) := by
  have due : ¬ (j.posted = true ∨ s.start.runs rCTL = false) := by simp [hp, show s.start.runs rCTL = true from hr]
  unfold execLoopOverrun
  dsimp only
  simp only [State.slot_start, hj]
  exact if_neg due

end

/-! A processor that goes down (08 R223). -/

/-- A slot that loses what it has not posted. -/
def Slot.dropJob (c : Slot) : Slot :=
  { c with job := match c.job with
    | some j => if j.posted then some j else none
    | none => none }

/-- A slot whose processor goes down. -/
def State.slotDown (s : State) (n : Nat) : State := (s.updSlot n Slot.dropJob).slotFault n 0x03 (s.clk.tick + 1)

theorem State.procDown_eq (s : State) (p : Nat) (code : Byte) : s.procDown p code =
    (List.range' (16 * p) 16).foldl State.slotDown (s.updProc p fun x => { x with run := false, lastErr := code }) := by
  rw [List.range'_eq_map_range, List.foldl_map]
  rfl

theorem State.slotDown_clk (s : State) (n : Nat) : (s.slotDown n).clk = s.clk :=
  (State.slotFault_same (s.updSlot n Slot.dropJob) n 0x03 (s.clk.tick + 1)).clk (by decide)

theorem State.slotDown_proc (s : State) (n : Nat) : (s.slotDown n).lop.proc = s.lop.proc := State.slotFault_proc _ _ _ _

theorem State.slot_slotDown_ne {s : State} {n k : Nat} (h : k ≠ n) : (s.slotDown n).slot k = s.slot k := by
  unfold State.slotDown
  rw [State.slot_slotFault_ne h, State.slot_updSlot_ne _ h]

theorem State.slot_slotDown_same {s : State} {n : Nat} (h : n < 128) (he : (s.slot n).enF = true) (hf : (s.slot n).fault = false) :
    (s.slotDown n).slot n = (s.slot n).dropJob.faulted 0x03 (s.clk.tick + 1) := by
  have e := State.slot_updSlot_same s h Slot.dropJob
  unfold State.slotDown
  rw [State.slot_slotFault_same h (by rw [e]; exact he) (by rw [e]; exact hf), e]

theorem foldl_slotDown_proc (l : List Nat) (s : State) : (l.foldl State.slotDown s).lop.proc = s.lop.proc := by
  induction l generalizing s with
  | nil => rfl
  | cons i l ih => rw [List.foldl_cons, ih, State.slotDown_proc]

theorem slot_foldl_slotDown_of_not_mem {l : List Nat} {n : Nat} (h : n ∉ l) (s : State) :
    (l.foldl State.slotDown s).slot n = s.slot n := by
  induction l generalizing s with
  | nil => rfl
  | cons i l ih =>
    rw [List.foldl_cons, ih (List.not_mem_of_not_mem_cons h), State.slot_slotDown_ne (List.ne_of_not_mem_cons h)]

/-- Each enabled slot of the list goes down, once. -/
theorem slot_foldl_slotDown_of_mem {l : List Nat} (hd : l.Nodup) {n : Nat} (hn : n ∈ l) (h : n < 128) {s : State}
    (he : (s.slot n).enF = true) (hf : (s.slot n).fault = false) :
    (l.foldl State.slotDown s).slot n = (s.slot n).dropJob.faulted 0x03 (s.clk.tick + 1) := by
  induction l generalizing s with
  | nil => cases hn
  | cons i l ih =>
    obtain ⟨hi, hd⟩ := List.nodup_cons.mp hd
    rw [List.foldl_cons]
    by_cases e : n = i
    · subst e
      rw [slot_foldl_slotDown_of_not_mem hi, State.slot_slotDown_same h he hf]
    · have same := State.slot_slotDown_ne (s := s) e
      rw [ih hd ((List.mem_cons.mp hn).resolve_left e) (by rw [same, he]) (by rw [same, hf]), same, State.slotDown_clk]

section
variable {s : State} {o : Opt} {p : Fin 8}

theorem execLoopProcessorDown_running (h : (rd s.lop.proc p.val).run = true) :
    execLoopProcessorDown o p s = .next ((s.begin o).procDown p.val (rd s.lop.proc p.val).lastErr) :=
  congrArg Host.Outcome.next (if_pos h)

theorem execLoopProcessorDown_stopped (h : (rd s.lop.proc p.val).run = false) : execLoopProcessorDown o p s = .next (s.begin o) :=
  congrArg Host.Outcome.next (if_neg (by simp [h]))

theorem State.procDown_proc (s : State) (p : Fin 8) (code : Byte) :
    rd (s.procDown p.val code).lop.proc p.val = { rd s.lop.proc p.val with run := false, lastErr := code } := by
  rw [State.procDown_eq, foldl_slotDown_proc]
  exact rd_upd_fin _ p _

theorem State.slot_procDown_same (s : State) (p : Fin 8) (code : Byte) {k : Nat} (hk : k < 16)
    (he : (s.slot (16 * p.val + k)).enF = true) (hf : (s.slot (16 * p.val + k)).fault = false) :
    (s.procDown p.val code).slot (16 * p.val + k) = (s.slot (16 * p.val + k)).dropJob.faulted 0x03 (s.clk.tick + 1) := by
  rw [State.procDown_eq]
  exact slot_foldl_slotDown_of_mem List.nodup_range' (List.mem_range'_1.mpr (by omega)) (by omega) he hf

theorem State.slot_procDown_ne (s : State) (p : Nat) (code : Byte) {k : Nat} (hk : k / 16 ≠ p) :
    (s.procDown p code).slot k = s.slot k := by
  rw [State.procDown_eq]
  exact slot_foldl_slotDown_of_not_mem (fun h => by have := List.mem_range'_1.mp h; omega) _

end

/-- Settles O17: each command is a case split on its condition; posting and overrunning change the slot alone, a fault keeps all but the
slot's own fault, and a processor that goes down takes its slots down one after the other, each once. -/
theorem loopComputations : Obligations.LoopComputations := by
  unfold Obligations.LoopComputations
  refine ⟨?done, ?overrun, ?down⟩
  case done =>
    intro s o n c
    refine Completes.of_runs (execLoopComputationDone_runs o n c s) fun t e hf =>
      ⟨hf.eq_mix, ?_, fun h => next_unique e (execLoopComputationDone_none h)⟩
    rintro j ⟨job, waits, direct, free, ctl, proc, order⟩
    have next : s.JobNext n.val j := ⟨job, waits, direct, free, ctl, proc, order⟩
    refine ⟨fun hd => ?_, fun hd => ?_⟩
    · obtain rfl := next_unique e (execLoopComputationDone_posted next hd)
      unfold State.slotPost
      rw [State.slot_updSlot_same _ n.isLt]
      refine ⟨rfl, rfl, rfl, rfl, rfl, rfl, fun k hk => ?_, ?_⟩
      · rw [State.slot_updSlot_ne _ hk, State.slot_jobLaw_ne _ hk]
        rfl
      · rw [State.updSlot_proc, State.jobLaw_proc]
        exact rd_upd_same _ (by omega) _
    · obtain rfl := next_unique e (execLoopComputationDone_late next hd)
      rfl
  case overrun =>
    intro s n
    refine Completes.of_runs (execLoopOverrun_runs n s) fun t e hf =>
      ⟨hf.eq_mix, ?_, fun h => next_unique e (execLoopOverrun_none h)⟩
    rintro j ⟨job, waits, direct, ctl⟩
    obtain rfl := next_unique e (execLoopOverrun_due job waits ctl)
    have kept {β : Type} {p : Slot → β} (hp : ∀ c, p (Slot.faulted 0x01 j.outTick c) = p c) :=
      State.slot_overrun_keeps (s := s.start.reach (s.jobDeadline j)) n.isLt direct hp
    refine ⟨kept fun _ => rfl, kept fun _ => rfl, kept fun _ => rfl, kept fun _ => rfl, kept fun _ => rfl,
      fun k hk => State.slot_overrun_ne n.isLt direct hk, ?_, fun hc => ?_⟩
    · rintro ⟨he, hf, hc⟩
      rw [State.slot_overrun_fault (s := s.start.reach (s.jobDeadline j)) n.isLt direct he hf hc]
      exact ⟨rfl, rfl, rfl⟩
    · rw [State.slot_overrun_counted (s := s.start.reach (s.jobDeadline j)) n.isLt direct hc]
      rfl
  case down =>
    intro s o p
    refine Completes.of_runs (execLoopProcessorDown_runs o p s) fun t e hf =>
      ⟨hf.eq_mix, fun h => ?_, fun h => next_unique e (execLoopProcessorDown_stopped h)⟩
    obtain rfl := next_unique e (execLoopProcessorDown_running h)
    refine ⟨State.procDown_proc _ p _, ?_, fun k hk => State.slot_procDown_ne _ p.val _ hk⟩
    rintro k ⟨hk, he, hf⟩
    rw [State.slot_procDown_same (s.begin o) p _ hk he hf]
    exact ⟨rfl, rfl, rfl⟩

end Sys2Proof.Machine

/-! LOOP_COMMAND (08 R240): its admission, and each command at its instant. -/

namespace Sys2Proof.Machine

/-! Admission. -/

/-- The value fits the command: a NaN is for MANUAL alone, where it stands for the output applied last. -/
def loopValueFits (cmd : Nat) (x : F32) : Prop := fIsFin x = true ∨ cmd = 2 ∧ fIsNaN x = true

section
variable {r : HostReq} {s : State} {n : W16} {cmd : Nat} {x : F32}

/-- A command for a configured slot, which a machine function does not own where the command is of the mode, waits in the slot's list. -/
theorem loopOp_wait (hn : n.toNat < 128) (hu : s.slotUsed n.toNat = true) (hv : loopValueFits cmd x)
    (ho : cmd ≤ 3 → s.img.mfOfSlot n.toNat = none) :
    loopOp r cmd n x s = .wait (s.updSlot n.toNat fun c => { c with cmds := c.cmds ++ [⟨cmd, x, r⟩] }) := by
  have fits : ¬ (128 ≤ n.toNat ∨ s.slotUsed n.toNat = false ∨ fIsFin x = false ∧ ¬ (cmd = 2 ∧ fIsNaN x = true)) := by
    rintro (h | h | ⟨hf, hm⟩)
    · exact Nat.not_le.mpr hn h
    · exact Bool.false_ne_true (h.symm.trans hu)
    · exact hv.elim (fun h => Bool.false_ne_true (hf.symm.trans h)) hm
  have unowned : ¬ (cmd ≤ 3 ∧ (s.img.mfOfSlot n.toNat).isSome = true) := fun ⟨h, owned⟩ => by simp [ho h] at owned
  exact (if_neg fits).trans (if_neg unowned)

/-- A ready LOOP_COMMAND that its slot admits. -/
theorem hostOp_loopQueued (h : s.ready r 1 10 = true) (hn : n.toNat < 128) (hu : s.slotUsed n.toNat = true) (hv : loopValueFits cmd x)
    (ho : cmd ≤ 3 → s.img.mfOfSlot n.toNat = none) :
    s.loopQueued r n.toNat cmd x (hostOp r 0x0051 1 10 (loopOp r cmd n x) s) := by
  have img : (s.admitted r 0x0051).img = s.img := (s.admitted_same r 0x0051).img (by decide)
  have used : (s.admitted r 0x0051).slotUsed n.toNat = true := by unfold State.slotUsed; rw [img]; exact hu
  rw [hostOp_ready h, loopOp_wait hn used hv (by rwa [img])]
  refine ⟨?_, s.admitted_ops r 0x0051⟩
  unfold State.updSlot
  rw [State.admitted_eq]

end

/-! Enables (08 R237). -/

theorem State.slotFaultAct_disabled {s : State} {n : Nat} (h : (s.slot n).enF = false) : s.slotFaultAct n =
    (s.updSlot n fun c => { c with faultAt := none }).updSlot n fun c => { c with released := true } :=
  if_pos h

/-- A slot as an enable leaves it, whose record of MANUAL a fault ends. -/
def Slot.enabled (c : Slot) : Slot :=
  { c with enF := true, fault := false, consec := 0, invRun := 0, inputInvalid := false, ovrLast := false, law := LawSt.zero,
           applied := false, transfer := true, released := false, faultAt := none, remManual := c.remManual && !c.fault,
           mode := if c.remManual && !c.fault then .manual else .auto, entering := true }

/-- A slot as a disable leaves it. -/
def Slot.disabled (c : Slot) : Slot := { c with enF := false, remManual := c.remManual && !c.fault, fault := false }

section
variable {s : State} {n : Nat}

theorem State.slotSetEnable_kept {on : Bool} (h : (s.slot n).enF = on) : s.slotSetEnable n on = s := if_pos h

theorem State.slotSetEnable_on (h : (s.slot n).enF = false) : s.slotSetEnable n true = (s.procStart (n / 16)).updSlot n Slot.enabled :=
  (if_neg (by simp [h])).trans (if_pos rfl)

/-- A disabled slot's target is released, at once or after the output instant that is still to come. -/
theorem State.slotSetEnable_off (h : n < 128) (he : (s.slot n).enF = true) :
    ∃ f, (∀ c : Slot, (f c).enF = c.enF) ∧ s.slotSetEnable n false = ((s.updSlot n Slot.disabled).stallOff n).updSlot n f := by
  have off : (((s.updSlot n Slot.disabled).stallOff n).slot n).enF = false := by
    rw [State.slot_stallOff, State.slot_updSlot_same _ h]
    rfl
  unfold State.slotSetEnable
  rw [if_neg (by simp [he]), if_neg (by decide)]
  split
  · exact ⟨fun c => { c with faultAt := some (c.lastOut + 1) }, fun _ => rfl, rfl⟩
  · refine ⟨fun c => { c with faultAt := none, released := true }, fun _ => rfl, (State.slotFaultAct_disabled off).trans ?_⟩
    unfold State.updSlot
    dsimp only
    rw [upd_upd]

/-- A change of its enable leaves the slot enabled or disabled as it says. -/
theorem State.slotSetEnable_enF (h : n < 128) (on : Bool) : ((s.slotSetEnable n on).slot n).enF = on := by
  by_cases he : (s.slot n).enF = on
  · rw [State.slotSetEnable_kept he, he]
  · cases on
    · obtain ⟨f, keeps, e⟩ := State.slotSetEnable_off h (by simpa using he)
      rw [e, State.slot_updSlot_same _ h, keeps, State.slot_stallOff, State.slot_updSlot_same _ h]
      rfl
    · rw [State.slotSetEnable_on (by simpa using he), State.slot_updSlot_same _ h]
      rfl

/-- It does not change the enable register. -/
theorem State.slotSetEnable_en (h : n < 128) (on : Bool) : (s.slotSetEnable n on).lop.en = s.lop.en := by
  by_cases he : (s.slot n).enF = on
  · rw [State.slotSetEnable_kept he]
  · cases on
    · obtain ⟨f, -, e⟩ := State.slotSetEnable_off h (by simpa using he)
      rw [e]
      exact State.stallOff_en _ _
    · rw [State.slotSetEnable_on (by simpa using he)]
      rfl

end

/-! The bits of the enable register. -/

theorem getLsbD_two_pow {w n : Nat} (h : n < w) : (BitVec.ofNat w (2 ^ n)).getLsbD n = true := by
  rw [BitVec.getLsbD_ofNat, Nat.testBit_two_pow_self]
  simpa using h

theorem getLsbD_setBit {w n : Nat} (v : BitVec w) (h : n < w) : (v ||| BitVec.ofNat w (2 ^ n)).getLsbD n = true := by
  rw [BitVec.getLsbD_or, getLsbD_two_pow h, Bool.or_true]

theorem getLsbD_clearBit {w n : Nat} (v : BitVec w) (h : n < w) : (v &&& ~~~ BitVec.ofNat w (2 ^ n)).getLsbD n = false := by
  rw [BitVec.getLsbD_and, BitVec.getLsbD_not, getLsbD_two_pow h, Bool.not_true, Bool.and_false, Bool.and_false]

/-! Each command at its instant. -/

/-- The enable register with the bit of slot `n` set, and with it clear. -/
def State.enSet (s : State) (n : Nat) : State := { s with lop := { s.lop with en := s.lop.en ||| BitVec.ofNat 128 (2 ^ n) } }
def State.enClear (s : State) (n : Nat) : State := { s with lop := { s.lop with en := s.lop.en &&& ~~~ BitVec.ofNat 128 (2 ^ n) } }

section
variable {s : State} {n cmd : Nat} {x : F32} {r : HostReq}

theorem State.loopCommand_enable : s.loopCommand n ⟨5, x, r⟩ = ((s.enSet n).slotSetEnable n true, stOK) := by
  simp [State.loopCommand, State.enSet]

theorem State.loopCommand_not_enabled (he : (s.slot n).enF = false) (hc : cmd ≠ 5) : s.loopCommand n ⟨cmd, x, r⟩ = (s, 0x8405) :=
  (if_neg hc).trans (if_pos he)

/-- AUTO and MANUAL are refused in FAULT (08 R222). -/
theorem State.loopCommand_mode_fault (he : (s.slot n).enF = true) (hf : (s.slot n).fault = true) (hc : cmd = 1 ∨ cmd = 2) :
    s.loopCommand n ⟨cmd, x, r⟩ = (s, 0x8402) := by
  rcases hc with rfl | rfl <;> simp [State.loopCommand, he, hf]

theorem State.loopCommand_auto (he : (s.slot n).enF = true) (hf : (s.slot n).fault = false) : s.loopCommand n ⟨1, x, r⟩ =
    (s.updSlot n fun c => { c with remManual := false, cmdManual := false }, stOK) := by
  simp [State.loopCommand, he, hf]

theorem State.loopCommand_manual (he : (s.slot n).enF = true) (hf : (s.slot n).fault = false) : s.loopCommand n ⟨2, x, r⟩ =
    (s.updSlot n fun c => { c with remManual := true, cmdManual := true, man := if fIsNaN x then s.slotUp n else x }, stOK) := by
  simp [State.loopCommand, he, hf]

theorem State.loopCommand_setManual (he : (s.slot n).enF = true) (hf : (s.slot n).fault = false) (hm : (s.slot n).remManual = true) :
    s.loopCommand n ⟨3, x, r⟩ = (s.updSlot n fun c => { c with man := x }, stOK) := by
  simp [State.loopCommand, he, hf, hm]

/-- RESTART is for a slot in FAULT alone. -/
theorem State.loopCommand_restart_unfaulted (he : (s.slot n).enF = true) (hf : (s.slot n).fault = false) :
    s.loopCommand n ⟨4, x, r⟩ = (s, 0x8404) := by
  simp [State.loopCommand, he, hf]

theorem State.loopCommand_restart (he : (s.slot n).enF = true) (hf : (s.slot n).fault = true) : s.loopCommand n ⟨4, x, r⟩ =
    (s.updSlot n fun c => { c with fault := false, remManual := false, cmdManual := false, mode := .auto, transfer := true,
                                   consec := 0, invRun := 0, released := false, faultAt := none, entering := true }, stOK) := by
  simp [State.loopCommand, he, hf]

theorem State.loopCommand_disable (he : (s.slot n).enF = true) :
    s.loopCommand n ⟨6, x, r⟩ = ((s.enClear n).slotSetEnable n false, stOK) := by
  simp [State.loopCommand, he, State.enClear]

end

/-- Settles O18: a ready command runs into its wait in the slot's list; at its instant each is one row of the table of commands, of which
ENABLE and DISABLE change the enable register and then the slot's enable. -/
theorem loopCommands : Obligations.LoopCommands := by
  unfold Obligations.LoopCommands
  refine ⟨?admitted, ?instant⟩
  case admitted =>
    intro s r n x h hn hu
    refine ⟨fun ho => ⟨fun hx => ?_, fun hx => ?_, fun hx => ?_⟩, fun hx => ⟨?_, ?_, ?_⟩⟩
    · exact ⟨_, rfl, hostOp_loopQueued h hn hu (.inl hx) fun _ => ho⟩
    · exact ⟨_, rfl, hostOp_loopQueued h hn hu (hx.imp id fun hx => ⟨rfl, hx⟩) fun _ => ho⟩
    · exact ⟨_, rfl, hostOp_loopQueued h hn hu (.inl hx) fun _ => ho⟩
    · exact ⟨_, rfl, hostOp_loopQueued h hn hu (.inl hx) fun h => absurd h (by decide)⟩
    · exact ⟨_, rfl, hostOp_loopQueued h hn hu (.inl hx) fun h => absurd h (by decide)⟩
    · exact ⟨_, rfl, hostOp_loopQueued h hn hu (.inl hx) fun h => absurd h (by decide)⟩
  case instant =>
    intro s n r x hn
    refine ⟨fun he cmd hc => State.loopCommand_not_enabled he hc, ?runs, ?fault, ?enable, fun he => ?disable⟩
    case runs =>
      rintro ⟨he, hf⟩
      rw [State.loopCommand_auto he hf, State.loopCommand_manual he hf, State.slot_updSlot_same _ hn, State.slot_updSlot_same _ hn]
      refine ⟨rfl, rfl, rfl, rfl, fun hx => by simp [hx], fun hm => ?_, State.loopCommand_restart_unfaulted he hf⟩
      rw [State.loopCommand_setManual he hf hm, State.slot_updSlot_same _ hn]
      exact ⟨rfl, rfl⟩
    case fault =>
      rintro ⟨he, hf⟩
      rw [State.loopCommand_restart he hf, State.slot_updSlot_same _ hn]
      exact ⟨rfl, rfl, rfl, State.loopCommand_mode_fault he hf (.inl rfl), State.loopCommand_mode_fault he hf (.inr rfl)⟩
    case enable =>
      rw [State.loopCommand_enable, State.slotSetEnable_en hn]
      exact ⟨rfl, State.slotSetEnable_enF hn true, getLsbD_setBit s.lop.en hn⟩
    case disable =>
      rw [State.loopCommand_disable he, State.slotSetEnable_en hn]
      exact ⟨rfl, State.slotSetEnable_enF hn false, getLsbD_clearBit s.lop.en hn⟩

end Sys2Proof.Machine

/-! The registers of the loop block with a command's effect: the counters, the stall injection and the latch of LOP_TICK (08 R213, R244). -/

namespace Sys2Proof.Machine

/-- A ready write of one register that passes its checks and acts on the loop block alone. -/
theorem writeOne_setLop {s : State} {r : HostReq} {a : Nat} {v : Word} {x : RegHit} {l : LopSt}
    (h : s.ready r (writeLevel [a]) 0 = true) (ha : findAddr a = some x) (hb : s.blockShut (a / 65536) = false) (hv : v &&& x.rsv = 0)
    (hc : (s.admitted r 0x0011).regCheck r x.id x.idx v = none) (hw : x.id.w1c = 0)
    (he : (s.admitted r 0x0011).regWrite r x.id x.idx v = { s.admitted r 0x0011 with lop := l }) {t : State} (ht : writeOne r a v s = t) :
    s.answers t r 0x0011 stOK [] ∧ s.hostKeeps t r ∧ t = { s with clk := t.clk, hst := t.hst, out := t.out, lop := l } := by
  have shut : (s.admitted r 0x0011).blockShut (a / 65536) = false := (s.blockShut_admitted r _ _).trans hb
  obtain ⟨answers, keeps, e⟩ := ht ▸ writeOne_effect h (writeStatus_none ha shut hv hc) ((writeAt_of_w1c_zero ha hw).trans he)
    rfl rfl (s.admitted_out r 0x0011)
  refine ⟨answers, keeps, ?_⟩
  rw [e]
  dsimp only
  rw [State.admitted_eq]

/-! Counters cleared (08 R244). -/

/-- A slot with its counters cleared. -/
def Slot.cntCleared (c : Slot) : Slot := { c with ovrCnt := 0, invCnt := 0 }

/-- The slots that bits of `v` name in register `i` of LOP_CNT_CLR. -/
def slotsNamed (i : Nat) (v : Word) : List Nat := ((List.range 32).filter (bit v)).map (32 * i + ·)

theorem mem_slotsNamed {i n : Nat} {v : Word} : n ∈ slotsNamed i v ↔ n / 32 = i ∧ v.getLsbD (n % 32) = true := by
  simp only [slotsNamed, bit, List.mem_map, List.mem_filter, List.mem_range]
  constructor
  · rintro ⟨b, ⟨hb, hv⟩, rfl⟩
    rw [show (32 * i + b) % 32 = b by omega]
    exact ⟨by omega, hv⟩
  · rintro ⟨rfl, hv⟩
    exact ⟨n % 32, ⟨Nat.mod_lt _ (by decide), hv⟩, by omega⟩

theorem foldl_updSlot (f : Slot → Slot) (l : List Nat) (s : State) : l.foldl (fun t n => t.updSlot n f) s =
    { s with lop := { s.lop with slot := l.foldl (fun q n => upd q n f) s.lop.slot } } := by
  induction l generalizing s with
  | nil => rfl
  | cons i l ih =>
    rw [List.foldl_cons, ih]
    rfl

/-- The slots with the counters of those named cleared. -/
def LopSt.cntClear (l : LopSt) (i : Nat) (v : Word) : LopSt :=
  { l with slot := (slotsNamed i v).foldl (fun q n => upd q n Slot.cntCleared) l.slot }

theorem State.lopCntClear_eq (s : State) (i : Nat) (v : Word) : s.lopCntClear i v = { s with lop := s.lop.cntClear i v } := by
  refine Eq.trans ?_ (foldl_updSlot Slot.cntCleared (slotsNamed i v) s)
  rw [slotsNamed, List.foldl_map, List.foldl_filter]
  rfl

theorem LopSt.rd_cntClear (l : LopSt) (i : Nat) (v : Word) {n : Nat} (h : n < 128) : rd (l.cntClear i v).slot n =
    if n / 32 = i ∧ v.getLsbD (n % 32) = true then (rd l.slot n).cntCleared else rd l.slot n := by
  refine (rd_foldl_upd (f := Slot.cntCleared) (fun _ => rfl) (slotsNamed i v) l.slot h).trans ?_
  simp only [mem_slotsNamed]

theorem State.admitted_lop (s : State) (r : HostReq) (op : Nat) : (s.admitted r op).lop = s.lop := by
  rw [State.admitted_eq]

theorem findAddr_lopCntClr : ∀ k : Fin 4, findAddr (0x40020 + 4 * k.val) = some ⟨.lop .cntClr, k.val, 0⟩ := by decide
theorem findAddr_lopTestStall : findAddr 0x40030 = some ⟨.lop .testStall, 0, 0x80⟩ := by decide
theorem findAddr_lopTickLo : findAddr 0x40000 = some ⟨.lop .tickLo, 0, 0⟩ := by decide

section
variable {s t : State} {r : HostReq} {v : Word}

/-- A ready write of LOP_CNT_CLR clears the counters of the slots that it names. -/
theorem writeOne_lopCntClr {k : Fin 4} (h : s.ready r (writeLevel [0x40020 + 4 * k.val]) 0 = true) (hb : s.blockShut 4 = false)
    (ht : writeOne r (0x40020 + 4 * k.val) v s = t) :
    s.answers t r 0x0011 stOK [] ∧ s.hostKeeps t r ∧
      t = { s with clk := t.clk, hst := t.hst, out := t.out, lop := s.lop.cntClear k.val v } := by
  have block : (0x40020 + 4 * k.val) / 65536 = 4 := by omega
  have effect : (s.admitted r 0x0011).regWrite r (.lop .cntClr) k.val v =
      { s.admitted r 0x0011 with lop := s.lop.cntClear k.val v } := by
    rw [← State.admitted_lop s r 0x0011]
    exact State.lopCntClear_eq _ _ _
  exact writeOne_setLop h (findAddr_lopCntClr k) (by rwa [block]) BitVec.and_zero rfl rfl effect ht

/-! The stall injection (08 R244). -/

/-- What a write of LOP_TEST_STALL injects. -/
def stallOf (v : Word) : StallSt := { slot := field v 0 7, count := field v 8 8, delayUs := field v 16 16 }

/-- A stall is for a SERVICE session to inject, with a delay where it has a count. -/
theorem State.lopCheck_testStall (hl : 2 ≤ (s.sess r.sess).level) (hf : field v 8 8 = 0 ∨ 1 ≤ field v 16 16) :
    s.lopCheck r .testStall 0 v = none :=
  (if_neg (Nat.not_lt.mpr hl)).trans (if_pos (by simpa using hf))

/-- Admission keeps the level of every session. -/
theorem State.admitted_level (s : State) (r : HostReq) (op : Nat) (h : r.sess < 8) :
    ((s.admitted r op).sess r.sess).level = (s.sess r.sess).level := by
  rw [State.admitted_sess_same _ _ _ h]
  rfl

/-- A ready write of LOP_TEST_STALL of a SERVICE session sets the stall injection. -/
theorem writeOne_testStall (h : s.ready r (writeLevel [0x40030]) 0 = true) (hb : s.blockShut 4 = false) (hv : v &&& 0x80 = 0)
    (hl : 2 ≤ (s.sess r.sess).level) (hf : field v 8 8 = 0 ∨ 1 ≤ field v 16 16) (ht : writeOne r 0x40030 v s = t) :
    s.answers t r 0x0011 stOK [] ∧ s.hostKeeps t r ∧
      t = { s with clk := t.clk, hst := t.hst, out := t.out, lop := { s.lop with stall := stallOf v } } := by
  obtain ⟨h8, -, -⟩ := s.ready_parts h
  have level : 2 ≤ ((s.admitted r 0x0011).sess r.sess).level := by rwa [State.admitted_level _ _ _ h8]
  have effect : (s.admitted r 0x0011).lopWrite .testStall 0 v = { s.admitted r 0x0011 with lop := { s.lop with stall := stallOf v } } := by
    rw [← State.admitted_lop s r 0x0011]
    rfl
  exact writeOne_setLop h findAddr_lopTestStall hb hv (State.lopCheck_testStall level hf) rfl effect ht

/-! The latch of LOP_TICK (08 R213; 00 R8). -/

/-- A read of LOP_TICK_LO answers the low word of TICK and latches the high one. -/
theorem readAll_tickLo (s : State) : readAll s [0x40000] =
    (leBytes 4 (lo32 s.clk.tick).toNat, { s with lop := { s.lop with tickHi := hi32 s.clk.tick } }) := by
  simp only [readAll, findAddr_lopTickLo, State.regRead, State.lopRead, List.append_nil]

theorem readOne_tickLo (h : s.ready r 0 0 = true) (hb : s.blockShut 4 = false) (ht : readOne r 0x40000 s = t) :
    s.answers t r 0x0010 stOK (leBytes 4 (lo32 s.clk.tick).toNat) ∧ s.hostKeeps t r ∧
      t = { s with clk := t.clk, hst := t.hst, out := t.out, lop := { s.lop with tickHi := hi32 s.clk.tick } } := by
  have tick : (s.admitted r 0x0010).clk.tick = s.clk.tick := by rw [State.admitted_eq]
  have readable : ∀ a ∈ [0x40000], s.readStatus a = none := by
    simp [State.readStatus, findAddr_lopTickLo, hb]
  obtain ⟨keeps, answers, e⟩ := hostOp_reads h rfl readable ht
  rw [readAll_tickLo, tick] at answers e
  refine ⟨answers, keeps, ?_⟩
  rw [e]
  dsimp only
  rw [State.admitted_eq]

end

/-- Settles O19: each of the two writes is a write of one register that acts on the loop block, and the latch is a read of one register. -/
theorem loopRegisters : Obligations.LoopRegisters := by
  unfold Obligations.LoopRegisters
  refine ⟨?counters, ?stall, ?latch⟩
  case counters =>
    intro s r k v h hb
    obtain ⟨answers, keeps, e⟩ := writeOne_lopCntClr (v := v) h hb rfl
    have lop := congrArg State.lop e
    refine ⟨_, rfl, answers, keeps, ?_, fun n hn => ?_⟩
    · rw [lop]
      exact e
    · unfold State.slot
      rw [lop]
      exact LopSt.rd_cntClear s.lop k.val v hn
  case stall => exact fun s r v h hb hv ⟨hl, hf⟩ => ⟨_, rfl, writeOne_testStall h hb hv hl hf rfl⟩
  case latch => exact fun s r h hb => ⟨_, rfl, readOne_tickLo h hb rfl⟩

end Sys2Proof.Machine

/-! Machine functions (09 R254 to R258): what the overlay's steps make of the function concerned. -/

namespace Sys2Proof.Machine

theorem upd_id {α : Type} {n : Nat} (v : Vector α n) (i : Nat) : upd v i id = v := by
  unfold upd
  split <;> simp

theorem State.updMf_id (s : State) (m : Nat) : s.updMf m id = s := by
  unfold State.updMf
  rw [upd_id]

/-- Two changes of one function are one. -/
theorem State.updMf_updMf (s : State) (m : Nat) (f g : Mf → Mf) : (s.updMf m f).updMf m g = s.updMf m fun c => g (f c) := by
  unfold State.updMf
  rw [upd_upd]

section
variable (s : State) (m : Nat)

/-- The target of function `m` where it becomes the present r: within [T_MIN, T_MAX] (09 R254). -/
def State.mfHereTgt : F32 := fclamp (f32At (s.mfB m) 20) (f32At (s.mfB m) 24) (s.pgR (s.mfSlot m))

/-- A clamp answers the value within its limits, and leaves the overlay as it is. -/
theorem State.mfClamp_eq (x : F32) : ∃ f : Mf → Mf,
    s.mfClamp m x = (fclamp (f32At (s.mfB m) 20) (f32At (s.mfB m) 24) x, s.updMf m f) ∧
      ∀ c, (f c).st = c.st ∧ (f c).ovrSeen = c.ovrSeen := by
  unfold State.mfClamp
  dsimp only
  split
  · exact ⟨id, by rw [State.updMf_id], fun _ => ⟨rfl, rfl⟩⟩
  · exact ⟨_, rfl, fun _ => ⟨rfl, rfl⟩⟩

theorem State.mfHere_eq : ∃ f : Mf → Mf, s.mfHere m = s.updMf m f ∧ ∀ c, (f c).st = c.st ∧ (f c).tgt = s.mfHereTgt m := by
  obtain ⟨f, e, keeps⟩ := s.mfClamp_eq m (s.pgR (s.mfSlot m))
  unfold State.mfHere
  rw [e]
  exact ⟨_, State.updMf_updMf .., fun c => ⟨(keeps c).1, rfl⟩⟩

/-- Rearming leaves the function in NORMAL, without RESUME with its target at r (09 R258). -/
theorem State.mfRearm_eq (resume : Bool) : ∃ f : Mf → Mf, s.mfRearm m resume = s.updMf m f ∧
    ∀ c, (f c).st = .normal ∧ (resume = false → (f c).tgt = s.mfHereTgt m) := by
  obtain ⟨f, e, here⟩ := (s.updMf m fun c => { c with st := .normal }).mfHere_eq m
  unfold State.mfRearm
  dsimp only
  rw [e]
  split
  · cases resume
    · exact ⟨_, State.updMf_updMf .., fun c => ⟨(here _).1, fun _ => (here _).2⟩⟩
    · exact ⟨_, State.updMf_updMf .., fun c => ⟨rfl, fun h => absurd h (by decide)⟩⟩
  · exact ⟨_, State.updMf_updMf .., fun c => ⟨(here _).1, fun _ => (here _).2⟩⟩

/-- The override's value leaves the overlay as it is. -/
theorem State.mfOvrValue_eq : ∃ f : Mf → Mf, s.mfOvrValue m = s.updMf m f ∧
    ∀ c, (f c).st = c.st ∧ (f c).ovrSeen = c.ovrSeen := by
  unfold State.mfOvrValue
  dsimp only
  split
  · exact ⟨id, (s.updMf_id m).symm, fun _ => ⟨rfl, rfl⟩⟩
  · split
    · obtain ⟨f, e, keeps⟩ := s.mfClamp_eq m (s.sig (u32 (s.mfB m) 16)).1
      rw [e]
      exact ⟨_, State.updMf_updMf .., keeps⟩
    · exact ⟨_, rfl, fun _ => ⟨rfl, rfl⟩⟩

theorem State.mfOvrOpen_eq : ∃ f : Mf → Mf, s.mfOvrOpen m = s.updMf m f ∧ ∀ c, (f c).st = .override ∧ (f c).ovrSeen = true := by
  unfold State.mfOvrOpen
  obtain ⟨f, e, keeps⟩ := State.mfOvrValue_eq (s.updMf m fun c =>
    { c with st := .override, ovrSeen := true, ovr := s.mfOut m, latest := if c.st = .interlock then c.latest else none }) m
  rw [e]
  exact ⟨_, State.updMf_updMf .., fun c => keeps _⟩

end

/-! MF_INTERLOCK_CLEAR (09 R256). -/

/-- The interlock of function `m` has held for ILK_CLEAR_MS. -/
def State.IlkHeld (s : State) (m : Nat) : Prop :=
  s.mfUsed m = true ∧ (rd s.prf.mf m).st = .interlock ∧ 20 * u16 (s.mfB m) 56 < (rd s.prf.mf m).ilkTicks

section
variable {s : State} {m : Fin 48}

theorem State.not_ilkHeld (h : s.mfUsed m.val = false ∨ (rd s.prf.mf m.val).st ≠ .interlock ∨
    (rd s.prf.mf m.val).ilkTicks ≤ 20 * u16 (s.mfB m.val) 56) : ¬ s.IlkHeld m.val := by
  rintro ⟨used, locked, held⟩
  simp [used, locked, Nat.not_le.mpr held] at h

/-- The function is rearmed, or an active override takes it over. -/
theorem execMfInterlockClear_held (h : s.IlkHeld m.val) : ∃ f : Mf → Mf,
    execMfInterlockClear m s = .next (s.start.updMf m.val f) ∧ ∀ c,
      (s.mfOvr m.val = false →
        (f c).st = .normal ∧ ((u8 (s.mfB m.val) 5).testBit 0 = false → (f c).tgt = s.mfHereTgt m.val)) ∧
      (s.mfOvr m.val = true → (f c).st = .override ∧ (f c).ovrSeen = true) := by
  obtain ⟨used, locked, held⟩ := h
  have run : execMfInterlockClear m s = .next
      (if s.mfOvr m.val = true then s.start.mfOvrOpen m.val else s.start.mfRearm m.val ((u8 (s.mfB m.val) 5).testBit 0)) :=
    if_pos ⟨used, locked, Nat.zero_lt_of_lt held, Nat.le_sub_one_of_lt held⟩
  cases ho : s.mfOvr m.val
  · obtain ⟨f, e, rearmed⟩ := s.start.mfRearm_eq m.val ((u8 (s.mfB m.val) 5).testBit 0)
    rw [run, ho, if_neg Bool.false_ne_true, e]
    exact ⟨f, rfl, fun c => ⟨fun _ => rearmed c, fun h => absurd h Bool.false_ne_true⟩⟩
  · obtain ⟨f, e, opened⟩ := s.start.mfOvrOpen_eq m.val
    rw [run, ho, if_pos rfl, e]
    exact ⟨f, rfl, fun c => ⟨fun h => absurd h.symm Bool.false_ne_true, fun _ => opened c⟩⟩

theorem execMfInterlockClear_unheld (h : ¬ s.IlkHeld m.val) : execMfInterlockClear m s = .next s.start :=
  if_neg fun ⟨used, locked, run, held⟩ => h ⟨used, locked, Nat.lt_of_le_sub_one run held⟩

end

/-! MF_COMMAND: its admission (09 R263). -/

section
variable {r : HostReq} {s : State} {m cmd arg : Nat} {x : F32}

/-- A command of a configured function with a finite value waits in the function's list; AUTO is for a function with a source of it. -/
theorem mfOp_wait (hm : m < 48) (hu : s.mfUsed m = true) (hx : fIsFin x = true) (ha : arg ≤ 4)
    (hs : cmd = 1 → arg = 4 → s.img.mfAuto m = true) :
    mfOp r cmd m arg x s = .wait (s.updMf m fun f => { f with cmds := f.cmds ++ [⟨cmd, arg, x, r⟩] }) := by
  have fits : ¬ (48 ≤ m ∨ 4 < arg ∨ fIsFin x = false) := by simp [hm, ha, hx]
  have source : ¬ (cmd = 1 ∧ arg = 4 ∧ s.img.mfAuto m = false) := fun ⟨hc, h4, hn⟩ => by simp [hs hc h4] at hn
  exact (if_neg fits).trans ((if_neg (by simp [hu])).trans (if_neg source))

/-- A ready MF_COMMAND that its function admits. -/
theorem hostOp_mfQueued (h : s.ready r 1 10 = true) (hm : m < 48) (hu : s.mfUsed m = true) (hx : fIsFin x = true) (ha : arg ≤ 4)
    (hs : cmd = 1 → arg = 4 → s.img.mfAuto m = true) : s.mfQueued r m cmd arg x (hostOp r 0x0050 1 10 (mfOp r cmd m arg x) s) := by
  have img : (s.admitted r 0x0050).img = s.img := (s.admitted_same r 0x0050).img (by decide)
  have used : (s.admitted r 0x0050).mfUsed m = true := by unfold State.mfUsed; rw [img]; exact hu
  rw [hostOp_ready h, mfOp_wait hm used hx ha (by rwa [img])]
  refine ⟨?_, s.admitted_ops r 0x0050⟩
  unfold State.updMf
  rw [State.admitted_eq]

end

/-! PRF_MF_CNT_CLR (09 R268). -/

/-- A function with its counters cleared. -/
def Mf.cntCleared (f : Mf) : Mf := { f with ilkCnt := 0, clampCnt := 0 }

/-- The functions `base` to `base + n - 1` with the counters of those cleared that bits of `v` name. -/
def mfsCleared (fs : Vector Mf 48) (base n : Nat) (v : Word) : Vector Mf 48 :=
  (((List.range n).filter (bit v)).map (base + ·)).foldl (fun q m => upd q m Mf.cntCleared) fs

theorem foldl_updMf (f : Mf → Mf) (l : List Nat) (s : State) : l.foldl (fun t m => t.updMf m f) s =
    { s with prf := { s.prf with mf := l.foldl (fun q m => upd q m f) s.prf.mf } } := by
  induction l generalizing s with
  | nil => rfl
  | cons i l ih =>
    rw [List.foldl_cons, ih]
    rfl

theorem State.mfCntClear_eq (s : State) (base n : Nat) (v : Word) :
    s.mfCntClear base n v = { s with prf := { s.prf with mf := mfsCleared s.prf.mf base n v } } := by
  refine Eq.trans ?_ (foldl_updMf Mf.cntCleared _ s)
  rw [List.foldl_map, List.foldl_filter]
  rfl

theorem rd_mfsCleared (fs : Vector Mf 48) (base n : Nat) (v : Word) {m : Nat} (h : m < 48) : rd (mfsCleared fs base n v) m =
    if base ≤ m ∧ m < base + n ∧ v.getLsbD (m - base) = true then (rd fs m).cntCleared else rd fs m := by
  have named : m ∈ ((List.range n).filter (bit v)).map (base + ·) ↔ base ≤ m ∧ m < base + n ∧ v.getLsbD (m - base) = true := by
    simp only [bit, List.mem_map, List.mem_filter, List.mem_range]
    constructor
    · rintro ⟨i, ⟨hi, hv⟩, rfl⟩
      exact ⟨Nat.le_add_right _ _, Nat.add_lt_add_left hi _, by rwa [Nat.add_sub_cancel_left]⟩
    · rintro ⟨hb, hn, hv⟩
      exact ⟨m - base, ⟨by omega, hv⟩, by omega⟩
  refine (rd_foldl_upd (f := Mf.cntCleared) (fun _ => rfl) _ fs h).trans ?_
  simp only [named]

/-- Where register `k` of PRF_MF_CNT_CLR is found: the first names functions 0 to 31, the second 32 to 47. -/
def mfClrHit : Fin 2 → RegHit
  | 0 => ⟨.prf .clrLo, 0, 0⟩
  | 1 => ⟨.prf .clrHi, 0, 0xFFFF0000⟩

/-- How many functions it names. -/
def mfClrSpan : Fin 2 → Nat
  | 0 => 32
  | 1 => 16

theorem findAddr_mfClr : ∀ k : Fin 2, findAddr (0x52310 + 4 * k.val) = some (mfClrHit k) := by decide

theorem mfClrSpan_iff {k : Fin 2} {m : Nat} (h : m < 48) : 32 * k.val ≤ m ∧ m < 32 * k.val + mfClrSpan k ↔ m / 32 = k.val := by
  match k with
  | 0 | 1 =>
    simp only [mfClrSpan]
    omega

/-- A register of PRF_MF_CNT_CLR names function `m` by its bit `m % 32`. -/
theorem rd_mfsCleared_span (fs : Vector Mf 48) (k : Fin 2) (v : Word) {m : Nat} (h : m < 48) :
    rd (mfsCleared fs (32 * k.val) (mfClrSpan k) v) m =
      if m / 32 = k.val ∧ v.getLsbD (m % 32) = true then (rd fs m).cntCleared else rd fs m := by
  have named : 32 * k.val ≤ m ∧ m < 32 * k.val + mfClrSpan k ∧ v.getLsbD (m - 32 * k.val) = true ↔
      m / 32 = k.val ∧ v.getLsbD (m % 32) = true := by
    rw [← and_assoc, mfClrSpan_iff h]
    refine and_congr_right fun hk => ?_
    rw [show m - 32 * k.val = m % 32 by omega]
  simp only [rd_mfsCleared fs _ _ v h, named]

/-- A write of register `k` of PRF_MF_CNT_CLR clears the counters of the functions that it names. -/
theorem State.regWrite_mfClr (s : State) (r : HostReq) (k : Fin 2) (v : Word) : s.regWrite r (mfClrHit k).id (mfClrHit k).idx v =
    { s with prf := { s.prf with mf := mfsCleared s.prf.mf (32 * k.val) (mfClrSpan k) v } } := by
  match k with
  | 0 => exact s.mfCntClear_eq 0 32 v
  | 1 => exact s.mfCntClear_eq 32 16 v

/-- A ready MF_CNT_CLEAR, with no bit of a function that is not there, is answered and clears those counters alone. -/
theorem writeOne_mfClr {s t : State} {r : HostReq} {k : Fin 2} {v : Word} (h : s.ready r (writeLevel [0x52310 + 4 * k.val]) 0 = true)
    (hb : s.blockShut 5 = false) (hv : k.val = 1 → v &&& 0xFFFF0000 = 0) (ht : writeOne r (0x52310 + 4 * k.val) v s = t) :
    s.answers t r 0x0011 stOK [] ∧ s.hostKeeps t r ∧
      t = { s with clk := t.clk, hst := t.hst, out := t.out,
                   prf := { s.prf with mf := mfsCleared s.prf.mf (32 * k.val) (mfClrSpan k) v } } := by
  have block : (0x52310 + 4 * k.val) / 65536 = 5 := by omega
  have shut : (s.admitted r 0x0011).blockShut ((0x52310 + 4 * k.val) / 65536) = false := by
    rwa [block, State.blockShut_admitted]
  have ⟨checked, free, plain⟩ : (s.admitted r 0x0011).regCheck r (mfClrHit k).id (mfClrHit k).idx v = none ∧
      v &&& (mfClrHit k).rsv = 0 ∧ (mfClrHit k).id.w1c = 0 := by
    match k with
    | 0 => exact ⟨rfl, BitVec.and_zero, rfl⟩
    | 1 => exact ⟨rfl, hv rfl, rfl⟩
  obtain ⟨answers, keeps, e⟩ := ht ▸ writeOne_effect h (writeStatus_none (findAddr_mfClr k) shut free checked)
    ((writeAt_of_w1c_zero (findAddr_mfClr k) plain).trans (State.regWrite_mfClr _ r k v)) rfl rfl (s.admitted_out r 0x0011)
  refine ⟨answers, keeps, ?_⟩
  rw [e]
  dsimp only
  rw [State.admitted_eq]

/-- Settles O20: a ready command runs into its wait in the function's list; an interlock that has held is rearmed or overridden and one
that has not stays; and MF_CNT_CLEAR is a write of one register that acts on the named functions. -/
theorem machineFunctionCommands : Obligations.MachineFunctionCommands := by
  unfold Obligations.MachineFunctionCommands
  refine ⟨?admitted, ?interlock, ?counters⟩
  case admitted =>
    intro s r m mode x h hm hu hx
    refine ⟨fun ho => ?_, fun ha => ⟨?_, ?_⟩⟩
    · have ha : mode.toNat ≤ 4 := ho.elim (fun h3 => Nat.le_succ_of_le h3) fun ⟨h4, _⟩ => by rw [h4]; decide
      have source (h4 : mode.toNat = 4) : s.img.mfAuto m.toNat = true := ho.elim (fun h3 => by omega) And.right
      exact ⟨_, rfl, hostOp_mfQueued h hm hu hx ha fun _ => source⟩
    · exact ⟨_, rfl, hostOp_mfQueued h hm hu hx ha fun hc => absurd hc (by decide)⟩
    · exact ⟨_, rfl, hostOp_mfQueued h hm hu hx ha fun hc => absurd hc (by decide)⟩
  case interlock =>
    intro s m
    by_cases held : s.IlkHeld m.val
    · obtain ⟨f, e, effect⟩ := execMfInterlockClear_held held
      refine ⟨_, e, rfl, fun _ => ?_, fun h => absurd held (State.not_ilkHeld h), fun k hk => rd_upd_ne _ hk.symm f⟩
      rw [show rd (s.start.updMf m.val f).prf.mf m.val = f (rd s.prf.mf m.val) from rd_upd_fin s.prf.mf m f]
      exact effect _
    · exact ⟨_, execMfInterlockClear_unheld held, rfl, fun h => absurd h held, fun _ => rfl, fun _ _ => rfl⟩
  case counters =>
    intro s r k v h hb hv
    obtain ⟨answers, keeps, e⟩ := writeOne_mfClr h hb hv rfl
    have mf := congrArg (·.prf.mf) e
    refine ⟨_, rfl, answers, keeps, ?_, fun n hn => ?_⟩
    · rw [mf]
      exact e
    · rw [mf]
      exact rd_mfsCleared_span s.prf.mf k v hn

end Sys2Proof.Machine
